-- ==== Sys2Proof/Word.lean ====
section
/-! DEFINITION. The word types of the block (spec/00_scope.md R3): bytes, 16-bit, 32-bit and 64-bit words,
and binary64 values kept as their 64 bits. -/

namespace Sys2Proof

/-- A byte. -/
abbrev Byte := BitVec 8
/-- A 16-bit half word. -/
abbrev Half := BitVec 16
/-- A 32-bit word: a register, a point value, a stamp, a frame number. -/
abbrev Word := BitVec 32
/-- A 64-bit word: a host address, a serial. -/
abbrev DWord := BitVec 64
/-- A binary64 value by its bits (spec/06 R137). -/
abbrev F64 := BitVec 64

end Sys2Proof
end

