-- ==== Sys2Proof/Types.lean ====
section
/-! DEFINITION. The types of the commands' operands and of what the block gives out. -/

namespace Sys2Proof

/-- What an Announce message carries, in the order the best master clock algorithm compares (spec/12 R312). -/
structure Announce where
  /-- priority1. -/
  prio1 : Nat
  /-- clockClass. -/
  cls : Nat
  /-- clockAccuracy. -/
  acc : Nat
  /-- offsetScaledLogVariance. -/
  var : Nat
  /-- priority2. -/
  prio2 : Nat
  /-- Grandmaster identity. -/
  ident : Nat
  /-- stepsRemoved. -/
  steps : Nat
  /-- currentUtcOffset, when currentUtcOffsetValid is set. -/
  utc : Option Int
  /-- 0 none, 1 leap61, 2 leap59. -/
  leap : Nat
  deriving DecidableEq, Repr

/-- What every PTP message carries (spec/12 R312, R314). -/
structure PtpHdr where
  /-- Transport it came by: 0 UDP over IPv4, 1 IEEE 802.3. -/
  trans : Nat
  /-- domainNumber. -/
  domain : Nat
  /-- sequenceId. -/
  seq : Nat
  deriving DecidableEq, Repr

/-- A PTP message as a port takes it (spec/12 R312, R314). Times are ns, corrections included. -/
inductive PtpMsg where
  /-- Malformed. -/
  | bad
  /-- Management, signalling or another message the part ignores. -/
  | ignored
  /-- Announce. -/
  | announce (a : Announce)
  /-- Sync of the parent: its origin time where it is one-step, and our receipt time. -/
  | sync (t1 : Option Int) (t2 : Int)
  /-- Follow_Up of the parent: the origin time of the two-step Sync of its sequence number. -/
  | followUp (t1 : Int)
  /-- Delay_Resp for our Delay_Req: t3 our sending time, t4. -/
  | delayResp (t3 t4 : Int)
  /-- Pdelay_Resp with its Follow_Up: t1 to t4. -/
  | pdelayResp (t1 t2 t3 t4 : Int)
  /-- Delay_Req from a slave: our receipt time. -/
  | delayReq (t4 : Int)
  /-- Pdelay_Req: our receipt time. -/
  | pdelayReq (t2 : Int)
  deriving DecidableEq, Repr

/-- A PTP message with its header, as PTP_MESSAGE_RX brings it (spec/12 R314). -/
structure PtpRx where
  /-- Its header. -/
  hdr : PtpHdr
  /-- The message. -/
  msg : PtpMsg
  deriving DecidableEq, Repr

/-- An edge on EXT_PPS (spec/12 R303). -/
structure PpsEdge where
  /-- The instant. -/
  t : Nat
  /-- A falling edge. -/
  falling : Bool
  deriving DecidableEq, Repr

/-- An edge at a capture input (spec/12 R317). -/
structure CapEdge where
  /-- A falling edge. -/
  falling : Bool
  /-- How long the level stayed afterwards, ns. -/
  held : Nat
  deriving DecidableEq, Repr

/-- A PTP message that the part sends: kind as messageType of the standard, transport, domain, sequence, time it
carries, and for Announce the class, accuracy, priorities, steps and UTC offset advertised. -/
structure PtpOut where
  /-- messageType. -/
  kind : Nat
  /-- 0 UDP over IPv4, 1 IEEE 802.3. -/
  trans : Nat
  /-- domainNumber. -/
  domain : Nat
  /-- sequenceId. -/
  seq : Nat
  /-- The time it carries, ns. -/
  time : Int
  /-- Announce: clockClass. -/
  cls : Nat
  /-- Announce: clockAccuracy. -/
  acc : Nat
  /-- Announce: priority1. -/
  prio1 : Nat
  /-- Announce: priority2. -/
  prio2 : Nat
  /-- Announce: stepsRemoved. -/
  steps : Nat
  /-- Announce: currentUtcOffset when known. -/
  utc : Option Nat
  deriving DecidableEq, Repr

/-- What a command descriptor carries beside its parameters (R418), and how the transfer of its
buffer went: `dma = none` when it was transferred whole, `some n` when the access and its retry
both failed after `n` bytes (R428, R429). -/
structure CmdHdr where
  /-- Command ring, 0 to 7. -/
  ring : Nat
  /-- TAG. -/
  tag : Half
  /-- CTRL bit 1, FENCE. -/
  fence : Bool
  /-- OPTS. -/
  opts : Half
  /-- ADDR. -/
  addr : DWord
  /-- LEN. -/
  len : Nat
  /-- Bytes transferred before a failed buffer access; none when it succeeded. -/
  dma : Option Nat
  deriving DecidableEq, Repr

/-- A command of the command table (R423) with its parameters. -/
inductive HostCmd where
  /-- 0x01. -/
  | nop
  /-- 0x10. -/
  | imageLoad
  /-- 0x11: target frame. -/
  | imageActivate (n : Word)
  /-- 0x12. -/
  | imageDiscard
  /-- 0x13. -/
  | imageQuery
  /-- 0x18: channel, input selected. -/
  | analogTest (channel input : Nat)
  /-- 0x19: RTCM bytes. -/
  | gnssCorrection (data : List Byte)
  /-- 0x1A: start, duration, streams, tap. -/
  | gnssSnapshot (secs ns dur streams tap : Nat)
  /-- 0x1B. -/
  | gnssQuery
  /-- 0x20: latitude, longitude, height. -/
  | gridOrigin (lat lon height : Word)
  /-- 0x21: reference, on. -/
  | refEnable (ref on : Nat)
  /-- 0x22: reference, capture, north, east. -/
  | refTarget (ref capture : Nat) (n e : Word)
  /-- 0x23: reference. -/
  | refStatus (ref : Nat)
  /-- 0x24. -/
  | estQuery
  /-- 0x28: mode, joystick compensation. -/
  | dpMode (mode joy : Nat)
  /-- 0x29: flags, turn direction, north, east, heading. -/
  | setpoint (flags turn : Nat) (n e heading : Word)
  /-- 0x2A: set. -/
  | gainSelect (set : Nat)
  /-- 0x2B: waypoints. -/
  | trackLoad (data : List Byte)
  /-- 0x2C: north, east, heading, side. -/
  | berthSet (n e heading : Word) (side : Nat)
  /-- 0x2D. -/
  | ctrlQuery
  /-- 0x30: units changed, units on. -/
  | thrusterEnable (changed on : Half)
  /-- 0x31. -/
  | allocQuery
  /-- 0x32. -/
  | conseqQuery
  /-- 0x33. -/
  | envelopeQuery
  /-- 0x38: heel, trim targets. -/
  | trimStart (heel trim : Half)
  /-- 0x39: heel, trim targets. -/
  | trimSet (heel trim : Half)
  /-- 0x3A. -/
  | trimStop
  /-- 0x3B. -/
  | trimQuery
  /-- 0x40: STEP_SEQ. -/
  | timeStepAccept (seq : Nat)
  /-- 0x41: seconds, ns, uncertainty. -/
  | timeSet (secs ns unc : Nat)
  /-- 0x42: TAI − UTC. -/
  | timeLeap (count : Nat)
  /-- 0x48. -/
  | claimResume
  /-- 0x49. -/
  | roleExchange
  /-- 0x50: inputs, remote records, outputs. -/
  | btrReset (inputs : Half) (remotes outputs : Byte)
  /-- 0x51: outputs changed, outputs on. -/
  | btrOutput (changed on : Byte)
  /-- 0x58: point, value, quality, type. -/
  | pointWrite (point : Nat) (value : Word) (quality typ : Nat)
  /-- 0x5A: stream, count, ranges. -/
  | streamSet (stream count : Nat) (data : List Byte)
  /-- 0x60: controller, flags, identifier, data. -/
  | canSend (ctl flags ident : Nat) (data : List Byte)
  /-- 0x61: controller, buffer. -/
  | canAbort (ctl buf : Nat)
  /-- 0x62: controller. -/
  | canRecover (ctl : Nat)
  /-- 0x63: controller, mode. -/
  | canMode (ctl mode : Nat)
  /-- 0x68: FIRST, COUNT (R461). -/
  | logRead (first : Word) (count : Nat)
  /-- 0x70: target, form. -/
  | memTest (target form : Nat)
  deriving DecidableEq, Repr

/-- One descriptor as the HOST item read it from host memory (R418, R419): its 64 bytes, its buffer
bytes where the command reads a buffer, and how the accesses went. -/
structure Fetch where
  /-- Command ring. -/
  ring : Nat
  /-- False when the descriptor fetch and its retry both failed (R429). -/
  fetched : Bool
  /-- The 64 bytes of the entry. -/
  bytes : List Byte
  /-- The bytes of the buffer read. -/
  data : List Byte
  /-- As in CmdHdr. -/
  dma : Option Nat
  deriving DecidableEq, Repr

/-- A network port. -/
inductive Port where
  /-- Network A. -/
  | a
  /-- Network B. -/
  | b
  /-- The maintenance port. -/
  | m
  deriving DecidableEq, Repr

/-- The kinds of access to host memory of R429. -/
inductive HostAccess where
  /-- Fetch of a descriptor of a command ring. -/
  | fetch (ring : Nat)
  /-- Read of a command's buffer. -/
  | bufRead (ring : Nat)
  /-- Write of a query's output. -/
  | outWrite (ring : Nat)
  /-- Write of an entry of a part-written ring, or of bulk data. -/
  | entry (ring : Nat)
  deriving DecidableEq, Repr

/-- How a datagram came: addresses in host order, UDP port, and whether it is an IP fragment (spec/15 R378, R380, R384). -/
structure UdpHdr where
  /-- Source address. -/
  src : Word
  /-- Destination address. -/
  dst : Word
  /-- Destination UDP port. -/
  dport : Nat
  /-- It is a fragment. -/
  frag : Bool
  deriving DecidableEq, Repr

/-- What the block gives out on its balls and links: the model's record of it, newest last. -/
inductive Out where
  /-- A write of an entry of a part-written ring (R414): ring, index, offset in the entry, bytes. -/
  | ringEntry (ring index offset : Nat) (bytes : List Byte)
  /-- Bytes written to host memory: query output or bulk data. -/
  | hostWrite (addr : DWord) (bytes : List Byte)
  /-- An MSI-X message of a vector. -/
  | msix (vector : Nat)
  /-- A UDP datagram: port, destination address (host order), UDP port, payload. -/
  | udp (port : Port) (dst : Word) (dport : Nat) (bytes : List Byte)
  /-- A Zwilux datagram: port, destination address, source and destination UDP port, time-to-live, don't-fragment bit,
  message (spec/15 R378). -/
  | zwilux (port : Port) (dst : Word) (sport dport ttl : Nat) (df : Bool) (bytes : List Byte)
  /-- A frame other than UDP on a network: port, EtherType or protocol, payload. -/
  | frame (port : Port) (proto : Nat) (bytes : List Byte)
  /-- A PTP message. -/
  | ptp (port : Port) (msg : PtpOut)
  /-- A frame over the Yarerago link: the ports it leaves by (bit 0 YLK0, bit 1 YLK1), the whole frame. -/
  | link (ports : Nat) (bytes : List Byte)
  /-- A tick marker: port, HOPS, course bits. -/
  | marker (port hops course : Nat)
  /-- A CAN frame was sent: controller, identifier, extended format, FD format, bit rate switching,
  data. -/
  | can (ctl ident : Nat) (ext fd brs : Bool) (bytes : List Byte)
  /-- Bytes sent on an IMU SPI port. -/
  | spi (port : Nat) (bytes : List Byte)
  /-- A level or pulse on a ball: ball number of the model, level. -/
  | pin (ball : Nat) (level : Bool)
  deriving DecidableEq, Repr

/-- What the identification of R450 finds on the LOG port. -/
structure LogDev where
  /-- An SFDP table of JESD216 revision B or later answers. -/
  sfdp : Bool
  /-- The density it reports, in bytes. -/
  density : Nat
  /-- It reports 4-byte addressing. -/
  fourByte : Bool
  /-- It reports fast read 1-1-4 or 1-4-4. -/
  fastRead : Bool
  /-- The page size it reports, in bytes. -/
  page : Nat
  /-- It reports a 4 KiB erase type. -/
  erase4k : Bool
  /-- JEDEC identity, command 9Fh. -/
  jedec : Nat
  /-- The first 64 bytes of the two sectors of the header region. -/
  headers : List Byte × List Byte
  /-- The slots that are not all-ones: slot number (foundation slots first), the 64 bytes. -/
  slots : List (Nat × List Byte)
  deriving DecidableEq, Repr

/-- How the read-back of a program, or an erase, or a read ended (R454, R459). -/
inductive LogEnd where
  /-- As it should. -/
  | good
  /-- The read-back differs, the memory stayed busy too long, or it reported an error. -/
  | failed
  deriving DecidableEq, Repr

/-- The parts of a firmware image that AUTH looks at (R539), and whether its signature verifies with the boot
ROM key it names. -/
structure FwImage where
  /-- The DMA read failed, and so did its retry. -/
  fetchFailed : Bool
  /-- MAGIC. -/
  magic : Word
  /-- FORMAT. -/
  format : Nat
  /-- HDR_SIZE. -/
  hdrSize : Nat
  /-- LENGTH. -/
  length : Nat
  /-- RELEASE. -/
  release : Nat
  /-- SILICON. -/
  silicon : Nat
  /-- SEC_VERSION. -/
  secVersion : Nat
  /-- KEY_INDEX. -/
  keyIndex : Nat
  /-- KEY_ID of the signature block equals that of the boot ROM key. -/
  keyIdMatch : Bool
  /-- The signature is valid under the boot ROM key. -/
  sigValid : Bool
  deriving DecidableEq, Repr

/-- Where an uncorrectable or correctable ECC error was found. -/
structure EccSite where
  /-- The word lies in the mortar memory. -/
  mortar : Bool
  /-- 64-bit word address. -/
  word : Nat
  deriving DecidableEq, Repr

/-- A transfer of the host DMA engine into the mortar memory, the read of a command buffer (spec/20 R473, R474). -/
structure MortarXfer where
  /-- Its words. -/
  words : List (BitVec 64)
  /-- The word that it has come to. -/
  reached : Nat
  deriving DecidableEq, Repr

/-- Who read a word with an uncorrectable error (R470). -/
inductive Reader where
  /-- A pair's work item, by item code. -/
  | item (code : Nat)
  /-- A lane of the array. -/
  | lane (n : Nat)
  /-- A DMA engine or the scrubber. -/
  | other
  deriving DecidableEq, Repr

/-- An error of a transmit attempt: CODE of CAN_LAST_ERR, in the data phase, after the arbitration field; a dominant bit
during a passive error flag; how many bit errors in the active flag or groups of dominant bits followed (spec/16 R399). -/
structure CanFault where
  /-- CODE. -/
  code : Nat
  /-- In the data phase. -/
  dataPhase : Bool
  /-- After the arbitration field. -/
  afterArb : Bool
  /-- A dominant bit was seen during a passive flag. -/
  dominant : Bool
  /-- Further errors of the flag. -/
  extra : Nat
  deriving DecidableEq, Repr

/-- How a transmit attempt of a CAN controller ended (spec/16 R399, R402). -/
inductive CanEnd where
  /-- The frame was sent; the transmitter delay measured in it, in data time quanta. -/
  | sent (tdc : Nat)
  /-- An error. -/
  | error (fault : CanFault)
  /-- Arbitration lost. -/
  | lost
  deriving DecidableEq, Repr

/-- The header of a link frame as a port receives it (spec/23 R520): its TYPE is that of the command, its LENGTH that
of the payload. -/
structure LinkHdr where
  /-- The port, 0 or 1. -/
  port : Nat
  /-- SRC. -/
  src : Nat
  /-- DST. -/
  dst : Nat
  /-- HOPS. -/
  hops : Nat
  /-- SEQ. -/
  seq : Word
  /-- FRAME. -/
  frame : Word
  /-- 0: the CRC is good; 1: it fails; 2: it is the inverse of the good one, as an earlier member left it. -/
  crc : Nat
  deriving DecidableEq, Repr

/-- The end of a memory test (spec/20 R479). -/
structure MemTestEnd where
  /-- The number of failing words. -/
  failing : Nat
  /-- The banks with a failing word, of a test of all. -/
  banks : List Nat
  deriving DecidableEq, Repr

/-- How a problem that a work item waits for ends on its lane (spec/09 R231, R256). -/
structure OwnEnd where
  /-- Not released in time. -/
  late : Bool
  /-- Ended by an uncorrectable error of the lane's memory. -/
  fault : Bool
  /-- Single-bit errors of the lane's memory corrected on the way. -/
  ecc : Nat
  deriving DecidableEq, Repr

/-- Released in time, without an error. -/
def OwnEnd.inTime : OwnEnd := { late := false, fault := false, ecc := 0 }

/-- A lane at the end of its problem (spec/09 R231, R256). -/
structure LaneEnd where
  /-- The lane. -/
  lane : Nat
  /-- Single-bit errors of its memory corrected on the way. -/
  ecc : Nat
  deriving DecidableEq, Repr

/-- A run of POST_POINTS (spec/15 R372). -/
structure PostRun where
  /-- The instant at which it ends. -/
  t : Nat
  /-- The records that it has written by then. -/
  count : Nat
  deriving DecidableEq, Repr

/-- A turn of the bulk writer (spec/17 R428, spec/19 R462). -/
structure BulkPiece where
  /-- The instant. -/
  t : Nat
  /-- How the read of the log memory ended, where the piece is of a log read. -/
  read : LogEnd
  deriving DecidableEq, Repr

/-! ## GNSS observations -/

/-- What a tracking channel latched at an epoch (spec/05 R115, R117, R118), before the part's own corrections and checks. -/
structure GnsObs where
  /-- Antenna, 0 or 1. -/
  ant : Nat
  /-- Channel, 0 to 63. -/
  chan : Nat
  /-- Signal code. -/
  signal : Nat
  /-- Satellite number. -/
  sv : Nat
  /-- Transmit time t_tx of the code phase, 2⁻⁴⁸ s of the signal's system time, counted from device time's epoch. -/
  tx : Int
  /-- Accumulated carrier phase, 2⁻³² cycle. -/
  phase : Int
  /-- Doppler, 2⁻¹⁰ Hz. -/
  doppler : Int
  /-- Carrier-to-noise density, 0.01 dB-Hz. -/
  cn0 : Nat
  /-- Code valid. -/
  code : Bool
  /-- Device time at which the present phase lock was declared, ns; none without lock. -/
  locked : Option Int
  /-- Bit synchronisation reached. -/
  sync : Bool
  /-- The data preamble has resolved the half cycle. -/
  half : Bool
  /-- Doppler valid. -/
  dopOk : Bool
  /-- Elevation, 0.01°. -/
  elev : Int
  /-- Azimuth, 0.01°. -/
  azim : Nat
  /-- Code standard deviation, mm. -/
  stdCode : Nat
  /-- Phase standard deviation, 0.001 cycle. -/
  stdPhase : Nat
  /-- SBAS correction of the code and of the phase in range, 2⁻¹⁶ m, when one is current. -/
  sbas : Option Int
  deriving DecidableEq, Repr

/-- A standalone solution of one antenna (spec/05, spec/17 R425). -/
structure GnsSol where
  /-- Latitude, binary angle. -/
  lat : Word
  /-- Longitude. -/
  lon : Word
  /-- Height, mm. -/
  height : Word
  /-- Device time less GNSS time, ns. -/
  clock : Int
  /-- Satellites used. -/
  sats : Nat
  /-- PDOP, 0.01. -/
  pdop : Nat
  /-- RAIM: 0 passed, 1 fault found and excluded, 2 not available. -/
  raim : Nat
  /-- TAI − UTC by the navigation data. -/
  leap : Option Int
  /-- The leap second that the navigation data announce for the end of the UTC day: 0 none, 1 one more, 2 one less. -/
  ann : Nat
  deriving DecidableEq, Repr

/-- What the integer least-squares search of an epoch found, under the constraint of the baseline (spec/05 R118, R120). -/
structure GnsHeading where
  /-- Channel, its integer in the best and in the second-best vector, cycles; only differences within a band count. -/
  search : List (Nat × Int × Int)
  /-- Baseline of the float solution: north, east, down, 2⁻¹⁶ m. -/
  float : List Int
  /-- Heading standard deviation. -/
  headStd : Word
  /-- Pitch standard deviation. -/
  pitchStd : Word
  deriving DecidableEq, Repr

/-- A satellite that the assignment may choose (spec/05 R110). -/
structure SatCand where
  /-- 0 GPS, 1 Galileo, 2 BeiDou, 3 SBAS. -/
  sys : Nat
  /-- Satellite number. -/
  sv : Nat
  /-- Healthy by its navigation data or almanac. -/
  healthy : Bool
  /-- Elevation, 0.01°; none without an almanac. -/
  elev : Option Int
  /-- It broadcasts an upper-band signal. -/
  upper : Bool
  /-- It broadcasts L1C. -/
  l1c : Bool
  deriving DecidableEq, Repr

end Sys2Proof
end

