-- ==== Sys2Proof/Blocks.lean ====
section
/-! DEFINITION. The state of each part of the block as plain data, every piece under the rule of spec/ that names it,
and its contents right after reset. -/

namespace Sys2Proof.Machine
open Sys2Proof

/-- An occurrence counter (R8): a 16-bit count that sticks at all-ones, and its overflow flag. -/
structure Occ where
  /-- The count. -/
  count : BitVec 16
  /-- The overflow flag. -/
  ovf : Bool
  deriving DecidableEq, Repr

/-- A cleared occurrence counter. -/
def Occ.zero : Occ := { count := 0, ovf := false }

/-- Block 2 of the critical state: what seeds the estimator after a save (spec/22 R506). -/
structure EstSeed where
  /-- mean of filter 0; 22 R506. -/
  mean : List F64
  /-- roll; 22 R506. -/
  roll : F64
  /-- pitch; 22 R506. -/
  pitch : F64
  /-- quoin entry of the IMU in use; 22 R506. -/
  imu : Option Nat
  deriving DecidableEq, Repr

/-- An entry of the warm-start store (spec/09 R249). -/
structure WarmEntry where
  /-- stream; 09 R249. -/
  stream : Nat
  /-- template; 09 R249. -/
  template : Nat
  /-- generation of the template; 09 R249. -/
  gen : Nat
  /-- structure signature; 09 R249. -/
  sig : Word
  /-- identity tags; 09 R249. -/
  tags : List Half
  /-- constraint keys, kind byte low, unit byte high; 09 R249. -/
  keys : List Half
  /-- solution; 09 R249. -/
  x : List Int
  /-- working set; 09 R249. -/
  work : List Nat
  deriving DecidableEq, Repr

/-- Block 4 of the critical state: what seeds acquisition (spec/22 R506). -/
structure GnsSeed where
  /-- ephemerides and almanacs; 22 R506. -/
  eph : List (Nat × List Byte)
  /-- ionosphere parameters; 22 R506. -/
  iono : List Byte
  /-- last standalone position; 22 R506. -/
  pos : Option (Word × Word × Word)
  deriving DecidableEq, Repr

/-- The reset contents of `GnsSeed`. -/
def GnsSeed.reset : GnsSeed :=
  { eph := [],
    iono := [],
    pos := none }

/-- Block 6 of the critical state (spec/22 R506, R509). -/
structure DpReport where
  /-- DP mode; 22 R509. -/
  mode : Nat
  /-- role; 22 R509. -/
  role : Nat
  /-- setpoint and desired point; 22 R506. -/
  setpoint : List Int
  /-- gain set; 22 R506. -/
  gainSet : Nat
  deriving DecidableEq, Repr

/-- The configuration registers that keep what the host writes. -/
inductive CfgReg where
  /-- GLB_SCRATCH, offset 0x001C (spec/25 R552). -/
  | glbScratch
  /-- GLB_EDGE, offset 0x0110 (spec/21 R497). -/
  | glbEdge
  /-- GLB_SEC_CFG, offset 0x0210 (spec/24 R546). -/
  | secCfg
  /-- EVT_CFG, offset 0x3000 (spec/18 R448). -/
  | evtCfg
  /-- EVT_MASK0, offset 0x300C (spec/18 R448). -/
  | evtMask0
  /-- EVT_MASK1, offset 0x3010 (spec/18 R448). -/
  | evtMask1
  /-- EVT_MASK2, offset 0x3014 (spec/18 R448). -/
  | evtMask2
  /-- EVT_MASK3, offset 0x3018 (spec/18 R448). -/
  | evtMask3
  /-- MEM_CFG, offset 0x5000 (spec/20 R481). -/
  | memCfg
  /-- TIM_CFG, offset 0x6000 (spec/12 R320). -/
  | timCfg
  /-- TIM_SERVO, offset 0x6004 (spec/12 R320). -/
  | timServo
  /-- TIM_STEP, offset 0x6008 (spec/12 R320). -/
  | timStep
  /-- TIM_HOLD, offset 0x600C (spec/12 R320). -/
  | timHold
  /-- TIM_PPS, offset 0x6010 (spec/12 R320). -/
  | timPps
  /-- TIM_EXT, offset 0x6014 (spec/12 R320). -/
  | timExt
  /-- TIM_PTP_CFG, offset 0x6018 (spec/12 R320). -/
  | timPtpCfg
  /-- TIM_PTP_RATE, offset 0x601C (spec/12 R320). -/
  | timPtpRate
  /-- TIM_ASYM_A, offset 0x6020 (spec/12 R320). -/
  | timAsymA
  /-- TIM_ASYM_B, offset 0x6024 (spec/12 R320). -/
  | timAsymB
  /-- TIM_CAP_CFG, offset 0x6028 (spec/12 R320). -/
  | timCapCfg
  /-- GNS_CFG, offset 0x7000 (spec/05 R132). -/
  | gnsCfg
  /-- GNS_LOOP, offset 0x7004 (spec/05 R132). -/
  | gnsLoop
  /-- GNS_ANT, offset 0x7008 (spec/05 R132). -/
  | gnsAnt
  /-- GNS_CABLE0, offset 0x700C (spec/05 R132). -/
  | gnsCable0
  /-- GNS_CABLE1, offset 0x7010 (spec/05 R132). -/
  | gnsCable1
  /-- GNS_NOTCH, offset 0x7014 (spec/05 R132). -/
  | gnsNotch
  /-- GNS_CHECK, offset 0x7018 (spec/05 R132). -/
  | gnsCheck
  /-- GNS_LIMITS, offset 0x701C (spec/05 R132). -/
  | gnsLimits
  /-- SNI_CFG, offset 0x8000 (spec/04 R103). -/
  | sniCfg
  /-- VSL_CFG, offset 0x9000 (spec/09 R260). -/
  | vslCfg
  /-- NET_CFG, offset 0xA004 (spec/15 R390). -/
  | netCfg
  /-- CAN_CFG of CAN0, offset 0xB014 (spec/16 R410). -/
  | canCfg0
  /-- CAN_CFG of CAN1, offset 0xB414 (spec/16 R410). -/
  | canCfg1
  /-- CAN_CFG of CAN2, offset 0xB814 (spec/16 R410). -/
  | canCfg2
  /-- RDN_CFG, offset 0xD000 (spec/13 R345). -/
  | rdnCfg
  /-- RDN_EXCH, offset 0xD004 (spec/13 R345). -/
  | rdnExch
  /-- YLK_CFG, offset 0xD800 (spec/23 R534). -/
  | ylkCfg
  /-- PWR_CFG, offset 0xE000 (spec/22 R517). -/
  | pwrCfg
  /-- PWR_FW_ADDR_LO, offset 0xE01C (spec/22 R517). -/
  | pwrFwAddrLo
  /-- PWR_FW_ADDR_HI, offset 0xE020 (spec/22 R517). -/
  | pwrFwAddrHi
  /-- PWR_FW_LEN, offset 0xE024 (spec/22 R517). -/
  | pwrFwLen
  /-- LOG_CFG, offset 0xF000 (spec/19 R464). -/
  | logCfg
  deriving DecidableEq, Repr

/-- The place of a configuration register in the register vectors. -/
def CfgReg.idx : CfgReg → Fin 42
  | .glbScratch => 0
  | .glbEdge => 1
  | .secCfg => 2
  | .evtCfg => 3
  | .evtMask0 => 4
  | .evtMask1 => 5
  | .evtMask2 => 6
  | .evtMask3 => 7
  | .memCfg => 8
  | .timCfg => 9
  | .timServo => 10
  | .timStep => 11
  | .timHold => 12
  | .timPps => 13
  | .timExt => 14
  | .timPtpCfg => 15
  | .timPtpRate => 16
  | .timAsymA => 17
  | .timAsymB => 18
  | .timCapCfg => 19
  | .gnsCfg => 20
  | .gnsLoop => 21
  | .gnsAnt => 22
  | .gnsCable0 => 23
  | .gnsCable1 => 24
  | .gnsNotch => 25
  | .gnsCheck => 26
  | .gnsLimits => 27
  | .sniCfg => 28
  | .vslCfg => 29
  | .netCfg => 30
  | .canCfg0 => 31
  | .canCfg1 => 32
  | .canCfg2 => 33
  | .rdnCfg => 34
  | .rdnExch => 35
  | .ylkCfg => 36
  | .pwrCfg => 37
  | .pwrFwAddrLo => 38
  | .pwrFwAddrHi => 39
  | .pwrFwLen => 40
  | .logCfg => 41

/-- The reset values of the configuration registers (spec/25 R559). -/
def cfgReset : Vector Word 42 :=
  #v[0x0#32, 0x3A9#32, 0x0#32, 0x327FDD#32, 0x0#32, 0x0#32, 0x0#32, 0x0#32, 0x100118#32, 0x6150D1#32, 0x79903C#32, 0x6400064#32, 0x12C02814#32, 0x190#32, 0x0#32, 0x80800000#32, 0x73010#32, 0x0#32, 0x0#32, 0x4444#32, 0x12801F#32, 0x72A#32, 0x1E1E5#32, 0x0#32, 0x0#32, 0x59#32, 0x387828FF#32, 0x78A3C12C#32, 0x0#32, 0xE03E8#32, 0x2#32, 0xB0#32, 0xB0#32, 0xB0#32, 0x7D3E80#32, 0x30#32, 0x600#32, 0x1618#32, 0x0#32, 0x0#32, 0x0#32, 0x119#32]

/-- The block locks, in the bit order of GLB_LOCKMAP (spec/25 R552). -/
inductive LockId where
  /-- Lock register at 0x0014. -/
  | glb
  /-- Lock register at 0x8004. -/
  | sni
  /-- Lock register at 0x7020. -/
  | gns
  /-- Lock register at 0x9004. -/
  | vsl
  /-- Lock register at 0x602C. -/
  | tim
  /-- Lock register at 0xD008. -/
  | rdn
  /-- Lock register at 0xD804. -/
  | ylk
  /-- Lock register at 0xA008. -/
  | net
  /-- Lock register at 0xB018. -/
  | can0
  /-- Lock register at 0xB418. -/
  | can1
  /-- Lock register at 0xB818. -/
  | can2
  /-- Lock register at 0x3004. -/
  | evt
  /-- Lock register at 0x5004. -/
  | mem
  /-- Lock register at 0xE004. -/
  | pwr
  /-- Lock register at 0xF004. -/
  | log
  deriving DecidableEq, Repr

/-- The bit of a lock in GLB_LOCKMAP. -/
def LockId.idx : LockId → Fin 15
  | .glb => 0
  | .sni => 1
  | .gns => 2
  | .vsl => 3
  | .tim => 4
  | .rdn => 5
  | .ylk => 6
  | .net => 7
  | .can0 => 8
  | .can1 => 9
  | .can2 => 10
  | .evt => 11
  | .mem => 12
  | .pwr => 13
  | .log => 14

/-- The occurrence counters that a register shows on its own (R8). -/
inductive Ctr where
  /-- GLB_CFG_DENIED, offset 0x0020. -/
  | cfgDenied
  /-- GLB_BAD_ACCESS, offset 0x0024. -/
  | badAccess
  /-- GLB_XTIMEOUT, offset 0x0118. -/
  | xTimeout
  /-- GLB_XRESET, offset 0x011C. -/
  | xReset
  /-- GLB_XDISC, offset 0x0120. -/
  | xDisc
  /-- GLB_RST_REFUSED, offset 0x0124. -/
  | rstRefused
  /-- HRG_FETCH_ERR, offset 0x2028. -/
  | fetchErr
  /-- HRG_WRITE_ERR, offset 0x202C. -/
  | writeErr
  /-- HRG_DBL_ERR, offset 0x2030. -/
  | dblErr
  /-- HRG_HALTS, offset 0x2034. -/
  | halts
  /-- EVT_DROP_WARN, offset 0x3020. -/
  | dropWarn
  /-- EVT_DROP_NOTICE, offset 0x3024. -/
  | dropNotice
  /-- EVT_COALESCED, offset 0x3028. -/
  | coalesced
  /-- EVT_STAGE_COAL, offset 0x302C. -/
  | stageColl
  /-- CRS_MISS_CTRL, offset 0x4014. -/
  | missCtrl
  /-- CRS_MISS_ANA, offset 0x4018. -/
  | missAna
  /-- CRS_MISS_SVC, offset 0x401C. -/
  | missSvc
  /-- CRS_LATE_TICK, offset 0x4028. -/
  | lateTick
  /-- MEM_ECC_CE, offset 0x5030. -/
  | eccCe
  /-- MEM_ECC_UE, offset 0x5034. -/
  | eccUe
  /-- MEM_OWN_ERR, offset 0x5038. -/
  | ownErr
  /-- MEM_COLL, offset 0x503C. -/
  | coll
  /-- MEM_SLICE_ABORT, offset 0x5040. -/
  | sliceAbort
  /-- MEM_WAKE, offset 0x5044. -/
  | wake
  /-- TIM_SRC_LOSS, offset 0x607C. -/
  | srcLoss
  /-- TIM_REFUSED, offset 0x6080. -/
  | timRefused
  /-- TIM_PTP_ERR, offset 0x6084. -/
  | ptpErr
  /-- TIM_CAP_LOST, offset 0x6088. -/
  | capLost
  /-- GNS_SLIP, offset 0x7038. -/
  | slip
  /-- GNS_CORR_ERR, offset 0x703C. -/
  | corrErr
  /-- GNS_EXCL, offset 0x7040. -/
  | excl
  /-- SNI_DROP, offset 0x8020. -/
  | sniDrop
  /-- VSL_BUDGET, offset 0x9020. -/
  | vslBudget
  /-- VSL_SINGULAR, offset 0x9024. -/
  | vslSingular
  /-- VSL_OVERFLOW, offset 0x9028. -/
  | vslOverflow
  /-- VSL_RESIDUAL, offset 0x902C. -/
  | vslResidual
  /-- VSL_LATE, offset 0x9030. -/
  | vslLate
  /-- VSL_EXPIRED, offset 0x9034. -/
  | vslExpired
  /-- VSL_EVICT, offset 0x9038. -/
  | vslEvict
  /-- VSL_RIDGE, offset 0x903C. -/
  | vslRidge
  /-- VSL_ECC, offset 0x9040. -/
  | vslEcc
  /-- VSL_KAT_FAIL, offset 0x9044. -/
  | vslKatFail
  /-- NET_RX_ERR, offset 0xA00C. -/
  | netRxErr
  /-- NET_TX_FAIL, offset 0xA010. -/
  | netTxFail
  /-- PNT_OLD, offset 0xA014. -/
  | pntOld
  /-- PNT_REFUSED, offset 0xA018. -/
  | pntRefused
  /-- PNT_STREAM_DROP, offset 0xA01C. -/
  | streamDrop
  /-- CAN_ERR of CAN0, offset 0xB01C. -/
  | can0Err
  /-- CAN_BUSOFF of CAN0, offset 0xB020. -/
  | can0Busoff
  /-- CAN_CLASH of CAN0, offset 0xB024. -/
  | can0Clash
  /-- CAN_TX_FAIL of CAN0, offset 0xB028. -/
  | can0TxFail
  /-- CAN_RX_LOST of CAN0, offset 0xB02C. -/
  | can0RxLost
  /-- CAN_REASM of CAN0, offset 0xB030. -/
  | can0Reasm
  /-- CAN_ERR of CAN1, offset 0xB41C. -/
  | can1Err
  /-- CAN_BUSOFF of CAN1, offset 0xB420. -/
  | can1Busoff
  /-- CAN_CLASH of CAN1, offset 0xB424. -/
  | can1Clash
  /-- CAN_TX_FAIL of CAN1, offset 0xB428. -/
  | can1TxFail
  /-- CAN_RX_LOST of CAN1, offset 0xB42C. -/
  | can1RxLost
  /-- CAN_REASM of CAN1, offset 0xB430. -/
  | can1Reasm
  /-- CAN_ERR of CAN2, offset 0xB81C. -/
  | can2Err
  /-- CAN_BUSOFF of CAN2, offset 0xB820. -/
  | can2Busoff
  /-- CAN_CLASH of CAN2, offset 0xB824. -/
  | can2Clash
  /-- CAN_TX_FAIL of CAN2, offset 0xB828. -/
  | can2TxFail
  /-- CAN_RX_LOST of CAN2, offset 0xB82C. -/
  | can2RxLost
  /-- CAN_REASM of CAN2, offset 0xB830. -/
  | can2Reasm
  /-- BTR_DISC, offset 0xC02C. -/
  | btrDisc
  /-- BTR_TEST_FAIL, offset 0xC030. -/
  | btrTestFail
  /-- BTR_PULSE_DISC, offset 0xC034. -/
  | btrPulseDisc
  /-- BTR_SF_ERR, offset 0xC038. -/
  | btrSfErr
  /-- BTR_MISS, offset 0xC03C. -/
  | btrMiss
  /-- BTR_CONFIRM_ERR, offset 0xC040. -/
  | btrConfirmErr
  /-- RDN_DIVERGE, offset 0xD020. -/
  | rdnDiverge
  /-- RDN_MSG_MISS, offset 0xD024. -/
  | rdnMsgMiss
  /-- RDN_TAKEOVER, offset 0xD028. -/
  | rdnTakeover
  /-- RDN_RELGEN, offset 0xD02C. -/
  | rdnRelgen
  /-- RDN_SYNC_FAIL, offset 0xD030. -/
  | rdnSyncFail
  /-- YLK_LINK_DOWN, offset 0xD818. -/
  | linkDown
  /-- YLK_CRC_ERR, offset 0xD81C. -/
  | crcErr
  /-- YLK_TICK_MISS, offset 0xD820. -/
  | tickMiss
  /-- YLK_TX_DROP, offset 0xD824. -/
  | txDrop
  /-- PWR_SAVES, offset 0xE034. -/
  | pwrSaves
  /-- PWR_SHORT, offset 0xE038. -/
  | pwrShort
  /-- PWR_HOLD_FAIL, offset 0xE03C. -/
  | holdFail
  /-- LOG_FAIL, offset 0xF024. -/
  | logFail
  /-- LOG_GAP, offset 0xF028. -/
  | logGap
  /-- LOG_READ_MISS, offset 0xF02C. -/
  | logReadMiss
  deriving DecidableEq, Repr

/-- The place of a counter in the counter vector. -/
def Ctr.idx : Ctr → Fin 86
  | .cfgDenied => 0
  | .badAccess => 1
  | .xTimeout => 2
  | .xReset => 3
  | .xDisc => 4
  | .rstRefused => 5
  | .fetchErr => 6
  | .writeErr => 7
  | .dblErr => 8
  | .halts => 9
  | .dropWarn => 10
  | .dropNotice => 11
  | .coalesced => 12
  | .stageColl => 13
  | .missCtrl => 14
  | .missAna => 15
  | .missSvc => 16
  | .lateTick => 17
  | .eccCe => 18
  | .eccUe => 19
  | .ownErr => 20
  | .coll => 21
  | .sliceAbort => 22
  | .wake => 23
  | .srcLoss => 24
  | .timRefused => 25
  | .ptpErr => 26
  | .capLost => 27
  | .slip => 28
  | .corrErr => 29
  | .excl => 30
  | .sniDrop => 31
  | .vslBudget => 32
  | .vslSingular => 33
  | .vslOverflow => 34
  | .vslResidual => 35
  | .vslLate => 36
  | .vslExpired => 37
  | .vslEvict => 38
  | .vslRidge => 39
  | .vslEcc => 40
  | .vslKatFail => 41
  | .netRxErr => 42
  | .netTxFail => 43
  | .pntOld => 44
  | .pntRefused => 45
  | .streamDrop => 46
  | .can0Err => 47
  | .can0Busoff => 48
  | .can0Clash => 49
  | .can0TxFail => 50
  | .can0RxLost => 51
  | .can0Reasm => 52
  | .can1Err => 53
  | .can1Busoff => 54
  | .can1Clash => 55
  | .can1TxFail => 56
  | .can1RxLost => 57
  | .can1Reasm => 58
  | .can2Err => 59
  | .can2Busoff => 60
  | .can2Clash => 61
  | .can2TxFail => 62
  | .can2RxLost => 63
  | .can2Reasm => 64
  | .btrDisc => 65
  | .btrTestFail => 66
  | .btrPulseDisc => 67
  | .btrSfErr => 68
  | .btrMiss => 69
  | .btrConfirmErr => 70
  | .rdnDiverge => 71
  | .rdnMsgMiss => 72
  | .rdnTakeover => 73
  | .rdnRelgen => 74
  | .rdnSyncFail => 75
  | .linkDown => 76
  | .crcErr => 77
  | .tickMiss => 78
  | .txDrop => 79
  | .pwrSaves => 80
  | .pwrShort => 81
  | .holdFail => 82
  | .logFail => 83
  | .logGap => 84
  | .logReadMiss => 85

/-- Device time and the tick, in ns since the last reset (spec/02 R31, spec/12 R299). -/
structure Clk where
  /-- ns of device time run since reset, steps not counted; 12 R299. -/
  now : Nat
  /-- `now` at the latest course tick; 02 R31. -/
  tickAt : Nat
  /-- device time at `now` 0, moved by steps, ns; 12 R299. -/
  base : Int
  /-- the model's counter of free values; 04 R93. -/
  free : Nat
  deriving DecidableEq, Repr

/-- The reset contents of `Clk`. -/
def Clk.reset : Clk :=
  { now := 0,
    tickAt := 0,
    base := 0,
    free := 0 }

/-- What a scheduled item last produced (R46, R47, R49). -/
structure ItemRes where
  /-- frame in which the result was last produced fresh; 02 R47. -/
  origin : Word
  /-- the result is held and marked stale; 02 R46. -/
  stale : Bool
  /-- the result came in time from a held input; 02 R49. -/
  inputStale : Bool
  deriving DecidableEq, Repr

/-- The reset contents of `ItemRes`. -/
def ItemRes.reset : ItemRes :=
  { origin := 0,
    stale := false,
    inputStale := false }

/-- Courses, frames and the course table (spec/02). -/
structure Crs where
  /-- CRS_STATUS.FRAME_LEN, the active L, 0 until the first table; 02 R56. -/
  frameLen : Nat
  /-- CRS_STATUS.TICK_SRC; 02 R56 R35. -/
  tickSrc : Nat
  /-- CRS_STATUS.SLEWING; 02 R34. -/
  slewing : Bool
  /-- CRS_STATUS.GAVE_UP; 02 R51. -/
  gaveUp : Bool
  /-- CRS_FRAME_NUM; 02 R38. -/
  frame : Word
  /-- course within the frame; 02 R38. -/
  course : Nat
  /-- CRS_COURSE_CNT; 02 R38. -/
  courseCnt : Nat
  /-- CRS_PHASE, offset of the tick from the whole millisecond; 02 R34. -/
  phase : Int
  /-- CRS_LAST_MISS.ITEM; 02 R56. -/
  lastItem : Nat
  /-- CRS_LAST_MISS.COURSE; 02 R56. -/
  lastCourse : Nat
  /-- CRS_LAST_MISS.FRAME_LO; 02 R56. -/
  lastFrame : BitVec 16
  /-- CRS_STREAK, streaks of ALIGN, ESTIMATE, VOTE, LAW, DISPATCH, RELEASE, DIGEST, KEYSTONE; 02 R50. -/
  streak : Vector Nat 8
  /-- the course table; 02 R40. -/
  table : List (Word × Word)
  /-- CRS_TBL_GEN; 02 R40. -/
  tblGen : BitVec 16
  /-- CRS_TBL_INDEX.INDEX; 02 R57. -/
  tblIndex : Nat
  /-- CRS_TBL_INDEX.GEN; 02 R57. -/
  tblLatchGen : BitVec 16
  /-- CRS_TBL_WORD0; 02 R57. -/
  tblWord0 : Word
  /-- CRS_TBL_WORD1; 02 R57. -/
  tblWord1 : Word
  /-- frames since the table took effect; 02 R42. -/
  tableFrames : Nat
  /-- the first course tick has been made; 02 R33. -/
  started : Bool
  /-- results by item code; 02 R46. -/
  items : Vector ItemRes 43
  /-- items that have finished, or have been stopped, in the present frame; 02 R46. -/
  doneItems : List Nat
  /-- a control item has missed in the present frame; 13 R324. -/
  ctrlMiss : Bool
  /-- service items whose miss has been counted in the present course or frame; 02 R49. -/
  missed : List Nat
  /-- device time T of the frame ticks, newest first; 01 R18 R161. -/
  tickTimes : List (Word × Int)
  deriving DecidableEq, Repr

/-- The reset contents of `Crs`. -/
def Crs.reset : Crs :=
  { frameLen := 0,
    tickSrc := 0,
    slewing := false,
    gaveUp := false,
    frame := 0,
    course := 0,
    courseCnt := 0,
    phase := 0,
    lastItem := 0,
    lastCourse := 0,
    lastFrame := 0,
    streak := Vector.replicate 8 0,
    table := [],
    tblGen := 0,
    tblIndex := 0,
    tblLatchGen := 0,
    tblWord0 := 0,
    tblWord1 := 0,
    tableFrames := 0,
    started := false,
    items := Vector.replicate 43 ItemRes.reset,
    doneItems := [],
    ctrlMiss := false,
    missed := [],
    tickTimes := [] }

/-- Severity classes (R436). -/
inductive Sev where
  /-- ALARM, code 0. -/
  | alarm
  /-- WARNING, code 1. -/
  | warning
  /-- NOTICE, code 2. -/
  | notice
  deriving DecidableEq, Repr

/-- A raised event (R437, R438, R439). -/
structure Event where
  /-- SOURCE; 18 R438. -/
  src : Nat
  /-- CLASS; 18 R436. -/
  sev : Sev
  /-- CODE: qualifier, cause, INDEX; 18 R439. -/
  code : Word
  /-- stamp of the raise; 18 R437. -/
  stamp : Word
  /-- frame of the raise; 18 R437. -/
  frame : Word
  /-- full device time of the raise, ns; 19 R455. -/
  time : Int
  /-- W0 onward; 18 R439. -/
  vals : List Word
  deriving DecidableEq, Repr

/-- One entry of the delivery queue (R438 to R442). -/
structure QEntry where
  /-- the first event the entry holds; 18 R438. -/
  ev : Event
  /-- LAST_STAMP; 18 R438. -/
  last : Word
  /-- COUNT, sticks; 18 R438. -/
  count : BitVec 16
  /-- COALESCED; 18 R441. -/
  coalesced : Bool
  /-- DROPPED, sticks; 18 R438. -/
  dropped : BitVec 16
  /-- the entry is an alarm overflow entry; 18 R442. -/
  atOver : Bool
  deriving DecidableEq, Repr

/-- One entry of the recorder's staging FIFO, or a coalescing slot (R447). -/
structure SEntry where
  /-- the first event; 18 R447. -/
  ev : Event
  /-- latest stamp; 18 R447. -/
  last : Word
  /-- events held, sticks; 18 R447. -/
  count : BitVec 16
  deriving DecidableEq, Repr

/-- Events and their delivery (spec/18). -/
structure Evt where
  /-- the delivery queue, oldest first; 18 R440. -/
  queue : List QEntry
  /-- drops since the previous entry was queued, sticks; 18 R443. -/
  pendDrops : BitVec 16
  /-- SEQ of the next entry written; 18 R438 R446. -/
  seq : Word
  /-- EVT_STATUS.PEAK; 18 R448. -/
  peak : Nat
  /-- EVT_DROPPED0 to EVT_DROPPED3; 18 R448. -/
  droppedBits : Vector Word 4
  /-- the staging FIFO; 18 R447. -/
  staging : List SEntry
  /-- occupied coalescing slots; 18 R447. -/
  slots : List SEntry
  /-- time of the latest moderated event message; 18 R445. -/
  lastMsg : Option Nat
  /-- class of a message held back by moderation; 18 R445. -/
  msgDue : Option Sev
  deriving DecidableEq, Repr

/-- The reset contents of `Evt`. -/
def Evt.reset : Evt :=
  { queue := [],
    pendDrops := 0,
    seq := 0,
    peak := 0,
    droppedBits := Vector.replicate 4 0,
    staging := [],
    slots := [],
    lastMsg := none,
    msgDue := none }

/-- How a command ended (R421, R422). -/
structure Cpl where
  /-- STATUS; 17 R422. -/
  status : Nat
  /-- RESULT; 17 R421. -/
  result : Word
  /-- frame in which it took effect, was refused or ended; 17 R421. -/
  frame : Word
  deriving DecidableEq, Repr

/-- A descriptor fetched and not yet completed (R420). -/
structure Outst where
  /-- number of the descriptor since reset, by which later commands name it; 17 R420. -/
  ref : Nat
  /-- CODE; 17 R421. -/
  code : Nat
  /-- TAG; 17 R421. -/
  tag : Half
  /-- entry index of the descriptor; 17 R421. -/
  index : Nat
  /-- ACCEPT_FRAME, 0 when not accepted; 17 R421. -/
  acceptFrame : Word
  /-- it passed the five checks; 17 R419. -/
  accepted : Bool
  /-- the command and its 64 bytes while it waits on FENCE; 17 R419. -/
  fenced : Option (CmdHdr × HostCmd × List Byte)
  /-- its end, while its completion waits; 17 R421. -/
  done : Option Cpl
  deriving DecidableEq, Repr

/-- STATE of a ring (R434). -/
inductive RingState where
  /-- 0. -/
  | disabled
  /-- 1. -/
  | running
  /-- 2. -/
  | halted
  /-- 3. -/
  | resetting
  deriving DecidableEq, Repr

/-- A command accepted and waiting for the next frame tick (R23), or for the pair (R335). -/
structure Waiting where
  /-- Command ring. -/
  ring : Nat
  /-- Number of the descriptor. -/
  ref : Nat
  /-- The command. -/
  cmd : HostCmd
  /-- Its header. -/
  hdr : CmdHdr
  /-- Device time of acceptance, ns. -/
  time : Int
  /-- Frame at whose tick it takes effect. -/
  due : Word
  /-- The descriptor as submitted, 64 bytes. -/
  desc : List Byte
  deriving DecidableEq, Repr

/-- A bulk transfer (R428). -/
structure Xfer where
  /-- KIND: 1 GNSS snapshot, 2 log records. -/
  kind : Nat
  /-- TAG of its command. -/
  tag : Half
  /-- XFER. -/
  xfer : Word
  /-- The bytes that remain to be written. -/
  rest : List Byte
  /-- Byte position of the next piece. -/
  pos : Nat
  /-- The transfer ended early. -/
  error : Bool
  deriving DecidableEq, Repr

/-- One ring (R413, R434). -/
structure Ring where
  /-- HRG_BASE_LO; 17 R434. -/
  baseLo : Word
  /-- HRG_BASE_HI; 17 R434. -/
  baseHi : Word
  /-- HRG_RCFG; 17 R434. -/
  rcfg : Word
  /-- HRG_RCTL.EN; 17 R434. -/
  en : Bool
  /-- HRG_RSTAT.STATE; 17 R434. -/
  state : RingState
  /-- HRG_RSTAT.PART_POS; 17 R434. -/
  partPos : Nat
  /-- HRG_RSTAT.HOST_POS; 17 R434. -/
  hostPos : Nat
  /-- descriptors fetched and not completed, oldest first; 17 R420. -/
  outst : List Outst
  /-- time of the latest message; 17 R427. -/
  lastMsg : Option Nat
  /-- a message waits for the end of MOD; 17 R427. -/
  msgDue : Bool
  /-- an access of this ring waits for its retry; 17 R429. -/
  retry : Bool
  /-- the latest entry written, without its phase bit; 17 R429. -/
  last : Option (List Byte)
  /-- entries held over a halt, without their phase bits; 17 R431. -/
  held : List (List Byte)
  /-- time since when the descriptor at the position mismatched its phase; 17 R419. -/
  phaseWait : Option Nat
  deriving DecidableEq, Repr

/-- The reset contents of `Ring`. -/
def Ring.reset : Ring :=
  { baseLo := 0,
    baseHi := 0,
    rcfg := 4#32,
    en := false,
    state := .disabled,
    partPos := 0,
    hostPos := 0,
    outst := [],
    lastMsg := none,
    msgDue := false,
    retry := false,
    last := none,
    held := [],
    phaseWait := none }

/-- Rings, doorbells and the host interface (spec/17). -/
structure Hrg where
  /-- the rings by number; 17 R413. -/
  rings : Vector Ring 22
  /-- HRG_SEL; 17 R434. -/
  sel : Nat
  /-- HRG_BULK_LO; 17 R434. -/
  bulkLo : Word
  /-- HRG_BULK_HI; 17 R434. -/
  bulkHi : Word
  /-- HRG_BULK_SIZE.PAGES; 17 R434. -/
  bulkPages : Nat
  /-- number of the next descriptor; 17 R420. -/
  nextRef : Nat
  /-- command ring whose turn is next; 17 R419. -/
  turn : Nat
  /-- accepted commands that wait for their frame tick, in order of acceptance; 17 R419. -/
  waiting : List Waiting
  /-- failed accesses waiting for their retry; 17 R429. -/
  accessRetry : List HostAccess
  /-- bulk transfers in order; 17 R428. -/
  xfers : List Xfer
  /-- number of the next transfer; 17 R428. -/
  nextXfer : Word
  /-- next free offset in the bulk area; 17 R428. -/
  bulkOff : Nat
  /-- pieces (position on the bulk ring, bytes) still held by the host; 17 R428. -/
  bulkUsed : List (Nat × Nat)
  /-- the transfer at the head as it stood before its latest piece; 17 R430. -/
  pieceBack : Option Xfer
  /-- the PCI Express link is up; 17 R433. -/
  linkUp : Bool
  /-- MSI-X table, address low; 17 R411. -/
  msixAddrLo : Vector Word 32
  /-- MSI-X table, address high; 17 R411. -/
  msixAddrHi : Vector Word 32
  /-- MSI-X table, data; 17 R411. -/
  msixData : Vector Word 32
  /-- MSI-X table, vector mask bits; 17 R411. -/
  msixMask : Word
  /-- pending-bit array; 17 R411. -/
  msixPba : Word
  /-- a host interface reset that waits on the stopped PCIe clock, by its kind; 17 R412 R487. -/
  resetDue : Option Nat
  deriving DecidableEq, Repr

/-- The reset contents of `Hrg`. -/
def Hrg.reset : Hrg :=
  { rings := Vector.replicate 22 Ring.reset,
    sel := 0,
    bulkLo := 0,
    bulkHi := 0,
    bulkPages := 64,
    nextRef := 0,
    turn := 0,
    waiting := [],
    accessRetry := [],
    xfers := [],
    nextXfer := 0,
    bulkOff := 0,
    bulkUsed := [],
    pieceBack := none,
    linkUp := false,
    msixAddrLo := Vector.replicate 32 0,
    msixAddrHi := Vector.replicate 32 0,
    msixData := Vector.replicate 32 0,
    msixMask := 0xFFFFFFFF#32,
    msixPba := 0,
    resetDue := none }

/-- The staging slot (R67). -/
inductive Slot where
  /-- EMPTY. -/
  | empty
  /-- LOADING. -/
  | loading
  /-- VERIFIED. -/
  | verified
  /-- REFUSED, with the result word of R68. -/
  | refused (word : Nat)
  /-- PENDING, with its target frame. -/
  | pending (n : Word)
  deriving DecidableEq, Repr

/-- The vessel model image (spec/03). -/
structure Img where
  /-- the image in effect; 03 R70 R74. -/
  active : Option (List Byte)
  /-- change class of its activation: 0 cold, 1 warm, 2 hot; 17 R425. -/
  activeClass : Nat
  /-- the staging slot; 03 R67. -/
  slot : Slot
  /-- its content; 03 R67. -/
  staged : List Byte
  /-- the IMAGE_LOAD in progress; 03 R67. -/
  load : Option Waiting
  /-- IMAGE_DISCARDs that wait for the stop; 03 R67. -/
  discard : List Waiting
  /-- the IMAGE_ACTIVATE that waits for its end; 03 R69. -/
  activate : Option Waiting
  deriving DecidableEq, Repr

/-- The reset contents of `Img`. -/
def Img.reset : Img :=
  { active := none,
    activeClass := 0,
    slot := .empty,
    staged := [],
    load := none,
    discard := [],
    activate := none }

/-- Loop settings in force on a channel (spec/05 R111). -/
structure GnsLoop where
  /-- noise bandwidth of the phase lock loop; 05 R111. -/
  pll : Nat
  /-- noise bandwidth of the delay lock loop; 05 R111. -/
  dll : Nat
  /-- coherent integration; 05 R111. -/
  integ : Nat
  /-- bit synchronisation reached; 05 R111. -/
  sync : Bool
  deriving DecidableEq, Repr

/-- The reset contents of `GnsLoop`. -/
def GnsLoop.reset : GnsLoop :=
  { pll := 15,
    dll := 50,
    integ := 10,
    sync := false }

/-- A tracking channel (spec/05 R108 to R112, R127). -/
structure GnsChan where
  /-- signal code; 05 R108. -/
  signal : Nat
  /-- satellite number; 05 R108. -/
  sv : Nat
  /-- code valid at the latest epoch; 05 R110. -/
  tracked : Bool
  /-- device time at which carrier continuity began; 05 R112. -/
  since : Option Int
  /-- device time of the latest loss of continuity; 05 R112. -/
  lost : Option Int
  /-- loop settings; 05 R111. -/
  loops : GnsLoop
  /-- SLIP_SEQ; 05 R112. -/
  slip : Byte
  /-- epoch and phase of the latest carrier measurement (C3); 05 R127. -/
  last : Option (Int × Int)
  /-- code minus carrier of the last second (C2); 05 R127. -/
  hist : List (Int × Int)
  deriving DecidableEq, Repr

/-- The reset contents of `GnsChan`. -/
def GnsChan.reset : GnsChan :=
  { signal := 0,
    sv := 0,
    tracked := false,
    since := none,
    lost := none,
    loops := GnsLoop.reset,
    slip := 0,
    last := none,
    hist := [] }

/-- A satellite on a channel pair (R108). -/
structure GnsSat where
  /-- constellation; 05 R108. -/
  sys : Nat
  /-- satellite number; 05 R108. -/
  sv : Nat
  /-- it has the upper channel too; 05 R108. -/
  upper : Bool
  /-- tracked on L1C; 05 R108. -/
  l1c : Bool
  deriving DecidableEq, Repr

/-- An antenna (R105, R127, R128). -/
structure GnsAnt where
  /-- ANT0, ANT1 of GNS_STATUS; 05 R132. -/
  supply : Nat
  /-- time of the retry after a short; 05 R105. -/
  retryAt : Option Nat
  /-- declared spoofed; 05 R128. -/
  spoofed : Bool
  /-- declared under C7; 05 R128. -/
  c7 : Bool
  /-- first epoch of the present run without C6 and C7; 05 R128. -/
  cleanFrom : Option Int
  /-- ranging satellites tracked; 05 R132. -/
  sats : Nat
  /-- it has fewer than 4 ranging satellites; 05 R131. -/
  few : Bool
  /-- clock offset that passed C6, with the device offset then; 05 R127. -/
  clock : Option (Int × Int)
  deriving DecidableEq, Repr

/-- The reset contents of `GnsAnt`. -/
def GnsAnt.reset : GnsAnt :=
  { supply := 0,
    retryAt := none,
    spoofed := false,
    c7 := false,
    cleanFrom := none,
    sats := 0,
    few := true,
    clock := none }

/-- A notch filter (R125). -/
structure Notch where
  /-- active; 05 R125. -/
  active : Bool
  /-- bin of 80 kHz; 05 R125. -/
  bin : Int
  /-- its -3 dB width; 05 R125. -/
  width : Nat
  /-- time at which it was placed or moved; 05 R125. -/
  moved : Nat
  /-- latest time of a candidate in its bin; 05 R125. -/
  cand : Nat
  deriving DecidableEq, Repr

/-- The reset contents of `Notch`. -/
def Notch.reset : Notch :=
  { active := false,
    bin := 0,
    width := 0,
    moved := 0,
    cand := 0 }

/-- An RTCM message in use (R122, R123). -/
structure RtcmMsg where
  /-- message number; 05 R122. -/
  number : Nat
  /-- device time of its arrival; 05 R123. -/
  came : Int
  /-- its payload; 05 R122. -/
  bytes : List Byte
  deriving DecidableEq, Repr

/-- The snapshot buffer (R129, R130). -/
structure GnsSnap where
  /-- 0 idle, 1 waiting for its tick, 2 capturing, 3 exporting; 05 R129. -/
  state : Nat
  /-- the command that waits for the capture; 05 R129. -/
  cmd : Option Waiting
  /-- device time before which no tick starts it; 05 R129. -/
  notBefore : Int
  /-- DURATION; 05 R129. -/
  dur : Nat
  /-- STREAMS; 05 R129. -/
  streams : Nat
  /-- TAP; 05 R129. -/
  tap : Nat
  /-- instant of the first sample; 05 R129. -/
  startNow : Nat
  /-- device time of the first sample; 05 R130. -/
  start : Int
  /-- J at the start; 05 R130. -/
  jam : List Nat
  /-- NOTCH_ACT at the start; 05 R130. -/
  act : Nat
  /-- NOTCH_CHG; 05 R130. -/
  chg : Nat
  /-- its transfer number; 05 R129. -/
  xfer : Word
  deriving DecidableEq, Repr

/-- The reset contents of `GnsSnap`. -/
def GnsSnap.reset : GnsSnap :=
  { state := 0,
    cmd := none,
    notBefore := 0,
    dur := 0,
    streams := 0,
    tap := 0,
    startNow := 0,
    start := 0,
    jam := [],
    act := 0,
    chg := 0,
    xfer := 0 }

/-- The GNSS receiver (spec/05). -/
structure Gns where
  /-- satellites by lower-band channel; 05 R108. -/
  assign : Vector (Option GnsSat) 32
  /-- channels of antenna 0, then of antenna 1; 05 R111. -/
  chans : Vector GnsChan 128
  /-- antennas; 05 R105. -/
  ants : Vector GnsAnt 2
  /-- lower minus upper pseudorange of 60 s by antenna and channel (C5); 05 R127. -/
  bands : List (Nat × List (Int × Int))
  /-- notch 4s + n; 05 R125. -/
  notches : Vector Notch 16
  /-- consecutive transforms above THR, by 256·stream + bin + 128; 05 R125. -/
  runs : List (Nat × Nat)
  /-- notch changes of the last 100 ms; 05 R125. -/
  placed : List (Nat × Int)
  /-- J by stream; 05 R126. -/
  jam : Vector Nat 4
  /-- J at the latest epoch; 05 R118. -/
  jamAt : Vector Nat 4
  /-- event source 50 stands raised; 05 R126. -/
  jamOn : Vector Bool 4
  /-- GNS_NOTCH_SEL; 05 R132. -/
  sel : Nat
  /-- GNS_NOTCH_FREQ; 05 R132. -/
  freq : Half
  /-- station followed; 05 R123. -/
  station : Option Nat
  /-- device time of its latest message; 05 R123. -/
  heard : Int
  /-- when its position message came, and its coordinates; 05 R122. -/
  stnPos : Option (Int × List Int)
  /-- its position messages before that, newest first; 05 R123. -/
  stnOld : List (Int × List Int)
  /-- observables of the station; 05 R123. -/
  rtcm : List RtcmMsg
  /-- RTCM corrections current; 05 R123. -/
  corrOn : Bool
  /-- ephemerides, almanacs, ionosphere and last position; 05 R113. -/
  seed : GnsSeed
  /-- navigation data decoded since start-up; 05 R113. -/
  decoded : List (Nat × List Byte)
  /-- heading state; 05 R120. -/
  head : Nat
  /-- fixed ambiguities by channel; only differences within a band count; 05 R120. -/
  amb : List (Nat × Int)
  /-- standalone solution of the latest epoch; 05 R425. -/
  sol : Option GnsSol
  /-- its antenna; 17 R425. -/
  solAnt : Nat
  /-- FIX; 05 R132. -/
  fix : Nat
  /-- frame of the latest epoch; 17 R425. -/
  epoch : Option Word
  /-- snapshot; 05 R130. -/
  snap : GnsSnap
  deriving DecidableEq, Repr

/-- The reset contents of `Gns`. -/
def Gns.reset : Gns :=
  { assign := Vector.replicate 32 none,
    chans := Vector.replicate 128 GnsChan.reset,
    ants := Vector.replicate 2 GnsAnt.reset,
    bands := [],
    notches := Vector.replicate 16 Notch.reset,
    runs := [],
    placed := [],
    jam := Vector.replicate 4 0,
    jamAt := Vector.replicate 4 0,
    jamOn := Vector.replicate 4 false,
    sel := 0,
    freq := 0,
    station := none,
    heard := 0,
    stnPos := none,
    stnOld := [],
    rtcm := [],
    corrOn := false,
    seed := GnsSeed.reset,
    decoded := [],
    head := 0,
    amb := [],
    sol := none,
    solAnt := 0,
    fix := 0,
    epoch := none,
    snap := GnsSnap.reset }

/-- A point (R370, R371). -/
structure Pt where
  /-- VALUE; 15 R370. -/
  value : Word
  /-- STAMP; 15 R370. -/
  stamp : Word
  /-- FRAME; 15 R370. -/
  frame : Word
  /-- TYPE; 15 R370. -/
  typ : Nat
  /-- QUALITY; 15 R370. -/
  qual : Byte
  /-- ENTRY; 15 R370. -/
  entry : Half
  /-- the full device time kept for R376; 15 R370. -/
  full : Option Int
  /-- course count of the update, from which its age in courses is taken; 15 R376. -/
  course : Nat
  deriving DecidableEq, Repr

/-- The reset contents of `Pt`. -/
def Pt.reset : Pt :=
  { value := 0,
    stamp := 0,
    frame := 0,
    typ := 0,
    qual := 3#8,
    entry := 0,
    full := none,
    course := 0 }

/-- What a route entry keeps while the image is in effect (R377, R380, R381). -/
structure RouteSt where
  /-- course of the latest update, or of the activation that changed it; 15 R377. -/
  since : Nat
  /-- the entry is stale; 15 R377. -/
  stale : Bool
  /-- SEQ of the latest publication; 15 R383. -/
  seqOut : Word
  deriving DecidableEq, Repr

/-- The reset contents of `RouteSt`. -/
def RouteSt.reset : RouteSt :=
  { since := 0,
    stale := false,
    seqOut := 0 }

/-- A point-stream subscription (R387, R388). -/
structure Stream where
  /-- first and last point of each range; 15 R387. -/
  ranges : List (Nat × Nat)
  /-- pending points, in the order they became pending; 15 R388. -/
  pend : List Nat
  /-- source 101 raised since the latest posting; 15 R388. -/
  reported : Bool
  deriving DecidableEq, Repr

/-- The reset contents of `Stream`. -/
def Stream.reset : Stream :=
  { ranges := [],
    pend := [],
    reported := false }

/-- An update of a point that both parts of a pair read from the aligned view (R334). -/
structure FwdPt where
  /-- stamp of the update; 13 R334. -/
  time : Int
  /-- HAND_FRAME; 13 R334. -/
  handFrame : Word
  /-- unit id of the part that received it; 13 R334. -/
  origin : Nat
  /-- point; 13 R334. -/
  num : Nat
  /-- its contents; 13 R334. -/
  pt : Pt
  deriving DecidableEq, Repr

/-- A record of the frame that POST_POINTS hands to the system area (R372). -/
structure SysRec where
  /-- its first point; 15 R372. -/
  first : Nat
  /-- its contents; 15 R372. -/
  words : List Word
  /-- its own FRAME; 15 R372. -/
  frame : Word
  /-- QUALITY of its points; 15 R372. -/
  qual : Byte
  deriving DecidableEq, Repr

/-- The point image and the networks (spec/15). -/
structure Pnt where
  /-- the point image; 15 R370. -/
  points : List (Nat × Pt)
  /-- route entry states; 15 R373. -/
  routes : List (Nat × RouteSt)
  /-- SEQ last acted on and the status of its ACK, key NODE·65536 + BLOCK; 15 R380 R381. -/
  seqIn : List (Nat × (Word × Option Nat))
  /-- the stream subscriptions; 15 R387. -/
  streams : Vector Stream 4
  /-- PNT_SEL; 15 R390. -/
  sel : Nat
  /-- PNT_VALUE, PNT_STAMP, PNT_FRAME, PNT_INFO; 15 R390. -/
  latched : Pt
  /-- speed of network A, 0 link down; 15 R390. -/
  linkA : Nat
  /-- speed of network B, 0 link down; 15 R390. -/
  linkB : Nat
  /-- link of the maintenance port; 15 R390. -/
  linkM : Bool
  /-- updates that wait for ALIGN to enter the aligned view; 13 R334. -/
  fwd : List FwdPt
  /-- the aligned point view of a pair; 13 R334. -/
  aligned : List (Nat × Pt)
  /-- frame in which NET last published; 15 R383. -/
  netFrame : Option Word
  /-- records of a frame that POST_POINTS has still to write; 15 R372. -/
  sysLeft : List SysRec
  /-- the frame whose records POST_POINTS took last; 15 R372. -/
  sysFrame : Option Word
  deriving DecidableEq, Repr

/-- The reset contents of `Pnt`. -/
def Pnt.reset : Pnt :=
  { points := [],
    routes := [],
    seqIn := [],
    streams := Vector.replicate 4 Stream.reset,
    sel := 0,
    latched := Pt.reset,
    linkA := 0,
    linkB := 0,
    linkM := false,
    fwd := [],
    aligned := [],
    netFrame := none,
    sysLeft := [],
    sysFrame := none }

/-- Configuration registers, locks and counters (spec/25). -/
structure Regs where
  /-- what each configuration register reads; 25 R559. -/
  cfg : Vector Word 42
  /-- the value of each configuration register in effect; 25 R554. -/
  eff : Vector Word 42
  /-- LOCK of each block, in the bit order of GLB_LOCKMAP; 25 R552 R553. -/
  locks : Vector Bool 15
  /-- the occurrence counters that have a register of their own; 01 R8. -/
  ctrs : Vector Occ 86
  deriving DecidableEq, Repr

/-- The reset contents of `Regs`. -/
def Regs.reset : Regs :=
  { cfg := cfgReset,
    eff := cfgReset,
    locks := Vector.replicate 15 false,
    ctrs := Vector.replicate 86 Occ.zero }

/-- An intake record (R81), its stamp kept as full device time. -/
structure IntakeRec where
  /-- STAMP, device time in ns. -/
  stamp : Int
  /-- HAND_FRAME. -/
  hand : Word
  /-- ENTRY. -/
  entry : Nat
  /-- KIND. -/
  kind : Nat
  /-- FLAGS. -/
  flags : Nat
  /-- UNC, 0.1 µs. -/
  unc : Nat
  /-- SEQ. -/
  seq : Half
  /-- ORIGIN. -/
  origin : Nat
  /-- DATA, 40 bytes. -/
  data : List Byte
  deriving DecidableEq, Repr

/-- What the intake keeps of a quoin entry (R96, R101, R103). -/
structure EntrySt where
  /-- SNI_ERR of the entry; 04 R103. -/
  err : Occ
  /-- SNI_OVERDUE of the entry; 04 R103. -/
  overdue : Occ
  /-- SNI_GAP of the entry; 04 R103. -/
  gap : Occ
  /-- SEQ of the entry's next record; 04 R81. -/
  seq : Half
  /-- course of the latest arrival, or of the activation that changed the entry; 04 R101. -/
  since : Nat
  /-- the entry's bit in SNI_SILENT0 or SNI_SILENT1; 04 R103. -/
  silent : Bool
  deriving DecidableEq, Repr

/-- The reset contents of `EntrySt`. -/
def EntrySt.reset : EntrySt :=
  { err := Occ.zero,
    overdue := Occ.zero,
    gap := Occ.zero,
    seq := 0,
    since := 0,
    silent := false }

/-- An IMU port (R88, R89). -/
structure ImuPort where
  /-- stamp of the edge whose frame is awaited; 04 R88. -/
  edge : Option Int
  /-- time of the latest DRDY edge; 04 R89. -/
  lastEdge : Option Nat
  /-- COUNT of the previous accepted frame; 04 R89. -/
  count : Option Half
  deriving DecidableEq, Repr

/-- The reset contents of `ImuPort`. -/
def ImuPort.reset : ImuPort :=
  { edge := none,
    lastEdge := none,
    count := none }

/-- An analog channel (R92 to R95). -/
structure AnaCh where
  /-- outputs of the unsettled run still to come; 04 R92. -/
  run : Nat
  /-- the latest output carried OVERRANGE; 04 R94. -/
  ovr : Bool
  /-- input of the modulator: 0 normal, 1 zero, 2 half scale; 04 R95. -/
  input : Nat
  /-- ANALOG_TESTs that wait for the first output after the switch; 04 R95. -/
  tests : List Waiting
  deriving DecidableEq, Repr

/-- The reset contents of `AnaCh`. -/
def AnaCh.reset : AnaCh :=
  { run := 0,
    ovr := false,
    input := 0,
    tests := [] }

/-- The sensor intake (spec/04). -/
structure Sni where
  /-- the alignment buffer, in order of arrival; 04 R96. -/
  buffer : List IntakeRec
  /-- SNI_BUF.PEAK; 04 R103. -/
  peak : Nat
  /-- the records that ALIGN handed over last, in order; 04 R98. -/
  handed : List IntakeRec
  /-- SNI_ENTRY.ENTRY; 04 R103. -/
  entrySel : Nat
  /-- the quoin entries; 04 R103. -/
  entries : Vector EntrySt 40
  /-- stamp of the sentence in progress on each UART; 04 R86. -/
  uarts : Vector (Option Int) 8
  /-- the IMU ports; 04 R88. -/
  imus : Vector ImuPort 2
  /-- the analog channels; 04 R92. -/
  ana : Vector AnaCh 16
  deriving DecidableEq, Repr

/-- The reset contents of `Sni`. -/
def Sni.reset : Sni :=
  { buffer := [],
    peak := 0,
    handed := [],
    entrySel := 0,
    entries := Vector.replicate 40 EntrySt.reset,
    uarts := Vector.replicate 8 none,
    imus := Vector.replicate 2 ImuPort.reset,
    ana := Vector.replicate 16 AnaCh.reset }

/-- One filter of the bank (R133, R149). -/
structure Filt where
  /-- mean; 06 R133. -/
  mean : List F64
  /-- covariance; 06 R133. -/
  cov : List (List F64)
  deriving DecidableEq, Repr

/-- The reset contents of `Filt`. -/
def Filt.reset : Filt :=
  { mean := [],
    cov := [] }

/-- A frame of the history (R161). -/
structure HistFrame where
  /-- frame number; 06 R161. -/
  frame : Word
  /-- device time of its tick; 06 R161. -/
  tick : Int
  /-- prior mean and covariance of the filters; 06 R161. -/
  priors : List Filt
  /-- Φ; 06 R161. -/
  phi : List (List F64)
  /-- the set A; 06 R161. -/
  admitted : List Nat
  deriving DecidableEq, Repr

/-- A reference (R159, R171). -/
structure RefSt where
  /-- STATE; 06 R159. -/
  state : Nat
  /-- CAUSE; 06 R171. -/
  cause : Nat
  /-- GATE_CNT; 06 R154. -/
  gateCnt : Nat
  /-- RHO; 06 R171. -/
  rho : Nat
  /-- ROWS; 06 R171. -/
  rows : Nat
  /-- READMIT_CNT; 06 R166. -/
  readmit : Nat
  /-- FLAGS bit 0 NO_DATA; 06 R171. -/
  noData : Bool
  /-- LAST_DATA; 06 R171. -/
  lastData : Word
  /-- course of the tick of the frame of the latest data, or of entry to the state; 06 R160. -/
  lastTick : Nat
  /-- it became SILENT under R160; 06 R160. -/
  by160 : Bool
  /-- FAILS; 06 R171. -/
  fails : Occ
  /-- LATE_APPLIED; 06 R171. -/
  lateApplied : Occ
  /-- LATE_DROPPED; 06 R171. -/
  lateDropped : Occ
  /-- ROWS_DROPPED; 06 R171. -/
  rowsDropped : Occ
  /-- SINCE; 06 R171. -/
  since : Word
  /-- grid position of its target or weight; 06 R172. -/
  target : Option (Int × Int)
  /-- REF_TARGETs that wait for the first record of their frame; 06 R172. -/
  capture : List Waiting
  /-- device time of the latest warm change of its descriptor or quoin entry; 06 R164. -/
  changed : Int
  deriving DecidableEq, Repr

/-- The reset contents of `RefSt`. -/
def RefSt.reset : RefSt :=
  { state := 0,
    cause := 0,
    gateCnt := 0,
    rho := 0xFFFF,
    rows := 0,
    readmit := 0,
    noData := true,
    lastData := 0,
    lastTick := 0,
    by160 := false,
    fails := Occ.zero,
    lateApplied := Occ.zero,
    lateDropped := Occ.zero,
    rowsDropped := Occ.zero,
    since := 0,
    target := none,
    capture := [],
    changed := 0 }

/-- A disputed pair of references (R157). -/
structure Dispute where
  /-- one of the pair; 06 R157. -/
  a : Nat
  /-- the other; 06 R157. -/
  b : Nat
  /-- frames in which the two have agreed; 06 R157. -/
  agree : Nat
  deriving DecidableEq, Repr

/-- A class of references (R158, R168). -/
structure ClsSt where
  /-- in bootstrap; 06 R158. -/
  boot : Bool
  /-- a reference has been admitted since start-up; 06 R170. -/
  everAdmitted : Bool
  /-- coasting; 06 R168. -/
  coasting : Bool
  /-- start of coasting; 06 R169. -/
  coastAt : Nat
  /-- lost; 06 R169. -/
  lost : Bool
  /-- the disputed pairs of the class; 06 R157. -/
  pairs : List Dispute
  deriving DecidableEq, Repr

/-- The reset contents of `ClsSt`. -/
def ClsSt.reset : ClsSt :=
  { boot := true,
    everAdmitted := false,
    coasting := false,
    coastAt := 0,
    lost := false,
    pairs := [] }

/-- What ESTIMATE found of a reference with data, for VOTE (R153, R158). -/
structure RefWork where
  /-- slot; 06 R153. -/
  ref : Nat
  /-- rows of the frame; 06 R153. -/
  rows : Nat
  /-- ρ; none when its judge was lost; 06 R153. -/
  rho : Option F64
  /-- its fix of the frame; 06 R158. -/
  fixZ : List F64
  /-- covariance of the fix; 06 R158. -/
  fixV : List (List F64)
  deriving DecidableEq, Repr

/-- Carrier smoothing of a satellite (R142). -/
structure Hatch where
  /-- smoothed code; 06 R142. -/
  rho : F64
  /-- carrier range at the latest epoch; 06 R142. -/
  phase : F64
  /-- SLIP_SEQ of the signals used; 06 R142. -/
  slip : Nat
  /-- count; 06 R142. -/
  count : Nat
  deriving DecidableEq, Repr

/-- Position estimation and reference voting (spec/06). -/
structure Est where
  /-- filters 0 to 16 after the latest ESTIMATE or VOTE; 06 R149. -/
  filters : List Filt
  /-- frame of the filters; 06 R165. -/
  frame : Word
  /-- the filters have been started; 06 R165. -/
  fresh : Bool
  /-- history, newest first; 06 R161. -/
  history : List HistFrame
  /-- device time before which records precede a clearing of the history; 06 R164. -/
  histFrom : Int
  /-- the references; 06 R159. -/
  refs : Vector RefSt 16
  /-- position class, heading class; 06 R158. -/
  classes : Vector ClsSt 2
  /-- references that left the vote since the latest VOTE; 06 R156. -/
  left : List Nat
  /-- filters whose covariance step failed in the present frame; 06 R152. -/
  failed : List Nat
  /-- references with data in the frame of `frame`; 06 R153. -/
  work : List RefWork
  /-- roll; 06 R139. -/
  roll : F64
  /-- pitch; 06 R139. -/
  pitch : F64
  /-- quoin entry of the IMU in use; 06 R138. -/
  imuCur : Option Nat
  /-- consecutive frames in which the primary IMU delivered usable frames, while another is in use; 06 R138. -/
  imuGood : Nat
  /-- gate statistics of late records of a frame whose ESTIMATE had no result; 06 R165. -/
  lateWork : List RefWork
  /-- inertial measurements have stopped since one was there; 06 R586. -/
  imuLost : Bool
  /-- the attitude filter has had a usable sample since the filters started; 06 R170. -/
  attOn : Bool
  /-- class had an ADMITTED reference at the latest VOTE; 07 R175. -/
  voted : Vector Bool 2
  /-- the latest frame had an inertial measurement; 06 R140. -/
  imuHad : Bool
  /-- stamp and body rates of the latest usable sample; 06 R139. -/
  imuLast : Option (Int × List F64)
  /-- latitude, longitude and height of the grid origin; 06 R148. -/
  origin : Option (Word × Word × Word)
  /-- 1 beyond 20 km, 2 beyond 25 km; 06 R148. -/
  gridLevel : Nat
  /-- carrier smoothing; 06 R142. -/
  hatch : List (Nat × Hatch)
  /-- SEEDED; 06 R167. -/
  seeded : Bool
  /-- records handed over in frames whose ESTIMATE missed; 06 R165. -/
  carry : List IntakeRec
  /-- the latest hand-over has been taken; 06 R165. -/
  consumed : Bool
  /-- frame and its τ (N, N·m), newest first; 06 R134 R165. -/
  taus : List (Word × List F64)
  /-- the latest estimate record; 06 R170. -/
  record : List Byte
  deriving DecidableEq, Repr

/-- The reset contents of `Est`. -/
def Est.reset : Est :=
  { filters := [],
    frame := 0,
    fresh := false,
    history := [],
    histFrom := 0,
    refs := Vector.replicate 16 RefSt.reset,
    classes := Vector.replicate 2 ClsSt.reset,
    left := [],
    failed := [],
    work := [],
    roll := 0,
    pitch := 0,
    imuCur := none,
    imuGood := 0,
    lateWork := [],
    imuLost := false,
    attOn := false,
    voted := Vector.replicate 2 false,
    imuHad := false,
    imuLast := none,
    origin := none,
    gridLevel := 0,
    hatch := [],
    seeded := false,
    carry := [],
    consumed := true,
    taus := [],
    record := [] }

/-- A waypoint of the track (R188). -/
structure Waypoint where
  /-- N; 07 R188. -/
  n : Int
  /-- E; 07 R188. -/
  e : Int
  /-- SPEED; 07 R188. -/
  speed : Nat
  /-- RULE; 07 R188. -/
  rule : Nat
  /-- HEADING; 07 R188. -/
  heading : Word
  deriving DecidableEq, Repr

/-- The reference model along a line or a turn (R180). -/
structure RefLine where
  /-- D; 07 R180. -/
  d : F64
  /-- s; 07 R180. -/
  s : F64
  /-- the rate of s; 07 R180. -/
  v : F64
  /-- a of the latest frame; 07 R180. -/
  a : F64
  deriving DecidableEq, Repr

/-- The reset contents of `RefLine`. -/
def RefLine.reset : RefLine :=
  { d := 0,
    s := 0,
    v := 0,
    a := 0 }

/-- A SETPOINT that waits for the estimate of its frame (R179). -/
structure SpWait where
  /-- the command; 07 R179. -/
  cmd : Waiting
  /-- fields carried; bit 2 relative; 17 R423. -/
  flags : Nat
  /-- turn direction; 07 R179. -/
  turn : Nat
  /-- N; 07 R179. -/
  n : Word
  /-- E; 07 R179. -/
  e : Word
  /-- heading; 07 R179. -/
  heading : Word
  deriving DecidableEq, Repr

/-- A change of gain set under way (R196). -/
structure GainBlend where
  /-- n; 07 R196. -/
  n : Nat
  /-- the old set's values; 07 R196. -/
  gains : List Byte
  /-- integral states of the old set; 07 R196. -/
  z : List F64
  deriving DecidableEq, Repr

/-- DP modes and control laws (spec/07). -/
structure Ctl where
  /-- DP mode; 07 R174. -/
  mode : Nat
  /-- CAUSE of the latest mode change; 07 R200. -/
  cause : Nat
  /-- a forced change was made in the latest LAW; 07 R200. -/
  forced : Bool
  /-- JOY_COMP; 07 R183. -/
  joyComp : Bool
  /-- leg number in mode 4, berth phase in mode 5; 07 R200. -/
  phase : Nat
  /-- setpoint: N, E in mm, heading in 2⁻³² turn; 07 R179. -/
  sp : List Int
  /-- start of the position line; 07 R180. -/
  start : List F64
  /-- û; 07 R180. -/
  dir : List F64
  /-- the position model; 07 R180. -/
  line : RefLine
  /-- heading at the start of the turn; 07 R180. -/
  hStart : F64
  /-- the turn is anticlockwise; 07 R180. -/
  hDir : Bool
  /-- the heading model; 07 R180. -/
  turn : RefLine
  /-- integral states; 07 R182. -/
  z : List F64
  /-- τ_c of the latest frame, 0.1 N and 0.1 N·m; 07 R181. -/
  tau : List Int
  /-- the axes whose demand was clamped in the latest frame; 07 R182. -/
  clamped : List Bool
  /-- τ_gust, N and N·m; 07 R185. -/
  gust : List F64
  /-- τ̄_w, N and N·m; 07 R185. -/
  mean : List F64
  /-- filtered wind speed; 07 R185. -/
  windV : F64
  /-- filtered relative direction; 07 R185. -/
  windG : F64
  /-- the wind filters run; 07 R186. -/
  windOn : Bool
  /-- latest record of each wind entry: speed m/s, direction rad, true direction; 07 R185. -/
  windRaw : List (F64 × F64 × Bool)
  /-- neither wind entry is usable; 07 R186. -/
  windLost : Bool
  /-- the latest record of each wind entry was unusable, or none has come; 07 R185. -/
  windBad : List Bool
  /-- a joystick mode was entered since the latest LAW; 07 R184. -/
  joyEntry : Bool
  /-- the joystick is lost; 07 R184. -/
  joyLost : Bool
  /-- CUR_SPD; 07 R187. -/
  curSpd : Nat
  /-- CUR_DIR; 07 R187. -/
  curDir : Word
  /-- device second of the latest once-a-second work; 07 R195. -/
  second : Int
  /-- device second of the latest once-a-second work; 07 R187. -/
  curSecond : Int
  /-- n, and the last demand before the change; 07 R197. -/
  modeBlend : Option (Nat × List Int)
  /-- the blends of gain sets under way, newest first; 07 R196. -/
  gainBlend : List GainBlend
  /-- the position axes wait for the estimate of the frame of entry; 07 R176. -/
  capPos : Bool
  /-- the heading axis does; 07 R176. -/
  capHead : Bool
  /-- the mode left in this frame, while LAW has not yet taken the new one's desired point; 07 R176. -/
  cameFrom : Option Nat
  /-- SETPOINTs that wait for the estimate of the frame; 07 R179. -/
  spWait : List SpWait
  /-- set in use; 07 R195. -/
  gainSet : Nat
  /-- values of the set in use; 07 R196. -/
  gains : List Byte
  /-- the set was fixed by GAIN_SELECT; 07 R195. -/
  gainFixed : Bool
  /-- consecutive evaluations whose candidate differed; 07 R195. -/
  gainHold : Nat
  /-- tick and WAVE_P of the frames of the last 60 s, newest first; 07 R195. -/
  waves : List (Int × Nat)
  /-- the loaded track; 07 R188. -/
  track : List Waypoint
  /-- the track end has been reached; 07 R191. -/
  trackEnd : Bool
  /-- the cross-track alarm stands; 07 R190. -/
  xteAlarm : Bool
  /-- berth point, heading, side; 07 R192. -/
  berth : Option (Int × Int × Word × Nat)
  /-- since when the vessel lies within the tolerances of APPROACH; 07 R193. -/
  tolFrom : Option Nat
  /-- position warning and alarm, heading warning and alarm; 07 R198. -/
  warn : List Bool
  /-- the latest control record; 07 R200. -/
  record : List Byte
  deriving DecidableEq, Repr

/-- The reset contents of `Ctl`. -/
def Ctl.reset : Ctl :=
  { mode := 0,
    cause := 0,
    forced := false,
    joyComp := false,
    phase := 0,
    sp := [0, 0, 0],
    start := [0, 0],
    dir := [0, 0],
    line := RefLine.reset,
    hStart := 0,
    hDir := false,
    turn := RefLine.reset,
    z := [0, 0, 0],
    tau := [0, 0, 0],
    clamped := [false, false, false],
    gust := [0, 0, 0],
    mean := [0, 0, 0],
    windV := 0,
    windG := 0,
    windOn := false,
    windRaw := [(0, 0, false), (0, 0, false)],
    windLost := false,
    windBad := [true, true],
    joyEntry := false,
    joyLost := false,
    curSpd := 0,
    curDir := 0,
    second := 0,
    curSecond := 0,
    modeBlend := none,
    gainBlend := [],
    capPos := false,
    capHead := false,
    cameFrom := none,
    spWait := [],
    gainSet := 0,
    gains := [],
    gainFixed := false,
    gainHold := 0,
    waves := [],
    track := [],
    trackEnd := false,
    xteAlarm := false,
    berth := none,
    tolFrom := none,
    warn := [false, false, false, false],
    record := [] }

/-- What allocation keeps of a unit (R209 to R212). -/
structure UnitSt where
  /-- THRUST of the previous command; 08 R226. -/
  thrust : Int
  /-- ANGLE of the previous command; 08 R226. -/
  angle : Word
  /-- FLAGS of the previous command; 08 R226. -/
  flags : Nat
  /-- 0 under DP command; else the first condition of R211 that fails, 5 for want of its ANGLE_POINT; 08 R211 R212. -/
  why : Nat
  /-- consecutive frames in which a sector held the upper bound of s; 08 R210. -/
  cw : Nat
  /-- the same for the lower bound; 08 R210. -/
  acw : Nat
  /-- round turn: 0 none, 1 anticlockwise, 2 clockwise; 08 R210. -/
  turn : Nat
  /-- the end of the sector at which the round turn aims; 08 R210. -/
  turnEnd : Word
  deriving DecidableEq, Repr

/-- The reset contents of `UnitSt`. -/
def UnitSt.reset : UnitSt :=
  { thrust := 0,
    angle := 0,
    flags := 1,
    why := 1,
    cw := 0,
    acw := 0,
    turn := 0,
    turnEnd := 0 }

/-- A unit in the frame's nominal problem (R206 to R216). -/
structure UnitPlan where
  /-- 0 under DP command, else why it is out; 08 R211. -/
  why : Nat
  /-- astern branch; 08 R208. -/
  astern : Bool
  /-- biased; 08 R218. -/
  biased : Bool
  /-- previous thrust; 08 R212. -/
  thrust : F64
  /-- previous angle; 08 R212. -/
  angle : Word
  /-- round turn; 08 R210. -/
  turn : Nat
  deriving DecidableEq, Repr

/-- A bus section (R214, R215). -/
structure BusSt where
  /-- last good value of AVAIL_POINT; 08 R215. -/
  good : Option Int
  /-- it uses its fallback; 08 R215. -/
  fallback : Bool
  /-- its tie is closed; 08 R214. -/
  tied : Bool
  /-- available power less MARGIN, as read at the start of LAW; 08 R215. -/
  avail : Int
  deriving DecidableEq, Repr

/-- The reset contents of `BusSt`. -/
def BusSt.reset : BusSt :=
  { good := none,
    fallback := false,
    tied := false,
    avail := 0 }

/-- Thrust allocation (spec/08). -/
structure Alloc where
  /-- OUT_BASE as the latest DISPATCH took it; 10 R262. -/
  base : Half
  /-- the units' previous commands; 08 R226. -/
  units : Vector UnitSt 16
  /-- units disabled by THRUSTER_ENABLE; 08 R211. -/
  disabled : Half
  /-- the units of the frame's nominal problem; 08 R222. -/
  plan : List UnitPlan
  /-- data block of the frame's nominal problem; 08 R222. -/
  block : List Int
  /-- frame and PROBLEM_ID of the nominal problem submitted; 08 R222. -/
  submitted : Option (Word × Nat)
  /-- the bus sections; 08 R215. -/
  buses : Vector BusSt 8
  /-- consecutive frames below the bias level; 08 R218. -/
  biasCnt : Nat
  /-- bias is engaged; 08 R218. -/
  biasOn : Bool
  /-- mode of the latest DISPATCH; 08 R218. -/
  biasMode : Nat
  /-- ANGLE_POINT values as they stood at the start of DISPATCH; 08 R212. -/
  angles : List (Option Word)
  /-- frame in which power and ties were read; 08 R222. -/
  powerAt : Option Word
  /-- consecutive frames with unmet demand; 08 R219. -/
  unmet : Nat
  /-- consecutive frames with met demand; 08 R219. -/
  met : Nat
  /-- source 38 stands raised; 08 R219. -/
  unmetOn : Bool
  /-- the achieved force; 08 R202. -/
  achieved : List Int
  /-- buses phased back in the latest frame; 08 R227. -/
  phaseBus : Nat
  /-- the frame's unit command entries; 08 R226. -/
  entries : List (List Byte)
  /-- the latest allocation record; 08 R227. -/
  record : List Byte
  deriving DecidableEq, Repr

/-- The reset contents of `Alloc`. -/
def Alloc.reset : Alloc :=
  { base := 0,
    units := Vector.replicate 16 UnitSt.reset,
    disabled := 0,
    plan := [],
    block := [],
    submitted := none,
    buses := Vector.replicate 8 BusSt.reset,
    biasCnt := 0,
    biasOn := false,
    biasMode := 0,
    angles := [],
    powerAt := none,
    unmet := 0,
    met := 0,
    unmetOn := false,
    achieved := [0, 0, 0],
    phaseBus := 0,
    entries := [],
    record := [] }

/-- A case (R271, R272). -/
structure CaseSt where
  /-- the verdict held while a case is HELD; 10 R278. -/
  kept : Nat
  /-- VERDICT; 10 R271. -/
  verdict : Nat
  /-- STATUS; 10 R281. -/
  status : Nat
  /-- UTIL; 10 R281. -/
  util : Nat
  /-- UTIL_UNIT; 10 R281. -/
  utilUnit : Nat
  /-- DRIFT; 10 R281. -/
  drift : Nat
  /-- unmet force U; 10 R281. -/
  unmet : List Int
  /-- HELD_CNT; 10 R281. -/
  held : Occ
  /-- consecutive held frames; 10 R271. -/
  heldRun : Nat
  /-- a result has come since the last activation; 10 R271. -/
  hasResult : Bool
  /-- previous solution: signed thrust in 0.1 N and direction of each unit; 10 R264. -/
  sol : Option (List (Int × Word))
  /-- directions about which its problem of the frame is linearised; 10 R264. -/
  dirs : List Word
  deriving DecidableEq, Repr

/-- The reset contents of `CaseSt`. -/
def CaseSt.reset : CaseSt :=
  { kept := 0,
    verdict := 3,
    status := 0,
    util := 0,
    utilUnit := 0,
    drift := 0xFFFF,
    unmet := [0, 0, 0],
    held := Occ.zero,
    heldRun := 0,
    hasResult := false,
    sol := none,
    dirs := [] }

/-- A run of an envelope point (R274, R275). -/
structure EnvRun where
  /-- case; 10 R273. -/
  cse : Nat
  /-- direction; 10 R273. -/
  dir : Nat
  /-- step under way, 1 to 8; 10 R274. -/
  step : Nat
  /-- lo; 10 R274. -/
  lo : Nat
  /-- hi; 10 R274. -/
  hi : Nat
  /-- solution of its previous step; 10 R267. -/
  sol : Option (List (Int × Word))
  /-- directions about which its step under way is linearised; 10 R264. -/
  dirs : List Word
  deriving DecidableEq, Repr

/-- A persistent condition (R278). -/
structure Persist where
  /-- it holds; 10 R278. -/
  on : Bool
  /-- consecutive frames against it; 10 R278. -/
  count : Nat
  deriving DecidableEq, Repr

/-- The reset contents of `Persist`. -/
def Persist.reset : Persist :=
  { on := false,
    count := 0 }

/-- Consequence analysis and capability envelopes (spec/10). -/
structure Csq where
  /-- the cases by number; 10 R271. -/
  cases : Vector CaseSt 64
  /-- runs in flight; 10 R275. -/
  runs : List EnvRun
  /-- value and stale bit of the points, key 36·case + direction; 10 R275. -/
  points : List (Nat × (Nat × Bool))
  /-- the published envelope set; 10 R275. -/
  published : List (Nat × List (Nat × Bool))
  /-- ENV_SEQ; 10 R275. -/
  envSeq : Word
  /-- ENV_FRAME; 10 R280. -/
  envFrame : Word
  /-- the published set is superseded; 10 R277. -/
  superseded : Bool
  /-- points that completed a run under the present base; 10 R277. -/
  freshPts : List Nat
  /-- OUT_BASE; 10 R261. -/
  outBase : Half
  /-- frame whose feed list was released; 10 R269. -/
  dispatched : Option Word
  /-- the frame that dispatches nothing, since CONSEQ_REPORT missed in the one before; 10 R276. -/
  noDispatch : Option Word
  /-- consequence state; 10 R278. -/
  state : Nat
  /-- a counted case FAILS; 10 R278. -/
  fail : Persist
  /-- utilisation or wind margin at its warning level; 10 R278. -/
  warnUtil : Persist
  /-- the latest consequence record; 10 R280. -/
  record : List Byte
  deriving DecidableEq, Repr

/-- The reset contents of `Csq`. -/
def Csq.reset : Csq :=
  { cases := Vector.replicate 64 CaseSt.reset,
    runs := [],
    points := [],
    published := [],
    envSeq := 0,
    envFrame := 0,
    superseded := false,
    freshPts := [],
    outBase := 0xFFFF#16,
    dispatched := none,
    noDispatch := none,
    state := 3,
    fail := Persist.reset,
    warnUtil := Persist.reset,
    record := [] }

/-- A ballast pump or valve (R292, R293). -/
structure PumpSt where
  /-- its command; 11 R292. -/
  cmd : Bool
  /-- time of its latest change of command; 11 R293. -/
  since : Nat
  /-- faulted; 11 R293. -/
  fault : Bool
  /-- it has reported running, or open, since its command; 11 R293. -/
  seen : Bool
  deriving DecidableEq, Repr

/-- The reset contents of `PumpSt`. -/
def PumpSt.reset : PumpSt :=
  { cmd := false,
    since := 0,
    fault := false,
    seen := false }

/-- Trim and heel holding (spec/11). -/
structure Trim where
  /-- STATE; 11 R288. -/
  state : Nat
  /-- heel and trim targets; none, the value at the next run is taken; 11 R297. -/
  tgt : List (Option F64)
  /-- c_φ and c_θ; 11 R286. -/
  corr : List F64
  /-- φ̄ and θ̄ of the latest run; 11 R286. -/
  now : List F64
  /-- a TRIM_START awaits the next run; 11 R286. -/
  restart : Bool
  /-- last good content by tank; 11 R287. -/
  contents : List (Nat × Int)
  /-- TRIM commands that take effect at the next run; 11 R297. -/
  waiting : List Waiting
  /-- the pumps; 11 R293. -/
  pumps : Vector PumpSt 16
  /-- the valves; 11 R293. -/
  valves : Vector PumpSt 64
  /-- routes whose pump is commanded to run; 11 R292. -/
  running : List Nat
  /-- routes whose valves are commanded open before their pump runs; 11 R292. -/
  starting : List Nat
  /-- routes that have run and whose pump has not reported stopped since; 11 R292. -/
  served : List Nat
  /-- valves are held since a change of BALLAST, until the host restarts; 03 R73. -/
  held : Bool
  /-- report points of pumps that ran under an earlier BALLAST and have not reported stopped; 03 R73. -/
  oldPumps : List Nat
  /-- frame in which TRIM has posed its problem; 11 R291. -/
  posed : Option Word
  /-- STATUS; 11 R298. -/
  status : Nat
  /-- ITER; 11 R298. -/
  iter : Nat
  /-- the latest trim record; 11 R298. -/
  record : List Byte
  deriving DecidableEq, Repr

/-- The reset contents of `Trim`. -/
def Trim.reset : Trim :=
  { state := 0,
    tgt := [none, none],
    corr := [0, 0],
    now := [0, 0],
    restart := false,
    contents := [],
    waiting := [],
    pumps := Vector.replicate 16 PumpSt.reset,
    valves := Vector.replicate 64 PumpSt.reset,
    running := [],
    starting := [],
    served := [],
    held := false,
    oldPumps := [],
    posed := none,
    status := 0,
    iter := 0,
    record := [] }

/-- A problem of the array: its descriptor with the template's numeric fields copied at entry, and its data (R242, R243). -/
structure Problem where
  /-- TEMPLATE; 09 R242. -/
  template : Nat
  /-- KIND: 1 solve, 2 quadratic programme, 3 covariance step; 09 R242. -/
  kind : Nat
  /-- FLAGS.PRIORITY; 09 R242. -/
  priority : Bool
  /-- FLAGS class, true analysis; 09 R242. -/
  analysis : Bool
  /-- submitting pair; 09 R242. -/
  owner : Nat
  /-- SIGNATURE; 09 R242. -/
  sig : Word
  /-- NVAR; 09 R242. -/
  nvar : Nat
  /-- NCON; 09 R242. -/
  ncon : Nat
  /-- BEXP; 09 R242. -/
  bexp : Int
  /-- STREAM, none 0xFFFF; 09 R242. -/
  stream : Option Nat
  /-- WARM_FROM, none 0xFFFF; 09 R242. -/
  warmFrom : Option Nat
  /-- FRAME; 09 R242. -/
  frame : Word
  /-- DL_COURSE; 09 R242. -/
  dlCourse : Word
  /-- DL_SLOT; 09 R242. -/
  dlSlot : Nat
  /-- PROBLEM_ID; 09 R242. -/
  ident : Half
  /-- DATA_ADDR; 09 R242. -/
  dataAddr : Nat
  /-- RESULT_ADDR, none where no block may be written; 09 R242. -/
  resultAddr : Option Nat
  /-- the data block; 09 R243. -/
  data : List Int
  /-- BUDGET_WARM; 09 R239. -/
  budgetWarm : Nat
  /-- BUDGET_COLD; 09 R239. -/
  budgetCold : Nat
  /-- RIDGE; 09 R239. -/
  ridge : Int
  /-- PFLOOR; 09 R239. -/
  pfloor : Int
  /-- FEAS_TOL; 09 R239. -/
  feasTol : Int
  /-- RES_TOL; 09 R239. -/
  resTol : Int
  /-- STEP_TOL; 09 R239. -/
  stepTol : Int
  /-- generation of the template at entry; 09 R251. -/
  gen : Nat
  /-- identity tags; 09 R239. -/
  tags : List Half
  /-- constraint keys, kind byte low, unit byte high; 09 R241. -/
  keys : List Half
  deriving DecidableEq, Repr

/-- A result block (R243). -/
structure ArrayResult where
  /-- STATUS; 09 R243. -/
  status : Nat
  /-- ITER; 09 R243. -/
  iter : Nat
  /-- LANE; 09 R243. -/
  lane : Nat
  /-- MAPPED; 09 R243. -/
  mapped : Nat
  /-- FRAME; 09 R243. -/
  frame : Word
  /-- CYCLES; 09 R243. -/
  cycles : Nat
  /-- the words after the header; 09 R243. -/
  data : List Int
  deriving DecidableEq, Repr

/-- A lane of the array (R229, R256, R257). -/
structure Lane where
  /-- the problem it holds; 09 R229. -/
  job : Option Problem
  /-- the warm-start entry it read; 09 R249. -/
  warm : Option WarmEntry
  /-- `now` at the lane's start; 09 R243. -/
  started : Nat
  /-- 0 in service, 1 quarantined, 2 out until reset; 09 R260. -/
  state : Nat
  /-- quarantines since reset, holds at 4; 09 R260. -/
  quarCnt : Nat
  /-- consecutive test passes while quarantined; 09 R260. -/
  passes : Nat
  /-- a known-answer test comes before its next problem; 09 R256. -/
  testFirst : Bool
  /-- course of its latest test; 09 R256. -/
  lastKat : Nat
  deriving DecidableEq, Repr

/-- The reset contents of `Lane`. -/
def Lane.reset : Lane :=
  { job := none,
    warm := none,
    started := 0,
    state := 0,
    quarCnt := 0,
    passes := 0,
    testFirst := false,
    lastKat := 0 }

/-- The voussoir solver array (spec/09). -/
structure Vsl where
  /-- the dispatch queue, head first; 09 R229. -/
  queue : List Problem
  /-- the analysis feed list, head first; 10 R268. -/
  feed : List Problem
  /-- the lanes; 09 R229. -/
  lanes : Vector Lane 64
  /-- VSL_QPEAK; 09 R260. -/
  peak : Nat
  /-- VSL_RELEASED; 09 R260. -/
  released : Word
  /-- VSL_STATUS.STOPPED; 09 R258. -/
  stopped : Bool
  /-- VSL_LANE_SEL; 09 R260. -/
  sel : Nat
  /-- VSL_LANE_INFO; 09 R260. -/
  info : Word
  /-- the warm-start store; 09 R249. -/
  store : List (Nat × WarmEntry)
  /-- template generations; 09 R251. -/
  gens : Vector Nat 192
  /-- result blocks written and not replaced, key owner·65536 + PROBLEM_ID; 09 R233. -/
  results : List (Nat × ArrayResult)
  /-- frame and outcome of problems that ended without a result block; 09 R254. -/
  ends : List (Nat × (Word × Nat))
  deriving DecidableEq, Repr

/-- The reset contents of `Vsl`. -/
def Vsl.reset : Vsl :=
  { queue := [],
    feed := [],
    lanes := Vector.replicate 64 Lane.reset,
    peak := 0,
    released := 0,
    stopped := false,
    sel := 0,
    info := 0,
    store := [],
    gens := Vector.replicate 192 0,
    results := [],
    ends := [] }

/-- One disciplining source (R303, R304). -/
structure TimSrc where
  /-- latest offset; 12 R303. -/
  offset : Option Int
  /-- consecutive seconds good; 12 R304. -/
  goodSecs : Nat
  /-- seconds without a good offset; 12 R304. -/
  lossSecs : Nat
  /-- qualified; 12 R304. -/
  qualified : Bool
  /-- total steering when the latest offset was measured; 12 R304. -/
  steer : Int
  /-- seconds qualified with an offset below STEP_THR; 12 R305. -/
  aboveSecs : Nat
  deriving DecidableEq, Repr

/-- The reset contents of `TimSrc`. -/
def TimSrc.reset : TimSrc :=
  { offset := none,
    goodSecs := 0,
    lossSecs := 0,
    qualified := false,
    steer := 0,
    aboveSecs := 0 }

/-- A captured edge (R317). -/
structure CapEntry where
  /-- device time of the edge; 12 R317. -/
  time : Int
  /-- EDGE; 12 R320. -/
  falling : Bool
  /-- SEQ; 12 R317. -/
  seq : Nat
  deriving DecidableEq, Repr

/-- The reset contents of `CapEntry`. -/
def CapEntry.reset : CapEntry :=
  { time := 0,
    falling := false,
    seq := 0 }

/-- One event-capture input (R317). -/
structure Capture where
  /-- its FIFO; 12 R317. -/
  fifo : List CapEntry
  /-- newest entry; 12 R318. -/
  newest : Option CapEntry
  /-- time of the previous edge; 12 R317. -/
  lastEdge : Option Nat
  /-- next SEQ; 12 R317. -/
  nextSeq : Nat
  deriving DecidableEq, Repr

/-- The reset contents of `Capture`. -/
def Capture.reset : Capture :=
  { fifo := [],
    newest := none,
    lastEdge := none,
    nextSeq := 0 }

/-- A PTP port (R312 to R314). -/
structure PtpPort where
  /-- portState; 12 R320. -/
  state : Nat
  /-- best foreign master; 12 R312. -/
  best : Option Announce
  /-- `now` of the latest Announce of the best master, or since when none has come; 12 R312. -/
  annAt : Nat
  /-- ANN_TIMEOUT intervals have passed without an Announce; 12 R312. -/
  quiet : Bool
  /-- sequenceId of the latest Announce of the best master; 12 R314. -/
  annIn : Option Nat
  /-- sequenceId of the latest Sync; 12 R314. -/
  syncIn : Option Nat
  /-- two-step Sync awaiting its Follow_Up: sequenceId and t2; 12 R314. -/
  syncWait : Option (Nat × Int)
  /-- t1 and t2 of the latest Sync; 12 R314. -/
  sync : Option (Int × Int)
  /-- sequenceId of the request whose response is awaited; 12 R314. -/
  reqSeq : Option Nat
  /-- `now` of the latest Delay_Req or Pdelay_Req sent; 12 R312. -/
  reqAt : Option Nat
  /-- `now` of the latest Sync sent; 12 R312. -/
  syncAt : Option Nat
  /-- `now` of the latest Announce sent; 12 R312. -/
  annSent : Option Nat
  /-- mean path delay; 12 R314. -/
  delay : Option Int
  /-- foreign masters heard: identity and `now` of the latest Announce; 12 R312. -/
  heard : List (Nat × Nat)
  /-- `now` at which the port took its state; 12 R312. -/
  preAt : Nat
  /-- offsetFromMaster; 12 R314. -/
  offset : Option Int
  /-- sequenceId of the next Sync sent; 12 R312. -/
  seq : Nat
  /-- sequenceId of the next Announce sent; 12 R312. -/
  annSeq : Nat
  /-- sequenceId of the next request sent; 12 R312. -/
  delaySeq : Nat
  deriving DecidableEq, Repr

/-- The reset contents of `PtpPort`. -/
def PtpPort.reset : PtpPort :=
  { state := 0,
    best := none,
    annAt := 0,
    quiet := false,
    annIn := none,
    syncIn := none,
    syncWait := none,
    sync := none,
    reqSeq := none,
    reqAt := none,
    syncAt := none,
    annSent := none,
    delay := none,
    heard := [],
    preAt := 0,
    offset := none,
    seq := 0,
    annSeq := 0,
    delaySeq := 0 }

/-- An anchor of the time extension (R300). -/
structure Anchor where
  /-- F_A; 12 R320. -/
  frame : Word
  /-- T_A; 12 R320. -/
  time : Int
  /-- L_A; 12 R320. -/
  len : Nat
  /-- GEN; 12 R320. -/
  gen : Nat
  deriving DecidableEq, Repr

/-- The reset contents of `Anchor`. -/
def Anchor.reset : Anchor :=
  { frame := 0,
    time := 0,
    len := 0,
    gen := 0 }

/-- The time engine (spec/12). -/
structure Tim where
  /-- TIM_STATUS.SRC; 12 R320. -/
  src : Nat
  /-- TIM_STATUS.STATE: 0 UNSET, 1 LOCKED, 2 HOLDOVER; 12 R320. -/
  state : Nat
  /-- TIM_STATUS.PENDING; 12 R320. -/
  pending : Bool
  /-- TIM_PEND; 12 R320. -/
  pend : Int
  /-- source of the pending step; 12 R307. -/
  pendSrc : Nat
  /-- STEP_SEQ; 12 R320. -/
  stepSeq : Nat
  /-- HO_EXCEEDED; 12 R320. -/
  hoExceeded : Bool
  /-- TIM_UNC while a source is selected, or U_0 in holdover; none reads all-ones; 12 R320. -/
  unc : Option Nat
  /-- `now` from which holdover counts t; 12 R310. -/
  uncAt : Nat
  /-- TIM_OFFSET; 12 R320. -/
  offset : Int
  /-- offset of the selected source still to be slewed; 12 R306. -/
  slewLeft : Int
  /-- total steering applied, up to `steerAt`; 12 R304. -/
  steer : Int
  /-- `now` to which slewing and steering are accounted; 12 R306. -/
  steerAt : Nat
  /-- offset still being slewed at the last good offset; 12 R310. -/
  uncSlew : Nat
  /-- device time has been set by a step that the host asked for; 12 R303. -/
  hostSet : Bool
  /-- frequency word less nominal; 12 R299. -/
  freq : Int
  /-- starting frequency word less nominal; 12 R310. -/
  startFreq : Int
  /-- integral term over the last HO_AVG seconds, newest first; 12 R310. -/
  integral : List Int
  /-- offsets of the selected source over the last SERVO_TAU seconds, newest first; 12 R310. -/
  recent : List Int
  /-- the sources by code; 12 R303. -/
  sources : Vector TimSrc 6
  /-- TIM_LEAP.COUNT; 12 R320. -/
  leapCount : Nat
  /-- TIM_LEAP.KNOWN; 12 R320. -/
  leapKnown : Bool
  /-- TIM_LEAP.FROM; 12 R320. -/
  leapFrom : Nat
  /-- TIM_LEAP.ANNOUNCE; 12 R320. -/
  leapAnn : Nat
  /-- PTP ports A and B; 12 R312. -/
  ports : Vector PtpPort 2
  /-- TIM_PTP_STAT.GM_CLASS; 12 R320. -/
  gmClass : Nat
  /-- TIM_PTP_STAT.STEPS; 12 R320. -/
  gmSteps : Nat
  /-- identity of the grandmaster; 12 R319. -/
  gmIdent : Option Nat
  /-- offset of the pulse from its place; 12 R316. -/
  ppsPhase : Int
  /-- DELAY to which the pulse has been slewed; 12 R316. -/
  ppsDelay : Nat
  /-- `now` of the trailing edge of the pulse under way; 12 R315. -/
  ppsEnd : Option Nat
  /-- clock offset of the standalone solution since the latest measurement; 12 R303. -/
  gnsOffset : Option Int
  /-- `now` of the latest EXT_PPS edge; 12 R303. -/
  extAt : Option Nat
  /-- offset of the EXT_PPS edge since the latest measurement; 12 R303. -/
  extOffset : Option Int
  /-- a 10 MHz signal is present on EXT_10M; 12 R303. -/
  ext10m : Bool
  /-- the latest anchor; 12 R300. -/
  anchor : Anchor
  /-- a new anchor is due at the next frame tick; 12 R300. -/
  anchorDue : Bool
  /-- EVT0 to EVT3; 12 R317. -/
  caps : Vector Capture 4
  /-- TIM_NOW as latched; 12 R320. -/
  latNow : Int
  /-- TIM_ANC as latched; 12 R320. -/
  latAnchor : Anchor
  /-- TIM_CAP_SEL; 12 R320. -/
  capSel : Nat
  /-- TIM_CAP as latched; 12 R320. -/
  latCap : Option CapEntry
  deriving DecidableEq, Repr

/-- The reset contents of `Tim`. -/
def Tim.reset : Tim :=
  { src := 0,
    state := 0,
    pending := false,
    pend := 0,
    pendSrc := 0,
    stepSeq := 0,
    hoExceeded := false,
    unc := none,
    uncAt := 0,
    offset := 0,
    slewLeft := 0,
    steer := 0,
    steerAt := 0,
    uncSlew := 0,
    hostSet := false,
    freq := 0,
    startFreq := 0,
    integral := [],
    recent := [],
    sources := Vector.replicate 6 TimSrc.reset,
    leapCount := 0,
    leapKnown := false,
    leapFrom := 0,
    leapAnn := 0,
    ports := Vector.replicate 2 PtpPort.reset,
    gmClass := 255,
    gmSteps := 0,
    gmIdent := none,
    ppsPhase := 0,
    ppsDelay := 0,
    ppsEnd := none,
    gnsOffset := none,
    extAt := none,
    extOffset := none,
    ext10m := false,
    anchor := Anchor.reset,
    anchorDue := true,
    caps := Vector.replicate 4 Capture.reset,
    latNow := 0,
    latAnchor := Anchor.reset,
    capSel := 0,
    latCap := none }

/-- A pair message as received (R336), or as sent. -/
structure PairMsg where
  /-- TYPE: 1 frame message, 2 urgent yield. -/
  typ : Nat
  /-- UNIT. -/
  unit : Nat
  /-- CLAIM. -/
  claim : Half
  /-- FRAME. -/
  frame : Word
  /-- DIGEST. -/
  digest : DWord
  /-- PSTATE. -/
  pstate : Nat
  /-- FLAGS. -/
  flags : Nat
  /-- EXCH_FRAME. -/
  exchFrame : Word
  /-- IMG_N. -/
  imgN : Word
  /-- IMG_DIGEST. -/
  imgDigest : List Byte
  /-- The command descriptors, each 64 bytes. -/
  cmds : List (List Byte)
  deriving DecidableEq, Repr

/-- A keystone frame (R328). -/
structure KsFrame where
  /-- CLAIM. -/
  claim : Half
  /-- SEQ. -/
  seq : Word
  /-- FRAME. -/
  frame : Word
  /-- ORIGIN. -/
  origin : Word
  /-- FLAGS. -/
  flags : Nat
  /-- HOLD. -/
  hold : Nat
  /-- VESSEL. -/
  vessel : Word
  /-- STAMP. -/
  stamp : Word
  /-- Unit command entries of R226, 16 bytes each. -/
  entries : List (List Byte)
  deriving DecidableEq, Repr

/-- Redundancy, pair mode and claims (spec/13). -/
structure Rdn where
  /-- UNIT_ID as sampled at the latest cold activation; 25 R554. -/
  unitId : Nat
  /-- PAIR_EN as sampled at the latest cold activation; 25 R554. -/
  pairEn : Bool
  /-- RDN_STATUS.PSTATE; 13 R345. -/
  pstate : Nat
  /-- RDN_STATUS.ROLE; 13 R345. -/
  role : Nat
  /-- P_ROLE; 13 R345. -/
  pRole : Nat
  /-- P_ALIVE; 13 R345. -/
  pAlive : Bool
  /-- LINK_MSG; 13 R345. -/
  linkMsg : Bool
  /-- FEED_A; 13 R345. -/
  feedA : Bool
  /-- FEED_B; 13 R345. -/
  feedB : Bool
  /-- RELGEN; 13 R345. -/
  relgen : Bool
  /-- RDN_CLAIM.OWN; 13 R345. -/
  own : Half
  /-- unit id in the latest message of a partner; 13 R329. -/
  partnerUnit : Option Nat
  /-- RDN_CLAIM.PARTNER; 13 R345. -/
  partner : Half
  /-- RDN_HEALTH.SCORE; 13 R345. -/
  score : Nat
  /-- RDN_HEALTH.TERMS; 13 R345. -/
  terms : Nat
  /-- RDN_SEQ; 13 R345. -/
  seq : Word
  /-- a keystone frame has been sent since start-up; 13 R330. -/
  sent : Bool
  /-- RDN_EXCH_LAST; 13 R345. -/
  exchLast : Word
  /-- the claim latch of the send engines; 13 R321. -/
  claimLatch : Bool
  /-- a comparator mismatch has occurred since the reset; 13 R323. -/
  mismatch : Bool
  /-- cause recorded for the mismatch: the pair, or 6 for the array; 02 R53. -/
  mismatchOf : Option Nat
  /-- the comparison found no part holding the claim, and this one takes it at the next evaluation; 13 R325. -/
  elected : Bool
  /-- the part was ready to claim at the latest evaluation; 02 R52. -/
  wasReady : Bool
  /-- frame of the latest comparison of digests; 13 R337. -/
  compFrame : Option Word
  /-- frames without a miss since CLAIM_RESUME took effect; 13 R324. -/
  resume : Option Nat
  /-- the part has been resumed after its give-up; 13 R323. -/
  resumed : Bool
  /-- frames since the last send failure on network A, to 100; 13 R326. -/
  failA : Nat
  /-- frames since the last send failure on network B, to 100; 13 R326. -/
  failB : Nat
  /-- last keystone frame the send engines sent; 13 R321. -/
  last : Option KsFrame
  /-- the frame's copy in the send-path tap; 14 R359. -/
  tap : Option KsFrame
  /-- partner's message of the present frame over the link; 13 R336. -/
  msg : Option PairMsg
  /-- partner's heartbeat of the present frame; 13 R336. -/
  hb : Option PairMsg
  /-- consecutive frames without the partner on any path; 13 R338. -/
  missing : Nat
  /-- own frame digest of the present frame; 13 R336. -/
  digest : DWord
  /-- local miss flag of the present frame; 13 R336. -/
  localMiss : Bool
  /-- partner messages have arrived since the latest start-up, give-up or departure from PAIRED; 13 R323. -/
  msgSince : Bool
  /-- a state image transfer has completed since then; 13 R323. -/
  imageDone : Bool
  /-- DIGEST of the image in effect in the partner, from its state; 13 R323. -/
  partnerDig : List Byte
  /-- frames PAIRED; 13 R341. -/
  pairedFrames : Nat
  /-- time of the latest exchange or pairing; 13 R341. -/
  exchAt : Nat
  /-- frame of a proposed exchange; 13 R342. -/
  exchFrame : Option Word
  /-- the exchange is confirmed; 13 R342. -/
  exchConfirmed : Bool
  /-- the overdue warning has been raised; 13 R341. -/
  exchWarned : Bool
  /-- the ROLE_EXCHANGE commands that await their end; 13 R341. -/
  exchCmd : List (Nat × Nat)
  /-- own synchronised commands for the next message, and those accepted later; 13 R335. -/
  batch : List Waiting
  /-- batch of the ACTIVE's message, applied at the next tick; true: our own command; 13 R335. -/
  apply : List (Bool × Waiting)
  /-- commands forwarded to the ACTIVE, with the frame of forwarding; 13 R335. -/
  forwarded : List (Waiting × Word)
  /-- frame i in which the transfer was asked for; 13 R340. -/
  syncFrame : Option Word
  /-- this part is the source of the transfer; 13 R340. -/
  syncSource : Bool
  /-- bytes of the state image received; 13 R340. -/
  pieces : Nat
  /-- time at which a failed transfer may start again; 13 R340. -/
  syncRetry : Option Nat
  /-- the partner's mask was missing at DISPATCH of the present frame; 14 R358. -/
  maskMiss : Bool
  /-- partner's course-0 removal mask; 13 R340. -/
  pMask : Option (Word × Half)
  /-- frame in which role and health score were last evaluated; 13 R325. -/
  evalFrame : Option Word
  /-- a case of R338 has arisen: this part takes ACTIVE at the next KEYSTONE item; 13 R338. -/
  yieldIn : Bool
  /-- networks by which the partner's heartbeat of the present frame came: bit 0 A, bit 1 B; 13 R336. -/
  hbPaths : Nat
  /-- paths on which the partner's message is missing: bit 0 link, 1 network A, 2 network B; 13 R344. -/
  pathMiss : Nat
  /-- a partner has been heard since pair mode began; 13 R344. -/
  heard : Bool
  /-- the pair has no ready STANDBY; 13 R344. -/
  noStandby : Bool
  /-- pairing is refused for the partner's identity; 13 R327. -/
  refusedId : Bool
  /-- the state image is installed and PAIRED begins at the next tick; 13 R340. -/
  installed : Bool
  /-- the next pair message proposes an exchange; 13 R342. -/
  exchAsk : Bool
  /-- time at which a proposal is tried again; 13 R341. -/
  exchRetry : Option Nat
  /-- command batch applied at the tick of the present frame; 13 R336. -/
  applied : List (List Byte)
  deriving DecidableEq, Repr

/-- The reset contents of `Rdn`. -/
def Rdn.reset : Rdn :=
  { unitId := 0,
    pairEn := false,
    pstate := 0,
    role := 0,
    pRole := 0,
    pAlive := false,
    linkMsg := false,
    feedA := false,
    feedB := false,
    relgen := false,
    own := 0,
    partnerUnit := none,
    partner := 0,
    score := 0,
    terms := 0,
    seq := 0,
    sent := false,
    exchLast := 0,
    claimLatch := false,
    mismatch := false,
    mismatchOf := none,
    elected := false,
    wasReady := false,
    compFrame := none,
    resume := none,
    resumed := false,
    failA := 100,
    failB := 100,
    last := none,
    tap := none,
    msg := none,
    hb := none,
    missing := 0,
    digest := 0,
    localMiss := false,
    msgSince := false,
    imageDone := false,
    partnerDig := [],
    pairedFrames := 0,
    exchAt := 0,
    exchFrame := none,
    exchConfirmed := false,
    exchWarned := false,
    exchCmd := [],
    batch := [],
    apply := [],
    forwarded := [],
    syncFrame := none,
    syncSource := false,
    pieces := 0,
    syncRetry := none,
    maskMiss := false,
    pMask := none,
    evalFrame := none,
    yieldIn := false,
    hbPaths := 0,
    pathMiss := 0,
    heard := false,
    noStandby := false,
    refusedId := false,
    installed := false,
    exchAsk := false,
    exchRetry := none,
    applied := [] }

/-- One safe input (R352, R353). -/
structure BtrIn where
  /-- stop demand active; 14 R352. -/
  demand : Bool
  /-- discrepancy count; 14 R352. -/
  disc : Nat
  /-- discrepancy fault latched; 14 R352. -/
  fault : Bool
  /-- both channels have demanded at one sample since the fault; 14 R352. -/
  both : Bool
  /-- both then read healthy: only BTR_RESET is missing; 14 R352. -/
  clr : Bool
  /-- the demand without its manual-reset latch; 14 R353. -/
  raw : Bool
  /-- awaits BTR_RESET; 14 R353. -/
  latched : Bool
  /-- both channels read healthy at the latest sample; 14 R353. -/
  healthy : Bool
  deriving DecidableEq, Repr

/-- The reset contents of `BtrIn`. -/
def BtrIn.reset : BtrIn :=
  { demand := false,
    disc := 0,
    fault := false,
    both := false,
    clr := false,
    raw := false,
    latched := false,
    healthy := false }

/-- One safe output (R354 to R356). -/
structure BtrOut where
  /-- requested on; 14 R354. -/
  requested : Bool
  /-- on; 14 R354. -/
  on : Bool
  /-- latched off; 14 R369. -/
  latchedOff : Bool
  /-- high side faulted; 14 R369. -/
  faultH : Bool
  /-- low side faulted; 14 R369. -/
  faultL : Bool
  /-- the start-up test is done; 14 R354. -/
  tested : Bool
  /-- it failed; 14 R354. -/
  testBad : Bool
  /-- the high side opened by its current limit; 26 R571. -/
  tripH : Bool
  /-- the low side opened by its current limit; 26 R571. -/
  tripL : Bool
  /-- a switch still showed closed at the latest sample while off; 14 R365. -/
  stuck : Bool
  /-- courses in degraded mode; 14 R365. -/
  degraded : Option Nat
  /-- channel under test: true high side; 14 R355. -/
  pulse : Option Bool
  /-- now when its switch opened; 14 R355. -/
  pulseAt : Nat
  /-- start-up test: 1 the high switch is closed, 2 the low one; 14 R354. -/
  startStep : Nat
  /-- channel tested next; 14 R355. -/
  nextHigh : Bool
  /-- courses until the next test; 14 R355. -/
  testIn : Nat
  /-- consecutive samples with a closed-state readback failing; 14 R355. -/
  badReads : Nat
  deriving DecidableEq, Repr

/-- The reset contents of `BtrOut`. -/
def BtrOut.reset : BtrOut :=
  { requested := false,
    on := false,
    latchedOff := false,
    faultH := false,
    faultL := false,
    tested := false,
    testBad := false,
    tripH := false,
    tripL := false,
    stuck := false,
    degraded := none,
    pulse := none,
    pulseAt := 0,
    startStep := 0,
    nextHigh := true,
    testIn := 0,
    badReads := 0 }

/-- A first copy of a safety frame that waits for its second (R364). -/
structure SfCopy where
  /-- network it came by; 14 R364. -/
  port : Port
  /-- the frame; 14 R364. -/
  bytes : List Byte
  /-- courses waited for the second; 14 R364. -/
  waited : Nat
  deriving DecidableEq, Repr

/-- The reset contents of `SfCopy`. -/
def SfCopy.reset : SfCopy :=
  { port := .a,
    bytes := [],
    waited := 0 }

/-- One remote record (R364). -/
structure BtrRem where
  /-- its source is not lost; 14 R369. -/
  fresh : Bool
  /-- both copies have demanded since the mismatch; 14 R364 R352. -/
  both : Bool
  /-- both then did not: only BTR_RESET is missing; 14 R364 R352. -/
  clr : Bool
  /-- copy mismatch latched; 14 R369. -/
  mismatch : Bool
  /-- its demand is active; 14 R364. -/
  demand : Bool
  /-- BIT or FAULT stands in the newest accepted frame; 14 R364. -/
  stopSeen : Bool
  /-- manual-reset latch; 14 R364. -/
  latched : Bool
  /-- forced safe; 14 R365. -/
  forced : Bool
  /-- the demand without its manual-reset latch; 14 R353. -/
  raw : Bool
  /-- SEQ of the newest accepted frame; 14 R364. -/
  seq : Option Word
  /-- first copies that wait for their second; 14 R364. -/
  copies : List SfCopy
  /-- courses without a valid frame; 14 R364. -/
  silent : Nat
  /-- TIMEOUT of the newest accepted frame; 14 R364. -/
  timeout : Nat
  /-- consecutive frames with both copies; 14 R364. -/
  goodCopies : Nat
  /-- courses in degraded mode; 14 R365. -/
  degraded : Option Nat
  deriving DecidableEq, Repr

/-- The reset contents of `BtrRem`. -/
def BtrRem.reset : BtrRem :=
  { fresh := false,
    both := false,
    clr := false,
    mismatch := false,
    demand := false,
    stopSeen := false,
    latched := false,
    forced := false,
    raw := false,
    seq := none,
    copies := [],
    silent := 0,
    timeout := 0,
    goodCopies := 0,
    degraded := none }

/-- The buttress safety island (spec/14). -/
structure Btr where
  /-- the SAFETY section held; 14 R348. -/
  params : List Byte
  /-- BTR_STATUS.PARAMS; 14 R369. -/
  taken : Bool
  /-- the seal comparison failed; 14 R348. -/
  sealBad : Bool
  /-- BTR_PARAM_CRC; 14 R369. -/
  paramCrc : Word
  /-- VESSEL_ID of the image in effect; 14 R361. -/
  vessel : Word
  /-- BTR_STATUS.FAULT; 14 R369. -/
  fault : Bool
  /-- BTR_STATUS.SAVE; 14 R369. -/
  save : Bool
  /-- BTR_BEAT; 14 R369. -/
  beat : Word
  /-- MISS_STREAK; 14 R369. -/
  missStreak : Nat
  /-- CONFIRM misses hold readiness; 14 R360. -/
  missLatched : Bool
  /-- consecutive frames with CONFIRM in time; 14 R360. -/
  goodConfirms : Nat
  /-- confirm mismatch latched; 14 R359. -/
  mismatch : Bool
  /-- the safe inputs; 14 R369. -/
  inputs : Vector BtrIn 16
  /-- the safe outputs; 14 R369. -/
  outputs : Vector BtrOut 8
  /-- the remote records; 14 R369. -/
  remotes : Vector BtrRem 8
  /-- BTR_REMOVE, the published removal mask; 14 R369. -/
  remove : Half
  /-- own mask of course 0 of the present frame; 14 R357. -/
  mask0 : Half
  /-- BTR_SF_SEQ; 14 R369. -/
  sfSeq : Word
  /-- ready has been reported since the parameters were taken; 14 R354. -/
  readyOnce : Bool
  /-- NOT_READY as last reported; 14 R369. -/
  notReady : Nat
  /-- a safety frame has been sent since the reset; 14 R361. -/
  sfSent : Bool
  /-- BTR_RESET and BTR_OUTPUT passed to the mailbox; 14 R353. -/
  cmds : List Waiting
  /-- BTR_BEAT as pair 5 last saw it change; 14 R347. -/
  beatSeen : Word
  /-- courses without a change of BTR_BEAT; 14 R347. -/
  beatLost : Nat
  /-- pair 5 treats the buttress as faulted; 14 R347. -/
  lostByBeat : Bool
  deriving DecidableEq, Repr

/-- The reset contents of `Btr`. -/
def Btr.reset : Btr :=
  { params := [],
    taken := false,
    sealBad := false,
    paramCrc := 0,
    vessel := 0,
    fault := false,
    save := false,
    beat := 0,
    missStreak := 0,
    missLatched := false,
    goodConfirms := 0,
    mismatch := false,
    inputs := Vector.replicate 16 BtrIn.reset,
    outputs := Vector.replicate 8 BtrOut.reset,
    remotes := Vector.replicate 8 BtrRem.reset,
    remove := 0xFFFF#16,
    mask0 := 0xFFFF#16,
    sfSeq := 0,
    readyOnce := false,
    notReady := 1,
    sfSent := false,
    cmds := [],
    beatSeen := 0,
    beatLost := 0,
    lostByBeat := false }

/-- The content of a transmit buffer: what the controller sends. -/
structure CanMsg where
  /-- identifier; 16 R396. -/
  ident : Nat
  /-- extended format; 16 R396. -/
  ext : Bool
  /-- FD frame; 16 R391. -/
  fd : Bool
  /-- bit rate switching; 16 R391. -/
  brs : Bool
  /-- data; 16 R395. -/
  data : List Byte
  deriving DecidableEq, Repr

/-- The reset contents of `CanMsg`. -/
def CanMsg.reset : CanMsg :=
  { ident := 0,
    ext := false,
    fd := false,
    brs := false,
    data := [] }

/-- A transmit buffer (R395, R396, R402). -/
structure CanBuf where
  /-- pending; 16 R396. -/
  pending : Bool
  /-- the active copy; 16 R395. -/
  msg : CanMsg
  /-- time of its latest commit; 16 R395. -/
  time : Nat
  /-- time from which it is pending; 16 R396. -/
  since : Nat
  /-- the content that the latest commit replaced; 16 R395. -/
  prev : Option CanMsg
  /-- single-shot CAN_SEND; 16 R402. -/
  once : Bool
  /-- consecutive attempts that ended in a data-phase bit error; 16 R402. -/
  clash : Nat
  /-- a CAN_ABORT waits for the end of the attempt in progress; 16 R398. -/
  abort : Bool
  /-- its content is a host frame; 16 R398. -/
  host : Bool
  deriving DecidableEq, Repr

/-- The reset contents of `CanBuf`. -/
def CanBuf.reset : CanBuf :=
  { pending := false,
    msg := CanMsg.reset,
    time := 0,
    since := 0,
    prev := none,
    once := false,
    clash := 0,
    abort := false,
    host := false }

/-- A frame in a receive FIFO (R404, R405). -/
structure CanRx where
  /-- identifier; 16 R404. -/
  ident : Nat
  /-- extended format; 16 R404. -/
  ext : Bool
  /-- data; 16 R404. -/
  data : List Byte
  /-- stamp; 16 R405. -/
  stamp : Int
  /-- UNC; 16 R405. -/
  unc : Nat
  /-- time of its arrival since reset; 16 R407. -/
  time : Nat
  deriving DecidableEq, Repr

/-- A message in reassembly (R407). -/
structure CanAsm where
  /-- 0 fast packet, 1 broadcast transport; 16 R407. -/
  kind : Nat
  /-- source address; 16 R407. -/
  sa : Nat
  /-- parameter group number of the message; 16 R407. -/
  pgn : Nat
  /-- sequence number of a fast packet; 16 R407. -/
  seq : Nat
  /-- number of the next frame; 16 R407. -/
  next : Nat
  /-- bytes of the message; 16 R407. -/
  total : Nat
  /-- bytes so far; 16 R407. -/
  data : List Byte
  /-- stamp of the first frame; 16 R407. -/
  stamp : Int
  /-- UNC of the first frame; 16 R405. -/
  unc : Nat
  /-- arrival of the latest frame; 16 R407. -/
  last : Nat
  deriving DecidableEq, Repr

/-- A CAN FD controller (R391 to R410). -/
structure CanCtl where
  /-- CAN_STATUS.STATE; 16 R410. -/
  state : Nat
  /-- RESTRICTED; 16 R403. -/
  restricted : Bool
  /-- OFF; 16 R410. -/
  off : Bool
  /-- TDC; 16 R410. -/
  tdc : Nat
  /-- TEC; 16 R399. -/
  tec : Nat
  /-- REC; 16 R399. -/
  rxErr : Nat
  /-- CAN_LAST_ERR.CODE; 16 R410. -/
  errCode : Nat
  /-- CAN_LAST_ERR.PHASE; 16 R410. -/
  errData : Bool
  /-- CAN_LAST_ERR.TX; 16 R410. -/
  errTx : Bool
  /-- CAN_LAST_ERR.BUFFER; 16 R410. -/
  errBuf : Nat
  /-- CAN_SINGLE; 16 R402. -/
  single : Word
  /-- transmit buffers; 16 R396. -/
  bufs : Vector CanBuf 32
  /-- receive FIFO; 16 R404. -/
  fifo : List CanRx
  /-- a frame was lost since the FIFO was last emptied; 16 R404. -/
  lostSince : Bool
  /-- messages in reassembly; 16 R407. -/
  asms : List CanAsm
  /-- the reference message was committed while the part might send it; 16 R408. -/
  refSend : Bool
  /-- time of the latest bus-off; 16 R401. -/
  offAt : Nat
  deriving DecidableEq, Repr

/-- The reset contents of `CanCtl`. -/
def CanCtl.reset : CanCtl :=
  { state := 0,
    restricted := true,
    off := true,
    tdc := 0,
    tec := 0,
    rxErr := 0,
    errCode := 0,
    errData := false,
    errTx := false,
    errBuf := 0,
    single := 0,
    bufs := Vector.replicate 32 CanBuf.reset,
    fifo := [],
    lostSince := false,
    asms := [],
    refSend := false,
    offAt := 0 }

/-- The CAN FD controllers (spec/16). -/
structure Can where
  /-- CAN0, CAN1, CAN2; 16 R410. -/
  ctls : Vector CanCtl 3
  deriving DecidableEq, Repr

/-- The reset contents of `Can`. -/
def Can.reset : Can :=
  { ctls := Vector.replicate 3 CanCtl.reset }

/-- What the latest beacon acted on said (R524). -/
structure LinkBeacon where
  /-- the master's address; 23 R520. -/
  src : Nat
  /-- its RANK; 23 R524. -/
  rank : Nat
  /-- its frame number; 23 R520. -/
  frame : Word
  /-- its device time of that tick; 23 R524. -/
  time : Int
  /-- its L; 23 R524. -/
  len : Nat
  /-- the members it heard; 23 R524. -/
  mask : Word
  /-- its CASCADE_ID; 23 R526. -/
  casc : Word
  /-- it is in pair mode; 23 R526. -/
  pair : Bool
  /-- course count when it came; 23 R527. -/
  course : Nat
  deriving DecidableEq, Repr

/-- What an import record keeps (R531). -/
structure ImportSt where
  /-- course count of the latest publication, or of the activation; 23 R531. -/
  since : Nat
  /-- STALE is set on the block; 23 R531. -/
  stale : Bool
  deriving DecidableEq, Repr

/-- The reset contents of `ImportSt`. -/
def ImportSt.reset : ImportSt :=
  { since := 0,
    stale := false }

/-- The Yarerago link and the cascade (spec/23). -/
structure Ylk where
  /-- YLK_STATUS.STATE; 23 R526. -/
  state : Nat
  /-- TOPO; 23 R534. -/
  topo : Nat
  /-- PORT0_UP, PORT1_UP; 23 R518. -/
  up : Vector Bool 2
  /-- TICK_PORT; 23 R523. -/
  tickPort : Nat
  /-- MASTER; 23 R534. -/
  master : Nat
  /-- REFUSED; 23 R526. -/
  refused : Nat
  /-- YLK_MEMBERS.HEARD: members heard, with the course count of the latest frame; 23 R534. -/
  heard : List (Nat × Nat)
  /-- YLK_CABLE; 23 R519. -/
  cable : Vector Nat 2
  /-- YLK_DACC; 23 R523. -/
  dacc : Vector Nat 2
  /-- next SEQ of each class; 23 R520. -/
  seqOut : Vector Word 4
  /-- SEQ last acted on, key 4·SRC + class; 23 R522. -/
  seqIn : List (Nat × Word)
  /-- arrival of the latest marker on each port; 23 R523. -/
  markAt : Vector (Option Nat) 2
  /-- it is usable for the next course; 23 R523. -/
  markOk : Vector Bool 2
  /-- course bits of the latest marker; 23 R523. -/
  markBits : Nat
  /-- course count of the latest beacon on each port; 23 R529. -/
  bcnAt : Vector (Option Nat) 2
  /-- latest beacon acted on; 23 R524. -/
  bcn : Option LinkBeacon
  /-- course count of the latest beacon or marker of the master, or of entering the state; 23 R527. -/
  masterAt : Nat
  /-- second whose first beacon gave the offset of source 5; 23 R524. -/
  srcSec : Option Int
  /-- offset of source 5 since the latest measurement; 23 R524. -/
  srcOffset : Option Int
  /-- HOPS of the beacon that gave the latest offset of source 5; 23 R524. -/
  srcHops : Nat
  /-- own tick less the latest beacon's time, and the total steering then; 12 R305. -/
  bcnOff : Option (Int × Int)
  /-- latest verdict of other members, with the frame it came in; key 256·SRC + CCASE; 23 R532. -/
  verdicts : List (Nat × (Nat × Word))
  /-- latest combined verdicts; 23 R532. -/
  combined : List (Nat × Nat)
  /-- import records; 23 R531. -/
  imports : List (Nat × ImportSt)
  deriving DecidableEq, Repr

/-- The reset contents of `Ylk`. -/
def Ylk.reset : Ylk :=
  { state := 0,
    topo := 0,
    up := Vector.replicate 2 false,
    tickPort := 2,
    master := 0,
    refused := 0,
    heard := [],
    cable := Vector.replicate 2 0,
    dacc := Vector.replicate 2 0xFFFF,
    seqOut := Vector.replicate 4 0,
    seqIn := [],
    markAt := Vector.replicate 2 none,
    markOk := Vector.replicate 2 false,
    markBits := 0,
    bcnAt := Vector.replicate 2 none,
    bcn := none,
    masterAt := 0,
    srcSec := none,
    srcOffset := none,
    srcHops := 0,
    bcnOff := none,
    verdicts := [],
    combined := [],
    imports := [] }

/-- A record before it is programmed (R454, R455). -/
structure LogRec where
  /-- OP_SEC at forming; 19 R454. -/
  opSec : Word
  /-- CYCLES at forming; 19 R454. -/
  cycles : Nat
  /-- TYPE: 1 EVENT, 2 GAP, 3 START; 19 R454. -/
  typ : Nat
  /-- TIME_S and TIME_NS as one ns count; 19 R454. -/
  time : Int
  /-- SOURCE; 19 R454. -/
  src : Nat
  /-- CLASS; 19 R454. -/
  cls : Nat
  /-- FRAME; 19 R454. -/
  frame : Word
  /-- CODE; 19 R454. -/
  code : Word
  /-- COUNT; 19 R454. -/
  count : Half
  /-- FLAGS; 19 R454. -/
  flags : Nat
  /-- W0 to W4; 19 R454. -/
  data : List Word
  deriving DecidableEq, Repr

/-- A LOG_READ in progress (R461, R462). -/
structure LogRead where
  /-- its transfer number; 19 R461. -/
  xfer : Word
  /-- TAG of its command; 19 R461. -/
  tag : Half
  /-- first SEQ examined; 19 R462. -/
  first : Word
  /-- next SEQ to examine; 19 R462. -/
  next : Word
  /-- SEQs still to examine; 19 R462. -/
  left : Nat
  /-- records delivered; 19 R462. -/
  got : Nat
  /-- SEQs missing; 19 R462. -/
  missing : Nat
  /-- restricted to the foundation area; 19 R461. -/
  foundation : Bool
  deriving DecidableEq, Repr

/-- STATE of the log memory (R464). -/
inductive LogState where
  /-- 0. -/
  | absent
  /-- 1. -/
  | identifying
  /-- 2. -/
  | unformatted
  /-- 3. -/
  | running
  /-- 4. -/
  | failed
  /-- 5. -/
  | unsupported
  deriving DecidableEq, Repr

/-- The recorder and the log memory (spec/19). -/
structure Log where
  /-- LOG_STATUS.STATE; 19 R464. -/
  state : LogState
  /-- LOG_STATUS.FOUND_FULL; 19 R464. -/
  foundFull : Bool
  /-- LOG_STATUS.ERASING; 19 R464. -/
  erasing : Bool
  /-- circulating sector entered last, the next one of which has been erased; 19 R452. -/
  entered : Option Nat
  /-- LOG_NEXT_SEQ; 19 R464. -/
  nextSeq : Word
  /-- WRAPS of the header; 19 R451. -/
  wraps : Nat
  /-- GEN of the header; 19 R452. -/
  gen : Nat
  /-- LOG_DENSITY; 19 R464. -/
  log2 : Nat
  /-- JEDEC identity found; 19 R459. -/
  jedec : Nat
  /-- NO_ERASE in use since the identification; 19 R450. -/
  noErase : Bool
  /-- the log header that both copies hold; 19 R452. -/
  header : List Byte
  /-- the slots of the fitted memory that are not erased; 19 R451. -/
  slots : List (Nat × List Byte)
  /-- the holding area, oldest first; 19 R455. -/
  hold : List LogRec
  /-- SEQ of the program in progress, of the record at the head of the holding area; 19 R451. -/
  prog : Option Word
  /-- consumed SEQs without a valid record; 19 R460. -/
  consumed : List Word
  /-- low word of the seconds at the failure; 19 R460. -/
  failSec : Word
  /-- LOG_MARK_SEC; 19 R456. -/
  secs : Word
  /-- SEC_OVF; 19 R464. -/
  secOvf : Bool
  /-- LOG_MARK_CYC.CYC; 19 R456. -/
  cycles : Nat
  /-- CYC_OVF; 19 R464. -/
  cycOvf : Bool
  /-- ns of the second in progress; 19 R456. -/
  subSec : Nat
  /-- LOG_READs queued or in progress; 19 R461. -/
  reads : List LogRead
  /-- records at the front of the holding area that were restored; 19 R457. -/
  restored : Nat
  /-- words of the START record; 19 R457. -/
  start : List Word
  /-- a memory has been identified since the reset; 19 R456. -/
  restarted : Bool
  /-- the last save was incomplete, so the gap record says so; 19 R460. -/
  lost : Bool
  deriving DecidableEq, Repr

/-- The reset contents of `Log`. -/
def Log.reset : Log :=
  { state := .absent,
    foundFull := false,
    erasing := false,
    entered := none,
    nextSeq := 0,
    wraps := 0,
    gen := 0,
    log2 := 0,
    jedec := 0,
    noErase := false,
    header := [],
    slots := [],
    hold := [],
    prog := none,
    consumed := [],
    failSec := 0,
    secs := 0,
    secOvf := false,
    cycles := 0,
    cycOvf := false,
    subSec := 0,
    reads := [],
    restored := 0,
    start := [],
    restarted := false,
    lost := false }

/-- One SRAM bank (R466, R472, R478). -/
structure Bank where
  /-- owner code; 20 R481. -/
  owner : Nat
  /-- in retention; 20 R481. -/
  retained : Bool
  /-- march failure; 20 R481. -/
  failed : Bool
  /-- the pass of this MARCH_PERIOD is complete; 20 R478. -/
  passDone : Bool
  deriving DecidableEq, Repr

/-- The reset contents of `Bank`. -/
def Bank.reset : Bank :=
  { owner := 15,
    retained := false,
    failed := false,
    passDone := false }

/-- A MEM_TEST in progress (R479). -/
structure MarchTest where
  /-- command ring; 20 R479. -/
  ring : Nat
  /-- number of the descriptor; 20 R479. -/
  ref : Nat
  /-- target; 20 R479. -/
  target : Nat
  /-- form; 20 R479. -/
  form : Nat
  /-- preserving slices run; 20 R479. -/
  slices : Nat
  deriving DecidableEq, Repr

/-- A save area of the reserve store, with its content blocks (R475, R506). -/
structure SaveArea where
  /-- MAGIC stands; 20 R475. -/
  magic : Bool
  /-- the valid mark stands; 20 R475. -/
  mark : Bool
  /-- the CRC-64 over header and content is correct; 20 R475. -/
  crcGood : Bool
  /-- SAVE_SEQ; 20 R475. -/
  seq : Word
  /-- LENGTH; 20 R475. -/
  length : Nat
  /-- FRAME; 20 R475. -/
  frame : Word
  /-- DIGEST; 20 R475. -/
  digest : List Byte
  /-- block 2; 22 R506. -/
  seed : Option EstSeed
  /-- block 3; 22 R506. -/
  warm : List WarmEntry
  /-- block 4; 22 R506. -/
  gnss : Option GnsSeed
  /-- block 5; 22 R506. -/
  freq : Option Int
  /-- block 6; 22 R506. -/
  dp : Option DpReport
  /-- block 7; 22 R506. -/
  hold : List LogRec
  /-- consumed SEQs, with block 7 (log entry 99); 19 R458. -/
  consumed : List Word
  /-- block 8; 22 R506. -/
  staging : List SEntry
  /-- block 9; 22 R506. -/
  slots : List SEntry
  deriving DecidableEq, Repr

/-- The reset contents of `SaveArea`. -/
def SaveArea.reset : SaveArea :=
  { magic := false,
    mark := false,
    crcGood := false,
    seq := 0,
    length := 0,
    frame := 0,
    digest := [],
    seed := none,
    warm := [],
    gnss := none,
    freq := none,
    dp := none,
    hold := [],
    consumed := [],
    staging := [],
    slots := [] }

/-- A copy of the mason's mark counters in the persistent area (R475, R456). -/
structure MarkCopy where
  /-- the copy is readable; 20 R475. -/
  valid : Bool
  /-- OP_SEC; 19 R456. -/
  secs : Word
  /-- its overflow flag; 19 R456. -/
  secOvf : Bool
  /-- CYCLES; 19 R456. -/
  cycles : Nat
  /-- its overflow flag; 19 R456. -/
  cycOvf : Bool
  deriving DecidableEq, Repr

/-- The reset contents of `MarkCopy`. -/
def MarkCopy.reset : MarkCopy :=
  { valid := false,
    secs := 0,
    secOvf := false,
    cycles := 0,
    cycOvf := false }

/-- On-chip memory (spec/20). -/
structure Mem where
  /-- the banks; 20 R466. -/
  banks : Vector Bank 64
  /-- MEM_GRP_MODE; 20 R481. -/
  interleaved : Nat
  /-- the SRAM; 20 R465. -/
  sram : List Host.Cell
  /-- the mortar memory; 20 R473. -/
  mortar : List Host.Cell
  /-- poisoned SRAM words; 20 R470. -/
  poisoned : List Nat
  /-- poisoned mortar words; 20 R470. -/
  mortarPoisoned : List Nat
  /-- end of the slice in progress; MARCH_BUSY while it is to come; 20 R477. -/
  sliceEnd : Nat
  /-- MEM_STATUS.MARCH_BANK; 20 R481. -/
  bank : Nat
  /-- window of the slice in progress; 20 R477. -/
  window : Nat
  /-- window of the latest slice, locked until its end; 20 R477. -/
  locked : Option (Nat × Nat)
  /-- earliest time of the retry of an aborted slice; 20 R477. -/
  retryAfter : Nat
  /-- MEM_TEST in progress; 20 R479. -/
  test : Option MarchTest
  /-- start of the march period in progress; 20 R478. -/
  periodStart : Nat
  /-- MEM_BANK_SEL; 20 R481. -/
  selBank : Nat
  /-- MEM_BANK_INFO; 20 R481. -/
  info : Word
  /-- MEM_HANDOVER.BANK; 20 R481. -/
  handBank : Nat
  /-- MEM_HANDOVER.OWNER; 20 R481. -/
  handOwner : Nat
  /-- MEM_ECC_ADDR; 20 R481. -/
  eccAddr : Word
  /-- corrected errors of the latest hour since ECC_WARN was last reached; 20 R470. -/
  ceTimes : List Nat
  /-- save area A; 20 R475. -/
  areaA : SaveArea
  /-- save area B; 20 R475. -/
  areaB : SaveArea
  /-- the two copies of the mason's mark counters; 20 R475. -/
  marks : Vector MarkCopy 2
  /-- copy written next; 20 R475. -/
  markNext : Nat
  /-- MEM_RSV.A_VALID; 20 R481. -/
  rsvValidA : Bool
  /-- MEM_RSV.B_VALID; 20 R481. -/
  rsvValidB : Bool
  /-- MEM_RSV.NEWEST; 20 R481. -/
  rsvNewest : Bool
  /-- MEM_RSV.RESTORED; 20 R481. -/
  rsvRestored : Bool
  /-- MEM_RSV.SAVE_SEQ; 20 R481. -/
  rsvSeq : Word
  deriving DecidableEq, Repr

/-- The reset contents of `Mem`. -/
def Mem.reset : Mem :=
  { banks := Vector.replicate 64 Bank.reset,
    interleaved := 0,
    sram := [],
    mortar := [],
    poisoned := [],
    mortarPoisoned := [],
    sliceEnd := 0,
    bank := 0,
    window := 0,
    locked := none,
    retryAfter := 0,
    test := none,
    periodStart := 0,
    selBank := 0,
    info := 15#32,
    handBank := 0,
    handOwner := 0,
    eccAddr := 0,
    ceTimes := [],
    areaA := SaveArea.reset,
    areaB := SaveArea.reset,
    marks := Vector.replicate 2 MarkCopy.reset,
    markNext := 0,
    rsvValidA := false,
    rsvValidB := false,
    rsvNewest := false,
    rsvRestored := false,
    rsvSeq := 0 }

/-- Identification, domains and crossings (spec/25 R552, spec/21 R497). -/
structure Glb where
  /-- GLB_FW.RUNNING; 25 R552. -/
  fwRunning : Bool
  /-- GLB_FW.RELEASE; 25 R552. -/
  fwRelease : Nat
  /-- GLB_CLKMON; 21 R497. -/
  clkRun : Vector Bool 11
  /-- state of each crossing: 0 RUNNING, 1 RESETTING, 2 STALLED; 21 R497. -/
  xState : Vector Nat 32
  /-- GLB_XSEL; 21 R497. -/
  xsel : Nat
  /-- GLB_XINFO; 21 R497. -/
  xinfo : Word
  /-- when pair 5 last serviced the plinth watchdog; 21 R491. -/
  fedAt : Nat
  deriving DecidableEq, Repr

/-- The reset contents of `Glb`. -/
def Glb.reset : Glb :=
  { fwRunning := false,
    fwRelease := 0,
    clkRun := Vector.replicate 11 true,
    xState := Vector.replicate 32 0,
    xsel := 0,
    xinfo := 0,
    fedAt := 0 }

/-- An OTP operation in progress (R538). -/
structure OtpOp where
  /-- OP. -/
  op : Nat
  /-- SLOT. -/
  slot : Nat
  /-- The data window when the operation started. -/
  data : List Byte
  deriving DecidableEq, Repr

/-- An image key slot (R535). -/
structure KeySlot where
  /-- The slot's one use is consumed. -/
  used : Bool
  /-- Its valid mark stands. -/
  valid : Bool
  /-- KEY_ID. -/
  keyId : Word
  /-- Public key X, big-endian. -/
  x : List Byte
  /-- Public key Y, big-endian. -/
  y : List Byte
  deriving DecidableEq, Repr

/-- OTP, seals and security registers (spec/24). -/
structure Sec where
  /-- GLB_SERIAL; 25 R552. -/
  serial : DWord
  /-- GLB_SEC_STATUS.SEAL; 24 R546. -/
  sealCode : Half
  /-- GLB_SEC_VERSION.RUNNING; 24 R546. -/
  runVersion : Nat
  /-- GLB_OTP_STATUS.BUSY, the programming operation; 24 R546. -/
  otpBusy : Option OtpOp
  /-- GLB_OTP_CTRL was written while BUSY; 24 R538. -/
  otpHit : Bool
  /-- GLB_OTP_STATUS.RESULT; 24 R546. -/
  otpResult : Nat
  /-- GLB_OTP_DATA0 to GLB_OTP_DATA31; 24 R546. -/
  otpData : Vector Word 32
  /-- identity records in order of writing, with their valid mark; 24 R535. -/
  idRecords : List (Bool × List Byte)
  /-- image key slots; 24 R535. -/
  keys : Vector KeySlot 4
  /-- image key revocations; 24 R535. -/
  revoked : Vector Bool 4
  /-- firmware key revocations; 24 R535. -/
  fwRevoked : Vector Bool 2
  /-- seal-code bindings in order, with their valid mark; 24 R535. -/
  bindings : List (Bool × Half)
  /-- steps used of the minimum-version counter; 24 R536. -/
  steps : Nat
  deriving DecidableEq, Repr

/-- The reset contents of `Sec`. -/
def Sec.reset : Sec :=
  { serial := 0,
    sealCode := 0,
    runVersion := 0,
    otpBusy := none,
    otpHit := false,
    otpResult := 0,
    otpData := Vector.replicate 32 0,
    idRecords := [],
    keys := Vector.replicate 4 ⟨false, false, 0, [], []⟩,
    revoked := Vector.replicate 4 false,
    fwRevoked := Vector.replicate 2 false,
    bindings := [],
    steps := 0 }

/-- A hold-up save in progress (R503). -/
inductive SaveKind where
  /-- Full save. -/
  | full
  /-- Short save. -/
  | short
  /-- No save: held in reset until power-on. -/
  | none
  deriving DecidableEq, Repr

/-- Power, hold-up and start-up (spec/22). -/
structure Pwr where
  /-- the part is held in reset; 21 R492. -/
  inReset : Bool
  /-- the plinth is held in reset until power-on; 22 R503. -/
  held : Bool
  /-- PWR_STATUS.PHASE; 22 R517. -/
  phase : Nat
  /-- PWR_STATUS.CAUSE; 22 R517. -/
  cause : Nat
  /-- the plinth's latched cause; 22 R507. -/
  latched : Nat
  /-- PWR_VIN.VINA; 22 R517. -/
  vina : Nat
  /-- PWR_VIN.VINB; 22 R517. -/
  vinb : Nat
  /-- PWR_HOLD.VOLT; 22 R517. -/
  hold : Nat
  /-- PWR_HOLD.CAP; 22 R517. -/
  cap : Nat
  /-- PWR_HOLD.ESR; 22 R517. -/
  esr : Nat
  /-- when HOLD was last tested; 22 R500. -/
  testAt : Nat
  /-- PWR_STATUS.CHARGING; 22 R517. -/
  charging : Bool
  /-- PWR_STATUS.HOLD_FAULT; 22 R517. -/
  holdFault : Bool
  /-- HOLD was FULL when last judged; 22 R500. -/
  full : Bool
  /-- PWR_VBAT.VOLT; 22 R517. -/
  vbat : Nat
  /-- PWR_STATUS.VBAT_LOW; 22 R517. -/
  vbatLow : Bool
  /-- PWR_STATUS.RTC_VALID; 22 R517. -/
  rtcValid : Bool
  /-- the real-time counter less `now`; 12 R309. -/
  rtc : Option Int
  /-- PWR_FW_STATUS.RESULT; 22 R517. -/
  fwResult : Nat
  /-- PWR_FW_STATUS.RELEASE; 22 R517. -/
  fwRelease : Nat
  /-- the firmware fetch that GO started; 22 R511. -/
  fwGo : Option (Nat × Nat)
  /-- PWR_SELFTEST; 22 R517. -/
  selftest : Nat
  /-- PWR_START_TIME; 22 R517. -/
  startTime : Nat
  /-- the hold-up save in progress; 22 R502. -/
  save : Option SaveKind
  /-- restored blocks 2 and 3, kept until the first activation; 22 R514. -/
  kept : Option SaveArea
  deriving DecidableEq, Repr

/-- The reset contents of `Pwr`. -/
def Pwr.reset : Pwr :=
  { inReset := false,
    held := false,
    phase := 2,
    cause := 0,
    latched := 0,
    vina := 0,
    vinb := 0,
    hold := 0,
    cap := 0,
    esr := 0,
    testAt := 0,
    charging := false,
    holdFault := false,
    full := false,
    vbat := 0,
    vbatLow := false,
    rtcValid := false,
    rtc := none,
    fwResult := 0,
    fwRelease := 0,
    fwGo := none,
    selftest := 0,
    startTime := 0,
    save := none,
    kept := none }

/-- The content of a state image (R340). -/
structure StateImage where
  /-- The last frame whose work the catch-up has run (R340 step 5; assumption 27). -/
  frame : Word
  /-- Filter bank, history and reference states. -/
  est : Est
  /-- Warm-start store. -/
  store : List (Nat × WarmEntry)
  /-- Alignment buffer. -/
  buffer : List IntakeRec
  /-- Aligned point view. -/
  aligned : List (Nat × Pt)
  /-- Control state. -/
  ctl : Ctl
  /-- Allocation state. -/
  alloc : Alloc
  /-- Consequence state. -/
  csq : Csq
  /-- Trim state. -/
  trim : Trim
  /-- Keystone sequence number. -/
  seq : Word
  deriving DecidableEq, Repr

/-- The outputs given out, oldest first: the model's record of what leaves the block. -/
abbrev Outs := List Out

/-- No output given out yet. -/
def Outs.reset : Outs := []

end Sys2Proof.Machine
end

