-- ==== Sys2Proof/Syntax.lean ====
section
/-! DEFINITION. The commands of the block: one constructor for each row of spec/opcode_table.json. -/

namespace Sys2Proof
open Sys2Proof.Machine

/-- The commands of the block, in the order of spec/opcode_table.json. -/
inductive Instr where
  /-- COURSE_TICK (R31): The time engine makes a course tick every 1 ms of device time, starting a new course of 50 slots. -/
  | courseTick
  /-- FRAME_TICK (R38): Every L-th course tick opens a new frame and increments the frame number. -/
  | frameTick
  /-- SUBSTITUTE_TICK (R35): When no ring-master tick arrives within 20 µs of its expected time, the part makes its own tick and sets TICK_SRC to 2. -/
  | substituteTick
  /-- TICK_PHASE_SLEW_END (R34): The tick phase slew reaches zero offset, SLEWING clears and a new anchor follows. -/
  | tickPhaseSlewEnd
  /-- DEADLINE_MISS (R46): The owner's slot timer stops an item still running at the end of its deadline slot, discards its shadow buffer and holds the previous result as stale. -/
  | deadlineMiss (t code : Nat)
  /-- ALIGN (R98): The ALIGN item hands buffered intake records with HAND_FRAME up to k and stamps before T_k to estimation. -/
  | align (t : Nat)
  /-- ESTIMATE (R150): The ESTIMATE item applies late records, propagates 17 filters, dispatches covariance steps and updates means. -/
  | estimate (t : Nat) (ends : List (Nat × OwnEnd))
  /-- VOTE (R155): The VOTE item counts gate failures, votes references out, forms the main result and writes reference states. -/
  | vote (t : Nat)
  /-- REF_SILENT (R160): A reference without data for SILENCE courses, or whose quoin entry is silent, becomes SILENT. -/
  | refSilent (t ref : Nat)
  /-- REF_READMISSION_COMPLETE (R166): A WARMING reference's in-gate count reaches READMIT and it becomes ADMITTED. -/
  | refReadmissionComplete (t ref : Nat)
  /-- BOOTSTRAP_ADMISSION (R158): A bootstrap candidate agrees with the median for INIT_PERIOD frames and is admitted, seeding the class states. -/
  | bootstrapAdmission (t ref : Nat)
  /-- CLASS_COAST_TIMEOUT (R169): A coasting class exceeds its σ limit or DR_TIME and is lost, returning to bootstrap. -/
  | classCoastTimeout (t cls : Nat)
  /-- LAW (R181): The LAW item evaluates forced mode changes, runs the reference model and forms the demanded force. -/
  | law (t : Nat)
  /-- JOYSTICK_LOST (R184): A joystick point of bad quality or not updated for JOY_STALE courses makes all joystick values zero. -/
  | joystickLost (t : Nat)
  /-- GAIN_AUTO_EVALUATION (R195): Once per second the automatic gain choice evaluates a candidate set and may change set. -/
  | gainAutoEvaluation (t : Nat)
  /-- CURRENT_REPORT (R187): Once per second LAW derives and reports current speed and direction from the bias. -/
  | currentReport (t : Nat)
  /-- DISPATCH (R211): The DISPATCH item sets availability, branches, bias and bounds and submits the nominal problem first. -/
  | dispatch (t : Nat)
  /-- CASE_DISPATCH (R269): The CASE_DISPATCH item completes case data blocks and releases the analysis feed list. -/
  | caseDispatch (t : Nat)
  /-- RELEASE (R209): The RELEASE item reads the nominal result, forms unit commands and the allocation record. -/
  | release (t : Nat)
  /-- AVAIL_POINT_STALE (R215): An AVAIL_POINT unusable for POWER_STALE courses makes its bus use its fallback availability. -/
  | availPointStale (t bus : Nat)
  /-- DIGEST (R336): The DIGEST item computes the frame digest and sends the pair message over the link and as a heartbeat. -/
  | digest (t : Nat)
  /-- PAIR_COMPARE (R337): At the end of course 1 slot 33 both parts compare digests and apply the comparison outcome. -/
  | pairCompare (t : Nat)
  /-- KEYSTONE (R21): The KEYSTONE item hands all copies of the keystone frame to the network and CAN send engines in one slot. -/
  | keystone (t : Nat) (full : Nat)
  /-- CONFIRM (R359): The buttress checks the send-path tap for OUT on removed units and sends the regular safety frame. -/
  | confirm (t : Nat)
  /-- CONFIRM_MISS (R360): CONFIRM does not finish by slot 39, so the tap check is skipped and the safety frame carries CONFIRM_MISS. -/
  | confirmMiss (t : Nat)
  /-- POST_POINTS (R372): The POST_POINTS item writes the frame's records into the system area of the point image. -/
  | postPoints (run : PostRun)
  /-- POST_LOG (R43): The POST_LOG item posts the frame's recorder entries. -/
  | postLog (t : Nat)
  /-- CASE_COLLECT (R271): The CASE_COLLECT item gives each case a verdict and forms utilisation and drift-off times. -/
  | caseCollect (t : Nat)
  /-- ENV_COLLECT (R275): The ENV_COLLECT item takes step verdicts, advances runs and publishes the envelope set at the last slice. -/
  | envCollect (t : Nat)
  /-- CONSEQ_REPORT (R278): The CONSEQ_REPORT item sets the consequence state, writes the record and builds the next frame's blocks. -/
  | conseqReport (t : Nat)
  /-- TRIM (R291): The TRIM item runs trim and heel holding: states, the trim problem and the pump and valve command points. -/
  | trim (t : Nat) (fin : Option OwnEnd)
  /-- GNSS_NAV (R115): The GNSS_NAV item decodes, corrects, checks and forms the epoch's measurement records and solutions. -/
  | gnssNav (t : Nat) (nav : List (Nat × List Byte)) (iono : List Byte) (obs : List GnsObs) (sols : List (Option GnsSol)) (hd : GnsHeading)
  /-- HOST (R419): The HOST item serves the command rings and writes queued event entries. -/
  | host (t : Nat) (fetches : List Fetch)
  /-- DESCRIPTOR_PHASE_TIMEOUT (R419): A descriptor whose phase still mismatches after 1 ms completes with FETCH_ERROR. -/
  | descriptorPhaseTimeout (t ring : Nat)
  /-- NET (R383): The NET item publishes outbound Zwilux entries and serves network protocols. -/
  | net (t : Nat) (full : Nat)
  /-- SUPERVISE (R489): The SUPERVISE item of pair 5 supervises the part and resets stalled crossings whose clocks run again. -/
  | supervise (t : Nat)
  /-- RECORDER (R455): The RECORDER item forms log records from the staging FIFO and coalescing slots and starts programs. -/
  | recorder (t : Nat)
  /-- MARCH (R478): The MARCH item runs preserving March C− slices over awake banks and the mortar memory. -/
  | march (t : Nat) (failed : Bool)
  /-- COMPLETION_POST (R421): A completion is written once its command has ended and every earlier completion of its ring is written. -/
  | completionPost (t ring : Nat)
  /-- MSIX_MODERATION_EXPIRY (R427): At the end of the MOD time, a further MSI-X message is sent when entries were written since the last one. -/
  | msixModerationExpiry (t ring : Nat)
  /-- NOP (R423): Command 0x01 does nothing and completes at once. -/
  | nop (t : Nat) (h : CmdHdr)
  /-- IMAGE_LOAD (R67): Command 0x10 fetches an image into the staging slot by DMA and verifies it. -/
  | imageLoad (t : Nat) (h : CmdHdr)
  /-- IMAGE_VERIFY_DONE (R67): Fetch and verification end, leaving the slot VERIFIED or REFUSED, and IMAGE_LOAD completes. -/
  | imageVerifyDone (t : Nat) (img : Option (List Byte))
  /-- IMAGE_ACTIVATE (R69): Command 0x11 schedules activation of the staged image at a target frame. -/
  | imageActivate (t : Nat) (h : CmdHdr) (n : Word)
  /-- IMAGE_ACTIVATION_TICK (R70): At the tick of the target frame the staged image takes effect, or the activation is abandoned. -/
  | imageActivationTick
  /-- IMAGE_DISCARD (R67): Command 0x12 returns the staging slot to EMPTY. -/
  | imageDiscard (t : Nat) (h : CmdHdr)
  /-- IMAGE_DISCARD_STOP (R67): A discard during LOADING stops fetch and verification at the service-run boundary of pair 5. -/
  | imageDiscardStop (t : Nat)
  /-- IMAGE_QUERY (R425): Command 0x13 returns serial, class, slot state and digest of the image. -/
  | imageQuery (t : Nat) (h : CmdHdr)
  /-- ANALOG_TEST (R95): Command 0x18 switches an analog channel to its normal input, zero or half scale. -/
  | analogTest (t : Nat) (h : CmdHdr) (channel input : Nat)
  /-- GNSS_CORRECTION (R122): Command 0x19 delivers RTCM SC-104 v3 frames to the receiver. -/
  | gnssCorrection (t : Nat) (h : CmdHdr) (data : List Byte)
  /-- GNSS_SNAPSHOT (R129): Command 0x1A requests a raw sample capture of selected streams. -/
  | gnssSnapshot (t : Nat) (h : CmdHdr) (secs ns dur streams tap : Nat)
  /-- SNAPSHOT_CAPTURE_START (R129): The capture starts at the first course tick at or after the requested time. -/
  | snapshotCaptureStart (t : Nat)
  /-- SNAPSHOT_CAPTURE_DONE (R129): The capture completes, the command completes and the snapshot is exported on the bulk ring. -/
  | snapshotCaptureDone (t : Nat) (samples : List Byte)
  /-- GNSS_QUERY (R425): Command 0x1B returns the latest standalone solution. -/
  | gnssQuery (t : Nat) (h : CmdHdr)
  /-- GRID_ORIGIN (R148): Command 0x20 sets the grid origin and carries held grid positions into the new grid. -/
  | gridOrigin (t : Nat) (h : CmdHdr) (lat lon height : Word)
  /-- REF_ENABLE (R172): Command 0x21 enables or disables a reference. -/
  | refEnable (t : Nat) (h : CmdHdr) (ref on : Nat)
  /-- REF_TARGET (R172): Command 0x22 sets a range-bearing target or taut-wire weight position, given or captured. -/
  | refTarget (t : Nat) (h : CmdHdr) (ref capture : Nat) (n e : Word)
  /-- REF_STATUS (R171): Command 0x23 returns a reference's status and optionally clears its counters. -/
  | refStatus (t : Nat) (h : CmdHdr) (ref : Nat)
  /-- EST_QUERY (R170): Command 0x24 returns the latest estimate record. -/
  | estQuery (t : Nat) (h : CmdHdr)
  /-- DP_MODE (R175): Command 0x28 changes the DP mode subject to entry conditions. -/
  | dpMode (t : Nat) (h : CmdHdr) (mode joy : Nat)
  /-- SETPOINT (R179): Command 0x29 sets a position and heading setpoint. -/
  | setpoint (t : Nat) (h : CmdHdr) (flags turn : Nat) (n e heading : Word)
  /-- GAIN_SELECT (R195): Command 0x2A fixes a gain set or selects automatic choice. -/
  | gainSelect (t : Nat) (h : CmdHdr) (set : Nat)
  /-- TRACK_LOAD (R188): Command 0x2B loads a track of 2 to 64 waypoints. -/
  | trackLoad (t : Nat) (h : CmdHdr) (data : List Byte)
  /-- BERTH_SET (R192): Command 0x2C sets the berth point, heading and quay side. -/
  | berthSet (t : Nat) (h : CmdHdr) (n e heading : Word) (side : Nat)
  /-- CTRL_QUERY (R200): Command 0x2D returns the latest control record. -/
  | ctrlQuery (t : Nat) (h : CmdHdr)
  /-- THRUSTER_ENABLE (R211): Command 0x30 enables or disables units for DP command. -/
  | thrusterEnable (t : Nat) (h : CmdHdr) (changed on : Half)
  /-- ALLOC_QUERY (R227): Command 0x31 returns the allocation record and the frame's unit command entries. -/
  | allocQuery (t : Nat) (h : CmdHdr)
  /-- CONSEQ_QUERY (R281): Command 0x32 returns the consequence record and optionally case entries, clearing held counts. -/
  | conseqQuery (t : Nat) (h : CmdHdr)
  /-- ENVELOPE_QUERY (R282): Command 0x33 returns the published capability envelope set. -/
  | envelopeQuery (t : Nat) (h : CmdHdr)
  /-- TRIM_START (R297): Command 0x38 starts trim and heel holding with targets. -/
  | trimStart (t : Nat) (h : CmdHdr) (heel trim : Half)
  /-- TRIM_SET (R297): Command 0x39 changes the heel and trim targets. -/
  | trimSet (t : Nat) (h : CmdHdr) (heel trim : Half)
  /-- TRIM_STOP (R297): Command 0x3A stops trim and heel holding. -/
  | trimStop (t : Nat) (h : CmdHdr)
  /-- TRIM_QUERY (R298): Command 0x3B returns the latest trim record. -/
  | trimQuery (t : Nat) (h : CmdHdr)
  /-- TIME_STEP_ACCEPT (R308): Command 0x40 accepts a pending time step by STEP_SEQ. -/
  | timeStepAccept (t : Nat) (h : CmdHdr) (seq : Nat)
  /-- TIME_SET (R308): Command 0x41 sets device time from a carried TAI time. -/
  | timeSet (t : Nat) (h : CmdHdr) (secs ns unc : Nat)
  /-- TIME_LEAP (R311): Command 0x42 sets the leap-second count. -/
  | timeLeap (t : Nat) (h : CmdHdr) (count : Nat)
  /-- CLAIM_RESUME (R324): Command 0x48 lets a part resume readiness after a give-up once READY_FRAMES pass without miss. -/
  | claimResume (t : Nat) (h : CmdHdr)
  /-- READINESS_REGAINED (R324): Control items run READY_FRAMES frames without a miss after CLAIM_RESUME, clearing streaks and GAVE_UP. -/
  | readinessRegained (t : Nat)
  /-- ROLE_EXCHANGE (R341): Command 0x49 proposes a role exchange at once. -/
  | roleExchange (t : Nat) (h : CmdHdr)
  /-- EXCHANGE_PROPOSAL_DUE (R341): EXCH_PERIOD elapses, or a 60 s retry expires, and the ACTIVE proposes an exchange. -/
  | exchangeProposalDue (t : Nat)
  /-- BTR_RESET (R353): Command 0x50 releases latched inputs, remote records and outputs at the next buttress course. -/
  | btrReset (t : Nat) (h : CmdHdr) (inputs : Half) (remotes outputs : Byte)
  /-- BTR_OUTPUT (R353): Command 0x51 requests safe outputs on or off at the next buttress course. -/
  | btrOutput (t : Nat) (h : CmdHdr) (changed on : Byte)
  /-- POINT_WRITE (R423): Command 0x58 writes a point of a host route block. -/
  | pointWrite (t : Nat) (h : CmdHdr) (point : Nat) (value : Word) (quality typ : Nat)
  /-- STREAM_SET (R387): Command 0x5A subscribes or replaces a point-stream ring's ranges. -/
  | streamSet (t : Nat) (h : CmdHdr) (stream count : Nat) (data : List Byte)
  /-- CAN_SEND (R398): Command 0x60 places a host frame in the lowest free host transmit buffer. -/
  | canSend (t : Nat) (h : CmdHdr) (ctl flags ident : Nat) (data : List Byte)
  /-- CAN_ABORT (R398): Command 0x61 ends a host buffer's pending state between attempts. -/
  | canAbort (t : Nat) (h : CmdHdr) (ctl buf : Nat)
  /-- CAN_RECOVER (R401): Command 0x62 begins bus-off recovery of a controller. -/
  | canRecover (t : Nat) (h : CmdHdr) (ctl : Nat)
  /-- CAN_MODE (R403): Command 0x63 sets normal or restricted operation. -/
  | canMode (t : Nat) (h : CmdHdr) (ctl mode : Nat)
  /-- LOG_READ (R461): Command 0x68 queues a bulk transfer of log records. -/
  | logRead (t : Nat) (h : CmdHdr) (first : Word) (count : Nat)
  /-- MEM_TEST (R479): Command 0x70 runs a preserving or destructive march test on a bank or the mortar memory. -/
  | memTest (t : Nat) (h : CmdHdr) (target form : Nat)
  /-- MEM_TEST_DONE (R479): A MEM_TEST ends and completes with the count of failing words. -/
  | memTestDone (t : Nat) (fin : MemTestEnd)
  /-- SENTENCE_START_STAMP (R86): A '$' or '!' on a UART raises the stamping interrupt and pair 3 takes the stamp. -/
  | sentenceStartStamp (t uart : Nat)
  /-- SENTENCE_RECEIVED (R84): A sentence ends with CR LF and is checked, parsed into an intake record or routed. -/
  | sentenceReceived (t uart : Nat) (bytes : List Byte)
  /-- IMU_SYNC_PULSE (R88): The part drives IMUn_SYNC at each sample period and begins the read 20 µs later. -/
  | imuSyncPulse (t port : Nat)
  /-- IMU_DRDY_EDGE (R88): The IMU drives IMUn_DRDY, the edge is stamped and the read begins. -/
  | imuDrdyEdge (t port : Nat)
  /-- IMU_FRAME_READ (R89): An IMU SPI read completes and the frame is checked and made into a record. -/
  | imuFrameRead (t port : Nat) (bytes : List Byte)
  /-- IMU_DRDY_TIMEOUT (R89): No DRDY edge within 1.5 sample periods adds one missing sample to SNI_GAP. -/
  | imuDrdyTimeout (t port : Nat)
  /-- ANALOG_OUTPUT (R90): At each output instant a channel delivers a decimated, stamped record. -/
  | analogOutput (t channel : Nat) (code : Int) (overrange : Bool)
  /-- ANALOG_STEP_DETECTED (R92): A step on a channel's input starts an unsettled run. -/
  | analogStepDetected (t channel : Nat)
  /-- QUOIN_ENTRY_SILENT (R101): A quoin entry without records for SILENCE courses becomes silent. -/
  | quoinEntrySilent (t entry : Nat)
  /-- NETWORK_SENTENCE_RX (R386): An IEC 61162-450 datagram arrives and its sentences are parsed and routed. -/
  | networkSentenceRx (t : Nat) (port : Port) (group : Nat) (bytes : List Byte)
  /-- CAN_FRAME_RX (R404): A CAN frame passes the acceptance filter, is stamped and queued in the receive FIFO. -/
  | canFrameRx (t ctl ident : Nat) (ext remote : Bool) (data : List Byte) (dur : Nat)
  /-- CAN_REASM_TIMEOUT (R407): A gap of more than 750 ms between frames discards a fast-packet or transport message. -/
  | canReasmTimeout (t ctl : Nat)
  /-- CAN_TX_ATTEMPT_END (R402): A transmit attempt ends, updating error counts, clash detection and pending state. -/
  | canTxAttemptEnd (t ctl buf dur : Nat) (outcome : CanEnd)
  /-- CAN_BUSOFF_WAIT_EXPIRY (R401): BUSOFF_WAIT elapses and automatic recovery begins. -/
  | canBusoffWaitExpiry (t ctl : Nat)
  /-- CAN_RECOVERY_DONE (R401): The recovery sequence completes and the controller is error-active. -/
  | canRecoveryDone (t ctl : Nat)
  /-- ANTENNA_SUPPLY_FAULT (R105): An antenna supply goes open, short or normal. -/
  | antennaSupplyFault (t ant ma : Nat)
  /-- ANTENNA_SUPPLY_RETRY (R105): One second after a short, the antenna supply is retried. -/
  | antennaSupplyRetry (t ant : Nat)
  /-- CHANNEL_ASSIGN_REVISION (R110): Once per second pair 3 revises the satellite channel assignment. -/
  | channelAssignRevision (t : Nat) (cands : List SatCand)
  /-- CARRIER_CONTINUITY_LOSS (R112): A channel loses lock, increments SLIP_SEQ and resets LOCK. -/
  | carrierContinuityLoss (t ant chan : Nat)
  /-- NOTCH_ANALYSIS (R125): Every 1 ms each stream is analysed and notches are placed. -/
  | notchAnalysis (t stream : Nat) (power : Int) (levels : List Int)
  /-- NOTCH_RELEASE (R125): A notch with no candidate for 100 ms is released. -/
  | notchRelease (t notch : Nat)
  /-- SPOOF_CLEAR (R128): After SPOOF_CLEAR of clean epochs, an antenna's spoofed state clears. -/
  | spoofClear (t ant : Nat)
  /-- CORRECTION_LAPSE (R123): RTCM corrections older than CORR_AGE lapse. -/
  | correctionLapse (t : Nat)
  /-- SOURCE_OFFSET_MEASURE (R303): Once per second each disciplining source yields an offset. -/
  | sourceOffsetMeasure (t src : Nat)
  /-- SOURCE_QUALIFIED (R304): A source good for QUAL_TIME seconds qualifies and selection is applied. -/
  | sourceQualified (t src : Nat)
  /-- SOURCE_LOST (R304): A source without good offset for LOSS_TIME seconds is lost and holdover may begin. -/
  | sourceLost (t src : Nat)
  /-- SOURCE_REVERT (R305): A higher-ranked source qualified for REVERT_TIME is selected. -/
  | sourceRevert (t src : Nat)
  /-- HOLDOVER_LIMIT_CROSSED (R310): The growing TIM_UNC crosses HO_LIMIT and HO_EXCEEDED is set or cleared. -/
  | holdoverLimitCrossed (t : Nat)
  /-- PPS_EDGE (R315): The PPS ball pulses once per second of device time. -/
  | ppsEdge (t : Nat)
  /-- EXT_PPS_EDGE (R303): An EXT_PPS edge is stamped for the external source offset. -/
  | extPpsEdge (edge : PpsEdge)
  /-- CAPTURE_EDGE (R317): An edge on EVT0 to EVT3 is stamped, queued in its FIFO and raised as an event. -/
  | captureEdge (t input : Nat) (edge : CapEdge)
  /-- PTP_MESSAGE_RX (R314): A PTP message arrives and feeds the port's state machine and offset. -/
  | ptpMessageRx (t : Nat) (port : Port) (rx : PtpRx)
  /-- PTP_MASTER_TX (R312): As master, the port sends Sync and Announce messages at their rates. -/
  | ptpMasterTx (t : Nat) (port : Port)
  /-- LOCKSTEP_MISMATCH (R14): A pair's comparator detects a mismatch and the part gives up control in the same course. -/
  | lockstepMismatch (t pair : Nat)
  /-- FEED_OUT_OF_RANGE (R322): A supply feed leaves 2.7 V to 5.5 V for 1 ms and the health term is removed. -/
  | feedOutOfRange (t feed mv : Nat)
  /-- PAIR_MESSAGE_RX (R336): A partner's pair message arrives over the link. -/
  | pairMessageRx (t : Nat) (hd : LinkHdr) (bytes : List Byte)
  /-- HEARTBEAT_RX (R336): A partner's heartbeat datagram arrives on network A or B. -/
  | heartbeatRx (t : Nat) (port : Port) (bytes : List Byte)
  /-- URGENT_YIELD_RX (R338): An urgent yield arrives and the STANDBY takes ACTIVE at the next KEYSTONE. -/
  | urgentYieldRx (t : Nat) (hd : LinkHdr) (bytes : List Byte)
  /-- REMOVAL_MASK_RX (R358): The partner's course-0 removal mask arrives over the link. -/
  | removalMaskRx (t : Nat) (hd : LinkHdr) (bytes : List Byte)
  /-- RESYNC_START (R340): A joiner sets the resynchronise flag and the state image transfer begins. -/
  | resyncStart (t : Nat) (joiner : Bool)
  /-- STATE_IMAGE_PIECE_RX (R340): A piece of the state image arrives over the link. -/
  | stateImagePieceRx (t : Nat) (hd : LinkHdr) (bytes : List Byte)
  /-- RESYNC_INSTALL (R340): The joiner installs the complete image and runs catch-up frames before entering PAIRED. -/
  | resyncInstall (t : Nat) (img : StateImage)
  /-- RESYNC_TIMEOUT (R340): The transfer exceeds SYNC_LIMIT frames and is counted as failed. -/
  | resyncTimeout (t : Nat)
  /-- RESYNC_RETRY (R340): 60 s after a failed transfer, the joiner starts again. -/
  | resyncRetry (t : Nat)
  /-- BUTTRESS_COURSE (R351): Each course the buttress samples inputs, evaluates demands, commands outputs and publishes the removal mask. -/
  | buttressCourse (chA chB : Half) (readH readL : Byte)
  /-- DISCREPANCY_FAULT (R352): An input's discrepancy count reaches DISC_TIME and the stop demand latches. -/
  | discrepancyFault (t input : Nat)
  /-- OUTPUT_STARTUP_TEST (R354): Before first ready, each switch of every listed output is closed and opened alone and checked. -/
  | outputStartupTest (t output : Nat) (good : Bool)
  /-- OUTPUT_TEST_START (R355): At 500 µs into a due course a channel's switch opens for its off-pulse test. -/
  | outputTestStart (output : Nat)
  /-- OUTPUT_TEST_END (R355): The off-pulse ends, the switch closes and readbacks are judged. -/
  | outputTestEnd (output : Nat) (openRead closedRead : Bool)
  /-- DEGRADED_LIMIT (R365): A degraded function's timer reaches DEG_LIMIT and it is forced safe. -/
  | degradedLimit (t : Nat) (remote : Bool) (number : Nat)
  /-- ISLAND_FAULT (R347): A buttress fault opens every safe output, disables its queues and sets all units removed. -/
  | islandFault (t : Nat)
  /-- BUTTRESS_BEAT_LOSS (R347): Pair 5 sees no change of BTR_BEAT for 3 courses and treats the buttress as faulted. -/
  | buttressBeatLoss (t : Nat)
  /-- SAFETY_FRAME_RX (R364): A remote source's safety frame arrives and is checked and acted on. -/
  | safetyFrameRx (t : Nat) (port : Port) (bytes : List Byte)
  /-- SAFETY_COPY_TIMEOUT (R364): A second copy fails to arrive within COPY_WAIT and the path becomes degraded. -/
  | safetyCopyTimeout (t number : Nat)
  /-- REMOTE_SOURCE_LOST (R364): A remote source with no valid frame for its TIMEOUT is lost and demands. -/
  | remoteSourceLost (t number : Nat)
  /-- ZWILUX_DATA_RX (R381): A Zwilux DATA message is checked and applied to its inbound route entry. -/
  | zwiluxDataRx (t : Nat) (port : Port) (u : UdpHdr) (bytes : List Byte)
  /-- ZWILUX_COMMAND_RX (R381): A Zwilux COMMAND message is applied where allowed and answered with an ACK. -/
  | zwiluxCommandRx (t : Nat) (port : Port) (u : UdpHdr) (bytes : List Byte)
  /-- ZWILUX_READ_RX (R382): A Zwilux READ is answered with a DATA reply. -/
  | zwiluxReadRx (t : Nat) (port : Port) (u : UdpHdr) (bytes : List Byte)
  /-- ROUTE_ENTRY_STALE (R377): An inbound entry without update for STALE_TIME sets STALE on its block. -/
  | routeEntryStale (t entry : Nat)
  /-- STREAM_PENDING_POST (R388): When a full point-stream ring has room again, pending points are posted with OVERRUN. -/
  | streamPendingPost (t stream : Nat)
  /-- NET_LINK_CHANGE (R384): The link of network A, B or the maintenance port goes up or down. -/
  | netLinkChange (t : Nat) (port : Port) (speed : Nat)
  /-- ICMP_ECHO_REQUEST (R384): An ICMP echo request is answered. -/
  | icmpEchoRequest (t : Nat) (port : Port) (src : Word) (bytes : List Byte)
  /-- ARP_REQUEST (R384): An ARP request for the part's address is answered. -/
  | arpRequest (t : Nat) (port : Port) (sender target : Word)
  /-- DOORBELL_WRITE (R416): A DBL write sets a ring's host position or is rejected. -/
  | doorbellWrite (t ring : Nat) (w : Word)
  /-- RING_ENABLE (R434): A write of HRG_RCTL.EN enables the selected ring, or is ignored. -/
  | ringEnable (t : Nat) (w : Word)
  /-- RING_RESET (R431): A write of HRG_RCTL.RESET resets the selected ring. -/
  | ringReset (t : Nat) (w : Word)
  /-- RING_RESET_DONE (R431): A command ring's aborted completions are written and its positions restart at 0. -/
  | ringResetDone (t ring : Nat)
  /-- HOST_ACCESS_FAILURE (R429): A host memory access fails and is retried once after 10 µs. -/
  | hostAccessFailure (t : Nat) (kind : HostAccess)
  /-- HOST_ACCESS_RETRY (R429): The retry runs and, when it fails too, the outcome of the access kind applies. -/
  | hostAccessRetry (t : Nat) (kind : HostAccess) (good : Bool) (done : Nat)
  /-- BULK_PIECE_WRITE (R428): A bulk piece is written once its bytes in the bulk area are free, then its entry. -/
  | bulkPieceWrite (piece : BulkPiece)
  /-- HOST_INTERFACE_RESET (R412): A hot reset, link-down or function level reset resets only the host interface. -/
  | hostInterfaceReset (t kind : Nat)
  /-- PROBLEM_SUBMIT (R229): A pair writes a problem descriptor and it enters the dispatch queue by class. -/
  | problemSubmit (t : Nat) (desc : List Byte)
  /-- FEED_LIST_MOVE (R268): The dispatcher moves the head of the feed list into the queue while it holds fewer than 128. -/
  | feedListMove (t : Nat)
  /-- LANE_TAKE (R229): A free lane takes the queue head, or the head is removed EXPIRED. -/
  | laneTake (t : Nat)
  /-- PROBLEM_RELEASE (R233): A lane finishes, the checker runs the residual test and writes the result block. -/
  | problemRelease (t : Nat) (fin : LaneEnd)
  /-- PROBLEM_LATE (R231): A lane still running at the problem's deadline stops it with status LATE. -/
  | problemLate (t : Nat) (fin : LaneEnd)
  /-- LANE_KAT (R256): A lane runs its known-answer test periodically or after a fault, and quarantine changes. -/
  | laneKat (t lane : Nat) (pass : Bool)
  /-- ARRAY_COMPARATOR_MISMATCH (R258): The dispatcher or a checker comparator mismatches, the array stops and the part gives up control. -/
  | arrayComparatorMismatch (t : Nat)
  /-- BALLAST_VALVE_FAULT (R293): A valve not open within TRAVEL + 2 s of its command is faulted. -/
  | ballastValveFault (t valve : Nat)
  /-- BALLAST_PUMP_FAULT (R293): A pump not running within 10 s of its command is faulted. -/
  | ballastPumpFault (t pump : Nat)
  /-- LOG_IDENTIFY (R450): The recorder resets, reads SFDP and identity and checks the log memory. -/
  | logIdentify (t : Nat) (dev : Option LogDev)
  /-- LOG_PROGRAM_DONE (R454): A record program and read-back end, valid or as a memory failure. -/
  | logProgramDone (t : Nat) (how : LogEnd)
  /-- LOG_REIDENTIFY (R459): Every 1 s a failed memory is identified again and returns if unchanged. -/
  | logReidentify (t : Nat) (dev : Option LogDev)
  /-- LOG_ERASE_DONE (R452): A circulating sector erase ends and held records resume. -/
  | logEraseDone (t : Nat) (how : LogEnd)
  /-- MASON_MARK_SAVE (R456): Every 60 s the mason's mark counters are saved to the reserve store. -/
  | masonMarkSave (t : Nat)
  /-- BANK_HANDOVER (R469): An owner hands a bank or group to a new owner. -/
  | bankHandover (t writer bank owner : Nat)
  /-- BANK_WAKE (R472): An access to a retained bank wakes it after 12 µs. -/
  | bankWake (t bank : Nat)
  /-- MARCH_SLICE_ABORT (R477): A processor access to a locked window aborts the slice and restores the window. -/
  | marchSliceAbort (t bank window : Nat)
  /-- MARCH_PASS_OVERDUE (R478): A bank's pass is incomplete after twice MARCH_PERIOD. -/
  | marchPassOverdue (t bank : Nat)
  /-- ECC_UNCORRECTABLE (R470): A read finds an uncorrectable error, poisons the word and returns an error. -/
  | eccUncorrectable (t : Nat) (site : EccSite) (reader : Reader)
  /-- MORTAR_WRITE_COLLISION (R474): Both mortar ports write different data to one word and the host transfer is repeated. -/
  | mortarWriteCollision (t ring start : Nat) (x : MortarXfer) (v0 : BitVec 64) (again : Bool)
  /-- CLOCK_STOPPED (R488): The monitor declares a domain clock stopped and stalls its crossings. -/
  | clockStopped (t domain : Nat)
  /-- CLOCK_RUNNING_AGAIN (R482): The monitor declares a stopped clock running again. -/
  | clockRunningAgain (t domain : Nat)
  /-- CROSSING_TIMEOUT (R488): A request on a stalled crossing ends with TIMEOUT 64 µs after issue. -/
  | crossingTimeout (t crossing item : Nat) (access : Option Nat)
  /-- CROSSING_RESET (R486): A crossing is reset as a whole on both sides. -/
  | crossingReset (t crossing discarded : Nat)
  /-- RESET_N_ASSERT (R491): RESET_N held low past its filter resets the part. -/
  | resetNAssert (t : Nat)
  /-- PLINTH_WATCHDOG_EXPIRY (R491): Pair 5 fails to service the plinth watchdog for 10 ms and the part resets. -/
  | plinthWatchdogExpiry (t : Nat)
  /-- POWER_ON_RESET (R491): The plinth regulator falls below threshold and the whole part resets. -/
  | powerOnReset
  /-- PART_RESET (R492): A part reset opens safe outputs, stops send engines and resets all domains but the plinth. -/
  | partReset (cause : Nat)
  /-- PART_RESET_RELEASE (R492): 100 µs after the last part-scope source ends, the part leaves reset. -/
  | partResetRelease (straps : Half)
  /-- GLB_RESET_WRITE (R493): A keyed write of GLB_RESET.PART resets the part when allowed. -/
  | glbResetWrite (w : Word)
  /-- HOLDUP_SAVE_START (R502): Both feeds below 2.55 V for 20 µs start a full, short or no save. -/
  | holdupSaveStart (t volt : Nat)
  /-- HOLDUP_SAVE_END (R504): At the end of the save the part is reset with cause hold-up save. -/
  | holdupSaveEnd (t : Nat)
  /-- HOLD_CHARGE_COMPLETE (R500): HOLD reaches its charge and the ESR is measured. -/
  | holdChargeComplete (t volt step : Nat) (rise : Option Nat)
  /-- HOLD_TEST (R500): Every HOLD_TEST hours the capacitor is discharged slightly to measure capacitance. -/
  | holdTest (t fall : Nat)
  /-- VBAT_LOW (R515): VBAT below VBAT_WARN sets VBAT_LOW, or below 1.8 V invalidates the counter. -/
  | vbatLow (t mv : Nat) (counterOnVbat : Bool)
  /-- FEED_QUALIFIED (R510): A feed stays in range for 10 ms with REFCLK running and start-up proceeds to BOOT. -/
  | feedQualified (vina vinb : Nat) (rtc : Option (Nat × Nat))
  /-- BOOT_DONE (R510): BOOT ends and the part waits for firmware in BOOT_WAIT. -/
  | bootDone (t failed : Nat) (banks : List Nat)
  /-- PWR_BOOT_GO (R511): A keyed write of PWR_BOOT.GO starts the firmware fetch and authentication. -/
  | pwrBootGo (w : Word)
  /-- FW_AUTH_DONE (R512): Authentication ends with a result and the part goes to SELFTEST or BOOT_WAIT. -/
  | fwAuthDone (t : Nat) (img : FwImage)
  /-- SELFTEST_DONE (R513): Self-tests end and the part goes to RESTORE or FAILED. -/
  | selftestDone (t failed : Nat) (lanes : List Nat)
  /-- RESTORE_DONE (R508): The reserve store is read and cleared and the part goes to RUNNING. -/
  | restoreDone (t : Nat)
  /-- LINK_PORT_CHANGE (R518): A Yarerago port goes up or down. -/
  | linkPortChange (t port : Nat) (up : Bool)
  /-- CABLE_DELAY_MEASURE (R519): Once per second each port measures the delay to its neighbour. -/
  | cableDelayMeasure (t port trip : Nat)
  /-- TICK_MARKER_RX (R523): A tick marker arrives on a port and is forwarded. -/
  | tickMarkerRx (t port hops course : Nat) (good : Bool)
  /-- MEMBER_TICK_APPLY (R523): TICK_DELAY − D_acc after the marker, the member applies its tick. -/
  | memberTickApply
  /-- BEACON_RX (R524): A beacon arrives, updating D_acc, source 5 offset and join. -/
  | beaconRx (t : Nat) (hd : LinkHdr) (bytes : List Byte) (casc : Word) (pair : Bool)
  /-- LINK_JOIN (R526): A LISTEN part becomes MEMBER at the master's next frame tick, or is refused. -/
  | linkJoin (t : Nat)
  /-- MASTER_LOSS (R527): No beacon or marker for MASTER_LOSS courses triggers election of a new master. -/
  | masterLoss (t : Nat) (ranks : List (Nat × Nat))
  /-- CASE_VERDICTS_RX (R532): A member's linked case verdicts arrive for the combined verdict. -/
  | caseVerdictsRx (t : Nat) (hd : LinkHdr) (bytes : List Byte)
  /-- INTAKE_RECORDS_RX (R97): Forwarded intake records from the partner arrive and are queued. -/
  | intakeRecordsRx (t : Nat) (hd : LinkHdr) (bytes : List Byte)
  /-- FORWARDED_POINTS_RX (R334): Forwarded point updates from the partner arrive for the aligned view. -/
  | forwardedPointsRx (t : Nat) (hd : LinkHdr) (bytes : List Byte)
  /-- SHARED_POINT_BLOCK_RX (R531): An export block arrives and is written to the matching import points. -/
  | sharedPointBlockRx (t : Nat) (hd : LinkHdr) (bytes : List Byte)
  /-- SHARED_BLOCK_STALE (R531): No publication for STALE × PERIOD × L courses sets STALE on the import block. -/
  | sharedBlockStale (t imp period : Nat)
  /-- OTP_READ_IDENTITY (R538): OTP operation 1 reads an identity record into the data window. -/
  | otpReadIdentity (slot key : Nat)
  /-- OTP_READ_KEY (R538): OTP operation 2 reads an image key slot into the data window. -/
  | otpReadKey (slot key : Nat)
  /-- OTP_WRITE_IDENTITY (R538): OTP operation 3 writes an identity record in provisioning mode. -/
  | otpWriteIdentity (slot key : Nat)
  /-- OTP_WRITE_KEY (R538): OTP operation 4 writes an image key slot in provisioning mode. -/
  | otpWriteKey (slot key : Nat)
  /-- OTP_REVOKE_KEY (R538): OTP operation 5 revokes an image key slot. -/
  | otpRevokeKey (slot key : Nat)
  /-- OTP_REVOKE_FW_KEY (R538): OTP operation 6 revokes a firmware key. -/
  | otpRevokeFwKey (slot key : Nat)
  /-- OTP_BIND_SEAL (R538): OTP operation 7 binds a seal code. -/
  | otpBindSeal (slot key : Nat)
  /-- OTP_RAISE_VERSION (R540): OTP operation 8 raises the minimum-version counter to the running SEC_VERSION. -/
  | otpRaiseVersion (slot key : Nat)
  /-- OTP_OPERATION_DONE (R538): A programming operation ends and reports its result. -/
  | otpOperationDone (t : Nat) (good : Bool)
  /-- LOCK_ALL (R543): A write of GLB_SEC_LOCK.LOCK_ALL sets every block lock at once. -/
  | lockAll (w : Word)
  /-- LOCK_SET (R553): A write of 1 to a block's LOCK field makes its rwl fields read only until reset. -/
  | lockSet (lock : Nat) (w : Word)
  /-- LOG_FORMAT (R453): A keyed write of LOG_CTRL.FORMAT formats an unformatted log memory. -/
  | logFormat (t : Nat) (w : Word)
  /-- CRS_TBL_INDEX_WRITE (R57): A write of CRS_TBL_INDEX latches one course table entry and the generation. -/
  | crsTblIndexWrite (w : Word)
  /-- SNI_ENTRY_WRITE (R104): A write of SNI_ENTRY selects the quoin entry whose counters are shown. -/
  | sniEntryWrite (w : Word)
  /-- GNS_NOTCH_SEL_WRITE (R132): A write of GNS_NOTCH_SEL latches a notch frequency. -/
  | gnsNotchSelWrite (w : Word)
  /-- VSL_LANE_SEL_WRITE (R260): A write of VSL_LANE_SEL latches a lane's state. -/
  | vslLaneSelWrite (w : Word)
  /-- PNT_SEL_WRITE (R390): A write of PNT_SEL latches one point consistently. -/
  | pntSelWrite (w : Word)
  /-- TIM_LATCH_WRITE (R320): A write of TIM_LATCH latches device time and the anchor. -/
  | timLatchWrite (t : Nat) (w : Word)
  /-- TIM_CAP_SEL_WRITE (R318): A write of TIM_CAP_SEL latches the newest capture of an input. -/
  | timCapSelWrite (w : Word)
  /-- MEM_BANK_SEL_WRITE (R481): A write of MEM_BANK_SEL latches a bank's state. -/
  | memBankSelWrite (w : Word)
  /-- GLB_XSEL_WRITE (R497): A write of GLB_XSEL latches a crossing's state. -/
  | glbXselWrite (w : Word)
  /-- CAN_SINGLE_CLEAR (R402): Writing 1 to a CAN_SINGLE bit returns the buffer to normal retransmission. -/
  | canSingleClear (t ctl : Nat) (w : Word)
  /-- COUNTER_CLEAR (R9): A write of a block's CLEAR register clears the selected occurrence counters and their OVF. -/
  | counterClear (t offset : Nat) (w : Word)
  /-- PEAK_CLEAR (R103): A CLR_PEAK bit sets a peak level to the current level. -/
  | peakClear (t offset : Nat) (w : Word)
  /-- REGISTER_WRITE (R554): A write to a register without its own row takes effect, or is discarded or refused after lock. -/
  | registerWrite (t offset be : Nat) (w : Word)
  /-- UART_FRAMING_ERROR (R83): A character with a framing error ends the sentence in progress on a UART, which is discarded as an error. -/
  | uartFramingError (t uart : Nat)
  /-- FEED_RESTORED (R322): A supply feed returns to 2.7 V to 5.5 V, restoring the health term and raising source 85 marked restored. -/
  | feedRestored (t feed mv : Nat)
  /-- CORE_PLL_LOCK_LOSS (R490): A core PLL that loses lock for 2 µs is a part-scope reset source of cause clock loss. -/
  | corePllLockLoss (t : Nat)
  /-- PCIE_LINK_UP (R433): The PCI Express link trains up, raising event source 114 and letting the host interface serve again. -/
  | pcieLinkUp (t : Nat)
  /-- PTP_ANNOUNCE_TIMEOUT (R312): No Announce arrives for ANN_TIMEOUT intervals, so the port's best master clock algorithm changes state or grandmaster. -/
  | ptpAnnounceTimeout (t : Nat) (port : Port)
  /-- PTP_DELAY_REQUEST_TX (R312): At its LOG_DELAY rate a PTP port sends a Delay_Req or Pdelay_Req for its delay mechanism. -/
  | ptpDelayRequestTx (t : Nat) (port : Port)
  /-- IGMP_QUERY_RX (R384): An IGMP membership query arrives and the part answers with IGMPv3 or IGMPv2 membership reports for its groups. -/
  | igmpQueryRx (t : Nat) (port : Port) (version : Nat) (group : Word)
  /-- CAN_RX_ERROR (R399): An error detected on the bus while the controller receives changes REC, and may change the error state or signal a protocol exception. -/
  | canRxError (t ctl code : Nat) (data : Bool) (dominant : Nat)
  /-- SCRUBBER_READ (R471): The scrubber reads a word in an idle bank cycle and corrects or reports its ECC error. -/
  | scrubberRead (t : Nat) (site : EccSite) (errors : Nat)
  /-- EXT_10M_PRESENCE_CHANGE (R303): The 10 MHz signal on EXT_10M appears or disappears, so the frequency word starts or stops following it. -/
  | ext10mPresenceChange (t : Nat) (present : Bool)
  /-- SAFE_OUTPUT_CURRENT_LIMIT (R571): A safe output switch held in current limit for 5 ms opens by itself. -/
  | safeOutputCurrentLimit (t output : Nat) (high : Bool)
  deriving DecidableEq, Repr

end Sys2Proof
end

