-- ==== Sys2Proof/Config.lean ====
section
/-! DEFINITION. What the spec leaves open: free values, one opaque constant each. Nothing can evaluate them. -/

namespace Sys2Proof

/-- Steps of the minimum-version counter that an interrupted OP 8 has written (R540). -/
opaque Config.otpStepsBeforeCut : Nat → Nat

/-- Satellite position in ECEF, m, by the navigation data: system, satellite, device time in ns, axis (R142). -/
opaque Config.satPos : Nat → Nat → Int → Nat → F64
/-- Satellite velocity in ECEF, m/s. -/
opaque Config.satVel : Nat → Nat → Int → Nat → F64

/-- Satellite acceleration in ECEF, m/s². -/
opaque Config.satAcc : Nat → Nat → Int → Nat → F64
/-- Delay of the broadcast ionosphere model, m: system, satellite, device time (R142). -/
opaque Config.ionoDelay : Nat → Nat → Int → F64
/-- The standard deviation of state 0, 1 or 2 (N, E, ψ) before the first admission of its class (R158, R170). -/
opaque Config.sigmaBefore : Nat → F64
/-- Factory-calibrated front-end delay, 0.1 ns: antenna, band (R117). -/
opaque Config.frontEnd : Nat → Nat → Int
/-- Power expected at the converter, 0.001 dB: stream, LNA gain (R126). -/
opaque Config.expectedPower : Nat → Nat → Int
/-- An RTCM observables message covers a signal and satellite (R123; the message contents are those of RTCM SC-104). -/
opaque Config.rtcmCovers : List Byte → Nat → Nat → Bool
/-- Device time of the observables of a message, given its time of arrival (R123). -/
opaque Config.rtcmTime : List Byte → Int → Int
/-- Code observable in a message, 2⁻¹⁶ m: observables, signal, satellite (R123; the coding is that of RTCM SC-104). -/
opaque Config.rtcmCode : List Byte → Nat → Nat → Int
/-- Phase observable, 2⁻³² cycle. -/
opaque Config.rtcmPhase : List Byte → Nat → Nat → Int
/-- Broadcast part of a system time's offset from TAI, 2⁻⁴⁸ s: system, navigation data (R117). -/
opaque Config.sysOffset : Nat → List (Nat × List Byte) → Int
/-- An attempt of the buffer named by CAN_ABORT is in progress (R398). -/
opaque Config.canBusy : Nat → Bool
/-- Where the receive error count of an error-passive controller is set, from 119 on, at a reception (ISO 11898-1; R399). -/
opaque Config.canRecAfter : Nat → Nat
/-- A copy of a safety frame finds the buttress transmit queue of its network, crossing 11 or 12, full (spec/14 R361). -/
opaque Config.safetyFull : Nat → Bool
/-- A link frame finds the transmit FIFO, crossing 28, full (spec/23 R522). -/
opaque Config.linkFull : Nat → Bool
/-- The integral term of the time servo, 2^-48 of the nominal frequency: SERVO_TAU, the terms so far, the offset (R306). -/
opaque Config.servoTerm : Nat → List Int → Int → Int
/-- The frequency word, less nominal, that follows the signal on EXT_10M, at an instant (R303). -/
opaque Config.ext10mWord : Nat → Int
/-- clockClass received from the parent over the Yarerago link, whose frames carry none (R313). -/
opaque Config.linkClass : Nat → Nat
/-- stepsRemoved received from that parent (R313). -/
opaque Config.linkSteps : Nat → Nat
/-- offsetScaledLogVariance of the part's clock (IEEE 1588-2019; R313). -/
opaque Config.clockVar : Nat
/-- Its clockIdentity. -/
opaque Config.clockIdent : Nat

/-- The bytes of a state image, whose coding the spec does not give (spec/13 R340). -/
opaque Config.stateBytes : Nat → List Byte
/-- Destination address and UDP port of a heartbeat datagram, which the spec does not give (spec/13 R336). -/
opaque Config.heartbeatDst : Nat → Word
/-- Its UDP port. -/
opaque Config.heartbeatPort : Nat
/-- The waypoints behind a TRACK_LOAD descriptor that came in a pair message, which carries no buffer (spec/13 R336). -/
opaque Config.pairBuffer : Nat → List Byte
/-- Worst-case bus time of a keystone segment, µs, at rates for which spec/16 R394 states none: cycles of a nominal and of a
data bit. -/
opaque Config.segmentTime : Nat → Nat → Nat

end Sys2Proof
end

