-- ==== Sys2Proof/Machine/State.lean ====
section
/-! DEFINITION. The block's whole state, the reasons a step can stop, and the state right after reset. -/

namespace Sys2Proof.Machine
open Sys2Proof

/-- Faults: the spec gives the block none, so no command of this model raises one. -/
inductive Fault where
  /-- Raised by no command; safe. -/
  | none
  deriving DecidableEq, Repr

/-- Refusals. -/
inductive Refusal where
  /-- A command whose meaning is not modelled; raised by the dispatcher alone; safe. -/
  | notModelled (mnemonic : String)
  deriving DecidableEq, Repr


/-- The whole state of the block. -/
structure State where
  /-- Device time and the tick, in ns since the last reset (spec/02 R31, spec/12 R299). -/
  clk : Clk
  /-- Courses, frames and the course table (spec/02). -/
  crs : Crs
  /-- Events and their delivery (spec/18). -/
  evt : Evt
  /-- Rings, doorbells and the host interface (spec/17). -/
  hrg : Hrg
  /-- The vessel model image (spec/03). -/
  img : Img
  /-- The GNSS receiver (spec/05). -/
  gns : Gns
  /-- The point image and the networks (spec/15). -/
  pnt : Pnt
  /-- Configuration registers, locks and counters (spec/25). -/
  regs : Regs
  /-- The sensor intake (spec/04). -/
  sni : Sni
  /-- Position estimation and reference voting (spec/06). -/
  est : Est
  /-- DP modes and control laws (spec/07). -/
  ctl : Ctl
  /-- Thrust allocation (spec/08). -/
  alloc : Alloc
  /-- Consequence analysis and capability envelopes (spec/10). -/
  csq : Csq
  /-- Trim and heel holding (spec/11). -/
  trim : Trim
  /-- The voussoir solver array (spec/09). -/
  vsl : Vsl
  /-- The time engine (spec/12). -/
  tim : Tim
  /-- Redundancy, pair mode and claims (spec/13). -/
  rdn : Rdn
  /-- The buttress safety island (spec/14). -/
  btr : Btr
  /-- The CAN FD controllers (spec/16). -/
  can : Can
  /-- The Yarerago link and the cascade (spec/23). -/
  ylk : Ylk
  /-- The recorder and the log memory (spec/19). -/
  log : Log
  /-- On-chip memory (spec/20). -/
  mem : Mem
  /-- Identification, domains and crossings (spec/25 R552, spec/21 R497). -/
  glb : Glb
  /-- OTP, seals and security registers (spec/24). -/
  sec : Sec
  /-- Power, hold-up and start-up (spec/22). -/
  pwr : Pwr
  /-- What the block has given out, oldest first; DESIGN CHOICE (assumption 4) -/
  outbox : Outs
  /-- The commands that wait, first in first out. -/
  pending : List Instr
  deriving DecidableEq, Repr

/-- The state right after power-on reset: every field at the value the spec states; the assumption log names the others. -/
def State.reset : State :=
  { clk := Clk.reset,
    crs := Crs.reset,
    evt := Evt.reset,
    hrg := Hrg.reset,
    img := Img.reset,
    gns := Gns.reset,
    pnt := Pnt.reset,
    regs := Regs.reset,
    sni := Sni.reset,
    est := Est.reset,
    ctl := Ctl.reset,
    alloc := Alloc.reset,
    csq := Csq.reset,
    trim := Trim.reset,
    vsl := Vsl.reset,
    tim := Tim.reset,
    rdn := Rdn.reset,
    btr := Btr.reset,
    can := Can.reset,
    ylk := Ylk.reset,
    log := Log.reset,
    mem := Mem.reset,
    glb := Glb.reset,
    sec := Sec.reset,
    pwr := Pwr.reset,
    outbox := Outs.reset,
    pending := [] }

/-- Replace `clk`. -/
def State.withClk (s : State) (x : Clk) : State := { s with clk := x }

/-- Replace `crs`. -/
def State.withCrs (s : State) (x : Crs) : State := { s with crs := x }

/-- Replace `evt`. -/
def State.withEvt (s : State) (x : Evt) : State := { s with evt := x }

/-- Replace `hrg`. -/
def State.withHrg (s : State) (x : Hrg) : State := { s with hrg := x }

/-- Replace `img`. -/
def State.withImg (s : State) (x : Img) : State := { s with img := x }

/-- Replace `gns`. -/
def State.withGns (s : State) (x : Gns) : State := { s with gns := x }

/-- Replace `pnt`. -/
def State.withPnt (s : State) (x : Pnt) : State := { s with pnt := x }

/-- Replace `regs`. -/
def State.withRegs (s : State) (x : Regs) : State := { s with regs := x }

/-- Replace `sni`. -/
def State.withSni (s : State) (x : Sni) : State := { s with sni := x }

/-- Replace `est`. -/
def State.withEst (s : State) (x : Est) : State := { s with est := x }

/-- Replace `ctl`. -/
def State.withCtl (s : State) (x : Ctl) : State := { s with ctl := x }

/-- Replace `alloc`. -/
def State.withAlloc (s : State) (x : Alloc) : State := { s with alloc := x }

/-- Replace `csq`. -/
def State.withCsq (s : State) (x : Csq) : State := { s with csq := x }

/-- Replace `trim`. -/
def State.withTrim (s : State) (x : Trim) : State := { s with trim := x }

/-- Replace `vsl`. -/
def State.withVsl (s : State) (x : Vsl) : State := { s with vsl := x }

/-- Replace `tim`. -/
def State.withTim (s : State) (x : Tim) : State := { s with tim := x }

/-- Replace `rdn`. -/
def State.withRdn (s : State) (x : Rdn) : State := { s with rdn := x }

/-- Replace `btr`. -/
def State.withBtr (s : State) (x : Btr) : State := { s with btr := x }

/-- Replace `can`. -/
def State.withCan (s : State) (x : Can) : State := { s with can := x }

/-- Replace `ylk`. -/
def State.withYlk (s : State) (x : Ylk) : State := { s with ylk := x }

/-- Replace `log`. -/
def State.withLog (s : State) (x : Log) : State := { s with log := x }

/-- Replace `mem`. -/
def State.withMem (s : State) (x : Mem) : State := { s with mem := x }

/-- Replace `glb`. -/
def State.withGlb (s : State) (x : Glb) : State := { s with glb := x }

/-- Replace `sec`. -/
def State.withSec (s : State) (x : Sec) : State := { s with sec := x }

/-- Replace `pwr`. -/
def State.withPwr (s : State) (x : Pwr) : State := { s with pwr := x }

/-- Replace `outbox`. -/
def State.withOutbox (s : State) (x : Outs) : State := { s with outbox := x }

/-- Replace `pending`. -/
def State.withPending (s : State) (x : List Instr) : State := { s with pending := x }

end Sys2Proof.Machine
end

