-- ==== Sys2Proof/Machine/RegTable.lean ====
section
/-! DEFINITION. The table of the configuration registers, the locks and the occurrence counters:
offsets, writable bits, locks, overflow sources (spec/25_register_map.md R547, R552, R553, R559 and each block's field tables). -/

namespace Sys2Proof.Machine

/-- The BAR0 offset of a configuration register. -/
def CfgReg.offset : CfgReg → Nat
  | .glbScratch => 0x001C
  | .glbEdge => 0x0110
  | .secCfg => 0x0210
  | .evtCfg => 0x3000
  | .evtMask0 => 0x300C
  | .evtMask1 => 0x3010
  | .evtMask2 => 0x3014
  | .evtMask3 => 0x3018
  | .memCfg => 0x5000
  | .timCfg => 0x6000
  | .timServo => 0x6004
  | .timStep => 0x6008
  | .timHold => 0x600C
  | .timPps => 0x6010
  | .timExt => 0x6014
  | .timPtpCfg => 0x6018
  | .timPtpRate => 0x601C
  | .timAsymA => 0x6020
  | .timAsymB => 0x6024
  | .timCapCfg => 0x6028
  | .gnsCfg => 0x7000
  | .gnsLoop => 0x7004
  | .gnsAnt => 0x7008
  | .gnsCable0 => 0x700C
  | .gnsCable1 => 0x7010
  | .gnsNotch => 0x7014
  | .gnsCheck => 0x7018
  | .gnsLimits => 0x701C
  | .sniCfg => 0x8000
  | .vslCfg => 0x9000
  | .netCfg => 0xA004
  | .canCfg0 => 0xB014
  | .canCfg1 => 0xB414
  | .canCfg2 => 0xB814
  | .rdnCfg => 0xD000
  | .rdnExch => 0xD004
  | .ylkCfg => 0xD800
  | .pwrCfg => 0xE000
  | .pwrFwAddrLo => 0xE01C
  | .pwrFwAddrHi => 0xE020
  | .pwrFwLen => 0xE024
  | .logCfg => 0xF000

/-- The writable bits of a configuration register; the others are reserved and read zero (R7). -/
def CfgReg.mask : CfgReg → Word
  | .glbScratch => 0xFFFFFFFF#32
  | .glbEdge => 0x00000FFF#32
  | .secCfg => 0x000000FF#32
  | .evtCfg => 0x01FFFFFF#32
  | .evtMask0 => 0xFFFFFFFF#32
  | .evtMask1 => 0xFFFFFFFF#32
  | .evtMask2 => 0xFFFFFFFF#32
  | .evtMask3 => 0xFFFFFFFF#32
  | .memCfg => 0xFFFFFFFF#32
  | .timCfg => 0x01FFFFFF#32
  | .timServo => 0x01FFFFFF#32
  | .timStep => 0xFFFFFFFF#32
  | .timHold => 0x1FFFFFFF#32
  | .timPps => 0x07FFFFFF#32
  | .timExt => 0x0007FFFF#32
  | .timPtpCfg => 0xFFFFFFFF#32
  | .timPtpRate => 0x00FFFFFF#32
  | .timAsymA => 0xFFFFFFFF#32
  | .timAsymB => 0xFFFFFFFF#32
  | .timCapCfg => 0x0000FFFF#32
  | .gnsCfg => 0x00FFFFFF#32
  | .gnsLoop => 0x00000FFF#32
  | .gnsAnt => 0x000FFFFF#32
  | .gnsCable0 => 0xFFFFFFFF#32
  | .gnsCable1 => 0xFFFFFFFF#32
  | .gnsNotch => 0x000000FF#32
  | .gnsCheck => 0x3FFFFFFF#32
  | .gnsLimits => 0xFFFFFFFF#32
  | .sniCfg => 0x000003FF#32
  | .vslCfg => 0x001FFFFF#32
  | .netCfg => 0x00000003#32
  | .canCfg0 => 0x000000FF#32
  | .canCfg1 => 0x000000FF#32
  | .canCfg2 => 0x000000FF#32
  | .rdnCfg => 0x01FFFFFF#32
  | .rdnExch => 0x000001FF#32
  | .ylkCfg => 0x000007FF#32
  | .pwrCfg => 0x00003FFF#32
  | .pwrFwAddrLo => 0xFFFFFFF8#32
  | .pwrFwAddrHi => 0xFFFFFFFF#32
  | .pwrFwLen => 0x00FFFFFF#32
  | .logCfg => 0x000001FF#32

/-- The lock that makes a configuration register read only; none for an rw register. -/
def CfgReg.lock : CfgReg → Option LockId
  | .glbScratch => none
  | .glbEdge => some .glb
  | .secCfg => some .glb
  | .evtCfg => some .evt
  | .evtMask0 => none
  | .evtMask1 => none
  | .evtMask2 => none
  | .evtMask3 => none
  | .memCfg => some .mem
  | .timCfg => some .tim
  | .timServo => some .tim
  | .timStep => some .tim
  | .timHold => some .tim
  | .timPps => some .tim
  | .timExt => some .tim
  | .timPtpCfg => some .tim
  | .timPtpRate => some .tim
  | .timAsymA => some .tim
  | .timAsymB => some .tim
  | .timCapCfg => some .tim
  | .gnsCfg => some .gns
  | .gnsLoop => some .gns
  | .gnsAnt => some .gns
  | .gnsCable0 => some .gns
  | .gnsCable1 => some .gns
  | .gnsNotch => some .gns
  | .gnsCheck => some .gns
  | .gnsLimits => some .gns
  | .sniCfg => some .sni
  | .vslCfg => some .vsl
  | .netCfg => some .net
  | .canCfg0 => some .can0
  | .canCfg1 => some .can1
  | .canCfg2 => some .can2
  | .rdnCfg => some .rdn
  | .rdnExch => some .rdn
  | .ylkCfg => some .ylk
  | .pwrCfg => some .pwr
  | .pwrFwAddrLo => none
  | .pwrFwAddrHi => none
  | .pwrFwLen => none
  | .logCfg => some .log

/-- When a write to a configuration register takes effect (spec/25 R554). -/
inductive CfgWhen where
  /-- At once. -/
  | now
  /-- At the next course tick. -/
  | tick
  /-- At the next cold activation. -/
  | cold
  /-- At the next second of device time (R320). -/
  | sec
  /-- At the next GNSS epoch (R132). -/
  | epoch
  /-- At the next identification of the log memory (R464). -/
  | ident
  deriving DecidableEq, Repr

/-- When a write takes effect. -/
def CfgReg.takes : CfgReg → CfgWhen
  | .glbScratch => .now
  | .glbEdge => .tick
  | .secCfg => .tick
  | .evtCfg => .tick
  | .evtMask0 => .now
  | .evtMask1 => .now
  | .evtMask2 => .now
  | .evtMask3 => .now
  | .memCfg => .tick
  | .timCfg => .sec
  | .timServo => .sec
  | .timStep => .sec
  | .timHold => .sec
  | .timPps => .sec
  | .timExt => .sec
  | .timPtpCfg => .sec
  | .timPtpRate => .sec
  | .timAsymA => .sec
  | .timAsymB => .sec
  | .timCapCfg => .sec
  | .gnsCfg => .epoch
  | .gnsLoop => .epoch
  | .gnsAnt => .epoch
  | .gnsCable0 => .epoch
  | .gnsCable1 => .epoch
  | .gnsNotch => .epoch
  | .gnsCheck => .epoch
  | .gnsLimits => .epoch
  | .sniCfg => .tick
  | .vslCfg => .tick
  | .netCfg => .tick
  | .canCfg0 => .tick
  | .canCfg1 => .tick
  | .canCfg2 => .tick
  | .rdnCfg => .tick
  | .rdnExch => .tick
  | .ylkCfg => .cold
  | .pwrCfg => .tick
  | .pwrFwAddrLo => .now
  | .pwrFwAddrHi => .now
  | .pwrFwLen => .now
  | .logCfg => .ident

/-- Every configuration register. -/
def CfgReg.all : List CfgReg :=
  [CfgReg.glbScratch, CfgReg.glbEdge, CfgReg.secCfg, CfgReg.evtCfg, CfgReg.evtMask0, CfgReg.evtMask1, CfgReg.evtMask2, CfgReg.evtMask3, CfgReg.memCfg, CfgReg.timCfg, CfgReg.timServo, CfgReg.timStep, CfgReg.timHold, CfgReg.timPps, CfgReg.timExt, CfgReg.timPtpCfg, CfgReg.timPtpRate, CfgReg.timAsymA, CfgReg.timAsymB, CfgReg.timCapCfg, CfgReg.gnsCfg, CfgReg.gnsLoop, CfgReg.gnsAnt, CfgReg.gnsCable0, CfgReg.gnsCable1, CfgReg.gnsNotch, CfgReg.gnsCheck, CfgReg.gnsLimits, CfgReg.sniCfg, CfgReg.vslCfg, CfgReg.netCfg, CfgReg.canCfg0, CfgReg.canCfg1, CfgReg.canCfg2, CfgReg.rdnCfg, CfgReg.rdnExch, CfgReg.ylkCfg, CfgReg.pwrCfg, CfgReg.pwrFwAddrLo, CfgReg.pwrFwAddrHi, CfgReg.pwrFwLen, CfgReg.logCfg]

/-- The BAR0 offset of a lock register. -/
def LockId.offset : LockId → Nat
  | .glb => 0x0014
  | .sni => 0x8004
  | .gns => 0x7020
  | .vsl => 0x9004
  | .tim => 0x602C
  | .rdn => 0xD008
  | .ylk => 0xD804
  | .net => 0xA008
  | .can0 => 0xB018
  | .can1 => 0xB418
  | .can2 => 0xB818
  | .evt => 0x3004
  | .mem => 0x5004
  | .pwr => 0xE004
  | .log => 0xF004

/-- Every lock. -/
def LockId.all : List LockId :=
  [LockId.glb, LockId.sni, LockId.gns, LockId.vsl, LockId.tim, LockId.rdn, LockId.ylk, LockId.net, LockId.can0, LockId.can1, LockId.can2, LockId.evt, LockId.mem, LockId.pwr, LockId.log]

/-- The BAR0 offset of a counter. -/
def Ctr.offset : Ctr → Nat
  | .cfgDenied => 0x0020
  | .badAccess => 0x0024
  | .xTimeout => 0x0118
  | .xReset => 0x011C
  | .xDisc => 0x0120
  | .rstRefused => 0x0124
  | .fetchErr => 0x2028
  | .writeErr => 0x202C
  | .dblErr => 0x2030
  | .halts => 0x2034
  | .dropWarn => 0x3020
  | .dropNotice => 0x3024
  | .coalesced => 0x3028
  | .stageColl => 0x302C
  | .missCtrl => 0x4014
  | .missAna => 0x4018
  | .missSvc => 0x401C
  | .lateTick => 0x4028
  | .eccCe => 0x5030
  | .eccUe => 0x5034
  | .ownErr => 0x5038
  | .coll => 0x503C
  | .sliceAbort => 0x5040
  | .wake => 0x5044
  | .srcLoss => 0x607C
  | .timRefused => 0x6080
  | .ptpErr => 0x6084
  | .capLost => 0x6088
  | .slip => 0x7038
  | .corrErr => 0x703C
  | .excl => 0x7040
  | .sniDrop => 0x8020
  | .vslBudget => 0x9020
  | .vslSingular => 0x9024
  | .vslOverflow => 0x9028
  | .vslResidual => 0x902C
  | .vslLate => 0x9030
  | .vslExpired => 0x9034
  | .vslEvict => 0x9038
  | .vslRidge => 0x903C
  | .vslEcc => 0x9040
  | .vslKatFail => 0x9044
  | .netRxErr => 0xA00C
  | .netTxFail => 0xA010
  | .pntOld => 0xA014
  | .pntRefused => 0xA018
  | .streamDrop => 0xA01C
  | .can0Err => 0xB01C
  | .can0Busoff => 0xB020
  | .can0Clash => 0xB024
  | .can0TxFail => 0xB028
  | .can0RxLost => 0xB02C
  | .can0Reasm => 0xB030
  | .can1Err => 0xB41C
  | .can1Busoff => 0xB420
  | .can1Clash => 0xB424
  | .can1TxFail => 0xB428
  | .can1RxLost => 0xB42C
  | .can1Reasm => 0xB430
  | .can2Err => 0xB81C
  | .can2Busoff => 0xB820
  | .can2Clash => 0xB824
  | .can2TxFail => 0xB828
  | .can2RxLost => 0xB82C
  | .can2Reasm => 0xB830
  | .btrDisc => 0xC02C
  | .btrTestFail => 0xC030
  | .btrPulseDisc => 0xC034
  | .btrSfErr => 0xC038
  | .btrMiss => 0xC03C
  | .btrConfirmErr => 0xC040
  | .rdnDiverge => 0xD020
  | .rdnMsgMiss => 0xD024
  | .rdnTakeover => 0xD028
  | .rdnRelgen => 0xD02C
  | .rdnSyncFail => 0xD030
  | .linkDown => 0xD818
  | .crcErr => 0xD81C
  | .tickMiss => 0xD820
  | .txDrop => 0xD824
  | .pwrSaves => 0xE034
  | .pwrShort => 0xE038
  | .holdFail => 0xE03C
  | .logFail => 0xF024
  | .logGap => 0xF028
  | .logReadMiss => 0xF02C

/-- The BAR0 offset of the register that clears a counter. -/
def Ctr.clearOffset : Ctr → Nat
  | .cfgDenied => 0x0028
  | .badAccess => 0x0028
  | .xTimeout => 0x0128
  | .xReset => 0x0128
  | .xDisc => 0x0128
  | .rstRefused => 0x0128
  | .fetchErr => 0x2038
  | .writeErr => 0x2038
  | .dblErr => 0x2038
  | .halts => 0x2038
  | .dropWarn => 0x3030
  | .dropNotice => 0x3030
  | .coalesced => 0x3030
  | .stageColl => 0x3030
  | .missCtrl => 0x402C
  | .missAna => 0x402C
  | .missSvc => 0x402C
  | .lateTick => 0x402C
  | .eccCe => 0x5048
  | .eccUe => 0x5048
  | .ownErr => 0x5048
  | .coll => 0x5048
  | .sliceAbort => 0x5048
  | .wake => 0x5048
  | .srcLoss => 0x608C
  | .timRefused => 0x608C
  | .ptpErr => 0x608C
  | .capLost => 0x608C
  | .slip => 0x7044
  | .corrErr => 0x7044
  | .excl => 0x7044
  | .sniDrop => 0x802C
  | .vslBudget => 0x9048
  | .vslSingular => 0x9048
  | .vslOverflow => 0x9048
  | .vslResidual => 0x9048
  | .vslLate => 0x9048
  | .vslExpired => 0x9048
  | .vslEvict => 0x9048
  | .vslRidge => 0x9048
  | .vslEcc => 0x9048
  | .vslKatFail => 0x9048
  | .netRxErr => 0xA020
  | .netTxFail => 0xA020
  | .pntOld => 0xA020
  | .pntRefused => 0xA020
  | .streamDrop => 0xA020
  | .can0Err => 0xB034
  | .can0Busoff => 0xB034
  | .can0Clash => 0xB034
  | .can0TxFail => 0xB034
  | .can0RxLost => 0xB034
  | .can0Reasm => 0xB034
  | .can1Err => 0xB434
  | .can1Busoff => 0xB434
  | .can1Clash => 0xB434
  | .can1TxFail => 0xB434
  | .can1RxLost => 0xB434
  | .can1Reasm => 0xB434
  | .can2Err => 0xB834
  | .can2Busoff => 0xB834
  | .can2Clash => 0xB834
  | .can2TxFail => 0xB834
  | .can2RxLost => 0xB834
  | .can2Reasm => 0xB834
  | .btrDisc => 0xC044
  | .btrTestFail => 0xC044
  | .btrPulseDisc => 0xC044
  | .btrSfErr => 0xC044
  | .btrMiss => 0xC044
  | .btrConfirmErr => 0xC044
  | .rdnDiverge => 0xD034
  | .rdnMsgMiss => 0xD034
  | .rdnTakeover => 0xD034
  | .rdnRelgen => 0xD034
  | .rdnSyncFail => 0xD034
  | .linkDown => 0xD828
  | .crcErr => 0xD828
  | .tickMiss => 0xD828
  | .txDrop => 0xD828
  | .pwrSaves => 0xE040
  | .pwrShort => 0xE040
  | .holdFail => 0xE040
  | .logFail => 0xF030
  | .logGap => 0xF030
  | .logReadMiss => 0xF030

/-- The bit that clears a counter. -/
def Ctr.clearBit : Ctr → Nat
  | .cfgDenied => 0
  | .badAccess => 1
  | .xTimeout => 0
  | .xReset => 1
  | .xDisc => 2
  | .rstRefused => 3
  | .fetchErr => 0
  | .writeErr => 1
  | .dblErr => 2
  | .halts => 3
  | .dropWarn => 0
  | .dropNotice => 1
  | .coalesced => 2
  | .stageColl => 3
  | .missCtrl => 0
  | .missAna => 1
  | .missSvc => 2
  | .lateTick => 3
  | .eccCe => 0
  | .eccUe => 1
  | .ownErr => 2
  | .coll => 3
  | .sliceAbort => 4
  | .wake => 5
  | .srcLoss => 0
  | .timRefused => 1
  | .ptpErr => 2
  | .capLost => 3
  | .slip => 0
  | .corrErr => 1
  | .excl => 2
  | .sniDrop => 3
  | .vslBudget => 0
  | .vslSingular => 1
  | .vslOverflow => 2
  | .vslResidual => 3
  | .vslLate => 4
  | .vslExpired => 5
  | .vslEvict => 6
  | .vslRidge => 7
  | .vslEcc => 8
  | .vslKatFail => 9
  | .netRxErr => 0
  | .netTxFail => 1
  | .pntOld => 2
  | .pntRefused => 3
  | .streamDrop => 4
  | .can0Err => 0
  | .can0Busoff => 1
  | .can0Clash => 2
  | .can0TxFail => 3
  | .can0RxLost => 4
  | .can0Reasm => 5
  | .can1Err => 0
  | .can1Busoff => 1
  | .can1Clash => 2
  | .can1TxFail => 3
  | .can1RxLost => 4
  | .can1Reasm => 5
  | .can2Err => 0
  | .can2Busoff => 1
  | .can2Clash => 2
  | .can2TxFail => 3
  | .can2RxLost => 4
  | .can2Reasm => 5
  | .btrDisc => 0
  | .btrTestFail => 1
  | .btrPulseDisc => 2
  | .btrSfErr => 3
  | .btrMiss => 4
  | .btrConfirmErr => 5
  | .rdnDiverge => 0
  | .rdnMsgMiss => 1
  | .rdnTakeover => 2
  | .rdnRelgen => 3
  | .rdnSyncFail => 4
  | .linkDown => 0
  | .crcErr => 1
  | .tickMiss => 2
  | .txDrop => 3
  | .pwrSaves => 0
  | .pwrShort => 1
  | .holdFail => 2
  | .logFail => 0
  | .logGap => 1
  | .logReadMiss => 2

/-- The event source of a counter's overflow (R553's list). -/
def Ctr.source : Ctr → Nat
  | .cfgDenied => 127
  | .badAccess => 127
  | .xTimeout => 127
  | .xReset => 127
  | .xDisc => 127
  | .rstRefused => 127
  | .fetchErr => 115
  | .writeErr => 115
  | .dblErr => 115
  | .halts => 115
  | .dropWarn => 115
  | .dropNotice => 115
  | .coalesced => 115
  | .stageColl => 115
  | .missCtrl => 7
  | .missAna => 7
  | .missSvc => 7
  | .lateTick => 7
  | .eccCe => 118
  | .eccUe => 118
  | .ownErr => 118
  | .coll => 118
  | .sliceAbort => 118
  | .wake => 118
  | .srcLoss => 63
  | .timRefused => 63
  | .ptpErr => 63
  | .capLost => 63
  | .slip => 55
  | .corrErr => 55
  | .excl => 55
  | .sniDrop => 19
  | .vslBudget => 44
  | .vslSingular => 44
  | .vslOverflow => 44
  | .vslResidual => 44
  | .vslLate => 44
  | .vslExpired => 44
  | .vslEvict => 44
  | .vslRidge => 44
  | .vslEcc => 44
  | .vslKatFail => 44
  | .netRxErr => 103
  | .netTxFail => 103
  | .pntOld => 103
  | .pntRefused => 103
  | .streamDrop => 103
  | .can0Err => 111
  | .can0Busoff => 111
  | .can0Clash => 111
  | .can0TxFail => 111
  | .can0RxLost => 111
  | .can0Reasm => 111
  | .can1Err => 111
  | .can1Busoff => 111
  | .can1Clash => 111
  | .can1TxFail => 111
  | .can1RxLost => 111
  | .can1Reasm => 111
  | .can2Err => 111
  | .can2Busoff => 111
  | .can2Clash => 111
  | .can2TxFail => 111
  | .can2RxLost => 111
  | .can2Reasm => 111
  | .btrDisc => 79
  | .btrTestFail => 79
  | .btrPulseDisc => 79
  | .btrSfErr => 79
  | .btrMiss => 79
  | .btrConfirmErr => 79
  | .rdnDiverge => 89
  | .rdnMsgMiss => 89
  | .rdnTakeover => 89
  | .rdnRelgen => 89
  | .rdnSyncFail => 89
  | .linkDown => 95
  | .crcErr => 95
  | .tickMiss => 95
  | .txDrop => 95
  | .pwrSaves => 120
  | .pwrShort => 120
  | .holdFail => 120
  | .logFail => 124
  | .logGap => 124
  | .logReadMiss => 124

/-- The cause a counter's overflow event carries (R586 for source 118). -/
def Ctr.cause : Ctr → Nat
  | .eccCe => 3
  | .eccUe => 3
  | .ownErr => 3
  | .coll => 3
  | .sliceAbort => 3
  | .wake => 3
  | _ => 0

/-- The INDEX a counter's overflow event carries (R435, R439, R586). -/
def Ctr.index : Ctr → Nat
  | .dropWarn => 0x3000
  | .dropNotice => 0x3000
  | .coalesced => 0x3000
  | .stageColl => 0x3000
  | .eccCe => 0x5030
  | .eccUe => 0x5034
  | .ownErr => 0x5038
  | .coll => 0x503C
  | .sliceAbort => 0x5040
  | .wake => 0x5044
  | _ => 0xFFFF

/-- A quarter of the counters. -/
def ctrs0 : List Ctr :=
  [Ctr.cfgDenied, Ctr.badAccess, Ctr.xTimeout, Ctr.xReset, Ctr.xDisc, Ctr.rstRefused, Ctr.fetchErr, Ctr.writeErr, Ctr.dblErr, Ctr.halts, Ctr.dropWarn, Ctr.dropNotice, Ctr.coalesced, Ctr.stageColl, Ctr.missCtrl, Ctr.missAna, Ctr.missSvc, Ctr.lateTick, Ctr.eccCe, Ctr.eccUe, Ctr.ownErr, Ctr.coll]

/-- A quarter of the counters. -/
def ctrs1 : List Ctr :=
  [Ctr.sliceAbort, Ctr.wake, Ctr.srcLoss, Ctr.timRefused, Ctr.ptpErr, Ctr.capLost, Ctr.slip, Ctr.corrErr, Ctr.excl, Ctr.sniDrop, Ctr.vslBudget, Ctr.vslSingular, Ctr.vslOverflow, Ctr.vslResidual, Ctr.vslLate, Ctr.vslExpired, Ctr.vslEvict, Ctr.vslRidge, Ctr.vslEcc, Ctr.vslKatFail, Ctr.netRxErr, Ctr.netTxFail]

/-- A quarter of the counters. -/
def ctrs2 : List Ctr :=
  [Ctr.pntOld, Ctr.pntRefused, Ctr.streamDrop, Ctr.can0Err, Ctr.can0Busoff, Ctr.can0Clash, Ctr.can0TxFail, Ctr.can0RxLost, Ctr.can0Reasm, Ctr.can1Err, Ctr.can1Busoff, Ctr.can1Clash, Ctr.can1TxFail, Ctr.can1RxLost, Ctr.can1Reasm, Ctr.can2Err, Ctr.can2Busoff, Ctr.can2Clash, Ctr.can2TxFail, Ctr.can2RxLost, Ctr.can2Reasm, Ctr.btrDisc]

/-- A quarter of the counters. -/
def ctrs3 : List Ctr :=
  [Ctr.btrTestFail, Ctr.btrPulseDisc, Ctr.btrSfErr, Ctr.btrMiss, Ctr.btrConfirmErr, Ctr.rdnDiverge, Ctr.rdnMsgMiss, Ctr.rdnTakeover, Ctr.rdnRelgen, Ctr.rdnSyncFail, Ctr.linkDown, Ctr.crcErr, Ctr.tickMiss, Ctr.txDrop, Ctr.pwrSaves, Ctr.pwrShort, Ctr.holdFail, Ctr.logFail, Ctr.logGap, Ctr.logReadMiss]

/-- Every counter. -/
def Ctr.all : List Ctr := List.append ctrs0 (List.append ctrs1 (List.append ctrs2 ctrs3))

end Sys2Proof.Machine
end

