-- ==== Sys2Proof/Machine/Operands.lean ====
section
/-! DEFINITION. Helpers on operands: places of a vector, keyed lists in canonical form, bytes and words in
little-endian order (spec/00_scope.md R3), bit fields, wrapping comparison (spec/01_architecture.md R10). -/

namespace Sys2Proof.Machine
open Sys2Proof

/-- Element `i` of a vector, `d` outside it. -/
def vget {α : Type} {n : Nat} (v : Vector α n) (i : Nat) (d : α) : α := v[i]?.getD d

/-- The vector with element `i` replaced; unchanged outside it. -/
def vset {α : Type} {n : Nat} (v : Vector α n) (i : Nat) (x : α) : Vector α n := v.setIfInBounds i x

/-- The vector with element `i` passed through `f`. -/
def vmod {α : Type} {n : Nat} (v : Vector α n) (i : Nat) (f : α → α) : Vector α n :=
  match v[i]? with
  | some x => v.setIfInBounds i (f x)
  | none => v

/-- The value kept under key `k` in a keyed list, if any. -/
def afind {α : Type} (k : Nat) : List (Nat × α) → Option α
  | [] => none
  | (j, x) :: r => if j = k then some x else afind k r

/-- The value kept under key `k`, `d` when none is. -/
def aget {α : Type} (k : Nat) (d : α) (l : List (Nat × α)) : α := (afind k l).getD d

/-- The keyed list, keys rising, with `x` under key `k`. -/
def aput {α : Type} (k : Nat) (x : α) : List (Nat × α) → List (Nat × α)
  | [] => [(k, x)]
  | (j, y) :: r =>
    if j < k then (j, y) :: aput k x r
    else if j = k then (k, x) :: r
    else (k, x) :: (j, y) :: r

/-- The keyed list without key `k`. -/
def adel {α : Type} (k : Nat) (l : List (Nat × α)) : List (Nat × α) := l.filter (fun p => p.1 != k)

/-- A list in order with `x` put before the first element that does not come before it. -/
def insertBy {α : Type} (le : α → α → Bool) (x : α) : List α → List α
  | [] => [x]
  | y :: r => if le x y then x :: y :: r else y :: insertBy le x r

/-- The list in order; equals keep theirs. -/
def sortBy {α : Type} (le : α → α → Bool) (l : List α) : List α := l.foldr (insertBy le) []

/-- Byte `i` of a byte string, 0 past its end. -/
def u8 (b : List Byte) (i : Nat) : Nat := (b.getD i 0#8).toNat

/-- The unsigned `n`-byte little-endian value at offset `i`. -/
def ule (b : List Byte) (i : Nat) : Nat → Nat
  | 0 => 0
  | n + 1 => u8 b i + 256 * ule b (i + 1) n

/-- The unsigned 16-bit value at offset `i`. -/
def u16 (b : List Byte) (i : Nat) : Nat := ule b i 2

/-- The unsigned 32-bit value at offset `i`. -/
def u32 (b : List Byte) (i : Nat) : Nat := ule b i 4

/-- The `n`-bit two's complement reading of `x`. -/
def sext (n x : Nat) : Int :=
  if x % 2 ^ n < 2 ^ (n - 1) then (x % 2 ^ n : Nat) else (x % 2 ^ n : Nat) - (2 ^ n : Nat)

/-- The signed 32-bit value at offset `i`. -/
def i32 (b : List Byte) (i : Nat) : Int := sext 32 (u32 b i)

/-- The signed 16-bit value at offset `i`. -/
def i16 (b : List Byte) (i : Nat) : Int := sext 16 (u16 b i)

/-- The signed 8-bit value at offset `i`. -/
def i8 (b : List Byte) (i : Nat) : Int := sext 8 (u8 b i)

/-- The `n` little-endian bytes of a number. -/
def lebytes : Nat → Nat → List Byte
  | 0, _ => []
  | n + 1, x => BitVec.ofNat 8 x :: lebytes n (x / 256)

/-- The 4 little-endian bytes of a word. -/
def wbytes (w : Word) : List Byte := lebytes 4 w.toNat

/-- The 4 little-endian bytes of a signed number. -/
def ibytes (n : Nat) (x : Int) : List Byte := lebytes n (x % (2 ^ (8 * n) : Nat)).toNat

/-- A byte from a number. -/
def byte (x : Nat) : Byte := BitVec.ofNat 8 x

/-- The word with the value of a number. -/
def word (x : Nat) : Word := BitVec.ofNat 32 x

/-- The word with the two's complement of an integer. -/
def wordI (x : Int) : Word := BitVec.ofInt 32 x

/-- The byte string cut or zero-filled to `n` bytes. -/
def padTo (n : Nat) (b : List Byte) : List Byte := (b ++ List.replicate (n - b.length) 0#8).take n

/-- The `n` bytes from offset `i`. -/
def slice (b : List Byte) (i n : Nat) : List Byte := (b.drop i).take n

/-- The field of `n` bits from bit `i` of a number. -/
def bits (x i n : Nat) : Nat := x / 2 ^ i % 2 ^ n

/-- Bit `i` of a number. -/
def tbit (x i : Nat) : Bool := x / 2 ^ i % 2 == 1

/-- A Boolean as a number. -/
def b2n (b : Bool) : Nat := if b then 1 else 0

/-- The word with bit `i` set or cleared. -/
def wbit (w : Word) (i : Nat) (b : Bool) : Word :=
  if b then w ||| (1#32 <<< i) else w &&& ~~~(1#32 <<< i)

/-- The half word with bit `i` set or cleared. -/
def hbit (w : Half) (i : Nat) (b : Bool) : Half :=
  if b then w ||| (1#16 <<< i) else w &&& ~~~(1#16 <<< i)

/-- The number whose bit `i` is element `i` of the list. -/
def maskOf : List Bool → Nat
  | [] => 0
  | b :: r => b2n b + 2 * maskOf r

/-- The signed difference of two wrapping 32-bit values (R10). -/
def wdiff (a b : Word) : Int := (a - b).toInt

/-- `a` is newer than `b` under R10. -/
def newer (a b : Word) : Bool := decide (0 < wdiff a b)

/-- A 16-bit count that sticks at all-ones, raised by `n` (R8). -/
def satAdd (c : Half) (n : Nat) : Half := BitVec.ofNat 16 (min 0xFFFF (c.toNat + n))

/-- The first element that meets `p` replaced by what `f` gives; none when no element meets `p` or `f` gives none. -/
def modFirst {α : Type} (p : α → Bool) (f : α → Option α) : List α → Option (List α)
  | [] => none
  | x :: r => if p x then (f x).map (· :: r) else (modFirst p f r).map (x :: ·)

/-- The last element that meets `p` replaced by what `f` gives; none when no element meets `p` or `f` gives none. -/
def modLast {α : Type} (p : α → Bool) (f : α → Option α) (l : List α) : Option (List α) :=
  (modFirst p f l.reverse).map List.reverse

/-- The first element that meets `p`, and the list without it. -/
def takeFirst {α : Type} (p : α → Bool) : List α → Option (α × List α)
  | [] => none
  | x :: r => if p x then some (x, r) else (takeFirst p r).map (fun y => (y.1, x :: y.2))

/-- The last element that meets `p`, and the list without it. -/
def takeLast {α : Type} (p : α → Bool) (l : List α) : Option (α × List α) :=
  (takeFirst p l.reverse).map (fun y => (y.1, y.2.reverse))

/-- A list cut into pieces of at most `n` (fuel: its length). -/
def chunks {α : Type} (n : Nat) : Nat → List α → List (List α)
  | 0, _ => []
  | _, [] => []
  | f + 1, x :: r => ((x :: r).take n) :: chunks n f ((x :: r).drop n)

/-- The sum of a list of numbers. -/
def sumNat (l : List Nat) : Nat := l.foldl (· + ·) 0

/-- Round-half-up of a quotient of integers by a positive divisor. -/
def divRound (a : Int) (b : Nat) : Int := (2 * a + b) / (2 * b)

end Sys2Proof.Machine
end

