-- ==== Sys2Proof/Machine/F64.lean ====
section
/-! DEFINITION. IEEE 754 binary64 arithmetic on the bits of its values, round to nearest with ties to even
(spec/06_position_estimation.md R137), and vectors and matrices over it. -/

namespace Sys2Proof.Machine
open Sys2Proof

/-- A binary64 value taken apart: a finite value is `(-1)^neg · m · 2^e`. -/
inductive FVal where
  /-- Finite. -/
  | fin (neg : Bool) (m : Nat) (e : Int)
  /-- Infinite. -/
  | inf (neg : Bool)
  /-- Not a number. -/
  | nan
  deriving DecidableEq, Repr

/-- Taking a value apart. -/
def fOpen (x : F64) : FVal :=
  let neg := x.getLsbD 63
  let ex := (x.extractLsb' 52 11).toNat
  let fr := (x.extractLsb' 0 52).toNat
  if ex = 2047 then (if fr = 0 then .inf neg else .nan)
  else if ex = 0 then .fin neg fr (-1074)
  else .fin neg (fr + 4503599627370496) ((ex : Int) - 1075)

/-- The quiet not-a-number. -/
def fNan : F64 := 0x7FF8000000000000#64

/-- An infinity. -/
def fInf (neg : Bool) : F64 := if neg then 0xFFF0000000000000#64 else 0x7FF0000000000000#64

/-- Number of bits of a number. -/
def bitLen (m : Nat) : Nat := if m = 0 then 0 else m.log2 + 1

/-- The value `(-1)^neg · (m + ε) · 2^e`, where `ε` is 0 or, with `sticky`, an excess below 1, rounded to nearest, ties
to even. -/
def fRound (neg : Bool) (m : Nat) (e : Int) (sticky : Bool) : F64 :=
  let n : Int := bitLen m
  let sh := max (n - 53) (-1074 - e)
  let q : Nat × Int :=
    if sh ≤ 0 then (m * 2 ^ (-sh).toNat, e + sh)
    else
      let k := sh.toNat
      let b := m / 2 ^ k
      let r := m % 2 ^ k
      let half := 2 ^ (k - 1)
      let up := decide (half < r) || (r == half && (sticky || b % 2 == 1))
      (b + b2n up, e + sh)
  let q := if q.1 = 9007199254740992 then (4503599627370496, q.2 + 1) else q
  let ex := q.2 + 1075
  let body : Nat :=
    if q.1 < 4503599627370496 then q.1
    else if 2047 ≤ ex then 2047 * 4503599627370496
    else ex.toNat * 4503599627370496 + (q.1 - 4503599627370496)
  BitVec.ofNat 64 (body + (if neg then 9223372036854775808 else 0))

/-- Zero. -/
def f0 : F64 := 0#64

/-- −x. -/
def fneg (x : F64) : F64 := x ^^^ 0x8000000000000000#64

/-- |x|. -/
def fabs (x : F64) : F64 := x &&& 0x7FFFFFFFFFFFFFFF#64

/-- The signed mantissa of a finite value at exponent `e`, not above its own. -/
def signedAt (neg : Bool) (m : Nat) (e0 e : Int) : Int :=
  let v : Int := m * 2 ^ (e0 - e).toNat
  if neg then -v else v

/-- x + y. -/
def fadd (x y : F64) : F64 :=
  match fOpen x, fOpen y with
  | .nan, _ => fNan
  | _, .nan => fNan
  | .inf a, .inf b => if a = b then fInf a else fNan
  | .inf a, _ => fInf a
  | _, .inf b => fInf b
  | .fin a m e, .fin b n f =>
    let g := min e f
    let s := signedAt a m e g + signedAt b n f g
    if s = 0 then (if a && b then fneg f0 else f0) else fRound (decide (s < 0)) s.natAbs g false

/-- x − y. -/
def fsub (x y : F64) : F64 := fadd x (fneg y)

/-- x · y. -/
def fmul (x y : F64) : F64 :=
  match fOpen x, fOpen y with
  | .nan, _ => fNan
  | _, .nan => fNan
  | .inf a, .inf b => fInf (a != b)
  | .inf a, .fin b n _ => if n = 0 then fNan else fInf (a != b)
  | .fin a m _, .inf b => if m = 0 then fNan else fInf (a != b)
  | .fin a m e, .fin b n f => fRound (a != b) (m * n) (e + f) false

/-- x / y. -/
def fdiv (x y : F64) : F64 :=
  match fOpen x, fOpen y with
  | .nan, _ => fNan
  | _, .nan => fNan
  | .inf _, .inf _ => fNan
  | .inf a, .fin b _ _ => fInf (a != b)
  | .fin a _ _, .inf b => if a != b then fneg f0 else f0
  | .fin a m e, .fin b n f =>
    if n = 0 then (if m = 0 then fNan else fInf (a != b))
    else
      let k := 56 + bitLen n
      let q := m * 2 ^ k / n
      fRound (a != b) q (e - f - k) (m * 2 ^ k % n != 0)

/-- The integer square root of a number below `2^(2·k)`, bit by bit from the top. -/
def isqrtGo (n : Nat) : Nat → Nat → Nat
  | 0, r => r
  | k + 1, r => let c := r + 2 ^ k; isqrtGo n k (if c * c ≤ n then c else r)

/-- The integer square root. -/
def isqrt (n : Nat) : Nat := isqrtGo n (bitLen n / 2 + 1) 0

/-- √x. -/
def fsqrt (x : F64) : F64 :=
  match fOpen x with
  | .nan => fNan
  | .inf a => if a then fNan else fInf false
  | .fin a m e =>
    if m = 0 then x
    else if a then fNan
    else
      let k : Int := 120 + (e % 2)
      let v := m * 2 ^ k.toNat
      let r := isqrt v
      fRound false r ((e - k) / 2) (r * r != v)

/-- The value of an integer. -/
def ofI (x : Int) : F64 := if x = 0 then f0 else fRound (decide (x < 0)) x.natAbs 0 false

/-- The value of a natural number. -/
def ofN (x : Nat) : F64 := ofI x

/-- x · 2^n. -/
def fscale (x : F64) (n : Int) : F64 :=
  match fOpen x with
  | .fin a m e => if m = 0 then x else fRound a m (e + n) false
  | _ => x

/-- The nearest integer, ties away from zero (R137); 0 for what is not finite. -/
def toI (x : F64) : Int :=
  match fOpen x with
  | .fin a m e =>
    let v : Int := if 0 ≤ e then m * 2 ^ e.toNat else (2 * m + 2 ^ (-e).toNat) / (2 * 2 ^ (-e).toNat)
    if a then -v else v
  | _ => 0

/-- The largest integer not above x; 0 for what is not finite. -/
def ffloor (x : F64) : Int :=
  match fOpen x with
  | .fin a m e =>
    let v : Int := if a then -(m : Int) else m
    if 0 ≤ e then v * 2 ^ e.toNat else v / (2 ^ (-e).toNat : Nat)
  | _ => 0

/-- x < y. -/
def flt (x y : F64) : Bool :=
  match fOpen x, fOpen y with
  | .nan, _ => false
  | _, .nan => false
  | .inf a, .inf b => a && !b
  | .inf a, _ => a
  | _, .inf b => !b
  | .fin a m e, .fin b n f => let g := min e f; decide (signedAt a m e g < signedAt b n f g)

/-- x ≤ y. -/
def fle (x y : F64) : Bool :=
  match fOpen x, fOpen y with
  | .nan, _ => false
  | _, .nan => false
  | _, _ => !flt y x

/-- Two numbers are the same, zeros of either sign among them. -/
def fsame (x y : F64) : Bool := fle x y && fle y x

/-- The larger. -/
def fmax (x y : F64) : F64 := if flt x y then y else x
/-- The smaller. -/
def fmin (x y : F64) : F64 := if flt y x then y else x
/-- `x` held within ±`l`. -/
def fclamp (l x : F64) : F64 := fmax (fneg l) (fmin l x)

/-- One. -/
def f1 : F64 := ofI 1
/-- The value of a quotient of integers, rounded once. -/
def fq (a : Int) (b : Nat) : F64 := fdiv (ofI a) (ofN b)
/-- π. -/
def fpi : F64 := 0x400921FB54442D18#64
/-- Radians in one 2⁻³² turn: 2π / 2³². -/
def radPerBa : F64 := fscale fpi (-31)
/-- A binary angle in radians. -/
def baRad (x : Int) : F64 := fmul (ofI x) radPerBa
/-- Radians as a binary angle, ties away from zero. -/
def radBa (x : F64) : Int := toI (fdiv x radPerBa)
/-- An angle brought to −π … π. -/
def fwrap (x : F64) : F64 :=
  let t := fscale fpi 1
  fsub x (fmul t (ofI (toI (fdiv x t))))

/-! ## Vectors and matrices -/

/-- A vector of binary64 values. -/
abbrev FVec := List F64
/-- A matrix, by rows. -/
abbrev FMat := List FVec

/-- Element `i`, 0 outside. -/
def fel (v : FVec) (i : Nat) : F64 := v.getD i f0
/-- Element `(i, j)`. -/
def mel (a : FMat) (i j : Nat) : F64 := fel (a.getD i []) j
/-- The vector of `n` elements given by place. -/
def vof (n : Nat) (f : Nat → F64) : FVec := (List.range n).map f
/-- The matrix given by place. -/
def mof (n m : Nat) (f : Nat → Nat → F64) : FMat := (List.range n).map (fun i => vof m (f i))
/-- Inner product, summed in order. -/
def fdot (a b : FVec) : F64 := (List.zipWith fmul a b).foldl fadd f0
/-- a + b. -/
def vadd (a b : FVec) : FVec := List.zipWith fadd a b
/-- a − b. -/
def vsub (a b : FVec) : FVec := List.zipWith fsub a b
/-- k · a. -/
def vscale (k : F64) (a : FVec) : FVec := a.map (fmul k)
/-- Transpose of a matrix of `m` columns. -/
def mtr (m : Nat) (a : FMat) : FMat := (List.range m).map (fun j => a.map (fun r => fel r j))
/-- A · v. -/
def mvec (a : FMat) (v : FVec) : FVec := a.map (fun r => fdot r v)
/-- A · B, `m` columns in B. -/
def mmul (m : Nat) (a b : FMat) : FMat := let bt := mtr m b; a.map (fun r => bt.map (fdot r))
/-- A + B. -/
def madd (a b : FMat) : FMat := List.zipWith vadd a b
/-- A − B. -/
def msub (a b : FMat) : FMat := List.zipWith vsub a b
/-- The identity. -/
def mid (n : Nat) : FMat := mof n n (fun i j => if i = j then f1 else f0)
/-- The matrix of zeros. -/
def mzero (n : Nat) : FMat := mof n n (fun _ _ => f0)
/-- a · bᵀ. -/
def outer (a b : FVec) : FMat := a.map (fun x => vscale x b)
/-- Replace element `i`. -/
def vput (i : Nat) (x : F64) (v : FVec) : FVec := v.set i x

/-- One elimination step of the inversion of [A | B]: pivot row `k`. -/
def elimStep (k : Nat) (a : FMat) : FMat :=
  let p := mel a k k
  let row := (a.getD k []).map (fun x => fdiv x p)
  a.zipIdx.map (fun r => if r.2 = k then row else vsub r.1 (vscale (fel r.1 k) row))

/-- The inverse of a symmetric positive definite matrix, by elimination without exchange of rows. -/
def minv (n : Nat) (a : FMat) : FMat :=
  let aug := List.zipWith (· ++ ·) a (mid n)
  ((List.range n).foldl (fun m k => elimStep k m) aug).map (List.drop n)

end Sys2Proof.Machine
end

