-- ==== Sys2Proof/Machine/Elementary.lean ====
section
/-! DEFINITION. The elementary functions that the pairs compute in binary64 (spec/06_position_estimation.md R137), as the
nearest value to the exact one: DEDUCED (assumption 18). They are formed in fixed point with 240 fraction bits. -/

namespace Sys2Proof.Machine
open Sys2Proof

/-- Fraction bits. -/
def fxBits : Nat := 240

/-- One. -/
def fxOne : Int := 2 ^ 240

/-- π. -/
def fxPi : Int := 0x3243f6a8885a308d313198a2e03707344a4093822299f31d0082efa98ec4e

/-- The natural logarithm of 2. -/
def fxLn2 : Int := 0xb17217f7d1cf79abc9e3b39803f2f6af40f343267298b62d8a0d175b8baa

/-- A product of two fixed-point numbers. -/
def fxMul (a b : Int) : Int := a * b / fxOne

/-- A quotient of two fixed-point numbers. -/
def fxDiv (a b : Int) : Int := a * fxOne / b

/-- A finite value in fixed point. -/
def fxOf (neg : Bool) (m : Nat) (e : Int) : Int :=
  let sh := e + 240
  let v : Int := if 0 ≤ sh then (m * 2 ^ sh.toNat : Nat) else (m / 2 ^ (-sh).toNat : Nat)
  if neg then -v else v

/-- The nearest binary64 value to a fixed-point number times `2^k`; what lies below its last bit counts as more than 0. -/
def fxTo (x k : Int) : F64 := if x = 0 then f0 else fRound (decide (x < 0)) x.natAbs (k - 240) true

/-- The terms of sine or cosine from the n-th on: `t` is the last term, `y` the square of the argument. -/
def fxSeries (y : Int) : Nat → Int → Int → Int → Int
  | 0, _, _, acc => acc
  | f + 1, n, t, acc =>
    let t := -(fxMul t y) / (n * (n + 1))
    fxSeries y f (n + 2) t (acc + t)

/-- Sine and cosine of an argument within an eighth turn or so. -/
def fxSinCos (r : Int) : Int × Int :=
  let y := fxMul r r
  (fxSeries y 40 2 r r, fxSeries y 40 1 fxOne fxOne)

/-- Sine and cosine of any argument, by quarter turns. -/
def fxTrig (x : Int) : Int × Int :=
  let k := (2 * x + fxPi / 2) / fxPi
  let p := fxSinCos (x - k * fxPi / 2)
  match (k % 4).toNat with
  | 0 => p
  | 1 => (p.2, -p.1)
  | 2 => (-p.1, -p.2)
  | _ => (-p.2, p.1)

/-- The value is finite and below 2⁻⁴⁰ in magnitude. -/
def fTiny (m : Nat) (e : Int) : Bool := decide ((bitLen m : Int) + e < -40)

/-- sin x. -/
def fsin (x : F64) : F64 := match fOpen x with
  | .fin a m e => if fTiny m e then x else fxTo (fxTrig (fxOf a m e)).1 0
  | _ => fNan

/-- cos x. -/
def fcos (x : F64) : F64 := match fOpen x with
  | .fin a m e => if fTiny m e then f1 else fxTo (fxTrig (fxOf a m e)).2 0
  | _ => fNan

/-- tan x. -/
def ftan (x : F64) : F64 := match fOpen x with
  | .fin a m e => if fTiny m e then x else let p := fxTrig (fxOf a m e); fxTo (fxDiv p.1 p.2) 0
  | _ => fNan

/-- Half the angle of an arctangent's argument. -/
def fxHalf (q : Int) : Int :=
  fxDiv q (fxOne + (isqrt ((fxOne + fxMul q q) * fxOne).toNat : Int))

/-- The terms of an arctangent (`sg` −1) or of its hyperbolic counterpart (`sg` 1) from the n-th on. -/
def fxOdd (sg y : Int) : Nat → Int → Int → Int → Int
  | 0, _, _, acc => acc
  | f + 1, n, t, acc =>
    let t := sg * fxMul t y
    fxOdd sg y f (n + 2) t (acc + t / n)

/-- The arctangent of a number from 0 to 1. -/
def fxAtan (q : Int) : Int :=
  let h := fxHalf (fxHalf q)
  4 * fxOdd (-1) (fxMul h h) 60 3 h h

/-- The angle of the point (c, s), from −π to π. -/
def fatan2 (s c : F64) : F64 :=
  match fOpen s, fOpen c with
  | .fin a m e, .fin b n f =>
    if m = 0 then (if b then (if a then fneg fpi else fpi) else s)
    else
      let g := min e f
      let y := m * 2 ^ (e - g).toNat
      let x := n * 2 ^ (f - g).toNat
      if b = false ∧ y * 2 ^ 40 < x then fdiv s c
      else
        let r : Int := if y ≤ x then fxAtan ((y * 2 ^ 240 / x : Nat) : Int) else fxPi / 2 - fxAtan ((x * 2 ^ 240 / y : Nat) : Int)
        let t := if b then fxPi - r else r
        fxTo (if a then -t else t) 0
  | _, _ => fNan

/-- The natural logarithm of m·2^e, for m above 0. -/
def fxLog (m : Nat) (e : Int) : Int :=
  let n := bitLen m
  let x : Int := (m * 2 ^ (240 - n) : Nat)
  let low := decide (x * x < fxOne * fxOne / 2)
  let x := if low then 2 * x else x
  let k : Int := e + n - (if low then 1 else 0)
  let z := fxDiv (x - fxOne) (x + fxOne)
  2 * fxOdd 1 (fxMul z z) 60 3 z z + k * fxLn2

/-- The terms of the exponential from the n-th on. -/
def fxExpGo (r : Int) : Nat → Int → Int → Int → Int
  | 0, _, _, acc => acc
  | f + 1, n, t, acc =>
    let t := fxMul t r / n
    fxExpGo r f (n + 1) t (acc + t)

/-- x raised to y, for x at or above 0 and y above 0. -/
def fpow (x y : F64) : F64 :=
  match fOpen x, fOpen y with
  | .fin a m e, .fin b n f =>
    if m = 0 then f0
    else if a ∨ b ∨ n = 0 then fNan
    else if x = f1 then f1
    else if y = f1 then x
    else
      let l := fxMul (fxLog m e) (fxOf false n f)
      let k := l / fxLn2
      let r := l - k * fxLn2
      fxTo (fxExpGo r 60 1 fxOne fxOne) k
  | _, _ => fNan

end Sys2Proof.Machine
end

