-- ==== Sys2Proof/Machine/Crypto.lean ====
section
/-! DEFINITION. SHA-384 (spec/03 R59, FIPS 180-4), ECDSA on P-384 (R59, FIPS 186-5), and the cyclic redundancy
checks of the spec: CRC-32 of the section directory (spec/03), CRC-32C (spec/13), CRC-64 (spec/13 R336). -/

namespace Sys2Proof.Machine
open Sys2Proof

/-! ## SHA-384 -/

/-- Round constants 0 to 19. -/
def shaK0 : List (BitVec 64) :=
  [0x428a2f98d728ae22#64, 0x7137449123ef65cd#64, 0xb5c0fbcfec4d3b2f#64, 0xe9b5dba58189dbbc#64,
   0x3956c25bf348b538#64, 0x59f111f1b605d019#64, 0x923f82a4af194f9b#64, 0xab1c5ed5da6d8118#64,
   0xd807aa98a3030242#64, 0x12835b0145706fbe#64, 0x243185be4ee4b28c#64, 0x550c7dc3d5ffb4e2#64,
   0x72be5d74f27b896f#64, 0x80deb1fe3b1696b1#64, 0x9bdc06a725c71235#64, 0xc19bf174cf692694#64,
   0xe49b69c19ef14ad2#64, 0xefbe4786384f25e3#64, 0x0fc19dc68b8cd5b5#64, 0x240ca1cc77ac9c65#64]

/-- Round constants 20 to 39. -/
def shaK1 : List (BitVec 64) :=
  [0x2de92c6f592b0275#64, 0x4a7484aa6ea6e483#64, 0x5cb0a9dcbd41fbd4#64, 0x76f988da831153b5#64,
   0x983e5152ee66dfab#64, 0xa831c66d2db43210#64, 0xb00327c898fb213f#64, 0xbf597fc7beef0ee4#64,
   0xc6e00bf33da88fc2#64, 0xd5a79147930aa725#64, 0x06ca6351e003826f#64, 0x142929670a0e6e70#64,
   0x27b70a8546d22ffc#64, 0x2e1b21385c26c926#64, 0x4d2c6dfc5ac42aed#64, 0x53380d139d95b3df#64,
   0x650a73548baf63de#64, 0x766a0abb3c77b2a8#64, 0x81c2c92e47edaee6#64, 0x92722c851482353b#64]

/-- Round constants 40 to 59. -/
def shaK2 : List (BitVec 64) :=
  [0xa2bfe8a14cf10364#64, 0xa81a664bbc423001#64, 0xc24b8b70d0f89791#64, 0xc76c51a30654be30#64,
   0xd192e819d6ef5218#64, 0xd69906245565a910#64, 0xf40e35855771202a#64, 0x106aa07032bbd1b8#64,
   0x19a4c116b8d2d0c8#64, 0x1e376c085141ab53#64, 0x2748774cdf8eeb99#64, 0x34b0bcb5e19b48a8#64,
   0x391c0cb3c5c95a63#64, 0x4ed8aa4ae3418acb#64, 0x5b9cca4f7763e373#64, 0x682e6ff3d6b2b8a3#64,
   0x748f82ee5defb2fc#64, 0x78a5636f43172f60#64, 0x84c87814a1f0ab72#64, 0x8cc702081a6439ec#64]

/-- Round constants 60 to 79. -/
def shaK3 : List (BitVec 64) :=
  [0x90befffa23631e28#64, 0xa4506cebde82bde9#64, 0xbef9a3f7b2c67915#64, 0xc67178f2e372532b#64,
   0xca273eceea26619c#64, 0xd186b8c721c0c207#64, 0xeada7dd6cde0eb1e#64, 0xf57d4f7fee6ed178#64,
   0x06f067aa72176fba#64, 0x0a637dc5a2c898a6#64, 0x113f9804bef90dae#64, 0x1b710b35131c471b#64,
   0x28db77f523047d84#64, 0x32caab7b40c72493#64, 0x3c9ebe0a15c9bebc#64, 0x431d67c49c100d4c#64,
   0x4cc5d4becb3e42b6#64, 0x597f299cfc657e2a#64, 0x5fcb6fab3ad6faec#64, 0x6c44198c4a475817#64]

/-- The 80 round constants. -/
def shaK : List (BitVec 64) := List.append shaK0 (List.append shaK1 (List.append shaK2 shaK3))

/-- The initial hash value of SHA-384. -/
def sha384Init : List (BitVec 64) :=
  [0xcbbb9d5dc1059ed8#64, 0x629a292a367cd507#64, 0x9159015a3070dd17#64, 0x152fecd8f70e5939#64,
   0x67332667ffc00b31#64, 0x8eb44a8768581511#64, 0xdb0c2e0d64f98fa7#64, 0x47b5481dbefa4fa4#64]

/-- The big-endian number of a byte string. -/
def beNat (b : List Byte) : Nat := b.foldl (fun a x => 256 * a + x.toNat) 0

/-- The `n` big-endian bytes of a number. -/
def beBytes (n x : Nat) : List Byte := (lebytes n x).reverse

/-- The padded message: a one bit, zeros, the bit length in 128 bits. -/
def shaPad (m : List Byte) : List Byte :=
  m ++ 0x80#8 :: List.replicate ((239 - m.length % 128) % 128) 0#8 ++ beBytes 16 (8 * m.length)

/-- The message schedule, newest word first, extended by `n` words. -/
def shaExtend : Nat → List (BitVec 64) → List (BitVec 64)
  | 0, w => w
  | n + 1, w =>
    let g := fun i => w.getD i 0#64
    let a := g 14
    let b := g 1
    let s0 := a.rotateRight 1 ^^^ a.rotateRight 8 ^^^ (a >>> 7)
    let s1 := b.rotateRight 19 ^^^ b.rotateRight 61 ^^^ (b >>> 6)
    shaExtend n ((g 15 + s0 + g 6 + s1) :: w)

/-- One round on the eight working words. -/
def shaRound (v : List (BitVec 64)) (k w : BitVec 64) : List (BitVec 64) :=
  let g := fun i => v.getD i 0#64
  let a := g 0
  let e := g 4
  let t1 := g 7 + (e.rotateRight 14 ^^^ e.rotateRight 18 ^^^ e.rotateRight 41)
    + ((e &&& g 5) ^^^ (~~~e &&& g 6)) + k + w
  let t2 := (a.rotateRight 28 ^^^ a.rotateRight 34 ^^^ a.rotateRight 39)
    + ((a &&& g 1) ^^^ (a &&& g 2) ^^^ (g 1 &&& g 2))
  [t1 + t2, a, g 1, g 2, g 3 + t1, e, g 5, g 6]

/-- The hash value after one 128-byte block. -/
def shaBlock (h : List (BitVec 64)) (b : List Byte) : List (BitVec 64) :=
  let w0 := (List.range 16).map (fun i => BitVec.ofNat 64 (beNat (slice b (8 * i) 8)))
  let w := (shaExtend 64 w0.reverse).reverse
  let v := (List.zip shaK w).foldl (fun v p => shaRound v p.1 p.2) h
  List.zipWith (· + ·) h v

/-- SHA-384 of a byte string. -/
def sha384 (m : List Byte) : List Byte :=
  let p := shaPad m
  let h := (chunks 128 p.length p).foldl shaBlock sha384Init
  ((h.take 6).map (fun x => beBytes 8 x.toNat)).flatten

/-! ## ECDSA on P-384 -/

/-- The field prime of P-384. -/
def p384p : Nat := 2 ^ 384 - 2 ^ 128 - 2 ^ 96 + 2 ^ 32 - 1

/-- The order of the base point. -/
def p384n : Nat :=
  0xffffffffffffffffffffffffffffffffffffffffffffffffc7634d81f4372ddf581a0db248b0a77aecec196accc52973

/-- The curve coefficient b. -/
def p384b : Nat :=
  0xb3312fa7e23ee7e4988e056be3f82d19181d9c6efe8141120314088f5013875ac656398d8a2ed19d2a85c8edd3ec2aef

/-- The base point's x. -/
def p384gx : Nat :=
  0xaa87ca22be8b05378eb1c71ef320ad746e1d3b628ba79b9859f741e082542a385502f25dbf55296c3a545e3872760ab7

/-- The base point's y. -/
def p384gy : Nat :=
  0x3617de4a96262c6f5d9e98bf9292dc29f8f41dbd289a147ce9da3113b5f0b8c00a60b1ce1d7e819d7a431d7c90ea0e5f

/-- A power modulo `m`, by the low `fuel` bits of the exponent. -/
def powMod (m : Nat) : Nat → Nat → Nat → Nat
  | 0, _, _ => 1
  | fuel + 1, b, e =>
    let r := powMod m fuel (b * b % m) (e / 2)
    if e % 2 = 1 then r * b % m else r

/-- The inverse modulo a prime (Fermat). -/
def invMod (m a : Nat) : Nat := powMod m 384 (a % m) (m - 2)

/-- A point of the curve in Jacobian form: x, y, z; z is 0 at infinity. -/
abbrev JPoint := Nat × Nat × Nat

/-- The double of a point (a = −3). -/
def jDouble : JPoint → JPoint
  | (x, y, z) =>
    let p := p384p
    let zz := z * z % p
    let yy := y * y % p
    let b := x * yy % p
    let al := 3 * ((x + (p - zz)) % p) * ((x + zz) % p) % p
    let x3 := (al * al + (p - 8 * b % p)) % p
    let z3 := 2 * y * z % p
    let y3 := (al * ((4 * b + (p - x3)) % p) + (p - 8 * (yy * yy % p) % p)) % p
    (x3, y3, z3)

/-- The sum of two points. -/
def jAdd : JPoint → JPoint → JPoint
  | (x1, y1, z1), (x2, y2, z2) =>
    let p := p384p
    if z1 = 0 then (x2, y2, z2) else if z2 = 0 then (x1, y1, z1) else
    let z1z1 := z1 * z1 % p
    let z2z2 := z2 * z2 % p
    let u1 := x1 * z2z2 % p
    let u2 := x2 * z1z1 % p
    let s1 := y1 * z2 % p * z2z2 % p
    let s2 := y2 * z1 % p * z1z1 % p
    if u1 = u2 then (if s1 = s2 then jDouble (x1, y1, z1) else (1, 1, 0)) else
    let h := (u2 + (p - u1)) % p
    let r := (s2 + (p - s1)) % p
    let hh := h * h % p
    let hhh := h * hh % p
    let v := u1 * hh % p
    let x3 := (r * r + (p - hhh) + 2 * (p - v)) % p
    let y3 := (r * ((v + (p - x3)) % p) + (p - s1 * hhh % p)) % p
    (x3, y3, h * z1 % p * z2 % p)

/-- A multiple of a point, by the low `fuel` bits of the scalar. -/
def jMul : Nat → Nat → JPoint → JPoint
  | 0, _, _ => (1, 1, 0)
  | fuel + 1, k, q =>
    let r := jMul fuel (k / 2) (jDouble q)
    if k % 2 = 1 then jAdd r q else r

/-- The point (x, y) lies on P-384 (spec/24 R538 OP 4). -/
def onP384 (x y : Nat) : Bool :=
  decide (x < p384p) && decide (y < p384p) &&
    (y * y % p384p == (x * x % p384p * x + (p384p - 3 * x % p384p) + p384b) % p384p)

/-- The signature (r, s) over a message verifies with the public key (x, y) (R59). -/
def ecdsaVerify (msg : List Byte) (x y r s : Nat) : Bool :=
  if r = 0 ∨ r ≥ p384n ∨ s = 0 ∨ s ≥ p384n ∨ onP384 x y = false then false else
  let e := beNat (sha384 msg) % p384n
  let w := invMod p384n s
  let q := jAdd (jMul 384 (e * w % p384n) (p384gx, p384gy, 1)) (jMul 384 (r * w % p384n) (x, y, 1))
  match q with
  | (qx, _, qz) =>
    if qz = 0 then false
    else
      let zi := invMod p384p qz
      (qx * (zi * zi % p384p) % p384p) % p384n == r

/-! ## Cyclic redundancy checks -/

/-- One step of a reflected CRC: one bit, with the reflected polynomial. -/
def crcBit {n : Nat} (poly : BitVec n) (c : BitVec n) : BitVec n :=
  if c.getLsbD 0 then (c >>> 1) ^^^ poly else c >>> 1

/-- Eight bits of a reflected CRC. -/
def crcByte {n : Nat} (poly : BitVec n) (c : BitVec n) (b : Byte) : BitVec n :=
  let c := c ^^^ b.setWidth n
  (List.range 8).foldl (fun c _ => crcBit poly c) c

/-- CRC-32: polynomial 0x04C1_1DB7, reflected, initial value and final XOR all-ones (spec/03). -/
def crc32 (b : List Byte) : Word := ~~~(b.foldl (crcByte 0xEDB88320#32) 0xFFFFFFFF#32)

/-- CRC-32C: polynomial 0x1EDC_6F41, reflected, initial value and final XOR all-ones (spec/14 R363). -/
def crc32c (b : List Byte) : Word := ~~~(b.foldl (crcByte 0x82F63B78#32) 0xFFFFFFFF#32)

/-- CRC-64 of ECMA-182, reflected, initial value and final XOR all-ones (spec/13 R336). -/
def crc64 (b : List Byte) : DWord := ~~~(b.foldl (crcByte 0xC96C5795D7870F42#64) 0xFFFFFFFFFFFFFFFF#64)

/-- Eight bits of the unreflected CRC-16 with polynomial 0x1021 (spec/04 R89). -/
def crc16Byte (c : Half) (b : Byte) : Half :=
  let c := c ^^^ (b.setWidth 16 <<< 8)
  (List.range 8).foldl (fun c _ => if c.getLsbD 15 then (c <<< 1) ^^^ 0x1021#16 else c <<< 1) c

/-- CRC-16: polynomial 0x1021, initial value 0xFFFF, not reflected (spec/04 R89). -/
def crc16 (b : List Byte) : Half := b.foldl crc16Byte 0xFFFF#16

/-- Eight bits of the unreflected CRC-24Q. -/
def crc24Byte (c : BitVec 24) (b : Byte) : BitVec 24 :=
  let c := c ^^^ (b.setWidth 24 <<< 16)
  (List.range 8).foldl (fun c _ => if c.getLsbD 23 then (c <<< 1) ^^^ 0x864CFB#24 else c <<< 1) c

/-- CRC-24Q of RTCM frames (spec/05 R122): the Qualcomm polynomial 0x1864CFB, PRESUMED from the named standard. -/
def crc24q (b : List Byte) : BitVec 24 := b.foldl crc24Byte 0#24

end Sys2Proof.Machine
end

