-- ==== Sys2Proof/Machine/Ops.lean ====
section
/-! DEFINITION. The named operations every command is written over: time and stamps, configuration registers,
occurrence counters, raising events, writing points, ring entries, messages and completions. -/

namespace Sys2Proof.Machine
open Sys2Proof

/-! ## Time -/

/-- Device time, ns (spec/12 R299). -/
def State.devTime (s : State) : Int := (s.clk.now : Int) + s.clk.base

/-- The stamp of the present instant: the low 32 bits of device time in ns (R5). -/
def State.stamp (s : State) : Word := wordI s.devTime

/-- The start of slot `n`, ns after the tick was made: the tick reaches the slot timers 80 ns later (R31, R32). -/
def slotStart (n : Nat) : Nat := 80 + 20000 * n

/-- The state at the instant `t` ns after the latest course tick; time never runs back, and while frames run an instant
lies within its course. DESIGN CHOICE (assumption 2). -/
def State.instant (t : Nat) (s : State) : State :=
  s.withClk { s.clk with now := max s.clk.now (s.clk.tickAt + (if s.pwr.phase = 7 then min t 999899 else t)) }

/-- The frame length in courses, 20 until a table takes effect (R584). -/
def State.frameCourses (s : State) : Nat := if s.crs.frameLen = 0 then 20 else s.crs.frameLen

/-- Authenticated firmware runs, so the blocks beyond GLB and PWR answer (R547). -/
def State.firmwareRuns (s : State) : Bool := s.glb.fwRunning

/-- A fresh place in the sequence of free values; see Config. -/
def State.useFree (s : State) : State := s.withClk { s.clk with free := s.clk.free + 1 }

/-! ## Configuration registers -/

/-- What a configuration register reads. -/
def State.cfgReg (s : State) (r : CfgReg) : Word := s.regs.cfg[r.idx]

/-- The value of a configuration register in effect (R554). -/
def State.effReg (s : State) (r : CfgReg) : Word := s.regs.eff[r.idx]

/-- Field of `n` bits at bit `i` of a configuration register in effect. -/
def State.effField (s : State) (r : CfgReg) (i n : Nat) : Nat := bits (s.effReg r).toNat i n

/-- The state with a configuration register's contents replaced; a register that acts at once acts (R554). -/
def State.setCfg (s : State) (r : CfgReg) (w : Word) : State :=
  s.withRegs { s.regs with
    cfg := s.regs.cfg.set r.idx w,
    eff := if r.takes = .now then s.regs.eff.set r.idx w else s.regs.eff }

/-- Every register of one moment of effect takes its written value (R554). -/
def State.takeCfg (s : State) (w : CfgWhen) : State :=
  s.withRegs { s.regs with
    eff := CfgReg.all.foldl (fun v r => if r.takes = w then v.set r.idx (s.regs.cfg[r.idx]) else v) s.regs.eff }

/-- The lock of a block is set. -/
def State.locked (s : State) (l : LockId) : Bool := s.regs.locks[l.idx]

/-! ## Outputs -/

/-- Record an output of the block. -/
def State.emit (o : Out) (s : State) : State := s.withOutbox (s.outbox ++ [o])

/-! ## Events (spec/18) -/

/-- The CODE word: qualifier, cause, INDEX (R439). -/
def mkCode (qual cause index : Nat) : Word :=
  word (qual % 256 + 256 * (cause % 256) + 65536 * (index % 65536))

/-- INDEX when there is none (R439). -/
def noIndex : Nat := 0xFFFF

/-- One more event in a queued entry (R441). -/
def QEntry.absorb (stamp : Word) (q : QEntry) : QEntry :=
  { q with last := stamp, count := satAdd q.count 1, coalesced := true }

/-- A new queue entry for an event, which takes the pending drops (R443). -/
def Evt.enqueue (ev : Event) (spill : Bool) (e : Evt) : Evt :=
  let q := e.queue ++ [{ ev := ev, last := ev.stamp, count := 1, coalesced := false, dropped := e.pendDrops, atOver := spill }]
  { e with queue := q, pendDrops := 0, peak := max e.peak q.length }

/-- The queue with the event coalesced into the youngest entry of its source, when class and CODE agree (R441). -/
def Evt.coalesce (ev : Event) (e : Evt) : Option (List QEntry) :=
  modLast (fun q => q.ev.src == ev.src)
    (fun q => if q.ev.sev = ev.sev ∧ q.ev.code = ev.code then some (q.absorb ev.stamp) else none) e.queue

/-- The queue with an alarm coalesced into the youngest alarm entry of its source, whatever its CODE (R442). -/
def Evt.coalesceAlarm (ev : Event) (e : Evt) : Option (List QEntry) :=
  modLast (fun q => q.ev.src == ev.src && q.ev.sev == .alarm) (fun q => some (q.absorb ev.stamp)) e.queue

/-- The source's bit in EVT_DROPPED0 to EVT_DROPPED3 (R443). -/
def Evt.markDropped (src : Nat) (e : Evt) : Evt :=
  { e with droppedBits := vmod e.droppedBits (src / 32) (fun w => wbit w (src % 32) true) }

/-- The counter of a dropped event's class (R443). -/
def dropCtr (v : Sev) : Ctr := if v = .warning then .dropWarn else .dropNotice

/-- An event handed to the delivery queue (R440 to R443): the queue after it, and the counters it raises. -/
def Evt.offer (ev : Event) (e : Evt) : Evt × List (Ctr × Nat) :=
  let level := e.queue.length
  match ev.sev with
  | .alarm =>
    if level < 1024 then (e.enqueue ev false, []) else
    match e.coalesceAlarm ev with
    | some q => ({ e with queue := q }, [(.coalesced, 1)])
    | none =>
      match takeLast (fun q => q.ev.sev != .alarm) e.queue with
      | some (v, q) =>
        let e := Evt.markDropped v.ev.src { e with queue := q, pendDrops := satAdd e.pendDrops (v.count.toNat + v.dropped.toNat) }
        (e.enqueue ev false, [(dropCtr v.ev.sev, v.count.toNat)])
      | none => (e.enqueue ev true, [])
  | sev =>
    let room := if sev = .warning then 512 else 256
    let limit := if sev = .warning then 768 else 512
    if level < room then (e.enqueue ev false, []) else
    match e.coalesce ev with
    | some q => ({ e with queue := q }, [(.coalesced, 1)])
    | none =>
      if level < limit then (e.enqueue ev false, [])
      else (Evt.markDropped ev.src { e with pendDrops := satAdd e.pendDrops 1 }, [(dropCtr sev, 1)])

/-- An event handed to the recorder's staging FIFO (R447): the FIFO after it, and the counters it raises. -/
def Evt.stage (ev : Event) (e : Evt) : Evt × List (Ctr × Nat) :=
  match modFirst (fun x => x.ev.src == ev.src)
      (fun x => some { x with last := ev.stamp, count := satAdd x.count 1 }) e.slots with
  | some l => ({ e with slots := l }, [])
  | none =>
    if e.staging.length < 256 then
      ({ e with staging := e.staging ++ [{ ev := ev, last := ev.stamp, count := 1 }] }, [])
    else ({ e with slots := e.slots ++ [{ ev := ev, last := ev.stamp, count := 1 }] }, [(.stageColl, 1)])

/-- The bit of a source in EVT_MASK0 to EVT_MASK3. -/
def State.masked (s : State) (src : Nat) : Bool :=
  let r : CfgReg := if src < 32 then .evtMask0 else if src < 64 then .evtMask1 else if src < 96 then .evtMask2 else .evtMask3
  (s.cfgReg r).getLsbD (src % 32)

/-- An occurrence counter raised by `n` (R8): it sticks, and the flag is true when it has just stuck. -/
def Occ.add (n : Nat) (o : Occ) : Occ × Bool :=
  if o.ovf then (o, false)
  else if o.count.toNat + n < 0xFFFF then ({ o with count := satAdd o.count n }, false)
  else ({ count := 0xFFFF, ovf := true }, true)

/-- The event at the present instant with these contents. -/
def State.mkEvent (s : State) (src : Nat) (sev : Sev) (code : Word) (vals : List Word) : Event :=
  { src := src, sev := sev, code := code, stamp := s.stamp, frame := s.crs.frame, time := s.devTime, vals := vals.take 9 }

/-- An event goes to both paths (R437); a counter of the EVT block that sticks on the way raises its own event.
`fuel` bounds that chain: the block has four such counters, each of which can stick once. -/
def State.raiseFuel : Nat → Event → State → State
  | 0, _, s => s
  | fuel + 1, ev, s =>
    let st := s.evt.stage ev
    let off := if ev.sev ≠ .alarm ∧ s.masked ev.src then (st.1, []) else st.1.offer ev
    let s := s.withEvt off.1
    (st.2 ++ off.2).foldl (fun s c =>
      let o := Occ.add c.2 (s.regs.ctrs[c.1.idx])
      let s := s.withRegs { s.regs with ctrs := s.regs.ctrs.set c.1.idx o.1 }
      if o.2 then State.raiseFuel fuel (s.mkEvent c.1.source .notice (mkCode 0 c.1.cause c.1.index) []) s else s) s

/-- Raise an event (R437). -/
def State.raise (src : Nat) (sev : Sev) (qual cause index : Nat) (vals : List Word) (s : State) : State :=
  s.raiseFuel 5 (s.mkEvent src sev (mkCode qual cause index) vals)

/-! ## Occurrence counters -/

/-- A counter's contents. -/
def State.ctr (s : State) (c : Ctr) : Occ := s.regs.ctrs[c.idx]

/-- Count `n` happenings (R8); the counter-overflow event of the block is raised once, when the counter sticks. -/
def State.countN (c : Ctr) (n : Nat) (s : State) : State :=
  let o := Occ.add n (s.ctr c)
  let s := s.withRegs { s.regs with ctrs := s.regs.ctrs.set c.idx o.1 }
  if o.2 then s.raise c.source .notice 0 c.cause c.index [] else s

/-- Count one happening (R8). -/
def State.count (c : Ctr) (s : State) : State := s.countN c 1

/-- Clear a counter and its overflow flag (R9). -/
def State.clearCtr (c : Ctr) (s : State) : State :=
  s.withRegs { s.regs with ctrs := s.regs.ctrs.set c.idx Occ.zero }

/-- A counter that a select register shows, kept beside its entry: one more happening, with its block's overflow event. -/
def State.countOcc (o : Occ) (src : Nat) (s : State) : Occ × State :=
  let x := Occ.add 1 o
  (x.1, if x.2 then s.raise src .notice 0 0 noIndex [] else s)

/-! ## Register accesses (R547, R549, R551) -/

/-- A block of the register map answers now (R547). -/
def State.answers (s : State) (off : Nat) : Bool :=
  if s.pwr.inReset ∨ s.pwr.phase < 3 then false
  else if off < 0x1000 ∨ (0xE000 ≤ off ∧ off < 0xF000) ∨ 0x10000 ≤ off then true
  else s.firmwareRuns

/-- The crossings that an access to an offset passes (R551): crossing 26, and the request and acknowledge crossing of
TIM, GNS, CAN, PWR and the network registers. -/
def accessCrossings (off : Nat) : List Nat :=
  26 :: (if 0x6000 ≤ off ∧ off < 0x7000 then [4] else if 0x7000 ≤ off ∧ off < 0x8000 then [7]
    else if 0xB000 ≤ off ∧ off < 0xC000 then [24] else if 0xE000 ≤ off ∧ off < 0xF000 then [0]
    else if 0xA000 ≤ off ∧ off < 0xA014 then [21] else [])

/-- A FIFO crossing is STALLED: writes to it are refused (R488). -/
def State.fifoStalled (s : State) (c : Nat) : Bool := vget s.glb.xState c 0 == 2

/-- A crossing that the access passes is STALLED, so the access ends with an error response (R551). -/
def State.accessStalled (s : State) (off : Nat) : Bool :=
  (accessCrossings off).any (fun c => vget s.glb.xState c 0 == 2)

/-- A register write: without effect while the block does not answer (R549); an access that ends with an error response
has no effect, is counted in GLB_BAD_ACCESS and raises event source 127 with qualifier 5 (R551). -/
def State.barWrite (off : Nat) (go : State → State) (s : State) : State :=
  if s.answers off = false then s
  else if s.accessStalled off then (s.count .badAccess).raise 127 .notice 5 0 (off % 65536) []
  else go s

/-! ## Part-written rings and messages (spec/17) -/

/-- A ring's SIZE (R413). -/
def Ring.size (r : Ring) : Nat := 2 ^ bits r.rcfg.toNat 0 4

/-- Entries between the consumer's and the producer's position. -/
def Ring.used (r : Ring) (producer consumer : Nat) : Nat :=
  (producer + 2 * r.size - consumer) % (2 * r.size)

/-- Free entries of a part-written ring. -/
def Ring.free (r : Ring) : Nat := r.size - r.used r.partPos r.hostPos

/-- A ring by number. -/
def State.ring (s : State) (i : Nat) : Ring := vget s.hrg.rings i Ring.reset

/-- The state with a ring replaced. -/
def State.setRing (i : Nat) (r : Ring) (s : State) : State :=
  s.withHrg { s.hrg with rings := vset s.hrg.rings i r }

/-- The part may write an entry to the ring: it runs, has room, no retry and no entry held back waits, and the writes to the
host, crossing 25, are not STALLED (R413, R429, R488). -/
def State.ringRoom (s : State) (i : Nat) : Bool :=
  (s.ring i).state == .running && decide (0 < (s.ring i).free) && !(s.ring i).retry && (s.ring i).held.isEmpty && !s.fifoStalled 25

/-- Write one entry of 64 bytes at the part's position of a ring, its phase bit added to `flags`, as two posted writes:
bytes 0x04 on first, bytes 0x00 to 0x03 second; it is kept until the next one, since its write may still fail (R414,
R429). -/
def State.putEntry (i flags : Nat) (body : List Byte) (s : State) : State :=
  let r := s.ring i
  let phase := if r.partPos / r.size = 0 then 1 else 0
  let n := r.partPos % r.size
  ((s.emit (.ringEntry i n 4 (body.drop 3))).emit (.ringEntry i n 0 (byte (flags + phase) :: body.take 3))).setRing i
    { r with partPos := (r.partPos + 1) % (2 * r.size), last := some (byte flags :: body) }

/-- An entry goes to a ring, or behind the one that waits for its retry (R429). -/
def State.putBehind (i flags : Nat) (body : List Byte) (s : State) : State :=
  let r := s.ring i
  if r.retry then s.setRing i { r with held := r.held ++ [byte flags :: body] } else s.putEntry i flags body

/-- An entry of a stream can go to its ring, now or behind the entries that wait there (R388, R429). -/
def State.streamRoom (s : State) (i : Nat) : Bool :=
  (s.ring i).state == .running && decide ((s.ring i).held.length < (s.ring i).free) && ((s.ring i).retry || (s.ring i).held.isEmpty)
    && !s.fifoStalled 25

/-- Send an MSI-X message; a masked vector sets its pending bit (R427). -/
def State.msix (v : Nat) (s : State) : State :=
  if s.hrg.msixMask.getLsbD v then s.withHrg { s.hrg with msixPba := wbit s.hrg.msixPba v true }
  else s.emit (.msix v)

/-- The message of a ring after entries were written, moderated by MOD (R427). -/
def State.ringMsg (i : Nat) (s : State) : State :=
  let r := s.ring i
  let held := match r.lastMsg with
    | some t => decide (s.clk.now < t + 1000 * bits r.rcfg.toNat 13 10)
    | none => false
  if held then s.setRing i { r with msgDue := true }
  else (s.setRing i { r with lastMsg := some s.clk.now, msgDue := false }).msix (bits r.rcfg.toNat 8 5)

/-- The transfer whose latest piece failed is at that piece again (R430). -/
def State.holdPiece (s : State) : State :=
  match s.hrg.pieceBack with
  | some x =>
    let rest := s.hrg.xfers.filter (fun y => y.xfer != x.xfer)
    s.withHrg { s.hrg with xfers := x :: rest, pieceBack := none }
  | none => s

/-- A part-written ring halts: the entry whose write failed is held, before those behind it; a bulk ring holds its transfer
at the failed piece (R430). -/
def State.haltRing (i : Nat) (s : State) : State :=
  let r := s.ring i
  let s := s.setRing i { r with state := .halted, retry := false, last := none, held := if i = 21 then r.held else r.last.toList ++ r.held }
  let s := if i = 21 then s.holdPiece else s
  (s.count .halts).raise 112 .notice 0 0 i []

/-! ## Completions -/

/-- A command has ended: its completion waits for its turn (R421). -/
def State.complete (ring ref status : Nat) (result : Word) (s : State) : State :=
  let r := s.ring ring
  s.setRing ring { r with outst := r.outst.map (fun o =>
    if o.ref = ref then { o with done := some { status := status, result := result, frame := s.crs.frame } } else o) }

/-- End with OK and this RESULT. -/
def State.done (w : Waiting) (result : Nat) (s : State) : State := s.complete w.ring w.ref 0 (word result)

/-- End with REFUSED and this RESULT word (R422). -/
def State.refuse (w : Waiting) (result : Nat) (s : State) : State := s.complete w.ring w.ref 1 (word result)

/-- End with BAD_FORMAT at this byte offset (R422). -/
def State.badFormat (w : Waiting) (offset : Nat) (s : State) : State := s.complete w.ring w.ref 3 (word offset)

/-- A query's output is written to ADDR, or its write failed after `n` bytes (R423, R429). -/
def State.answer (w : Waiting) (out : List Byte) (s : State) : State :=
  match w.hdr.dma with
  | none => (s.emit (.hostWrite w.hdr.addr out)).done w out.length
  | some n => ((s.count .writeErr).raise 114 .notice 0 0 w.ring []).complete w.ring w.ref 4 (word n)

/-- A command that reads a buffer goes on when the buffer was read, and ends with DMA_ERROR when it was not (R429). -/
def State.withBuffer (w : Waiting) (go : State → State) (s : State) : State :=
  match w.hdr.dma with
  | none => go s
  | some n => ((s.count .fetchErr).raise 114 .notice 0 0 w.ring []).complete w.ring w.ref 4 (word n)

/-! ## Points (spec/15) -/

/-- A point of the image. -/
def State.point (s : State) (n : Nat) : Pt := aget n Pt.reset s.pnt.points

/-- The 16 bytes of a point (R370). -/
def Pt.bytes (p : Pt) : List Byte :=
  wbytes p.value ++ wbytes p.stamp ++ wbytes p.frame ++ [byte p.typ, p.qual] ++ lebytes 2 p.entry.toNat

/-- The point has good quality (R371). -/
def Pt.good (p : Pt) : Bool := (p.qual &&& 7#8) == 0#8

/-- A stream covers a point (R387). -/
def Stream.covers (st : Stream) (n : Nat) : Bool := st.ranges.any (fun r => decide (r.1 ≤ n ∧ n ≤ r.2))

/-- The body of a point-stream entry with up to three points (R387). -/
def streamBody (st : Nat) (ps : List (Nat × Pt)) : List Byte :=
  padTo 63 (byte st :: 0 :: 0 :: (ps.map (fun p => lebytes 4 p.1 ++ p.2.bytes)).flatten)

/-- One update that stream `st` could not post: the point is pending and counted (R388). -/
def State.streamHold (st : Nat) (n : Nat) (s : State) : State :=
  let x := vget s.pnt.streams st Stream.reset
  let first := !x.reported
  let x := { x with pend := if x.pend.contains n then x.pend else x.pend ++ [n], reported := true }
  let s := (s.withPnt { s.pnt with streams := vset s.pnt.streams st x }).count .streamDrop
  if first then s.raise 101 .notice 0 0 st [] else s

/-- A batch of updates of subscribed points is posted on stream `st`, or its points become pending (R387, R388). -/
def State.streamBatch (st : Nat) (ps : List (Nat × Pt)) (s : State) : State :=
  let x := vget s.pnt.streams st Stream.reset
  let held := ps.filter (fun p => x.pend.contains p.1)
  let fresh := ps.filter (fun p => !x.pend.contains p.1)
  let s := held.foldl (fun s p => s.streamHold st p.1) s
  if fresh.isEmpty then s
  else if s.streamRoom (17 + st) then
    let s := (s.putBehind (17 + st) (2 * fresh.length) (streamBody st fresh)).ringMsg (17 + st)
    s.withPnt { s.pnt with streams := vmod s.pnt.streams st (fun y => { y with reported := false }) }
  else fresh.foldl (fun s p => s.streamHold st p.1) s

/-- Updated points go to every stream that covers them, up to three a batch (R387). -/
def State.streamPost (ps : List (Nat × Pt)) (s : State) : State :=
  [0, 1, 2, 3].foldl (fun s st =>
    let mine := ps.filter (fun p => (vget s.pnt.streams st Stream.reset).covers p.1)
    (chunks 3 mine.length mine).foldl (fun s b => s.streamBatch st b) s) s

/-- One update of a point, before it is stamped: number, value (none leaves VALUE), type, quality. -/
structure PtUpd where
  /-- Point number. -/
  num : Nat
  /-- VALUE, none when only the quality changes. -/
  value : Option Word
  /-- TYPE. -/
  typ : Nat
  /-- QUALITY. -/
  qual : Byte
  deriving DecidableEq, Repr

/-- Write the points of one message together, with the stamp of its source (R376): an update older than the
point's kept device time is discarded and counted. -/
def State.writePoints (entry : Nat) (time : Int) (frame : Word) (us : List PtUpd) (s : State) : State :=
  let isOld (u : PtUpd) : Bool := match (s.point u.num).full with
    | some f => decide (time < f)
    | none => false
  let old := us.filter isOld
  let ok := us.filter (fun u => !isOld u)
  let new : List (Nat × Pt) := ok.map (fun u =>
    (u.num, { value := u.value.getD (s.point u.num).value, stamp := wordI time, frame := frame, typ := u.typ,
              qual := u.qual, entry := BitVec.ofNat 16 entry, full := some time, course := s.crs.courseCnt }))
  let s := s.withPnt { s.pnt with points := new.foldl (fun l p => aput p.1 p.2 l) s.pnt.points }
  let s := if old.isEmpty then s else s.countN .pntOld old.length
  s.streamPost new

/-- Set or clear a quality bit of points without an update (R377); each point that changes is posted. -/
def State.qualBit (bit : Nat) (on : Bool) (ns : List Nat) (s : State) : State :=
  let mask : Byte := 1#8 <<< bit
  let new : List (Nat × Pt) := ns.filterMap (fun n =>
    let p := s.point n
    let q := if on then p.qual ||| mask else p.qual &&& ~~~mask
    if q = p.qual then none else some (n, { p with qual := q }))
  (s.withPnt { s.pnt with points := new.foldl (fun l p => aput p.1 p.2 l) s.pnt.points }).streamPost new

end Sys2Proof.Machine
end

