-- ==== Sys2Proof/Machine/Cells.lean ====
section
/-! DEFINITION. A memory as a list of the bytes that are not zero, addresses rising; an unlisted byte reads zero,
which is what the destructive march of start-up leaves (spec/20_on_chip_memory.md R465, R473, R477, R478). -/

namespace Sys2Proof.Machine
open Sys2Proof

/-- The form of a memory: addresses strictly rising and no listed zero byte. -/
def memWf : List Host.Cell → Bool
  | [] => true
  | (a, b) :: r => b != 0#8 && r.all (fun c => decide (a < c.1)) && memWf r

/-- A byte of a memory. -/
def memGet (m : List Host.Cell) (a : Nat) : Byte := (afind a m).getD 0#8

/-- Write a byte: writing zero takes the entry away, so that equal memories are equal lists. -/
def memSet (a : Nat) (b : Byte) : List Host.Cell → List Host.Cell
  | [] => if b = 0#8 then [] else [(a, b)]
  | (j, y) :: r =>
    if j < a then (j, y) :: memSet a b r
    else if j = a then (if b = 0#8 then r else (a, b) :: r)
    else if b = 0#8 then (j, y) :: r else (a, b) :: (j, y) :: r

/-- Write the eight bytes of 64-bit word `w`, little-endian (R3). -/
def memSetWord (w : Nat) (v : DWord) (m : List Host.Cell) : List Host.Cell :=
  (List.range 8).foldl (fun m i => memSet (8 * w + i) (v.extractLsb' (8 * i) 8) m) m

/-- A 64-bit word. -/
def memGetWord (m : List Host.Cell) (w : Nat) : Nat := ule ((List.range 8).map (fun i => memGet m (8 * w + i))) 0 8

/-- The bank that holds 64-bit word `w` of the SRAM (R465). -/
def Mem.bankOf (x : Mem) (w : Nat) : Nat :=
  let g := w / 262144
  if tbit x.interleaved g then 8 * g + w % 8 else w / 32768

/-- Bytes are stored to the SRAM from address `a`; the words written are no longer poisoned (R470). -/
def Mem.store (a : Nat) (bs : List Byte) (x : Mem) : Mem :=
  { x with
    sram := bs.zipIdx.foldl (fun m b => memSet (a + b.2) b.1 m) x.sram
    poisoned := x.poisoned.filter (fun w => decide (8 * w + 8 ≤ a ∨ a + bs.length ≤ 8 * w)) }

/-- Every word of a bank is zero with valid check bits, as a destructive march leaves it (R477). -/
def Mem.zeroBank (b : Nat) (x : Mem) : Mem :=
  { x with
    sram := x.sram.filter (fun c => x.bankOf (c.1 / 8) != b)
    poisoned := x.poisoned.filter (fun w => x.bankOf w != b) }

/-- The banks that move together: the bank, or its whole group when the group is interleaved (R466). -/
def Mem.together (x : Mem) (b : Nat) : List Nat :=
  if tbit x.interleaved (b / 8) then (List.range 8).map (fun i => 8 * (b / 8) + i) else [b]

/-- A MEM_TEST ends, and no window of it is locked any more. -/
def Mem.endTest (x : Mem) : Mem := if x.test.isSome then { x with test := none, locked := none } else x

/-- A bank by number. -/
def State.bank (s : State) (b : Nat) : Bank := vget s.mem.banks b Bank.reset

/-- An access to a retained bank wakes it, and its group when interleaved, and counts (R472). -/
def State.wakeBank (b : Nat) (s : State) : State :=
  if (s.bank b).retained then
    (s.withMem { s.mem with
      banks := (s.mem.together b).foldl (fun v i => vmod v i (fun k => { k with retained := false })) s.mem.banks }).count .wake
  else s

/-- The banks that the bytes `a` to `a + n` lie in. -/
def Mem.banksOf (x : Mem) (a n : Nat) : List Nat :=
  ((List.range ((a % 8 + n + 7) / 8)).map (fun i => x.bankOf (a / 8 + i))).eraseDups

/-- An owner's access to the bytes `a` to `a + n`: banks in retention wake first; an access to a bank of another owner, or
outside the memory, has no effect and is counted (R467, R472). The answer says whether the access takes place. -/
def State.reach (owner a n : Nat) (s : State) : Bool × State :=
  let bs := s.mem.banksOf a n
  if a + n ≤ 16777216 ∧ bs.all (fun b => (s.bank b).owner == owner) then (true, bs.foldl (fun s b => s.wakeBank b) s)
  else (false, (s.count .ownErr).raise 116 .notice 0 0 noIndex [])

/-- A word among the bytes `a` to `a + n` is poisoned (R470). -/
def Mem.poisonIn (x : Mem) (a n : Nat) : Bool := x.poisoned.any (fun w => decide (a < 8 * w + 8 ∧ 8 * w < a + n))

/-- The banks of the snapshot buffer (R466). -/
def snapshotBank (b : Nat) : Bool := b == 14 || b == 15 || decide (56 ≤ b)

/-- The snapshot buffer's banks wake before a capture is taken into them (R472). -/
def State.wakeSnapshot (s : State) : State := [14, 15, 56].foldl (fun s b => s.wakeBank b) s

/-- No snapshot is held any more, and firmware release 3.2 retains the buffer's banks (R472). -/
def State.retainSnapshot (s : State) : State :=
  s.withMem { s.mem with
    banks := Vector.ofFn (fun i : Fin 64 => let k := s.mem.banks[i]; { k with retained := k.retained || snapshotBank i.val }) }

end Sys2Proof.Machine
end

