-- ==== Sys2Proof/Machine/Reset.lean ====
section
/-! DEFINITION. A reset of the whole part (spec/21_clock_domains_and_resets.md R491, R492; what is kept:
spec/25_register_map.md R558, spec/22_power_and_startup.md R507, R517, spec/24 R535). -/

namespace Sys2Proof.Machine
open Sys2Proof

/-- The OTP objects after a programming operation was cut short: its use is consumed and its record is invalid
(R535); an interrupted OP 8 leaves a whole number of steps from the old value to the new (R540), a free value. -/
def Sec.interrupt (free : Nat) (x : Sec) : Sec :=
  match x.otpBusy with
  | none => x
  | some o =>
    match o.op with
    | 3 => { x with idRecords := x.idRecords ++ [(false, slice o.data 0 64)] }
    | 4 => { x with keys := vmod x.keys o.slot (fun k => { k with used := true, valid := false }) }
    | 7 => { x with bindings := x.bindings ++ [(false, BitVec.ofNat 16 (u16 o.data 0))] }
    | 8 => { x with steps := x.steps + Config.otpStepsBeforeCut free % (x.runVersion + 1 - x.steps) }
    | _ => x

/-! ## Balls -/

/-- The ball number of PPS in `Out.pin`. -/
def ballPps : Nat := 0
/-- The ball numbers of SOnH and SOnL in `Out.pin`. -/
def ballHigh (o : Nat) : Nat := 16 + 2 * o
/-- SOnL. -/
def ballLow (o : Nat) : Nat := 17 + 2 * o

/-- A switch of the output may be driven closed: it is on, or its start-up test runs (R353, R354). -/
def BtrOut.driven (x : BtrOut) : Bool := x.on || x.startStep != 0

/-- What the balls show when a reset asserts: both switches of every safe output open, PPS is inactive (R492, R315). -/
def State.openPins (s : State) : List Out :=
  ((List.range 8).filter (fun o => (vget s.btr.outputs o BtrOut.reset).driven)).flatMap
      (fun o => [.pin (ballHigh o) false, .pin (ballLow o) false])
    ++ (if s.tim.ppsEnd.isSome then [.pin ballPps false] else [])

/-- `n` seconds of operation more: the count sticks at its maximum (spec/00_scope.md R11). -/
def Log.addSeconds (n : Nat) (x : Log) : Log :=
  if x.secOvf ∨ n = 0 then x
  else if x.secs.toNat + n < 0xFFFFFFFF then { x with secs := word (x.secs.toNat + n) }
  else { x with secs := 0xFFFFFFFF#32, secOvf := true }

/-- The part has been powered for `ns` more (spec/00_scope.md R11, spec/19 R456). -/
def Log.addPowered (ns : Nat) (x : Log) : Log :=
  { x.addSeconds ((x.subSec + ns) / 1000000000) with subSec := (x.subSec + ns) % 1000000000 }

/-- A reset of the whole part: every block at its reset values, but for the plinth's retained state, the reserve
store, the log memory and the OTP fuses (R492, R558). At assertion both switches of every safe output open and every
send engine stops, which the reset values are; the time since the latest tick counts as operation. `phase` is where
start-up begins. A sag that allows no save holds the plinth in reset until power-on (spec/22_power_and_startup.md R503). -/
def State.resetPart (cause phase : Nat) (s : State) : State :=
  let sec := s.sec.interrupt s.clk.free
  let log := s.log.addPowered (s.clk.now - s.clk.tickAt)
  let keep (v : Vector Occ 86) (c : Ctr) : Vector Occ 86 := v.set c.idx (s.ctr c)
  { State.reset with
    pending := s.pending
    outbox := s.outbox ++ s.openPins
    clk := { Clk.reset with free := s.clk.free + 1 }
    regs := { Regs.reset with ctrs := [Ctr.pwrSaves, Ctr.pwrShort, Ctr.holdFail].foldl keep Regs.reset.ctrs }
    glb := { Glb.reset with clkRun := s.glb.clkRun }
    sec := { Sec.reset with
      serial := sec.serial, idRecords := sec.idRecords, keys := sec.keys, revoked := sec.revoked,
      fwRevoked := sec.fwRevoked, bindings := sec.bindings, steps := sec.steps }
    log := { Log.reset with
      slots := s.log.slots, secs := log.secs, secOvf := log.secOvf, subSec := log.subSec, cycles := s.log.cycles, cycOvf := s.log.cycOvf }
    mem := { Mem.reset with
      areaA := s.mem.areaA, areaB := s.mem.areaB, marks := s.mem.marks, markNext := s.mem.markNext }
    pwr := { Pwr.reset with
      inReset := true, held := s.pwr.held || decide (s.pwr.save = some .none), phase := phase, latched := cause, cause := cause, vina := s.pwr.vina, vinb := s.pwr.vinb,
      hold := s.pwr.hold, cap := s.pwr.cap, esr := s.pwr.esr, charging := s.pwr.charging, holdFault := s.pwr.holdFault,
      full := s.pwr.full, vbat := s.pwr.vbat, vbatLow := s.pwr.vbatLow, rtc := s.pwr.rtc }
  }

/-- A save area that a restore may read: MAGIC, mark, CRC and content (R475, R507). -/
def SaveArea.good (a : SaveArea) : Bool := a.magic && a.mark && a.crcGood

/-- The save area that does not hold the newest valid save, and the next SAVE_SEQ (R475): an area is valid as it stands, or as
the restore found it. -/
def Mem.saveInto (x : Mem) : Bool × Word :=
  let va := x.areaA.good || x.rsvValidA
  let vb := x.areaB.good || x.rsvValidB
  let bNewer := newer x.areaB.seq x.areaA.seq
  let inA := va && (!vb || !bNewer)
  let last := if inA then x.areaA.seq else if vb then x.areaB.seq else if bNewer then x.areaB.seq else x.areaA.seq
  (inA || (!vb && !bNewer), last + 1)

/-- A save that is cut short leaves its area with MAGIC and no valid mark (R475, R502, R507). -/
def State.breakSave (s : State) : State :=
  match s.pwr.save with
  | some .full | some .short =>
    let into := s.mem.saveInto
    let a : SaveArea := { SaveArea.reset with magic := true, seq := into.2, frame := s.crs.frame }
    s.withMem (if into.1 then { s.mem with areaB := a } else { s.mem with areaA := a })
  | _ => s

/-- A part reset that a source of part scope asks for. During a hold-up save only power-on and clock loss act, and leave
the save incomplete (R502). -/
def State.partReset (cause : Nat) (s : State) : State :=
  if s.pwr.save.isSome ∧ cause ≠ 4 ∧ cause ≠ 0 then s else s.breakSave.resetPart cause 1

/-- The part runs frames: out of reset, in phase RUNNING, with no hold-up save in progress (R510, R54). -/
def State.runs (s : State) : Bool := !s.pwr.inReset && s.pwr.phase == 7 && s.pwr.save.isNone

/-- Do something only while the part runs frames. -/
def State.whileRunning (f : State → State) (s : State) : State := if s.runs then f s else s

end Sys2Proof.Machine
end

