-- ==== Sys2Proof/Machine/ImageData.lean ====
section
/-! DEFINITION. Reading the vessel model image: header, sections and the records used by every family
(spec/03_vessel_model_image.md R58 to R65). -/

namespace Sys2Proof.Machine
open Sys2Proof

/-- Number of directory entries. -/
def imgSections (b : List Byte) : Nat := u16 b 0x1A

/-- Offset of directory entry `i`. -/
def dirAt (i : Nat) : Nat := 128 + 16 * i

/-- The first directory entry with an ID, if any. -/
def dirFind (b : List Byte) (id : Nat) : Option Nat :=
  (List.range (imgSections b)).find? (fun i => u16 b (dirAt i) == id)

/-- The bytes of directory entry `i`'s section. -/
def dirSection (b : List Byte) (i : Nat) : List Byte := slice b (u32 b (dirAt i + 4)) (u32 b (dirAt i + 8))

/-- The bytes of a section; empty when the image does not hold it. -/
def imgSection (b : List Byte) (id : Nat) : List Byte :=
  match dirFind b id with
  | some i => dirSection b i
  | none => []

/-- DIGEST of an image. -/
def imgDigest (b : List Byte) : List Byte := slice b 0x20 48

/-- The image in effect, empty when there is none. -/
def State.image (s : State) : List Byte := s.img.active.getD []

/-- An image is in effect. -/
def State.hasImage (s : State) : Bool := s.img.active.isSome

/-- A section of the image in effect. -/
def State.sect (s : State) (id : Nat) : List Byte := imgSection s.image id

/-- DIGEST of the image in effect. -/
def State.activeDigest (s : State) : List Byte := if s.hasImage then imgDigest s.image else []

/-- VESSEL_ID of the image in effect. -/
def State.vesselId (s : State) : Word := word (u32 s.image 0x10)

/-- FLAGS bit 0 of the image in effect: it is for pair mode. -/
def State.imagePair (s : State) : Bool := tbit (u32 s.image 0x1C) 0

/-- Number of thruster units of an image (R61). -/
def imgUnits (b : List Byte) : Nat := (imgSection b 4).length / 64

/-- Number of thruster units of the image in effect. -/
def State.units (s : State) : Nat := imgUnits s.image

/-- The 64-byte descriptor of a thruster unit (R61). -/
def State.thruster (s : State) (u : Nat) : List Byte := slice (s.sect 4) (64 * u) 64

/-- Number of failure cases (R62). -/
def State.caseCount (s : State) : Nat := (s.sect 9).length / 8

/-- The record of the `i`-th failure case (R62). -/
def State.caseRec (s : State) (i : Nat) : List Byte := slice (s.sect 9) (8 * i) 8

/-- Number of reference descriptors is found by their size in spec/06; of quoin entries by theirs in spec/04. -/
def recAt (b : List Byte) (size i : Nat) : List Byte := slice b (size * i) size

/-! ## Problem templates (spec/09 R239) -/

/-- The template records of a PROBLEMS section, walked by their LENGTH. -/
def tmplWalk : Nat → List Byte → List (List Byte)
  | 0, _ => []
  | f + 1, b =>
    let n := u16 b 0x20
    if n < 40 ∨ b.length < n then [] else b.take n :: tmplWalk f (b.drop n)

/-- The template records of an image. -/
def imgTemplates (b : List Byte) : List (List Byte) := tmplWalk 192 (imgSection b 0x0A)

/-- The template of an index. -/
def imgTemplate (b : List Byte) (i : Nat) : Option (List Byte) := (imgTemplates b).find? (fun t => u16 t 0 == i)

/-- NVAR. -/
def tmNvar (t : List Byte) : Nat := u8 t 3
/-- NCON. -/
def tmNcon (t : List Byte) : Nat := u8 t 4
/-- BEXP. -/
def tmBexp (t : List Byte) : Int := i8 t 5
/-- Constraints that have arrays: none outside kind 2. -/
def tmRows (t : List Byte) : Nat := if u8 t 2 = 2 then tmNcon t else 0
/-- Identity tags. -/
def tmTags (t : List Byte) : List Half := (List.range (tmNvar t)).map (fun i => BitVec.ofNat 16 (u16 t (40 + 2 * i)))
/-- VSCALE of variable `j`. -/
def tmVscale (t : List Byte) (j : Nat) : Int := i8 t (40 + 2 * tmNvar t + j)
/-- Constraint kind byte. -/
def tmKind (t : List Byte) (i : Nat) : Nat := u8 t (40 + 3 * tmNvar t + i)
/-- Constraint unit byte. -/
def tmUnit (t : List Byte) (i : Nat) : Nat := u8 t (40 + 3 * tmNvar t + tmRows t + i)
/-- RSCALE of row `i`. -/
def tmRscale (t : List Byte) (i : Nat) : Int := i8 t (40 + 3 * tmNvar t + 2 * tmRows t + i)
/-- Constraint keys: kind byte low, unit byte high (R241). -/
def tmKeys (t : List Byte) : List Half :=
  (List.range (tmRows t)).map (fun i => BitVec.ofNat 16 (tmKind t i + 256 * tmUnit t i))

/-- The words of a data block, and of a result block after its header (R243). -/
def blockWords (kind n m : Nat) : Nat × Nat :=
  let t := n * (n + 1) / 2
  if kind = 1 then (t + n * m, n * m)
  else if kind = 2 then (t + n + n * m + m + n, n + m + 2)
  else (n * n + 3 * t, 2 * t)

/-! ## Change class (R71) -/

/-- The change class that a section's difference sets: 0 cold, 1 warm, 2 hot (R60). -/
def sectionClass (id : Nat) : Nat :=
  if id = 3 ∨ id = 8 ∨ id = 0x0F then 2
  else if id = 5 ∨ id = 6 ∨ id = 7 ∨ id = 9 ∨ id = 0x0A ∨ id = 0x0B ∨ id = 0x0C then 1 else 0

/-- The class that the change of one section sets, 2 when it does not differ; PROBLEMS is cold when the template of
the nominal allocation differs (R71). -/
def sectionChange (old new : List Byte) (id : Nat) : Nat :=
  if imgSection old id = imgSection new id then 2
  else if id = 0x0A then (if imgTemplate old 0 = imgTemplate new 0 then 1 else 0)
  else sectionClass id

/-- The change class of an activation (R71). -/
def changeClass (old : Option (List Byte)) (new : List Byte) : Nat :=
  match old with
  | none => 0
  | some o =>
    if u32 o 0x10 ≠ u32 new 0x10 ∨ u32 o 0x1C ≠ u32 new 0x1C then 0
    else ((List.range 15).map (fun i => sectionChange o new (i + 1))).foldl min 2

/-- The staged activation is abandoned: the slot returns to VERIFIED, event source 121 marked abandoned, and
IMAGE_ACTIVATE completes with its reason (R67, R69, R75). -/
def State.abandonActivation (reason : Nat) (s : State) : State :=
  match s.img.slot with
  | .pending _ =>
    let w := s.img.activate
    let s1 := (s.withImg { s.img with slot := .verified, activate := none }).raise 121 .notice 2 0 noIndex
      [word (u32 s.img.staged 0x0C), word (changeClass s.img.active s.img.staged)]
    match w with
    | some x => s1.refuse x reason
    | none => s1
  | _ => s

/-- The part runs in pair mode (spec/13): the image is for it and PAIR_EN was sampled as 1. -/
def State.pairMode (s : State) : Bool := s.hasImage && s.imagePair && s.rdn.pairEn

/-- The last octet of an IPv4 address in network byte order, with UNIT_ID added in pair mode, as a host-order word (R385). -/
def State.ipAddr (s : State) (off : Nat) : Word :=
  let b := slice (s.sect 0x0E) off 4
  let a := u8 b 0 * 16777216 + u8 b 1 * 65536 + u8 b 2 * 256 + (u8 b 3 + (if s.pairMode then s.rdn.unitId else 0)) % 256
  word a

/-- A group address of the NETWORK section, host order. -/
def State.netGroup (s : State) (off : Nat) : Word :=
  let b := slice (s.sect 0x0E) off 4
  word (u8 b 0 * 16777216 + u8 b 1 * 65536 + u8 b 2 * 256 + u8 b 3)

end Sys2Proof.Machine
end

