-- ==== Sys2Proof/Machine/LinkBase.lean ====
section
/-! DEFINITION. The link part of the NETWORK section and sending over the Yarerago link
(spec/23_cascade.md R518 to R525, R532). -/

namespace Sys2Proof.Machine
open Sys2Proof

/-! ## The link part (R525) -/

/-- The image is for a cascade (FLAGS bit 1). -/
def State.cascadeImage (s : State) : Bool := s.hasImage && tbit (u32 s.image 0x1C) 1

/-- The part runs in pair mode or in a cascade. -/
def State.linkMode (s : State) : Bool := s.pairMode || s.cascadeImage

/-- The link part; empty in an image for neither pair mode nor a cascade (R525). -/
def imgLinkPart (b : List Byte) : List Byte :=
  if u32 b 0x1C % 4 = 0 then [] else (imgSection b 0x0E).drop 0xA0

/-- The link part of the image in effect. -/
def State.linkPart (s : State) : List Byte := imgLinkPart s.image

/-- The export record `i`. -/
def lkExport (l : List Byte) (i : Nat) : List Byte := slice l (16 + 8 * i) 8
/-- The import record `i`. -/
def lkImport (l : List Byte) (i : Nat) : List Byte := slice l (16 + 8 * u8 l 0x0A + 8 * i) 8
/-- The case link `i`: CASE and CCASE. -/
def lkCase (l : List Byte) (i : Nat) : Nat × Nat :=
  let o := 16 + 8 * (u8 l 0x0A + u8 l 0x0B) + 2 * i
  (u8 l o, u8 l (o + 1))
/-- The case links. -/
def lkCases (l : List Byte) : List (Nat × Nat) := (List.range (u8 l 0x0C)).map (lkCase l)
/-- TICK_DELAY, ns. -/
def State.tickDelay (s : State) : Nat := 100 * u16 s.linkPart 4
/-- MASTER_LOSS, courses. -/
def State.masterLoss (s : State) : Nat := u16 s.linkPart 6

/-- ADDR. -/
def State.linkAddr (s : State) : Nat := s.effField .ylkCfg 0 5
/-- RANK. -/
def State.linkRank (s : State) : Nat := s.effField .ylkCfg 5 4
/-- PORTn_EN. -/
def State.linkPortEn (s : State) (p : Nat) : Bool := s.effField .ylkCfg (9 + p) 1 == 1
/-- A port is up (R518). -/
def State.linkUp (s : State) (p : Nat) : Bool := vget s.ylk.up p false && s.linkPortEn p

/-! ## Sending (R520 to R522) -/

/-- The class of a frame type (R521). -/
def linkClass (typ : Nat) : Nat := if typ = 1 then 0 else if typ ≤ 5 then 1 else if typ = 0x0C then 3 else 2

/-- A link frame's bytes before its CRC. -/
def linkBytes (typ : Nat) (src dst hops : Nat) (seq frame : Word) (payload : List Byte) : List Byte :=
  [byte typ, byte (linkClass typ), byte src, byte dst, byte hops, 0] ++ lebytes 2 payload.length ++ wbytes seq ++ wbytes frame ++ payload

/-- The ports that are up, as a mask. -/
def State.linkPorts (s : State) : Nat := b2n (s.linkUp 0) + 2 * b2n (s.linkUp 1)

/-- Send a frame to every member on both ports; one that finds the transmit FIFO full, or crossing 28 STALLED, is not sent
and counted (R522, R488). Whether the FIFO is full is a free value (assumption 25). -/
def State.sendLink (typ : Nat) (payload : List Byte) (s : State) : State :=
  if s.ylk.state = 0 ∨ s.linkPorts = 0 then s else
  let full := Config.linkFull s.clk.free || s.fifoStalled 28
  let s := s.useFree
  if full then s.count .txDrop else
  let c := linkClass typ
  let seq := vget s.ylk.seqOut c 0
  let b := linkBytes typ s.linkAddr 0xFF 0 seq s.crs.frame payload
  (s.withYlk { s.ylk with seqOut := vset s.ylk.seqOut c (seq + 1) }).emit (.link s.linkPorts (b ++ wbytes (crc32 b)))

/-- The link state changes; the master's offset is watched anew (R526, R533). -/
def State.setLinkState (n : Nat) (s : State) : State :=
  if s.ylk.state = n then s else
  (s.withYlk { s.ylk with state := n, masterAt := s.crs.courseCnt, bcnOff := none }).raise 90 .notice 3 n noIndex []

/-- The full device time nearest to the present whose low 32 bits are a stamp. -/
def State.fullTime (s : State) (w : Word) : Int := s.devTime + wdiff w s.stamp

/-! ## Receiving (R522) -/

/-- A link frame arrives: forwarded out of the other port, checked, and acted on when its SEQ is the newest of its SRC
and class. `fwd` is the payload that is forwarded. -/
def State.linkTake (hd : LinkHdr) (typ : Nat) (payload fwd : List Byte) (act : State → State) (s : State) : State :=
  let p := hd.port % 2
  if s.ylk.state = 0 ∨ s.linkUp p = false then s else
  let s := if hd.crc = 1 then s.count .crcErr else s
  let own := hd.src == s.linkAddr
  let key := 4 * hd.src + linkClass typ
  let fresh := match afind key s.ylk.seqIn with
    | some q => newer hd.seq q
    | none => true
  let b := linkBytes typ hd.src hd.dst (hd.hops + 1) hd.seq hd.frame fwd
  let crc := if hd.crc = 0 then crc32 b else ~~~ crc32 b
  let s := if !own && decide (hd.hops < 31) && fresh && s.linkUp (1 - p) then
      s.emit (.link (2 ^ (1 - p)) (b ++ wbytes crc)) else s
  if hd.crc ≠ 0 ∨ own ∨ fresh = false then s else
  let s := s.withYlk { s.ylk with
    seqIn := aput key hd.seq s.ylk.seqIn, heard := aput hd.src s.crs.courseCnt s.ylk.heard }
  if (hd.dst = 0xFF ∨ hd.dst = s.linkAddr) ∧ payload.length ≤ 1028 then act s else s

/-! ## Combined verdicts (R532) -/

/-- A verdict as it counts in a combination: 0 HOLDS, 1 FAILS, 2 HELD, 3 UNKNOWN. -/
def combineVerdicts (vs : List Nat) : Nat :=
  if vs.contains 1 then 1 else if vs.any (fun v => v == 2 || v == 3) then 3 else 0

/-- The cascade case that a local case is linked to. -/
def State.caseLink (s : State) (c : Nat) : Option Nat :=
  ((lkCases s.linkPart).find? (fun l => l.1 == c)).map Prod.snd

/-- The verdicts of the other members for a cascade case; one silent for `stale` frames counts as UNKNOWN (R532). -/
def State.otherVerdicts (s : State) (ccase stale : Nat) : List Nat :=
  (s.ylk.verdicts.filter (fun v => v.1 % 256 == ccase)).map (fun v =>
    if (stale : Int) ≤ wdiff s.crs.frame v.2.2 then 3 else v.2.1)

/-- The combined verdict of a cascade case is taken; a change raises event source 94 (R532). -/
def State.setCombined (ccase v : Nat) (s : State) : State :=
  let old := afind ccase s.ylk.combined
  let s := s.withYlk { s.ylk with combined := aput ccase v s.ylk.combined }
  if old = some v ∨ old = none then s else s.raise 94 .notice 3 v ccase []

end Sys2Proof.Machine
end

