-- ==== Sys2Proof/Machine/Courses.lean ====
section
/-! DEFINITION. Items of the course table, misses and the three-miss rule (spec/02_courses_and_frames.md R43 to R53),
and giving up control (spec/13_redundancy_and_claims.md R321, R338). -/

namespace Sys2Proof.Machine
open Sys2Proof

/-! ## The claim and the pair message -/

/-- The claim number of a role, a health score and a unit (R325). -/
def claimOf (role score unit : Nat) : Half :=
  BitVec.ofNat 16 (4096 * (if role = 2 then 8 else if role = 1 then 4 else 0) + 16 * (score % 256) + unit % 16)

/-- The role code of a claim (R325): 0 RELEASE, 1 STANDBY, 2 ACTIVE, 3 reserved. -/
def claimRole (c : Half) : Nat :=
  let p := c.toNat / 4096
  if p = 0 then 0 else if p = 4 then 1 else if p = 8 then 2 else 3

/-- The bytes of a pair message (R336). -/
def PairMsg.bytes (m : PairMsg) : List Byte :=
  [byte m.typ, byte m.unit] ++ lebytes 2 m.claim.toNat ++ wbytes m.frame ++ lebytes 8 m.digest.toNat
    ++ [byte m.pstate, byte m.flags, 0, 0] ++ wbytes m.exchFrame ++ wbytes m.imgN ++ padTo 48 m.imgDigest
    ++ [byte m.cmds.length, 0, 0, 0] ++ (m.cmds.map (padTo 64)).flatten

/-- The role changes; event source 81 (R338, R344). -/
def State.setRole (r : Nat) (sev : Sev) (s : State) : State :=
  if s.rdn.role = r then s else (s.withRdn { s.rdn with role := r }).raise 81 sev 3 r noIndex []

/-- An urgent yield leaves over the link (R338). -/
def State.sendYield (s : State) : State :=
  if s.pairMode then
    let m : PairMsg := { typ := 2, unit := s.rdn.unitId, claim := claimOf 0 s.rdn.score s.rdn.unitId, frame := s.crs.frame, digest := 0,
                         pstate := s.rdn.pstate, flags := 1, exchFrame := 0, imgN := 0, imgDigest := [], cmds := [] }
    s.sendLink 1 (m.bytes.take 0x10)
  else s

/-- The part gives up control: the claim latch is cleared in hardware, the role becomes RELEASE and, in pair mode, an
urgent yield leaves over the link (R321, R325, R338). -/
def State.loseClaim (s : State) : State :=
  let s := s.withRdn { s.rdn with
    claimLatch := false, resumed := false, resume := none, msgSince := false, imageDone := false }
  (s.setRole 0 .notice).sendYield

/-- A comparator mismatch ends the part's control in the same course (R14, R258, R323); `unit` is the pair, or 6 for the
array. The first cause since the reset is kept, and a pair's mismatch raises that pair's fault event (R14, R53): the spec
gives it no source number, so source 81 in the alarm class with cause 3 and the pair in INDEX is a DESIGN CHOICE
(assumption 59). -/
def State.comparatorMismatch (unit : Nat) (s : State) : State :=
  let s := s.withRdn { s.rdn with mismatch := true, mismatchOf := s.rdn.mismatchOf.or (some unit) }
  (if unit < 6 then s.raise 81 .alarm 0 3 unit [] else s).loseClaim

/-! ## Items -/

/-- E of R44: the last course of the envelope slice. -/
def envCourse (l : Nat) : Nat := min 17 (l - 3)

/-- F of R44: the last course of the failure cases. -/
def caseCourse (l : Nat) : Nat := min 9 (envCourse l)

/-- The class of an item (R43): 0 service, 1 analysis, 2 control, 3 safety; 4 no item. -/
def itemClass (code : Nat) : Nat :=
  if code = 6 then 1 else if 1 ≤ code ∧ code ≤ 9 then 2 else if code = 10 then 3 else if code = 11 ∨ code = 12 then 0
  else if (0x10 ≤ code ∧ code ≤ 0x13) ∨ code = 0x18 then 1
  else if code = 0x20 ∨ code = 0x21 ∨ (0x28 ≤ code ∧ code ≤ 0x2A) then 0 else 4

/-- The course of an item's deadline at frame length `l`; `now` for the service items of every course (R43, R44). -/
def itemCourse (code l now : Nat) : Nat :=
  if 1 ≤ code ∧ code ≤ 6 then 0 else if 7 ≤ code ∧ code ≤ 12 then 1
  else if code = 0x10 then caseCourse l + 1 else if code = 0x11 ∨ code = 0x12 then envCourse l + 1
  else if code = 0x13 then envCourse l + 2 else if code = 0x18 then 3 else now

/-- The course in which an item's run begins: GNSS_NAV has two (R43). -/
def itemFirst (code l now : Nat) : Nat := if code = 0x18 then 2 else itemCourse code l now

/-- First and last slot of a service item's run in course `c` (R43): the items of one owner fill the slots that the owner
has free, each in one contiguous run, HOST in at least 10 slots. The cut among the items of one owner is the firmware's;
DESIGN CHOICE (assumption 14). -/
def serviceRun (pair : Bool) (c code : Nat) : Nat × Nat :=
  let one := c == 1
  if code = 0x20 then (0, if one then 19 else 24)
  else if code = 0x21 then (if one then (20, 39) else (25, 49))
  else if code = 0x28 then (0, if one && pair then 14 else if one then 12 else 15)
  else if code = 0x29 then (if one && pair then (15, 29) else if one then (13, 25) else (16, 31))
  else if one && pair then (34, 39) else if one then (26, 39) else (32, 49)

/-- First slot of an item's run and last slot of its deadline, in their courses (R43). -/
def itemSlots (pair : Bool) (code now : Nat) : Nat × Nat :=
  match code with
  | 0x01 => (0, 1)
  | 0x02 => (2, 21)
  | 0x03 => (22, 25)
  | 0x04 => (26, 31)
  | 0x05 => (32, 33)
  | 0x06 => (32, 33)
  | 0x07 => (0, 33)
  | 0x08 => (30, 33)
  | 0x09 => (34, 35)
  | 0x0A => (36, 39)
  | 0x0B => (40, 49)
  | 0x0C => (40, 49)
  | 0x10 => (0, 4)
  | 0x11 => (5, 9)
  | 0x12 => (10, 49)
  | 0x13 => (0, 49)
  | 0x18 => (0, 49)
  | c => serviceRun pair now c

/-- The end of slot `n`, ns after the tick was made; that of slot 49, which the next tick ends, is the last instant of
the course that the model can name (R31, R32; assumption 2). -/
def slotEnd (n : Nat) : Nat := min 999899 (80 + 20000 * (n + 1))

/-- The items that stand before an item in the order of the frame's steps, or in its owner's order (R19, R41, R43). -/
def itemPrior (code : Nat) : List Nat :=
  match code with
  | 0x02 => [1]
  | 0x03 => [2]
  | 0x04 => [3]
  | 0x05 => [4]
  | 0x06 => [5]
  | 0x07 => [5, 6]
  | 0x08 => [5, 6]
  | 0x09 => [7]
  | 0x0A => [9]
  | 0x0B => [9]
  | 0x0C => [9]
  | 0x10 => [6]
  | 0x11 => [0x10]
  | 0x12 => [0x11]
  | 0x13 => [0x12]
  | 0x18 => [1]
  | _ => []

/-- The place of a control item in CRS_STREAK (R56). -/
def streakOf (code : Nat) : Option Nat :=
  if 1 ≤ code ∧ code ≤ 5 then some (code - 1) else if 7 ≤ code ∧ code ≤ 9 then some (code - 2) else none

/-- The items whose results an item reads (R19, R43; TRIM reads roll and pitch of the estimate record, R286). -/
def itemInputs (code : Nat) : List Nat :=
  match code with
  | 2 => [1]
  | 3 => [2]
  | 4 => [3]
  | 5 => [4]
  | 6 => [5]
  | 7 => [5]
  | 8 => [7]
  | 9 => [7]
  | 16 => [6]
  | 17 => [6]
  | 18 => [16, 17]
  | 19 => [3]
  | _ => []

/-- What an item last produced. -/
def State.item (s : State) (code : Nat) : ItemRes := vget s.crs.items code ItemRes.reset

/-- A result of the item is held, or was produced from a held one (R47, R49). -/
def State.itemHeld (s : State) (code : Nat) : Bool := (s.item code).stale || (s.item code).inputStale

/-- An item finishes within its deadline: its result is fresh, with the input-stale mark where an input was held, and
its streak returns to 0, but for one of 3, which only R52 clears (R46, R49, R50, R51). -/
def State.itemDone (code : Nat) (s : State) : State :=
  let r : ItemRes := { origin := s.crs.frame, stale := false, inputStale := (itemInputs code).any s.itemHeld }
  s.withCrs { s.crs with
    items := vset s.crs.items code r
    streak := match streakOf code with
      | some i => if vget s.crs.streak i 0 = 3 then s.crs.streak else vset s.crs.streak i 0
      | none => s.crs.streak
    doneItems := if s.crs.doneItems.contains code then s.crs.doneItems else s.crs.doneItems ++ [code] }

/-- A streak of a control item rises; at 3 the part gives up control once (R50, R51). -/
def State.raiseStreak (code i : Nat) (s : State) : State :=
  let n := min 3 (vget s.crs.streak i 0 + 1)
  let s := s.withCrs { s.crs with streak := vset s.crs.streak i n, ctrlMiss := true }
  if n = 3 ∧ s.crs.gaveUp = false then
    (((s.withCrs { s.crs with gaveUp := true }).raise 3 .notice 0 0 code [])).loseClaim
  else s

/-- The items that run in the present frame have an image and a course table behind them (R584). -/
def State.tableRuns (s : State) : Bool := s.crs.frameLen != 0

/-- A miss of an item at its deadline: counted by class with its event, its result held and marked stale (R46, R49, R55).
A miss of the safety class is the buttress's own matter, and before the first table none is counted (R584). A service
item holds nothing and may resume (R49). -/
def State.missItem (code : Nat) (s : State) : State :=
  let course := itemCourse code s.frameCourses s.crs.course
  let cls := itemClass code
  if cls ≥ 3 ∨ s.tableRuns = false then s else
  let s := s.withCrs { s.crs with
    lastItem := code, lastCourse := course, lastFrame := s.crs.frame.setWidth 16
    items := if cls = 0 then s.crs.items else vmod s.crs.items code (fun r => { r with stale := true })
    doneItems := if cls = 0 ∨ s.crs.doneItems.contains code then s.crs.doneItems else s.crs.doneItems ++ [code]
    missed := if cls = 0 then s.crs.missed ++ [code] else s.crs.missed }
  let s := s.count (if cls = 2 then .missCtrl else if cls = 1 then .missAna else .missSvc)
  let s := s.raise (2 - cls) .notice 0 0 code [word course]
  match streakOf code with
  | some i => s.raiseStreak code i
  | none => s

/-- The present instant, ns since the frame's first tick as the courses count it. -/
def State.framePlace (s : State) : Nat := 1000000 * s.crs.course + (s.clk.now - s.clk.tickAt)

/-- The start of an item's run in the frame (R43). -/
def State.itemStart (s : State) (code : Nat) : Nat :=
  1000000 * itemFirst code s.frameCourses s.crs.course + slotStart (itemSlots s.pairMode code s.crs.course).1

/-- An item's deadline in the frame: the end of its deadline slot (R43, R46). -/
def State.itemStop (s : State) (code : Nat) : Nat :=
  1000000 * itemCourse code s.frameCourses s.crs.course + slotEnd (itemSlots s.pairMode code s.crs.course).2

/-- The present instant lies within an item's run. A service item that the slot timer has stopped resumes (R46, R49). -/
def State.inWindow (s : State) (code : Nat) : Bool :=
  decide (s.itemStart code ≤ s.framePlace)
    && (decide (s.framePlace ≤ s.itemStop code) || (itemClass code == 0 && s.crs.missed.contains code))

/-- The buttress acts: parameters taken and no island fault. -/
def Btr.acts (x : Btr) : Bool := x.taken && !x.fault

/-- The steps before the item have finished or have been stopped in the frame: DIGEST and the comparison in pair mode
alone, CONFIRM unless the buttress stands still (R19, R43). -/
def State.priorDone (s : State) (code : Nat) : Bool :=
  (itemPrior code).all s.crs.doneItems.contains
    && (code != 9 || !s.pairMode || (s.crs.doneItems.contains 8 && s.rdn.compFrame == some s.crs.frame))
    && ((code != 0x0B && code != 0x0C) || !s.btr.acts || s.crs.doneItems.contains 0x0A)

/-- The item can run: a table is in effect, it has neither finished nor been stopped in the frame, its slots are open and
the steps before it are behind (R15, R19, R43, R46; assumption 60). -/
def State.itemRuns (s : State) (code : Nat) : Bool :=
  s.tableRuns && !s.crs.doneItems.contains code && s.inWindow code && s.priorDone code

/-- Run an item of class control or analysis: at its instant, while frames run and a table is in effect. -/
def State.runItem (code t : Nat) (f : State → State) (s : State) : State :=
  (s.instant t).whileRunning fun s => if s.itemRuns code then (f s).itemDone code else s

/-- The slot of the present instant, as the slot timers count it (R31, R32). -/
def State.slotNow (s : State) : Nat := min 49 ((s.clk.now - s.clk.tickAt - 80) / 20000)

/-- The owner of a service item has the present slot free: POST_POINTS and POST_LOG take slots 40 to 49 of course 1, and
DIGEST takes 30 to 33 of pair 5 (R43, R584). -/
def State.ownerFree (s : State) (code : Nat) : Bool :=
  !(s.tableRuns && s.crs.course == 1
    && (decide (40 ≤ s.slotNow) || (decide (0x28 ≤ code) && s.pairMode && decide (30 ≤ s.slotNow ∧ s.slotNow ≤ 33))))

/-- A service item may run: within its own run of the course, or after its miss in any free slot of its owner. Before
the first table nothing takes the slots of course 1, so its runs are those of the other courses (R43, R49, R584). -/
def State.serviceOpen (s : State) (code : Nat) : Bool :=
  let r := serviceRun s.pairMode (if s.tableRuns then s.crs.course else 0) code
  (decide (r.1 ≤ s.slotNow) && decide (s.slotNow ≤ r.2)) || (s.crs.missed.contains code && s.ownerFree code)

/-- Run a service item in its run of the course; it runs before the first table too (R43, R49, R584). -/
def State.runService (code t : Nat) (f : State → State) (s : State) : State :=
  (s.instant t).whileRunning fun s => if s.serviceOpen code then (f s).itemDone code else s

/-- The item has a deadline in the frame and has not met it: DIGEST in pair mode alone (R43). A service item's miss is
counted once a run. -/
def State.itemOpen (s : State) (code : Nat) : Bool :=
  s.tableRuns && !s.crs.doneItems.contains code && !s.crs.missed.contains code && (code != 8 || s.pairMode)

/-- The item's deadline has passed unmet, with those of the steps before it (R46). -/
def State.canMiss (s : State) (code : Nat) : Bool :=
  s.itemOpen code && decide (s.itemStop code ≤ s.framePlace) && s.priorDone code

/-! ## The course table -/

/-- One entry of the course table (R40). -/
def tblEntry (item owner cls course slot count dlCourse dlSlot period : Nat) : Word × Word :=
  (word (item + 256 * owner + 2048 * cls + 8192 * course + 1048576 * slot + 67108864 * count),
   word (dlCourse + 128 * dlSlot + 8192 * period + 2147483648))

/-- The runs of one course that the items of a frame take: item, owner, class, course, slot, count, deadline course,
deadline slot, period (R43). `trim` is the PERIOD of TRIM where trim and heel is enabled. -/
def frameRuns (l : Nat) (pair : Bool) (trim : Option Nat) : List (Word × Word) :=
  let e := envCourse l
  let f := caseCourse l
  [tblEntry 1 3 2 0 0 2 0 1 1, tblEntry 2 0 2 0 2 20 0 21 1, tblEntry 3 0 2 0 22 4 0 25 1, tblEntry 4 1 2 0 26 6 0 31 1]
  ++ [tblEntry 5 1 2 0 32 2 0 33 1, tblEntry 6 2 1 0 32 2 0 33 1, tblEntry 7 1 2 1 0 34 1 33 1]
  ++ (if pair then [tblEntry 8 5 2 1 30 4 1 33 1] else [])
  ++ [tblEntry 9 1 2 1 34 2 1 35 1, tblEntry 10 6 3 1 36 4 1 39 1, tblEntry 11 4 0 1 40 10 1 49 1, tblEntry 12 5 0 1 40 10 1 49 1]
  ++ [tblEntry 0x10 2 1 (f + 1) 0 5 (f + 1) 4 1, tblEntry 0x11 2 1 (e + 1) 5 5 (e + 1) 9 1, tblEntry 0x12 2 1 (e + 1) 10 40 (e + 1) 49 1]
  ++ (match trim with
    | some p => [tblEntry 0x13 2 1 (e + 2) 0 50 (e + 2) 49 p]
    | none => [])
  ++ [tblEntry 0x18 3 1 2 0 50 3 49 1, tblEntry 0x18 3 1 3 0 50 3 49 1]

/-- The service runs of one course (R43). -/
def serviceRuns (pair : Bool) (c : Nat) : List (Word × Word) :=
  [(0x20, 4), (0x21, 4), (0x28, 5), (0x29, 5), (0x2A, 5)].map (fun p =>
    let r := serviceRun pair c p.1
    tblEntry p.1 p.2 0 c r.1 (r.2 + 1 - r.1) c r.2 1)

/-- The course table that the firmware builds for a frame length (R40, R43). -/
def courseTable (l : Nat) (pair : Bool) (trim : Option Nat) : List (Word × Word) :=
  frameRuns l pair trim ++ ((List.range l).map (serviceRuns pair)).flatten

/-- A new course table takes effect: the generation rises, streaks and GAVE_UP are cleared (R40, R42, R52). -/
def State.buildTable (l : Nat) (pair : Bool) (trim : Option Nat) (s : State) : State :=
  (s.withCrs { s.crs with
    frameLen := l, table := courseTable l pair trim, tblGen := s.crs.tblGen + 1, tableFrames := 0
    streak := Vector.replicate 8 0, gaveUp := false }).raise 6 .notice 0 0 noIndex []

/-- The PERIOD of an item's entry in the course table; none where the table has no entry for it (R42). -/
def State.tablePeriod (s : State) (code : Nat) : Option Nat :=
  (s.crs.table.find? (fun e => bits e.1.toNat 0 8 == code)).map (fun e => max 1 (bits e.2.toNat 13 8))

/-- CRS_TBL_INDEX_WRITE (R57): the selected entry and the generation are latched in one step. -/
def execCrsTblIndexWrite (w : Word) (s : State) : Host.Outcome State Fault Refusal :=
  .next <| s.barWrite 0x4030 fun s =>
    let i := (w.extractLsb' 0 10).toNat
    let e := s.crs.table.getD i (0, 0)
    s.withCrs { s.crs with tblIndex := i, tblLatchGen := s.crs.tblGen, tblWord0 := e.1, tblWord1 := e.2 }

/-- LOCKSTEP_MISMATCH (R14): a pair's comparator detects a mismatch, while firmware runs, in start-up too. -/
def execLockstepMismatch (t pair : Nat) (s : State) : Host.Outcome State Fault Refusal :=
  .next <| if pair < 6 ∧ s.firmwareRuns then (s.instant t).comparatorMismatch pair else s

end Sys2Proof.Machine
end

