-- ==== Sys2Proof/Machine/HostRings.lean ====
section
/-! DEFINITION. Rings, doorbells, bulk transfers and the recovery of the host interface
(spec/17_host_rings.md R411 to R417, R421, R426 to R434). -/

namespace Sys2Proof.Machine
open Sys2Proof

/-- The identity that the part's configuration space shows: Vendor ID, Device ID, Revision ID, class code (R411). No command
reads it, or enters D3hot (assumption 96). -/
def pciIdentity : List Nat := [0x1F3C, 0x7240, 0xB1, 0x118000]

/-- The host interface can be used: part out of reset with its firmware, link up, no save begun (R432, R547). -/
def State.hostServes (s : State) : Bool := s.firmwareRuns && s.pwr.save.isNone && !s.pwr.inReset

/-- A position less another, on a ring of this size (R413). -/
def Ring.ahead (r : Ring) (a b : Nat) : Nat := (a + 2 * r.size - b) % (2 * r.size)

/-! ## Doorbells (R416) -/

/-- The doorbell value is rejected. -/
def Ring.rejects (r : Ring) (command : Bool) (p : Nat) : Bool :=
  r.state != .running || decide (2 * r.size ≤ p) ||
  (if command then decide (r.size < r.ahead p r.partPos) || decide (r.ahead p r.partPos < r.ahead r.hostPos r.partPos)
   else decide (r.ahead r.partPos r.hostPos < r.ahead p r.hostPos))

/-- The BAR0 offset of a ring's doorbell register (R434). -/
def doorbellOffset (ring : Nat) : Nat := 0x1000 + 4 * ring

/-! ## Halts, resets and enables -/

/-- A halted completion ring halts every command ring bound to it (R430). -/
def State.haltBound (i : Nat) (s : State) : State :=
  (List.range 8).foldl (fun s c =>
    let r := s.ring c
    if bits r.rcfg.toNat 4 3 = i - 8 ∧ r.state = .running then s.setRing c { r with state := .halted, phaseWait := none } else s) s

/-- A part-written ring halts (R430). -/
def State.haltWritten (i : Nat) (s : State) : State :=
  let s := s.haltRing i
  if 8 ≤ i ∧ i < 16 then s.haltBound i else s

/-- The completion ring of a command ring. -/
def State.cplRing (s : State) (ring : Nat) : Nat := 8 + bits (s.ring ring).rcfg.toNat 4 3

/-- A descriptor that was not accepted ends with ABORTED (R431). -/
def abortOutst (frame : Word) (o : Outst) : Outst :=
  if o.accepted ∨ o.done.isSome then o else { o with fenced := none, done := some { status := 6, result := 0, frame := frame } }

/-- The descriptors that a doorbell had covered and that were never fetched, with CODE and TAG 0 (R431). -/
def Ring.unfetched (r : Ring) (ref : Nat) (frame : Word) : List Outst :=
  (List.range (r.ahead r.hostPos r.partPos)).map (fun n =>
    { ref := ref + n, code := 0, tag := 0, index := (r.partPos + n) % r.size, acceptFrame := 0, accepted := false
      fenced := none, done := some { status := 6, result := 0, frame := frame } })

/-- The counter and the ring of an access. -/
def accessCtr : HostAccess → Ctr × Nat
  | .fetch r => (.fetchErr, r)
  | .bufRead r => (.fetchErr, r)
  | .outWrite r => (.writeErr, r)
  | .entry r => (.writeErr, r)

/-- The failed accesses of a ring that `gone` tells wait no more (R431). -/
def State.dropRetry (i : Nat) (gone : HostAccess → Bool) (s : State) : State :=
  let l := s.hrg.accessRetry.filter (fun k => !((accessCtr k).2 == i && gone k))
  let s := s.withHrg { s.hrg with accessRetry := l }
  s.setRing i { s.ring i with retry := l.any (fun k => (accessCtr k).2 == i) }

/-- RESET of a command ring: fetching stops, what was not accepted ends with ABORTED, STATE reads resetting until the
completions are written (R431). -/
def State.resetCommandRing (i : Nat) (s : State) : State :=
  let r := s.ring i
  let add := r.unfetched s.hrg.nextRef s.crs.frame
  let s := s.withHrg { s.hrg with nextRef := s.hrg.nextRef + add.length }
  let s := s.setRing i { r with
    en := false, state := .resetting, phaseWait := none, partPos := r.hostPos
    outst := r.outst.map (abortOutst s.crs.frame) ++ add }
  s.dropRetry i (· == .fetch i)

/-- The completions of a command ring in reset are written, so its positions restart at 0 (R431). -/
def State.finishReset (i : Nat) (s : State) : State :=
  let r := s.ring i
  if i < 8 ∧ r.state = .resetting ∧ r.outst.isEmpty then
    s.setRing i { r with state := .disabled, partPos := 0, hostPos := 0 }
  else s

/-- RESET of a part-written ring: both positions restart at 0; an entry under its retry is held with those behind it, a
piece of the bulk ring with its transfer (R431). -/
def State.resetWrittenRing (i : Nat) (s : State) : State :=
  let r := s.ring i
  let back := r.retry && s.hrg.accessRetry.contains (.entry i)
  let s := s.setRing i { r with
    en := false, state := .disabled, partPos := 0, hostPos := 0, last := none
    held := if back && i != 21 then r.last.toList ++ r.held else r.held }
  let s := s.dropRetry i (fun _ => true)
  if i = 21 then (if back then s.holdPiece else s).withHrg { (if back then s.holdPiece else s).hrg with bulkUsed := [], bulkOff := 0 }
  else s

/-- A completion ring that is enabled again releases its halted command rings, which resume at their kept positions while
their EN is set (R431). -/
def State.releaseBound (i : Nat) (s : State) : State :=
  (List.range 8).foldl (fun s c =>
    let q := s.ring c
    if bits q.rcfg.toNat 4 3 + 8 = i ∧ q.state = .halted then s.setRing c { q with state := if q.en then .running else .disabled } else s) s

/-- RESET written to the selected ring (R431); event source 112 marked recovered. -/
def State.resetRing (i : Nat) (s : State) : State :=
  let s := if i < 8 then s.resetCommandRing i else s.resetWrittenRing i
  s.raise 112 .notice 1 0 i []

/-- The class code (R436). -/
def sevCode : Sev → Nat
  | .alarm => 0
  | .warning => 1
  | .notice => 2

/-- The higher of two classes. -/
def topClass (a : Option Sev) (b : Sev) : Option Sev :=
  match a with
  | some c => if sevCode c ≤ sevCode b then a else some b
  | none => some b

/-- The message that follows a write of events; alarms' messages are not moderated, nor do they count for MOD (R445). -/
def State.eventMsg (c : Sev) (s : State) : State :=
  match c with
  | .alarm => s.msix (s.effField .evtCfg 0 5)
  | _ =>
    let held := match s.evt.lastMsg with
      | some l => decide (s.clk.now < l + 1000 * s.effField .evtCfg 15 10)
      | none => false
    if held then s.withEvt { s.evt with msgDue := topClass s.evt.msgDue c }
    else (s.withEvt { s.evt with lastMsg := some s.clk.now, msgDue := none }).msix
      (s.effField .evtCfg (if c = .warning then 5 else 10) 5)

/-- Held entries are written, in order, while the ring has room; the highest class of the events among them. -/
def State.flushGo (i : Nat) : Nat → State → Option Sev → State × Option Sev
  | 0, s, m => (s, m)
  | f + 1, s, m =>
    let r := s.ring i
    match r.held with
    | b :: l =>
      if r.state = .running ∧ 0 < r.free then
        let c : Sev := if u8 b 2 = 0 then .alarm else if u8 b 2 = 1 then .warning else .notice
        State.flushGo i f ((s.setRing i { r with held := l }).putEntry i (u8 b 0) (b.drop 1)) (topClass m c)
      else (s, m)
    | [] => (s, m)

/-- A part-written ring that comes back first takes the entries that the part holds, in order; then its message, on the
event ring by class (R431, R445). -/
def State.flushHeld (i : Nat) (s : State) : State :=
  match s.flushGo i (s.ring i).held.length none with
  | (s, some c) => if i = 16 then s.eventMsg c else s.ringMsg i
  | (s, none) => s

/-- DOORBELL_WRITE sets a ring's host position, or is rejected and counted (R416); on the bulk ring it frees the area
behind the entries passed (R428); entries that a ring could not yet take after its recovery follow (R431). -/
def execDoorbellWrite (t ring : Nat) (w : Word) (s : State) : Host.Outcome State Fault Refusal :=
  .next <|
    if ring ≥ 22 then s else
    (s.instant t).barWrite (doorbellOffset ring) fun s =>
    if s.hostServes = false then s else
    let r := s.ring ring
    let p := (w.extractLsb' 0 13).toNat
    if r.rejects (decide (ring < 8)) p then (s.count .dblErr).raise 113 .notice 0 0 ring []
    else
      let s := s.setRing ring { r with hostPos := p }
      if ring = 21 then
        s.withHrg { s.hrg with bulkUsed := s.hrg.bulkUsed.drop (s.hrg.bulkUsed.length - (s.ring 21).ahead r.partPos p) }
      else if 8 ≤ ring ∧ r.retry = false then s.flushHeld ring else s

/-- EN written to the selected ring (R431, R434). -/
def State.enableRing (i : Nat) (s : State) : State :=
  let r := s.ring i
  let lg := bits r.rcfg.toNat 0 4
  if r.state = .resetting ∨ lg < 4 ∨ 12 < lg ∨ (r.baseLo = 0 ∧ r.baseHi = 0) then
    (s.setRing i { r with en := false }).raise 113 .notice 0 0 i []
  else if r.state = .disabled then ((s.setRing i { r with en := true, state := .running }).flushHeld i).releaseBound i
  else s.setRing i { r with en := true }

/-- EN written as 0: a running ring is disabled. -/
def State.disableRing (i : Nat) (s : State) : State :=
  let r := s.ring i
  s.setRing i { r with en := false, state := if r.state = .running then .disabled else r.state, phaseWait := none }

/-- A write of HRG_RCTL for the selected ring (R431, R434). -/
def State.writeRctl (w : Word) (s : State) : State :=
  let i := s.hrg.sel
  if i ≥ 22 then s
  else if w.getLsbD 1 then s.resetRing i
  else if w.getLsbD 0 then (if (s.ring i).en ∧ (s.ring i).state ≠ .resetting then s else s.enableRing i)
  else s.disableRing i

/-- RING_ENABLE (R434). -/
def execRingEnable (t : Nat) (w : Word) (s : State) : Host.Outcome State Fault Refusal :=
  .next <| (s.instant t).barWrite 0x2010 fun s => if s.hostServes then s.writeRctl w else s

/-- RING_RESET (R431). -/
def execRingReset (t : Nat) (w : Word) (s : State) : Host.Outcome State Fault Refusal :=
  .next <| (s.instant t).barWrite 0x2010 fun s => if s.hostServes then s.writeRctl w else s

/-- RING_RESET_DONE (R431). -/
def execRingResetDone (t ring : Nat) (s : State) : Host.Outcome State Fault Refusal :=
  .next <| if s.hostServes then (s.instant t).finishReset ring else s

/-! ## Completions (R421, R422) -/

/-- The body of a completion entry behind CTRL. -/
def cplBody (ring : Nat) (o : Outst) (c : Cpl) (stamp : Word) : List Byte :=
  padTo 63 ([byte o.code] ++ lebytes 2 o.tag.toNat ++ [byte c.status, byte ring] ++ lebytes 2 o.index
    ++ wbytes c.result ++ wbytes o.acceptFrame ++ wbytes c.frame ++ wbytes stamp)

/-- The oldest descriptor of a command ring has ended, no write of a query's output waits for its retry, and the completion
ring has room. -/
def State.cplReady (s : State) (ring : Nat) : Option (Outst × Cpl) :=
  match (s.ring ring).outst with
  | o :: _ =>
    match o.done with
    | some c => if s.ringRoom (s.cplRing ring) && !s.hrg.accessRetry.contains (.outWrite ring) then some (o, c) else none
    | none => none
  | [] => none

/-- Write the completion of the oldest descriptor of a ring, in its turn (R25, R421). -/
def State.postCompletion (ring : Nat) (s : State) : State :=
  match s.cplReady ring with
  | some (o, c) =>
    let q := s.cplRing ring
    let r := s.ring ring
    let s := s.setRing ring { r with outst := r.outst.drop 1 }
    ((s.putEntry q 0 (cplBody ring o c s.stamp)).ringMsg q).finishReset ring
  | none => s

/-! ## Failed accesses (R429, R430) -/

/-- The codes of the commands that write a query's output, and of those that read a buffer, but for IMAGE_LOAD (R423). -/
def dmaCodes (write : Bool) : List Nat :=
  if write then [0x13, 0x1B, 0x23, 0x24, 0x2D, 0x31, 0x32, 0x33, 0x3B] else [0x19, 0x2B, 0x5A, 0x60]

/-- The oldest accepted descriptor whose command has a buffer of this direction, and whose completion is not written, ends
with DMA_ERROR after `n` bytes; the command has no effect any more (R422, R429). -/
def State.dmaLost (write : Bool) (ring n : Nat) (s : State) : State :=
  match (s.ring ring).outst.find? (fun o => o.accepted && (dmaCodes write).contains o.code
      && (o.done.isNone || (write && o.done.any (fun c => c.status == 0)))) with
  | some o =>
    let mine (w : Waiting) : Bool := w.ring == ring && w.ref == o.ref
    let s := s.withHrg { s.hrg with waiting := s.hrg.waiting.filter (fun w => !mine w) }
    (s.withRdn { s.rdn with batch := s.rdn.batch.filter (fun w => !mine w) }).complete ring o.ref 4 (word n)
  | none => s

/-- The IMAGE_LOAD in progress ends. -/
def State.endLoad (slot : Slot) (staged : List Byte) (word : Nat) (s : State) : State :=
  match s.img.load with
  | some w =>
    let s := s.withImg { s.img with slot := slot, staged := staged, load := none }
    if word = 0 then s.done w 0 else s.refuse w word
  | none => s

/-- The stop that a discard asked for: the load ends with DISCARDED, then the discards complete. -/
def State.stopLoad (s : State) : State :=
  let ds := s.img.discard
  let s := s.endLoad .empty [] 0x11
  ds.foldl (fun s w => s.done w 0) (s.withImg { s.img with discard := [] })

/-- A read of the buffer of a ring's oldest command in work failed for good: DMA_ERROR, for IMAGE_LOAD REFUSED with
reason FETCH, or DISCARDED where an IMAGE_DISCARD waits for its end (R67, R429). -/
def State.bufferLost (ring n : Nat) (s : State) : State :=
  match s.img.load with
  | some w =>
    if w.ring ≠ ring then s.dmaLost false ring n
    else if s.img.discard.isEmpty then s.endLoad (.refused 0x10) [] 0x10 else s.stopLoad
  | none => s.dmaLost false ring n

/-- The ring of a command that came from the partner: none of this part's. -/
def noRing : Nat := 99

/-- A command that the source held belongs to no ring of this part. -/
def foreign (w : Waiting) : Waiting := { w with ring := noRing }

/-- HOST_ACCESS_FAILURE: the access waits for its one retry, counted and reported (R429). -/
def execHostAccessFailure (t : Nat) (kind : HostAccess) (s : State) : Host.Outcome State Fault Refusal :=
  .next <|
    if s.hostServes = false then s else
    let s := s.instant t
    let s := (s.count (accessCtr kind).1).raise 114 .notice 0 0 (accessCtr kind).2 []
    let s := s.withHrg { s.hrg with accessRetry := s.hrg.accessRetry ++ [kind] }
    s.setRing (accessCtr kind).2 { s.ring (accessCtr kind).2 with retry := true }

/-- The descriptor at a ring's position ends with FETCH_ERROR in its own position (R419, R429). -/
def State.fetchLost (ring : Nat) (s : State) : State :=
  let r := s.ring ring
  if r.hostPos = r.partPos then s else
  let o : Outst := { ref := s.hrg.nextRef, code := 0, tag := 0, index := r.partPos % r.size, acceptFrame := 0
                     accepted := false, fenced := none, done := some { status := 5, result := 0, frame := s.crs.frame } }
  let s := s.withHrg { s.hrg with nextRef := s.hrg.nextRef + 1 }
  s.setRing ring { r with partPos := (r.partPos + 1) % (2 * r.size), outst := r.outst ++ [o], phaseWait := none }

/-- HOST_ACCESS_RETRY: the retry runs; the entries behind it follow; when it fails too, the outcome of its kind applies
(R429, R430). `done` is the number of bytes transferred before the failure. -/
def execHostAccessRetry (t : Nat) (kind : HostAccess) (good : Bool) (done : Nat) (s : State) : Host.Outcome State Fault Refusal :=
  .next <|
    if s.hostServes = false ∨ s.hrg.accessRetry.contains kind = false then s else
    let s := s.instant t
    let s := s.withHrg { s.hrg with accessRetry := s.hrg.accessRetry.erase kind }
    let s := s.setRing (accessCtr kind).2 { s.ring (accessCtr kind).2 with retry := false }
    match kind with
    | .fetch r => if good then s else s.fetchLost r
    | .bufRead r => if good then s else s.bufferLost r done
    | .outWrite r => if good then s else s.dmaLost true r done
    | .entry r => if good then s.flushHeld r else s.haltWritten r

/-- A further descriptor of the ring may be fetched: the ring runs, its doorbell covers one, it holds fewer than 64,
no access waits for its retry, and none waits on FENCE (R419, R420, R429). -/
def State.canFetch (s : State) (ring : Nat) : Bool :=
  let r := s.ring ring
  decide (ring < 8) && r.state == .running && r.hostPos != r.partPos && decide (r.outst.length < 64) && !r.retry
    && r.outst.all (fun o => o.fenced.isNone)

/-- DESCRIPTOR_PHASE_TIMEOUT: the phase of the descriptor at the position still mismatches 1 ms after its first read
(R419, R433). -/
def execDescriptorPhaseTimeout (t ring : Nat) (s : State) : Host.Outcome State Fault Refusal :=
  .next <| (s.instant t).whileRunning fun s =>
    let late : Bool := match (s.ring ring).phaseWait with
      | some a => decide (a + 1000000 ≤ s.clk.now)
      | none => false
    if s.canFetch ring && late then (s.raise 113 .notice 0 0 ring []).fetchLost ring else s

/-! ## Interrupts -/

/-- MSIX_MODERATION_EXPIRY: one more message at the end of MOD when entries were written since the last one (R427).
The event ring's moderation is its own (R445). -/
def execMsixModerationExpiry (t ring : Nat) (s : State) : Host.Outcome State Fault Refusal :=
  .next <|
    if ring ≥ 22 ∨ s.hostServes = false then s else
    let s := s.instant t
    let r := s.ring ring
    if ring = 16 then
      match s.evt.msgDue, s.evt.lastMsg with
      | some c, some l =>
        if l + 1000 * s.effField .evtCfg 15 10 ≤ s.clk.now then
          (s.withEvt { s.evt with msgDue := none, lastMsg := some s.clk.now }).msix
            (s.effField .evtCfg (match c with
              | .alarm => 0
              | .warning => 5
              | .notice => 10) 5)
        else s
      | _, _ => s
    else if r.msgDue ∧ (r.lastMsg.getD 0) + 1000 * bits r.rcfg.toNat 13 10 ≤ s.clk.now then
      (s.setRing ring { r with lastMsg := some s.clk.now, msgDue := false }).msix (bits r.rcfg.toNat 8 5)
    else s

/-! ## Bulk transfers (R428) -/

/-- Size of the bulk area, bytes. -/
def State.bulkBytes (s : State) : Nat := 4096 * s.hrg.bulkPages

/-- Where a piece of `n` bytes goes: the next free offset, or 0 when it would cross the end. -/
def State.bulkPlace (s : State) (n : Nat) : Nat := if s.hrg.bulkOff + n ≤ s.bulkBytes then s.hrg.bulkOff else 0

/-- The bytes of a place are free. -/
def State.bulkFree (s : State) (o n : Nat) : Bool :=
  decide (o + n ≤ s.bulkBytes) && s.hrg.bulkUsed.all (fun u => decide (o + n ≤ u.1) || decide (u.1 + u.2 ≤ o))

/-- The body of a bulk entry behind CTRL. -/
def bulkBody (x : Xfer) (off n : Nat) : List Byte :=
  padTo 63 ([byte x.kind] ++ lebytes 2 x.tag.toNat ++ wbytes x.xfer ++ lebytes 4 off ++ lebytes 4 n ++ lebytes 8 x.pos)

/-- Write the next piece of the transfer at the head, then its entry (R428). A transfer that ended early takes an
ERROR entry of length 0. -/
def State.writePiece (s : State) : State :=
  match s.hrg.xfers with
  | [] => s
  | x :: rest =>
    if s.ringRoom 21 = false then s
    else if x.error then
      ((s.withHrg { s.hrg with xfers := rest, bulkUsed := s.hrg.bulkUsed ++ [(0, 0)], pieceBack := some x }).putEntry 21 6
        (bulkBody x 0 0)).ringMsg 21
    else if x.rest.isEmpty then s
    else
      let n := min 65536 x.rest.length
      let o := s.bulkPlace n
      if s.bulkFree o n = false then s else
      let last := x.rest.length = n ∧ s.log.reads.all (fun r => r.xfer != x.xfer)
      let addr : DWord := BitVec.ofNat 64 ((s.hrg.bulkLo.toNat + 4294967296 * s.hrg.bulkHi.toNat) + o)
      let s := s.emit (.hostWrite addr (x.rest.take n))
      let s := s.withHrg { s.hrg with
        xfers := if last then rest else { x with rest := x.rest.drop n, pos := x.pos + n } :: rest
        bulkOff := o + n, bulkUsed := s.hrg.bulkUsed ++ [(o, n)], pieceBack := some x }
      (s.putEntry 21 (if last then 2 else 0) (bulkBody x o n)).ringMsg 21

/-! ## Resets of the host interface (R412) -/

/-- A command of the host that has not taken effect is dropped; one that a paired part shares with its partner goes on, but
belongs to no ring any more (R335, R412). DEDUCED (assumption 98). -/
def State.dropWaiting (s : State) (l : List Waiting) : List Waiting :=
  if s.rdn.pstate = 3 then l.map foreign else l.filter (fun w => w.ring == noRing)

/-- A hot reset (1), link-down (2) or function level reset (3): rings disabled and unconfigured, HRG and DBL registers
at their reset values; what has not taken effect is dropped. Subscriptions, which have taken effect, stay. -/
def State.hostInterfaceReset (kind : Nat) (s : State) : State :=
  let s := (s.withImg { s.img with activate := none }).abandonActivation 0x0F
  let slot := match s.img.slot with
    | .loading => Slot.empty
    | x => x
  let s := s.withHrg { Hrg.reset with
    nextRef := s.hrg.nextRef, nextXfer := s.hrg.nextXfer, turn := s.hrg.turn, linkUp := if kind = 2 then false else s.hrg.linkUp }
  let s := s.withImg { s.img with
    slot := slot, staged := if slot = .empty then [] else s.img.staged, load := none, discard := [] }
  let s := s.withRdn { s.rdn with batch := s.rdn.batch.filter (fun w => w.ring == noRing), exchCmd := [] }
  let s := s.withTrim { s.trim with waiting := s.dropWaiting s.trim.waiting }
  let s := s.withEst { s.est with refs := s.est.refs.map (fun (r : RefSt) => { r with capture := s.dropWaiting r.capture }) }
  let s := s.withCtl { s.ctl with spWait := s.ctl.spWait.filterMap (fun r => (s.dropWaiting [r.cmd]).head?.map (fun w => { r with cmd := w })) }
  let s := s.withBtr { s.btr with cmds := [] }
  let s := s.withMem s.mem.endTest
  let s := s.withLog { s.log with reads := [] }
  let s := (s.withGns { s.gns with snap := GnsSnap.reset }).retainSnapshot
  let s := if kind = 2 then s.raise 114 .notice 0 0 noIndex [] else s
  s.raise 126 .notice 0 2 noIndex [word kind]


/-- PCIE_LINK_UP (R433). -/
def execPcieLinkUp (t : Nat) (s : State) : Host.Outcome State Fault Refusal :=
  .next <|
    if s.firmwareRuns = false ∨ s.hrg.linkUp then s else
    let s := s.instant t
    (s.withHrg { s.hrg with linkUp := true }).raise 114 .notice 1 0 noIndex []

end Sys2Proof.Machine
end

