-- ==== Sys2Proof/Machine/Events.lean ====
section
/-! DEFINITION. Writing queued events to the event ring (spec/18_events.md R438, R444, R445). -/

namespace Sys2Proof.Machine
open Sys2Proof

/-- The body of an event entry behind CTRL (R438). -/
def evtBody (q : QEntry) (seq : Word) : List Byte :=
  padTo 63 ([byte q.ev.src, byte (sevCode q.ev.sev), 0] ++ wbytes seq ++ wbytes q.ev.stamp ++ wbytes q.ev.frame
    ++ wbytes q.last ++ lebytes 2 q.count.toNat ++ lebytes 2 q.dropped.toNat ++ wbytes q.ev.code
    ++ (q.ev.vals.map wbytes).flatten)

/-- The flags of an event entry: COALESCED, DROPS_BEFORE (R438). -/
def evtFlags (q : QEntry) : Nat := 2 * b2n q.coalesced + 4 * b2n (q.dropped != 0)

/-- One entry is written to the event ring. -/
def State.writeEvent (q : QEntry) (s : State) : State :=
  let s := s.putEntry 16 (evtFlags q) (evtBody q s.evt.seq)
  s.withEvt { s.evt with seq := s.evt.seq + 1 }

/-- The place in the queue of the entry to write next (R444): the head when its class may use what is free, else the
oldest entry of the source of the oldest alarm, which may use the reserve. -/
def State.nextEvent (s : State) : Option Nat :=
  match s.evt.queue with
  | [] => none
  | h :: _ =>
    if s.ringRoom 16 = false then none
    else if h.ev.sev = .alarm ∨ (s.ring 16).size / 4 ≤ (s.ring 16).free - 1 then some 0
    else match s.evt.queue.find? (fun q => q.ev.sev == .alarm) with
      | some a => s.evt.queue.findIdx? (fun q => q.ev.src == a.ev.src)
      | none => none

/-- Write entries while there is room: the state, and the highest class written. -/
def State.writeEventsGo : Nat → State → Option Sev → State × Option Sev
  | 0, s, m => (s, m)
  | f + 1, s, m =>
    match s.nextEvent with
    | none => (s, m)
    | some i =>
      match s.evt.queue[i]? with
      | none => (s, m)
      | some q =>
        let s := s.withEvt { s.evt with queue := s.evt.queue.eraseIdx i }
        State.writeEventsGo f (s.writeEvent q) (topClass m q.ev.sev)

/-- Pair 4 writes queued events to the ring, then sends one message of the highest class written (R444, R445). -/
def State.writeEvents (s : State) : State :=
  let r := s.writeEventsGo s.evt.queue.length none
  match r.2 with
  | some c => r.1.eventMsg c
  | none => r.1

end Sys2Proof.Machine
end

