-- ==== Sys2Proof/Machine/Sentence.lean ====
section
/-! DEFINITION. IEC 61162-1 sentences as byte strings: form, checksum, fields, decimal numbers
(spec/04_sensor_intake.md R84, R85; spec/15_point_image_and_networks.md R375). -/

namespace Sys2Proof.Machine
open Sys2Proof

/-- A byte string cut at each byte `c`. -/
def splitAt8 (c : Byte) : List Byte → List (List Byte)
  | [] => [[]]
  | b :: r =>
    if b = c then [] :: splitAt8 c r
    else match splitAt8 c r with
      | f :: fs => (b :: f) :: fs
      | [] => [[b]]

/-- The value of a hexadecimal digit. -/
def hexDigit (b : Byte) : Option Nat :=
  let x := b.toNat
  if 0x30 ≤ x ∧ x ≤ 0x39 then some (x - 0x30)
  else if 0x41 ≤ x ∧ x ≤ 0x46 then some (x - 0x37)
  else if 0x61 ≤ x ∧ x ≤ 0x66 then some (x - 0x57) else none

/-- The value of a decimal digit. -/
def decDigit (b : Byte) : Option Nat :=
  let x := b.toNat
  if 0x30 ≤ x ∧ x ≤ 0x39 then some (x - 0x30) else none

/-- A decimal number as mantissa and number of decimals: the value is mantissa / 10 ^ decimals. -/
structure Dec where
  /-- Mantissa. -/
  m : Int
  /-- Decimals. -/
  k : Nat
  deriving DecidableEq, Repr

/-- Digits with at most one point, after what was read: mantissa, decimals, point seen, a digit seen. -/
def decGo : List Byte → Nat → Nat → Bool → Bool → Option Dec
  | [], m, k, _, seen => if seen then some { m := m, k := k } else none
  | b :: r, m, k, dot, seen =>
    if b = 0x2E#8 then (if dot then none else decGo r m k true seen)
    else match decDigit b with
      | some d => decGo r (10 * m + d) (if dot then k + 1 else k) dot true
      | none => none

/-- A field read as a decimal number. -/
def parseDec (f : List Byte) : Option Dec :=
  match f with
  | 0x2D#8 :: r => (decGo r 0 0 false false).map (fun d => { d with m := -d.m })
  | 0x2B#8 :: r => decGo r 0 0 false false
  | _ => decGo f 0 0 false false

/-- Rounding a quotient by a positive divisor, ties away from zero (R375). -/
def roundAway (a : Int) (b : Nat) : Int :=
  let q : Nat := (2 * a.natAbs + b) / (2 * b)
  if a < 0 then -(q : Int) else q

/-- The number times `n / d`, rounded, ties away from zero. -/
def Dec.scaled (x : Dec) (n d : Nat) : Int := roundAway (x.m * n) (10 ^ x.k * d)

/-- What a sentence is after its form was checked (R84). -/
inductive Checked where
  /-- It is discarded and counted. -/
  | bad
  /-- Its address and its fields. -/
  | ok (addr : List Byte) (fields : List (List Byte))
  deriving DecidableEq, Repr

/-- The part of a datagram's line after its TAG blocks, which are ignored (R84, R386). -/
def dropTags : Nat → List Byte → List Byte
  | 0, b => b
  | n + 1, b =>
    match b with
    | 0x5C#8 :: r => dropTags n ((r.dropWhile (· != 0x5C#8)).drop 1)
    | _ => b

/-- The XOR of the bytes. -/
def xorAll (b : List Byte) : Byte := b.foldl (· ^^^ ·) 0#8

/-- The form of a sentence (R84): start, CR LF, at most 82 characters, checksum. `bytes` runs from `$` or `!` to CR LF. -/
def checkSentence (noChecksum : Bool) (bytes : List Byte) : Checked :=
  let n := bytes.length
  if n > 82 ∨ n < 4 ∨ slice bytes (n - 2) 2 ≠ [0x0D#8, 0x0A#8] then .bad
  else if bytes.head? ≠ some 0x24#8 ∧ bytes.head? ≠ some 0x21#8 then .bad
  else
    let inner := (bytes.drop 1).take (n - 3)
    let body := inner.takeWhile (· != 0x2A#8)
    let tail := inner.dropWhile (· != 0x2A#8)
    let parts := splitAt8 0x2C#8 body
    let out := Checked.ok (parts.headD []) (parts.drop 1)
    match tail with
    | [] => if noChecksum then out else .bad
    | [_, h, l] => match hexDigit h, hexDigit l with
      | some a, some b => if byte (16 * a + b) = xorAll body then out else .bad
      | _, _ => .bad
    | _ => .bad

/-- Field `i` of a sentence, counted from 1 after the address field (R375). -/
def fieldAt (fs : List (List Byte)) (i : Nat) : List Byte := if i = 0 then [] else fs.getD (i - 1) []

end Sys2Proof.Machine
end

