-- ==== Sys2Proof/Machine/Points.lean ====
section
/-! DEFINITION. The point engine: route entries, updates, staleness, point streams
(spec/15_point_image_and_networks.md R370 to R377, R387, R388; spec/13 R334). -/

namespace Sys2Proof.Machine
open Sys2Proof

/-! ## Route entries (R373) -/

/-- The route entries of an image. -/
def imgRoutes (b : List Byte) : List (List Byte) :=
  let x := imgSection b 0x0C
  (List.range (x.length / 24)).map (recAt x 24)

/-- The route entries of the image in effect. -/
def State.routes (s : State) : List (List Byte) := imgRoutes s.image

/-- ENTRY. -/
def rtEntry (r : List Byte) : Nat := u16 r 0
/-- KIND. -/
def rtKind (r : List Byte) : Nat := u8 r 2
/-- Bit `i` of FLAGS. -/
def rtFlag (r : List Byte) (i : Nat) : Bool := tbit (u8 r 3) i
/-- FIRST. -/
def rtFirst (r : List Byte) : Nat := u32 r 4
/-- COUNT. -/
def rtCount (r : List Byte) : Nat := u8 r 8
/-- TYPE. -/
def rtType (r : List Byte) : Nat := u8 r 9
/-- STALE_TIME. -/
def rtStale (r : List Byte) : Nat := u16 r 10
/-- FIELD0. -/
def rtField (r : List Byte) : Nat := u16 r 12
/-- DEC. -/
def rtDec (r : List Byte) : Nat := u8 r 14
/-- PERIOD. -/
def rtPeriod (r : List Byte) : Nat := max 1 (u8 r 15)
/-- IDENT. -/
def rtIdent (r : List Byte) : List Byte := slice r 16 8
/-- The points of the block. -/
def rtPoints (r : List Byte) : List Nat := (List.range (rtCount r)).map (rtFirst r + ·)
/-- The entry is inbound. -/
def rtInbound (r : List Byte) : Bool := !rtFlag r 0

/-- The route entry with an ENTRY number. -/
def State.routeByEntry (s : State) (e : Nat) : Option (List Byte) := s.routes.find? (fun r => rtEntry r == e)

/-- What the block keeps of a route entry. -/
def State.routeSt (s : State) (e : Nat) : RouteSt := aget e RouteSt.reset s.pnt.routes

/-- Replace it. -/
def State.setRouteSt (e : Nat) (x : RouteSt) (s : State) : State :=
  s.withPnt { s.pnt with routes := aput e x s.pnt.routes }

/-! ## The aligned view of a pair (R334) -/

/-- The points that a BALLAST section names (spec/11 R284). -/
def ballastPoints (b : List Byte) : List Nat :=
  if b.isEmpty then [] else
  let nt := u8 b 0
  let np := u8 b 1
  let nv := u8 b 2
  let pumps := 64 + 24 * nt
  let valves := pumps + 16 * np
  u32 b 0x0C :: (List.range 4).map (fun i => u32 b (0x28 + 4 * i))
    ++ (List.range nt).map (fun i => u32 b (64 + 24 * i + 0x14))
    ++ ((List.range np).map (fun i => [u32 b (pumps + 16 * i + 8), u32 b (pumps + 16 * i + 12)])).flatten
    ++ ((List.range nv).map (fun i => [u32 b (valves + 16 * i + 8), u32 b (valves + 16 * i + 12)])).flatten

/-- The points that both parts of a pair read from the aligned view: those named by POWER, LIMITS and BALLAST (R334;
POWER in spec/08 R223 to R225, LIMITS in spec/07 R198, BALLAST in spec/11 R284 to R287). -/
def viewPoints (b : List Byte) : List Nat :=
  let power := imgSection b 5
  let n := u8 power 0x1A
  let unit (i : Nat) := let o := 32 + 24 * i; [u32 power (o + 12), u32 power (o + 16), u32 power (o + 20)]
  let bus (i : Nat) := let o := 32 + 24 * n + 24 * i; [u32 power (o + 4), u32 power (o + 8)]
  let joy := u32 (imgSection b 0x0F) 0x38
  ((List.range n).map unit).flatten ++ ((List.range (u8 power 0x1B)).map bus).flatten ++ [joy, joy + 1, joy + 2]
    ++ ballastPoints (imgSection b 0x0B)

/-- HAND_FRAME of an arrival at `a` ns since reset (R97): the frame k with T_(k-1) ≤ A < T_k, where A is the arrival
time, 30 µs later in pair mode. The ticks ahead are taken at 1 ms a course. DEDUCED (assumption 15). -/
def State.handFrameAt (s : State) (a : Int) : Word :=
  let next : Int := s.clk.tickAt + (s.frameCourses - s.crs.course) * 1000000
  if a + (if s.pairMode then 30000 else 0) < next then s.crs.frame + 1 else s.crs.frame + 2

/-- HAND_FRAME of an arrival at the present instant. -/
def State.handFrame (s : State) : Word := s.handFrameAt s.clk.now

/-- The part forwards its records and point updates to the partner: while PAIRED, and from the tick of frame i + 2 of a
resynchronisation (R334, R340). -/
def State.forwards (s : State) : Bool :=
  s.rdn.pstate == 3 || (match s.rdn.syncFrame with
    | some i => !newer (i + 2) s.crs.frame
    | none => false)

/-- The link payload of point records: BLOCK, COUNT, then the records (spec/23 R521). -/
def pointBlock (block : Nat) (ps : List (Nat × Pt)) : List Byte :=
  [byte block, byte ps.length, 0, 0]
    ++ (ps.map (fun p => lebytes 4 p.1 ++ wbytes p.2.value ++ wbytes p.2.stamp ++ [byte p.2.typ, p.2.qual, 0, 0])).flatten

/-- In a paired part updates of such points are kept for ALIGN and forwarded, up to 64 a frame (R334, spec/23 R520). Both
parts take HAND_FRAME from the update's stamp, so that both views take it at the same ALIGN (R97). -/
def State.forwardPoints (time : Int) (ns : List Nat) (s : State) : State :=
  if s.forwards = false then s else
  let view := viewPoints s.image
  let mine := ns.filter view.contains
  let s := mine.foldl (fun s n =>
    let f : FwdPt := { time := time, handFrame := s.handFrameAt (time - s.clk.base), origin := s.rdn.unitId, num := n, pt := s.point n }
    s.withPnt { s.pnt with fwd := s.pnt.fwd ++ [f] }) s
  (chunks 64 mine.length mine).foldl (fun s c => s.sendLink 9 (pointBlock 0 (c.map (fun n => (n, s.point n))))) s

/-- A point as the control path reads it: in a paired part from the aligned view, else from the image (R334). -/
def State.viewPoint (s : State) (n : Nat) : Pt :=
  if s.rdn.pstate = 3 then aget n (s.point n) s.pnt.aligned else s.point n

/-- Insert an update in order of stamp, then of receiving unit id. -/
def fwdInsert (x : FwdPt) : List FwdPt → List FwdPt
  | [] => [x]
  | y :: r => if x.time < y.time ∨ (x.time = y.time ∧ x.origin < y.origin) then x :: y :: r else y :: fwdInsert x r

/-- An update older than the one that stands is left out, so that a point's updates keep the order of stamps (R26). -/
def alignOne (v : List (Nat × Pt)) (f : FwdPt) : List (Nat × Pt) :=
  match (aget f.num Pt.reset v).full with
  | some g => if f.time < g then v else aput f.num f.pt v
  | none => aput f.num f.pt v

/-- ALIGN brings the aligned view up to the updates of HAND_FRAME ≤ k, in order (R334). -/
def State.alignPoints (s : State) : State :=
  let due := s.pnt.fwd.filter (fun f => !newer f.handFrame s.crs.frame)
  let rest := s.pnt.fwd.filter (fun f => newer f.handFrame s.crs.frame)
  let sorted := due.foldl (fun l f => fwdInsert f l) []
  s.withPnt { s.pnt with fwd := rest, aligned := sorted.foldl alignOne s.pnt.aligned }

/-- The aligned view begins with the part's own value of every point of the view that is newer than the one it holds
(R26, R334, R340). -/
def State.beginView (s : State) : State :=
  let own : List FwdPt := (viewPoints s.image).map (fun n =>
    { time := (s.point n).full.getD 0, handFrame := s.crs.frame, origin := s.rdn.unitId, num := n, pt := s.point n })
  s.withPnt { s.pnt with aligned := own.foldl alignOne s.pnt.aligned }

/-- PAIRED ends: the aligned view and what waits for it end with it (R334). -/
def State.endView (s : State) : State := s.withPnt { s.pnt with fwd := [], aligned := [] }

/-! ## Updates -/

/-- An entry's silence ends: STALE leaves its points with the update, event source 98 marked fresh (R377). -/
def State.routeFresh (e : Nat) (s : State) : State :=
  let x := s.routeSt e
  let s1 := s.setRouteSt e { x with since := s.crs.courseCnt, stale := false }
  if x.stale then s1.raise 98 .notice 1 0 e [] else s1

/-- An update of an inbound entry's points, stamped `time` (R376, R377). An update that is discarded as old is no
update of the entry. -/
def State.updateRoute (r : List Byte) (time : Int) (us : List PtUpd) (s : State) : State :=
  if us.isEmpty then s else
  let kept := us.any (fun u => match (s.point u.num).full with
    | some f => decide (f ≤ time)
    | none => true)
  let s := s.writePoints (rtEntry r) time s.crs.frame us
  if kept then (s.routeFresh (rtEntry r)).forwardPoints time (us.map PtUpd.num) else s

/-- The points of the part's own records, stamped now, with the record's frame (R372). -/
def State.writeOwn (first : Nat) (ws : List Word) (frame : Word) (qual : Byte) (s : State) : State :=
  s.writePoints 0xFFFF s.devTime frame
    (ws.zipIdx.map (fun p => { num := first + p.2, value := some p.1, typ := 6, qual := qual }))

/-- The words of a byte string. -/
def wordsOf (b : List Byte) : List Word := (List.range ((b.length + 3) / 4)).map (fun i => word (u32 (padTo (4 * ((b.length + 3) / 4)) b) (4 * i)))

/-! ## The system area (R372) -/

/-- A record of the frame for the system area: 16 WORD points with the record's own FRAME, UNCERTAIN when it is held; `at_`
is the byte whose bit 0 is its stale mark. Nothing is written before the first record. -/
def sysRecord (first at_ : Nat) (rec : List Byte) : List SysRec :=
  if rec.isEmpty then [] else
  let r := padTo 64 rec
  [{ first := first, words := wordsOf r, frame := word (u32 r 0), qual := if tbit (u8 r at_) 0 then 1 else 0 }]

/-- The unit command entries, 4 points per unit, with the allocation record's frame and quality (R226, R372). -/
def State.sysEntries (s : State) : List SysRec :=
  if s.alloc.entries.isEmpty then [] else
  let r := padTo 64 s.alloc.record
  [{ first := 96, words := wordsOf (s.alloc.entries.map (padTo 16)).flatten, frame := word (u32 r 0)
     qual := if tbit (u8 r 8) 0 then 1 else 0 }]

/-- The records of a frame, in the order of the system area. -/
def State.sysRecords (s : State) : List SysRec :=
  sysRecord 0 8 s.est.record ++ sysRecord 16 0x0A s.ctl.record ++ sysRecord 32 8 s.alloc.record ++ sysRecord 48 0x0A s.csq.record
    ++ s.sysEntries

/-- The records of `frame` are taken for the system area as they stand; what an earlier frame left is dropped. -/
def State.takeSysRecords (frame : Word) (s : State) : State :=
  if s.pnt.sysFrame = some frame then s
  else s.withPnt { s.pnt with sysLeft := s.sysRecords, sysFrame := some frame }

/-- The first `n` of the records that are left are written, with STAMP at this hand-over. -/
def State.writeRecords (n : Nat) (s : State) : State :=
  (s.pnt.sysLeft.take n).foldl (fun s r => s.writeOwn r.first r.words r.frame r.qual)
    (s.withPnt { s.pnt with sysLeft := s.pnt.sysLeft.drop n })

/-- Records that an earlier frame has left may be written in a free slot of pair 4. -/
def State.recordsLate (s : State) : Bool :=
  s.tableRuns && !s.pnt.sysLeft.isEmpty && s.pnt.sysFrame != some s.crs.frame && s.ownerFree 0x0B

/-- An entry stays silent for STALE_TIME courses: STALE on its block, event source 98 (R377). -/
def State.routeSilent (r : List Byte) (s : State) : State :=
  let x := s.routeSt (rtEntry r)
  if rtInbound r ∧ rtStale r > 0 ∧ x.stale = false ∧ s.crs.courseCnt ≥ x.since + rtStale r then
    ((s.setRouteSt (rtEntry r) { x with stale := true }).qualBit 2 true (rtPoints r)).raise 98 .notice 0 0 (rtEntry r) []
  else s

/-- ROUTE_ENTRY_STALE (R377). -/
def execRouteEntryStale (t entry : Nat) (s : State) : Host.Outcome State Fault Refusal :=
  .next <| (s.instant t).whileRunning fun s =>
    match s.routeByEntry entry with
    | some r => s.routeSilent r
    | none => s

/-! ## Sentences (R375) -/

/-- What a sentence field gives a point of a type. -/
def fieldUpd (typ dec : Nat) (f : List Byte) : Option Word :=
  if f = [0x41#8] then (if typ = 1 then some 1 else none)
  else if f = [0x56#8] then (if typ = 1 then some 0 else none)
  else match parseDec f with
    | none => none
    | some d =>
      let v := d.scaled (10 ^ dec) 1
      if typ = 2 ∧ -2147483648 ≤ v ∧ v ≤ 2147483647 then some (wordI v)
      else if typ = 3 ∧ 0 ≤ v ∧ v ≤ 4294967295 then some (wordI v)
      else none

/-- A sentence updates the block of a route entry. -/
def State.sentenceRoute (r : List Byte) (time : Int) (fs : List (List Byte)) (s : State) : State :=
  s.updateRoute r time ((List.range (rtCount r)).map (fun n =>
    let v := fieldUpd (rtType r) (rtDec r) (fieldAt fs (rtField r + n))
    { num := rtFirst r + n, value := v, typ := rtType r, qual := if v.isSome then 0 else 2 }))

/-- The route entry that a sentence address matches: kind 1 on a network, kind 3 on a UART (R373, R386). An address of six
characters matches none, since IDENT holds five: DESIGN CHOICE (assumption 102). -/
def State.sentenceEntry (s : State) (kind port : Nat) (addr : List Byte) : Option (List Byte) :=
  s.routes.find? (fun r => rtKind r == kind && rtInbound r && slice (rtIdent r) 0 5 == addr && u8 (rtIdent r) 5 == port)

/-! ## Point streams -/

/-- The content a pending point is posted with: OVERRUN set in the posted QUALITY (R388). -/
def Pt.withOverrun (p : Pt) : Pt := { p with qual := p.qual ||| 16#8 }

/-- One entry of pending points is posted while the ring has room (R388). -/
def State.streamDrain (st : Nat) : Nat → State → State
  | 0, s => s
  | f + 1, s =>
    let x := vget s.pnt.streams st Stream.reset
    if x.pend.isEmpty ∨ s.ringRoom (17 + st) = false then s else
    let ps := (x.pend.take 3).map (fun n => (n, (s.point n).withOverrun))
    let s := s.withPnt { s.pnt with streams := vset s.pnt.streams st { x with pend := x.pend.drop 3, reported := false } }
    State.streamDrain st f ((s.putEntry (17 + st) (2 * ps.length) (streamBody st ps)).ringMsg (17 + st))

/-- The ring of a stream has room again (R388). -/
def State.streamCatchUp (st : Nat) (s : State) : State :=
  s.streamDrain st ((vget s.pnt.streams st Stream.reset).pend.length + 1)

/-- STREAM_PENDING_POST (R388). -/
def execStreamPendingPost (t stream : Nat) (s : State) : Host.Outcome State Fault Refusal :=
  .next <| (s.instant t).whileRunning fun s => if stream < 4 then s.streamCatchUp stream else s

/-- The ranges of a STREAM_SET buffer. -/
def streamRanges (count : Nat) (data : List Byte) : List (Nat × Nat) :=
  (List.range count).map (fun i => (u32 data (8 * i), u32 data (8 * i + 4)))

/-- The ranges of a stream are replaced; pending points that the new ranges do not cover are dropped (R388). -/
def State.setStream (stream : Nat) (ranges : List (Nat × Nat)) (s : State) : State :=
  let x := vget s.pnt.streams stream Stream.reset
  let y : Stream := { x with ranges := ranges }
  s.withPnt { s.pnt with streams := vset s.pnt.streams stream { y with pend := x.pend.filter y.covers } }

/-! ## Point access -/

/-- PNT_SEL_WRITE latches a point in one step (R390). -/
def execPntSelWrite (w : Word) (s : State) : Host.Outcome State Fault Refusal :=
  .next <| s.barWrite 0xA024 fun s =>
    let n := (w.extractLsb' 0 17).toNat
    s.withPnt { s.pnt with sel := n, latched := s.point n }

end Sys2Proof.Machine
end

