-- ==== Sys2Proof/Machine/Networks.lean ====
section
/-! DEFINITION. Vessel networks and Zwilux (spec/15_point_image_and_networks.md R378 to R386). -/

namespace Sys2Proof.Machine
open Sys2Proof

/-! ## Ports -/

/-- The number of a port in events and registers: 0 network A, 1 network B, 2 maintenance. -/
def portNum : Port → Nat
  | .a => 0
  | .b => 1
  | .m => 2

/-- The link of a port is up, and the crossings of its transmit path are not STALLED (R488). -/
def State.portUp (s : State) : Port → Bool
  | .a => s.pnt.linkA != 0 && !s.fifoStalled 15
  | .b => s.pnt.linkB != 0 && !s.fifoStalled 16
  | .m => s.pnt.linkM && !s.fifoStalled 20

/-- The part's address on a port (R385). -/
def State.portIp (s : State) : Port → Word
  | .a => s.ipAddr 0
  | .b => s.ipAddr 4
  | .m => s.ipAddr 0x28

/-- The maintenance port is off, or the port is A or B: the port carries traffic while its link is up. -/
def State.portLive (s : State) (p : Port) : Bool :=
  s.hasImage && s.portUp p && (p != .m || u8 (s.sect 0x0E) 0x26 != 0)

/-- KS_PORT. -/
def State.ksPort (s : State) : Nat := u16 (s.sect 0x0E) 0x14
/-- ZX_PORT. -/
def State.zxPort (s : State) : Nat := u16 (s.sect 0x0E) 0x16

/-- The Zwilux node of this part (R385). -/
def State.zxNode (s : State) : Nat := u16 (s.sect 0x0E) 0x0A + (if s.pairMode then s.rdn.unitId else 0)

/-- A copy or a publication for a network was not sent: counted, event source 96 (R383, R389). -/
def State.copyNotSent (n : Nat) (s : State) : State := (s.count .netTxFail).raise 96 .notice 0 0 n []

/-- A keystone copy for a network could not be sent: the health term of that network is down for 100 frames (R21,
R326). -/
def State.sendFail (n : Nat) (s : State) : State :=
  let s := if n = 0 then s.withRdn { s.rdn with failA := 0 } else s.withRdn { s.rdn with failB := 0 }
  s.copyNotSent n

/-- A network takes a copy now: its link is up and its send engine has room (`full` bit `n` clear). -/
def State.netTakes (s : State) (n full : Nat) : Bool := s.portUp (if n = 0 then .a else .b) && !tbit full n

/-! ## Zwilux messages (R379) -/

/-- A message of the part, with its CRC. -/
def zxMsg (typ node block : Nat) (seq stamp : Word) (count flags : Nat) (body : List Byte) : List Byte :=
  let b := lebytes 2 0x585A ++ [1, byte typ] ++ lebytes 2 node ++ lebytes 2 block ++ wbytes seq ++ wbytes stamp
    ++ [byte count, byte flags] ++ lebytes 2 (24 + body.length) ++ body
  b ++ wbytes (crc32 b)

/-- The point record of a point. -/
def Pt.record (p : Pt) : List Byte := wbytes p.value ++ [byte p.typ, p.qual &&& 0x0B#8, 0, 0]

/-- The checks of R380: MAGIC, VERSION, LENGTH, CRC, and COUNT against LENGTH. -/
def zxValid (b : List Byte) : Bool :=
  let n := b.length
  let count := u8 b 0x10
  let typ := u8 b 3
  decide (24 ≤ n) && u16 b 0 == 0x585A && u8 b 2 == 1 && u16 b 0x12 == n && word (u32 b (n - 4)) == crc32 (b.take (n - 4))
    && (if typ = 1 ∨ typ = 2 then decide (1 ≤ count ∧ count ≤ 32) && n == 24 + 8 * count
        else if typ = 3 then count == 0 && n == 28
        else if typ = 4 then decide (1 ≤ count ∧ count ≤ 32) && n == 28
        else true)

/-- A Zwilux datagram leaves: from ZX_PORT to ZX_PORT, not to be fragmented, with a time-to-live of 1 to a group and of 64
to an address (R378). -/
def State.sendZx (p : Port) (dst : Word) (b : List Byte) (s : State) : State :=
  s.emit (.zwilux p dst s.zxPort s.zxPort (if dst.toNat / 268435456 = 14 then 1 else 64) true b)

/-- A datagram is addressed to ZX_PORT of the part's own address or of the network's Zwilux group (R378, R380). -/
def State.zxMine (s : State) (p : Port) (u : UdpHdr) : Bool :=
  u.dport == s.zxPort && (u.dst == s.portIp p
    || match p with
      | .a => u.dst == s.netGroup 0x18
      | .b => u.dst == s.netGroup 0x1C
      | .m => false)

/-- A datagram is rejected (R380, R384, R386). -/
def State.netReject (p : Port) (s : State) : State := (s.count .netRxErr).raise 99 .notice 0 0 (portNum p) []

/-- The update that a point record gives point `n` of a block. -/
def recordUpd (r b : List Byte) (n : Nat) : Option PtUpd :=
  let o := 0x14 + 8 * n
  if u8 b (o + 4) = rtType r then
    some { num := rtFirst r + n, value := some (word (u32 b o)), typ := rtType r, qual := byte (u8 b (o + 5)) &&& 0x0B#8 }
  else none

/-- The point records of a message are applied to an entry's block; a record of another TYPE is not written and
counted (R375, R381). -/
def State.applyRecords (r b : List Byte) (s : State) : State :=
  let n := min (u8 b 0x10) (rtCount r)
  let us := (List.range n).filterMap (recordUpd r b)
  let s := if us.length < n then s.countN .netRxErr (n - us.length) else s
  s.updateRoute r s.devTime us

/-- The key of a NODE and BLOCK in `seqIn`. -/
def zxKey (b : List Byte) : Nat := u16 b 4 * 65536 + u16 b 6

/-- The inbound entry of a message's NODE and BLOCK. -/
def State.zxEntry (s : State) (b : List Byte) : Option (List Byte) :=
  s.routes.find? (fun r => rtKind r == 0 && rtInbound r && slice (rtIdent r) 0 4 == slice b 4 4)

/-- The SEQ and ACK status kept for a message's NODE and BLOCK. -/
def State.setSeqIn (b : List Byte) (status : Option Nat) (s : State) : State :=
  s.withPnt { s.pnt with seqIn := aput (zxKey b) (word (u32 b 8), status) s.pnt.seqIn }

/-- The ACK of a COMMAND, to its sender on the network of the copy (R381). -/
def State.sendAck (p : Port) (src : Word) (b : List Byte) (status : Nat) (s : State) : State :=
  s.sendZx p src
    (zxMsg 3 s.zxNode (u16 b 6) (word (u32 b 8)) s.stamp 0 (if p = .a then 2 else 0) (lebytes 4 status))

/-- A COMMAND that is newer than the last one acted on: its status, and the block written when it is 0 (R381). -/
def State.zxCommand (p : Port) (src : Word) (b : List Byte) (s : State) : State :=
  let e := s.zxEntry b
  let status : Nat := match e with
    | none => 1
    | some r =>
      if rtFlag r 3 = false then 1
      else if s.effField .netCfg 0 1 = 0 then 2
      else if u8 b 0x10 ≠ rtCount r ∨ (List.range (u8 b 0x10)).any (fun n => (recordUpd r b n).isNone) then 3 else 0
  let s := s.setSeqIn b (some status)
  let s := match e with
    | some r => if status = 0 then s.applyRecords r b else s
    | none => s
  let s := if status = 0 then s else (s.count .pntRefused).raise 100 .notice 0 status noIndex []
  s.sendAck p src b status

/-- The reply to a READ: the points that exist, from the first asked (R382). -/
def State.zxRead (p : Port) (src : Word) (b : List Byte) (s : State) : State :=
  if p ≠ .m ∧ s.effField .netCfg 1 1 = 0 then s else
  let first := u32 b 0x14
  let ns := (List.range (u8 b 0x10)).map (first + ·) |>.filter (· < 131072)
  s.sendZx p src
    (zxMsg 1 s.zxNode 0 (word (u32 b 8)) s.stamp ns.length (1 + if p = .a then 2 else 0)
      (ns.map (fun n => (s.point n).record)).flatten)

/-- A Zwilux datagram arrives on a port (R380 to R382, R384). -/
def State.zxReceive (p : Port) (u : UdpHdr) (b : List Byte) (s : State) : State :=
  let src := u.src
  if s.portLive p = false then s
  else if u.frag then (if p = .m then s else s.netReject p)
  else if s.zxMine p u = false then s
  else if zxValid b = false then (if p = .m then s else s.netReject p)
  else
    let typ := u8 b 3
    if typ = 4 then s.zxRead p src b
    else if p = .m then s
    else
      let seq := word (u32 b 8)
      let fresh := match afind (zxKey b) s.pnt.seqIn with
        | some x => newer seq x.1
        | none => true
      if typ = 1 then
        if fresh = false then s else
        let s := s.setSeqIn b none
        match s.zxEntry b with
        | some r => s.applyRecords r b
        | none => s
      else if typ = 2 then
        if fresh then s.zxCommand p src b
        else match afind (zxKey b) s.pnt.seqIn with
          | some (q, some st) => if q = seq then s.sendAck p src b st else s
          | _ => s
      else s

/-- ZWILUX_DATA_RX (R381). -/
def execZwiluxDataRx (t : Nat) (port : Port) (u : UdpHdr) (bytes : List Byte) (s : State) : Host.Outcome State Fault Refusal :=
  .next ((s.instant t).whileRunning (State.zxReceive port u bytes))

/-- ZWILUX_COMMAND_RX (R381). -/
def execZwiluxCommandRx (t : Nat) (port : Port) (u : UdpHdr) (bytes : List Byte) (s : State) : Host.Outcome State Fault Refusal :=
  .next ((s.instant t).whileRunning (State.zxReceive port u bytes))

/-- ZWILUX_READ_RX (R382). -/
def execZwiluxReadRx (t : Nat) (port : Port) (u : UdpHdr) (bytes : List Byte) (s : State) : Host.Outcome State Fault Refusal :=
  .next ((s.instant t).whileRunning (State.zxReceive port u bytes))

/-- One publication of an outbound entry (R383). -/
def State.publish (full : Nat) (r : List Byte) (s : State) : State :=
  let x := s.routeSt (rtEntry r)
  let seq := x.seqOut + 1
  let s := s.setRouteSt (rtEntry r) { x with seqOut := seq }
  [0, 1].foldl (fun s n =>
    if rtFlag r (n + 1) = false then s
    else if s.netTakes n full then
      s.sendZx (if n = 0 then .a else .b) (s.netGroup (0x18 + 4 * n))
        (zxMsg 1 s.zxNode (u16 (rtIdent r) 2) seq s.stamp (rtCount r) (if n = 0 then 2 else 0)
          ((rtPoints r).map (fun k => (s.point k).record)).flatten)
    else s.copyNotSent n) s

/-- The publications of a frame, once in it (R383, R42). -/
def State.publishAll (full : Nat) (s : State) : State :=
  if s.pnt.netFrame = some s.crs.frame ∨ s.hasImage = false then s else
  let s := s.withPnt { s.pnt with netFrame := some s.crs.frame }
  (s.routes.filter (fun r => rtFlag r 0 && rtCount r != 0 && s.crs.tableFrames % rtPeriod r == 0 && (!rtFlag r 4 || s.rdn.role == 2))).foldl
    (fun s r => s.publish full r) s

/-! ## Links and protocols (R384) -/

/-- NET_LINK_CHANGE: speed 0 is link down; 1 to 3 as NET_STATUS (R386, R390). -/
def execNetLinkChange (t : Nat) (port : Port) (speed : Nat) (s : State) : Host.Outcome State Fault Refusal :=
  .next <|
    if s.firmwareRuns = false ∨ speed > 3 then s else
    let s := s.instant t
    let was := match port with
      | .a => s.pnt.linkA != 0
      | .b => s.pnt.linkB != 0
      | .m => s.pnt.linkM
    let s := match port with
      | .a => s.withPnt { s.pnt with linkA := speed }
      | .b => s.withPnt { s.pnt with linkB := speed }
      | .m => s.withPnt { s.pnt with linkM := speed != 0 }
    if was = (speed != 0) then s else s.raise 97 .notice (b2n was) 0 (portNum port) []

/-- ICMP_ECHO_REQUEST: answered with the request's own bytes after the type (R384). -/
def execIcmpEchoRequest (t : Nat) (port : Port) (src : Word) (bytes : List Byte) (s : State) : Host.Outcome State Fault Refusal :=
  .next <| (s.instant t).whileRunning fun s =>
    if s.portLive port ∧ port ≠ .m then s.emit (.frame port 1 (wbytes src ++ bytes)) else s

/-- ARP_REQUEST: a request for the part's address on that port is answered (R384). -/
def execArpRequest (t : Nat) (port : Port) (sender target : Word) (s : State) : Host.Outcome State Fault Refusal :=
  .next <| (s.instant t).whileRunning fun s =>
    if s.portLive port ∧ target = s.portIp port then s.emit (.frame port 0x0806 (wbytes sender ++ wbytes target)) else s

/-- The groups that the part has joined on a network (R350, R378, R386): Zwilux, IEC 61162-450, and the safety groups
where the SAFETY section names them. -/
def State.groups (s : State) (n : Nat) : List Word :=
  let iec := (List.range 32).filter (fun i => tbit (u32 (s.sect 0x0E) 0x20) i)
  let sf := slice (s.sect 0x0D) (0x08 + 4 * n) 4
  [s.netGroup (0x18 + 4 * n)] ++ iec.map (fun i => word (0xEFC00000 + i + 1))
    ++ (if sf.length = 4 then [word (u8 sf 0 * 16777216 + u8 sf 1 * 65536 + u8 sf 2 * 256 + u8 sf 3)] else [])

/-- IGMP_QUERY_RX: membership reports for the part's groups, in the version of the query (R384). -/
def execIgmpQueryRx (t : Nat) (port : Port) (version : Nat) (group : Word) (s : State) : Host.Outcome State Fault Refusal :=
  .next <| (s.instant t).whileRunning fun s =>
    if s.portLive port = false ∨ port = .m then s else
    let mine := (s.groups (portNum port)).filter (fun g => group == 0 || g == group)
    mine.foldl (fun s g => s.emit (.frame port 2 (byte (if version ≥ 3 then 3 else 2) :: wbytes g))) s

end Sys2Proof.Machine
end

