-- ==== Sys2Proof/Machine/Intake.lean ====
section
/-! DEFINITION. Sensor intake, the decimation chain and the alignment buffer (spec/04_sensor_intake.md R78 to R104). -/

namespace Sys2Proof.Machine
open Sys2Proof

/-! ## The quoin table (R78) -/

/-- The quoin entries of an image. -/
def imgQuoins (b : List Byte) : List (List Byte) :=
  let x := imgSection b 7
  (List.range (x.length / 48)).map (recAt x 48)

/-- The quoin entries of the image in effect. -/
def State.quoins (s : State) : List (List Byte) := imgQuoins s.image

/-- ENTRY. -/
def qnEntry (q : List Byte) : Nat := u8 q 0
/-- PORT_KIND. -/
def qnKind (q : List Byte) : Nat := u8 q 1
/-- PORT. -/
def qnPort (q : List Byte) : Nat := u8 q 2
/-- MEMBER. -/
def qnMember (q : List Byte) : Nat := u8 q 3
/-- SETTINGS. -/
def qnSet (q : List Byte) (i n : Nat) : Nat := bits (u32 q 0x1C) i n
/-- LATENCY, ns. -/
def qnLatency (q : List Byte) : Int := u32 q 0x28
/-- WAIT, ns. -/
def qnWait (q : List Byte) : Int := 1000000 * u16 q 0x2C
/-- SILENCE, courses. -/
def qnSilence (q : List Byte) : Nat := u16 q 0x2E

/-- The quoin entry with an ENTRY number. -/
def State.quoin (s : State) (e : Nat) : Option (List Byte) := s.quoins.find? (fun q => qnEntry q == e)

/-- This part owns the entry's port: in pair mode the port of MEMBER alone (R78). -/
def State.ownsQuoin (s : State) (q : List Byte) : Bool := !s.pairMode || qnMember q == s.rdn.unitId

/-- The quoin entry of a port of this part; a port that no entry names is disabled (R78). -/
def State.quoinAt (s : State) (kind port : Nat) : Option (List Byte) :=
  s.quoins.find? (fun q => qnKind q == kind && qnPort q == port && s.ownsQuoin q)

/-- The quoin entry of kind 4 or 5 that names a route entry. -/
def State.quoinOfRoute (s : State) (kind route : Nat) : Option (List Byte) :=
  s.quoins.find? (fun q => qnKind q == kind && qnSet q 0 12 == route && s.ownsQuoin q)

/-- What the intake keeps of an entry. -/
def State.entrySt (s : State) (e : Nat) : EntrySt := vget s.sni.entries e EntrySt.reset

/-- Replace it. -/
def State.setEntrySt (e : Nat) (x : EntrySt) (s : State) : State :=
  s.withSni { s.sni with entries := vset s.sni.entries e x }

/-! ## Arrival (R96, R97, R101) -/

/-- A record error of an entry: SNI_ERR and event source 17 (R84, R89, R96). -/
def State.sniError (e : Nat) (s : State) : State :=
  let c := s.countOcc (s.entrySt e).err 19
  (c.2.setEntrySt e { c.2.entrySt e with err := c.1 }).raise 17 .notice 0 0 e []

/-- A record overdue: SNI_OVERDUE and event source 18 (R96). -/
def State.sniOverdue (e : Nat) (s : State) : State :=
  let c := s.countOcc (s.entrySt e).overdue 19
  (c.2.setEntrySt e { c.2.entrySt e with overdue := c.1 }).raise 18 .notice 0 0 e []

/-- `n` missing IMU samples are added to SNI_GAP (R89). -/
def State.sniGap (e n : Nat) (s : State) : State :=
  let o := Occ.add n (s.entrySt e).gap
  let s := s.setEntrySt e { s.entrySt e with gap := o.1 }
  if o.2 then s.raise 19 .notice 0 0 noIndex [] else s

/-- A record of an entry arrives: its silence ends (R101). -/
def State.entryHeard (e : Nat) (s : State) : State :=
  let x := s.entrySt e
  let s := s.setEntrySt e { x with since := s.crs.courseCnt, silent := false }
  if x.silent then s.raise 16 .notice 1 0 e [] else s

/-- A record that passed the checks enters the buffer, or is discarded when it is full (R96). -/
def State.bufferRecord (r : IntakeRec) (s : State) : State :=
  if s.sni.buffer.length < 4096 then
    s.withSni { s.sni with buffer := s.sni.buffer ++ [r], peak := max s.sni.peak (s.sni.buffer.length + 1) }
  else (s.count .sniDrop).raise 18 .notice 0 0 r.entry []

/-- The 64 bytes of an intake record (R81). -/
def IntakeRec.bytes (r : IntakeRec) : List Byte :=
  lebytes 4 (r.stamp % 1000000000).toNat ++ wordBytes (r.stamp / 1000000000) ++ wbytes r.hand
    ++ [byte r.entry, byte r.kind] ++ lebytes 2 r.flags ++ lebytes 2 r.unc ++ lebytes 2 r.seq.toNat
    ++ [byte r.origin, 0, 0, 0] ++ padTo 40 r.data
where
  /-- The low 32 bits of the seconds. -/
  wordBytes (x : Int) : List Byte := wbytes (wordI x)

/-- A record completes at the part's own port at the present instant, stamped `stamp`: age checks, HAND_FRAME, the
buffer, and the partner's copy (R96, R97). A discarded record leaves a gap in SEQ. -/
def State.arrive (q : List Byte) (kind flags unc : Nat) (stamp : Int) (data : List Byte) (s : State) : State :=
  let e := qnEntry q
  let x := s.entrySt e
  let s := (s.setEntrySt e { x with seq := x.seq + 1 }).entryHeard e
  let a := s.devTime
  if qnWait q < a - stamp then s.sniOverdue e
  else if 2000000 * (s.frameCourses : Int) < stamp - a then s.sniError e
  else
    let r : IntakeRec := { stamp := stamp, hand := s.handFrame, entry := e, kind := kind, flags := flags, unc := min unc 0xFFFF,
                           seq := x.seq, origin := s.rdn.unitId, data := padTo 40 data }
    let kept := decide (s.sni.buffer.length < 4096)
    let s := s.bufferRecord r
    if kept ∧ s.forwards then s.sendLink 8 (lebytes 4 1 ++ r.bytes) else s

/-! ## Sentences (R83 to R87) -/

/-- Rounding of degrees in a decimal field to a binary angle. -/
def Dec.angle (d : Dec) : Int := d.scaled 4294967296 360

/-- A latitude or longitude field, ddmm.mmmm, with its hemisphere, as a binary angle. -/
def geoAngle (f h : List Byte) (neg pos : Byte) : Option Int :=
  match parseDec f with
  | none => none
  | some d =>
    let p : Nat := 10 ^ d.k
    let deg := d.m / (100 * p : Nat)
    let min := d.m % (100 * p : Nat)
    let v := roundAway ((60 * p * deg + min) * 4294967296) (21600 * p)
    if d.m < 0 then none
    else if h = [pos] then some v else if h = [neg] then some (-v) else none

/-- An empty field, or its value. -/
def optDec (f : List Byte) : Option (Option Dec) := if f = [] then some none else (parseDec f).map some

/-- The GEO_POSITION data of its parts (R82). Altitude, satellites and HDOP of an empty field are stored 0, and an empty
age as 0xFFFF, none: the spec names no value for the first three; DESIGN CHOICE (assumption 61). -/
def geoData (lat lon : Int) (alt : Option Dec) (quality : Nat) (sats hdop age : Option Dec) : List Byte :=
  ibytes 4 lat ++ ibytes 4 lon ++ ibytes 4 ((alt.map (Dec.scaled · 1000 1)).getD 0)
    ++ [byte quality, byte ((sats.map (Dec.scaled · 1 1)).getD 0).toNat]
    ++ ibytes 2 (min 0xFFFF ((hdop.map (Dec.scaled · 100 1)).getD 0))
    ++ ibytes 2 (match age with
      | some d => min 0xFFFE (d.scaled 10 1)
      | none => 0xFFFF)

/-- UTC time of day of a sentence field hhmmss.ss, ns. -/
def utcField (f : List Byte) : Option Int :=
  match parseDec f with
  | none => none
  | some d =>
    let p : Nat := 10 ^ d.k
    let whole := d.m / p
    let ns := roundAway (d.m % p * 1000000000) p
    if d.m < 0 ∨ whole ≥ 240000 ∨ whole / 100 % 100 ≥ 60 ∨ whole % 100 > 60 then none
    else some ((whole / 10000 * 3600 + whole / 100 % 100 * 60 + whole % 100) * 1000000000 + ns)

/-- An empty UTC field, or its time of day (R87); a field that is no time of day cannot be parsed. -/
def optUtc (f : List Byte) : Option (Option Int) := if f = [] then some none else (utcField f).map some

/-- What a sentence of the intake's table gives (R84). -/
inductive Parsed where
  /-- A field cannot be parsed: an error. -/
  | bad
  /-- The sentence is rejected: no record, no error. -/
  | rejected
  /-- A record: KIND, DATA, and the UTC time of day where the sentence has one. -/
  | record (kind : Nat) (data : List Byte) (utc : Option Int)
  deriving DecidableEq, Repr

/-- An A or V field: valid, invalid, or neither. -/
def statusField (f : List Byte) : Option Bool :=
  if f = [0x41#8] then some true else if f = [0x56#8] then some false else none

/-- HEADING data: true heading. -/
def headingRec (d : Dec) : Parsed := .record 1 (ibytes 4 d.angle ++ [1]) none

/-- HDT. -/
def parseHdt (f : List (List Byte)) : Parsed :=
  if fieldAt f 1 = [] then .rejected else
  match parseDec (fieldAt f 1) with
  | some d => headingRec d
  | none => .bad

/-- THS. -/
def parseThs (f : List (List Byte)) : Parsed :=
  if fieldAt f 2 = [0x56#8] then .rejected else
  match parseDec (fieldAt f 1) with
  | some d => headingRec d
  | none => .bad

/-- ROT: degrees a minute. -/
def parseRot (f : List (List Byte)) : Parsed :=
  match statusField (fieldAt f 2), parseDec (fieldAt f 1) with
  | some false, _ => .rejected
  | some true, some d => .record 2 (ibytes 4 (d.scaled 4294967296 21600)) none
  | _, _ => .bad

/-- GGA. -/
def parseGga (f : List (List Byte)) : Parsed :=
  match parseDec (fieldAt f 6) with
  | none => .bad
  | some qd =>
    if qd.scaled 1 1 = 0 then .rejected else
    match geoAngle (fieldAt f 2) (fieldAt f 3) 0x53#8 0x4E#8, geoAngle (fieldAt f 4) (fieldAt f 5) 0x57#8 0x45#8,
      optDec (fieldAt f 7), optDec (fieldAt f 8), optDec (fieldAt f 9), optDec (fieldAt f 13), optUtc (fieldAt f 1) with
    | some lat, some lon, some sats, some hdop, some alt, some age, some utc =>
      .record 3 (geoData lat lon alt (qd.scaled 1 1).toNat sats hdop age) utc
    | _, _, _, _, _, _, _ => .bad

/-- The quality number that GGA gives a mode character of GNS, 0 for N. PRESUMED (assumption 16). -/
def gnsQuality (c : Byte) : Nat :=
  match c.toNat with
  | 0x41 => 1 | 0x44 => 2 | 0x50 => 3 | 0x52 => 4 | 0x46 => 5 | 0x45 => 6 | 0x4D => 7 | 0x53 => 8 | _ => 0

/-- GNS (R84). An empty mode field is rejected like one of N alone: DESIGN CHOICE (assumption 101). -/
def parseGns (f : List (List Byte)) : Parsed :=
  let mode := fieldAt f 6
  if mode.all (· == 0x4E#8) then .rejected else
  match geoAngle (fieldAt f 2) (fieldAt f 3) 0x53#8 0x4E#8, geoAngle (fieldAt f 4) (fieldAt f 5) 0x57#8 0x45#8,
    optDec (fieldAt f 7), optDec (fieldAt f 8), optDec (fieldAt f 9), optDec (fieldAt f 11), optUtc (fieldAt f 1) with
  | some lat, some lon, some sats, some hdop, some alt, some age, some utc =>
    .record 3 (geoData lat lon alt ((mode.map gnsQuality).foldl max 0) sats hdop age) utc
  | _, _, _, _, _, _, _ => .bad

/-- Knots in mm/s. -/
def Dec.knots (d : Dec) : Int := d.scaled 4630 9

/-- VBW: the ground speeds where their status is A, else the water speeds. DESIGN CHOICE (assumption 16). -/
def parseVbw (f : List (List Byte)) : Parsed :=
  let go (i g : Nat) : Parsed :=
    match parseDec (fieldAt f i), parseDec (fieldAt f (i + 1)) with
    | some a, some b => .record 4 (ibytes 4 a.knots ++ ibytes 4 b.knots ++ [byte g]) none
    | _, _ => .bad
  if statusField (fieldAt f 6) = some true then go 4 1
  else match statusField (fieldAt f 3) with
    | some true => go 1 0
    | some false => .rejected
    | none => .bad

/-- MWV. -/
def parseMwv (f : List (List Byte)) : Parsed :=
  if statusField (fieldAt f 5) = some false then .rejected else
  let ref : Option Nat := if fieldAt f 2 = [0x52#8] then some 0 else if fieldAt f 2 = [0x54#8] then some 1 else none
  let unit : Option (Nat × Nat) :=
    if fieldAt f 4 = [0x4E#8] then some (4630, 9) else if fieldAt f 4 = [0x4D#8] then some (1000, 1)
    else if fieldAt f 4 = [0x4B#8] then some (2500, 9) else if fieldAt f 4 = [0x53#8] then some (44704, 100) else none
  match statusField (fieldAt f 5), parseDec (fieldAt f 1), parseDec (fieldAt f 3), ref, unit with
  | some true, some a, some v, some r, some u =>
    .record 5 (ibytes 4 a.angle ++ ibytes 4 (v.scaled u.1 u.2) ++ [byte r]) none
  | _, _, _, _, _ => .bad

/-- A field of thousandths within limits, in thousandths. -/
def milli (f : List Byte) (lo hi : Int) : Option Dec :=
  match parseDec f with
  | some d => let v := d.scaled 1000 1; if lo ≤ v ∧ v ≤ hi then some d else none
  | none => none

/-- PHMBRB (R85). -/
def parseBrb (f : List (List Byte)) : Parsed :=
  match statusField (fieldAt f 5), milli (fieldAt f 1) 1000 8000, milli (fieldAt f 2) 0 2147483647,
    milli (fieldAt f 3) 0 359999, milli (fieldAt f 4) (-90000) 90000 with
  | some false, _, _, _, _ => .rejected
  | some true, some t, some r, some b, some e =>
    .record 6 ([byte (t.scaled 1 1).toNat, 0, 0, 0] ++ ibytes 4 (r.scaled 1000 1) ++ ibytes 4 b.angle ++ ibytes 4 e.angle) none
  | _, _, _, _, _ => .bad

/-- PHMBTW (R85). -/
def parseBtw (f : List (List Byte)) : Parsed :=
  match statusField (fieldAt f 4), milli (fieldAt f 1) 0 2147483647, milli (fieldAt f 2) (-45000) 45000,
    milli (fieldAt f 3) (-45000) 45000 with
  | some false, _, _, _ => .rejected
  | some true, some l, some a, some b => .record 7 (ibytes 4 (l.scaled 1000 1) ++ ibytes 4 a.angle ++ ibytes 4 b.angle) none
  | _, _, _, _ => .bad

/-- ASCII codes of a text. -/
def ascii (t : String) : List Byte := t.toList.map (fun c => byte c.toNat)

/-- What the intake parses of a sentence, by its address; none for a formatter outside the table (R84). The talker is
not checked. -/
def parseSentence (addr : List Byte) (f : List (List Byte)) : Option Parsed :=
  let fmt := addr.drop 2
  if addr = ascii "PHMBRB" then some (parseBrb f)
  else if addr = ascii "PHMBTW" then some (parseBtw f)
  else if fmt = ascii "HDT" then some (parseHdt f)
  else if fmt = ascii "THS" then some (parseThs f)
  else if fmt = ascii "ROT" then some (parseRot f)
  else if fmt = ascii "GGA" then some (parseGga f)
  else if fmt = ascii "GNS" then some (parseGns f)
  else if fmt = ascii "VBW" then some (parseVbw f)
  else if fmt = ascii "MWV" then some (parseMwv f)
  else none

/-- Baud rate of a BAUD code. -/
def baudRate (c : Nat) : Nat := [4800, 9600, 19200, 38400, 57600, 115200].getD c 4800

/-- The stamp in arrival mode less LATENCY, rounded to ns, and UNC (R86). -/
def arrivalStamp (q : List Byte) (tInt : Int) : Int × Nat :=
  let r := baudRate (qnSet q 0 3)
  (tInt - 6000 - roundAway 9500000000 r - qnLatency q, 60 + (2500000 + r - 1) / r)

/-- The place of a UTC time of day on the device time scale nearest to `a`, within ±12 h (R87). -/
def nearestUtc (utc leap a : Int) : Int :=
  let d := (utc + leap - a) % 86400000000000
  a + (if d < 43200000000000 then d else d - 86400000000000)

/-- The stamp, UNC and FLAGS of a UART's sentence (R86, R87). -/
def State.sentenceStamp (q : List Byte) (tInt : Int) (utc : Option Int) (s : State) : Int × Nat × Nat :=
  let a := arrivalStamp q tInt
  match utc with
  | some u =>
    if qnSet q 3 1 = 1 ∧ s.tim.leapKnown then
      (nearestUtc u (1000000000 * (s.tim.leapCount : Int)) a.1 - qnLatency q, 50000, 4)
    else (a.1, a.2, 0)
  | none => (a.1, a.2, 0)

/-- SENTENCE_START_STAMP (R86): pair 3 takes device time at the stamping interrupt. -/
def execSentenceStartStamp (t uart : Nat) (s : State) : Host.Outcome State Fault Refusal :=
  .next <| (s.instant t).whileRunning fun s =>
    match s.quoinAt 0 uart with
    | some _ => s.withSni { s.sni with uarts := vset s.sni.uarts uart (some s.devTime) }
    | none => s

/-- UART_FRAMING_ERROR (R83): the sentence in progress ends and counts as an error. -/
def execUartFramingError (t uart : Nat) (s : State) : Host.Outcome State Fault Refusal :=
  .next <| (s.instant t).whileRunning fun s =>
    match s.quoinAt 0 uart, vget s.sni.uarts uart none with
    | some q, some _ => (s.withSni { s.sni with uarts := vset s.sni.uarts uart none }).sniError (qnEntry q)
    | _, _ => s

/-- A checked sentence of a UART goes to the intake and to its route entry; one with a field that cannot be parsed is
discarded and counted (R84, R373, R375). -/
def State.uartSentence (uart : Nat) (q addr : List Byte) (fs : List (List Byte)) (tInt : Int) (s : State) : State :=
  let p := parseSentence addr fs
  if p = some .bad then s.sniError (qnEntry q) else
  let s := match p with
    | some (.record kind data utc) =>
      let x := s.sentenceStamp q tInt utc
      s.arrive q kind x.2.2 x.2.1 x.1 data
    | _ => s
  match s.sentenceEntry 3 uart addr with
  | some r => s.sentenceRoute r (arrivalStamp q tInt).1 fs
  | none => s

/-- SENTENCE_RECEIVED (R84): CR LF ends the sentence that the latest start began. -/
def execSentenceReceived (t uart : Nat) (bytes : List Byte) (s : State) : Host.Outcome State Fault Refusal :=
  .next <| (s.instant t).whileRunning fun s =>
    match s.quoinAt 0 uart, vget s.sni.uarts uart none with
    | some q, some tInt =>
      let s := s.withSni { s.sni with uarts := vset s.sni.uarts uart none }
      match checkSentence (qnSet q 4 1 == 1) bytes with
      | .bad => s.sniError (qnEntry q)
      | .ok addr fs => s.uartSentence uart q addr fs tInt
    | _, _ => s

/-- A sentence from a network or from CAN FD, with the stamp and UNC that its path gives: the intake by the quoin entry
of kind `qk` that names its route entry, and the route entry of kind `rk` itself (R87, R373, R386). -/
def State.busSentence (rk qk port unc : Nat) (stamp : Int) (line : List Byte) (s : State) : State :=
  let addr := line.drop 1 |>.takeWhile (fun b => b != 0x2C#8 && b != 0x2A#8)
  match s.sentenceEntry rk port addr with
  | none => s
  | some r =>
    let q := s.quoinOfRoute qk (rtEntry r)
    match checkSentence false line with
    | .bad => match q with
      | some q => s.sniError (qnEntry q)
      | none => s
    | .ok _ fs =>
      match q, parseSentence addr fs with
      | some q, some (.record kind data _) => (s.arrive q kind 0 unc (stamp - qnLatency q) data).sentenceRoute r stamp fs
      | some q, some .bad => s.sniError (qnEntry q)
      | _, _ => s.sentenceRoute r stamp fs

/-- The lines of a datagram's text, each with its LF. -/
def textLines (b : List Byte) : List (List Byte) :=
  (splitAt8 0x0A#8 b).dropLast.map (· ++ [0x0A#8])

/-- NETWORK_SENTENCE_RX (R386): an IEC 61162-450 datagram of group `group`. -/
def execNetworkSentenceRx (t : Nat) (port : Port) (group : Nat) (bytes : List Byte) (s : State) : Host.Outcome State Fault Refusal :=
  .next <| (s.instant t).whileRunning fun s =>
    if port = .m ∨ s.portLive port = false ∨ group = 0 ∨ group > 32
      ∨ tbit (u32 (s.sect 0x0E) 0x20) (group - 1) = false then s
    else if bytes.take 6 ≠ ascii "UdPbC" ++ [0#8] then s.netReject port
    else
      let stamp := s.devTime
      (textLines (bytes.drop 6)).foldl (fun s l =>
        let line := dropTags 4 l
        if line.isEmpty then s else s.busSentence 1 4 0xFF 1 stamp line) s

/-! ## IMU ports (R88, R89) -/

/-- Sample period of a RATE code, ns. -/
def imuPeriod (c : Nat) : Nat := [500000, 1000000, 2000000].getD c 2000000

/-- The ball number of IMUn_SYNC in `Out.pin`. -/
def ballSync (n : Nat) : Nat := 1 + n

/-- An edge that starts a read is stamped (R88). -/
def State.imuEdge (port : Nat) (s : State) : State :=
  s.withSni { s.sni with imus := vmod s.sni.imus port (fun x => { x with edge := some s.devTime, lastEdge := some s.clk.now }) }

/-- IMU_SYNC_PULSE (R88): in SYNC timing the part drives IMUn_SYNC high for 10 µs at a multiple of the sample period of
device time. -/
def execImuSyncPulse (t port : Nat) (s : State) : Host.Outcome State Fault Refusal :=
  .next <| (s.instant t).whileRunning fun s =>
    match s.quoinAt 1 port with
    | some q =>
      if qnSet q 2 1 = 0 ∧ s.devTime % (imuPeriod (qnSet q 0 2) : Int) = 0 then
        ((s.emit (.pin (ballSync port) true)).imuEdge port).emit (.pin (ballSync port) false)
      else s
    | none => s

/-- IMU_DRDY_EDGE (R88). -/
def execImuDrdyEdge (t port : Nat) (s : State) : Host.Outcome State Fault Refusal :=
  .next <| (s.instant t).whileRunning fun s =>
    match s.quoinAt 1 port with
    | some q => if qnSet q 2 1 = 1 then s.imuEdge port else s
    | none => s

/-- An unsigned big-endian value. -/
def ube (b : List Byte) (i : Nat) : Nat → Nat
  | 0 => 0
  | n + 1 => 256 * ube b i n + u8 b (i + n)

/-- The frame's DATA: rates, forces, temperature, status, counter, little-endian (R82, R88). -/
def imuData (b : List Byte) : List Byte :=
  ((List.range 6).map (fun i => lebytes 4 (ube b (4 + 4 * i) 4))).flatten ++ lebytes 2 (ube b 0x1C 2) ++ [byte (u8 b 1), 0]
    ++ lebytes 2 (ube b 2 2)

/-- A frame is accepted: SENSOR_INVALID, GAP_BEFORE and SNI_GAP (R89). -/
def State.imuAccept (port : Nat) (q b : List Byte) (edge : Int) (s : State) : State :=
  let e := qnEntry q
  let st := u8 b 1
  let c : Half := BitVec.ofNat 16 (ube b 2 2)
  let p := vget s.sni.imus port ImuPort.reset
  let missing := match p.count with
    | some o => (c - o - 1).toNat
    | none => 0
  let bad := decide (st % 4 ≠ 3 ∨ tbit st 2 ∨ tbit st 3)
  let s := s.withSni { s.sni with imus := vset s.sni.imus port { p with edge := none, count := some c } }
  let s := if missing = 0 then s else s.sniGap e missing
  s.arrive q 8 ((if missing = 0 then 0 else 16) + (if bad then 64 else 0)) 1 (edge - qnLatency q) (imuData b)

/-- What a read sends: the byte 0x5A and 32 bytes of zero (R88). -/
def imuQuery : List Byte := 0x5A#8 :: List.replicate 32 0

/-- IMU_FRAME_READ (R88, R89): a read that an edge started completes with the 32 bytes of the frame. -/
def execImuFrameRead (t port : Nat) (bytes : List Byte) (s : State) : Host.Outcome State Fault Refusal :=
  .next <| (s.instant t).whileRunning fun s =>
    let p := vget s.sni.imus port ImuPort.reset
    match s.quoinAt 1 port, p.edge with
    | some q, some edge =>
      let s := s.emit (.spi port imuQuery)
      let b := padTo 32 bytes
      if u8 b 0 = 0xA5 ∧ ube b 0x1E 2 = (crc16 (b.take 0x1E)).toNat then s.imuAccept port q b edge
      else (s.withSni { s.sni with imus := vset s.sni.imus port { p with edge := none } }).sniError (qnEntry q)
    | _, _ => s

/-- IMU_DRDY_TIMEOUT (R89): no edge within 1.5 sample periods of the previous one. While no edge comes, each further
1.5 periods count one more missing sample; the spec does not say what follows the first; DESIGN CHOICE (assumption 62). -/
def execImuDrdyTimeout (t port : Nat) (s : State) : Host.Outcome State Fault Refusal :=
  .next <| (s.instant t).whileRunning fun s =>
    match s.quoinAt 1 port, (vget s.sni.imus port ImuPort.reset).lastEdge with
    | some q, some l =>
      let w := imuPeriod (qnSet q 0 2) * 3 / 2
      if qnSet q 2 1 = 1 ∧ l + w ≤ s.clk.now then
        (s.withSni { s.sni with imus := vmod s.sni.imus port (fun x => { x with lastEdge := some (l + w) }) }).sniGap (qnEntry q) 1
      else s
    | _, _ => s

/-! ## Analog channels (R90 to R95) -/

/-- Output period of a RATE code, ns. -/
def anaPeriod (c : Nat) : Nat := [1000000, 2000000, 4000000, 10000000, 20000000].getD c 10000000

/-- Delay of a PRESET in half output periods. -/
def anaDelay2 (p : Nat) : Nat := [6, 16, 32, 64, 2, 5].getD p 16

/-- Settling count of a PRESET. -/
def anaSettle (p : Nat) : Nat := [6, 16, 32, 64, 6, 16].getD p 16

/-- Group delay D, ns (R91). -/
def groupDelay (q : List Byte) : Nat := anaDelay2 (qnSet q 0 3) * anaPeriod (qnSet q 3 3) / 2 + 12000

/-- A channel. -/
def State.anaCh (s : State) (c : Nat) : AnaCh := vget s.sni.ana c AnaCh.reset

/-- Replace it. -/
def State.setAna (c : Nat) (x : AnaCh) (s : State) : State := s.withSni { s.sni with ana := vset s.sni.ana c x }

/-- An integer saturated to a signed `n`-bit value. -/
def satI (n : Nat) (x : Int) : Int := max (-(2 ^ (n - 1) : Nat)) (min ((2 ^ (n - 1) : Nat) - 1) x)

/-- The engineering value: code × SCALE_A + SCALE_B, SCALE_A in Q7.24, saturating (R90). The spec states no rounding of
the product to an integer: the nearest integer, halves upward, is a DESIGN CHOICE (assumption 63). -/
def engValue (q : List Byte) (code : Int) : Int := satI 32 ((2 * code * i32 q 0x20 + 16777216) / 33554432 + i32 q 0x24)

/-- The route entry of KIND 4 of a channel. -/
def State.analogRoute (s : State) (c : Nat) : Option (List Byte) :=
  s.routes.find? (fun r => rtKind r == 4 && rtInbound r && u8 (rtIdent r) 0 == c)

/-- Point quality of an analog output (R375). -/
def anaQual (unsettled ovrg test : Bool) : Byte :=
  if test then 2 ||| 8 else if unsettled || ovrg then 1 else 0

/-- An input test ends its wait at the first output after the switch (R423). -/
def State.anaTestsDone (c : Nat) (s : State) : State :=
  let x := s.anaCh c
  x.tests.foldl (fun s w => s.done w 0) (s.setAna c { x with tests := [] })

/-- ANALOG_OUTPUT (R90 to R95): the output of the latest multiple of the output period. -/
def execAnalogOutput (t channel : Nat) (code : Int) (ovrg : Bool) (s : State) : Host.Outcome State Fault Refusal :=
  .next <| (s.instant t).whileRunning fun s =>
    match s.quoinAt 2 channel with
    | none => s
    | some q =>
      let x := s.anaCh channel
      let p : Int := anaPeriod (qnSet q 3 3)
      let stamp := s.devTime / p * p - groupDelay q - qnLatency q
      let lim : Int := 8388607
      let c := if ovrg then (if code < 0 then -lim else lim) else max (-lim) (min lim code)
      let uns := decide (0 < x.run)
      let test := x.input != 0
      let s := s.setAna channel { x with run := x.run - 1, ovr := ovrg }
      let s := if ovrg && !x.ovr then s.raise 20 .notice 0 0 channel [] else s
      let s := s.arrive q 9 (b2n uns + 2 * b2n ovrg + 32 * b2n test) 1 stamp (ibytes 4 c ++ ibytes 4 (engValue q c))
      let s := match s.analogRoute channel with
        | some r => s.updateRoute r stamp
            (if rtCount r = 0 then [] else
              [{ num := rtFirst r, value := some (wordI (engValue q c)), typ := rtType r, qual := anaQual uns ovrg test }])
        | none => s
      s.anaTestsDone channel

/-- An unsettled run of the preset's settling count starts (R92, R93). -/
def State.startRun (channel : Nat) (s : State) : State :=
  match s.quoinAt 2 channel with
  | some q => s.setAna channel { s.anaCh channel with run := anaSettle (qnSet q 0 3) }
  | none => s

/-- ANALOG_STEP_DETECTED (R92): by the step threshold, or as the input leaves overrange, which needs no threshold. -/
def execAnalogStepDetected (t channel : Nat) (s : State) : Host.Outcome State Fault Refusal :=
  .next <| (s.instant t).whileRunning fun s => s.startRun channel

/-- A channel switches its input (R93, R95). -/
def State.anaSwitch (channel input : Nat) (s : State) : State :=
  if (s.anaCh channel).input = input then s
  else (s.setAna channel { s.anaCh channel with input := input }).startRun channel

/-! ## Silence (R101) -/

/-- An entry falls silent when no record arrived for more than SILENCE courses. -/
def State.entrySilence (q : List Byte) (s : State) : State :=
  let e := qnEntry q
  let x := s.entrySt e
  if x.silent = false ∧ qnSilence q < s.crs.courseCnt - x.since then
    (s.setEntrySt e { x with silent := true }).raise 16 .notice 0 0 e []
  else s

/-- QUOIN_ENTRY_SILENT (R101): an entry falls silent in the course of ALIGN. -/
def execQuoinEntrySilent (t entry : Nat) (s : State) : Host.Outcome State Fault Refusal :=
  .next <| (s.instant t).whileRunning fun s =>
    match s.quoin entry with
    | some q => if s.crs.course = 0 then s.entrySilence q else s
    | none => s

/-! ## ALIGN (R98) -/

/-- `a` goes before `b`: stamp, then ENTRY, then SEQ. -/
def IntakeRec.before (a b : IntakeRec) : Bool :=
  decide (a.stamp < b.stamp) || (a.stamp == b.stamp && (decide (a.entry < b.entry)
    || (a.entry == b.entry && decide ((a.seq - b.seq).toInt < 0))))

/-- Insert a record in the order of hand-over. -/
def recInsert (x : IntakeRec) : List IntakeRec → List IntakeRec
  | [] => [x]
  | y :: r => if x.before y then x :: y :: r else y :: recInsert x r

/-- Device time T of a frame's tick, when it is kept. -/
def State.tickTime (s : State) (k : Word) : Option Int := (s.crs.tickTimes.find? (fun p => p.1 == k)).map (·.2)

/-- Device time of the present frame's tick. -/
def State.frameTime (s : State) : Int := (s.tickTime s.crs.frame).getD s.devTime

/-- LATE: the stamp belongs to an earlier frame than HAND_FRAME. -/
def State.markLate (r : IntakeRec) (s : State) : IntakeRec :=
  match s.tickTime (r.hand - 1) with
  | some t => if r.stamp < t ∧ tbit r.flags 3 = false then { r with flags := r.flags + 8 } else r
  | none => r

/-- The records of HAND_FRAME ≤ k and stamp below T_k are handed over in order. -/
def State.alignRecords (s : State) : State :=
  let tk := s.frameTime
  let due (r : IntakeRec) : Bool := !newer r.hand s.crs.frame && decide (r.stamp < tk)
  let out := (s.sni.buffer.filter due).foldl (fun l r => recInsert (s.markLate r) l) []
  s.withSni { s.sni with buffer := s.sni.buffer.filter (fun r => !due r), handed := out }


/-! ## The partner's records (R97, R334) -/

/-- The full device time of a received stamp: seconds in 32 bits, nearest to the present (R5). -/
def State.fullStamp (s : State) (secs ns : Nat) : Int :=
  let now := s.devTime / 1000000000
  (now + sext 32 (((secs : Int) - now) % 4294967296).toNat) * 1000000000 + ns

/-- One forwarded record enters the buffer with its HAND_FRAME unchanged (R97). -/
def State.takeForwarded (b : List Byte) (s : State) : State :=
  let r : IntakeRec := { stamp := s.fullStamp (u32 b 4) (u32 b 0), hand := word (u32 b 8), entry := u8 b 0x0C, kind := u8 b 0x0D
                         flags := u16 b 0x0E, unc := u16 b 0x10, seq := BitVec.ofNat 16 (u16 b 0x12), origin := u8 b 0x14
                         data := slice b 0x18 40 }
  if b.length = 64 then (s.entryHeard r.entry).bufferRecord r else s

/-- INTAKE_RECORDS_RX (R97, spec/23 R521): the partner's records, behind their count. -/
def execIntakeRecordsRx (t : Nat) (hd : LinkHdr) (bytes : List Byte) (s : State) : Host.Outcome State Fault Refusal :=
  .next <| (s.instant t).whileRunning <| State.linkTake hd 8 bytes bytes fun s =>
    let recs := (List.range (min (u32 bytes 0) ((bytes.length - 4) / 64))).map (fun i => slice bytes (4 + 64 * i) 64)
    if s.forwards then recs.foldl (fun s b => s.takeForwarded b) s else s

/-- A forwarded point record. Its HAND_FRAME is taken from its stamp. DEDUCED (assumption 15). -/
def State.fwdRecord (origin : Nat) (frame : Word) (b : List Byte) (s : State) : FwdPt :=
  let time := s.fullTime (word (u32 b 8))
  { time := time, handFrame := s.handFrameAt (time - s.clk.base), origin := origin, num := u32 b 0,
    pt := { value := word (u32 b 4), stamp := word (u32 b 8), frame := frame, typ := u8 b 12, qual := byte (u8 b 13),
            entry := 0, full := some time, course := s.crs.courseCnt - ((s.devTime - time) / 1000000).toNat } }

/-- FORWARDED_POINTS_RX (R334, spec/23 R521): updates of the partner wait for ALIGN. -/
def execForwardedPointsRx (t : Nat) (hd : LinkHdr) (bytes : List Byte) (s : State) : Host.Outcome State Fault Refusal :=
  .next <| (s.instant t).whileRunning <| State.linkTake hd 9 bytes bytes fun s =>
    if s.forwards = false then s else
    let n := min (u8 bytes 1) ((bytes.length - 4) / 16)
    let us := (List.range n).map (fun i => s.fwdRecord (s.rdn.partnerUnit.getD 0) hd.frame (slice bytes (4 + 16 * i) 16))
    s.withPnt { s.pnt with fwd := s.pnt.fwd ++ us }

/-- SNI_ENTRY_WRITE (R103, R104). -/
def execSniEntryWrite (w : Word) (s : State) : Host.Outcome State Fault Refusal :=
  .next <| s.barWrite 0x8010 fun s => s.withSni { s.sni with entrySel := bits w.toNat 0 6 }

end Sys2Proof.Machine
end

