-- ==== Sys2Proof/Machine/VesselModel.lean ====
section
/-! DEFINITION. The vessel model in binary64: hull, propagation, thrust, grid
(spec/06_position_estimation.md R133 to R136, R148; spec/08_thrust_allocation.md R202). Values are held in m, rad, N and
their rates. The order of evaluation is the model's; DESIGN CHOICE (assumption 18). -/

namespace Sys2Proof.Machine
open Sys2Proof

/-! ## Units -/

/-- Reporting units in one unit held, of each state (R133). -/
def stateUnit (i : Nat) : F64 :=
  let ba := fdiv f1 radPerBa
  match i with
  | 2 | 5 | 13 | 14 | 17 => ba
  | 6 | 7 | 8 => ofI 10
  | 15 | 16 => ofI 1000000
  | _ => ofI 1000

/-- A reported integer in 0.001 of the unit held. -/
def milliF (x : Int) : F64 := fq x 1000

/-- A reported integer in tenths. -/
def tenthF (x : Int) : F64 := fq x 10

/-! ## Hull -/

/-- The HULL section's numbers in SI units (R135). -/
structure Hull where
  /-- Surge mass. -/
  m11 : F64
  /-- Sway mass. -/
  m22 : F64
  /-- Sway–yaw coupling. -/
  m23 : F64
  /-- Yaw inertia. -/
  m33 : F64
  /-- Linear damping: D11, D22, D23, D33. -/
  d : FVec
  /-- Quadratic damping: DQ11, DQ22, DQ33. -/
  dq : FVec
  /-- Wave frequency ω, rad/s. -/
  w : F64
  /-- Wave damping λ. -/
  lam : F64
  deriving DecidableEq, Repr

/-- The hull of a HULL section. -/
def hullOf (b : List Byte) : Hull :=
  { m11 := ofI (100 * u32 b 0), m22 := ofI (100 * u32 b 4), m23 := ofI (100 * i32 b 8), m33 := ofI (10000 * u32 b 12)
    d := [ofN (u32 b 0x10), ofN (u32 b 0x14), ofI (i32 b 0x18), ofN (u32 b 0x1C)]
    dq := [ofN (u32 b 0x20), ofN (u32 b 0x24), ofN (u32 b 0x28)]
    w := milliF (u16 b 0x2C), lam := milliF (u16 b 0x2E) }

/-- The hull of the image in effect. -/
def State.hull (s : State) : Hull := hullOf (s.sect 2)

/-- Determinant of the sway–yaw block of M. -/
def Hull.det (h : Hull) : F64 := fsub (fmul h.m22 h.m33) (fmul h.m23 h.m23)

/-- M⁻¹ applied to a force. -/
def Hull.accel (h : Hull) (f : FVec) : FVec :=
  let a := fel f 1
  let b := fel f 2
  [fdiv (fel f 0) h.m11, fdiv (fsub (fmul h.m33 a) (fmul h.m23 b)) h.det, fdiv (fsub (fmul h.m22 b) (fmul h.m23 a)) h.det]

/-- M applied to an acceleration. -/
def Hull.force (h : Hull) (a : FVec) : FVec :=
  let v := fel a 1
  let r := fel a 2
  [fmul h.m11 (fel a 0), fadd (fmul h.m22 v) (fmul h.m23 r), fadd (fmul h.m23 v) (fmul h.m33 r)]

/-- dν/dt (R134). -/
def Hull.nuDot (h : Hull) (x tau : FVec) : FVec :=
  let u := fel x 3
  let v := fel x 4
  let r := fel x 5
  let quad (i : Nat) (y : F64) := fmul (fmul (fel h.dq i) (fabs y)) y
  let fx := fsub (fsub (fadd (fel tau 0) (fel x 6)) (fmul (fel h.d 0) u)) (quad 0 u)
  let fy := fsub (fsub (fsub (fadd (fel tau 1) (fel x 7)) (fmul (fel h.d 1) v)) (fmul (fel h.d 2) r)) (quad 1 v)
  let fn := fsub (fsub (fsub (fadd (fel tau 2) (fel x 8)) (fmul (fel h.d 2) v)) (fmul (fel h.d 3) r)) (quad 2 r)
  h.accel [fx, fy, fn]

/-- Acceleration of a wave pair (R134). -/
def Hull.wave (h : Hull) (x1 x2 : F64) : F64 :=
  fneg (fadd (fmul (fmul h.w h.w) x1) (fmul (fmul (fmul (ofI 2) h.lam) h.w) x2))

/-- The derivative of the state (R134). -/
def Hull.deriv (h : Hull) (tau x : FVec) : FVec :=
  let c := fcos (fel x 2)
  let n := fsin (fel x 2)
  let u := fel x 3
  let v := fel x 4
  [fsub (fmul u c) (fmul v n), fadd (fmul u n) (fmul v c), fel x 5] ++ h.nuDot x tau ++ [f0, f0, f0]
    ++ [fel x 10, h.wave (fel x 9) (fel x 10), fel x 12, h.wave (fel x 11) (fel x 12), fel x 14, h.wave (fel x 13) (fel x 14)]
    ++ [f0, f0, f0]

/-- One fourth-order Runge–Kutta step of length `dt` (R136). -/
def Hull.rk4 (h : Hull) (tau : FVec) (dt : F64) (x : FVec) : FVec :=
  let half := fscale dt (-1)
  let k1 := h.deriv tau x
  let k2 := h.deriv tau (vadd x (vscale half k1))
  let k3 := h.deriv tau (vadd x (vscale half k2))
  let k4 := h.deriv tau (vadd x (vscale dt k3))
  let sum := vadd (vadd k1 (vscale (ofI 2) k2)) (vadd (vscale (ofI 2) k3) k4)
  vadd x (vscale (fdiv dt (ofI 6)) sum)

/-- The Jacobian F of R134 at a state. -/
def Hull.jacobian (h : Hull) (x : FVec) : FMat :=
  let c := fcos (fel x 2)
  let n := fsin (fel x 2)
  let u := fel x 3
  let v := fel x 4
  let r := fel x 5
  let row (ps : List (Nat × F64)) : FVec := ps.foldl (fun w p => vput p.1 p.2 w) (List.replicate 18 f0)
  let lin (i j : Nat) (y : F64) := fneg (fadd (fel h.d i) (fmul (fmul (ofI 2) (fel h.dq j)) (fabs y)))
  let d23 := fneg (fel h.d 2)
  let cv := h.accel [f0, lin 1 1 v, d23]
  let cr := h.accel [f0, d23, lin 3 2 r]
  let by' := h.accel [f0, f1, f0]
  let bn := h.accel [f0, f0, f1]
  let w2 := fneg (fmul h.w h.w)
  let lw := fneg (fmul (fmul (ofI 2) h.lam) h.w)
  let zero := row []
  [row [(2, fneg (fadd (fmul u n) (fmul v c))), (3, c), (4, fneg n)],
   row [(2, fsub (fmul u c) (fmul v n)), (3, n), (4, c)],
   row [(5, f1)],
   row [(3, fdiv (lin 0 0 u) h.m11), (6, fdiv f1 h.m11)],
   row [(4, fel cv 1), (5, fel cr 1), (7, fel by' 1), (8, fel bn 1)],
   row [(4, fel cv 2), (5, fel cr 2), (7, fel by' 2), (8, fel bn 2)],
   zero, zero, zero,
   row [(10, f1)], row [(9, w2), (10, lw)],
   row [(12, f1)], row [(11, w2), (12, lw)],
   row [(14, f1)], row [(13, w2), (14, lw)],
   zero, zero, zero]

/-- Φ = I + F·Δ + F²·Δ²/2 (R136). -/
def transition (f : FMat) (dt : F64) : FMat :=
  let a := f.map (vscale dt)
  madd (madd (mid 18) a) ((mmul 18 a a).map (vscale (fscale f1 (-1))))

/-- Degrees in thousandths, as radians. -/
def milliDeg (x : Int) : F64 := fmul (fq x 180000) fpi

/-- Stationary standard deviations of the wave states N, E, ψ. -/
def waveSigma (b : List Byte) : FVec :=
  [milliF (u16 b 0x30), milliF (u16 b 0x30), milliDeg (u16 b 0x32)]

/-- The diagonal of Q_d for a step of length `dt` (R134, R136). -/
def noiseDiag (b : List Byte) (dt : F64) : FVec :=
  let h := hullOf b
  let sq (x : F64) := fmul x x
  let q (i : Nat) := fmul (fmul (ofI 4) h.lam) (fmul (fmul (fmul h.w h.w) h.w) (sq (fel (waveSigma b) i)))
  let nu := sq (milliF (u16 b 0x3C))
  let bf := sq (tenthF (u32 b 0x34))
  let acb := sq (fq (u16 b 0x40) 1000000)
  ([f0, f0, f0, nu, nu, sq (milliDeg (u16 b 0x3E)), bf, bf, sq (tenthF (u32 b 0x38)),
    f0, q 0, f0, q 1, f0, q 2, acb, acb, sq (fdiv (milliDeg (u16 b 0x42)) (ofI 3600))]).map (fmul dt)

/-- The matrix with a diagonal. -/
def mdiag (v : FVec) : FMat := mof v.length v.length (fun i j => if i = j then fel v i else f0)

/-- The initial standard deviations (R158); those of N, E and ψ before their first admission are free values. -/
def initialSigma (b : List Byte) : FVec :=
  let w := waveSigma b
  let rate (i : Nat) := fmul (fel w i) (hullOf b).w
  [Config.sigmaBefore 0, Config.sigmaBefore 1, Config.sigmaBefore 2, f1, f1, milliDeg 1000, ofI 100000, ofI 100000, ofI 5000000,
   fel w 0, rate 0, fel w 1, rate 1, fel w 2, rate 2, fq 5 100, fq 5 100, milliDeg 100]

/-- The initial covariance. -/
def initialCov (b : List Byte) : FMat := mdiag ((initialSigma b).map (fun x => fmul x x))

/-! ## Thrust (R202) -/

/-- The record of a unit in the POWER section (spec/08 R224). -/
def powerUnit (b : List Byte) (u : Nat) : List Byte := slice b (32 + 24 * u) 24

/-- Lift of a rudder at angle δ behind a propeller thrust, 0.1 N (spec/08 R209). -/
def rudderLift (pu : List Byte) (thrust delta : Int) : F64 :=
  if u32 pu 8 = 0 then f0
  else fdiv (fmul (fmul (milliF (u16 pu 6)) (ofI thrust)) (ofI delta)) (ofN (u32 pu 8))

/-- Body force of a unit command, 0.1 N. -/
def unitForce (kind : Nat) (pu : List Byte) (thrust : Int) (angle : Word) : FVec :=
  if kind = 0 then [f0, ofI thrust]
  else if kind = 2 then [ofI thrust, rudderLift pu thrust angle.toInt]
  else
    let a := baRad angle.toNat
    [fmul (ofI thrust) (fcos a), fmul (ofI thrust) (fsin a)]

/-- Sum of the generalised forces of body forces at the units' positions, 0.1 N and 0.1 N·m. -/
def sumForces (fs : List (List Byte × FVec)) : FVec :=
  fs.foldl (fun acc p =>
    let x := fel p.2 0
    let y := fel p.2 1
    let n := fdiv (fsub (fmul (ofI (i32 p.1 4)) y) (fmul (ofI (i32 p.1 8)) x)) (ofI 1000)
    vadd acc [x, y, n]) [f0, f0, f0]

/-- The generalised force of unit command entries, 0.1 N and 0.1 N·m; those marked OUT do not count (R202). -/
def State.forceOf (s : State) (es : List (List Byte)) : FVec :=
  sumForces ((es.filter (fun e => !tbit (u8 e 3) 0)).map (fun e =>
    let u := u8 e 2
    (s.thruster u, unitForce (u8 (s.thruster u) 1) (powerUnit (s.sect 5) u) (i32 e 4) (word (u32 e 8)))))

/-- τ of the keystone frame sent in the previous frame, in N and N·m; zero when none was sent (R134). -/
def State.sentTau (s : State) : FVec :=
  match s.rdn.last with
  | some k => if k.frame + 1 = s.crs.frame then (s.forceOf k.entries).map (fdiv · (ofI 10)) else [f0, f0, f0]
  | none => [f0, f0, f0]

/-! ## The grid (R148) -/

/-- A tangent frame: origin in ECEF and the axes north, east, down. WGS 84 numbers: PRESUMED (assumption 18). -/
structure Tangent where
  /-- Origin, m. -/
  o : FVec
  /-- Axes. -/
  axes : FMat
  deriving DecidableEq, Repr

/-- Semi-major axis, m. -/
def wgsA : F64 := ofI 6378137
/-- Flattening. -/
def wgsF : F64 := fdiv (ofI 1000000000) (ofI 298257223563)
/-- First eccentricity squared. -/
def wgsE2 : F64 := fmul wgsF (fsub (ofI 2) wgsF)

/-- ECEF of a latitude, longitude and height: radians and m. -/
def ecef (lat lon h : F64) : FVec :=
  let sp := fsin lat
  let cp := fcos lat
  let rn := fdiv wgsA (fsqrt (fsub f1 (fmul wgsE2 (fmul sp sp))))
  [fmul (fmul (fadd rn h) cp) (fcos lon), fmul (fmul (fadd rn h) cp) (fsin lon),
   fmul (fadd (fmul rn (fsub f1 wgsE2)) h) sp]

/-- The tangent frame of an origin. -/
def tangentOf (o : Word × Word × Word) : Tangent :=
  let lat := baRad o.1.toInt
  let lon := baRad o.2.1.toInt
  let sp := fsin lat
  let cp := fcos lat
  let sl := fsin lon
  let cl := fcos lon
  { o := ecef lat lon (milliF o.2.2.toInt)
    axes := [[fneg (fmul sp cl), fneg (fmul sp sl), cp], [fneg sl, cl, f0], [fneg (fmul cp cl), fneg (fmul cp sl), fneg sp]] }

/-- An ECEF position on a grid: north, east, down. -/
def Tangent.toGrid (g : Tangent) (p : FVec) : FVec := mvec g.axes (vsub p g.o)

/-- An ECEF direction on a grid. -/
def Tangent.turn (g : Tangent) (p : FVec) : FVec := mvec g.axes p

/-- The ECEF position of (N, E) at down 0. -/
def Tangent.toEcef (g : Tangent) (n e : F64) : FVec :=
  vadd g.o (vadd (vscale n (g.axes.getD 0 [])) (vscale e (g.axes.getD 1 [])))

/-- A grid position carried into a new grid. -/
def carryGrid (a b : Tangent) (n e : F64) : F64 × F64 :=
  let p := b.toGrid (a.toEcef n e)
  (fel p 0, fel p 1)

/-- A grid position in mm carried into a new grid. -/
def carryMm (a b : Tangent) (n e : Int) : Int × Int :=
  let p := carryGrid a b (milliF n) (milliF e)
  (toI (fmul p.1 (ofI 1000)), toI (fmul p.2 (ofI 1000)))

/-! ## Rotations (spec/04 R79) -/

/-- Body axes to sensor axes: yaw about z, then pitch, then roll. -/
def mountRot (roll pitch yaw : F64) : FMat :=
  let cr := fcos roll
  let sr := fsin roll
  let cp := fcos pitch
  let sp := fsin pitch
  let cy := fcos yaw
  let sy := fsin yaw
  let rz := [[cy, sy, f0], [fneg sy, cy, f0], [f0, f0, f1]]
  let ry := [[cp, f0, fneg sp], [f0, f1, f0], [sp, f0, cp]]
  let rx := [[f1, f0, f0], [f0, cr, sr], [f0, fneg sr, cr]]
  mmul 3 rx (mmul 3 ry rz)

/-- The mounting rotation of a quoin entry. -/
def quoinRot (q : List Byte) : FMat :=
  mountRot (baRad (i32 q 0x10)) (baRad (i32 q 0x14)) (baRad (i32 q 0x18))

/-- The lever arm of a quoin entry, m. -/
def quoinLever (q : List Byte) : FVec := [milliF (i32 q 4), milliF (i32 q 8), milliF (i32 q 12)]

/-- A body vector turned into grid axes: Cz(ψ)·Cy(θ)·Cx(φ) (R142). -/
def bodyToGrid (psi pitch roll : F64) (v : FVec) : FVec := mvec (mtr 3 (mountRot roll pitch psi)) v

/-- The cross product. -/
def cross (a b : FVec) : FVec :=
  let g (v : FVec) (i : Nat) := fel v i
  [fsub (fmul (g a 1) (g b 2)) (fmul (g a 2) (g b 1)), fsub (fmul (g a 2) (g b 0)) (fmul (g a 0) (g b 2)),
   fsub (fmul (g a 0) (g b 1)) (fmul (g a 1) (g b 0))]

/-- Length of a vector. -/
def vnorm (v : FVec) : F64 := fsqrt (fdot v v)

end Sys2Proof.Machine
end

