-- ==== Sys2Proof/Machine/Measure.lean ====
section
/-! DEFINITION. Measurements of a frame as rows against the main filter's prior
(spec/06_position_estimation.md R138 to R147). -/

namespace Sys2Proof.Machine
open Sys2Proof

/-! ## Descriptors (R147) -/

/-- The reference descriptors of an image. -/
def imgRefs (b : List Byte) : List (List Byte) :=
  let x := imgSection b 6
  (List.range (x.length / 32)).map (recAt x 32)

/-- Those of the image in effect. -/
def State.refDescs (s : State) : List (List Byte) := imgRefs s.image

/-- REF. -/
def rfRef (d : List Byte) : Nat := u8 d 0
/-- SOURCE. -/
def rfSource (d : List Byte) : Nat := u8 d 1
/-- ENTRY. -/
def rfEntry (d : List Byte) : Nat := u8 d 2
/-- TARGET. -/
def rfTarget (d : List Byte) : Nat := u8 d 3
/-- Class: 0 position, 1 heading. -/
def rfClass (d : List Byte) : Nat := if rfSource d = 1 ∨ rfSource d = 5 then 1 else 0
/-- The source needs a target or a weight. -/
def rfNeeds (d : List Byte) : Bool := rfSource d == 3 || rfSource d == 4
/-- GATE/100. -/
def rfGate (d : List Byte) : F64 := fq (u16 d 0x10) 100
/-- SIGMA0 in the unit held: m, or rad for the heading class. -/
def rfSigma0 (d : List Byte) : F64 := if rfClass d = 1 then baRad (u32 d 8) else milliF (u32 d 8)
/-- SIGMA1 in the unit held. -/
def rfSigma1 (d : List Byte) : F64 := if rfSource d = 3 then baRad (u32 d 12) else milliF (u32 d 12)

/-- The descriptor of a slot. -/
def State.refDesc (s : State) (r : Nat) : Option (List Byte) := s.refDescs.find? (fun d => rfRef d == r)

/-- What estimation keeps of a slot. -/
def State.refSt (s : State) (r : Nat) : RefSt := vget s.est.refs r RefSt.reset

/-- Replace it. -/
def State.putRef (r : Nat) (x : RefSt) (s : State) : State := s.withEst { s.est with refs := vset s.est.refs r x }

/-! ## Rows (R141) -/

/-- One row of a measurement against the main filter's prior: row of H, innovation, variance. -/
structure Row where
  /-- H'. -/
  h : FVec
  /-- Innovation. -/
  r : F64
  /-- Variance. -/
  v : F64
  deriving DecidableEq, Repr

/-- What rows are formed against: the prior of a frame and what turns sensors into the grid. -/
structure RowCtx where
  /-- Hull. -/
  hull : Hull
  /-- τ. -/
  tau : FVec
  /-- Prior mean of the main filter. -/
  x : FVec
  /-- Prior covariance of the main filter. -/
  p : FMat
  /-- F. -/
  f : FMat
  /-- Device time of the frame tick. -/
  tk : Int
  /-- Roll. -/
  roll : F64
  /-- Pitch. -/
  pitch : F64
  /-- The grid, while it is set and the vessel is within its limit. -/
  grid : Option Tangent
  deriving DecidableEq, Repr

/-- Seconds from a stamp to the frame tick. -/
def RowCtx.lag (c : RowCtx) (stamp : Int) : F64 := fq (c.tk - stamp) 1000000000

/-- The prior referred to a stamp (R141). DEDUCED: the correction makes it x⁻ − f(x⁻)·(T_k − t) (assumption 18). -/
def RowCtx.back (c : RowCtx) (stamp : Int) : FVec :=
  vsub c.x (vscale (c.lag stamp) (c.hull.deriv c.tau c.x))

/-- A row referred to its stamp, with the variance that the stamp's uncertainty adds (R141): the rate of the measured
quantity is that of the states and `ext`, what moves it besides. -/
def RowCtx.row (c : RowCtx) (stamp : Int) (unc : Nat) (h : FVec) (r v ext : F64) : Row :=
  let hf := (List.range 18).map (fun j => fdot h (c.f.map (fun w => fel w j)))
  let zd := fmul (fadd (fdot h (c.hull.deriv c.tau c.x)) ext) (fq unc 10000000)
  { h := vsub h (vscale (c.lag stamp) hf), r := r, v := fadd v (fdiv (fmul zd zd) (ofI 3)) }

/-- A row vector with these elements. -/
def hrow (ps : List (Nat × F64)) : FVec := ps.foldl (fun w p => vput p.1 p.2 w) (List.replicate 18 f0)

/-- A measurement of a linear combination of states. -/
def RowCtx.linear (c : RowCtx) (stamp : Int) (unc : Nat) (h : FVec) (z v : F64) (angle : Bool) : Row :=
  let d := fsub z (fdot h (c.back stamp))
  c.row stamp unc h (if angle then fwrap d else d) v f0

/-- A lever arm on the grid at a state's heading. -/
def RowCtx.leverAt (c : RowCtx) (x : FVec) (q : List Byte) : FVec := bodyToGrid (fel x 2) c.pitch c.roll (quoinLever q)

/-- A lever arm on the grid, at the main filter's prior heading. -/
def RowCtx.lever (c : RowCtx) (q : List Byte) : FVec := c.leverAt c.x q

/-- What a reference gives in a frame. -/
structure RefRows where
  /-- Rows. -/
  rows : List Row
  /-- Its fix. -/
  fixZ : FVec
  /-- Covariance of the fix. -/
  fixV : FMat
  /-- Rows dropped by the row gate. -/
  dropped : Nat
  deriving DecidableEq, Repr

/-- A heading fix: 1 row (R145). -/
def RowCtx.headingFix (c : RowCtx) (r : IntakeRec) (z v : F64) : RefRows :=
  { rows := [c.linear r.stamp r.unc (hrow [(2, f1), (13, f1)]) z v true], fixZ := [z], fixV := [[v]], dropped := 0 }

/-- A position fix with its principal directions: 2 rows (R145). -/
def RowCtx.positionFix (c : RowCtx) (r : IntakeRec) (n e dn de v1 v2 : F64) : RefRows :=
  let dir (a b v : F64) := c.linear r.stamp r.unc (hrow [(0, a), (9, a), (1, b), (11, b)]) (fadd (fmul a n) (fmul b e)) v false
  let cov (a b : F64) (x y : F64) := fadd (fmul (fmul a b) v1) (fmul (fmul x y) v2)
  { rows := [dir dn de v1, dir (fneg de) dn v2], fixZ := [n, e]
    fixV := [[cov dn dn de de, cov dn de (fneg de) dn], [cov dn de (fneg de) dn, cov de de dn dn]], dropped := 0 }

/-- The body azimuth of the antenna baseline. -/
def baselineAzimuth (a b : List Byte) : F64 :=
  let d := vsub (quoinLever b) (quoinLever a)
  fatan2 (fel d 1) (fel d 0)

/-- Horizontal part and bearing of a range–bearing record at a heading. -/
def rangeVector (data : List Byte) (psi yaw : F64) : F64 × F64 :=
  (fmul (milliF (u32 data 4)) (fcos (baRad (i32 data 12))), fadd (fadd psi yaw) (baRad (u32 data 8)))

/-- Horizontal offset of a taut wire on the grid. -/
def wireVector (data : List Byte) (psi yaw : F64) : FVec :=
  let l := milliF (u32 data 0)
  let a := fmul l (fsin (baRad (i32 data 4)))
  let b := fmul l (fsin (baRad (i32 data 8)))
  let c := fcos (fadd psi yaw)
  let n := fsin (fadd psi yaw)
  [fsub (fmul c a) (fmul n b), fadd (fmul n a) (fmul c b)]

/-- The fix that one record of a reference other than an antenna gives, or none when R145 leaves it unused. `qs` are the
quoin entries; `target` is the grid position of the target or weight. -/
def RowCtx.recordFix (c : RowCtx) (d q : List Byte) (qs : List (List Byte)) (target : Option (Int × Int)) (height : F64)
    (r : IntakeRec) : Option RefRows :=
  let b := r.data
  let s0 := rfSigma0 d
  let v0 := fmul s0 s0
  let l := c.lever q
  let psi := fel c.x 2
  let yaw := baRad (i32 q 0x18)
  match rfSource d with
  | 1 =>
    if r.kind = 0x0A ∧ u8 b 0 = 1 ∧ u8 b 1 = 2 then
      match qs.find? (fun x => qnKind x == 3 && qnPort x == 0 && qnMember x == qnMember q),
          qs.find? (fun x => qnKind x == 3 && qnPort x == 1 && qnMember x == qnMember q) with
      | some a0, some a1 =>
        let sd := fmax s0 (baRad (u32 b 0x10))
        some (c.headingFix r (fsub (baRad (u32 b 4)) (baselineAzimuth a0 a1)) (fmul sd sd))
      | _, _ => none
    else none
  | 2 =>
    if r.kind = 3 ∧ (u16 d 0x16 = 0xFFFF ∨ u16 b 0x10 ≤ u16 d 0x16) then
      c.grid.map (fun g =>
        let p := g.toGrid (ecef (baRad (i32 b 0)) (baRad (i32 b 4)) height)
        let sd := fmul s0 (fmax f1 (fq (u16 b 0x0E) 100))
        c.positionFix r (fsub (fel p 0) (fel l 0)) (fsub (fel p 1) (fel l 1)) f1 f0 (fmul sd sd) (fmul sd sd))
    else none
  | 3 =>
    if r.kind = 6 ∧ u8 b 0 = rfTarget d then
      match c.grid, target with
      | some _, some t =>
        let hb := rangeVector b psi yaw
        let cb := fcos hb.2
        let sb := fsin hb.2
        let sx := fmul hb.1 (rfSigma1 d)
        some (c.positionFix r (fsub (fsub (milliF t.1) (fmul hb.1 cb)) (fel l 0)) (fsub (fsub (milliF t.2) (fmul hb.1 sb)) (fel l 1))
          cb sb v0 (fmul sx sx))
      | _, _ => none
    else none
  | 4 =>
    if r.kind = 7 then
      match c.grid, target with
      | some _, some t =>
        let w := wireVector b psi yaw
        some (c.positionFix r (fsub (fsub (milliF t.1) (fel w 0)) (fel l 0)) (fsub (fsub (milliF t.2) (fel w 1)) (fel l 1)) f1 f0 v0 v0)
      | _, _ => none
    else none
  | 5 =>
    if r.kind = 1 ∧ u8 b 4 = 1 then some (c.headingFix r (fsub (baRad (u32 b 0)) yaw) v0) else none
  | _ => none

/-! ## Internal GNSS (R142 to R144) -/

/-- A satellite of an epoch at one antenna, both bands together. -/
structure SatObs where
  /-- 0 GPS, 1 Galileo, 2 BeiDou. -/
  sys : Nat
  /-- Satellite number. -/
  sv : Nat
  /-- Elevation, rad. -/
  el : F64
  /-- Code range after the delays and the smoothing, m. -/
  rho : F64
  /-- Range rate, m/s, where Doppler is valid. -/
  rate : Option F64
  /-- Suspect. -/
  suspect : Bool
  deriving DecidableEq, Repr

/-- System and band of a ranging signal (R107): upper band true. -/
def signalSys (c : Nat) : Option (Nat × Bool) :=
  if c = 1 ∨ c = 2 then some (0, false) else if c = 3 then some (1, false) else if c = 4 then some (2, false)
  else if c = 0x11 then some (0, true) else if c = 0x12 then some (1, true) else if c = 0x13 then some (2, true) else none

/-- Speed of light, m/s. -/
def lightSpeed : F64 := ofI 299792458

/-- Wavelength of a band, m. -/
def bandLambda (upper : Bool) : F64 := fdiv lightSpeed (ofI (if upper then 1176450000 else 1575420000))

/-- Pseudorange of a record, m. -/
def recRange (b : List Byte) : F64 := fscale (ofN (ule b 4 8)) (-16)

/-- Carrier range of a record, m. -/
def recCarrier (b : List Byte) (upper : Bool) : F64 := fmul (fscale (ofI (sext 64 (ule b 12 8))) (-32)) (bandLambda upper)

/-- The combination of two bands free of the ionosphere. -/
def ionoFree (l u : F64) : F64 :=
  fdiv (fsub (fmul (ofI 23716) l) (fmul (ofI 13225) u)) (ofI 10491)

/-- Carrier smoothing of a satellite (R142): the new state and the smoothed code. `window` is 0 for none. -/
def hatchStep (old : Option Hatch) (window : Nat) (rho : F64) (carrier : Option F64) (slip : Nat) : Option Hatch × F64 :=
  match carrier with
  | none => (none, rho)
  | some ph =>
    if window = 0 then (none, rho) else
    match old with
    | some o =>
      if o.slip = slip then
        let n := min (o.count + 1) window
        let sm := fadd (fdiv rho (ofN n)) (fmul (fdiv (ofN (n - 1)) (ofN n)) (fadd o.rho (fsub ph o.phase)))
        (some { rho := sm, phase := ph, slip := slip, count := n }, sm)
      else (some { rho := rho, phase := ph, slip := slip, count := 1 }, rho)
    | none => (some { rho := rho, phase := ph, slip := slip, count := 1 }, rho)

/-- A satellite from its band records `l` and `u`, with its carrier smoothing. -/
def satOf (key sys sv window : Nat) (stamp : Int) (l u : Option (List Byte)) (hs : List (Nat × Hatch)) :
    Option SatObs × List (Nat × Hatch) :=
  let okc (b : Option (List Byte)) : Option (List Byte) := b.filter (fun x => tbit (u8 x 0x1D) 0)
  let carrierOk (x : List Byte) : Bool := tbit (u8 x 0x1D) 1
  let el (x : List Byte) : F64 := fmul (fq (i16 x 0x1E) 18000) fpi
  let trop (e : F64) : F64 := fdiv (fq 23 10) (fsin e)
  let dop (x : List Byte) (up : Bool) : Option F64 :=
    if tbit (u8 x 0x1D) 3 then some (fneg (fmul (fscale (ofI (i32 x 0x14)) (-10)) (bandLambda up))) else none
  match okc l with
  | none => (none, adel key hs)
  | some lb =>
    let two : Option (F64 × Option F64 × Nat × Bool) := (okc u).map (fun ub =>
      (ionoFree (recRange lb) (recRange ub),
       if carrierOk lb && carrierOk ub then some (ionoFree (recCarrier lb false) (recCarrier ub true)) else none,
       65536 + u8 lb 0x1C + 256 * u8 ub 0x1C, tbit (u8 ub 0x1D) 6))
    let one : F64 × Option F64 × Nat × Bool :=
      (fsub (recRange lb) (Config.ionoDelay sys sv stamp), if carrierOk lb then some (recCarrier lb false) else none, u8 lb 0x1C, false)
    let c := two.getD one
    let h := hatchStep (afind key hs) window (fsub c.1 (trop (el lb))) (c.2.1) c.2.2.1
    let hs := match h.1 with
      | some x => aput key x hs
      | none => adel key hs
    let rate := match dop lb false with
      | some x => some x
      | none => u.bind (dop · true)
    (some { sys := sys, sv := sv, el := el lb, rho := h.2, rate := rate, suspect := tbit (u8 lb 0x1D) 6 || c.2.2.2 }, hs)

/-- The satellites of an epoch's records at one antenna, in the order first seen. -/
def epochSats (entry window : Nat) (stamp : Int) (rs : List IntakeRec) (hs : List (Nat × Hatch)) :
    List SatObs × List (Nat × Hatch) :=
  let ids : List (Nat × Nat) := (rs.filterMap (fun r => (signalSys (u8 r.data 1)).map (fun x => (x.1, u8 r.data 2)))).eraseDups
  let find (sys sv : Nat) (up : Bool) : Option (List Byte) :=
    (rs.find? (fun r => signalSys (u8 r.data 1) == some (sys, up) && u8 r.data 2 == sv)).map (·.data)
  ids.foldl (fun acc i =>
    let x := satOf (entry * 65536 + i.1 * 256 + i.2) i.1 i.2 window stamp (find i.1 i.2 false) (find i.1 i.2 true) acc.2
    (match x.1 with
      | some o => acc.1 ++ [o]
      | none => acc.1, x.2)) ([], hs)

/-- The antenna's phase centre on the grid at a state (R142). -/
def phaseCentre (x lever : FVec) : FVec :=
  let n := fel x 0
  let e := fel x 1
  [fadd (fadd n (fel x 9)) (fel lever 0), fadd (fadd e (fel x 11)) (fel lever 1),
   fadd (fdiv (fadd (fmul n n) (fmul e e)) (ofI 12742000)) (fel lever 2)]

/-- Velocity of the antenna's phase centre, level. -/
def centreVelocity (x lever : FVec) : FVec :=
  let c := fcos (fel x 2)
  let n := fsin (fel x 2)
  [fsub (fadd (fsub (fmul (fel x 3) c) (fmul (fel x 4) n)) (fel x 10)) (fmul (fel lever 1) (fel x 5)),
   fadd (fadd (fadd (fmul (fel x 3) n) (fmul (fel x 4) c)) (fel x 12)) (fmul (fel lever 0) (fel x 5)), f0]

/-- Position of a satellite on the grid. -/
def satGrid (g : Tangent) (o : SatObs) (stamp : Int) : FVec :=
  g.toGrid ((List.range 3).map (Config.satPos o.sys o.sv stamp))

/-- Velocity of a satellite on the grid. -/
def satGridVel (g : Tangent) (o : SatObs) (stamp : Int) : FVec :=
  g.turn ((List.range 3).map (Config.satVel o.sys o.sv stamp))

/-- Acceleration of a satellite on the grid. -/
def satGridAcc (g : Tangent) (o : SatObs) (stamp : Int) : FVec :=
  g.turn ((List.range 3).map (Config.satAcc o.sys o.sv stamp))

/-- Line of sight from a point to a satellite: distance and unit vector. -/
def sight (p q : FVec) : F64 × FVec :=
  let d := vsub q p
  let n := vnorm d
  (n, d.map (fdiv · n))

/-- The reference satellite of a constellation: of highest elevation among those not suspect. -/
def refSat (os : List SatObs) : Option SatObs :=
  (os.filter (fun o => !o.suspect)).foldl (fun b o => match b with
    | some x => if flt x.el o.el then some o else b
    | none => some o) none

/-- Code row and Doppler row of a satellite against the reference satellite (R142, R143). -/
def RowCtx.satRows (c : RowCtx) (g : Tangent) (d : FVec) (q : List Byte) (heave : F64) (stamp : Int) (unc : Nat)
    (o s0 : SatObs) : Row × Option Row :=
  let xt := c.back stamp
  let lever := c.leverAt xt q
  let p := phaseCentre xt lever
  let a := sight p (satGrid g o stamp)
  let b := sight p (satGrid g s0 stamp)
  let gr := vsub b.2 a.2
  let sn := fsin (fel xt 2)
  let cs := fcos (fel xt 2)
  let gn := fel gr 0
  let ge := fel gr 1
  let gd := fel gr 2
  let re := ofI 6371000
  let hc := hrow [(0, fadd gn (fdiv (fmul gd (fel xt 0)) re)), (1, fadd ge (fdiv (fmul gd (fel xt 1)) re)), (9, gn), (11, ge),
    (2, fsub (fmul ge (fel lever 0)) (fmul gn (fel lever 1)))]
  let sq (x : F64) := fmul x x
  let inv (e : F64) := fdiv f1 (sq (fsin e))
  let geo (sg : F64) := fmul (sq sg) (fadd (inv o.el) (inv s0.el))
  let mult := if o.suspect then ofI 16 else f1
  let vc := fmul mult (fadd (geo (fel d 0)) (fmul (sq heave) (sq (fsub (fel a.2 2) (fel b.2 2)))))
  let vo := satGridVel g o stamp
  let v0 := satGridVel g s0 stamp
  let code := c.row stamp unc hc (fsub (fsub o.rho s0.rho) (fsub a.1 b.1)) vc (fsub (fdot a.2 vo) (fdot b.2 v0))
  let va := centreVelocity xt lever
  let turn (q : SatObs) (e : F64 × FVec) :=
    let w := vsub (satGridVel g q stamp) va
    fadd (fdot e.2 (satGridAcc g q stamp)) (fdiv (fsub (fdot w w) (sq (fdot e.2 w))) e.1)
  let rr (q : SatObs) (e : FVec) := fdot e (vsub (satGridVel g q stamp) va)
  let u := fel xt 3
  let v := fel xt 4
  let hd := hrow [(2, fadd (fmul gn (fneg (fadd (fmul u sn) (fmul v cs)))) (fmul ge (fsub (fmul u cs) (fmul v sn)))),
    (3, fadd (fmul gn cs) (fmul ge sn)), (4, fsub (fmul ge cs) (fmul gn sn)),
    (5, fsub (fmul ge (fel lever 0)) (fmul gn (fel lever 1))), (10, gn), (12, ge)]
  let dopp := match o.rate, s0.rate with
    | some x, some y => some (c.row stamp unc hd (fsub (fsub x y) (fsub (rr o a.2) (rr s0 b.2))) (fmul mult (geo (fel d 1)))
        (fsub (turn o a) (turn s0 b)))
    | _, _ => none
  (code, dopp)

/-- Row gate against the main filter's prior (R143). -/
def RowCtx.inGate (c : RowCtx) (gate : F64) (r : Row) : Bool :=
  let sd := fadd (fdot r.h (mvec c.p r.h)) r.v
  fle (fmul r.r r.r) (fmul (fmul gate gate) sd)

/-- One Gauss–Newton step of the single-epoch solution in N and E. -/
def lsStep (rowsAt : FVec → List Row) (x : FVec) : FVec × FMat :=
  let rs := rowsAt x
  let sum (f : Row → F64) := (rs.map f).foldl fadd f0
  let w (i j : Nat) := sum (fun r => fdiv (fmul (fel r.h i) (fel r.h j)) r.v)
  let y (i : Nat) := sum (fun r => fdiv (fmul (fel r.h i) r.r) r.v)
  let cov := minv 2 [[w 0 0, w 0 1], [w 1 0, w 1 1]]
  let dx := mvec cov [y 0, y 1]
  (vput 1 (fadd (fel x 1) (fel dx 1)) (vput 0 (fadd (fel x 0) (fel dx 0)) x), cov)

/-- The rows and the single-epoch fix of an antenna's epoch (R142 to R144, R158); no rows where fewer than 3 code rows
remain, and the rows that the gate dropped. The fix solves for N and E alone, from the code rows, at the frame tick, with
the other states at the prior: DESIGN CHOICE (assumption 103). -/
def RowCtx.antennaRows (c : RowCtx) (d q : List Byte) (g : Tangent) (heave gate : F64) (stamp : Int) (unc : Nat)
    (os : List SatObs) : RefRows :=
  let sg : FVec := [rfSigma0 d, rfSigma1 d]
  let rowsAt (c : RowCtx) : List (Row × Option Row) :=
    ([0, 1, 2].map (fun sys =>
      let mine := os.filter (fun o => o.sys == sys)
      if mine.length < 2 then [] else
      match refSat mine with
      | none => []
      | some s0 => (mine.filter (fun o => o.sv != s0.sv)).map (fun o => c.satRows g sg q heave stamp unc o s0))).flatten
  let all := rowsAt c
  let codes := all.map (·.1)
  let dops := all.filterMap (·.2)
  let good := codes.filter (c.inGate gate)
  let goodD := dops.filter (c.inGate gate)
  let ls := (List.range 5).foldl (fun a _ => lsStep (fun x => (rowsAt { c with x := x }).map (·.1)) a.1) (c.x, mid 2)
  let dropped := codes.length + dops.length - good.length - goodD.length
  if good.length < 3 then { rows := [], fixZ := [], fixV := [], dropped := dropped }
  else { rows := good ++ goodD, fixZ := [fel ls.1 0, fel ls.1 1], fixV := ls.2, dropped := dropped }

/-! ## The inertial measurement (R138 to R140) -/

/-- Records that no filter applies (R146): UNSETTLED, TEST_INPUT or SENSOR_INVALID. -/
def IntakeRec.unusable (r : IntakeRec) : Bool := tbit r.flags 0 || tbit r.flags 5 || tbit r.flags 6

/-- Standard gravity, m/s². PRESUMED (assumption 18). -/
def gravity : F64 := fq 980665 100000

/-- The attitude filter and the frame's sums. -/
structure ImuAcc where
  /-- Roll. -/
  roll : F64
  /-- Pitch. -/
  pitch : F64
  /-- Stamp and body rates of the previous usable sample. -/
  last : Option (Int × FVec)
  /-- Sums of f_x, f_y and w_z over the frame. -/
  sums : FVec
  /-- Sum of the stamps less T_k. -/
  lags : Int
  /-- Samples summed. -/
  n : Nat
  deriving DecidableEq, Repr

/-- One usable IMU sample, in the order of R139; it is summed when stamped in the frame from `t0` to `tk`. -/
def imuSample (q : List Byte) (tau : F64) (t0 tk : Int) (a : ImuAcc) (r : IntakeRec) : ImuAcc :=
  let count (i : Nat) := ofI (i32 r.data (4 * i))
  let rot := mtr 3 (quoinRot q)
  let sc (k : Nat) (n : F64) := fdiv (ofN k) n
  let ka := sc (u32 q 0x20) (ofI 1000000000000)
  let kb := sc (u32 q 0x24) (ofI 1000000000)
  let w := mvec rot [fmul ka (count 0), fmul ka (count 1), fmul ka (count 2)]
  let f := mvec rot [fmul kb (count 3), fmul kb (count 4), fmul kb (count 5)]
  let dt := match a.last with
    | some l => fq (r.stamp - l.1) 1000000000
    | none => fq (imuPeriod (qnSet q 0 2)) 1000000000
  let sr := fsin a.roll
  let cr := fcos a.roll
  let level := fadd (fmul sr (fel w 1)) (fmul cr (fel w 2))
  let dRoll := fadd (fel w 0) (fmul level (ftan a.pitch))
  let dPitch := fsub (fmul cr (fel w 1)) (fmul sr (fel w 2))
  let accRoll := fatan2 (fneg (fel f 1)) (fneg (fel f 2))
  let accPitch := fatan2 (fel f 0) (fsqrt (fadd (fmul (fel f 1) (fel f 1)) (fmul (fel f 2) (fel f 2))))
  let upd (x d m : F64) := fadd (fadd x (fmul d dt)) (fdiv (fmul (fsub m x) dt) tau)
  let roll := upd a.roll dRoll accRoll
  let pitch := upd a.pitch dPitch accPitch
  let grav := mvec (mountRot roll pitch f0) [f0, f0, gravity]
  let lever := quoinLever q
  let alpha := match a.last with
    | some l => (vsub w l.2).map (fdiv · dt)
    | none => [f0, f0, f0]
  let acc := vsub (vsub (vadd f grav) (cross alpha lever)) (cross w (cross w lever))
  let lev := mvec (mtr 3 (mountRot roll pitch f0)) acc
  let inFrame := decide (t0 ≤ r.stamp ∧ r.stamp < tk)
  { roll := roll, pitch := pitch, last := some (r.stamp, w)
    sums := if inFrame then vadd a.sums [fel lev 0, fel lev 1, fel w 2] else a.sums
    lags := if inFrame then a.lags + (r.stamp - tk) else a.lags
    n := if inFrame then a.n + 1 else a.n }

/-- The three rows of the inertial measurement (R140). -/
def RowCtx.imuRows (c : RowCtx) (q : List Byte) (a : ImuAcc) : List Row :=
  let n := ofN a.n
  let stamp := c.tk + roundAway a.lags a.n
  let z := a.sums.map (fdiv · n)
  let x := c.back stamp
  let h := c.hull
  let nu := h.nuDot x c.tau
  let fj := h.jacobian x
  let cs := fcos (fel x 2)
  let sn := fsin (fel x 2)
  let aN := h.wave (fel x 9) (fel x 10)
  let aE := h.wave (fel x 11) (fel x 12)
  let w2 := fneg (fmul h.w h.w)
  let lw := fneg (fmul (fmul (ofI 2) h.lam) h.w)
  let at' (i : Nat) (more : List (Nat × F64)) : FVec :=
    more.foldl (fun v p => vput p.1 (fadd (fel v p.1) p.2) v) (fj.getD i [])
  let hx := at' 3 [(4, fneg (fel x 5)), (5, fneg (fel x 4)), (2, fsub (fmul cs aE) (fmul sn aN)),
    (9, fmul cs w2), (10, fmul cs lw), (11, fmul sn w2), (12, fmul sn lw), (15, f1)]
  let hy := at' 4 [(3, fel x 5), (5, fel x 3), (2, fneg (fadd (fmul cs aN) (fmul sn aE))),
    (9, fneg (fmul sn w2)), (10, fneg (fmul sn lw)), (11, fmul cs w2), (12, fmul cs lw), (16, f1)]
  let hz := hrow [(5, f1), (14, f1), (17, f1)]
  let px := fadd (fadd (fsub (fel nu 0) (fmul (fel x 4) (fel x 5))) (fadd (fmul cs aN) (fmul sn aE))) (fel x 15)
  let py := fadd (fadd (fadd (fel nu 1) (fmul (fel x 3) (fel x 5))) (fsub (fmul cs aE) (fmul sn aN))) (fel x 16)
  let sd (y : F64) := fdiv (fmul y y) n
  let va := sd (fq (qnSet q 20 12) 10000)
  let vg := sd (milliDeg (qnSet q 8 12))
  [c.row stamp 1 hx (fsub (fel z 0) px) va f0, c.row stamp 1 hy (fsub (fel z 1) py) va f0,
   c.row stamp 1 hz (fsub (fel z 2) (fdot hz x)) vg f0]

end Sys2Proof.Machine
end

