-- ==== Sys2Proof/Machine/RefState.lean ====
section
/-! DEFINITION. States of references and classes, the carried grid, and what an activation does to the estimator
(spec/06_position_estimation.md R148, R157 to R160, R167, R168, R171, R172; spec/03 R73). -/

namespace Sys2Proof.Machine
open Sys2Proof

/-- Course of the present frame's tick. -/
def State.tickCourse (s : State) : Nat := s.crs.courseCnt - s.crs.course

/-- A reference enters a state (R159): counted from the tick of this frame (R160); event source 21 carries the state and
its cause. A reference that leaves ADMITTED or DISPUTED is noted for the next VOTE (R156). -/
def State.setRef (r st cause : Nat) (s : State) : State :=
  let x := s.refSt r
  let s := s.putRef r { x with
    state := st, cause := cause, readmit := 0, since := s.crs.frame, lastTick := s.tickCourse, by160 := false }
  let s := if x.state = 2 ∧ st ≠ 2 then s.withEst { s.est with left := s.est.left ++ [r] } else s
  s.raise 21 .notice 3 st r [word cause]

/-- What estimation keeps of a class. -/
def State.cls (s : State) (c : Nat) : ClsSt := vget s.est.classes c ClsSt.reset

/-- Replace it. -/
def State.putCls (c : Nat) (x : ClsSt) (s : State) : State := s.withEst { s.est with classes := vset s.est.classes c x }

/-- The slots of a class, in ascending order. -/
def State.refsOf (s : State) (c : Nat) : List Nat :=
  sortBy (fun a b => decide (a ≤ b)) ((s.refDescs.filter (fun d => rfClass d == c)).map rfRef)

/-- Those of a class in a state. -/
def State.refsIn (s : State) (c st : Nat) : List Nat := (s.refsOf c).filter (fun r => (s.refSt r).state == st)

/-- The ADMITTED references of the image, as slots. -/
def State.admitted (s : State) : List Nat := s.refsIn 0 2 ++ s.refsIn 1 2

/-- The quoin entry of a reference is silent (R101). -/
def State.refSilent (s : State) (d : List Byte) : Bool := (s.entrySt (rfEntry d)).silent

/-- The target or weight of a reference has no grid position (R146). -/
def State.refBlind (s : State) (d : List Byte) : Bool := rfNeeds d && (s.refSt (rfRef d)).target.isNone

/-- The state a reference takes when it is enabled (R159, R160). -/
def State.enabledState (s : State) (d : List Byte) : Nat :=
  if s.refBlind d then 5 else if s.refSilent d then 4 else 1

/-- A pair of the class is disputed (R157). -/
def ClsSt.disputed (x : ClsSt) : Bool := !x.pairs.isEmpty

/-- The dispute of a pair ends; event source 22 marked ended (R157). -/
def State.endDispute (c : Nat) (p : Dispute) (s : State) : State :=
  (s.putCls c { s.cls c with pairs := (s.cls c).pairs.filter (fun q => q.a != p.a || q.b != p.b) }).raise 22 .alarm 1 0 p.a []

/-- The pairs of a class of which a reference is one. -/
def State.pairsOf (s : State) (c r : Nat) : List Dispute := (s.cls c).pairs.filter (fun p => p.a == r || p.b == r)

/-- The other of a pair. -/
def Dispute.other (p : Dispute) (r : Nat) : Nat := if p.a = r then p.b else p.a

/-! ## The grid (R148) -/

/-- The tangent frame in use. -/
def State.tangent (s : State) : Option Tangent := s.est.origin.map tangentOf

/-- The grid as position references use it: none before an origin and beyond 25 km (R148). -/
def State.refGrid (s : State) : Option Tangent := if s.est.gridLevel = 2 then none else s.tangent

/-- A filter carried into a new grid: its position, and the N–E block of its covariance turned by the rotation about
down between the frames. -/
def carryFilt (a b : Tangent) (f : Filt) : Filt :=
  let p := carryGrid a b (fel f.mean 0) (fel f.mean 1)
  let north := b.turn (a.axes.getD 0 [])
  let g := fatan2 (fel north 1) (fel north 0)
  let c := fcos g
  let n := fsin g
  let q (i j : Nat) := mel f.cov i j
  let two (x : F64) := fmul (ofI 2) x
  let cc := fmul c c
  let nn := fmul n n
  let cn := fmul c n
  let v00 := fadd (fsub (fmul cc (q 0 0)) (two (fmul cn (q 0 1)))) (fmul nn (q 1 1))
  let v11 := fadd (fadd (fmul nn (q 0 0)) (two (fmul cn (q 0 1)))) (fmul cc (q 1 1))
  let v01 := fadd (fmul cn (fsub (q 0 0) (q 1 1))) (fmul (fsub cc nn) (q 0 1))
  { mean := vput 1 p.2 (vput 0 p.1 f.mean)
    cov := mof 18 18 (fun i j =>
      if i = 0 ∧ j = 0 then v00 else if i = 1 ∧ j = 1 then v11 else if i < 2 ∧ j < 2 then v01 else mel f.cov i j) }

/-- The history is cleared (R164). -/
def State.clearHistory (s : State) : State := s.withEst { s.est with history := [], histFrom := s.devTime }

/-- What the part holds is carried into a new grid: position states, targets and weights, track and berth. -/
def State.carryAll (a b : Tangent) (s : State) : State :=
  let mm (n e : Int) : Int × Int := carryMm a b n e
  let ref (x : RefSt) : RefSt := { x with target := x.target.map (fun t => mm t.1 t.2) }
  let way (w : Waypoint) : Waypoint := { w with n := (mm w.n w.e).1, e := (mm w.n w.e).2 }
  let berth (x : Int × Int × Word × Nat) : Int × Int × Word × Nat := ((mm x.1 x.2.1).1, (mm x.1 x.2.1).2, x.2.2)
  let s := s.withEst { s.est with filters := s.est.filters.map (carryFilt a b), refs := s.est.refs.map ref }
  s.withCtl { s.ctl with track := s.ctl.track.map way, berth := s.ctl.berth.map berth }

/-- GRID_ORIGIN takes effect: what the part holds is carried into the new grid, the history is cleared, event source 29
is raised (R148). -/
def State.setOrigin (o : Word × Word × Word) (s : State) : State :=
  let s1 := match s.tangent with
    | none => s
    | some a => s.carryAll a (tangentOf o)
  ((s1.withEst { s1.est with origin := some o }).clearHistory).raise 29 .notice 0 0 noIndex []

/-- Event source 27 when the vessel passes 20 km, a warning, or 25 km from the origin (R148, R173). The distance is judged at
each VOTE, and the level falls again without an event: DESIGN CHOICE (assumption 73). -/
def State.gridRadius (s : State) : State :=
  match s.est.filters with
  | [] => s
  | f :: _ =>
    if s.est.origin.isNone then s else
    let d := fsqrt (fadd (fmul (fel f.mean 0) (fel f.mean 0)) (fmul (fel f.mean 1) (fel f.mean 1)))
    let l := if flt (ofI 25000) d then 2 else if flt (ofI 20000) d then 1 else 0
    let old := s.est.gridLevel
    let s := s.withEst { s.est with gridLevel := l }
    let s := if old < 1 ∧ 1 ≤ l then s.raise 27 .warning 0 0 noIndex [] else s
    if old < 2 ∧ l = 2 then s.raise 27 .notice 0 0 noIndex [] else s

/-! ## Start and activations (R158, R167, R171, R172, R73) -/

/-- The filters start: means 0 or the seed of a restored state, covariances the initial ones; the history is empty and
every class is in bootstrap (R158, R164, R167). A seed gives all 18 means: DESIGN CHOICE (assumption 105). -/
def State.startFilters (seed : Option EstSeed) (s : State) : State :=
  let mean := match seed with
    | some x => x.mean
    | none => List.replicate 18 f0
  let f : Filt := { mean := mean, cov := initialCov (s.sect 2) }
  s.withEst { s.est with
    filters := List.replicate 17 f, frame := s.crs.frame - 1, fresh := true, history := [], histFrom := s.devTime
    classes := Vector.replicate 2 ClsSt.reset, left := [], failed := [], work := []
    roll := (seed.map (·.roll)).getD s.est.roll, pitch := (seed.map (·.pitch)).getD s.est.pitch
    imuCur := seed.bind (·.imu)
    imuGood := 0, imuHad := false, imuLost := false, attOn := false, lateWork := [], imuLast := none, hatch := [], seeded := seed.isSome
    carry := [], consumed := true }

/-- A reference of an image that had no such slot, or after a start. -/
def State.newRef (cause : Nat) (d : List Byte) (s : State) : State :=
  let r := rfRef d
  let s := s.putRef r { RefSt.reset with changed := s.devTime }
  s.setRef r (if tbit (u8 d 4) 0 then (if rfNeeds d then 5 else 1) else 0) cause

/-- A slot of both images: its position falls with a changed SOURCE or TARGET (R172), it is disabled where FLAGS bit 0 is
clear, and an ADMITTED reference whose descriptor or quoin entry changed leaves the vote (R73, R159). -/
def State.keptRef (cause : Nat) (od nd oq nq : List Byte) (s : State) : State :=
  let r := rfRef nd
  let moved := decide (rfSource od ≠ rfSource nd ∨ rfTarget od ≠ rfTarget nd)
  let changed := od != nd || oq != nq
  let s := s.putRef r { s.refSt r with
    target := if moved then none else (s.refSt r).target
    changed := if changed then s.devTime else (s.refSt r).changed }
  let st := (s.refSt r).state
  if tbit (u8 nd 4) 0 = false then (if st = 0 then s else s.setRef r 0 cause)
  else
    let s := if st = 2 ∧ changed then s.setRef r 1 cause else s
    let st := (s.refSt r).state
    if st ≠ 0 ∧ st ≠ 5 ∧ s.refBlind nd then s.setRef r 5 cause
    else if st = 5 ∧ s.refBlind nd = false then s.setRef r 1 cause
    else s

/-- What an activation does to the references: `old` is the image that was in effect, `start` the first activation
after start-up. A slot that the new image does not use is disabled and leaves the vote (R159, R172). -/
def State.activateRefs (old : List Byte) (start : Bool) (s : State) : State :=
  let cause := if start then 6 else 5
  let olds := imgRefs old
  let gone := olds.filter (fun d => (s.refDesc (rfRef d)).isNone)
  let s := gone.foldl (fun s d =>
    let r := rfRef d
    let s := if (s.refSt r).state = 0 then s else s.setRef r 0 cause
    s.putRef r RefSt.reset) s
  let qOf (b : List Byte) (d : List Byte) : List Byte := ((imgQuoins b).find? (fun q => qnEntry q == rfEntry d)).getD []
  s.refDescs.foldl (fun s d =>
    match olds.find? (fun o => rfRef o == rfRef d) with
    | some o => if start then s.newRef cause d else s.keptRef cause o d (qOf old o) (qOf s.image d)
    | none => s.newRef cause d) s

end Sys2Proof.Machine
end

