-- ==== Sys2Proof/Machine/Solver.lean ====
section
/-! DEFINITION. What a lane computes, bit for bit: block arithmetic, LDLᵀ, the quadratic programme, the covariance
step, the residual checks and the solve times (spec/09_voussoir_solver_array.md R236 to R255, R585). -/

namespace Sys2Proof.Machine
open Sys2Proof

/-! ## Block arithmetic (R236 to R238) -/

/-- Why a problem stops before its end. -/
inductive Halt where
  /-- OVERFLOW (R238). -/
  | overflow
  /-- OVERFLOW after the ridge retry (R244). -/
  | overflowRidged
  /-- A pivot of this index at or below PFLOOR (R244). -/
  | pivot (j : Nat)
  /-- SINGULAR (R244). -/
  | singular
  /-- INFEASIBLE_START (R248). -/
  | infeasible
  deriving DecidableEq, Repr

/-- The same stop once the ridge retry has been used. -/
def Halt.ridged : Halt → Halt
  | .overflow => .overflowRidged
  | h => h

/-- A computation after the ridge retry was used, or not. -/
def afterRidge {α : Type} (used : Bool) (x : Except Halt α) : Except Halt α := match x with
  | .error h => .error (if used then h.ridged else h)
  | .ok a => .ok a

/-- A value that fits 32 bits, or OVERFLOW (R238). -/
def fit32 (v : Int) : Except Halt Int :=
  if -2147483648 ≤ v ∧ v ≤ 2147483647 then .ok v else .error .overflow

/-- The exact value of an accumulation, `prods` a sum of products and `adds` a sum of block values, rounded to a block
value (R237, R585). -/
def roundBlock (e prods adds : Int) : Int :=
  if e ≤ 30 then roundAway (prods + adds * (2 ^ (30 - e).toNat : Nat)) (2 ^ (30 - e).toNat)
  else prods * (2 ^ (e - 30).toNat : Nat) + adds

/-- Re-quantisation (R237, R238). -/
def requant (e prods adds : Int) : Except Halt Int := fit32 (roundBlock e prods adds)

/-- The quotient of two block values (R237, R238). -/
def quotient (e a b : Int) : Except Halt Int :=
  let num := if b < 0 then -a else a
  fit32 (if e ≤ 30 then roundAway (num * (2 ^ (30 - e).toNat : Nat)) b.natAbs
    else roundAway num (b.natAbs * 2 ^ (e - 30).toNat))

/-- The exact sum of products. -/
def dot : List Int → List Int → Int
  | x :: xs, y :: ys => x * y + dot xs ys
  | _, _ => 0

/-- An element of a list of numbers, 0 outside it. -/
def el (l : List Int) (i : Nat) : Int := l.getD i 0

/-- A row of a matrix. -/
def rowOf (m : List (List Int)) (i : Nat) : List Int := m.getD i []

/-- A column of a matrix. -/
def colOf (m : List (List Int)) (j : Nat) : List Int := m.map (fun r => el r j)

/-- Element (i, j) of a symmetric matrix packed as its upper triangle by columns (R242). -/
def packedAt (a : List Int) (i j : Nat) : Int :=
  if i ≤ j then el a (j * (j + 1) / 2 + i) else el a (i * (i + 1) / 2 + j)

/-- The rows of a packed symmetric matrix of `n` rows. -/
def unpack (n : Nat) (a : List Int) : List (List Int) :=
  (List.range n).map (fun i => (List.range n).map (fun j => packedAt a i j))

/-- The packed upper triangle of a matrix. -/
def pack (n : Nat) (m : List (List Int)) : List Int :=
  ((List.range n).map (fun j => (List.range (j + 1)).map (fun i => el (rowOf m i) j))).flatten

/-- Rows of `n` from a list. -/
def rowsOf (n m : Nat) (a : List Int) : List (List Int) := (List.range m).map (fun i => (a.drop (n * i)).take n)

/-- One as a block value (R237). -/
def blockOne (e : Int) : Int := if e ≤ 30 then ((2 ^ (30 - e).toNat : Nat) : Int) else 0

/-! ## LDLᵀ (R244, R585) -/

/-- A factor: the rows of L below the unit diagonal, and the pivots. -/
structure Ldl where
  /-- Row i holds l_i0 to l_i(i-1). -/
  l : List (List Int)
  /-- The pivots. -/
  d : List Int
  deriving DecidableEq, Repr

/-- Column `j` of the rows below: from rows of (w, l) so far, the rows with column j added. -/
def ldlColumn (e : Int) (a : List (List Int)) (j dj : Int) (jn : Nat) (lj : List Int) :
    Nat → List (List Int × List Int) → Except Halt (List (List Int × List Int))
  | _, [] => .ok []
  | i, (w, l) :: r => do
    let wij ← requant e (-(dot lj w)) (el (rowOf a i) jn)
    let lij ← quotient e wij dj
    let rest ← ldlColumn e a j dj jn lj (i + 1) r
    .ok ((w ++ [wij], l ++ [lij]) :: rest)

/-- The factorisation, column by column; a pivot at or below the floor stops it (R244). -/
def ldlGo (e floor : Int) (a : List (List Int)) : Nat → Nat → List (List Int × List Int) → Except Halt Ldl
  | 0, _, _ => .ok { l := [], d := [] }
  | _, _, [] => .ok { l := [], d := [] }
  | f + 1, j, (w, l) :: r => do
    let d ← requant e (-(dot l w)) (el (rowOf a j) j)
    if d ≤ floor then .error (.pivot j) else
    let below ← ldlColumn e a j d j l (j + 1) r
    let rest ← ldlGo e floor a f (j + 1) below
    .ok { l := l :: rest.l, d := d :: rest.d }

/-- LDLᵀ of a symmetric matrix. -/
def ldl (e floor : Int) (a : List (List Int)) : Except Halt Ldl :=
  ldlGo e floor a a.length 0 (a.map (fun _ => ([], [])))

/-- The matrix with `r` added to diagonal element `j`. -/
def addDiag (j : Nat) (r : Int) (a : List (List Int)) : List (List Int) :=
  a.zipIdx.map (fun p => if p.2 = j then p.1.zipIdx.map (fun q => if q.2 = j then q.1 + r else q.1) else p.1)

/-- A factorisation with the one ridge retry of a problem: `used` before, and after. -/
def ldlRidge (e floor ridge : Int) (used : Bool) (a : List (List Int)) : Except Halt (Ldl × Bool) :=
  match ldl e floor a with
  | .ok f => .ok (f, used)
  | .error (.pivot j) =>
    if used then .error .singular
    else match ldl e floor (addDiag j ridge a) with
      | .ok f => .ok (f, true)
      | .error (.pivot _) => .error .singular
      | .error h => .error h.ridged
  | .error h => .error (if used then h.ridged else h)

/-- Forward substitution with L, ascending (R585). -/
def forwardGo (e : Int) : List (List Int) → List Int → List Int → Except Halt (List Int)
  | l :: ls, v :: vs, z => do
    let x ← requant e (-(dot l z)) v
    forwardGo e ls vs (z ++ [x])
  | _, _, z => .ok z

/-- Forward substitution. -/
def forwardSub (e : Int) (f : Ldl) (v : List Int) : Except Halt (List Int) := forwardGo e f.l v []

/-- Division by the pivots. -/
def divideD (e : Int) : List Int → List Int → Except Halt (List Int)
  | z :: zs, d :: ds => do
    let q ← quotient e z d
    let r ← divideD e zs ds
    .ok (q :: r)
  | _, _ => .ok []

/-- Back substitution with Lᵀ, descending: `i` elements remain, `x` holds those after them. -/
def backGo (e : Int) (l : List (List Int)) (y : List Int) : Nat → List Int → Except Halt (List Int)
  | 0, x => .ok x
  | i + 1, x => do
    let below := (l.drop (i + 1)).map (fun r => el r i)
    let v ← requant e (-(dot below x)) (el y i)
    backGo e l y i (v :: x)

/-- Back substitution. -/
def backSub (e : Int) (f : Ldl) (y : List Int) : Except Halt (List Int) := backGo e f.l y f.d.length []

/-- The solution of L·D·Lᵀ·x = v, in three steps (R585). -/
def ldlSolve (e : Int) (f : Ldl) (v : List Int) : Except Halt (List Int) := do
  backSub e f (← divideD e (← forwardSub e f v) f.d)

/-! ## The working-set factor (R245, R585) -/

/-- The elements a_j·z for the constraints of W, in W order. -/
def dotRows (e : Int) (a : List (List Int)) (z : List Int) : List Nat → Except Halt (List Int)
  | [] => .ok []
  | j :: r => do
    let v ← requant e (dot (rowOf a j) z) 0
    let rest ← dotRows e a z r
    .ok (v :: rest)

/-- The quotients of two lists. -/
def quotients (e : Int) : List Int → List Int → Except Halt (List Int) := divideD e

/-- Constraint `i` bordered as the last of W: the grown factor and its new pivot; `ridge` is added to s_ii. -/
def border (e : Int) (h : Ldl) (a : List (List Int)) (w : List Nat) (s : Ldl) (i : Nat) (ridge : Int) :
    Except Halt (Ldl × Int) := do
  let ai := rowOf a i
  let z ← ldlSolve e h ai
  let sj ← dotRows e a z w
  let sii ← requant e (dot ai z) 0
  let sii ← fit32 (sii + ridge)
  let wv ← forwardSub e s sj
  let lv ← quotients e wv s.d
  let d ← requant e (-(dot lv wv)) sii
  .ok ({ l := s.l ++ [lv], d := s.d ++ [d] }, d)

/-- S factored from scratch, with the ridge on the constraint at place `r` of W; a failed pivot is the second (R245). -/
def refactor (e floor ridge : Int) (h : Ldl) (a : List (List Int)) (r : Nat) :
    List Nat → List Nat → Ldl → Except Halt Ldl
  | [], _, s => .ok s
  | i :: rest, w, s => do
    let b ← border e h a w s i (if w.length = r then ridge else 0)
    if b.2 ≤ floor then .error .singular else refactor e floor ridge h a r rest (w ++ [i]) b.1

/-- One column of the rank-one update: from the rows after j, (w_r, the row's l from j on): new w and new l_rj. -/
def updateColumn (e pi beta : Int) (j : Nat) : List (Int × List Int) → Except Halt (List (Int × List Int))
  | [] => .ok []
  | (wr, l) :: r => do
    let w ← requant e (-(pi * el l j)) wr
    let v ← requant e (beta * w) (el l j)
    let rest ← updateColumn e pi beta j r
    .ok ((w, l.set j v) :: rest)

/-- The rank-one update of the factor after the removed pivot (R585): rows of (w_j, row of L with the removed column
taken out), pivots, and t. The new rows and pivots; a pivot at or below the floor stops with its place. -/
def updateGo (e floor : Int) : Nat → Nat → Int → List (Int × List Int) → List Int → Except Halt (List (List Int) × List Int)
  | 0, _, _, _, _ => .ok ([], [])
  | f + 1, j, t, (w, l) :: rest, d :: ds => do
    let tp ← requant e (t * w) 0
    let dn ← requant e (tp * w) d
    if dn ≤ floor then .error (.pivot j) else
    let beta ← quotient e tp dn
    let td ← requant e (t * d) 0
    let tn ← quotient e td dn
    let below ← updateColumn e w beta j rest
    let r ← updateGo e floor f (j + 1) tn below ds
    .ok (l :: r.1, dn :: r.2)
  | _, _, _, _, _ => .ok ([], [])

/-- Constraint at place `q` removed from the factor (R585). -/
def removeAt (e floor : Int) (s : Ldl) (q : Nat) : Except Halt Ldl := do
  let after := (s.l.drop (q + 1)).map (fun l => (el l q, l.eraseIdx q))
  let r ← updateGo e floor after.length q (el s.d q) after (s.d.drop (q + 1))
  .ok { l := s.l.take q ++ r.1, d := s.d.take q ++ r.2 }

/-! ## The quadratic programme (R246 to R250) -/

/-- The numbers of a kind 2 problem. -/
structure Qp where
  /-- BEXP. -/
  e : Int
  /-- H. -/
  h : List (List Int)
  /-- g. -/
  g : List Int
  /-- A. -/
  a : List (List Int)
  /-- b. -/
  b : List Int
  /-- x_safe. -/
  safe : List Int
  /-- PFLOOR. -/
  floor : Int
  /-- RIDGE. -/
  ridge : Int
  /-- FEAS_TOL. -/
  feas : Int
  /-- RES_TOL. -/
  res : Int
  /-- STEP_TOL. -/
  step : Int
  deriving DecidableEq, Repr

/-- Where the iteration stands. -/
structure QpSt where
  /-- x. -/
  x : List Int
  /-- W, in order of addition. -/
  w : List Nat
  /-- The factor S. -/
  s : Ldl
  /-- The ridge retry is used. -/
  used : Bool
  deriving DecidableEq, Repr

/-- a_i·x − b_i as a block value. -/
def Qp.slackOf (q : Qp) (x : List Int) (i : Nat) : Except Halt Int := requant q.e (dot (rowOf q.a i) x) (-(el q.b i))

/-- Every constraint holds within FEAS_TOL. -/
def Qp.feasible (q : Qp) (x : List Int) : List Nat → Except Halt Bool
  | [] => .ok true
  | i :: r => do
    let v ← q.slackOf x i
    if v ≤ q.feas then q.feasible x r else .ok false

/-- The constraint numbers. -/
def Qp.rows (q : Qp) : List Nat := List.range q.a.length

/-- A point between x_safe and x_w at the block value `t`: each element one accumulation of t·(x_w − x_safe) and
x_safe. -/
def blendPoint (e t : Int) : List Int → List Int → Except Halt (List Int)
  | s :: ss, p :: ps => do
    let v ← requant e (t * p) s
    let r ← blendPoint e t ss ps
    .ok (v :: r)
  | _, _ => .ok []

/-- The least quotient of R249 over the constraints that the way to x_w crosses: (b_i + FEAS_TOL − a_i·x_safe) / (a_i·p). -/
def Qp.leastStep (q : Qp) (p : List Int) : List Nat → Option Int → Except Halt (Option Int)
  | [], t => .ok t
  | i :: r, t => do
    let s ← requant q.e (dot (rowOf q.a i) p) 0
    if s ≤ 0 then q.leastStep p r t else
    let room ← requant q.e (-(dot (rowOf q.a i) q.safe)) (el q.b i + q.feas)
    let room := max room 0
    if room ≥ s then q.leastStep p r t else
    let v ← quotient q.e room s
    q.leastStep p r (some (match t with
      | some u => min u v
      | none => v))

/-- The largest step at or below `t` at which every constraint holds as computed, one count down at a time. -/
def Qp.lowerStep (q : Qp) (p : List Int) : Nat → Int → Except Halt (List Int)
  | 0, _ => .ok q.safe
  | f + 1, t => do
    if t ≤ 0 then .ok q.safe else
    let x ← blendPoint q.e t q.safe p
    if ← q.feasible x q.rows then .ok x else q.lowerStep p f (t - 1)

/-- The start point: x_w, or the largest feasible step from x_safe towards it (R249). -/
def Qp.start (q : Qp) (xw : List Int) : Except Halt (List Int) := do
  if ← q.feasible xw q.rows then .ok xw else
  let p := (xw.zip q.safe).map (fun y => y.1 - y.2)
  match ← q.leastStep p q.rows none with
  | some t => q.lowerStep p (t.toNat + 1) t
  | none => q.lowerStep p ((blockOne q.e).toNat + 1) (blockOne q.e)

/-- The starting working set: listed constraints active at the point, ascending; one whose pivot fails is left out
(R245, R249). -/
def Qp.startSet (q : Qp) (h : Ldl) (x : List Int) (listed : List Nat) : List Nat → QpSt → Except Halt QpSt
  | [], st => .ok st
  | i :: r, st => do
    if listed.contains i = false then q.startSet h x listed r st else
    let v ← q.slackOf x i
    if v < -q.feas ∨ q.feas < v then q.startSet h x listed r st else
    let b ← border q.e h q.a st.w st.s i 0
    if b.2 ≤ q.floor then q.startSet h x listed r st
    else q.startSet h x listed r { st with w := st.w ++ [i], s := b.1 }

/-- A constraint joins W, with the one ridge retry (R245). -/
def Qp.addTo (q : Qp) (h : Ldl) (st : QpSt) (i : Nat) : Except Halt QpSt := do
  let b ← border q.e h q.a st.w st.s i 0
  if b.2 > q.floor then .ok { st with w := st.w ++ [i], s := b.1 }
  else if st.used then .error .singular
  else
    let s ← afterRidge true (refactor q.e q.floor q.ridge h q.a st.w.length (st.w ++ [i]) [] { l := [], d := [] })
    .ok { st with w := st.w ++ [i], s := s, used := true }

/-- The constraint at a place of W leaves it, with the one ridge retry (R245). -/
def Qp.removeFrom (q : Qp) (h : Ldl) (st : QpSt) (k : Nat) : Except Halt QpSt :=
  let w := st.w.eraseIdx k
  match removeAt q.e q.floor st.s k with
  | .ok s => .ok { st with w := w, s := s }
  | .error (.pivot j) =>
    if st.used then .error .singular
    else do
      let s ← afterRidge true (refactor q.e q.floor q.ridge h q.a j w [] { l := [], d := [] })
      .ok { st with w := w, s := s, used := true }
  | .error e => .error e

/-- gk = H·x + g. -/
def Qp.gradient (q : Qp) (x : List Int) : List (List Int) → List Int → Except Halt (List Int)
  | r :: rs, g :: gs => do
    let v ← requant q.e (dot r x) g
    let rest ← q.gradient x rs gs
    .ok (v :: rest)
  | _, _ => .ok []

/-- The multipliers of W at x, with gk (R246, R585). -/
def Qp.multipliers (q : Qp) (h : Ldl) (st : QpSt) : Except Halt (List Int × List Int) := do
  let gk ← q.gradient st.x q.h q.g
  let u ← ldlSolve q.e h gk
  let c ← dotRows q.e (q.a.map (fun r => r.map (fun v => -v))) u st.w
  let lam ← ldlSolve q.e st.s c
  .ok (gk, lam)

/-- v = gk + A_Wᵀ·λ_W, one accumulation for each element. -/
def Qp.combine (q : Qp) (w : List Nat) (lam : List Int) : Nat → List Int → Except Halt (List Int)
  | _, [] => .ok []
  | j, g :: gs => do
    let v ← requant q.e (dot (w.map (fun i => el (rowOf q.a i) j)) lam) g
    let rest ← q.combine w lam (j + 1) gs
    .ok (v :: rest)

/-- The most negative multiplier below −RES_TOL; of equal ones the lowest constraint: its place in W. -/
def worstPlace (tol : Int) (w : List Nat) (lam : List Int) : Option Nat :=
  ((w.zip lam).zipIdx.foldl (fun (m : Option (Int × Nat × Nat)) p =>
    let i := p.1.1
    let l := p.1.2
    if l ≥ -tol then m
    else match m with
      | some (ml, mi, _) => if l < ml ∨ (l = ml ∧ i < mi) then some (l, i, p.2) else m
      | none => some (l, i, p.2)) none).map (fun m => m.2.2)

/-- The opposite bound of a variable whose bound is in W: the two are never both in W at once (R246). -/
def Qp.opposed (q : Qp) (w : List Nat) (i : Nat) : Bool :=
  let one (r : List Int) : Bool := (r.filter (· != 0)).length == 1
  one (rowOf q.a i) && w.any (fun j => (rowOf q.a j).map (fun v => -v) == rowOf q.a i)

/-- The blocking constraint of a step: constraint, r, s (R246). -/
def Qp.blocker (q : Qp) (st : QpSt) (p : List Int) : List Nat → Option (Nat × Int × Int) → Except Halt (Option (Nat × Int × Int))
  | [], m => .ok m
  | i :: rest, m => do
    if st.w.contains i ∨ q.opposed st.w i then q.blocker st p rest m else
    let s ← requant q.e (dot (rowOf q.a i) p) 0
    if s ≤ 0 then q.blocker st p rest m else
    let r ← requant q.e (-(dot (rowOf q.a i) st.x)) (el q.b i)
    let r := max r 0
    let better := match m with
      | none => decide (r < s)
      | some (_, rb, sb) => decide (r * sb < rb * s)
    q.blocker st p rest (if better then some (i, r, s) else m)

/-- x + α·p, for a full step or for α = r / s (R246). -/
def stepPoint (alpha : Option (Int × Int)) : List Int → List Int → Except Halt (List Int)
  | x :: xs, p :: ps => do
    let d := match alpha with
      | some (r, s) => roundAway (r * p) s.natAbs
      | none => p
    let v ← fit32 (x + d)
    let rest ← stepPoint alpha xs ps
    .ok (v :: rest)
  | _, _ => .ok []

/-- How the iteration ended: the point, the multipliers, the passes, and whether the stop was optimal. -/
structure QpEnd where
  /-- Where it stands. -/
  st : QpSt
  /-- λ_W in W order. -/
  lam : List Int
  /-- ITER. -/
  iter : Nat
  /-- Optimal stop. -/
  optimal : Bool
  deriving DecidableEq, Repr

/-- One pass of the iteration that starts at `st` after `k` passes: the end of an optimal stop, or the next state. -/
def Qp.pass (q : Qp) (h : Ldl) (k : Nat) (st : QpSt) : Except Halt (Option QpEnd × QpSt) := do
  let m ← q.multipliers h st
  let v ← q.combine st.w m.2 0 m.1
  let u ← ldlSolve q.e h v
  let p := u.map (fun y => -y)
  if p.all (fun y => decide (y.natAbs ≤ q.step.natAbs)) then
    match worstPlace q.res st.w m.2 with
    | none => .ok (some { st := st, lam := m.2, iter := k + 1, optimal := true }, st)
    | some place => do
      let st ← q.removeFrom h st place
      .ok (none, st)
  else
    match ← q.blocker st p q.rows none with
    | none => do
      let x ← stepPoint none st.x p
      .ok (none, { st with x := x })
    | some (i, r, s) => do
      let x ← stepPoint (some (r, s)) st.x p
      let st ← q.addTo h { st with x := x } i
      .ok (none, st)

/-- The iteration (R246, R247): a budget of passes, the passes done. A stop carries the passes it has counted. -/
def Qp.iterate (q : Qp) (h : Ldl) : Nat → Nat → QpSt → Except (Halt × Nat) QpEnd
  | 0, k, st => match afterRidge st.used (q.multipliers h st) with
    | .ok m => .ok { st := st, lam := m.2, iter := k, optimal := false }
    | .error e => .error (e, k)
  | f + 1, k, st => match afterRidge st.used (q.pass h k st) with
    | .ok (some r, _) => .ok r
    | .ok (none, st) => q.iterate h f (k + 1) st
    | .error e => .error (e, k + 1)

/-- A warm start as the lane takes it: x_w, the listed W, and the budget. -/
structure WarmPlan where
  /-- x_w; none for a cold start. -/
  x : Option (List Int)
  /-- Listed constraints. -/
  w : List Nat
  /-- Budget. -/
  budget : Nat
  /-- MAPPED of the header. -/
  mapped : Nat
  /-- The status bits COLD and WARM_MAPPED. -/
  bits : Nat
  deriving DecidableEq, Repr

/-- What precedes the iteration: x_safe is feasible, H is factored, the starting point and working set (R248, R249). -/
def Qp.begin (q : Qp) (plan : WarmPlan) : Except Halt (Ldl × QpSt) := do
  if ← q.feasible q.safe q.rows then
    let f ← ldlRidge q.e q.floor q.ridge false q.h
    let x ← afterRidge f.2 (match plan.x with
      | some xw => q.start xw
      | none => .ok q.safe)
    let st ← afterRidge f.2 (q.startSet f.1 x (if plan.x.isSome then plan.w else []) q.rows
      { x := x, w := [], s := { l := [], d := [] }, used := f.2 })
    .ok (f.1, st)
  else .error .infeasible

/-- A quadratic programme from its plan: how it ended and the factor of H, or why it stopped after how many passes. -/
def Qp.run (q : Qp) (plan : WarmPlan) : Except (Halt × Nat) (QpEnd × Ldl) :=
  match q.begin plan with
  | .error e => .error (e, 0)
  | .ok (h, st) => match q.iterate h plan.budget 0 st with
    | .ok r => .ok (r, h)
    | .error e => .error e

/-! ## Residual checks (R253) -/

/-- A residual as the checker holds it: a block value, saturated. -/
def checkVal (e prods adds : Int) : Int := max (-2147483648) (min 2147483647 (roundBlock e prods adds))

/-- λ of constraint `i`, 0 outside W. -/
def lamOf (w : List Nat) (lam : List Int) (i : Nat) : Int :=
  match w.findIdx? (· == i) with
  | some k => el lam k
  | none => 0

/-- The residual vector H·x + g + A_Wᵀ·λ_W. -/
def Qp.residual (q : Qp) (r : QpEnd) : List Int :=
  (List.range q.h.length).map (fun j =>
    checkVal q.e (dot (rowOf q.h j) r.st.x + dot (r.st.w.map (fun i => el (rowOf q.a i) j)) r.lam) (el q.g j))

/-- The test of a kind 2 result (R253). -/
def Qp.check (q : Qp) (r : QpEnd) (h : Ldl) : Bool :=
  let slack (i : Nat) : Int := checkVal q.e (dot (rowOf q.a i) r.st.x) (-(el q.b i))
  let primal := q.rows.all (fun i => decide (slack i ≤ q.feas))
  let comp := r.st.w.all (fun i => decide ((slack i).natAbs ≤ q.feas.natAbs))
  let res := q.residual r
  if r.optimal then
    primal && comp && res.all (fun v => decide (v.natAbs ≤ q.res.natAbs)) && r.lam.all (fun l => decide (-q.res ≤ l))
  else
    primal && comp && (match ldlSolve q.e h res with
      | .ok z => r.st.w.all (fun i => decide ((checkVal q.e (dot (rowOf q.a i) z) 0).natAbs ≤ q.res.natAbs))
      | .error _ => false)

/-! ## Whole problems -/

/-- What a lane and the checker make of a problem. -/
structure Sol where
  /-- Outcome of R254. -/
  outcome : Nat
  /-- Flags of the status byte. -/
  flags : Nat
  /-- ITER. -/
  iter : Nat
  /-- MAPPED. -/
  mapped : Nat
  /-- The words after the header. -/
  data : List Int
  /-- The solution, for the warm-start store. -/
  x : List Int
  /-- The working set, for the warm-start store. -/
  w : List Nat
  deriving DecidableEq, Repr

/-- A problem that ended without data. -/
def Sol.failed (outcome flags : Nat) : Sol :=
  { outcome := outcome, flags := flags, iter := 0, mapped := 0, data := [], x := [], w := [] }

/-- How a stopped problem ends. -/
def Halt.sol (bits : Nat) : Halt → Sol
  | .overflow => Sol.failed 3 (bits + 0x80)
  | .overflowRidged => Sol.failed 3 (bits + 0x90)
  | .pivot _ => Sol.failed 2 (bits + 0x10)
  | .singular => Sol.failed 2 (bits + 0x10)
  | .infeasible => Sol.failed 5 bits

/-- Kind 1: one LDLᵀ and `m` right sides. -/
def solveKind1 (p : Problem) : Sol :=
  let n := p.nvar
  let a := unpack n p.data
  let b := rowsOf n p.ncon (p.data.drop (n * (n + 1) / 2))
  let go : Except Halt (List (List Int) × Bool) := do
    let f ← ldlRidge p.bexp p.pfloor p.ridge false a
    let xs ← afterRidge f.2 (b.mapM (fun v => ldlSolve p.bexp f.1 v))
    .ok (xs, f.2)
  match go with
  | .error h => h.sol 0
  | .ok (xs, used) =>
    let bad := (xs.zip b).any (fun c => (List.range n).any (fun i =>
      decide ((checkVal p.bexp (dot (rowOf a i) c.1) (-(el c.2 i))).natAbs > p.resTol.natAbs)))
    let flags := if used then 0x10 else 0
    if bad then Sol.failed 4 flags
    else { outcome := 0, flags := flags, iter := 0, mapped := 0, data := xs.flatten, x := [], w := [] }

/-- The quadratic programme in a problem's data block (R243). -/
def Problem.qp (p : Problem) : Qp :=
  let n := p.nvar
  let m := p.ncon
  let t := n * (n + 1) / 2
  { e := p.bexp, h := unpack n p.data, g := (p.data.drop t).take n, a := rowsOf n m (p.data.drop (t + n))
    b := (p.data.drop (t + n + n * m)).take m, safe := (p.data.drop (t + n + n * m + m)).take n
    floor := p.pfloor, ridge := p.ridge, feas := p.feasTol, res := p.resTol, step := p.stepTol }

/-- The working-set mask as two words. -/
def workMask (w : List Nat) : List Int :=
  let m := (List.range 48).foldl (fun a i => if w.contains i then a + 2 ^ i else a) 0
  [((m % 4294967296 : Nat) : Int), ((m / 4294967296 : Nat) : Int)]

/-- Kind 2. -/
def solveKind2 (p : Problem) (plan : WarmPlan) : Sol :=
  let q := p.qp
  match q.run plan with
  | .error h => { h.1.sol plan.bits with mapped := plan.mapped, iter := h.2 }
  | .ok (r, h) =>
    let flags := plan.bits + if r.st.used then 0x10 else 0
    if q.check r h = false then { Sol.failed 4 flags with iter := r.iter, mapped := plan.mapped }
    else
      { outcome := if r.optimal then 0 else 1, flags := flags, iter := r.iter, mapped := plan.mapped
        data := r.st.x ++ (List.range p.ncon).map (lamOf r.st.w r.lam) ++ workMask r.st.w
        x := r.st.x, w := (List.range p.ncon).filter r.st.w.contains }

/-- The inverse of a factored matrix, by its columns, made symmetric from the upper triangle. -/
def inverseOf (e : Int) (n : Nat) (f : Ldl) : Except Halt (List (List Int)) := do
  let cols ← (List.range n).mapM (fun j => ldlSolve e f ((List.range n).map (fun i => if i = j then blockOne e else 0)))
  .ok ((List.range n).map (fun i => (List.range n).map (fun j => if i ≤ j then el (rowOf cols j) i else el (rowOf cols i) j)))

/-- Kind 3, the covariance step (R252): P⁻ and P⁺, packed. -/
def solveKind3 (p : Problem) : Sol :=
  let n := p.nvar
  let t := n * (n + 1) / 2
  let e := p.bexp
  let phi := rowsOf n n p.data
  let prev := unpack n (p.data.drop (n * n))
  let qd := unpack n (p.data.drop (n * n + t))
  let lam := unpack n (p.data.drop (n * n + 2 * t))
  let rng := List.range n
  let go : Except Halt (List (List Int) × List (List Int) × List (List Int) × Bool) := do
    let tm ← rng.mapM (fun i => rng.mapM (fun j => requant e (dot (rowOf phi i) (colOf prev j)) 0))
    let up ← rng.mapM (fun i => rng.mapM (fun j =>
      if i ≤ j then requant e (dot (rowOf tm i) (rowOf phi j)) (el (rowOf qd i) j) else .ok 0))
    let minus := rng.map (fun i => rng.map (fun j => if i ≤ j then el (rowOf up i) j else el (rowOf up j) i))
    let f ← ldlRidge e p.pfloor p.ridge false minus
    let inv ← afterRidge f.2 (inverseOf e n f.1)
    let y ← afterRidge f.2 (rng.mapM (fun i => rng.mapM (fun j => fit32 (el (rowOf inv i) j + el (rowOf lam i) j))))
    let g ← ldlRidge e p.pfloor p.ridge f.2 y
    let plus ← afterRidge g.2 (inverseOf e n g.1)
    .ok (minus, y, plus, g.2)
  match go with
  | .error h => h.sol 0
  | .ok (minus, y, plus, used) =>
    let flags := if used then 0x10 else 0
    let bad := rng.any (fun i => rng.any (fun j =>
      decide ((checkVal e (dot (rowOf y i) (colOf plus j)) (if i = j then -(blockOne e) else 0)).natAbs > p.resTol.natAbs)))
    let diag := rng.all (fun i => decide (0 < el (rowOf plus i) i ∧ el (rowOf plus i) i ≤ el (rowOf minus i) i + p.resTol))
    if bad ∨ diag = false then Sol.failed 4 flags
    else { outcome := 0, flags := flags, iter := 0, mapped := 0, data := pack n minus ++ pack n plus, x := [], w := [] }

/-- A problem solved (R234). -/
def solveProblem (p : Problem) (plan : WarmPlan) : Sol :=
  if p.kind = 1 then solveKind1 p else if p.kind = 2 then solveKind2 p plan else solveKind3 p

/-! ## Warm start (R249, R250) -/

/-- The place of the k-th occurrence of a value in a list. -/
def occurrence (v : Half) : Nat → List Half → Option Nat
  | _, [] => none
  | k, x :: r => if x = v then (if k = 0 then some 0 else (occurrence v (k - 1) r).map (· + 1)) else (occurrence v k r).map (· + 1)

/-- For each element of `new`, the place of its match by occurrence in `old` (R250). -/
def matchBy (old new : List Half) : List (Option Nat) :=
  new.zipIdx.map (fun p => occurrence p.1 ((new.take p.2).filter (· == p.1)).length old)

/-- The starting point and budget by the entry that was read, none where it was empty or out of date (R249). -/
def warmPlan (p : Problem) (entry : Option WarmEntry) : WarmPlan :=
  let cold : WarmPlan := { x := none, w := [], budget := p.budgetCold, mapped := 0, bits := 0x40 }
  match entry with
  | none => cold
  | some w =>
    if w.sig = p.sig then { x := some w.x, w := w.work, budget := p.budgetWarm, mapped := p.nvar, bits := 0 }
    else
      let vm := matchBy w.tags p.tags
      let m := (vm.filter Option.isSome).length
      if 2 * m < p.nvar then cold
      else
        let safe := p.qp.safe
        let cm := matchBy w.keys p.keys
        { x := some (vm.zipIdx.map (fun q => match q.1 with
            | some i => el w.x i
            | none => el safe q.2))
          w := (List.range p.ncon).filter (fun i => match cm.getD i none with
            | some k => w.work.contains k
            | none => false)
          budget := p.budgetWarm, mapped := m, bits := 0x20 }

/-! ## Solve times (R255) -/

/-- A quotient rounded up. -/
def ceilDiv (a b : Nat) : Nat := (a + b - 1) / b

/-- Set-up cycles. -/
def setupCycles (kind n m : Nat) : Nat :=
  if kind = 1 then ceilDiv (n ^ 3) 48 + ceilDiv (n * m) 4 + 300
  else if kind = 2 then ceilDiv (n ^ 3) 48 + ceilDiv (n * m) 8 + 300
  else ceilDiv (3 * n ^ 3) 4 + 400

/-- Cycles from the lane's start to the release, for `k` iterations, `budget` for a BUDGET result and `ridge` for a
ridge retry, which takes one more set-up. -/
def laneCycles (kind n m bytes k : Nat) (budget ridge : Bool) : Nat :=
  let iter := if kind = 2 then k * (ceilDiv (n * m + n * n) 4 + 150) else 0
  let check := if kind = 3 then ceilDiv (n ^ 3) 8 + 200
    else ceilDiv (n * m + (if kind = 2 ∧ budget then 2 else 1) * n * n) 8 + 200
  100 + ceilDiv bytes 8 + setupCycles kind n m * (if ridge then 2 else 1) + iter + check + 50

end Sys2Proof.Machine
end

