-- ==== Sys2Proof/Machine/Voussoir.lean ====
section
/-! DEFINITION. The voussoir array around its lanes: queue, release, warm-start store, lane faults
(spec/09_voussoir_solver_array.md R229 to R235, R242, R251, R254 to R260; spec/10 R268). -/

namespace Sys2Proof.Machine
open Sys2Proof

/-- A lane by number. -/
def State.lane (s : State) (l : Nat) : Lane := vget s.vsl.lanes l Lane.reset

/-- Replace a lane. -/
def State.setLane (l : Nat) (x : Lane) (s : State) : State := s.withVsl { s.vsl with lanes := vset s.vsl.lanes l x }

/-- Lanes in service. -/
def Vsl.inService (x : Vsl) : Nat := (x.lanes.toList.filter (fun l => l.state == 0)).length

/-! ## Ends of problems (R254, R259) -/

/-- The counter of an outcome. -/
def outcomeCtr (o : Nat) : Option Ctr :=
  if o = 1 then some .vslBudget else if o = 2 then some .vslSingular else if o = 3 then some .vslOverflow
  else if 4 ≤ o ∧ o ≤ 6 then some .vslResidual else if o = 7 then some .vslKatFail else if o = 8 then some .vslLate
  else if o = 9 then some .vslExpired else if o = 10 ∨ o = 11 then some .vslEvict else none

/-- A problem has ended with an outcome: counts and events. One that has no result block leaves its outcome for its pair. -/
def State.problemEnds (p : Problem) (o : Nat) (s : State) : State :=
  let s := if o ≤ 1 then s.withVsl { s.vsl with released := s.vsl.released + 1 } else s
  let s := if 9 ≤ o then s.withVsl { s.vsl with ends := aput (p.owner * 65536 + p.ident.toNat) (p.frame, o) s.vsl.ends } else s
  let s := match outcomeCtr o with
    | some c => s.count c
    | none => s
  let s := if o > 1 ∧ p.analysis = false then s.raise 41 .notice 0 o noIndex [] else s
  if 8 ≤ o ∧ o ≤ 11 then s.raise 43 .notice 0 o noIndex [] else s

/-- The key of a result. -/
def Problem.key (p : Problem) : Nat := p.owner * 65536 + p.ident.toNat

/-- The bytes of a result block (R243). -/
def ArrayResult.bytes (r : ArrayResult) (ident : Half) : List Byte :=
  [byte r.status, byte r.iter, byte r.lane, byte r.mapped] ++ wbytes r.frame ++ lebytes 2 ident.toNat ++ [0, 0]
    ++ lebytes 4 r.cycles ++ (r.data.map (ibytes 4)).flatten

/-- A result block is written, as an access of the problem's owner (R233, R467). -/
def State.writeResult (p : Problem) (r : ArrayResult) (s : State) : State :=
  let s := s.withVsl { s.vsl with results := aput p.key r s.vsl.results }
  match p.resultAddr with
  | some a =>
    let x := s.reach p.owner a (r.bytes p.ident).length
    if x.1 then x.2.withMem (x.2.mem.store a (r.bytes p.ident)) else x.2
  | none => s

/-- A header without data (R233). -/
def State.writeHeader (p : Problem) (lane o flags cycles : Nat) (s : State) : State :=
  s.writeResult p { status := o + flags, iter := 0, lane := lane, mapped := 0, frame := p.frame, cycles := cycles, data := [] }

/-- The result that a pair finds for its problem: the header must match FRAME and PROBLEM_ID (R233). -/
def State.resultOf (s : State) (owner ident : Nat) (frame : Word) : Option ArrayResult :=
  match afind (owner * 65536 + ident) s.vsl.results with
  | some r => if r.frame = frame then some r else none
  | none => none

/-- The outcome of a problem that ended without a result block. -/
def State.endOf (s : State) (owner ident : Nat) (frame : Word) : Option Nat :=
  match afind (owner * 65536 + ident) s.vsl.ends with
  | some r => if r.1 = frame then some r.2 else none
  | none => none

/-- STATUS and ITER of a problem of the frame, as its pair learns them; none while nothing has come of it. -/
def State.statusOf (s : State) (owner ident : Nat) : Option (Nat × Nat) :=
  match s.resultOf owner ident s.crs.frame with
  | some r => some (r.status, r.iter)
  | none => (s.endOf owner ident s.crs.frame).map (·, 0)

/-! ## The queue (R229, R230) -/

/-- Put a problem behind every queued one that meets `ahead`. -/
def enqueueBehind (ahead : Problem → Bool) (p : Problem) (q : List Problem) : List Problem :=
  let k := (q.takeWhile ahead).length
  q.take k ++ [p] ++ q.drop k

/-- The queue with a problem at its entry position (R229). -/
def queueAt (p : Problem) (q : List Problem) : List Problem :=
  if p.priority then p :: q
  else if p.analysis then q ++ [p]
  else enqueueBehind (fun x => x.priority || !x.analysis) p q

/-- A problem enters the dispatch queue (R229, R230). A stopped array takes none (R258). -/
def State.submit (p : Problem) (s : State) : State :=
  if s.vsl.stopped then s
  else if s.vsl.queue.length < 192 then
    let q := queueAt p s.vsl.queue
    s.withVsl { s.vsl with queue := q, peak := max s.vsl.peak q.length }
  else if p.priority ∨ p.analysis = false then
    match takeLast (fun x => x.analysis && !x.priority) s.vsl.queue with
    | some (v, q) => (s.withVsl { s.vsl with queue := queueAt p q }).problemEnds v 10
    | none => s.problemEnds p 11
  else s.problemEnds p 11

/-- The bytes that a problem of one of the templates of pair 2 takes in its region: the longest data block with its
result. -/
def State.blockStride (s : State) : Nat :=
  ([0, 1, u16 (imgSection s.image 0x0B) 4].filterMap (imgTemplate s.image)).foldl (fun n t =>
    let w := blockWords (u8 t 2) (tmNvar t) (tmNcon t)
    max n (4 * (w.1 + w.2) + 16)) 64

/-- Where a pair keeps the blocks of its own problem in the banks that R466 gives it; pair 2 packs its 4 MiB, the trim
problem last (R269). DESIGN CHOICE (assumption 80). -/
def State.ownBlock (s : State) (owner ident : Nat) : Nat :=
  if owner = 0 then 16384 * (ident % 32) else if owner = 1 then 1310720 + 16384 * (ident % 16)
  else
    let places := 4194304 / s.blockStride - 1
    4194304 + s.blockStride * (if ident = 0xFFFF then places else ident % places)

/-- A problem of a template record, as its pair submits it (R232, R242). -/
def State.problemFrom (s : State) (tmpl : Nat) (t : List Byte) (owner : Nat) (priority analysis : Bool) (stream warmFrom : Option Nat)
    (ident : Nat) (dlCourse : Word) (dlSlot : Nat) (data : List Int) : Problem :=
  { template := tmpl, kind := u8 t 2, priority := priority, analysis := analysis, owner := owner
    sig := word (u32 t 8), nvar := tmNvar t, ncon := tmNcon t, bexp := tmBexp t, stream := stream, warmFrom := warmFrom
    frame := s.crs.frame, dlCourse := dlCourse, dlSlot := dlSlot, ident := BitVec.ofNat 16 ident
    dataAddr := s.ownBlock owner ident
    resultAddr := some (s.ownBlock owner ident + 4 * (blockWords (u8 t 2) (tmNvar t) (tmNcon t)).1)
    data := data, budgetWarm := u8 t 6, budgetCold := u8 t 7, ridge := u32 t 0x0C, pfloor := u32 t 0x10
    feasTol := u32 t 0x14, resTol := u32 t 0x18, stepTol := u32 t 0x1C, gen := vget s.vsl.gens tmpl 0
    tags := tmTags t, keys := tmKeys t }

/-- A problem of a template of the image in effect. -/
def State.mkProblem (s : State) (tmpl : Nat) (owner : Nat) (priority analysis : Bool) (stream warmFrom : Option Nat)
    (ident : Nat) (dlCourse : Word) (dlSlot : Nat) (data : List Int) : Option Problem :=
  (imgTemplate s.image tmpl).map (fun t =>
    s.problemFrom tmpl t owner priority analysis stream warmFrom ident dlCourse dlSlot data)

/-- The course count of course `c` of the present frame. -/
def State.courseOf (s : State) (c : Nat) : Word := word (s.crs.courseCnt + c) - word s.crs.course

/-- The bytes `a` to `a + n` lie in SRAM banks owned by a pair (R242). -/
def State.ownedBy (s : State) (owner a n : Nat) : Bool :=
  decide (a + n ≤ 16777216) &&
    (List.range ((n + 7) / 8)).all (fun i => (vget s.mem.banks (s.mem.bankOf (a / 8 + i)) Bank.reset).owner == owner)

/-- A descriptor agrees with the template in effect and with R242: its structure, its blocks, its deadline. -/
def State.problemGood (s : State) (p : Problem) (t : List Byte) : Bool :=
  let w := blockWords p.kind p.nvar p.ncon
  let a := p.resultAddr.getD 1
  p.kind == u8 t 2 && p.nvar == tmNvar t && p.ncon == tmNcon t && p.bexp == tmBexp t && p.sig == word (u32 t 8)
    && p.dataAddr % 8 == 0 && a % 8 == 0 && s.ownedBy p.owner p.dataAddr (4 * w.1) && s.ownedBy p.owner a (4 * w.2 + 16)
    && decide (wdiff p.dlCourse (word s.crs.courseCnt) ≤ 100) && decide (p.dlSlot ≤ 49)

/-- The dispatcher copies the template's numeric fields into the queue entry (R242). -/
def State.copyTemplate (s : State) (p : Problem) (t : List Byte) : Problem :=
  { p with
    budgetWarm := u8 t 6, budgetCold := u8 t 7, ridge := u32 t 0x0C, pfloor := u32 t 0x10
    feasTol := u32 t 0x14, resTol := u32 t 0x18, stepTol := u32 t 0x1C, gen := vget s.vsl.gens p.template 0
    tags := tmTags t, keys := tmKeys t }

/-- A problem whose descriptor fails the check ends DESCRIPTOR; its header is written where the result block may lie. -/
def State.rejectProblem (p : Problem) (s : State) : State :=
  let a := p.resultAddr.getD 1
  let p := if a % 8 = 0 ∧ s.ownedBy p.owner a 16 then p else { p with resultAddr := none }
  (s.writeHeader p 0 6 0 0).problemEnds p 6

/-- A descriptor is checked against the template in effect and enters the queue (R229, R242). -/
def State.enterQueue (p : Problem) (s : State) : State :=
  if s.vsl.stopped then s else
  match imgTemplate s.image p.template with
  | some t => if s.problemGood p t then s.submit (s.copyTemplate p t) else s.rejectProblem p
  | none => s.rejectProblem p

/-- The data block of a pair's own problem is written, as an access of that pair (R269, R467). -/
def State.writeData (p : Problem) (s : State) : State :=
  let x := s.reach p.owner p.dataAddr (4 * p.data.length)
  if x.1 then x.2.withMem (x.2.mem.store p.dataAddr (p.data.map (ibytes 4)).flatten) else x.2

/-- A pair submits a problem of its own. -/
def State.submitOwn (p : Problem) (s : State) : State := (s.writeData p).enterQueue p

/-- The words of a data block in SRAM. -/
def State.dataBlock (s : State) (a n : Nat) : List Int :=
  (List.range n).map (fun i => i32 ((List.range 4).map (fun k => memGet s.mem.sram (a + 4 * i + k))) 0)

/-- A descriptor of 64 bytes as a problem; the numeric fields come from its template at entry (R242). -/
def State.problemOf (s : State) (desc : List Byte) : Problem :=
  let half (o : Nat) : Option Nat := if u16 desc o = 0xFFFF then none else some (u16 desc o)
  let p := s.problemFrom (u16 desc 0) [] (u8 desc 0x0B) (tbit (u8 desc 3) 0) (tbit (u8 desc 3) 1) (half 0x0C) (half 0x0E)
    (u16 desc 0x1A) (word (u32 desc 0x14)) (u8 desc 0x18) (s.dataBlock (u32 desc 0x20) (u32 desc 0x24 / 4))
  { p with
    kind := u8 desc 2, sig := word (u32 desc 4), nvar := u8 desc 8, ncon := u8 desc 9, bexp := sext 8 (u8 desc 0x0A)
    frame := word (u32 desc 0x10), dataAddr := u32 desc 0x20, resultAddr := some (u32 desc 0x28) }

/-- DATA_LEN and RESULT_LEN of a descriptor are those of its structure (R243). -/
def descLengths (desc : List Byte) : Bool :=
  let w := blockWords (u8 desc 2) (u8 desc 8) (u8 desc 9)
  u32 desc 0x24 == 4 * w.1 && u32 desc 0x2C == 4 * w.2 + 16

/-- PROBLEM_SUBMIT: a pair (0 to 2) writes a 64-byte descriptor (R229, R242). A descriptor that fails the check ends
DESCRIPTOR without running. -/
def execProblemSubmit (t : Nat) (desc : List Byte) (s : State) : Host.Outcome State Fault Refusal :=
  .next <| (s.instant t).whileRunning fun s =>
    if desc.length ≠ 64 ∨ u8 desc 0x0B > 2 ∨ s.vsl.stopped then s
    else if descLengths desc then s.enterQueue (s.problemOf desc) else s.rejectProblem (s.problemOf desc)

/-- The head of the feed list moves into the queue while it holds fewer than 128; its descriptor is checked and its
template copied then (R242, R268). -/
def State.feedMove (s : State) : State :=
  match s.vsl.feed with
  | p :: r => if s.vsl.queue.length < 128 then (s.withVsl { s.vsl with feed := r }).enterQueue p else s
  | [] => s

/-- FEED_LIST_MOVE (R268). -/
def execFeedListMove (t : Nat) (s : State) : Host.Outcome State Fault Refusal :=
  .next ((s.instant t).whileRunning State.feedMove)

/-! ## Lanes -/

/-- The deadline of a problem has passed: the end of slot DL_SLOT of course DL_COURSE (R32, R231). -/
def State.deadlinePassed (s : State) (p : Problem) : Bool :=
  let d := wdiff (word s.crs.courseCnt) p.dlCourse
  decide (0 ≤ d ∧ (slotStart (p.dlSlot + 1) : Int) ≤ 1000000 * d + (s.clk.now - s.clk.tickAt : Nat))

/-- A lane's known-answer test is due: KAT_PERIOD courses have passed since the latest (R256). -/
def State.katDue (s : State) (l : Lane) : Bool := decide (l.lastKat + s.effField .vslCfg 0 14 ≤ s.crs.courseCnt)

/-- The lowest-numbered free lane: in service, without a problem, and with no test to run first (R229, R256). -/
def State.freeLane (s : State) : Option Nat :=
  (List.range 64).find? (fun i =>
    let l := s.lane i
    l.state == 0 && l.job.isNone && !l.testFirst && !s.katDue l)

/-- The warm-start entry that a problem reads: none where it is empty or its own template's generation has moved on
(R249, R251). -/
def State.warmEntry (p : Problem) (s : State) : Option WarmEntry :=
  (p.warmFrom.bind (fun i => afind i s.vsl.store)).filter (fun w => w.gen == vget s.vsl.gens w.template 0)

/-- Core-clock cycles since a lane's start, at 600 MHz. -/
def State.laneTime (s : State) (l : Nat) : Nat := (s.clk.now - (s.lane l).started) * 3 / 5

/-- The iterations that a kind 2 problem has used after some cycles in its lane, by the terms of R255. -/
def iterationsAt (p : Problem) (budget cycles : Nat) : Nat :=
  let done (k : Nat) : Bool := decide (100 + ceilDiv (4 * (blockWords 2 p.nvar p.ncon).1) 8 + setupCycles 2 p.nvar p.ncon
    + k * (ceilDiv (p.nvar * p.ncon + p.nvar * p.nvar) 4 + 150) ≤ cycles)
  (((List.range budget).map (· + 1)).filter done).length

/-- The header without data of a problem that its lane ends, with what the warm start fixes: MAPPED, the start's status
bits and the iterations so far (R233, R243, R254). -/
def State.endHeader (l : Nat) (p : Problem) (o : Nat) (s : State) : State :=
  let c := s.laneTime l
  let plan := warmPlan p (s.lane l).warm
  if p.kind = 2 then
    s.writeResult p { status := o + plan.bits, iter := iterationsAt p plan.budget c, lane := l, mapped := plan.mapped
                      frame := p.frame, cycles := c, data := [] }
  else s.writeHeader p l o 0 c

/-- A lane ends LATE at the problem's deadline: the header without data (R231, R233). -/
def State.laneLate (l : Nat) (p : Problem) (s : State) : State :=
  ((s.endHeader l p 8).setLane l { s.lane l with job := none, warm := none }).problemEnds p 8

/-- Lanes in service have fallen below LANES_WARN: event source 42 in the alarm class. -/
def State.lanesWarn (before : Nat) (s : State) : State :=
  let w := s.effField .vslCfg 14 7
  if w ≤ before ∧ s.vsl.inService < w then s.raise 42 .alarm 0 0 noIndex [] else s

/-- A lane is quarantined; the fourth time since reset it stays out (R257). -/
def State.quarantine (l : Nat) (s : State) : State :=
  let x := s.lane l
  if x.state ≠ 0 then s.setLane l { x with passes := 0 } else
  let before := s.vsl.inService
  let n := min 4 (x.quarCnt + 1)
  ((s.setLane l { x with state := if n = 4 then 2 else 1, quarCnt := n, passes := 0 }).raise 42 .notice 0 0 l []).lanesWarn before

/-- An uncorrectable error in a lane's memory: its problem ends LANE_FAULT and the lane is quarantined (R256, R257). -/
def State.laneFault (l : Nat) (s : State) : State :=
  if l ≥ 64 then s else
  match (s.lane l).job with
  | some p =>
    let s := (s.endHeader l p 7).setLane l { s.lane l with job := none, warm := none, testFirst := true }
    (s.problemEnds p 7).quarantine l
  | none => s.setLane l { s.lane l with testFirst := true }

/-- A lane loads its problem's data block, as an access of the problem's owner; one that gets an error response or a
poisoned word ends the problem LANE_FAULT (R242, R467, R470). -/
def State.laneLoad (l : Nat) (p : Problem) (s : State) : State :=
  let n := 4 * (blockWords p.kind p.nvar p.ncon).1
  let r := s.reach p.owner p.dataAddr n
  if r.1 = false ∨ r.2.mem.poisonIn p.dataAddr n then r.2.laneFault l else r.2

/-- A free lane takes the problem at the head of the queue with its warm-start entry, or the head is removed with EXPIRED
(R229, R231, R249). -/
def State.takeHead (s : State) : State :=
  match s.vsl.queue with
  | [] => s
  | p :: r =>
    if s.deadlinePassed p then (s.withVsl { s.vsl with queue := r }).problemEnds p 9
    else match s.freeLane with
      | none => s
      | some l =>
        ((s.withVsl { s.vsl with queue := r }).setLane l
          { s.lane l with job := some p, warm := s.warmEntry p, started := s.clk.now }).laneLoad l p

/-- LANE_TAKE (R229, R231, R249). -/
def execLaneTake (t : Nat) (s : State) : Host.Outcome State Fault Refusal :=
  .next <| (s.instant t).whileRunning State.takeHead

/-- The warm-start entry that a SOLVED or BUDGET problem writes (R251). -/
def State.keepWarm (p : Problem) (r : Sol) (s : State) : State :=
  match p.stream with
  | some i =>
    let e : WarmEntry := { stream := i, template := p.template, gen := p.gen, sig := p.sig, tags := p.tags, keys := p.keys,
                           x := r.x, work := r.w }
    s.withVsl { s.vsl with store := aput i e s.vsl.store }
  | none => s

/-- A lane has solved its problem and the checker releases it (R233, R249 to R254, R256). -/
def State.laneReleases (l : Nat) (p : Problem) (s : State) : State :=
  let x := s.lane l
  let r := solveProblem p (warmPlan p x.warm)
  let ridge := tbit r.flags 4
  let cyc := laneCycles p.kind p.nvar p.ncon (4 * (blockWords p.kind p.nvar p.ncon).1) r.iter (r.outcome == 1) ridge
  let s := s.setLane l { x with job := none, warm := none, testFirst := r.outcome == 4 }
  let s := if ridge then s.count .vslRidge else s
  let s := if r.outcome ≤ 1 then s.keepWarm p r else s
  (s.writeResult p { status := r.outcome + r.flags, iter := r.iter, lane := l, mapped := r.mapped, frame := p.frame
                     cycles := cyc, data := r.data }).problemEnds p r.outcome

/-- A lane finishes: it releases, or its release at or after the deadline counts as LATE (R231, R233). -/
def State.finishLane (l : Nat) (s : State) : State :=
  match (s.lane l).job with
  | some p => if s.deadlinePassed p then s.laneLate l p else s.laneReleases l p
  | none => s

/-- PROBLEM_RELEASE: a lane finishes, single-bit errors of its memory corrected on the way (R256). -/
def execProblemRelease (t : Nat) (fin : LaneEnd) (s : State) : Host.Outcome State Fault Refusal :=
  .next <| (s.instant t).whileRunning fun s =>
    if (s.lane fin.lane).job.isSome then (s.countN .vslEcc fin.ecc).finishLane fin.lane else s

/-! ## The problems that a work item waits for -/

/-- Two queue entries are the same problem. -/
def Problem.is (a b : Problem) : Bool := a.owner == b.owner && a.ident == b.ident && a.frame == b.frame

/-- The lane that holds a problem. -/
def State.laneOf (s : State) (p : Problem) : Option Nat :=
  (List.range 64).find? (fun i => (s.lane i).job.elim false p.is)

/-- The lowest-numbered lane at work on another problem than these. -/
def State.busyLane (s : State) (ps : List Problem) : Option Nat :=
  (List.range 64).find? (fun i => (s.lane i).job.elim false (fun j => !ps.any j.is))

/-- A problem that a work item waits for ends: released, LATE, or by a lane fault; single-bit errors of the lane's memory
are counted (R231, R256). -/
def State.finishOwn (e : OwnEnd) (p : Problem) (s : State) : State :=
  match s.laneOf p with
  | some l =>
    let s := s.countN .vslEcc e.ecc
    if e.fault then s.laneFault l else if e.late then s.laneLate l p else s.finishLane l
  | none => s

/-- The array works on until none of these problems is queued: free lanes take the head, and where no lane is free, one
finishes, one at work on another problem first. DESIGN CHOICE (assumption 81). -/
def State.arrayUntil (ps : List (Problem × OwnEnd)) : Nat → State → State
  | 0, s => s
  | f + 1, s =>
    if s.vsl.queue.all (fun q => !ps.any (fun p => q.is p.1)) then s
    else if s.freeLane.isSome ∨ s.vsl.queue.head?.any s.deadlinePassed then State.arrayUntil ps f s.takeHead
    else match s.busyLane (ps.map (·.1)), ps.find? (fun p => (s.laneOf p.1).isSome) with
      | some l, _ => State.arrayUntil ps f (s.finishLane l)
      | none, some p => State.arrayUntil ps f (s.finishOwn p.2 p.1)
      | none, none => s

/-- A work item submits problems and waits for them. -/
def State.runOwn (ps : List (Problem × OwnEnd)) (s : State) : State :=
  let s := ps.foldl (fun s p => s.submitOwn p.1) s
  let s := s.arrayUntil ps 512
  ps.foldl (fun s p => s.finishOwn p.2 p.1) s

/-- PROBLEM_LATE: a lane still running at the problem's deadline stops it (R231); single-bit errors of its memory have
been corrected on the way (R256). -/
def execProblemLate (t : Nat) (fin : LaneEnd) (s : State) : Host.Outcome State Fault Refusal :=
  .next <| (s.instant t).whileRunning fun s =>
    match (s.lane fin.lane).job with
    | some p => if s.deadlinePassed p then (s.countN .vslEcc fin.ecc).laneLate fin.lane p else s
    | none => s

/-! ## Lane faults (R256 to R258) -/

/-- A passed test of a quarantined lane counts when it comes KAT_PERIOD courses after the one before; 16 return the lane to
service (R257). -/
def State.katPass (l : Nat) (s : State) : State :=
  let x := s.lane l
  if x.state = 1 ∧ s.katDue x = false then s else
  let s := s.setLane l { x with testFirst := false, lastKat := s.crs.courseCnt }
  if x.state ≠ 1 then s
  else if x.passes + 1 < 16 then s.setLane l { s.lane l with passes := x.passes + 1 }
  else (s.setLane l { s.lane l with state := 0, passes := 0 }).raise 42 .notice 1 0 l []

/-- LANE_KAT: a lane that holds no problem runs its known-answer test (R256, R257). -/
def execLaneKat (t lane : Nat) (pass : Bool) (s : State) : Host.Outcome State Fault Refusal :=
  .next <| (s.instant t).whileRunning fun s =>
    let x := s.lane lane
    if lane ≥ 64 ∨ x.job.isSome then s
    else if pass then s.katPass lane
    else ((s.setLane lane { x with testFirst := false, lastKat := s.crs.courseCnt }).count .vslKatFail).quarantine lane

/-- Every queued and running problem ends ABORTED (R235). -/
def State.abortArray (s : State) : State :=
  let ps := s.vsl.queue ++ s.vsl.lanes.toList.filterMap (·.job)
  let s := s.withVsl { s.vsl with
    queue := [], feed := [], lanes := s.vsl.lanes.map (fun l => { l with job := none, warm := none }) }
  ps.foldl (fun s p => s.problemEnds p 12) s

/-- ARRAY_COMPARATOR_MISMATCH: the array stops until a reset of the part and the part gives up control (R258). -/
def execArrayComparatorMismatch (t : Nat) (s : State) : Host.Outcome State Fault Refusal :=
  .next <| (s.instant t).whileRunning fun s =>
    let s := s.abortArray
    ((s.withVsl { s.vsl with stopped := true }).raise 42 .notice 0 0 noIndex []).comparatorMismatch 6

/-- An activation: each changed template's generation increases, every one at a cold activation (R251). -/
def State.newTemplates (old new : List Byte) (cold : Bool) (s : State) : State :=
  s.withVsl { s.vsl with gens := Vector.ofFn (fun i : Fin 192 =>
    let g := vget s.vsl.gens i.val 0
    if cold ∨ imgTemplate old i.val ≠ imgTemplate new i.val then g + 1 else g) }

/-- The warm-start entries that a save keeps: streams 0 to 65 (spec/22 R506). -/
def State.warmSaved (s : State) : List WarmEntry := (s.vsl.store.filter (fun p => decide (p.1 ≤ 65))).map Prod.snd

/-- Restored warm-start entries take the current template generations (spec/22 R506, R514). -/
def State.restoreWarm (ws : List WarmEntry) (s : State) : State :=
  s.withVsl { s.vsl with
    store := ws.foldl (fun st w => aput w.stream { w with gen := vget s.vsl.gens w.template 0 } st) s.vsl.store }

/-- VSL_LANE_SEL_WRITE latches a lane's state (R260). -/
def execVslLaneSelWrite (w : Word) (s : State) : Host.Outcome State Fault Refusal :=
  .next <| s.barWrite 0x904C fun s =>
    let l := (w.extractLsb' 0 6).toNat
    let x := s.lane l
    s.withVsl { s.vsl with sel := l, info := word (x.state + 4 * x.quarCnt + 32 * x.passes) }

end Sys2Proof.Machine
end

