-- ==== Sys2Proof/Machine/Estimate.lean ====
section
/-! DEFINITION. The filter bank of a frame: missed frames, late samples, propagation, covariance steps, updates and gate
statistics (spec/06_position_estimation.md R136 to R140, R149 to R154, R161 to R165, R172). -/

namespace Sys2Proof.Machine
open Sys2Proof

/-! ## Information of rows (R149, R153) -/

/-- Λ of rows. -/
def infoMat (rows : List Row) : FMat := rows.foldl (fun m r => madd m (outer (vscale (fdiv f1 r.v) r.h) r.h)) (mzero 18)

/-- η of rows. -/
def infoVec (rows : List Row) : FVec := rows.foldl (fun w r => vadd w (vscale (fdiv r.r r.v) r.h)) (List.replicate 18 f0)

/-- ρ of rows against a judge whose prior mean differs from the main filter's by `d` and has covariance `p` (R153). -/
def rhoOf (rows : List Row) (d : FVec) (p : FMat) : F64 :=
  let rs := rows.map (fun r => { r with r := fsub r.r (fdot r.h d) })
  let b := infoVec rs
  let q := (rs.map (fun r => fdiv (fmul r.r r.r) r.v)).foldl fadd f0
  let w := minv 18 (madd (minv 18 p) (infoMat rs))
  fsqrt (fdiv (fsub q (fdot b (mvec w b))) (ofN rows.length))

/-- Within the gate of a descriptor (R154). -/
def inGateOf (d : List Byte) (rho : F64) : Bool := fle rho (rfGate d)

/-! ## Measurements of a frame -/

/-- A signal measurement of the baseband. -/
def IntakeRec.isSignal (r : IntakeRec) : Bool := r.kind == 0x0A && u8 r.data 0 == 0

/-- Records that may be applied, as measurements in order: each with the records of its epoch (R142, R143, R146). -/
def measurements (rs : List IntakeRec) : List (IntakeRec × List IntakeRec) :=
  (rs.filter (fun r => !r.unusable && !(r.isSignal && tbit (u8 r.data 0x1D) 7))).foldl (fun acc r =>
    if r.isSignal then
      match acc.findIdx? (fun m => m.1.isSignal && m.1.entry == r.entry && m.1.stamp == r.stamp) with
      | some i => acc.modify i (fun m => (m.1, m.2 ++ [r]))
      | none => acc ++ [(r, [r])]
    else acc ++ [(r, [r])]) []

/-- The smoothing window in epochs: HATCH_T times the epoch rate (R142, spec/05 R114). -/
def State.hatchWindow (s : State) : Nat :=
  let l := s.frameCourses * (if s.frameCourses < 20 then 2 else 1) * max 1 (s.effField .gnsCfg 20 4)
  u16 (s.sect 2) 0x46 * 1000 / l

/-- The rows of one measurement for a reference, and the carrier smoothing after it. -/
def State.measure (s : State) (c : RowCtx) (d : List Byte) (m : IntakeRec × List IntakeRec) :
    Option RefRows × List (Nat × Hatch) :=
  let r := m.1
  match s.quoin (rfEntry d) with
  | none => (none, s.est.hatch)
  | some q =>
    if r.entry ≠ rfEntry d then (none, s.est.hatch)
    else if r.isSignal then
      if rfSource d = 0 then
        let x := epochSats (rfRef d) s.hatchWindow r.stamp m.2 s.est.hatch
        let heave := milliF (u16 (s.sect 2) 0x44)
        let gate := fq (u16 (s.sect 2) 0x4A) 100
        (c.grid.map (fun g => c.antennaRows d q g heave gate r.stamp r.unc x.1), x.2)
      else (none, s.est.hatch)
    else if rfSource d = 0 then (none, s.est.hatch)
    else
      let height := (s.est.origin.map (fun o => milliF o.2.2.toInt)).getD f0
      (c.recordFix d q s.quoins (s.refSt (rfRef d)).target height r, s.est.hatch)

/-- The references that may have data: neither DISABLED nor NO_TARGET (R146, R159). -/
def State.liveRefs (s : State) : List (List Byte) :=
  s.refDescs.filter (fun d => (s.refSt (rfRef d)).state != 0 && (s.refSt (rfRef d)).state != 5)

/-- Rows dropped by the row gate are counted (R143). -/
def State.countDropped (r n : Nat) (s : State) : State :=
  if n = 0 then s else
  let x := Occ.add n (s.refSt r).rowsDropped
  let s := s.putRef r { s.refSt r with rowsDropped := x.1 }
  if x.2 then s.raise 31 .notice 0 0 noIndex [] else s

/-- A counter of a reference rises by `n` (R171). -/
def State.countRefN (r n : Nat) (get : RefSt → Occ) (put : RefSt → Occ → RefSt) (s : State) : State :=
  (List.range n).foldl (fun s _ =>
    let c := s.countOcc (get (s.refSt r)) 31
    c.2.putRef r (put (c.2.refSt r) c.1)) s

/-- What a frame found of a reference is added: the larger ρ counts, rows add up, an on-time fix stays (R158, R163). -/
def State.addWork (w : RefWork) (s : State) : State :=
  let join (o : RefWork) : RefWork :=
    { ref := o.ref, rows := o.rows + w.rows
      rho := match o.rho, w.rho with
        | some a, some b => some (fmax a b)
        | some a, none => some a
        | none, b => b
      fixZ := if w.fixZ.isEmpty then o.fixZ else w.fixZ, fixV := if w.fixZ.isEmpty then o.fixV else w.fixV }
  let work := if s.est.work.any (fun o => o.ref == w.ref) then s.est.work.map (fun o => if o.ref = w.ref then join o else o)
    else s.est.work ++ [w]
  s.withEst { s.est with work := work }

/-! ## Frames whose ESTIMATE missed (R165) -/

/-- τ of a frame. -/
def State.tauOf (s : State) (k : Word) : FVec := ((s.est.taus.find? (fun p => p.1 == k)).map (·.2)).getD [f0, f0, f0]

/-- Length of a frame, s. -/
def State.frameDt (s : State) : F64 := fq s.frameCourses 1000

/-- Φ P Φᵀ + Q. -/
def stepCov (phi : FMat) (q : FVec) (p : FMat) : FMat := madd (mmul 18 (mmul 18 phi p) (mtr 18 phi)) (mdiag q)

/-- A history entry of frame `k` is written (R161). -/
def State.putHistory (k : Word) (priors : List Filt) (phi : FMat) (adm : List Nat) (s : State) : State :=
  let h : HistFrame := { frame := k, tick := (s.tickTime k).getD s.frameTime, priors := priors, phi := phi, admitted := adm }
  s.withEst { s.est with history := (h :: s.est.history).take 64 }

/-- A frame whose ESTIMATE missed: the last fresh posterior is propagated through it, and its history entry written. -/
def State.bridgeFrame (s : State) : State :=
  let k := s.est.frame + 1
  let x := (s.est.filters.map (·.mean)).headD []
  let phi := transition (s.hull.jacobian x) s.frameDt
  let q := noiseDiag (s.sect 2) s.frameDt
  let fs : List Filt := s.est.filters.map (fun f =>
    { mean := s.hull.rk4 (s.tauOf k) s.frameDt f.mean, cov := stepCov phi q f.cov })
  let s1 := s.putHistory k fs phi s.admitted
  s1.withEst { s1.est with filters := fs, frame := k }

/-- Propagate through `n` missed frames. -/
def State.bridge : Nat → State → State
  | 0, s => s
  | n + 1, s => State.bridge n s.bridgeFrame

/-! ## Late samples (R161 to R164) -/

/-- The history entry of the frame that a stamp belongs to: the oldest whose tick lies behind it, when the tick before it
does not. -/
def State.historyAt (s : State) (stamp : Int) : Option HistFrame :=
  match (s.est.history.filter (fun h => decide (stamp < h.tick))).getLast? with
  | some h =>
    match s.tickTime (h.frame - 1) with
    | some t => if t ≤ stamp then some h else none
    | none => some h
  | none => none

/-- Ψ = Φ_(k−1)·…·Φ_(j+1): the history is newest first. -/
def psiFrom (hist : List HistFrame) (j : Word) : FMat :=
  (hist.takeWhile (fun h => h.frame != j)).foldl (fun m h => mmul 18 m h.phi) (mid 18)

/-- One filter takes a late measurement (R162): `d` is the distance of its stored prior from the main filter's. -/
def lateStep (rows : List Row) (d : FVec) (prior : Filt) (psi : FMat) (f : Filt) : Filt :=
  let n := rows.length
  let h := rows.map (·.h)
  let pht := mmul n prior.cov (mtr 18 h)
  let v := mdiag (rows.map (·.v))
  let sm := madd (mmul n h pht) v
  let k := mmul n pht (minv n sm)
  let r := rows.map (fun x => fsub x.r (fdot x.h d))
  let mean := vadd f.mean (mvec psi (mvec k r))
  let pk := mmul n psi k
  let sub := mmul 18 (mmul n pk sm) (mtr n pk)
  let cov := msub f.cov sub
  let half := (List.range 18).any (fun i => flt (mel cov i i) (fscale (mel f.cov i i) (-1)))
  { mean := mean, cov := if half then f.cov else cov }

/-- What rows are formed against in a stored frame: its prior, F at that prior, and the roll and pitch of the present.
DESIGN CHOICE (assumption 104). -/
def State.lateCtx (s : State) (h : HistFrame) : RowCtx :=
  let p := h.priors.headD { mean := [], cov := [] }
  { hull := s.hull, tau := s.tauOf h.frame, x := p.mean, p := p.cov, f := s.hull.jacobian p.mean, tk := h.tick
    roll := s.est.roll, pitch := s.est.pitch, grid := s.refGrid }

/-- The distance of filter `m` from the main filter. -/
def filtDist (fs : List Filt) (m : Nat) : FVec := vsub (fs.getD m { mean := [], cov := [] }).mean (fs.headD { mean := [], cov := [] }).mean

/-- The judge of a reference: REF + 1 when ADMITTED, else 0 (R153). -/
def State.judgeOf (s : State) (r : Nat) : Nat := if (s.refSt r).state = 2 then r + 1 else 0

/-- The records of a measurement belong to a reference: its kind and, for ranges, its target (R145, R146). -/
def rfTakes (d : List Byte) (r : IntakeRec) : Bool := match rfSource d with
  | 0 => r.isSignal
  | 1 => r.kind == 0x0A && u8 r.data 0 == 1
  | 2 => r.kind == 3
  | 3 => r.kind == 6 && u8 r.data 0 == rfTarget d
  | 4 => r.kind == 7
  | 5 => r.kind == 1
  | _ => false

/-- The records of a late measurement are discarded: each is counted and reported (R164). -/
def State.dropLate (r n : Nat) (s : State) : State :=
  (List.range n).foldl (fun s _ => s.raise 25 .notice 0 0 r [])
    (s.countRefN r n (·.lateDropped) (fun x o => { x with lateDropped := o }))

/-- A late measurement of one reference (R161 to R164). Its judge follows the references' present states (R163; DESIGN
CHOICE, assumption 104). -/
def State.lateRef (m : IntakeRec × List IntakeRec) (d : List Byte) (s : State) : State :=
  let r := rfRef d
  let n := m.2.length
  if rfTakes d m.1 = false then s
  else if m.1.stamp < s.est.histFrom ∨ m.1.stamp < (s.refSt r).changed then s.dropLate r n else
  match s.historyAt m.1.stamp with
  | none => s.dropLate r n
  | some h =>
    let x := s.measure (s.lateCtx h) d m
    let s := s.withEst { s.est with hatch := x.2 }
    match x.1 with
    | none => s
    | some rr =>
      let s := s.countDropped r rr.dropped
      if rr.rows.isEmpty then s else
      let j := s.judgeOf r
      let rho := rhoOf rr.rows (filtDist h.priors j) (h.priors.getD j { mean := [], cov := [] }).cov
      let s := s.addWork { ref := r, rows := rr.rows.length, rho := some rho, fixZ := [], fixV := [] }
      if (s.refSt r).state = 2 then
        let psi := psiFrom s.est.history h.frame
        let fs := s.est.filters.zipIdx.map (fun p =>
          if p.2 = r + 1 then p.1
          else lateStep rr.rows (filtDist h.priors p.2) (h.priors.getD p.2 { mean := [], cov := [] }) psi p.1)
        (s.withEst { s.est with filters := fs }).countRefN r n (·.lateApplied) (fun x o => { x with lateApplied := o })
      else s

/-- The late measurements of a frame, in the order of R98. -/
def State.applyLate (rs : List IntakeRec) (s : State) : State :=
  (measurements rs).foldl (fun s m =>
    (s.liveRefs.filter (fun d => rfEntry d == m.1.entry)).foldl (fun s d => s.lateRef m d) s) s

/-! ## The IMU in use (R138 to R140) -/

/-- The quoin entries of IMUs. -/
def State.imuEntries (s : State) : List Nat := (s.quoins.filter (fun q => qnKind q == 1)).map qnEntry

/-- The primary IMU (R135). -/
def State.primaryImu (s : State) : Option Nat :=
  let p := u8 (s.sect 2) 0x58
  if p ≠ 0xFF then some p else s.imuEntries.min?

/-- The usable samples of an IMU stamped in the frame from `t0` to `tk`. -/
def imuUsable (rs : List IntakeRec) (e : Nat) (t0 tk : Int) : List IntakeRec :=
  rs.filter (fun r => r.kind == 8 && r.entry == e && !r.unusable && decide (t0 ≤ r.stamp ∧ r.stamp < tk))

/-- The variances of the biases take their initial values (R138). -/
def Filt.resetBias (b : List Byte) (f : Filt) : Filt :=
  let sg := initialSigma b
  { f with cov := mof 18 18 (fun i j => if i = j ∧ 15 ≤ i then fmul (fel sg i) (fel sg i) else mel f.cov i j) }

/-- The part takes another IMU; event source 26. -/
def State.switchImu (e cause : Nat) (s : State) : State :=
  (s.withEst { s.est with imuCur := some e, imuGood := 0, imuLast := none
                          filters := s.est.filters.map (Filt.resetBias (s.sect 2)) }).raise 26 .notice 3 cause e []

/-- Which IMU the frame uses (R138). -/
def State.chooseImu (rs : List IntakeRec) (t0 tk : Int) (s : State) : State :=
  match s.primaryImu with
  | none => s
  | some p =>
    let cur := s.est.imuCur.getD p
    let s := s.withEst { s.est with imuCur := some cur }
    let has (e : Nat) : Bool := !(imuUsable rs e t0 tk).isEmpty
    let s := s.withEst { s.est with imuGood := if cur ≠ p ∧ has p then s.est.imuGood + 1 else 0 }
    if cur ≠ p ∧ u16 (s.sect 2) 0x4C ≤ s.est.imuGood then s.switchImu p 2
    else if has cur = false then
      match s.imuEntries.find? (fun e => e != cur && has e) with
      | some e => s.switchImu e (if e = p then 2 else 1)
      | none => s
    else s

/-- The attitude filter runs over the samples of the IMU in use; the frame's inertial rows are formed from those stamped
in it, when at least half of the expected samples are usable (R139, R140). -/
def State.inertial (rs : List IntakeRec) (t0 tk : Int) (s : State) : State × Option ImuAcc :=
  match s.est.imuCur.bind s.quoin with
  | none => (s, none)
  | some q =>
    let tau := ofN (u16 (s.sect 2) 0x48)
    let a0 : ImuAcc := { roll := s.est.roll, pitch := s.est.pitch, last := s.est.imuLast, sums := [f0, f0, f0], lags := 0, n := 0 }
    let mine := rs.filter (fun r => r.kind == 8 && r.entry == qnEntry q && !r.unusable)
    let a := mine.foldl (imuSample q tau t0 tk) a0
    let s := s.withEst { s.est with roll := a.roll, pitch := a.pitch, imuLast := a.last, attOn := s.est.attOn || !mine.isEmpty }
    let good := decide (0 < a.n ∧ s.frameCourses * 1000000 ≤ 2 * a.n * imuPeriod (qnSet q 0 2))
    (s, if good then some a else none)

/-- Event source 26 when inertial measurements stop, or return after they had stopped (R586). -/
def State.imuHas (b : Bool) (s : State) : State :=
  let old := s.est.imuHad
  let lost := s.est.imuLost
  let s := s.withEst { s.est with imuHad := b, imuLost := (lost || old) && !b }
  if old ∧ b = false then s.raise 26 .notice 0 3 noIndex []
  else if lost ∧ b then s.raise 26 .notice 1 3 noIndex [] else s

/-! ## Capture of a target (R172) -/

/-- The position of a target or weight that a record gives at the main estimate (R172): the main filter's prior with its
wave part, carried back to the record's stamp, and its heading at the frame tick. DESIGN CHOICE (assumption 107). -/
def RowCtx.captured (c : RowCtx) (d q : List Byte) (r : IntakeRec) : Option (Int × Int) :=
  let l := c.lever q
  let yaw := baRad (i32 q 0x18)
  let at' (w : FVec) : Int × Int :=
    let x := c.back r.stamp
    (toI (fmul (ofI 1000) (fadd (fadd (fadd (fel x 0) (fel x 9)) (fel l 0)) (fel w 0))),
     toI (fmul (ofI 1000) (fadd (fadd (fadd (fel x 1) (fel x 11)) (fel l 1)) (fel w 1))))
  if rfSource d = 3 ∧ r.kind = 6 ∧ u8 r.data 0 = rfTarget d then
    let hb := rangeVector r.data (fel c.x 2) yaw
    some (at' [fmul hb.1 (fcos hb.2), fmul hb.1 (fsin hb.2)])
  else if rfSource d = 4 ∧ r.kind = 7 then some (at' (wireVector r.data (fel c.x 2) yaw))
  else none

/-- A target position is set: the reference starts again in WARMING (R159, R172). -/
def State.setTarget (r : Nat) (p : Int × Int) (s : State) : State :=
  let s := s.putRef r { s.refSt r with target := some p }
  let st := (s.refSt r).state
  if st = 5 ∨ st = 2 ∨ st = 1 then s.setRef r 1 7 else s

/-- Is a record of an earlier frame than the present one (R162)? -/
def State.isLate (s : State) (t0 : Option Int) (r : IntakeRec) : Bool :=
  match t0 with
  | some t => decide (r.stamp < t)
  | none => decide (r.stamp < s.est.histFrom)

/-- The records of frame `j` among those that ESTIMATE takes: of the present frame, or of one whose ESTIMATE was missed. -/
def State.recordsOf (rs : List IntakeRec) (j : Word) (s : State) : List IntakeRec :=
  rs.filter (fun r => !s.isLate (s.tickTime (j - 1)) r && (j == s.crs.frame || (match s.tickTime j with
    | some t => decide (r.stamp ≤ t)
    | none => true)))

/-- Targets captured by the first record of the frame in which their command took effect, each by its own; the record may
have waited for an ESTIMATE after a missed one (R165, R172). -/
def State.captures (c : RowCtx) (rs : List IntakeRec) (s : State) : State :=
  s.refDescs.foldl (fun s d =>
    let x := s.refSt (rfRef d)
    if x.capture.isEmpty then s else
    let first (j : Word) : Option (Int × Int) :=
      let mine := (s.recordsOf rs j).filter (fun r => r.entry == rfEntry d && !r.unusable)
      (s.quoin (rfEntry d)).bind (fun q => (mine.filterMap (c.captured d q)).head?)
    x.capture.foldl (fun s w => match first w.due with
      | some p => (s.setTarget (rfRef d) p).done w 0
      | none => s.refuse w 1) (s.putRef (rfRef d) { x with capture := [] })) s

/-! ## Covariance steps (R150, R252) -/

/-- The covariance template of the image. -/
def State.covTemplate (s : State) : Option (List Byte) :=
  (imgTemplates s.image).find? (fun t => u8 t 2 == 3 && tmNvar t == 18)

/-- The scale of state `j` in the problem: reporting units, then VSCALE (R133, R240). -/
def covScale (t : List Byte) (j : Nat) : F64 := fscale (stateUnit j) (-(tmVscale t j))

/-- A scaled number as a block value. A number beyond 32 bits saturates. DESIGN CHOICE (assumption 18). -/
def toBlock (e : Int) (x : F64) : Int := max (-2147483648) (min 2147483647 (toI (fscale x (30 - e))))

/-- The data block of a covariance step (R243, R252). -/
def covData (t : List Byte) (phi : FMat) (p : FMat) (q : FVec) (lam : FMat) : List Int :=
  let e := tmBexp t
  let sc := vof 18 (covScale t)
  let sq (f : F64 → F64 → F64 → F64) (m : FMat) : List (List Int) :=
    (List.range 18).map (fun i => (List.range 18).map (fun j => toBlock e (f (mel m i j) (fel sc i) (fel sc j))))
  (sq (fun x a b => fdiv (fmul x a) b) phi).flatten ++ pack 18 (sq (fun x a b => fmul (fmul x a) b) p)
    ++ pack 18 (sq (fun x a b => fmul (fmul x a) b) (mdiag q)) ++ pack 18 (sq (fun x a b => fdiv (fdiv x a) b) lam)

/-- A covariance from a result's packed block values. -/
def covResult (t : List Byte) (a : List Int) : FMat :=
  let sc := vof 18 (covScale t)
  mof 18 18 (fun i j => fdiv (fdiv (fscale (ofI (packedAt a i j)) (tmBexp t - 30)) (fel sc i)) (fel sc j))

/-- The problem of the covariance step of filter `m` (R150, R151, R252). -/
def State.covProblem (s : State) (t : List Byte) (m : Nat) (phi p : FMat) (q : FVec) (lam : FMat) : Problem :=
  s.problemFrom (u16 t 0) t 0 false false none none m (s.courseOf 0) 17 (covData t phi p q lam)

/-- P⁻ and P⁺ of a filter: none when its step was not released in time, was rejected or was singular (R150, R152). -/
def State.covOf (s : State) (t : List Byte) (m : Nat) : Option (FMat × FMat) :=
  match s.resultOf 0 m s.crs.frame with
  | some r => if r.status % 16 = 0 then some (covResult t (r.data.take 171), covResult t (r.data.drop 171)) else none
  | none => none

/-- The 17 covariance steps on the array: submitted in order, solved side by side; `lost` names those that are not released
in time (R151). -/
def State.covSteps (ends : List (Nat × OwnEnd)) (phi : FMat) (q : FVec) (lams : List FMat) (s : State) :
    State × List (Option (FMat × FMat)) :=
  let fs := (s.est.filters.zip lams).zipIdx
  match s.covTemplate with
  | none => (s, fs.map (fun _ => none))
  | some t =>
    let s := s.runOwn (fs.map (fun f => (s.covProblem t f.2 phi f.1.1.cov q f.1.2, aget f.2 OwnEnd.inTime ends)))
    (s, fs.map (fun f => s.covOf t f.2))

/-! ## The frame (R149 to R153) -/

/-- The rows of the frame: each reference with data, its last measurement of the frame giving its fix. -/
def State.frameRows (c : RowCtx) (rs : List IntakeRec) (s : State) : State × List (Nat × RefRows) :=
  (measurements rs).foldl (fun acc m =>
    (acc.1.liveRefs.filter (fun d => rfEntry d == m.1.entry)).foldl (fun acc d =>
      let x := acc.1.measure c d m
      let s := acc.1.withEst { acc.1.est with hatch := x.2 }
      match x.1 with
      | none => (s, acc.2)
      | some rr =>
        let old := afind (rfRef d) acc.2
        let rows := ((old.map (·.rows)).getD []) ++ rr.rows
        let dropped := ((old.map (·.dropped)).getD 0) + rr.dropped
        let fix := if rr.rows.isEmpty then old.getD rr else rr
        (s, aput (rfRef d) { fix with rows := rows, dropped := dropped } acc.2)) acc) (s, [])

/-- The sets S_m: the main set without slot m − 1 (R149). -/
def setOf (adm : List Nat) (m : Nat) : List Nat := if m = 0 then adm else adm.filter (· != m - 1)

/-- The work of ESTIMATE: the state, and whether filter 0 has a result. Without one, the records of the frame wait for the
next frame, where they are late, and the gate statistics of this frame's late records wait with them; inertial samples have
served the attitude filter (R152, R165). A filter whose covariance step failed takes filter 0's prior covariance in the
history: DESIGN CHOICE (assumption 74). -/
def State.estimateRun (ends : List (Nat × OwnEnd)) (rs : List IntakeRec) (s : State) : State × Bool :=
  let k := s.crs.frame
  let s := s.withEst { s.est with work := s.est.lateWork, lateWork := [], failed := [] }
  let s := s.bridge (wdiff (k - 1) s.est.frame).toNat
  let t0? := s.tickTime (k - 1)
  let tk := s.frameTime
  let t0 := t0?.getD (tk - 1000000 * s.frameCourses)
  let s := s.applyLate (rs.filter (s.isLate t0?))
  let now := rs.filter (fun r => !s.isLate t0? r)
  let s := s.chooseImu rs t0 tk
  let im := s.inertial rs t0 tk
  let s := im.1.imuHas im.2.isSome
  let main := s.est.filters.headD { mean := [], cov := [] }
  let f := s.hull.jacobian main.mean
  let phi := transition f s.frameDt
  let q := noiseDiag (s.sect 2) s.frameDt
  let tau := s.tauOf k
  let means := s.est.filters.map (fun x => s.hull.rk4 tau s.frameDt x.mean)
  let x0 := means.headD []
  let c : RowCtx := { hull := s.hull, tau := tau, x := x0, p := stepCov phi q main.cov, f := f, tk := tk
                      roll := s.est.roll, pitch := s.est.pitch, grid := s.refGrid }
  let s := s.captures c rs
  let hatch := s.est.hatch
  let fr := s.frameRows c now
  let s := fr.1
  let adm := s.admitted
  let iRows := match im.2, s.est.imuCur.bind s.quoin with
    | some a, some qn => c.imuRows qn a
    | _, _ => []
  let infos := fr.2.map (fun p => (p.1, infoMat p.2.rows, infoVec p.2.rows))
  let li := infoMat iRows
  let ei := infoVec iRows
  let sets := (List.range 17).map (fun m => infos.filter (fun p => (setOf adm m).contains p.1))
  let lams := sets.map (fun l => l.foldl (fun a p => madd a p.2.1) li)
  let st := s.covSteps ends phi q lams
  let s := st.1
  let ok := (st.2.headD none).isSome
  if ok = false then
    (s.withEst { s.est with hatch := hatch, carry := now.filter (fun r => r.kind != 8), lateWork := s.est.work }, false)
  else
  let bad := (List.range 17).filter (fun m => (st.2.getD m none).isNone)
  let zero : Filt := { mean := x0, cov := mzero 18 }
  let priors : List Filt := (List.range 17).map (fun m => match st.2.getD m none with
    | some p => { mean := means.getD m x0, cov := p.1 }
    | none => { mean := means.getD m x0, cov := ((st.2.headD none).map (·.1)).getD zero.cov })
  let post : List Filt := (List.range 17).map (fun m =>
    let d := vsub (means.getD m x0) x0
    let eta := (sets.getD m []).foldl (fun a p => vadd a (vsub p.2.2 (mvec p.2.1 d))) (vsub ei (mvec li d))
    match st.2.getD m none with
    | some p => { mean := vadd (means.getD m x0) (mvec p.2 eta), cov := p.2 }
    | none => zero)
  let s := s.putHistory k priors phi adm
  let s := fr.2.foldl (fun s p =>
    let s := s.countDropped p.1 p.2.dropped
    if p.2.rows.isEmpty then s else
    let j := s.judgeOf p.1
    let rho := if bad.contains j then none else some (rhoOf p.2.rows (filtDist priors j) (priors.getD j zero).cov)
    s.addWork { ref := p.1, rows := p.2.rows.length, rho := rho, fixZ := p.2.fixZ, fixV := p.2.fixV }) s
  (s.withEst { s.est with filters := post, frame := k, failed := bad, taus := (s.est.taus).take 64 }, true)

/-- The records that ESTIMATE takes: those of missed frames, then the latest hand-over (R99, R165). -/
def State.takeRecords (s : State) : List IntakeRec := s.est.carry ++ (if s.est.consumed then [] else s.sni.handed)

/-- ESTIMATE (R149 to R152): `ends` says how the covariance step of a filter ended, where not
in time and without an error. -/
def execEstimate (t : Nat) (ends : List (Nat × OwnEnd)) (s : State) : Host.Outcome State Fault Refusal :=
  .next <| (s.instant t).whileRunning fun s =>
    if s.itemRuns 2 = false ∨ s.est.fresh = false then s else
    let rs := s.takeRecords
    let s0 := s.withEst { s.est with carry := [], consumed := true }
    let r := s0.estimateRun ends rs
    if r.2 then r.1.itemDone 2 else r.1.missItem 2

/-- What estimation keeps at ALIGN: records that no ESTIMATE took stay for a later one (R99, R165). -/
def State.estimateHands (s : State) : State :=
  s.withEst { s.est with carry := s.takeRecords, consumed := true }

/-- ALIGN (R98, R101, R134, R334). -/
def execAlign (t : Nat) (s : State) : Host.Outcome State Fault Refusal :=
  .next <| s.runItem 1 t fun s =>
    let s := (s.quoins.foldl (fun s q => s.entrySilence q) s).estimateHands
    let s := s.alignRecords.alignPoints
    s.withEst { s.est with consumed := false }

end Sys2Proof.Machine
end

