-- ==== Sys2Proof/Machine/Voting.lean ====
section
/-! DEFINITION. Gating, voting, admission, coasting, the estimate record and the commands of position estimation
(spec/06_position_estimation.md R152, R154 to R160, R166 to R172). -/

namespace Sys2Proof.Machine
open Sys2Proof

/-! ## Residuals of fixes (R157, R158) -/

/-- √(dᵀ V⁻¹ d / dim). -/
def fixRho (d : FVec) (v : FMat) : F64 :=
  let n := d.length
  fsqrt (fdiv (fdot d (mvec (minv n v) d)) (ofN n))

/-- The difference of two fixes of a class; headings wrap. -/
def fixDiff (c : Nat) (a b : FVec) : FVec := if c = 1 then (vsub a b).map fwrap else vsub a b

/-- Insert a number in ascending order. -/
def fInsert (x : F64) : List F64 → List F64
  | [] => [x]
  | y :: r => if fle x y then x :: y :: r else y :: fInsert x r

/-- The median, for an even count the mean of the two middle values. -/
def fMedian (l : List F64) : F64 :=
  let a := l.foldl (fun a x => fInsert x a) []
  let n := a.length
  if n % 2 = 1 then fel a (n / 2) else fscale (fadd (fel a (n / 2 - 1)) (fel a (n / 2))) (-1)

/-- The component-wise median of fixes; headings are taken as differences from the first. -/
def medianFix (c : Nat) (zs : List FVec) : FVec :=
  match zs with
  | [] => []
  | z :: _ => (List.range z.length).map (fun i =>
      if c = 1 then fadd (fel z i) (fMedian (zs.map (fun y => fwrap (fsub (fel y i) (fel z i))))) else fMedian (zs.map (fel · i)))

/-! ## Gate statistics of the frame -/

/-- The references with data in the present frame: none when its ESTIMATE missed (R165). -/
def State.frameWork (s : State) : List RefWork := if s.est.frame = s.crs.frame then s.est.work else []

/-- What the frame found of a reference. -/
def State.workOf (s : State) (r : Nat) : Option RefWork := s.frameWork.find? (fun w => w.ref == r)

/-- The class has no ADMITTED reference and is in bootstrap (R158). -/
def State.bootstraps (s : State) (c : Nat) : Bool := (s.cls c).boot && (s.refsIn c 2).isEmpty

/-- The candidates of a bootstrap with a fix of the frame. -/
def State.candidates (s : State) (c : Nat) : List RefWork :=
  (s.refsIn c 1).filterMap (fun r => (s.workOf r).filter (fun w => !w.fixZ.isEmpty))

/-- ρ of a reference: against the candidates' median in bootstrap, else against its judge (R153, R158). The distance from
the median is taken in the covariance of the candidate's own fix alone: DESIGN CHOICE (assumption 103). -/
def State.frameRho (s : State) (c : Nat) (w : RefWork) : Option F64 :=
  if s.bootstraps c ∧ (s.refSt w.ref).state = 1 then
    if w.fixZ.isEmpty then none
    else some (fixRho (fixDiff c w.fixZ (medianFix c ((s.candidates c).map (·.fixZ)))) w.fixV)
  else w.rho

/-- RHO of the status, 0.01. -/
def rhoCode (x : F64) : Nat := (max 0 (min 0xFFFE (toI (fmul x (ofI 100))))).toNat

/-- The gate count of a reference with data, and its re-admission or bootstrap count (R154, R158, R166). -/
def State.gateRef (d : List Byte) (w : RefWork) (rho : Option F64) (s : State) : State :=
  let r := rfRef d
  let x := s.refSt r
  let s := s.putRef r { x with
    noData := false, lastData := s.crs.frame, lastTick := s.tickCourse, rows := w.rows
    rho := (rho.map rhoCode).getD x.rho }
  match rho with
  | none => s
  | some p =>
    if inGateOf d p then
      s.putRef r { s.refSt r with gateCnt := 0, readmit := if x.state = 1 then x.readmit + 1 else x.readmit }
    else
      (s.putRef r { s.refSt r with gateCnt := min (x.gateCnt + 1) (u16 d 0x12), readmit := 0 }).countRefN r 1 (·.fails)
        (fun y o => { y with fails := o })

/-- The gate statistics of every reference with data; each ρ is that of the state before the vote. -/
def State.gateAll (s : State) : State :=
  (s.refDescs.filterMap (fun d => (s.workOf (rfRef d)).map (fun w => (d, w, s.frameRho (rfClass d) w)))).foldl
    (fun s p => s.gateRef p.1 p.2.1 p.2.2) s

/-! ## Silence (R159, R160) -/

/-- One of a disputed pair has fallen silent: the other goes to WARMING and the dispute ends (R157, R160). -/
def State.disputeSilent (c r : Nat) (s : State) : State :=
  (s.pairsOf c r).foldl (fun s p =>
    let s := s.endDispute c p
    if (s.refSt (p.other r)).state = 3 then s.setRef (p.other r) 1 2 else s) s

/-- The level of silence of one reference at a VOTE. -/
def State.silenceRef (d : List Byte) (s : State) : State :=
  let r := rfRef d
  let x := s.refSt r
  let quiet := s.refSilent d
  let limit := ((s.quoin (rfEntry d)).map qnSilence).getD 0
  let old := (x.state = 1 ∨ x.state = 2 ∨ x.state = 3) ∧ x.lastTick + limit ≤ s.tickCourse ∧ (s.workOf r).isNone
  if x.state = 0 then s
  else if x.state = 4 then
    if quiet ∨ (x.by160 ∧ (s.workOf r).isNone) then s else s.setRef r (if s.refBlind d then 5 else 1) 3
  else if quiet ∨ old then
    let s := s.setRef r 4 3
    let s := s.putRef r { s.refSt r with by160 := !quiet && decide old }
    if x.state = 3 then s.disputeSilent (rfClass d) r else s
  else s

/-- The references made SILENT or returned at this VOTE. -/
def State.silenceAll (s : State) : State := s.refDescs.foldl (fun s d => s.silenceRef d) s

/-! ## The vote (R155) -/

/-- The member with the largest ρ; ties go to the lower REF. -/
def largestRho (l : List (Nat × F64)) : Option Nat :=
  (l.foldl (fun (b : Option (Nat × F64)) p => match b with
    | some q => if flt q.2 p.2 then some p else b
    | none => some p) none).map (·.1)

/-- The vote of a class. -/
def State.voteClass (c : Nat) (s : State) : State :=
  let mine := (s.refsIn c 2).filterMap (fun r => (s.workOf r).map (fun w => (r, w.rho.getD f0)))
  let full := mine.filter (fun p => match s.refDesc p.1 with
    | some d => decide (u16 d 0x12 ≤ (s.refSt p.1).gateCnt)
    | none => false)
  match largestRho full, mine with
  | none, _ => s
  | some _, [a, b] =>
    let s := (s.setRef a.1 3 2).setRef b.1 3 2
    (s.putCls c { s.cls c with pairs := (s.cls c).pairs ++ [{ a := a.1, b := b.1, agree := 0 }] }).raise 22 .alarm 0 0 a.1 []
  | some worst, _ => s.setRef worst 1 1

/-! ## Disputes (R157) -/

/-- The pair agrees in this frame: none when one of the two has no fix. -/
def State.pairAgrees (s : State) (c a b : Nat) : Option Bool :=
  match s.workOf a, s.workOf b, s.refDesc a, s.refDesc b with
  | some x, some y, some da, some db =>
    if x.fixZ.isEmpty ∨ y.fixZ.isEmpty then none
    else some (fle (fixRho (fixDiff c x.fixZ y.fixZ) (madd x.fixV y.fixV)) (fmax (rfGate da) (rfGate db)))
  | _, _, _, _ => none

/-- How the dispute of a pair goes on: the host disabled one of the two, another reference has been admitted, or the two
agree for the larger of their READMIT values. -/
def State.disputePair (c : Nat) (s : State) (p : Dispute) : State :=
  let on (r : Nat) : Bool := (s.refSt r).state == 3
  if on p.a && on p.b then
    if (s.refsIn c 2).any (fun r => (s.refSt r).since == s.crs.frame) then
      ((s.endDispute c p).setRef p.a 1 2).setRef p.b 1 2
    else
      let put (n : Nat) : State := s.putCls c { s.cls c with
        pairs := (s.cls c).pairs.map (fun q => if q.a = p.a ∧ q.b = p.b then { q with agree := n } else q) }
      match s.pairAgrees c p.a p.b with
      | none => s
      | some false => put 0
      | some true =>
        let need (r : Nat) : Nat := ((s.refDesc r).map (u16 · 0x14)).getD 0
        if max (need p.a) (need p.b) ≤ p.agree + 1 then ((s.endDispute c p).setRef p.a 2 2).setRef p.b 2 2 else put (p.agree + 1)
  else
    let s := s.endDispute c p
    if on p.a then s.setRef p.a 2 2 else if on p.b then s.setRef p.b 2 2 else s

/-- The disputes of a class, each pair by itself. -/
def State.disputeClass (c : Nat) (s : State) : State := (s.cls c).pairs.foldl (State.disputePair c) s

/-! ## Removal (R152, R156) -/

/-- The main result after the references in X have left, and every filter shifted; the filters of X become copies. A
reference whose filter failed gives no shift. DEDUCED (assumption 18). -/
def State.removeLeft (s : State) : State :=
  let x := s.est.left.eraseDups
  match s.est.filters with
  | [] => s.withEst { s.est with left := [] }
  | f :: _ =>
    let with' := x.filter (fun j => !s.est.failed.contains (j + 1))
    let add (m : FVec) (p : FMat) : FVec × FMat := with'.foldl (fun a j =>
      let g := s.est.filters.getD (j + 1) f
      (vadd a.1 (vsub g.mean f.mean), madd a.2 (msub g.cov f.cov))) (m, p)
    let main : Filt := { mean := (add f.mean f.cov).1, cov := (add f.mean f.cov).2 }
    let fs : List Filt := s.est.filters.zipIdx.map (fun p =>
      if p.2 = 0 then main
      else if x.contains (p.2 - 1) then main
      else { mean := (add p.1.mean p.1.cov).1, cov := (add p.1.mean p.1.cov).2 })
    if x.isEmpty then s else s.withEst { s.est with filters := fs, left := [] }

/-- A filter strays by more than 10 standard deviations of P⁺_m in N, E or ψ (R152). -/
def strays (main f : Filt) : Bool :=
  [0, 1, 2].any (fun i =>
    let d := fsub (fel f.mean i) (fel main.mean i)
    flt (fmul (ofI 100) (mel f.cov i i)) (fmul d d))

/-- Filters that failed or strayed become copies of the main filter; event source 28. -/
def State.resetFilters (s : State) : State :=
  match s.est.filters with
  | [] => s
  | main :: _ =>
    let bad := (List.range 17).filter (fun m => m ≠ 0 ∧ (s.est.failed.contains m ∨ strays main (s.est.filters.getD m main)))
    let fs := s.est.filters.zipIdx.map (fun p => if bad.contains p.2 then main else p.1)
    bad.foldl (fun s m => s.raise 28 .notice 0 0 (m - 1) []) (s.withEst { s.est with filters := fs, failed := [] })

/-! ## Admission (R158, R166) -/

/-- The states of a class in a filter are set to a mean with its variance; their covariances with other states are
cleared. DEDUCED (assumption 18). -/
def Filt.seed (c : Nat) (z : FVec) (v : FMat) (f : Filt) : Filt :=
  let idx := if c = 1 then [2] else [0, 1]
  let place (i : Nat) : Nat := if c = 1 then 0 else i
  { mean := idx.foldl (fun m i => vput i (fel z (place i)) m) f.mean
    cov := mof 18 18 (fun i j =>
      if idx.contains i ∧ idx.contains j then mel v (place i) (place j)
      else if idx.contains i ∨ idx.contains j then f0 else mel f.cov i j) }

/-- The information-weighted mean of fixes, with its variance; headings are weighted as differences from the first. -/
def weightedFix (c : Nat) (ws : List RefWork) : FVec × FMat :=
  let n := if c = 1 then 1 else 2
  let z0 := ((ws.map (·.fixZ)).headD [])
  let infos := ws.map (fun w => (minv n w.fixV, vadd z0 (fixDiff c w.fixZ z0)))
  let sum := infos.foldl (fun a p => madd a p.1) (mzero n)
  let b := infos.foldl (fun a p => vadd a (mvec p.1 p.2)) (List.replicate n f0)
  let v := minv n sum
  (mvec v b, v)

/-- The bootstrap of a class ends: the agreement with its median counts no further for those left in WARMING (R158, R166). -/
def State.endBoot (c : Nat) (s : State) : State :=
  if (s.cls c).boot then
    let s := (s.refsIn c 1).foldl (fun s r => s.putRef r { s.refSt r with readmit := 0 }) s
    s.putCls c { s.cls c with boot := false }
  else s

/-- The bootstrap of a class: candidates whose count has reached INIT_PERIOD are admitted, and the first admission sets the
class's states in every filter. -/
def State.bootClass (c : Nat) (s : State) : State :=
  let ready := (s.candidates c).filter (fun w => decide (u16 (s.sect 2) 0x4C ≤ (s.refSt w.ref).readmit))
  if ready.isEmpty then s else
  let f := weightedFix c ready
  let s := s.withEst { s.est with filters := s.est.filters.map (Filt.seed c f.1 f.2) }
  let s := s.endBoot c
  ready.foldl (fun s w => s.setRef w.ref 2 0) s

/-- Re-admission outside bootstrap: the count has reached READMIT. -/
def State.readmitClass (c : Nat) (s : State) : State :=
  ((s.refsIn c 1).filter (fun r => match s.refDesc r with
    | some d => decide (u16 d 0x14 ≤ (s.refSt r).readmit) && (s.workOf r).isSome
    | none => false)).foldl (fun s r => s.setRef r 2 0) s

/-- Admissions of a class at a VOTE. -/
def State.admitClass (c : Nat) (s : State) : State := if s.bootstraps c then s.bootClass c else s.readmitClass c

/-! ## Coasting and loss (R168, R169) -/

/-- The larger eigenvalue of the N–E block. -/
def posVariance (p : FMat) : F64 :=
  let a := mel p 0 0
  let b := mel p 1 1
  let c := mel p 0 1
  let h := fscale (fsub a b) (-1)
  fadd (fscale (fadd a b) (-1)) (fsqrt (fadd (fmul h h) (fmul c c)))

/-- σ of a class exceeds its limit. -/
def State.sigmaOver (s : State) (c : Nat) : Bool :=
  match s.est.filters with
  | [] => false
  | f :: _ =>
    let hull := s.sect 2
    if c = 1 then flt (baRad (u32 hull 0x54)) (fsqrt (mel f.cov 2 2)) else flt (milliF (u32 hull 0x50)) (fsqrt (posVariance f.cov))

/-- A coasting class is lost: event source 24, and it returns to bootstrap. -/
def State.loseClass (c : Nat) (s : State) : State :=
  let k := s.cls c
  let far := decide (1000000000 * u16 (s.sect 2) 0x4E ≤ s.clk.now - k.coastAt)
  if k.coasting ∧ k.lost = false ∧ (far ∨ s.sigmaOver c) then
    let s := (s.refsIn c 1).foldl (fun s r => s.putRef r { s.refSt r with readmit := 0 }) s
    (s.putCls c { k with lost := true, boot := true }).raise 24 .notice 0 0 noIndex []
  else s

/-- Coasting begins, ends, or turns into loss. -/
def State.coastClass (c : Nat) (s : State) : State :=
  let k := s.cls c
  if (s.refsIn c 2).isEmpty then
    if k.everAdmitted = false then s
    else if k.coasting = false then
      ((s.putCls c { k with coasting := true, coastAt := s.clk.now }).raise 23 .notice 0 0 noIndex []).loseClass c
    else s.loseClass c
  else
    let s := s.endBoot c
    let s := s.putCls c { s.cls c with everAdmitted := true, coasting := false, lost := false }
    let s := if k.coasting then s.raise 23 .notice 1 0 noIndex [] else s
    if k.lost then s.raise 24 .notice 1 0 noIndex [] else s

/-! ## The estimate record (R170) -/

/-- A number of a state in its reporting unit, as a word. -/
def stateWord (f : Filt) (i : Nat) : List Byte :=
  let x := toI (fmul (fel f.mean i) (stateUnit i))
  if i = 2 ∨ i = 13 then ibytes 4 x else ibytes 4 (satI 32 x)

/-- A standard deviation in its unit, saturated. -/
def sigmaCode (v u : F64) (top : Nat) : Nat := (max 0 (min (top : Int) (toI (fmul (fsqrt v) u)))).toNat

/-- The class is coasting, lost or not yet admitted: its two flags. -/
def State.classFlags (s : State) (c : Nat) : Nat :=
  let k := s.cls c
  b2n k.coasting * (4 * (c + 1)) + b2n (k.lost || !k.everAdmitted) * (16 * (c + 1))

/-- The estimate record of the frame, fresh (R170). Bit 7 also says no grid beyond 25 km from an origin that is set: DESIGN
CHOICE (assumption 106). -/
def State.estRecord (s : State) : List Byte :=
  let f := s.est.filters.headD { mean := [], cov := [] }
  let pos := (s.cls 0).everAdmitted
  let head := (s.cls 1).everAdmitted
  let adm := (List.range 16).foldl (fun a r => if (s.refSt r).state = 2 then a + 2 ^ r else a) 0
  let flags := 2 * b2n (s.itemHeld 2) + s.classFlags 0 + s.classFlags 1
    + 64 * b2n ((s.cls 0).disputed || (s.cls 1).disputed) + 128 * b2n s.refGrid.isNone + 256 * b2n (!s.est.imuHad)
    + 512 * b2n s.est.seeded
  let sg (i top : Nat) : Nat := sigmaCode (mel f.cov i i) (stateUnit i) top
  let deg (x : F64) (k : Int) : Int := toI (fdiv (fmul x (ofI (180 * k))) fpi)
  let wave := fsqrt (fadd (fmul (fel f.mean 9) (fel f.mean 9)) (fmul (fel f.mean 11) (fel f.mean 11)))
  let top16 (x : Int) : Nat := (max 0 (min 0xFFFF x)).toNat
  wbytes s.crs.frame ++ wbytes s.crs.frame ++ lebytes 2 flags ++ lebytes 2 adm
    ++ ([0, 1, 2, 3, 4, 5, 6, 7, 8].map (stateWord f)).flatten
    ++ lebytes 2 (if pos then sg 0 0xFFFF else 0xFFFF) ++ lebytes 2 (if pos then sg 1 0xFFFF else 0xFFFF)
    ++ lebytes 4 (if head then sg 2 0xFFFFFFFF else 0xFFFFFFFF)
    ++ (if s.est.attOn then ibytes 2 (satI 16 (deg s.est.roll 100)) ++ ibytes 2 (satI 16 (deg s.est.pitch 100)) else [0, 0, 0, 0])
    ++ lebytes 2 (top16 (toI (fmul wave (ofI 1000)))) ++ lebytes 2 (top16 (deg (fabs (fel f.mean 13)) 1000))

/-! ## VOTE -/

/-- SEEDED stands until both classes have admitted a reference (R167). -/
def State.seededUntil (s : State) : State :=
  s.withEst { s.est with seeded := s.est.seeded && !((s.cls 0).everAdmitted && (s.cls 1).everAdmitted) }

/-- WAVE_P of the frame's estimate record for the mean of R195: at its tick the one held, at VOTE the fresh one. -/
def State.noteWave (s : State) : State :=
  let tk := s.frameTime
  if s.est.record.isEmpty then s else
  s.withCtl { s.ctl with
    waves := (tk, u16 (padTo 64 s.est.record) 0x3C) :: s.ctl.waves.filter (fun p => decide (p.1 ≠ tk ∧ tk - 60000000000 < p.1)) }

/-- The work of VOTE in its order: gate counts, silence, vote, removal, resets, admissions, disputes, coasting, record. -/
def State.vote (s : State) : State :=
  let s := s.gateAll.silenceAll
  let s := (s.voteClass 0).voteClass 1
  let s := s.removeLeft.resetFilters
  let s := (s.admitClass 0).admitClass 1
  let s := (s.disputeClass 0).disputeClass 1
  let s := ((s.coastClass 0).coastClass 1).gridRadius.seededUntil
  let s := (s.withEst { s.est with record := s.estRecord }).noteWave
  s.withEst { s.est with voted := Vector.ofFn (fun c => !(s.refsIn c.val 2).isEmpty) }

/-- VOTE (R154 to R160). -/
def execVote (t : Nat) (s : State) : Host.Outcome State Fault Refusal :=
  .next <| s.runItem 3 t fun s => if s.est.fresh then s.vote else s

/-- REF_SILENT: the level of silence of one reference (R160). -/
def execRefSilent (t ref : Nat) (s : State) : Host.Outcome State Fault Refusal :=
  .next <| (s.instant t).whileRunning fun s =>
    match s.refDesc ref with
    | some d => if s.est.fresh then s.silenceRef d else s
    | none => s

/-- REF_READMISSION_COMPLETE (R166): a WARMING reference outside bootstrap whose count has reached READMIT. -/
def execRefReadmissionComplete (t ref : Nat) (s : State) : Host.Outcome State Fault Refusal :=
  .next <| (s.instant t).whileRunning fun s =>
    match s.refDesc ref with
    | some d =>
      if (s.refSt ref).state = 1 ∧ s.bootstraps (rfClass d) = false ∧ u16 d 0x14 ≤ (s.refSt ref).readmit then
        (s.setRef ref 2 0).coastClass (rfClass d)
      else s
    | none => s

/-- BOOTSTRAP_ADMISSION (R158): the candidates of the reference's class that have agreed for INIT_PERIOD. -/
def execBootstrapAdmission (t ref : Nat) (s : State) : Host.Outcome State Fault Refusal :=
  .next <| (s.instant t).whileRunning fun s =>
    match s.refDesc ref with
    | some d => if s.bootstraps (rfClass d) then (s.bootClass (rfClass d)).coastClass (rfClass d) else s
    | none => s

/-- CLASS_COAST_TIMEOUT (R169). -/
def execClassCoastTimeout (t cls : Nat) (s : State) : Host.Outcome State Fault Refusal :=
  .next <| (s.instant t).whileRunning fun s => if cls < 2 then s.loseClass cls else s

/-! ## Commands (R148, R171, R172, spec/17 R424) -/

/-- GRID_ORIGIN takes effect at a frame tick. -/
def State.takeGridOrigin (w : Waiting) (lat lon height : Word) (s : State) : State :=
  if s.ctl.mode ≠ 0 then s.refuse w 1 else (s.setOrigin (lat, lon, height)).done w 0

/-- REF_ENABLE takes effect at a frame tick. -/
def State.takeRefEnable (w : Waiting) (ref on : Nat) (s : State) : State :=
  match s.refDesc ref with
  | none => s.refuse w 1
  | some d =>
    let st := (s.refSt ref).state
    let s := if on % 2 = 0 then (if st = 0 then s else s.setRef ref 0 4)
      else if st = 0 then s.setRef ref (s.enabledState d) 4 else s
    s.done w 0

/-- REF_TARGET takes effect at a frame tick; a capture waits for the reference's first record of the frame. -/
def State.takeRefTarget (w : Waiting) (ref capture : Nat) (n e : Word) (s : State) : State :=
  match s.refDesc ref with
  | none => s.refuse w 3
  | some d =>
    if rfNeeds d = false then s.refuse w 2
    else if capture % 2 = 0 then (s.setTarget ref (n.toInt, e.toInt)).done w 0
    else if tbit (u8 d 4) 1 = false ∨ (s.refsIn 0 2).isEmpty then s.refuse w 1
    else s.putRef ref { s.refSt ref with capture := (s.refSt ref).capture ++ [{ w with due := s.crs.frame }] }

/-- The 32-byte status of a reference. -/
def State.refStatus (s : State) (r : Nat) : List Byte :=
  let x := s.refSt r
  let ovf := b2n x.fails.ovf + 2 * b2n x.lateApplied.ovf + 4 * b2n x.lateDropped.ovf + 8 * b2n x.rowsDropped.ovf
  [byte r, byte x.state, byte x.cause, byte x.gateCnt] ++ lebytes 2 x.rho ++ lebytes 2 x.rows
    ++ lebytes 2 (min x.readmit 0xFFFF) ++ lebytes 2 (b2n x.noData) ++ wbytes (if x.noData then 0 else x.lastData)
    ++ lebytes 2 x.fails.count.toNat ++ lebytes 2 x.lateApplied.count.toNat ++ lebytes 2 x.lateDropped.count.toNat
    ++ lebytes 2 x.rowsDropped.count.toNat ++ [byte ovf, 0, 0, 0] ++ wbytes x.since

/-- REF_STATUS is served; CLEAR clears the four counters after reading. -/
def State.serveRefStatus (w : Waiting) (ref : Nat) (s : State) : State :=
  if (s.refDesc ref).isNone then s.refuse w 1 else
  let out := s.refStatus ref
  let s := if w.hdr.opts.getLsbD 0 then s.putRef ref { s.refSt ref with
      fails := Occ.zero, lateApplied := Occ.zero, lateDropped := Occ.zero, rowsDropped := Occ.zero }
    else s
  s.answer w out

/-- EST_QUERY returns the latest estimate record; zeros before the first. -/
def State.serveEstQuery (w : Waiting) (s : State) : State := s.answer w (padTo 64 s.est.record)

end Sys2Proof.Machine
end

