-- ==== Sys2Proof/Machine/Control.lean ====
section
/-! DEFINITION. DP modes, the reference model and the control law (spec/07_control_modes.md). Inside the law, values are in
m, rad, N and N·m; what the records carry is rounded as R133 and R137 say. -/

namespace Sys2Proof.Machine
open Sys2Proof

/-! ## What LAW reads -/

/-- The estimate record as LAW reads it. -/
structure EstView where
  /-- North, mm. -/
  n : Int
  /-- East, mm. -/
  e : Int
  /-- Heading, 2⁻³² turn. -/
  psi : Word
  /-- u, v in m/s and r in rad/s. -/
  nu : FVec
  /-- Bias, N and N·m. -/
  b : FVec
  /-- FLAGS. -/
  flags : Nat
  /-- WAVE_P. -/
  wave : Nat
  deriving DecidableEq, Repr

/-- The latest estimate record; zeros before the first. -/
def State.estView (s : State) : EstView :=
  let r := padTo 64 s.est.record
  { n := i32 r 0x0C, e := i32 r 0x10, psi := word (u32 r 0x14)
    nu := [milliF (i32 r 0x18), milliF (i32 r 0x1C), baRad (i32 r 0x20)]
    b := [tenthF (i32 r 0x24), tenthF (i32 r 0x28), tenthF (i32 r 0x2C)], flags := u16 r 8, wave := u16 r 0x3C }

/-- Heading of an estimate, rad. -/
def EstView.ang (v : EstView) : F64 := baRad v.psi.toNat

/-- A byte, half or word of the LIMITS section. -/
def State.lim16 (s : State) (o : Nat) : Nat := u16 (s.sect 0x0F) o
/-- A 32-bit field of LIMITS. -/
def State.lim32 (s : State) (o : Nat) : Nat := u32 (s.sect 0x0F) o
/-- A bit of LIMITS FLAGS. -/
def State.limFlag (s : State) (i : Nat) : Bool := tbit (s.lim32 0) i
/-- TAU_MAX of an axis, 0.1 N or 0.1 N·m. -/
def State.tauMax (s : State) (a : Nat) : Nat := s.lim32 (4 + 4 * a)

/-- A body vector's two components from the grid: Rz(ψ)ᵀ. -/
def gridToBody (psi : F64) (w : FVec) : FVec :=
  let c := fcos psi
  let n := fsin psi
  [fadd (fmul c (fel w 0)) (fmul n (fel w 1)), fsub (fmul c (fel w 1)) (fmul n (fel w 0))]

/-- A level body vector on the grid: Rz(ψ). -/
def bodyToLevel (psi : F64) (w : FVec) : FVec :=
  let c := fcos psi
  let n := fsin psi
  [fsub (fmul c (fel w 0)) (fmul n (fel w 1)), fadd (fmul n (fel w 0)) (fmul c (fel w 1))]

/-! ## The reference model (R180) -/

/-- Desired point, m. -/
def Ctl.refPos (c : Ctl) : FVec := vadd c.start (vscale c.line.s c.dir)
/-- Desired velocity. -/
def Ctl.refVel (c : Ctl) : FVec := vscale c.line.v c.dir
/-- Desired acceleration. -/
def Ctl.refAcc (c : Ctl) : FVec := vscale c.line.a c.dir
/-- A quantity along the turn, signed clockwise. -/
def Ctl.turned (c : Ctl) (x : F64) : F64 := if c.hDir then fneg x else x
/-- Desired heading, rad. -/
def Ctl.refPsi (c : Ctl) : F64 := fadd c.hStart (c.turned c.turn.s)
/-- Desired heading, 2⁻³² turn. -/
def Ctl.refPsiWord (c : Ctl) : Word := wordI (radBa c.refPsi)
/-- A desired coordinate, mm. -/
def Ctl.refMm (c : Ctl) (i : Nat) : Int := satI 32 (toI (fmul (ofI 1000) (fel c.refPos i)))

/-- A straight line to a new target, m, from a point: the speed is the component of the desired velocity along it. -/
def Ctl.drawFrom (c : Ctl) (p target : FVec) : Ctl :=
  let d := vsub target p
  let len := vnorm d
  let u := if fle len f0 then [f0, f0] else d.map (fdiv · len)
  { c with start := p, dir := u, line := { d := len, s := f0, v := fdot u c.refVel, a := f0 } }

/-- A straight line from the present desired point. -/
def Ctl.drawTo (c : Ctl) (target : FVec) : Ctl := c.drawFrom c.refPos target

/-- 2π. -/
def fTurn : F64 := fmul (ofI 2) fpi

/-- A turn to a heading: 0 shortest, 1 clockwise, 2 anticlockwise. -/
def Ctl.turnTo (c : Ctl) (target : F64) (how : Nat) : Ctl :=
  let d := fwrap (fsub target c.refPsi)
  let cw := if flt d f0 then fadd d fTurn else d
  let anti := if how = 1 then false else if how = 2 then true else flt d f0
  let size := if how = 1 then cw else if how = 2 then (if fle d f0 then fneg d else fsub fTurn d) else fabs d
  let rate := c.turned c.turn.v
  { c with hStart := c.refPsi, hDir := anti, turn := { d := size, s := f0, v := if anti then fneg rate else rate, a := f0 } }

/-- One frame of a model toward D: limits of rate and acceleration, and what counts as rest (R180). -/
def RefLine.advance (x : RefLine) (dt w vmax amax rest : F64) : RefLine :=
  let a := fclamp amax (fsub (fmul (fmul w w) (fsub x.d x.s)) (fmul (fmul (ofI 2) w) x.v))
  let v := fclamp vmax (fadd x.v (fmul a dt))
  let s := fadd x.s (fmul v dt)
  if flt (fabs (fsub x.d s)) rest ∧ flt (fabs v) rest then { d := x.d, s := x.d, v := f0, a := f0 }
  else { d := x.d, s := s, v := v, a := a }

/-- 1 mm, and 1 mm/s. -/
def fMilli : F64 := fq 1 1000

/-- ω of the reference model. -/
def State.refOmega (s : State) : F64 := fdiv fTurn (fq (s.lim16 0x18) 10)

/-- The axes that the mode holds automatically: position, heading (R174). -/
def autoPos (m : Nat) : Bool := decide (3 ≤ m)
/-- Heading. -/
def autoHead (m : Nat) : Bool := decide (2 ≤ m)

/-! ## Gain sets (R194 to R196) -/

/-- The gain sets of an image. -/
def imgGains (b : List Byte) : List (List Byte) :=
  let x := imgSection b 8
  (List.range (x.length / 64)).map (recAt x 64)

/-- A gain set by number. -/
def State.gainSetOf (s : State) (k : Nat) : Option (List Byte) := (imgGains s.image).find? (fun g => u8 g 0 == k)

/-- The sets that serve a mode. -/
def State.gainsFor (s : State) (m : Nat) : List (List Byte) := (imgGains s.image).filter (fun g => tbit (u8 g 1) m)

/-- The candidate of automatic choice for a mode (R195 steps 1 and 2). -/
def State.gainCandidate (s : State) (m : Nat) : Nat :=
  let sum := sumNat (s.ctl.waves.map (·.2))
  let n := s.ctl.waves.length
  let fit := (s.gainsFor m).find? (fun g => decide (sum ≤ u16 g 2 * n))
  match fit with
  | some g => u8 g 0
  | none => ((s.gainsFor m).getLast?.map (u8 · 0)).getD 0

/-- A gain of an axis, in N or N·m per unit of the error; yaw gains are in tens. -/
def gainOf (g : List Byte) (o a : Nat) : F64 := if a = 2 then ofN (10 * u32 g (o + 8)) else ofN (u32 g (o + 4 * a))

/-- Limit of an integral state: ILIM / KI, none where KI is 0. -/
def zLimit (g : List Byte) (z : F64) (a : Nat) : F64 :=
  let ki := gainOf g 0x1C a
  let lim := fq (u32 g (0x28 + 4 * a)) 10
  if fle ki f0 then z else if flt lim (fmul ki (fabs z)) then (if flt z f0 then fneg (fdiv lim ki) else fdiv lim ki) else z

/-- The set in use, or its values, change: a blend runs from the law just in use, itself blended where a blend still runs,
and the new integral states start so that their share of the demand is kept (R196). -/
def State.useGains (k : Nat) (g : List Byte) (s : State) : State :=
  let c := s.ctl
  if c.gainSet = k ∧ c.gains = g then s else
  let z0 (a : Nat) : F64 :=
    let ki := gainOf g 0x1C a
    if fle ki f0 then f0 else zLimit g (fdiv (fmul (gainOf c.gains 0x1C a) (fel c.z a)) ki) a
  let blend : List GainBlend := if c.gains.isEmpty then [] else { n := 0, gains := c.gains, z := c.z } :: c.gainBlend
  let s1 := s.withCtl { c with gainSet := k, gains := g, z := vof 3 z0, gainBlend := blend, gainHold := 0 }
  if c.gainSet = k then s1 else s1.raise 37 .notice 3 k noIndex []

/-- The candidate of a mode is put in use; where no set serves the mode, the set in use stays. DESIGN CHOICE (assumption
19). -/
def State.useCandidate (m : Nat) (s : State) : State :=
  if (s.gainsFor m).isEmpty then s else
  let k := s.gainCandidate m
  s.useGains k ((s.gainSetOf k).getD [])

/-- After an activation: a set that is gone gives way to its candidate, for mode 3 where none serves the mode in effect,
a set with new values blends to them (R196). -/
def State.activateGains (s : State) : State :=
  match s.gainSetOf s.ctl.gainSet with
  | some g => s.useGains s.ctl.gainSet g
  | none =>
    let k := s.gainCandidate (if (s.gainsFor s.ctl.mode).isEmpty then 3 else s.ctl.mode)
    s.useGains k ((s.gainSetOf k).getD [])

/-! ## Mode changes (R175 to R178) -/

/-- The integral states of the old laws of running gain blends, those of some axes at zero. -/
def Ctl.zeroBlends (c : Ctl) (axes : List Nat) : List GainBlend :=
  c.gainBlend.map (fun b => { b with z := axes.foldl (fun z a => vput a f0 z) b.z })

/-- The desired point of the entered axes is the estimate, with its velocity and no acceleration (R176). -/
def Ctl.enterPos (c : Ctl) (v : EstView) : Ctl :=
  let w := bodyToLevel v.ang v.nu
  let speed := vnorm w
  { c with
    sp := [v.n, v.e, (c.sp.getD 2 0)], start := [milliF v.n, milliF v.e]
    dir := if fle speed f0 then [f0, f0] else w.map (fdiv · speed)
    line := { d := f0, s := f0, v := speed, a := f0 }, z := [f0, f0, fel c.z 2], gainBlend := c.zeroBlends [0, 1], capPos := false }

/-- The heading axis is entered. -/
def Ctl.enterHead (c : Ctl) (v : EstView) : Ctl :=
  let r := fel v.nu 2
  { c with
    sp := [c.sp.getD 0 0, c.sp.getD 1 0, (v.psi.toNat : Int)], hStart := v.ang, hDir := flt r f0
    turn := { d := f0, s := f0, v := fabs r, a := f0 }, z := [fel c.z 0, fel c.z 1, f0], gainBlend := c.zeroBlends [2]
    capHead := false }

/-- The setpoint is the present desired point, which keeps its velocity (R177). -/
def Ctl.holdHere (c : Ctl) : Ctl :=
  let p := c.refPos
  let h := c.refPsi
  let v := c.line.v
  { c with
    sp := [c.refMm 0, c.refMm 1, (c.refPsiWord.toNat : Int)], start := p, line := { d := f0, s := f0, v := v, a := f0 }
    hStart := h, turn := { d := f0, s := f0, v := c.turn.v, a := f0 } }

/-- A waypoint's position, m. -/
def Waypoint.pos (w : Waypoint) : FVec := [milliF w.n, milliF w.e]

/-- Waypoint `i` of the track. -/
def Ctl.wp (c : Ctl) (i : Nat) : Waypoint := c.track.getD i { n := 0, e := 0, speed := 0, rule := 0, heading := 0 }

/-- Speed of a leg, m/s. -/
def State.legSpeed (s : State) (i : Nat) : F64 :=
  let v := (s.ctl.wp i).speed
  milliF (if v = 0 then s.lim16 0x46 else v)

/-- Direction of a leg, rad. -/
def Ctl.legAngle (c : Ctl) (i : Nat) : F64 :=
  let d := vsub (c.wp (i + 1)).pos (c.wp i).pos
  fatan2 (fel d 1) (fel d 0)

/-- The heading of a leg by its rule. -/
def Ctl.legHeading (c : Ctl) (i : Nat) : F64 :=
  let w := c.wp i
  if w.rule = 1 then baRad w.heading.toNat else if w.rule = 2 then fadd (c.legAngle i) (baRad w.heading.toInt) else c.legAngle i

/-- The model begins leg `i` at `s0` with a speed (R189, R190). -/
def State.startLeg (i : Nat) (s0 v0 : F64) (s : State) : State :=
  let c := s.ctl
  let a := (c.wp i).pos
  let d := vsub (c.wp (i + 1)).pos a
  let len := vnorm d
  let u := if fle len f0 then [f0, f0] else d.map (fdiv · len)
  let c := { c with phase := i, start := a, dir := u, line := { d := len, s := fmax f0 (fmin len s0), v := v0, a := f0 } }
  s.withCtl (c.turnTo (c.legHeading i) 0)

/-- The stand-off point, m (R192). -/
def State.standOff (s : State) : FVec :=
  match s.ctl.berth with
  | some b =>
    let q := fscale fpi (-1)
    let a := fadd (baRad b.2.2.1.toNat) (if b.2.2.2 = 1 then fneg q else q)
    let d := milliF (s.lim32 0x60)
    [fadd (milliF b.1) (fmul d (fcos a)), fadd (milliF b.2.1) (fmul d (fsin a))]
  | none => [f0, f0]

/-- The berth point, m. -/
def Ctl.berthPos (c : Ctl) : FVec := match c.berth with
  | some b => [milliF b.1, milliF b.2.1]
  | none => [f0, f0]

/-- Distance of a point from a segment. -/
def segDist (p a b : FVec) : F64 :=
  let d := vsub b a
  let l := fdot d d
  let t := if fle l f0 then f0 else fmax f0 (fmin f1 (fdiv (fdot (vsub p a) d) l))
  vnorm (vsub p (vadd a (vscale t d)))

/-- The model at the entry of a mode: the line of a track or a berth, or a stop at the desired point. DEDUCED (assumption
19). -/
def State.enterModel (old new : Nat) (s : State) : State :=
  if new = 4 then
    let c := s.ctl
    let d := vsub (c.wp 1).pos (c.wp 0).pos
    let len := vnorm d
    let u := if fle len f0 then [f0, f0] else d.map (fdiv · len)
    s.startLeg 0 (fdot u (vsub c.refPos (c.wp 0).pos)) (fmax f0 (fmin (s.legSpeed 0) (fdot u c.refVel)))
  else if new = 5 then
    let h := match s.ctl.berth with
      | some b => baRad b.2.2.1.toNat
      | none => s.ctl.refPsi
    s.withCtl ({ s.ctl with phase := 0, tolFrom := none }.drawTo s.standOff |>.turnTo h 0)
  else if new = 3 ∧ (old = 4 ∨ old = 5) then s.withCtl s.ctl.holdHere
  else s

/-- The joystick at a change of mode: leaving modes 1 and 2 ends its lost state with event source 35, and the LAW of an
entry checks the points anew (R184). -/
def State.joyOnEntry (old new : Nat) (s : State) : State :=
  let into : Bool := decide (new = 1 ∨ new = 2)
  let s1 := s.withCtl { s.ctl with joyLost := s.ctl.joyLost && into, joyEntry := into }
  if s.ctl.joyLost ∧ (old = 1 ∨ old = 2) ∧ into = false then s1.raise 35 .notice 1 1 noIndex [] else s1

/-- A mode change: cause 0 by the host, 1 to 5 forced (R176, R184, R195, R197, R201). The axes that become automatic, and the
model of the mode, wait for the estimate of the frame, which LAW captures (`enterDue`). -/
def State.changeMode (new cause : Nat) (s : State) : State :=
  let old := s.ctl.mode
  let s := s.withCtl { s.ctl with
    mode := new, cause := cause, forced := decide (cause ≠ 0), phase := 0, trackEnd := false, xteAlarm := false
    modeBlend := if new = 0 then none else some (0, s.ctl.tau), joyComp := s.limFlag 2
    capPos := autoPos new && (s.ctl.capPos || !autoPos old), capHead := autoHead new && (s.ctl.capHead || !autoHead old)
    cameFrom := some old }
  let s := s.joyOnEntry old new
  let serves := match s.gainSetOf s.ctl.gainSet with
    | some g => tbit (u8 g 1) new
    | none => false
  let s := if serves then s else (s.withCtl { s.ctl with gainFixed := false }).useCandidate new
  s.raise 32 (if cause = 0 then .notice else .alarm) 3 new noIndex [word cause]

/-- What a mode change of this frame still has to take from its estimate: the entered axes, then the mode's model (R176). -/
def State.enterDue (v : EstView) (s : State) : State :=
  match s.ctl.cameFrom with
  | none => s
  | some old =>
    let c := if s.ctl.capHead then s.ctl.enterHead v else s.ctl
    let c := if c.capPos then c.enterPos v else c
    (s.withCtl { c with cameFrom := none }).enterModel old c.mode

/-- A class of references had an ADMITTED member by the latest VOTE, that of the previous frame (R175). -/
def State.classAdmitted (s : State) (c : Nat) : Bool := vget s.est.voted c false

/-- The conditions of mode 2 hold (R175). -/
def State.canHead (s : State) : Bool := s.classAdmitted 1 && !(s.gainsFor 2).isEmpty

/-- The conditions of mode 3. -/
def State.canPos (s : State) : Bool := s.canHead && s.classAdmitted 0 && s.est.origin.isSome

/-- The reason for which a mode may not be entered, 0 for none (R175). -/
def State.entryReason (m : Nat) (s : State) : Nat :=
  let v := s.estView
  let p : FVec := [milliF v.n, milliF v.e]
  match m with
  | 0 => 0
  | 1 => if s.hasImage then 0 else 1
  | 2 => if s.canHead then 0 else 2
  | 3 => if s.canPos then 0 else 3
  | 4 =>
    if s.canPos ∧ s.limFlag 0 ∧ 2 ≤ s.ctl.track.length ∧ fle (segDist p (s.ctl.wp 0).pos (s.ctl.wp 1).pos) (milliF (s.lim32 0x4C))
    then 0 else 4
  | 5 =>
    if s.canPos ∧ s.limFlag 1 ∧ s.ctl.berth.isSome ∧ fle (vnorm (vsub p s.standOff)) (milliF (s.lim32 0x5C)) then 0 else 5
  | _ => 6

/-- The forced change that applies in this frame (R177). -/
def State.forcedChange (s : State) : Option (Nat × Nat) :=
  let m := s.ctl.mode
  if (s.cls 1).lost ∧ 2 ≤ m then some (1, 1)
  else if (s.cls 0).lost ∧ 3 ≤ m then some (2, 2)
  else if m = 5 ∧ s.limFlag 1 = false then some (3, 3)
  else if m = 4 ∧ s.limFlag 0 = false then some (3, 4)
  else if m = 4 ∧ s.ctl.trackEnd then some (3, 5)
  else none

/-- The setpoint is the last waypoint. -/
def Ctl.toLastWaypoint (c : Ctl) : Ctl :=
  let w := c.wp (c.track.length - 1)
  { c with sp := [w.n, w.e, c.sp.getD 2 0] }.drawTo w.pos

/-- Step 4 of R177, at the estimate of the frame. -/
def State.applyForced (v : EstView) (s : State) : State :=
  let s := s.withCtl { s.ctl with forced := false }
  match s.forcedChange with
  | some (m, k) =>
    let s := (s.changeMode m k).enterDue v
    if k = 5 then s.withCtl s.ctl.toLastWaypoint else s
  | none => s

/-! ## Wind and current (R185 to R187) -/

/-- The wind entry of a place, 0xFF for none. -/
def State.windEntry (s : State) (i : Nat) : Nat := u8 (s.sect 3) (0x360 + i)

/-- LAW takes the wind records handed over: the latest of each entry counts. -/
def State.takeWind (s : State) : State :=
  s.sni.handed.foldl (fun s r =>
    [0, 1].foldl (fun s i =>
      if r.kind = 5 ∧ r.entry = s.windEntry i then
        let raw : F64 × F64 × Bool := (milliF (u32 r.data 4), baRad (u32 r.data 0), u8 r.data 8 == 1)
        s.withCtl { s.ctl with
          windBad := s.ctl.windBad.set i r.unusable
          windRaw := if r.unusable then s.ctl.windRaw else s.ctl.windRaw.set i raw }
      else s) s) s

/-- A wind entry that an activation changes has no record until its new sensor delivers one (R185). -/
def State.activateWind (old : List Byte) (s : State) : State :=
  [0, 1].foldl (fun s i =>
    if u8 (imgSection old 3) (0x360 + i) = s.windEntry i then s
    else s.withCtl { s.ctl with windBad := s.ctl.windBad.set i true }) s

/-- The wind entry in use. -/
def State.windUse (s : State) : Option Nat :=
  [0, 1].find? (fun i => s.windEntry i != 0xFF && !(s.ctl.windBad.getD i true) && !(s.entrySt (s.windEntry i)).silent)

/-- Coefficient `o` of the ENVIRONMENT section at a relative direction, 0.1 N (R185). -/
def windCoeff (env : List Byte) (o : Nat) (gamma : F64) : F64 :=
  let q := fdiv (fmul gamma (ofI 18)) fpi
  let i := ffloor q
  let f := fsub q (ofI i)
  let at' (k : Int) : F64 := ofI (i32 env (o + 4 * (k % 36).toNat))
  fadd (fmul (fsub f1 f) (at' i)) (fmul f (at' (i + 1)))

/-- A first-order filter over one frame. DESIGN CHOICE (assumption 19). -/
def firstOrder (x m dt tau : F64) : F64 := fadd x (fmul (fsub m x) (fdiv dt tau))

/-- The wind filters of a frame. -/
def State.windStep (v : EstView) (s : State) : State :=
  let s := s.takeWind
  let env := s.sect 3
  let c := s.ctl
  match s.windUse with
  | none =>
    let s1 := s.withCtl { c with gust := [f0, f0, f0], windOn := false, windLost := true }
    if c.windLost then s1 else s1.raise 36 .notice 0 0 noIndex []
  | some i =>
    let raw := c.windRaw.getD i (f0, f0, false)
    let g := if raw.2.2 then fsub raw.2.1 v.ang else raw.2.1
    let tau := fq (u16 env 0x362) 10
    let speed := if c.windOn then firstOrder c.windV raw.1 s.frameDt tau else raw.1
    let ang := if c.windOn then fadd c.windG (fmul (fwrap (fsub g c.windG)) (fdiv s.frameDt tau)) else g
    let gam := let w := fwrap ang; if flt w f0 then fadd w fTurn else w
    let force := vof 3 (fun a => fdiv (fmul (windCoeff env (0x90 * a) gam) (fmul speed speed)) (ofI 10))
    let mean := vof 3 (fun a => if c.windOn = false then fel force a else firstOrder (fel c.mean a) (fel force a) s.frameDt (ofN (u16 env 0x364)))
    let s1 := s.withCtl { c with
      windV := speed, windG := gam, mean := mean, gust := vsub force mean, windOn := true, windLost := false }
    if c.windLost then s1.raise 36 .notice 1 0 noIndex [] else s1

/-- The current report (R187): speed mm/s and direction. -/
def State.currentReport (v : EstView) (s : State) : Nat × Word :=
  let env := s.sect 3
  let f := (vsub v.b s.ctl.mean).map (fmul (ofI 10))
  let fx := fel f 0
  let fy := fel f 1
  let best := (List.range 36).foldl (fun (b : Option (F64 × Nat × F64)) i =>
    let cx := ofI (i32 env (0x1B0 + 4 * i))
    let cy := ofI (i32 env (0x240 + 4 * i))
    let d := fadd (fmul fx cx) (fmul fy cy)
    if fle d f0 then b else
    let k := fdiv d (fadd (fmul cx cx) (fmul cy cy))
    let m := vnorm [fsub fx (fmul k cx), fsub fy (fmul k cy)]
    match b with
    | some x => if flt m x.1 then some (m, i, k) else b
    | none => some (m, i, k)) none
  match best with
  | some x => ((max 0 (min 0xFFFF (toI (fmul (fsqrt x.2.2) (ofI 1000))))).toNat, v.psi + wordI (divRound (x.2.1 * 4294967296) 36))
  | none => (0, 0)

/-! ## The joystick (R183, R184) -/

/-- A point has not been updated for `n` courses. -/
def State.pointStale (s : State) (p : Pt) (n : Nat) : Bool :=
  p.full.isNone || decide (p.course + n ≤ s.crs.courseCnt)

/-- The joystick is lost: a point of bad quality or not updated for JOY_STALE courses. -/
def State.joyGone (s : State) : Bool :=
  [0, 1, 2].any (fun i => let p := s.viewPoint (s.lim32 0x38 + i); !p.good || s.pointStale p (s.lim16 0x3C))

/-- The joystick value of an axis, 0.1 %. -/
def State.joyValue (s : State) (a : Nat) : Int :=
  let v := max (-1000) (min 1000 (s.viewPoint (s.lim32 0x38 + a)).value.toInt)
  if v.natAbs ≤ s.lim16 0x3E then 0 else v

/-- The points of the joystick at LAW; a lost joystick raises source 35 in the frame of an entry too (R184). -/
def State.checkJoy (s : State) : State :=
  if s.ctl.mode ≠ 1 ∧ s.ctl.mode ≠ 2 then s else
  let gone := s.joyGone
  let s1 := s.withCtl { s.ctl with joyLost := gone, joyEntry := false }
  if gone then (if s.ctl.joyLost ∧ s.ctl.joyEntry = false then s1 else s1.raise 35 .alarm 0 0 noIndex [])
  else if s.ctl.joyLost then s1.raise 35 .notice 1 0 noIndex [] else s1

/-! ## Progress of the models (R189 to R193) -/

/-- The turn model of a frame. -/
def State.advanceTurn (s : State) : State :=
  let rest := baRad 1
  s.withCtl { s.ctl with
    turn := s.ctl.turn.advance s.frameDt s.refOmega (baRad (s.lim32 0x20)) (baRad (s.lim32 0x24)) rest }

/-- The line model of a frame with a limit of speed. -/
def State.advanceLine (vmax : F64) (s : State) : State :=
  s.withCtl { s.ctl with line := s.ctl.line.advance s.frameDt s.refOmega vmax (milliF (s.lim16 0x1C)) fMilli }

/-- The desired point is at the end of its line. -/
def Ctl.arrived (c : Ctl) : Bool := flt (fsub c.line.d c.line.s) fMilli

/-- Signed distance of the vessel from the leg, m, positive to starboard. -/
def Ctl.crossTrack (c : Ctl) (v : EstView) : F64 :=
  let d := vsub [milliF v.n, milliF v.e] c.start
  fsub (fmul (fel c.dir 0) (fel d 1)) (fmul (fel c.dir 1) (fel d 0))

/-- AUTO_TRACK: the point along its leg, the next leg, the cross-track alarm. -/
def State.advanceTrack (v : EstView) (s : State) : State :=
  let p : FVec := [milliF v.n, milliF v.e]
  let i := s.ctl.phase
  let proj := fdot s.ctl.dir (vsub p s.ctl.start)
  let ahead := flt (milliF (s.lim32 0x50)) (fsub s.ctl.line.s proj)
  let s := if ahead then s.withCtl { s.ctl with line := { s.ctl.line with v := f0, a := f0 } } else s.advanceLine (s.legSpeed i)
  let near := fle (vnorm (vsub p (s.ctl.wp (i + 1)).pos)) (milliF (s.lim32 0x54))
  let s :=
    if s.ctl.arrived ∧ near ∧ s.ctl.trackEnd = false then
      let s := s.raise 34 .notice 0 0 (i + 1) []
      if i + 2 < s.ctl.track.length then s.startLeg (i + 1) f0 (fmin (s.legSpeed (i + 1)) s.ctl.line.v)
      else s.withCtl { s.ctl with trackEnd := true }
    else s
  let far := flt (milliF (s.lim32 0x58)) (fabs (s.ctl.crossTrack v))
  let s1 := s.withCtl { s.ctl with xteAlarm := far }
  if far = s.ctl.xteAlarm then s1
  else if far then s1.raise 34 .alarm 0 0 noIndex [] else s1.raise 34 .notice 1 0 noIndex []

/-- A berth phase begins; event source 34. -/
def State.berthPhase (k : Nat) (s : State) : State :=
  (s.withCtl { s.ctl with phase := k, tolFrom := none }).raise 34 .notice 3 k noIndex []

/-- The vessel is within the tolerances of the stand-off point. -/
def State.berthNear (v : EstView) (s : State) : Bool :=
  match s.ctl.berth with
  | some b => fle (vnorm (vsub [milliF v.n, milliF v.e] s.standOff)) (milliF (s.lim32 0x64))
      && decide ((wdiff v.psi b.2.2.1).natAbs ≤ s.lim32 0x68)
  | none => false

/-- AUTO_BERTH: the point along its phase's line, and the phases. -/
def State.advanceBerth (v : EstView) (s : State) : State :=
  let k := s.ctl.phase
  if k = 0 then
    let s := s.advanceLine (milliF (s.lim16 0x6C))
    let since := if s.berthNear v then some (s.ctl.tolFrom.getD s.clk.now) else none
    let s := s.withCtl { s.ctl with tolFrom := since }
    match since with
    | some t =>
      if t + 10000000000 ≤ s.clk.now then
        (s.withCtl (s.ctl.drawFrom s.standOff s.ctl.berthPos)).berthPhase 1
      else s
    | none => s
  else if k = 1 then
    let x := s.ctl.line
    let a := milliF (s.lim16 0x1C)
    let slow := fadd (fsqrt (fmax f0 (fmul (fmul (ofI 2) a) (fsub x.d x.s)))) (milliF (s.lim16 0x70))
    let s := s.advanceLine (fmin (milliF (s.lim16 0x6E)) slow)
    if s.ctl.arrived then s.berthPhase 2 else s
  else s.advanceLine (milliF (s.lim16 0x6E))

/-- The models of a frame in the mode in effect. -/
def State.advanceModels (v : EstView) (s : State) : State :=
  let m := s.ctl.mode
  let s := if autoHead m then s.advanceTurn else s
  if m = 3 then s.advanceLine (milliF (s.lim16 0x1A)) else if m = 4 then s.advanceTrack v
  else if m = 5 then s.advanceBerth v else s

/-! ## The law (R181 to R183, R196, R197) -/

/-- Errors of position and heading in the body frame. -/
def Ctl.errors (c : Ctl) (v : EstView) : FVec :=
  let d := gridToBody v.ang (vsub [milliF v.n, milliF v.e] c.refPos)
  [fel d 0, fel d 1, fwrap (fsub v.ang c.refPsi)]

/-- An axis stops integrating: clamped with e of the demand's sign, the estimate of the frame stale (`held`: ESTIMATE was
missed; a result from a held input is fresh, R49), or a class that it depends on coasting (R182). -/
def Ctl.stopsIntegral (c : Ctl) (v : EstView) (held : Bool) (e : FVec) (a : Nat) : Bool :=
  let t := c.tau.getD a 0
  let same := (flt f0 (fel e a) && decide (0 < t)) || (flt (fel e a) f0 && decide (t < 0))
  (c.clamped.getD a false && same) || tbit v.flags 0 || held || tbit v.flags (if a = 2 then 3 else 2)

/-- The demand of one gain set, N and N·m, and its integral states after the frame. -/
def State.demand (s : State) (v : EstView) (g : List Byte) (z : FVec) : FVec × FVec :=
  let c := s.ctl
  let e := c.errors v
  let vd := gridToBody v.ang c.refVel
  let ad := gridToBody v.ang c.refAcc
  let nu := [fsub (fel v.nu 0) (fel vd 0), fsub (fel v.nu 1) (fel vd 1), fsub (fel v.nu 2) (c.turned c.turn.v)]
  let auto (a : Nat) : Bool := if a = 2 then autoHead c.mode else autoPos c.mode
  let z1 := vof 3 (fun a =>
    if auto a then zLimit g (if c.stopsIntegral v (s.item 2).stale e a then fel z a else fadd (fel z a) (fmul (fel e a) s.frameDt)) a else fel z a)
  let ma := s.hull.force [fel ad 0, fel ad 1, c.turned c.turn.a]
  let bf := fq (u16 g 0x36) 1000
  let gf := fq (u16 g 0x34) 1000
  let ff (a : Nat) : F64 := fadd (fmul bf (fel v.b a)) (fmul gf (fel c.gust a))
  let tau := vof 3 (fun a =>
    if auto a then
      let fb := fadd (fadd (fmul (gainOf g 4 a) (fel e a)) (fmul (gainOf g 0x10 a) (fel nu a))) (fmul (gainOf g 0x1C a) (fel z1 a))
      fsub (fadd (fneg fb) (fel ma a)) (ff a)
    else
      let j := if c.joyLost then f0 else fmul (fq (s.joyValue a) 1000) (fq (s.tauMax a) 10)
      if c.joyComp then fsub j (ff a) else j)
  (tau, z1)

/-- Weights of a blend: (1 − w)·old + w·new. -/
def blendVec (n len : Nat) (old new : FVec) : FVec :=
  let w := fmin f1 (fq n len)
  List.zipWith (fun a b => fadd (fmul (fsub f1 w) a) (fmul w b)) old new

/-- The demands of the old laws of running blends, newest first, each with its blend one frame on. -/
def State.oldLaws (v : EstView) (s : State) : List (GainBlend × FVec) :=
  s.ctl.gainBlend.map (fun b =>
    let d := s.demand v b.gains b.z
    ({ b with n := b.n + 1, z := d.2 }, d.1))

/-- The blended demand: each law over the blend of those before it, the oldest first (R196). -/
def blendLaws (len : Nat) (new : FVec) : List (GainBlend × FVec) → FVec
  | [] => new
  | b :: r => blendVec b.1.n len (blendLaws len b.2 r) new

/-- The demand of the frame, with the blends of gain sets and of modes; a blend of gain sets counts on in STANDBY, where no
law forms a demand (R178, R181, R182, R196). -/
def State.formDemand (v : EstView) (s : State) : State :=
  let c := s.ctl
  if c.mode = 0 then
    s.withCtl { c with
      tau := [0, 0, 0], clamped := [false, false, false], modeBlend := none
      gainBlend := (c.gainBlend.map (fun (b : GainBlend) => { b with n := b.n + 1 })).filter (fun b => decide (b.n < s.lim16 0x42)) }
  else
  let new := s.demand v c.gains c.z
  let old := s.oldLaws v
  let tau := blendLaws (s.lim16 0x42) new.1 old
  let top (a : Nat) : F64 := fq (s.tauMax a) 10
  let cl := (List.range 3).map (fun a => flt (top a) (fabs (fel tau a)))
  let tau := vof 3 (fun a => fclamp (top a) (fel tau a))
  let mb := c.modeBlend.map (fun b => (b.1 + 1, b.2))
  let tau := match mb with
    | some b => blendVec b.1 (s.lim16 0x40) (b.2.map (fun x => fq x 10)) tau
    | none => tau
  s.withCtl { c with
    tau := tau.map (fun x => toI (fmul x (ofI 10))), clamped := cl, z := new.2
    gainBlend := (old.map (·.1)).filter (fun b => decide (b.n < s.lim16 0x42))
    modeBlend := match mb with
      | some b => if s.lim16 0x40 ≤ b.1 then none else some b
      | none => none }

/-! ## Excursion (R198) -/

/-- The four limits exceeded: position warning and alarm, heading warning and alarm. -/
def State.excursions (v : EstView) (s : State) : List Bool :=
  let e := s.ctl.errors v
  let pos := vnorm [fel e 0, fel e 1]
  let head := (radBa (fel e 2)).natAbs
  let m := s.ctl.mode
  [autoPos m && flt (milliF (s.lim32 0x28)) pos, autoPos m && flt (milliF (s.lim32 0x2C)) pos,
   autoHead m && decide (s.lim32 0x30 < head), autoHead m && decide (s.lim32 0x34 < head)]

/-- Event source 33 for each limit crossed: the alarm limits in the alarm class, the warning limits in the warning class
(R436). -/
def State.checkExcursion (v : EstView) (s : State) : State :=
  let new := s.excursions v
  let old := s.ctl.warn
  let s1 := s.withCtl { s.ctl with warn := new }
  (List.range 4).foldl (fun s i =>
    let a := old.getD i false
    let b := new.getD i false
    let live := if i < 2 then autoPos s.ctl.mode else autoHead s.ctl.mode
    if a = b ∨ live = false then s
    else s.raise 33 (if i % 2 = 1 then .alarm else .warning) (if b then 0 else 1) 0 noIndex []) s1

/-! ## Once a second, and the record -/

/-- Automatic choice of the gain set (R195). -/
def State.gainSecond (s : State) : State :=
  if s.ctl.gainFixed ∨ (s.gainsFor s.ctl.mode).isEmpty then s else
  let k := s.gainCandidate s.ctl.mode
  let n := if k = s.ctl.gainSet then 0 else s.ctl.gainHold + 1
  let s1 := s.withCtl { s.ctl with gainHold := n }
  if s.lim16 0x44 ≤ n ∧ n ≠ 0 then s1.useCandidate s.ctl.mode else s1

/-- The second of device time in which the frame opens. -/
def State.frameSecond (s : State) : Int := s.frameTime / 1000000000

/-- Automatic gain choice, at the first LAW of each second of device time. DESIGN CHOICE (assumption 19). -/
def State.gainOnce (s : State) : State :=
  if s.frameSecond = s.ctl.second then s else (s.withCtl { s.ctl with second := s.frameSecond }).gainSecond

/-- The current report, at the first LAW of each second. -/
def State.currentOnce (v : EstView) (s : State) : State :=
  if s.frameSecond = s.ctl.curSecond then s else
  let r := s.currentReport v
  s.withCtl { s.ctl with curSecond := s.frameSecond, curSpd := r.1, curDir := r.2 }

/-- The work of once a second. -/
def State.everySecond (v : EstView) (s : State) : State := s.gainOnce.currentOnce v

/-- JOYSTICK_LOST: the points are lost in a mode that checks them (R184). -/
def execJoystickLost (t : Nat) (s : State) : Host.Outcome State Fault Refusal :=
  .next <| (s.instant t).whileRunning fun s => if s.joyGone then s.checkJoy else s

/-- GAIN_AUTO_EVALUATION (R195). -/
def execGainAutoEvaluation (t : Nat) (s : State) : Host.Outcome State Fault Refusal :=
  .next <| (s.instant t).whileRunning fun s => if s.tableRuns then s.gainOnce else s

/-- CURRENT_REPORT (R187). -/
def execCurrentReport (t : Nat) (s : State) : Host.Outcome State Fault Refusal :=
  .next <| (s.instant t).whileRunning fun s => if s.tableRuns then s.currentOnce s.estView else s

/-- XTE of the record, mm. -/
def State.xteMm (v : EstView) (s : State) : Int :=
  let mm (x : F64) : Int := satI 32 (toI (fmul x (ofI 1000)))
  if s.ctl.mode = 4 then mm (s.ctl.crossTrack v)
  else if s.ctl.mode = 5 then
    mm (vnorm (vsub [milliF v.n, milliF v.e] (if s.ctl.phase = 0 then s.standOff else s.ctl.berthPos)))
  else 0

/-- The control record (R200), fresh. -/
def State.ctlRecord (v : EstView) (s : State) : List Byte :=
  let c := s.ctl
  let w (i : Nat) : Nat := b2n (c.warn.getD i false)
  let flags := 2 * b2n (s.itemHeld 3) + 4 * b2n c.modeBlend.isSome + 8 * b2n (!c.gainBlend.isEmpty) + 16 * b2n c.forced
    + 32 * w 0 + 64 * w 1 + 128 * w 2 + 256 * w 3 + 512 * b2n c.joyLost + 1024 * b2n c.windLost
    + 2048 * b2n (c.clamped.getD 0 false) + 4096 * b2n (c.clamped.getD 1 false) + 8192 * b2n (c.clamped.getD 2 false)
    + 16384 * b2n c.joyComp
  let wind := (max 0 (min 0xFFFF (toI (fmul c.windV (ofI 100))))).toNat
  wbytes s.crs.frame ++ wbytes s.crs.frame ++ [byte c.mode, byte c.phase] ++ lebytes 2 flags ++ [byte c.gainSet, byte c.cause]
    ++ lebytes 2 c.curSpd ++ (c.tau.map (fun x => ibytes 4 (satI 32 x))).flatten
    ++ ibytes 4 (c.sp.getD 0 0) ++ ibytes 4 (c.sp.getD 1 0) ++ ibytes 4 (c.sp.getD 2 0)
    ++ ibytes 4 (c.refMm 0) ++ ibytes 4 (c.refMm 1) ++ wbytes c.refPsiWord ++ wbytes c.curDir
    ++ lebytes 2 wind ++ [0, 0] ++ ibytes 4 (s.xteMm v)

/-- The position and heading a SETPOINT names, mm and 2⁻³² turn: relative ones at the estimate of the frame. -/
def EstView.target (v : EstView) (relative : Bool) (n e heading : Word) : Int × Int × Word :=
  if relative then
    let d := bodyToLevel v.ang [milliF n.toInt, milliF e.toInt]
    (v.n + toI (fmul (ofI 1000) (fel d 0)), v.e + toI (fmul (ofI 1000) (fel d 1)), v.psi + heading)
  else (n.toInt, e.toInt, heading)

/-- A SETPOINT is applied, or refused when it differs too much from the desired point (R179). -/
def State.applySetpoint (v : EstView) (r : SpWait) (s : State) : State :=
  let pos := tbit r.flags 0
  let head := tbit r.flags 1
  let t := v.target (tbit r.flags 2) r.n r.e r.heading
  let p : FVec := [milliF t.1, milliF t.2.1]
  let far := pos && flt (milliF (s.lim32 0x10)) (vnorm (vsub p s.ctl.refPos))
  let wide := head && decide (s.lim32 0x14 < (wdiff t.2.2 s.ctl.refPsiWord).natAbs)
  let m := s.ctl.mode
  if (pos ∧ m ≠ 3) ∨ (head ∧ m ≠ 2 ∧ m ≠ 3) then s.refuse r.cmd 7
  else if far ∨ wide then s.refuse r.cmd 8 else
  let c := if pos then { s.ctl with sp := [t.1, t.2.1, s.ctl.sp.getD 2 0] }.drawTo p else s.ctl
  let c := if head then
      { c with sp := [c.sp.getD 0 0, c.sp.getD 1 0, (t.2.2.toNat : Int)] }.turnTo (baRad t.2.2.toNat) r.turn
    else c
  (s.withCtl c).done r.cmd 0

/-- The SETPOINTs that wait for the estimate of the frame, in turn. -/
def State.takeSetpoints (v : EstView) (s : State) : State :=
  let l := s.ctl.spWait
  l.foldl (fun s r => s.applySetpoint v r) (s.withCtl { s.ctl with spWait := [] })

/-- The work of LAW in its order. -/
def State.law (s : State) : State :=
  let v := s.estView
  let s := ((s.enterDue v).takeSetpoints v).applyForced v
  let s := (s.windStep v).checkJoy
  let s := (s.advanceModels v).formDemand v
  let s := (s.checkExcursion v).everySecond v
  s.withCtl { s.ctl with record := s.ctlRecord v }

/-! ## Commands (R175, R179, R188, R192, R195) -/

/-- DP_MODE takes effect at a frame tick. -/
def State.takeDpMode (w : Waiting) (mode joy : Nat) (s : State) : State :=
  let go (s : State) : State :=
    let s := if joy = 1 ∨ joy = 2 then s.withCtl { s.ctl with joyComp := decide (joy = 1) } else s
    s.done w 0
  if mode = s.ctl.mode then go s
  else if s.entryReason mode = 0 then go (s.changeMode mode 0) else s.refuse w (s.entryReason mode)

/-- SETPOINT takes effect at a frame tick. One whose reference is the estimate of the frame, or the desired point that a mode
change of this frame takes from it, is completed by LAW; so is one behind such a one. -/
def State.takeSetpoint (w : Waiting) (flags turn : Nat) (n e heading : Word) (s : State) : State :=
  let m := s.ctl.mode
  let r : SpWait := { cmd := w, flags := flags, turn := turn, n := n, e := e, heading := heading }
  if (tbit flags 0 ∧ m ≠ 3) ∨ (tbit flags 1 ∧ m ≠ 2 ∧ m ≠ 3) then s.refuse w 7
  else if tbit flags 2 ∨ s.ctl.cameFrom.isSome ∨ s.ctl.spWait.isEmpty = false then
    s.withCtl { s.ctl with spWait := s.ctl.spWait ++ [r] }
  else s.applySetpoint s.estView r

/-- GAIN_SELECT takes effect at a frame tick. -/
def State.takeGainSelect (w : Waiting) (set : Nat) (s : State) : State :=
  if set = 0xFF then (s.withCtl { s.ctl with gainFixed := false, gainHold := 0 }).done w 0 else
  match s.gainSetOf set with
  | some g =>
    if tbit (u8 g 1) s.ctl.mode then ((s.withCtl { s.ctl with gainFixed := true }).useGains set g).done w 0 else s.refuse w 10
  | none => s.refuse w 10

/-- A waypoint from its 16 bytes. -/
def waypointOf (b : List Byte) : Waypoint :=
  { n := i32 b 0, e := i32 b 4, speed := u16 b 8, rule := u8 b 10, heading := word (u32 b 12) }

/-- TRK_V_MAX, its default while no image is in effect. DESIGN CHOICE (assumption 19). -/
def State.trackSpeedMax (s : State) : Nat := if s.hasImage then s.lim16 0x48 else 2000

/-- TRACK_LOAD takes effect at a frame tick; its length was checked at acceptance. -/
def State.takeTrackLoad (w : Waiting) (data : List Byte) (s : State) : State :=
  let recs := (List.range (data.length / 16)).map (recAt data 16)
  let bad := recs.any (fun b => decide (2 < u8 b 10) || u8 b 11 != 0 || decide (s.trackSpeedMax < u16 b 8))
  if s.ctl.mode = 4 then s.refuse w 7
  else if bad then s.refuse w 9
  else (s.withCtl { s.ctl with track := recs.map waypointOf }).done w 0

/-- BERTH_SET takes effect at a frame tick. -/
def State.takeBerthSet (w : Waiting) (n e heading : Word) (side : Nat) (s : State) : State :=
  if s.ctl.mode = 5 then s.refuse w 7
  else (s.withCtl { s.ctl with berth := some (n.toInt, e.toInt, heading, side) }).done w 0

/-- CTRL_QUERY. -/
def State.serveCtrlQuery (w : Waiting) (s : State) : State := s.answer w (padTo 64 s.ctl.record)

end Sys2Proof.Machine
end

