-- ==== Sys2Proof/Machine/AllocQp.lean ====
section
/-! DEFINITION. The quadratic programme that every allocation shares: units, power groups, cost, constraints, safe point and
data block (spec/08_thrust_allocation.md R202 to R208, R213 to R216; spec/09 R240, R241, R248; spec/10 R264, R266). Forces
are in 0.1 N and 0.1 N·m. -/

namespace Sys2Proof.Machine
open Sys2Proof

/-! ## Descriptors (R61, R224, R225) -/

/-- KIND of a unit. -/
def unKind (d : List Byte) : Nat := u8 d 1
/-- BUS. -/
def unBus (d : List Byte) : Nat := u8 d 2
/-- T_FWD. -/
def unFwd (d : List Byte) : F64 := ofN (u32 d 0x0C)
/-- T_REV. -/
def unRev (d : List Byte) : F64 := ofN (u32 d 0x10)
/-- The unit is an azimuth or a pump-jet. -/
def unAzi (d : List Byte) : Bool := unKind d == 1 || unKind d == 3
/-- P_RATED, W. -/
def unRated (d : List Byte) : F64 := ofN (u32 d 0x14)
/-- P_IDLE, W (R213). -/
def unIdle (d : List Byte) : F64 := fdiv (fmul (ofN (u16 d 0x32)) (unRated d)) (ofI 10000)
/-- T_lim of a thrust. -/
def unLim (d : List Byte) (t : F64) : F64 := if flt t f0 ∧ unAzi d = false then unRev d else unFwd d

/-- Power drawn at a thrust, W (R213). -/
def unitPower (d : List Byte) (t : F64) : F64 :=
  let l := unLim d t
  if fle l f0 then unIdle d
  else fadd (unIdle d) (fmul (fsub (unRated d) (unIdle d)) (fpow (fdiv (fabs t) l) (fq (u16 d 0x30) 1000)))

/-- A number in the header of the POWER section. -/
def State.pow16 (s : State) (o : Nat) : Nat := u16 (s.sect 5) o

/-- The unit record of the POWER section. -/
def State.unitPow (s : State) (u : Nat) : List Byte := powerUnit (s.sect 5) u

/-- The bus records. -/
def State.busRecs (s : State) : List (List Byte) :=
  let p := s.sect 5
  (List.range (u8 p 0x1B)).map (fun i => slice p (32 + 24 * u8 p 0x1A + 24 * i) 24)

/-- The forbidden sectors, start and end (R61). -/
def unSectors (d : List Byte) : List (Word × Word) :=
  ([(word (u32 d 0x20), word (u32 d 0x24)), (word (u32 d 0x28), word (u32 d 0x2C))]).filter (fun p => p.1 != p.2)

/-- The nearest sector clockwise: distance to its start, and its end. -/
def sectorCw (d : List Byte) (a : Word) : Option (Nat × Word) :=
  (unSectors d).foldl (fun b p =>
    let x := (p.1 - a).toNat
    match b with
    | some q => if x < q.1 then some (x, p.2) else b
    | none => some (x, p.2)) none

/-- The nearest sector anticlockwise: distance to its end, and its start. -/
def sectorAcw (d : List Byte) (a : Word) : Option (Nat × Word) :=
  (unSectors d).foldl (fun b p =>
    let x := (a - p.2).toNat
    match b with
    | some q => if x < q.1 then some (x, p.1) else b
    | none => some (x, p.1)) none

/-- The lesser of an angle, rad, and a distance to a sector. -/
def capAngle (th : F64) (x : Option (Nat × Word)) : F64 := match x with
  | some p => fmin th (baRad p.1)
  | none => th

/-! ## Power groups (R214, R215) -/

/-- What allocation keeps of a bus. -/
def State.busSt (s : State) (b : Nat) : BusSt := vget s.alloc.buses b BusSt.reset

/-- The tie point of a bus record reads closed. -/
def State.tieClosed (s : State) (r : List Byte) : Bool :=
  let n := u32 r 8
  n != 0xFFFFFFFF && (s.viewPoint n).good && (s.viewPoint n).value != 0

/-- The bus across a closed tie of a bus. -/
def State.tiedTo (s : State) (r : List Byte) : Option Nat :=
  let t := u8 r 1
  if t = u8 r 0 then none else
  (s.busRecs.find? (fun o => u8 o 0 == t && u8 o 1 == u8 r 0 && (s.tieClosed r || s.tieClosed o))).map (u8 · 0)

/-- A bus's availability is read (R215). -/
def State.takeBus (r : List Byte) (s : State) : State :=
  let b := u8 r 0
  let x := s.busSt b
  let p := s.viewPoint (u32 r 4)
  let ok := p.good && !s.pointStale p (s.pow16 0x14)
  let v : Int := if p.typ = 2 then p.value.toInt else p.value.toNat
  let fall : Int := u32 r 0x10
  let avail := if ok then v else match x.good with
    | some g => min g fall
    | none => fall
  let s := s.withAlloc { s.alloc with buses := vset s.alloc.buses b { x with
    good := if ok then some v else x.good, fallback := !ok, avail := avail - u32 r 0x0C } }
  if x.fallback = !ok then s else s.raise 39 .notice (if ok then 1 else 0) 2 b []

/-- A bus's tie is read; a change is reported once, on the lower bus (R214). -/
def State.takeTie (r : List Byte) (s : State) : State :=
  let b := u8 r 0
  let x := s.busSt b
  let t := s.tiedTo r
  let s := s.withAlloc { s.alloc with buses := vset s.alloc.buses b { x with tied := t.isSome } }
  if x.tied = t.isSome ∨ u8 r 1 < b then s else s.raise 39 .notice (if t.isSome then 0 else 1) 3 b []

/-- Power and tie points are read, once a frame (R215, R222). -/
def State.takePower (s : State) : State :=
  if s.alloc.powerAt = some s.crs.frame then s else
  let s := s.busRecs.foldl (fun s r => s.takeBus r) s
  let s := s.busRecs.foldl (fun s r => s.takeTie r) s
  s.withAlloc { s.alloc with powerAt := some s.crs.frame }

/-- The groups: lower bus, members, available power. -/
def State.powerGroups (s : State) : List (Nat × List Nat × Int) :=
  s.busRecs.filterMap (fun r =>
    let b := u8 r 0
    let t := u8 r 1
    if (s.busSt b).tied then
      if t < b then none else some (b, [b, t], (s.busSt b).avail + (s.busSt t).avail)
    else some (b, [b], (s.busSt b).avail))

/-! ## The programme -/

/-- A unit in an allocation problem. -/
structure QpUnit where
  /-- Held at zero. -/
  out : Bool
  /-- Direction about which c and s are taken, or rudder angle. -/
  dir : Word
  /-- Astern branch. -/
  astern : Bool
  /-- Bounds of f, c or f_p. -/
  lo : F64
  /-- Upper. -/
  hi : F64
  /-- Bounds of s. -/
  slo : F64
  /-- Upper. -/
  shi : F64
  /-- Previous value of the first variable. -/
  p1 : F64
  /-- Previous value of the second. -/
  p2 : F64
  deriving DecidableEq, Repr

/-- A unit held at zero. -/
def QpUnit.off (dir : Word) : QpUnit :=
  { out := true, dir := dir, astern := false, lo := f0, hi := f0, slo := f0, shi := f0, p1 := f0, p2 := f0 }

/-- An allocation problem before scaling. -/
structure AllocProblem where
  /-- The units in ascending UNIT order. -/
  units : List QpUnit
  /-- Demand. -/
  tau : FVec
  /-- W_RATE / 1,000. -/
  wrate : F64
  /-- Power constraints by bus: coefficients of the units' first variables, right side. -/
  power : List (Nat × FVec × F64)
  deriving DecidableEq, Repr

/-- Body force of one unit of a variable of an axis (R202, R203). -/
def axisForce (ax : Nat) (dir : Word) : FVec :=
  let a := baRad dir.toNat
  if ax = 0 then [f1, f0] else if ax = 1 ∨ ax = 4 then [f0, f1]
  else if ax = 2 then [fcos a, fsin a] else if ax = 3 then [fneg (fsin a), fcos a] else [f0, f0]

/-- Generalised force of a body force at a unit. -/
def unitMoment (d : List Byte) (f : FVec) : FVec :=
  [fel f 0, fel f 1, fdiv (fsub (fmul (ofI (i32 d 4)) (fel f 1)) (fmul (ofI (i32 d 8)) (fel f 0))) (ofI 1000)]

/-- A unit of a problem; a tag that names none is held at zero. -/
def AllocProblem.unit (p : AllocProblem) (u : Nat) : QpUnit := p.units.getD u (QpUnit.off 0)

/-- Bounds of a variable by its axis; the rudder lift has none of its own. -/
def QpUnit.bounds (x : QpUnit) (ax : Nat) : F64 × F64 :=
  if x.out then (f0, f0) else if ax = 3 then (x.slo, x.shi) else (x.lo, x.hi)

/-- The point of the bounds nearest zero. -/
def nearZero (b : F64 × F64) : F64 := fmin (fmax f0 b.1) b.2

/-- The rows of R202 for X, Y and N in the template's variables. -/
def State.axisRows (s : State) (t : List Byte) (p : AllocProblem) : FMat :=
  let cols := (tmTags t).map (fun g =>
    let ax := g.toNat / 256
    let u := g.toNat % 256
    if ax = 5 then [f0, f0, f0] else unitMoment (s.thruster u) (axisForce ax (p.unit u).dir))
  mof 3 cols.length (fun a j => fel (cols.getD j []) a)

/-- Place of a variable by axis and unit. -/
def tagAt (t : List Byte) (ax u : Nat) : Option Nat := (tmTags t).findIdx? (fun g => g.toNat == 256 * ax + u)

/-- Places of the slacks, in order. -/
def slackAt (t : List Byte) : List Nat :=
  ((tmTags t).zipIdx.filter (fun p => p.1.toNat / 256 == 5)).map (·.2)

/-- A row with these elements among `n`. -/
def sparseRow (n : Nat) (ps : List (Option Nat × F64)) : FVec :=
  ps.foldl (fun w p => match p.1 with
    | some j => vput j p.2 w
    | none => w) (List.replicate n f0)

/-- Constraint `i` of the template: row and right side. -/
def State.qpRow (s : State) (t : List Byte) (p : AllocProblem) (rows : FMat) (i : Nat) : FVec × F64 :=
  let n := tmNvar t
  let k := tmKind t i / 16
  let ix := tmKind t i % 16
  let u := tmUnit t i
  let x := p.unit u
  if k = 1 then (sparseRow n [(tagAt t ix u, f1)], (x.bounds ix).2)
  else if k = 2 then (sparseRow n [(tagAt t ix u, fneg f1)], fneg (x.bounds ix).1)
  else if k = 3 then
    let kap := milliF (u16 (s.unitPow u) 6)
    (sparseRow n [(tagAt t 0 u, if x.astern ∨ x.out then f0 else fneg kap), (tagAt t 4 u, if ix = 0 then f1 else fneg f1)], f0)
  else if k = 4 ∨ k = 5 then
    let sg (y : F64) := if k = 4 then y else fneg y
    let r := (rows.getD ix []).map sg
    match (slackAt t)[ix]? with
    | some j => (vput j (fneg f1) r, sg (fel p.tau ix))
    | none => (r, sg (fel p.tau ix))
  else if k = 6 then
    match p.power.find? (fun q => q.1 == ix) with
    | some q => (sparseRow n (q.2.1.zipIdx.map (fun c => ((tagAt t 0 c.2).or ((tagAt t 1 c.2).or (tagAt t 2 c.2)), c.1))), q.2.2)
    | none => (sparseRow n [], f0)
  else (sparseRow n [], f0)

/-- The data block of an allocation problem (R240, R243, R248), or none when a scaled number does not fit. -/
def State.qpData (s : State) (t : List Byte) (p : AllocProblem) : Option (List Int) :=
  let n := tmNvar t
  let m := tmNcon t
  let e := tmBexp t
  let rows := s.axisRows t p
  let slacks := slackAt t
  let cons := (List.range m).map (s.qpRow t p rows)
  let tags := tmTags t
  let tauMax (a : Nat) : F64 := ofN (s.tauMax a)
  let safe0 := tags.map (fun g => let ax := g.toNat / 256; if ax = 4 ∨ ax = 5 then f0 else nearZero ((p.unit (g.toNat % 256)).bounds ax))
  let rs (a : Nat) : Int :=
    match ((List.range m).filter (fun i => tmKind t i == 0x40 + a || tmKind t i == 0x50 + a)).map (tmRscale t) with
    | [] => 0
    | x :: r => r.foldl max x
  let tol := fscale (ofN (u32 t 0x14)) (e - 30)
  let slackOf (j : Nat) : Option Nat := slacks.findIdx? (· == j)
  let safe := safe0.zipIdx.map (fun c => match slackOf c.2 with
    | some a => if a < 3 then fadd (fabs (fsub (fel p.tau a) (fdot (rows.getD a []) safe0))) (fscale tol (rs a)) else c.1
    | none => c.1)
  let cost := tags.zipIdx.map (fun c =>
    let u := c.1.toNat % 256
    match slackOf c.2 with
    | some a => (fdiv (fmul (ofI 2) (ofN (u32 (s.sect 5) (4 * a)))) (fmul (tauMax a) (tauMax a)), f0)
    | none =>
      let t2 := let f := unFwd (s.thruster u); fmul f f
      let w := milliF (u16 (s.unitPow u) 2)
      let ax := c.1.toNat / 256
      let prev := if ax = 3 ∨ ax = 4 then (p.unit u).p2 else (p.unit u).p1
      (fdiv (fmul (ofI 2) (fadd w p.wrate)) t2, fneg (fdiv (fmul (fmul (ofI 2) p.wrate) prev) t2)))
  let v (j : Nat) : Int := tmVscale t j
  let q (x : F64) : Option Int :=
    let y := toI (fscale x (30 - e))
    if -2147483648 ≤ y ∧ y ≤ 2147483647 then some y else none
  let h := (List.range n).map (fun j => (List.range (j + 1)).map (fun i =>
    if i = j then q (fscale ((cost.getD j (f0, f0)).1) (2 * v j)) else some 0))
  let g := (List.range n).map (fun j => q (fscale ((cost.getD j (f0, f0)).2) (v j)))
  let a := (List.range m).map (fun i => (List.range n).map (fun j =>
    q (fscale (fel (cons.getD i ([], f0)).1 j) (v j - tmRscale t i))))
  let b := (List.range m).map (fun i => q (fscale ((cons.getD i ([], f0)).2) (-(tmRscale t i))))
  let x := (List.range n).map (fun j => q (fscale (fel safe j) (-(v j))))
  (h.flatten ++ g ++ a.flatten ++ b ++ x).mapM id

/-- The value of a variable in a result. -/
def solutionAt (t : List Byte) (x : List Int) (j : Nat) : F64 :=
  fscale (ofI (el x j)) (tmBexp t - 30 + tmVscale t j)

/-- The value of the variable of an axis and unit in a result, 0 where the template has none. -/
def solutionOf (t : List Byte) (x : List Int) (ax u : Nat) : F64 := match tagAt t ax u with
  | some j => solutionAt t x j
  | none => f0

/-- Some slack of a result exceeds TOL (R219, R271). -/
def State.slackOver (s : State) (t : List Byte) (x : List Int) : Bool :=
  ((slackAt t).take 3).zipIdx.any (fun p =>
    flt (fdiv (fmul (ofN (s.pow16 0x0E)) (ofN (s.tauMax p.2))) (ofI 1000)) (solutionAt t x p.1))

end Sys2Proof.Machine
end

