-- ==== Sys2Proof/Machine/Alloc.lean ====
section
/-! DEFINITION. Thrust allocation of a frame: LAW with its power points, DISPATCH, RELEASE, held commands and the commands
of allocation (spec/08_thrust_allocation.md R206 to R227, spec/02 R48). -/

namespace Sys2Proof.Machine
open Sys2Proof

/-- LAW (R174 to R200); power and tie points are read at its start (R215, R222). -/
def execLaw (t : Nat) (s : State) : Host.Outcome State Fault Refusal := .next (s.runItem 4 t fun s => s.takePower.law)

/-- AVAIL_POINT_STALE: a bus whose point is unusable turns to its fallback (R215). Once LAW has read the points of the
frame, the change waits for the next LAW, which reads them all, so that RELEASE and the cases rest on one reading (R222,
R262). -/
def execAvailPointStale (t bus : Nat) (s : State) : Host.Outcome State Fault Refusal :=
  .next <| (s.instant t).whileRunning fun s =>
    match s.busRecs.find? (fun r => u8 r 0 == bus) with
    | some r =>
      let p := s.viewPoint (u32 r 4)
      if s.alloc.powerAt ≠ some s.crs.frame ∧ (s.busSt bus).fallback = false ∧ (p.good = false ∨ s.pointStale p (s.pow16 0x14)) then s.takeBus r else s
    | none => s

/-- What allocation keeps of a unit. -/
def State.unitSt (s : State) (u : Nat) : UnitSt := vget s.alloc.units u UnitSt.reset

/-- Replace it. -/
def State.putUnit (u : Nat) (x : UnitSt) (s : State) : State := s.withAlloc { s.alloc with units := vset s.alloc.units u x }

/-! ## Availability (R211, R212) -/

/-- The partner's course-0 removal mask of the present frame, while PAIRED (R358). -/
def State.partnerMask (s : State) : Option Half :=
  match s.rdn.pMask with
  | some (f, m) => if s.rdn.pstate = 3 ∧ f = s.crs.frame then some m else none
  | none => none

/-- The removal mask that DISPATCH uses: the own one, and while PAIRED the partner's too (R357, R358). -/
def State.dispatchMask (s : State) : Half :=
  if s.btr.lostByBeat then 0xFFFF#16 else s.btr.remove ||| s.partnerMask.getD 0

/-- The first condition of R211 that fails, but for the one on the mode; 0 for none. -/
def State.outReason (s : State) (u : Nat) : Nat :=
  let p := s.viewPoint (u32 (s.unitPow u) 12)
  if p.good = false ∨ p.value = 0 then 2
  else if s.alloc.disabled.getLsbD u then 3
  else if s.dispatchMask.getLsbD u then 4 else 0

/-- A point that an image may leave out. -/
def State.optPoint (s : State) (n : Nat) : Option Pt := if n = 0xFFFFFFFF then none else some (s.viewPoint n)

/-- The previous values of a unit that comes under DP command, from its points (R212): thrust and angle, none when the
angle is missing. -/
def State.pointValues (s : State) (u : Nat) : F64 × Option Word :=
  let d := s.thruster u
  let pu := s.unitPow u
  let thrust := match s.optPoint (u32 pu 20) with
    | some p =>
      if p.good then
        let v := p.value.toInt
        fmul (fq v 1000) (if 0 ≤ v then unFwd d else unRev d)
      else f0
    | none => f0
  let angle := if unKind d = 0 then some 0 else match s.optPoint (u32 pu 16) with
    | some p => if p.good then some p.value else none
    | none => none
  (thrust, angle)

/-- Event source 40 of a unit whose availability changed (R211, R212). -/
def State.unitChange (u old new : Nat) (s : State) : State :=
  if new = 5 then (if old = 5 then s else s.raise 40 .notice 0 2 u [])
  else if old = 0 ∧ new ≠ 0 then s.raise 40 .notice 0 1 u [word new]
  else if old ≠ 0 ∧ new = 0 then s.raise 40 .notice 1 1 u []
  else s

/-- A unit in the frame's plan. One that comes under DP command in it takes its previous values from its points; else they
are those of its latest command, held ones included (R212, R220). -/
def State.planUnit (u : Nat) (s : State) : UnitPlan :=
  let x := s.unitSt u
  let d := s.thruster u
  let why := if s.ctl.mode = 0 then 1 else s.outReason u
  let held : F64 × Option Word := (ofI x.thrust, some x.angle)
  let prev := if why = 0 ∧ x.why ≠ 0 then s.pointValues u else held
  let why := if why = 0 ∧ prev.2.isNone then 5 else why
  let t := if why = 0 then prev.1 else f0
  let tx := s.ctl.tau.getD 0 0
  { why := why, astern := decide (unKind d = 2 ∧ 0 < u32 d 0x10) && (flt t f0 || (fle t f0 && decide (tx < 0)))
    biased := decide (why = 0) && s.alloc.biasOn && tbit (u8 (s.unitPow u) 1) 0 && unAzi d && x.turn == 0
    thrust := t, angle := if why = 0 then prev.2.getD x.angle else x.angle, turn := x.turn }

/-! ## Bounds (R206 to R208, R210, R218) -/

/-- θ_step, rad. -/
def State.stepAngle (s : State) (d : List Byte) : F64 := fmul (baRad (u32 d 0x1C)) s.frameDt

/-- Largest change of thrust in a frame. -/
def State.stepThrust (s : State) (d : List Byte) : F64 := fmul (ofN (u32 d 0x18)) s.frameDt

/-- A planned unit in the nominal problem. -/
def State.nominalUnit (s : State) (u : Nat) (p : UnitPlan) : QpUnit :=
  let d := s.thruster u
  let step := s.stepThrust d
  if p.why ≠ 0 then QpUnit.off p.angle
  else if unAzi d then
    let t := fabs p.thrust
    let clo := fmax f0 (fsub t step)
    let chi := fmin (unFwd d) (fadd t step)
    let th := s.stepAngle d
    let up := fmul chi (ftan (capAngle th (sectorCw d p.angle)))
    let dn := fneg (fmul chi (ftan (capAngle th (sectorAcw d p.angle))))
    let blo := if p.biased then fmin chi (fmax clo (fdiv (fmul (ofN (u16 (s.unitPow u) 4)) (unFwd d)) (ofI 1000))) else clo
    let cap := fdiv (fmul (ofN (s.pow16 0x18)) (unFwd d)) (ofI 1000)
    if p.turn = 0 then
      { out := false, dir := p.angle, astern := false, lo := blo, hi := chi, slo := dn, shi := up, p1 := t, p2 := f0 }
    else
      let sb := if p.turn = 1 then dn else up
      { out := false, dir := p.angle, astern := false, lo := fmin clo cap, hi := fmin chi cap, slo := sb, shi := sb, p1 := t, p2 := f0 }
  else
    let lo0 := fsub p.thrust step
    let lo := if unKind d = 2 ∧ p.astern = false then fmax f0 lo0 else fmax (fneg (unRev d)) lo0
    let hi := fmin (unFwd d) (fadd p.thrust step)
    let lift := if unKind d = 2 then rudderLift (s.unitPow u) (toI p.thrust) p.angle.toInt else f0
    { out := false, dir := p.angle, astern := p.astern, lo := lo, hi := hi, slo := f0, shi := f0, p1 := p.thrust, p2 := lift }

/-- The power constraint of a group (R216): coefficients of the units' thrust variables, right side. -/
def State.nominalPower (s : State) (us : List UnitPlan) (g : Nat × List Nat × Int) : Nat × FVec × F64 :=
  let part (u : Nat) (p : UnitPlan) : F64 × F64 × F64 × F64 :=
    let d := s.thruster u
    if p.why ≠ 0 ∨ g.2.1.contains (unBus d) = false then (f0, f0, f0, f0) else
    let neg := unAzi d = false ∧ flt p.thrust f0
    let sg (x : F64) : F64 := if neg then fneg x else x
    let t := fabs p.thrust
    let step := s.stepThrust d
    let thi := fmin (if neg then unRev d else unFwd d) (fadd t step)
    let tlo := fmax f0 (fsub t step)
    let pt := unitPower d (sg t)
    let k := if thi = t then f0 else fdiv (fsub (unitPower d (sg thi)) pt) (fsub thi t)
    (sg k, pt, fmul k (fsub tlo t), fmul k t)
  let parts := us.zipIdx.map (fun p => part p.2 p.1)
  let sum (f : F64 × F64 × F64 × F64 → F64) : F64 := (parts.map f).foldl fadd f0
  (g.1, parts.map (·.1), fadd (fmax (fsub (ofI g.2.2) (sum (·.2.1))) (sum (·.2.2.1))) (sum (·.2.2.2)))

/-! ## DISPATCH -/

/-- Bias (R218): 250 frames in modes 2 to 5 with every axis at or below BIAS_OFF; a mode change releases it. -/
def State.countBias (s : State) : State :=
  let m := s.ctl.mode
  let off := s.pow16 0x10
  let quiet := decide (0 < off) && [0, 1, 2].all (fun a => decide ((s.ctl.tau.getD a 0).natAbs * 1000 ≤ off * s.tauMax a))
  let n := if m = s.alloc.biasMode ∧ 2 ≤ m ∧ quiet then s.alloc.biasCnt + 1 else 0
  s.withAlloc { s.alloc with biasCnt := n, biasMode := m, biasOn := decide (250 ≤ n) }

/-- The plan of the frame, with the events of R211 and R212. -/
def State.makePlan (s : State) : State :=
  let plan := (List.range s.units).map (fun u => s.planUnit u)
  let s := s.withAlloc { s.alloc with plan := plan }
  plan.zipIdx.foldl (fun s p =>
    let x := s.unitSt p.2
    (s.putUnit p.2 { x with why := p.1.why }).unitChange p.2 x.why p.1.why) s

/-- The number of the nominal problem in a frame. -/
def nominalId (k : Word) : Nat := k.toNat % 65536

/-- The nominal problem is submitted: PRIORITY, stream 0, deadline course 1 slot 29 (R20, R48, R232). A problem whose
numbers do not fit ends OVERFLOW at once (R238). -/
def State.submitNominal (s : State) : State :=
  let us := s.alloc.plan
  match imgTemplate s.image 0 with
  | none => s
  | some t =>
    let p : AllocProblem := {
      units := us.zipIdx.map (fun q => s.nominalUnit q.2 q.1), tau := s.ctl.tau.map ofI, wrate := milliF (s.pow16 0x0C)
      power := s.powerGroups.map (s.nominalPower us) }
    match s.mkProblem 0 1 true false (some 0) (some 0) (nominalId s.crs.frame) (s.courseOf 1) 29 [] with
    | none => s
    | some pb =>
      let s := s.withAlloc { s.alloc with submitted := some (s.crs.frame, nominalId s.crs.frame) }
      match s.qpData t p with
      | some data => (s.withAlloc { s.alloc with block := data }).submitOwn { pb with data := data }
      | none => (s.writeHeader pb 0 3 0x80 0).problemEnds pb 3

/-- The base out set: the units that fail a condition of R211 other than the one on the mode; units that the image does not
define are not in it (R261). -/
def State.baseOut (s : State) : Half :=
  (List.range s.units).foldl (fun m u => if s.outReason u = 0 then m else hbit m u true) 0

/-- The work of DISPATCH (R221, R222, R262, R358). -/
def State.dispatch (s : State) : State :=
  let s := s.withRdn { s.rdn with maskMiss := s.rdn.pstate == 3 && s.partnerMask.isNone }
  let s := s.withAlloc { s.alloc with
    base := s.baseOut, angles := (List.range s.units).map (fun u => (s.pointValues u).2) }
  let s := s.takePower.countBias.makePlan
  let s := s.withAlloc { s.alloc with submitted := none, block := [] }
  if s.ctl.mode = 0 then s.withAlloc { s.alloc with submitted := some (s.crs.frame, 0) } else s.submitNominal

/-- DISPATCH (R203 to R222). -/
def execDispatch (t : Nat) (s : State) : Host.Outcome State Fault Refusal := .next (s.runItem 5 t State.dispatch)

/-! ## Commands (R209) -/

/-- The command of a unit from a solution: thrust, angle, flags. -/
def State.formCommand (s : State) (t : List Byte) (x : List Int) (u : Nat) (p : UnitPlan) : Int × Word × Nat :=
  let d := s.thruster u
  let v (ax : Nat) : F64 := solutionOf t x ax u
  if p.why ≠ 0 then (0, if unAzi d then p.angle else 0, 1)
  else if unAzi d then
    let th := s.stepAngle d
    let c := v 2
    let n := v 3
    let da := if c = f0 ∧ n = f0 then f0 else fatan2 n c
    let dc := fmax (fneg (capAngle th (sectorAcw d p.angle))) (fmin (capAngle th (sectorCw d p.angle)) da)
    (toI (fsqrt (fadd (fmul c c) (fmul n n))), p.angle + wordI (radBa dc),
      (if fsame dc da then 0 else 64) + 8 * b2n p.biased + (if p.turn = 0 then 0 else 16))
  else if unKind d = 2 then
    let pu := s.unitPow u
    let fp := v 0
    let kap := milliF (u16 pu 6)
    let top := ofN (u32 pu 8)
    let dl := if flt f0 fp ∧ flt f0 kap then fdiv (fmul top (v 4)) (fmul kap fp) else f0
    let step := fmul (ofN (u32 d 0x1C)) s.frameDt
    let prev := ofI p.angle.toInt
    let dc := fmax (fsub prev step) (fmin (fadd prev step) (fclamp top dl))
    (toI fp, wordI (toI dc), (if fsame dc dl then 0 else 64) + 32 * b2n p.astern)
  else (toI (v 1), 0, 0)

/-- The 16-byte entry of a unit (R226). -/
def State.unitEntry (s : State) (u : Nat) : List Byte :=
  let d := s.thruster u
  let x := s.unitSt u
  let lim := if x.thrust < 0 then u32 d 0x10 else u32 d 0x0C
  let pct := if lim = 0 then 0 else satI 16 (toI (fq (x.thrust * 10000) lim))
  let pw := if tbit x.flags 0 then 0 else (min 0xFFFF (toI (fdiv (fmul (unitPower d (ofI x.thrust)) (ofI 1000)) (unRated d)))).toNat
  lebytes 2 (u16 d 0x34) ++ [byte u, byte x.flags] ++ ibytes 4 x.thrust ++ wbytes (if unKind d = 0 then 0 else x.angle)
    ++ ibytes 2 pct ++ lebytes 2 pw

/-! ## Phase-back (R217) -/

/-- Predicted power of units at a factor of their thrusts. -/
def State.groupPower (s : State) (us : List Nat) (k : F64) : F64 :=
  (us.map (fun u => unitPower (s.thruster u) (fmul k (ofI (s.unitSt u).thrust)))).foldl fadd f0

/-- 20 bisection steps for the factor: the lower end. -/
def State.bisectPower (s : State) (us : List Nat) (a : F64) : Nat → F64 → F64 → F64
  | 0, lo, _ => lo
  | n + 1, lo, hi =>
    let m := fscale (fadd lo hi) (-1)
    if fle (s.groupPower us m) a then s.bisectPower us a n m hi else s.bisectPower us a n lo m

/-- The units of a group that draw power. -/
def State.groupUnits (s : State) (g : Nat × List Nat × Int) : List Nat :=
  (List.range s.units).filter (fun u => !tbit (s.unitSt u).flags 0 && g.2.1.contains (unBus (s.thruster u)))

/-- The units of a group, out or not. -/
def State.groupMembers (s : State) (g : Nat × List Nat × Int) : List Nat :=
  (List.range s.units).filter (fun u => g.2.1.contains (unBus (s.thruster u)))

/-- One group is phased back when its prediction exceeds what is available; every entry of the group carries PHASE_BACK. -/
def State.phaseGroup (g : Nat × List Nat × Int) (s : State) : State :=
  let us := s.groupUnits g
  let a := ofI g.2.2
  if fle (s.groupPower us f1) a then s else
  let k := s.bisectPower us a 20 f0 f1
  let s1 := (s.groupMembers g).foldl (fun s u =>
    let x := s.unitSt u
    s.putUnit u { x with
      thrust := if us.contains u then toI (fmul k (ofI x.thrust)) else x.thrust
      flags := if tbit x.flags 2 then x.flags else x.flags + 4 }) s
  let mask := g.2.1.foldl (fun m b => m + 2 ^ b) s1.alloc.phaseBus
  (s1.withAlloc { s1.alloc with phaseBus := mask, biasCnt := 0, biasOn := false }).raise 39 .alarm 0 1 g.1
    [wordI (toI (fscale k 16))]

/-- The smallest margin of the groups and the lowest bus of that group. -/
def State.leastMargin (s : State) : Option (F64 × Nat) :=
  s.powerGroups.foldl (fun b g =>
    let m := fsub (ofI g.2.2) (s.groupPower (s.groupUnits g) f1)
    match b with
    | some x => if flt m x.1 then some (m, g.1) else b
    | none => some (m, g.1)) none

/-- Phase-back of every group, then the entries, the achieved force and the record (R202, R217, R227). -/
def State.finishAlloc (flags status iter : Nat) (origin : Word) (s : State) : State :=
  let bias := s.alloc.biasOn
  let s := s.withAlloc { s.alloc with phaseBus := 0 }
  let s := s.powerGroups.foldl (fun s g => s.phaseGroup g) s
  let us := List.range s.units
  let entries := us.map s.unitEntry
  let ach := (s.forceOf entries).map toI
  let s := s.withAlloc { s.alloc with entries := entries, achieved := ach }
  let mask (i : Nat) : Nat := us.foldl (fun m u => if tbit (s.unitSt u).flags i then m + 2 ^ u else m) 0
  let mm := s.leastMargin
  let total := (s.powerGroups.map (fun g => s.groupPower (s.groupUnits g) f1)).foldl fadd f0
  let fall := s.busRecs.any (fun r => (s.busSt (u8 r 0)).fallback)
  let fl := flags + 2 * b2n (s.itemHeld 4 || s.itemHeld 5) + 16 * b2n (s.alloc.phaseBus != 0) + 32 * b2n fall + 64 * b2n bias
  let i4 (x : Int) : List Byte := ibytes 4 (satI 32 x)
  let rec' := wbytes s.crs.frame ++ wbytes origin ++ lebytes 2 fl ++ [byte status, byte iter] ++ lebytes 2 (mask 0)
    ++ lebytes 2 (mask 3) ++ (ach.map i4).flatten ++ ((List.range 3).map (fun a => i4 (s.ctl.tau.getD a 0 - ach.getD a 0))).flatten
    ++ lebytes 4 (min 0xFFFFFFFF (toI total).toNat) ++ i4 ((mm.map (fun m => toI m.1)).getD 0) ++ [byte ((mm.map (·.2)).getD 0)]
    ++ [byte s.alloc.phaseBus] ++ lebytes 2 (mask 4) ++ lebytes 2 (mask 6)
  s.withAlloc { s.alloc with record := padTo 64 rec' }

/-! ## RELEASE -/

/-- Unmet demand in consecutive frames (R219). -/
def State.countUnmet (unmet : Bool) (s : State) : State :=
  let n := if unmet then s.alloc.unmet + 1 else 0
  let m := if unmet then 0 else s.alloc.met + 1
  let lim := s.pow16 0x12
  let s := s.withAlloc { s.alloc with unmet := n, met := m }
  if s.alloc.unmetOn = false ∧ lim ≤ n then (s.withAlloc { s.alloc with unmetOn := true }).raise 38 .alarm 0 0 noIndex []
  else if s.alloc.unmetOn ∧ lim ≤ m then (s.withAlloc { s.alloc with unmetOn := false }).raise 38 .alarm 1 0 noIndex []
  else s

/-- Round turns and sector holds of a unit after a solution with this working set (R210). -/
def State.trackTurn (t : List Byte) (held : Nat → Bool) (u : Nat) (p : UnitPlan) (s : State) : State :=
  let d := s.thruster u
  if unAzi d = false then s else
  let x := s.unitSt u
  if x.turn ≠ 0 then
    let far := (if x.turn = 1 then x.angle - x.turnEnd else x.turnEnd - x.angle).toNat
    if p.why ≠ 0 ∨ fle (baRad far) (s.stepAngle d) then
      (s.putUnit u { x with turn := 0, cw := 0, acw := 0 }).raise 40 .notice 1 3 u []
    else s
  else if p.why ≠ 0 then s.putUnit u { x with cw := 0, acw := 0 }
  else
    let bound (kind : Nat) : Bool := ((List.range (tmNcon t)).find? (fun i => tmKind t i == kind && tmUnit t i == u)).elim false held
    let near (q : Option (Nat × Word)) : Bool := match q with
      | some y => flt (baRad y.1) (s.stepAngle d)
      | none => false
    let qc := sectorCw d p.angle
    let qa := sectorAcw d p.angle
    let cw := if near qc ∧ bound 0x13 then x.cw + 1 else 0
    let acw := if near qa ∧ bound 0x23 then x.acw + 1 else 0
    let lim := s.pow16 0x16
    if lim ≤ cw then
      (s.putUnit u { x with turn := 1, turnEnd := (qc.map (·.2)).getD 0, cw := 0, acw := 0 }).raise 40 .notice 0 3 u []
    else if lim ≤ acw then
      (s.putUnit u { x with turn := 2, turnEnd := (qa.map (·.2)).getD 0, cw := 0, acw := 0 }).raise 40 .notice 0 3 u []
    else s.putUnit u { x with cw := cw, acw := acw }

/-- Every unit out (R221). Frames of STANDBY, like held ones, break a run of consecutive frames, and a round turn lasts
over them (R210). -/
def State.releaseStandby (s : State) : State :=
  let s := (List.range s.units).foldl (fun s u =>
    let x := s.unitSt u
    s.putUnit u { x with
      thrust := 0, angle := if unAzi (s.thruster u) then x.angle else 0, flags := if x.turn = 0 then 1 else 17, cw := 0, acw := 0 }) s
  s.finishAlloc 0x80 0 0 s.crs.frame

/-- The commands of a usable result. -/
def State.releaseResult (t : List Byte) (r : ArrayResult) (s : State) : State :=
  let n := tmNvar t
  let m := tmNcon t
  let x := r.data.take n
  let lo := el r.data (n + m)
  let hi := el r.data (n + m + 1)
  let held (i : Nat) : Bool := tbit (if i < 32 then (lo % 4294967296).toNat else (hi % 4294967296).toNat) (i % 32)
  let plan := s.alloc.plan
  let s := plan.zipIdx.foldl (fun s p =>
    let c := s.formCommand t x p.2 p.1
    s.putUnit p.2 { s.unitSt p.2 with thrust := c.1, angle := c.2.1, flags := c.2.2 }) s
  let s := plan.zipIdx.foldl (fun s p => s.trackTurn t held p.2 p.1) s
  let unmet := s.slackOver t x
  (s.countUnmet unmet).finishAlloc (4 * b2n unmet) r.status r.iter s.crs.frame

/-- The previous commands are held: HELD, stale, phase-back applied to them (R22, R220). -/
def State.releaseHeld (status iter : Nat) (s : State) : State :=
  let origin := word (u32 (padTo 64 s.alloc.record) 4)
  let s := (List.range s.units).foldl (fun s u =>
    let x := s.unitSt u
    let held := if tbit x.flags 1 then x.flags else x.flags + 2
    s.putUnit u { x with flags := if x.turn ≠ 0 ∧ tbit held 4 = false then held + 16 else held, cw := 0, acw := 0 }) s
  s.finishAlloc (1 + (if status % 16 = 2 then 8 else 0)) status iter origin

/-- The frame's nominal problem went into the plan. -/
def State.dispatched (s : State) : Option Nat := match s.alloc.submitted with
  | some p => if p.1 = s.crs.frame then some p.2 else none
  | none => none

/-- A miss of RELEASE (R48, R220). -/
def State.releaseMiss (status iter : Nat) (s : State) : State := (s.missItem 7).releaseHeld status iter

/-- The result of the frame's nominal problem. -/
def State.nominalResult (s : State) : Option ArrayResult := match s.dispatched with
  | some i => s.resultOf 1 i s.crs.frame
  | none => none

/-- STATUS and ITER of a nominal problem without a usable result: of its block, of its end, LATE where nothing has come. -/
def State.nominalStatus (s : State) : Nat × Nat := match s.dispatched with
  | some i => (s.statusOf 1 i).getD (8, 0)
  | none => (8, 0)

/-- RELEASE (R209 to R222): the array solves in slots 0 to 29 of course 1; the check and the commands fall in slots 30 to
33. In STANDBY every unit is out; a usable result gives the commands; anything else is a miss. -/
def execRelease (t : Nat) (s : State) : Host.Outcome State Fault Refusal :=
  .next <| (s.instant t).whileRunning fun s =>
    if s.itemRuns 7 = false ∨ s.framePlace < 1000000 + slotStart 30 then s
    else if s.ctl.mode = 0 then s.releaseStandby.itemDone 7
    else match imgTemplate s.image 0, s.nominalResult with
      | some t, some r => if r.status % 16 ≤ 1 then (s.releaseResult t r).itemDone 7 else s.releaseMiss r.status r.iter
      | _, _ => s.releaseMiss s.nominalStatus.1 s.nominalStatus.2

/-- RELEASE misses its deadline. In STANDBY it counts no miss, and every entry carries OUT (R221). -/
def State.releaseLate (s : State) : State :=
  if s.ctl.mode = 0 then s.releaseStandby.itemDone 7 else s.releaseMiss s.nominalStatus.1 s.nominalStatus.2

/-! ## Commands of the host (R211, R227) -/

/-- THRUSTER_ENABLE takes effect at a frame tick. -/
def State.takeThrusterEnable (w : Waiting) (changed on : Half) (s : State) : State :=
  (s.withAlloc { s.alloc with disabled := (s.alloc.disabled &&& ~~~changed) ||| (changed &&& ~~~on) }).done w 0

/-- ALLOC_QUERY: the record, then the frame's entries. -/
def State.serveAllocQuery (w : Waiting) (s : State) : State := s.answer w (padTo 64 s.alloc.record ++ s.alloc.entries.flatten)

/-- After a cold activation with another list of units, every unit is out at no thrust. DEDUCED (assumption 20). -/
def State.activateUnits (changed : Bool) (s : State) : State :=
  if changed then s.withAlloc { s.alloc with
      units := Vector.replicate 16 UnitSt.reset, plan := [], submitted := none, entries := [] }
  else s

end Sys2Proof.Machine
end

