-- ==== Sys2Proof/Machine/Buttress.lean ====
section
/-! DEFINITION. The buttress safety island (spec/14_safety_island.md R346 to R369). -/

namespace Sys2Proof.Machine
open Sys2Proof

/-! ## Parameters (R350) -/

/-- INPUTS, OUTPUTS and REMOTES of the section held. -/
def Btr.nIn (x : Btr) : Nat := u8 x.params 0
/-- OUTPUTS. -/
def Btr.nOut (x : Btr) : Nat := u8 x.params 1
/-- REMOTES. -/
def Btr.nRem (x : Btr) : Nat := u8 x.params 2
/-- The record of input `i`. -/
def Btr.recIn (x : Btr) (i : Nat) : List Byte := slice x.params (32 + 8 * i) 8
/-- The record of output `o`. -/
def Btr.recOut (x : Btr) (o : Nat) : List Byte := slice x.params (32 + 8 * (x.nIn + o)) 8
/-- The record of remote record `n`. -/
def Btr.recRem (x : Btr) (n : Nat) : List Byte := slice x.params (32 + 8 * (x.nIn + x.nOut + n)) 8
/-- DEG_LIMIT, courses. -/
def Btr.degLimit (x : Btr) : Nat := 1000 * u16 x.params 4
/-- The numbers of the inputs, outputs and remote records listed. -/
def Btr.ins (x : Btr) : List Nat := List.range (min 16 x.nIn)
/-- The outputs listed. -/
def Btr.outs (x : Btr) : List Nat := List.range (min 8 x.nOut)
/-- The remote records. -/
def Btr.rems (x : Btr) : List Nat := List.range (min 8 x.nRem)

/-- An input. -/
def State.btrIn (s : State) (i : Nat) : BtrIn := vget s.btr.inputs i BtrIn.reset
/-- Replace it. -/
def State.setBtrIn (i : Nat) (x : BtrIn) (s : State) : State := s.withBtr { s.btr with inputs := vset s.btr.inputs i x }
/-- An output. -/
def State.btrOut (s : State) (o : Nat) : BtrOut := vget s.btr.outputs o BtrOut.reset
/-- Replace it. -/
def State.setBtrOut (o : Nat) (x : BtrOut) (s : State) : State := s.withBtr { s.btr with outputs := vset s.btr.outputs o x }
/-- A remote record. -/
def State.btrRem (s : State) (n : Nat) : BtrRem := vget s.btr.remotes n BtrRem.reset
/-- Replace it. -/
def State.setBtrRem (n : Nat) (x : BtrRem) (s : State) : State := s.withBtr { s.btr with remotes := vset s.btr.remotes n x }

/-! ## Readiness (R366, R369) -/

/-- The start-up tests of R354 are done. -/
def Btr.testsDone (x : Btr) : Bool := x.outs.all (fun o => (vget x.outputs o BtrOut.reset).tested)

/-- A function is degraded (R365). -/
def Btr.degraded (x : Btr) : Bool :=
  x.outputs.toList.any (fun o => o.degraded.isSome) || x.remotes.toList.any (fun r => r.degraded.isSome)

/-- NOT_READY: an island fault first, then the lowest code that applies. DEDUCED (assumption 13). -/
def Btr.notReadyNow (x : Btr) : Nat :=
  if x.fault then 4
  else if x.taken = false then (if x.sealBad then 2 else 1)
  else if x.testsDone = false ∨ x.outs.any (fun o => (vget x.outputs o BtrOut.reset).testBad) then 3
  else if x.missLatched then 5
  else if x.mismatch then 6 else 0

/-- The buttress reports ready (R366). -/
def Btr.ready (x : Btr) : Bool := x.notReady == 0

/-- The outputs are requested on at ready (R350, R354). -/
def State.btrRequest (s : State) : State :=
  let s := s.withBtr { s.btr with readyOnce := true }
  s.btr.outs.foldl (fun s o =>
    let x := s.btrOut o
    s.setBtrOut o { x with requested := x.requested || tbit (u8 (s.btr.recOut o) 1) 0 }) s

/-- NOT_READY is reported; a change of readiness raises event source 76; at the first ready the outputs are requested on
(R354, R366). -/
def State.btrReady (s : State) : State :=
  let n := s.btr.notReadyNow
  if n = s.btr.notReady then s else
  let was := s.btr.ready
  let s := s.withBtr { s.btr with notReady := n }
  let s := if was = s.btr.ready then s else s.raise 76 .notice 3 n noIndex []
  if n = 0 ∧ s.btr.readyOnce = false then s.btrRequest else s

/-! ## Outputs (R354 to R356) -/

/-- An output turns on or off: event source 67; turning off during a test pulse discards its verdicts (R356). -/
def State.btrSwitch (o : Nat) (on : Bool) (s : State) : State :=
  let x := s.btrOut o
  if x.on = on then s else
  let p := s.btr.recOut o
  let s := (s.emit (.pin (ballHigh o) on)).emit (.pin (ballLow o) on)
  let s := s.raise 67 .notice 3 (b2n on) o []
  if on then s.setBtrOut o { x with on := true, badReads := 0 }
  else match x.pulse with
    | some h =>
      let s := s.setBtrOut o { x with
        on := false, pulse := none, nextHigh := h, testIn := u16 s.btr.params 0x12, badReads := 0, tripH := false, tripL := false }
      (s.count .btrPulseDisc).raise 69 .notice 0 0 o []
    | none => s.setBtrOut o { x with on := false, testIn := u16 p 4 / 2, badReads := 0, tripH := false, tripL := false }

/-- An output is latched off; it leaves degraded mode (R355, R365). -/
def State.btrLatchOff (o : Nat) (s : State) : State :=
  let x := s.btrOut o
  let s := s.setBtrOut o { x with latchedOff := true, degraded := none, pulse := none }
  let s := if x.degraded.isSome then s.raise 70 .notice 1 0 o [] else s
  s.btrSwitch o false

/-- A test failure of an output: event source 68, counted (R355). -/
def State.btrTestFail (o : Nat) (s : State) : State := (s.count .btrTestFail).raise 68 .notice 0 0 o []

/-- The removal mask as published; a change raises event source 73 (R357, R439). -/
def State.btrPublish (m : Half) (s : State) : State :=
  if m = s.btr.remove then s else (s.withBtr { s.btr with remove := m }).raise 73 .notice 3 0 noIndex []

/-! ## Safety frames (R361) -/

/-- The safety frame of the present instant. -/
def State.safetyBytes (flags : Nat) (s : State) : List Byte :=
  let b := s.btr
  let f := flags + 2 * b2n b.degraded + 4 * b2n (!b.ready) + 32 * b2n b.fault
  let ins := maskOf ((List.range 16).map (fun i => (s.btrIn i).demand))
  let outs := maskOf ((List.range 8).map (fun o => (s.btrOut o).on))
  let body := lebytes 4 0x53465442 ++ [1, byte (u8 b.params 3)] ++ lebytes 2 f ++ wbytes b.sfSeq ++ wbytes s.crs.frame
    ++ wbytes s.stamp ++ lebytes 2 b.remove.toNat ++ lebytes 2 (~~~ b.remove).toNat ++ lebytes 2 ins ++ [byte outs, 0]
    ++ lebytes 2 (3 * s.frameCourses) ++ [0, 0] ++ wbytes b.vessel ++ wbytes b.paramCrc ++ List.replicate 20 0
  body ++ wbytes (crc32c body)

/-- The group of a network from the section held, host order. -/
def Btr.group (x : Btr) (n : Nat) : Word :=
  let p := slice x.params (8 + 4 * n) 4
  word (u8 p 0 * 16777216 + u8 p 1 * 65536 + u8 p 2 * 256 + u8 p 3)

/-- Send a safety frame on both networks; a copy that its queue cannot take is lost and counted (R361). `flags` are
URGENT 1, SAVE 8, CONFIRM_MISS 16. -/
def State.sendSafety (flags : Nat) (s : State) : State :=
  if s.btr.acts = false then s else
  let s := s.withBtr { s.btr with sfSeq := if s.btr.sfSent then s.btr.sfSeq + 1 else s.btr.sfSeq, sfSent := true }
  let b := s.safetyBytes flags
  [0, 1].foldl (fun s n =>
    let p : Port := if n = 0 then .a else .b
    let up : Bool := if n = 0 then s.pnt.linkA != 0 else s.pnt.linkB != 0
    let full := Config.safetyFull s.clk.free || s.fifoStalled (11 + n)
    let s := s.useFree
    if up && !full then s.emit (.udp p (s.btr.group n) (u16 s.btr.params 0x10) b)
    else (s.count .btrSfErr).raise 78 .notice 0 0 n []) s

/-! ## Inputs (R352, R353) -/

/-- An input has a discrepancy fault once its count reaches DISC_TIME (R352). -/
def State.btrDiscrepancy (i : Nat) (s : State) : State :=
  let x := s.btrIn i
  if x.fault ∨ x.disc < max 1 (u16 (s.btr.recIn i) 2) then s else
  ((s.setBtrIn i { x with fault := true, both := false, clr := false, demand := x.demand }).count .btrDisc).raise 65 .notice 0 0 i []

/-- A discrepancy fault clears: both channels demand, then both read healthy, and in manual-reset mode BTR_RESET (R352). -/
def State.btrDiscClear (i : Nat) (da db : Bool) (s : State) : State :=
  let x := s.btrIn i
  if x.fault = false then s
  else if da && db then s.setBtrIn i { x with both := true }
  else if x.both && !da && !db then
    if tbit (u8 (s.btr.recIn i) 1) 1 then s.setBtrIn i { x with clr := true }
    else (s.setBtrIn i { x with fault := false, both := false }).raise 65 .notice 1 0 i []
  else s

/-- One sample of an input: `a` and `b` are the levels of its channels (R352). -/
def State.btrSample (a b : Bool) (i : Nat) (s : State) : State :=
  let da := !a
  let db := if tbit (u8 (s.btr.recIn i) 1) 0 then b else !b
  let x := s.btrIn i
  let was := x.fault
  let s := s.setBtrIn i { x with disc := if da = db then 0 else x.disc + 1, healthy := !da && !db }
  let s := if was then s.btrDiscClear i da db else s.btrDiscrepancy i
  let x := s.btrIn i
  let raw := da || db || x.fault
  let manual := tbit (u8 (s.btr.recIn i) 1) 1
  s.setBtrIn i { x with raw := raw, latched := x.latched || (manual && x.raw && !raw) }

/-- The demand of an input is formed: event source 64 at each start and end (R353). -/
def State.btrDemand (i : Nat) (s : State) : State :=
  let x := s.btrIn i
  let d := x.raw || x.latched
  if d = x.demand then s else (s.setBtrIn i { x with demand := d }).raise 64 .notice (b2n (!d)) 0 i []

/-! ## Remote sources (R364, R365) -/

/-- The first remote record of a source speaks for its path in events. -/
def Btr.leads (x : Btr) (n : Nat) : Bool :=
  (x.rems.find? (fun m => u8 (x.recRem m) 0 == u8 (x.recRem n) 0)) == some n

/-- The source of a remote record is lost once it is silent for its TIMEOUT (R364). -/
def State.btrRemoteLost (n : Nat) (s : State) : State :=
  let x := s.btrRem n
  if x.fresh = false ∨ x.silent < x.timeout then s else
  let s := s.setBtrRem n { x with fresh := false }
  if s.btr.leads n then s.raise 72 .notice 0 1 n [] else s

/-- A second copy that does not come within COPY_WAIT puts the path into degraded mode (R364, R365). -/
def State.btrCopyTimeout (n : Nat) (s : State) : State :=
  let x := s.btrRem n
  let late := x.copies.filter (fun c => decide (u16 s.btr.params 6 < c.waited))
  if late.isEmpty then s else
  let y := { x with copies := x.copies.filter (fun c => !decide (u16 s.btr.params 6 < c.waited)), goodCopies := 0 }
  if x.degraded.isSome then s.setBtrRem n y else
  let s := s.setBtrRem n { y with degraded := some 0 }
  if s.btr.leads n then s.raise 70 .notice 0 0 n [] else s

/-- A degraded path reaches DEG_LIMIT: its record is forced safe (R365). -/
def State.btrRemoteLimit (n : Nat) (s : State) : State :=
  let x := s.btrRem n
  match x.degraded with
  | some c =>
    if x.forced ∨ c < s.btr.degLimit then s else
    let s := s.setBtrRem n { x with forced := true }
    if s.btr.leads n then s.raise 71 .alarm 0 0 n [] else s
  | none => s

/-- A degraded output reaches DEG_LIMIT: latched off (R365). -/
def State.btrOutputLimit (o : Nat) (s : State) : State :=
  let x := s.btrOut o
  match x.degraded with
  | some c => if x.latchedOff ∨ c < s.btr.degLimit then s else (s.raise 71 .alarm 0 0 o []).btrLatchOff o
  | none => s

/-- A remote record at the buttress course: silence, copies, degraded timer. -/
def State.btrRemoteTick (n : Nat) (s : State) : State :=
  let x := s.btrRem n
  let s := s.setBtrRem n { x with
    silent := x.silent + 1, copies := x.copies.map (fun c => { c with waited := c.waited + 1 }), degraded := x.degraded.map (· + 1) }
  ((s.btrRemoteLost n).btrCopyTimeout n).btrRemoteLimit n

/-- The demand of a remote record (R364). -/
def State.btrRemoteDemand (n : Nat) (s : State) : State :=
  let x := s.btrRem n
  let raw := x.stopSeen || !x.fresh || x.mismatch || x.forced
  let manual := tbit (u8 (s.btr.recRem n) 5) 0
  let l := x.latched || (manual && x.raw && !raw)
  s.setBtrRem n { x with raw := raw, latched := l, demand := raw || l }

/-- The checks of R362 and R364 on a received frame, but for SEQ. -/
def Btr.frameValid (x : Btr) (b : List Byte) : Bool :=
  b.length == 64 && u32 b 0 == 0x53465442 && u8 b 4 == 1 && word (u32 b 0x3C) == crc32c (b.take 0x3C)
    && word (u32 b 0x20) == x.vessel && u16 b 0x14 + u16 b 0x16 == 0xFFFF

/-- A path has had both copies of 100 frames in a row: degraded mode ends (R364, R365). -/
def State.btrCopiesGood (n : Nat) (s : State) : State :=
  let x := s.btrRem n
  if x.degraded.isSome ∧ 100 ≤ x.goodCopies then
    let s := s.setBtrRem n { x with degraded := none }
    if s.btr.leads n then s.raise 70 .notice 1 0 n [] else s
  else s

/-- A frame asks for a stop by the record: its BIT of STOP, or FAULT (R364). -/
def Btr.frameStop (x : Btr) (n : Nat) (b : List Byte) : Bool := tbit (u16 b 0x14) (u8 (x.recRem n) 1) || tbit (u16 b 6) 5

/-- The first copy of a frame that waits for its second, which comes by the other network. -/
def BtrRem.other (x : BtrRem) (port : Port) (seq : Word) : Option SfCopy :=
  x.copies.find? (fun c => word (u32 c.bytes 8) == seq && c.port != port)

/-- A valid frame whose SEQ is not newer, and which is no second copy by the other network (R362, R364). -/
def State.btrOld (port : Port) (b : List Byte) (n : Nat) (s : State) : Bool :=
  let x := s.btrRem n
  let seq := word (u32 b 8)
  (x.other port seq).isNone && match x.seq with
    | some q => !newer seq q
    | none => false

/-- A mismatch clears as a discrepancy fault does: after a SEQ whose copies both demand, one whose copies both do not; with
manual reset a BTR_RESET too (R352, R364). DEDUCED (assumption 13). -/
def State.btrAgree (n : Nat) (stop : Bool) (s : State) : State :=
  let x := s.btrRem n
  if x.mismatch = false then s
  else if stop then s.setBtrRem n { x with both := true }
  else if x.both then
    if tbit (u8 (s.btr.recRem n) 5) 0 then s.setBtrRem n { x with clr := true }
    else
      let s := s.setBtrRem n { x with mismatch := false, both := false }
      if s.btr.leads n then s.raise 72 .notice 1 2 n [] else s
  else s

/-- A valid frame of the source of a remote record: the second copy is compared, a newer SEQ is acted on at once, an
older one discarded (R364). -/
def State.btrFrame (port : Port) (n : Nat) (b : List Byte) (s : State) : State :=
  let x := s.btrRem n
  let seq := word (u32 b 8)
  match x.other port seq with
  | some c =>
    let rest := x.copies.filter (fun c => word (u32 c.bytes 8) != seq)
    if c.bytes = b then
      ((s.setBtrRem n { x with copies := rest, goodCopies := x.goodCopies + 1 }).btrAgree n (s.btr.frameStop n b)).btrCopiesGood n
    else
      let s := s.setBtrRem n { x with copies := rest, goodCopies := 0, mismatch := true, both := false, clr := false }
      if s.btr.leads n then s.raise 72 .notice 0 2 n [seq] else s
  | none =>
    if s.btrOld port b n then s else
    let s := s.setBtrRem n { x with
      copies := x.copies ++ [{ port := port, bytes := b, waited := 0 }], seq := some seq, silent := 0, timeout := u16 b 0x1C
      fresh := true, stopSeen := s.btr.frameStop n b }
    if x.fresh = false ∧ s.btr.leads n then s.raise 72 .notice 1 1 n [] else s

/-- SAFETY_FRAME_RX (R364): a frame of a watched source that is invalid, or old, is counted. -/
def execSafetyFrameRx (t : Nat) (port : Port) (bytes : List Byte) (s : State) : Host.Outcome State Fault Refusal :=
  .next <| (s.instant t).whileRunning fun s =>
    if s.btr.acts = false ∨ port = .m ∨ s.portUp port = false then s
    else if s.btr.frameValid bytes = false then s.count .btrSfErr
    else
      let ns := s.btr.rems.filter (fun n => u8 (s.btr.recRem n) 0 == u8 bytes 5)
      if ns.any (fun n => s.btrOld port bytes n) then s.count .btrSfErr
      else ns.foldl (fun s n => s.btrFrame port n bytes) s

/-! ## Commands (R353) -/

/-- BTR_RESET takes effect: refused when an input that it names does not read healthy; an output's latch clears once
neither switch shows closed while it is off, a forced remote record's once its path is not degraded (R353, R365). -/
def State.takeBtrReset (w : Waiting) (inputs : Half) (remotes outputs : Byte) (s : State) : State :=
  let vals := [inputs.setWidth 32, remotes.setWidth 32, outputs.setWidth 32]
  let named := s.btr.ins.filter (fun i => inputs.getLsbD i)
  if named.any (fun i => !(s.btrIn i).healthy) then (s.raise 66 .notice 0 2 noIndex vals).refuse w 1 else
  let s := named.foldl (fun s i =>
    let x := s.btrIn i
    let cleared := x.fault && x.clr
    let s := s.setBtrIn i { x with
      latched := false, fault := x.fault && !cleared, clr := x.clr && !cleared, raw := x.raw && !cleared }
    if cleared then s.raise 65 .notice 1 0 i [] else s) s
  let s := (s.btr.rems.filter (fun n => remotes.getLsbD n)).foldl (fun s n =>
    let x := s.btrRem n
    s.setBtrRem n { x with latched := false, mismatch := x.mismatch && !x.clr, both := x.both && !x.clr, clr := false, forced := x.forced && x.degraded.isSome }) s
  let s := (s.btr.outs.filter (fun o => outputs.getLsbD o)).foldl (fun s o =>
    let x := s.btrOut o
    if x.latchedOff ∧ x.stuck = false then s.setBtrOut o { x with latchedOff := false, faultH := false, faultL := false }
    else s) s
  (s.raise 66 .notice 0 1 noIndex vals).done w 0

/-- BTR_OUTPUT takes effect (R354). -/
def State.takeBtrOutput (w : Waiting) (changed on : Byte) (s : State) : State :=
  ((s.btr.outs.filter (fun o => changed.getLsbD o)).foldl (fun s o =>
    s.setBtrOut o { s.btrOut o with requested := on.getLsbD o }) s).done w 0

/-- The commands of the mailbox take effect at the buttress course. -/
def State.btrCommands (s : State) : State :=
  let cs := s.btr.cmds
  cs.foldl (fun s w => match w.cmd with
    | .btrReset i r o => s.takeBtrReset w i r o
    | .btrOutput c o => s.takeBtrOutput w c o
    | _ => s) (s.withBtr { s.btr with cmds := [] })

/-! ## The buttress course (R351) -/

/-- UNITS of every active demand; all of them once the buttress is faulted or treated so (R347, R357). -/
def State.btrMask (s : State) : Half :=
  if s.btr.acts = false ∨ s.btr.lostByBeat then 0xFFFF#16 else
  let a := (s.btr.ins.filter (fun i => (s.btrIn i).demand)).map (fun i => u16 (s.btr.recIn i) 4)
  let b := (s.btr.rems.filter (fun n => (s.btrRem n).demand)).map (fun n => u16 (s.btr.recRem n) 2)
  (a ++ b).foldl (fun m u => m ||| BitVec.ofNat 16 u) 0

/-- OUTS of every active demand. -/
def State.btrForced (s : State) : Byte :=
  let a := (s.btr.ins.filter (fun i => (s.btrIn i).demand)).map (fun i => u8 (s.btr.recIn i) 6)
  let b := (s.btr.rems.filter (fun n => (s.btrRem n).demand)).map (fun n => u8 (s.btr.recRem n) 4)
  (a ++ b).foldl (fun m u => m ||| byte u) 0

/-- A demand of an input or remote record is active. -/
def Btr.demands (x : Btr) : List Bool := x.inputs.toList.map BtrIn.demand ++ x.remotes.toList.map BtrRem.demand

/-- The readbacks of an output at a sample: off, whether a switch still shows closed (R365); on and outside tests, two
samples that fail to show both closed latch it off (R355, R571). -/
def State.btrReadback (h l : Bool) (o : Nat) (s : State) : State :=
  let x := s.btrOut o
  if x.on = false then s.setBtrOut o { x with stuck := h || l } else
  if x.pulse.isSome then s else
  let good := h && l && !x.tripH && !x.tripL
  if good then s.setBtrOut o { x with badReads := 0 }
  else if x.badReads + 1 < 2 then s.setBtrOut o { x with badReads := x.badReads + 1 }
  else
    let high := !h || x.tripH
    let s := s.setBtrOut o { x with badReads := 0, faultH := x.faultH || high, faultL := x.faultL || !l || x.tripL }
    (s.btrTestFail o).btrLatchOff o

/-- An output at the buttress course: degraded timer, the time to its next test, its state (R354, R355, R365). -/
def State.btrOutputTick (forced : Byte) (o : Nat) (s : State) : State :=
  let x := s.btrOut o
  let s := s.setBtrOut o { x with
    degraded := x.degraded.map (· + 1), testIn := if x.on then x.testIn - 1 else x.testIn }
  let s := s.btrOutputLimit o
  let x := s.btrOut o
  s.btrSwitch o (s.btr.testsDone && x.requested && !x.latchedOff && !forced.getLsbD o)

/-- The mask of course 0 is kept, and forwarded to the partner while PAIRED, whatever the buttress's state (R357, R358). -/
def State.forwardMask (s : State) : State :=
  if s.crs.course ≠ 0 then s else
  let s := s.withBtr { s.btr with mask0 := s.btr.remove }
  if s.rdn.pstate = 3 then s.sendLink 3 (lebytes 2 s.btr.mask0.toNat) else s

/-- The work of a buttress course: sample at 10 µs, evaluate, publish at 40 µs, urgent frame (R351). -/
def State.buttressCourse (chA chB : Half) (readH readL : Byte) (s : State) : State :=
  if s.btr.fault then s.btrCommands.forwardMask else
  let before := s.btr.demands
  let ins := if s.btr.taken then s.btr.ins else []
  let rems := if s.btr.taken then s.btr.rems else []
  let outs := if s.btr.taken then s.btr.outs else []
  let s := ins.foldl (fun s i => s.btrSample (chA.getLsbD i) (chB.getLsbD i) i) s
  let s := outs.foldl (fun s o => s.btrReadback (readH.getLsbD o) (readL.getLsbD o) o) s
  let s := rems.foldl (fun s n => s.btrRemoteTick n) s
  let s := s.btrCommands
  let s := ins.foldl (fun s i => s.btrDemand i) s
  let s := rems.foldl (fun s n => s.btrRemoteDemand n) s
  let began := (List.zip before s.btr.demands).any (fun p => !p.1 && p.2)
  let s := s.instant 40080
  let forced := s.btrForced
  let s := outs.foldl (fun s o => s.btrOutputTick forced o) s
  let s := s.btrPublish s.btrMask
  let s := (s.withBtr { s.btr with beat := s.btr.beat + 1 }).btrReady
  let s := if began then s.sendSafety 1 else s
  s.forwardMask

/-- BUTTRESS_COURSE (R351): bit i of `chA` and `chB` are the levels of input i's channels, bit o of `readH` and `readL`
show output o's switches closed. -/
def execButtressCourse (chA chB : Half) (readH readL : Byte) (s : State) : Host.Outcome State Fault Refusal :=
  .next <| (s.instant 10080).whileRunning (State.buttressCourse chA chB readH readL)

/-- DISCREPANCY_FAULT (R352). -/
def execDiscrepancyFault (t input : Nat) (s : State) : Host.Outcome State Fault Refusal :=
  .next <| (s.instant t).whileRunning fun s =>
    if s.btr.acts ∧ input < min 16 s.btr.nIn then s.btrDiscrepancy input else s

/-- SAFETY_COPY_TIMEOUT (R364). -/
def execSafetyCopyTimeout (t number : Nat) (s : State) : Host.Outcome State Fault Refusal :=
  .next <| (s.instant t).whileRunning fun s =>
    if s.btr.acts ∧ number < min 8 s.btr.nRem then s.btrCopyTimeout number else s

/-- REMOTE_SOURCE_LOST (R364). -/
def execRemoteSourceLost (t number : Nat) (s : State) : Host.Outcome State Fault Refusal :=
  .next <| (s.instant t).whileRunning fun s =>
    if s.btr.acts ∧ number < min 8 s.btr.nRem then s.btrRemoteLost number else s

/-- DEGRADED_LIMIT (R365). -/
def execDegradedLimit (t : Nat) (remote : Bool) (number : Nat) (s : State) : Host.Outcome State Fault Refusal :=
  .next <| (s.instant t).whileRunning fun s =>
    if s.btr.acts = false ∨ number ≥ 8 then s
    else if remote then s.btrRemoteLimit number else s.btrOutputLimit number

/-! ## Output tests (R354, R355, R571) -/

/-- OUTPUT_STARTUP_TEST: the next step of the test of an output that is off: the high switch closes; PULSE later it opens
and the low switch closes; PULSE later that one opens. `good` says that the readbacks of the switch that opens were right,
closed and then open. A failure latches the output off (R354). -/
def execOutputStartupTest (t output : Nat) (good : Bool) (s : State) : Host.Outcome State Fault Refusal :=
  .next <| (s.instant t).whileRunning fun s =>
    let x := s.btrOut output
    if s.btr.acts = false ∨ output ≥ min 8 s.btr.nOut ∨ x.tested ∨ x.on then s else
    if x.startStep = 0 then
      (s.emit (.pin (ballHigh output) true)).setBtrOut output { x with startStep := 1, pulseAt := s.clk.now }
    else if s.clk.now < x.pulseAt + 1000 * u16 (s.btr.recOut output) 2 then s
    else
      let s := s.emit (.pin (if x.startStep = 1 then ballHigh output else ballLow output) false)
      if good = false then
        (s.setBtrOut output { x with startStep := 0, tested := true, testBad := true, latchedOff := true }).btrTestFail output
      else if x.startStep = 1 then
        (s.emit (.pin (ballLow output) true)).setBtrOut output { x with startStep := 2, pulseAt := s.clk.now }
      else s.setBtrOut output { x with startStep := 0, tested := true }

/-- OUTPUT_TEST_START: at 500 µs of a due course the channel's switch opens (R351, R355 step 1). -/
def execOutputTestStart (output : Nat) (s : State) : Host.Outcome State Fault Refusal :=
  .next <| (s.instant 500080).whileRunning fun s =>
    let x := s.btrOut output
    if s.btr.acts = false ∨ output ≥ min 8 s.btr.nOut ∨ x.on = false ∨ x.pulse.isSome ∨ x.testIn ≠ 0 then s else
    let s := s.emit (.pin (if x.nextHigh then ballHigh output else ballLow output) false)
    s.setBtrOut output { x with
      pulse := some x.nextHigh, pulseAt := s.clk.now, testIn := max 1 (u16 (s.btr.recOut output) 4 / 2) }

/-- The verdict of a test pulse of channel `h` (R355). -/
def State.btrVerdict (o : Nat) (h openRead closedRead : Bool) (s : State) : State :=
  let x := s.btrOut o
  let second := if h then x.faultL else x.faultH
  let s := if openRead then s else
    let s := (s.setBtrOut o { x with faultH := x.faultH || h, faultL := x.faultL || !h }).btrTestFail o
    if second then s.btrLatchOff o
    else if x.degraded.isSome then s
    else (s.setBtrOut o { s.btrOut o with degraded := some 0 }).raise 70 .notice 0 0 o []
  if closedRead ∨ (s.btrOut o).latchedOff then s
  else
    let y := s.btrOut o
    ((s.setBtrOut o { y with faultH := y.faultH || h, faultL := y.faultL || !h }).btrTestFail o).btrLatchOff o

/-- Where a test pulse ends, in ns from the present tick (R355). -/
def State.pulseEnd (output : Nat) (s : State) : Nat :=
  (s.btrOut output).pulseAt + 1000 * u16 (s.btr.recOut output) 2 - s.clk.tickAt

/-- OUTPUT_TEST_END: the switch closes at PULSE, and 100 µs later the verdict falls; `openRead` and `closedRead` are the
readbacks of steps 2 and 4. A pulse lasts into the next course where it is long: before the course of its end the row has
no effect (R355). -/
def execOutputTestEnd (output : Nat) (openRead closedRead : Bool) (s : State) : Host.Outcome State Fault Refusal :=
  .next <| if 899899 < s.pulseEnd output then s else
    (s.instant (s.pulseEnd output)).whileRunning fun s =>
      match (s.btrOut output).pulse with
      | some h =>
        if s.btr.acts = false ∨ output ≥ 8 then s else
        let s := (s.emit (.pin (if h then ballHigh output else ballLow output) true)).instant (s.clk.now - s.clk.tickAt + 100000)
        let s := s.setBtrOut output { s.btrOut output with pulse := none, nextHigh := !h }
        s.btrVerdict output h openRead closedRead
      | none => s

/-- SAFE_OUTPUT_CURRENT_LIMIT: a switch held in limit beyond 5 ms opens; its readback then fails under R355 (R571). -/
def execSafeOutputCurrentLimit (t output : Nat) (high : Bool) (s : State) : Host.Outcome State Fault Refusal :=
  .next <| (s.instant t).whileRunning fun s =>
    let x := s.btrOut output
    if output ≥ 8 ∨ x.on = false then s else
    let s := s.emit (.pin (if high then ballHigh output else ballLow output) false)
    s.setBtrOut output { x with tripH := x.tripH || high, tripL := x.tripL || !high }

/-! ## Island fault (R347) -/

/-- An island fault: every output opens, the transmit queues stop, the mask is all-ones, FAULT is set (R347). -/
def State.islandFault (s : State) : State :=
  if s.btr.fault then s else
  let s := (List.range 8).foldl (fun s o =>
    let x := s.btrOut o
    let s := if x.driven then (s.emit (.pin (ballHigh o) false)).emit (.pin (ballLow o) false) else s
    s.setBtrOut o { x with on := false, pulse := none, startStep := 0 }) s
  (((s.withBtr { s.btr with fault := true }).btrPublish 0xFFFF#16).raise 77 .notice 0 0 noIndex []).btrReady

/-- ISLAND_FAULT (R346, R347). -/
def execIslandFault (t : Nat) (s : State) : Host.Outcome State Fault Refusal :=
  .next <| if s.pwr.inReset then s else (s.instant t).islandFault

/-- Pair 5 watches BTR_BEAT at every course (R347). -/
def State.watchBeat (s : State) : State :=
  if s.btr.beat = s.btr.beatSeen then s.withBtr { s.btr with beatLost := s.btr.beatLost + 1 }
  else s.withBtr { s.btr with beatSeen := s.btr.beat, beatLost := 0 }

/-- BUTTRESS_BEAT_LOSS: no change for 3 courses; the buttress is treated as faulted (R347). -/
def execButtressBeatLoss (t : Nat) (s : State) : Host.Outcome State Fault Refusal :=
  .next <| (s.instant t).whileRunning fun s =>
    if s.btr.beatLost < 3 ∨ s.btr.lostByBeat ∨ s.btr.fault then s else
    ((s.withBtr { s.btr with lostByBeat := true }).btrPublish 0xFFFF#16).raise 77 .notice 0 0 noIndex []

/-! ## CONFIRM (R359, R360) -/

/-- The units whose entry in a keystone frame does not carry OUT (R226). -/
def KsFrame.notOut (k : KsFrame) : Half :=
  k.entries.foldl (fun m e => if tbit (u8 e 3) 0 then m else m ||| (1#16 <<< u8 e 2)) 0

/-- The tap check: every unit of the own course-0 mask must be OUT in the frame's copy (R359). -/
def State.confirmCheck (s : State) : State :=
  match s.rdn.tap with
  | some k =>
    if k.frame ≠ s.crs.frame then s else
    if s.btr.mask0 &&& k.notOut = 0 then s
    else if tbit k.flags 0 then s.raise 74 .warning 0 0 noIndex []
    else ((s.withBtr { s.btr with mismatch := true }).count .btrConfirmErr).raise 74 .alarm 0 0 noIndex []
  | none => s

/-- CONFIRM (R359, R360). -/
def execConfirm (t : Nat) (s : State) : Host.Outcome State Fault Refusal :=
  .next <| s.runItem 0x0A t fun s =>
    if s.btr.acts = false then s else
    let s := s.confirmCheck
    let n := s.btr.goodConfirms + 1
    let s := s.withBtr { s.btr with
      missStreak := 0, goodConfirms := min 250 n, missLatched := s.btr.missLatched && decide (n < 250) }
    s.btrReady.sendSafety 0

/-- CONFIRM_MISS (R360). -/
def execConfirmMiss (t : Nat) (s : State) : Host.Outcome State Fault Refusal :=
  .next <| (s.instant t).whileRunning fun s =>
    if s.btr.acts = false ∨ s.canMiss 0x0A = false then s else
    let s := s.withCrs { s.crs with doneItems := s.crs.doneItems ++ [0x0A] }
    let n := min 3 (s.btr.missStreak + 1)
    let s := s.withBtr { s.btr with missStreak := n, goodConfirms := 0, missLatched := s.btr.missLatched || n == 3 }
    let s := (s.count .btrMiss).raise 75 .notice 0 0 noIndex []
    s.btrReady.sendSafety 16

/-! ## Activation and save (R348, R349, R363) -/

/-- A start-up test in progress ends, its switch open (R354). -/
def State.endStartTest (o : Nat) (s : State) : State :=
  let x := s.btrOut o
  if x.startStep = 0 then s
  else (s.emit (.pin (if x.startStep = 1 then ballHigh o else ballLow o) false)).setBtrOut o { x with startStep := 0 }

/-- An activation that changes SAFETY: counts, latches and timers are cleared, outputs go off, the section and the seal
code are checked, the tests start again (R348, R349). -/
def State.activateButtress (old : List Byte) (s : State) : State :=
  let s := s.withBtr { s.btr with vessel := s.vesselId }
  if imgSection old 0x0D = s.sect 0x0D ∧ s.btr.taken then s else
  let s := (List.range 8).foldl (fun s o => (s.endStartTest o).btrSwitch o false) s
  let p := s.sect 0x0D
  let crcOk := match dirFind s.image 0x0D with
    | some i => word (u32 s.image (dirAt i + 12)) == crc32 p
    | none => false
  let sealOk := BitVec.ofNat 16 (u16 s.image 0x18) == s.sec.sealCode
  let good := crcOk && sealOk
  let s := s.withBtr { s.btr with
    params := if good then p else [], taken := good, sealBad := !sealOk, paramCrc := if good then crc32 p else 0
    inputs := Vector.replicate 16 BtrIn.reset, outputs := Vector.replicate 8 BtrOut.reset
    remotes := Vector.replicate 8 BtrRem.reset, missStreak := 0, goodConfirms := 0, missLatched := false, readyOnce := false }
  let s := s.btr.outs.foldl (fun s o =>
    s.setBtrOut o { BtrOut.reset with testIn := max 1 (u16 (s.btr.recOut o) 4 / 2) }) s
  (s.btrPublish s.btrMask).btrReady

/-- At the start of a hold-up save one safety frame with SAVE leaves, and the outputs are held as they stand (R363). -/
def State.buttressSave (s : State) : State := (s.sendSafety 8).withBtr { (s.sendSafety 8).btr with save := true }

end Sys2Proof.Machine
end

