-- ==== Sys2Proof/Machine/Can.lean ====
section
/-! DEFINITION. CAN FD controllers (spec/16_can_fd.md R391 to R410). -/

namespace Sys2Proof.Machine
open Sys2Proof

/-! ## The CAN part of the NETWORK section (R393) -/

/-- Field of a controller's record at offset `o`, of `n` bytes. -/
def State.canCfg (s : State) (c o n : Nat) : Nat := ule (s.sect 0x0E) (0x40 + 32 * c + o) n

/-- USE bit `i`: 0 keystone, 1 IEC 61162-3, 2 time master. -/
def State.canUse (s : State) (c i : Nat) : Bool := tbit (s.canCfg c 1 1) i

/-- MODE bit `i`. -/
def State.canModeBit (s : State) (c i : Nat) : Bool := tbit (s.canCfg c 2 1) i

/-- A controller. -/
def State.canCtl (s : State) (c : Nat) : CanCtl := vget s.can.ctls c CanCtl.reset

/-- The state with a controller replaced. -/
def State.setCan (c : Nat) (x : CanCtl) (s : State) : State := s.withCan { s.can with ctls := vset s.can.ctls c x }

/-- Counter `n` of a controller: 0 CAN_ERR, 1 CAN_BUSOFF, 2 CAN_CLASH, 3 CAN_TX_FAIL, 4 CAN_RX_LOST, 5 CAN_REASM. -/
def canCtr (c n : Nat) : Ctr :=
  match c, n with
  | 0, 0 => .can0Err
  | 0, 1 => .can0Busoff
  | 0, 2 => .can0Clash
  | 0, 3 => .can0TxFail
  | 0, 4 => .can0RxLost
  | 0, _ => .can0Reasm
  | 1, 0 => .can1Err
  | 1, 1 => .can1Busoff
  | 1, 2 => .can1Clash
  | 1, 3 => .can1TxFail
  | 1, 4 => .can1RxLost
  | 1, _ => .can1Reasm
  | _, 0 => .can2Err
  | _, 1 => .can2Busoff
  | _, 2 => .can2Clash
  | _, 3 => .can2TxFail
  | _, 4 => .can2RxLost
  | _, _ => .can2Reasm

/-- CAN_CFG of a controller. -/
def canCfgReg (c : Nat) : CfgReg := if c = 0 then .canCfg0 else if c = 1 then .canCfg1 else .canCfg2

/-- A buffer is for keystone segments or the reference message on this controller (R396). -/
def State.canReserved (s : State) (c b : Nat) : Bool :=
  (decide (b < 16) && s.canUse c 0) || (b == 16 && s.canUse c 2)

/-! ## Error confinement (R399 to R401) -/

/-- The error state that TEC and REC give a controller that is not bus-off. -/
def canLevel (tec rec_ : Nat) : Nat := if 255 < tec then 2 else if 127 < tec ∨ 127 < rec_ then 1 else 0

/-- A change of error state: event source 104 with the new state as its cause, and a bus-off counted (R399). -/
def State.canSetState (c n : Nat) (s : State) : State :=
  let x := s.canCtl c
  if x.state = n then s else
  let s := s.setCan c { x with state := n, offAt := if n = 2 then s.clk.now else x.offAt }
  let s := if n = 2 then s.count (canCtr c 1) else s
  s.raise 104 (if n = 2 ∧ s.canUse c 0 then .alarm else .warning) 3 n c []

/-- TEC and REC take new values and the error state follows; in restricted operation they keep theirs (R399, R403). -/
def State.canLevels (c tec rec_ : Nat) (s : State) : State :=
  let x := s.canCtl c
  if x.restricted ∨ 2 ≤ x.state then s else
  (s.setCan c { x with tec := tec, rxErr := min 255 rec_ }).canSetState c (canLevel tec (min 255 rec_))

/-- The controller takes part in bus traffic: in use and not bus-off. -/
def CanCtl.live (x : CanCtl) : Bool := !x.off && decide (x.state < 2)

/-- A recovery sequence begins (R401). -/
def State.canRecover (c : Nat) (s : State) : State := s.canSetState c 3

/-- CAN_BUSOFF_WAIT_EXPIRY (R401 step 1). -/
def execCanBusoffWaitExpiry (t ctl : Nat) (s : State) : Host.Outcome State Fault Refusal :=
  .next <| (s.instant t).whileRunning fun s =>
    let x := s.canCtl ctl
    if ctl < 3 ∧ x.state = 2 ∧ s.canModeBit ctl 3 ∧ x.offAt + 1000000 * s.canCfg ctl 0x0E 2 ≤ s.clk.now
    then s.canRecover ctl else s

/-- CAN_RECOVERY_DONE (R401 step 3): error-active, TEC and REC zero, event source 104 marked recovered. -/
def execCanRecoveryDone (t ctl : Nat) (s : State) : Host.Outcome State Fault Refusal :=
  .next <| (s.instant t).whileRunning fun s =>
    let x := s.canCtl ctl
    if ctl < 3 ∧ x.state = 3 then
      (s.setCan ctl { x with state := 0, tec := 0, rxErr := 0 }).raise 104 .warning 1 0 ctl []
    else s

/-! ## Transmit buffers (R395 to R398) -/

/-- A buffer of a controller. -/
def CanCtl.buf (x : CanCtl) (b : Nat) : CanBuf := vget x.bufs b CanBuf.reset

/-- The controller with a buffer replaced. -/
def CanCtl.setBuf (b : Nat) (y : CanBuf) (x : CanCtl) : CanCtl := { x with bufs := vset x.bufs b y }

/-- A write is committed: shadow and active are swapped in one step (R395). -/
def CanCtl.commit (now b : Nat) (m : CanMsg) (host once : Bool) (x : CanCtl) : CanCtl :=
  let y := x.buf b
  x.setBuf b { y with
    pending := true, msg := m, time := now, since := if y.pending then y.since else now,
    prev := if y.pending then some y.msg else none, once := once, abort := false, host := host }

/-- Arbitration rank: the 11 high bits of the identifier, base format ahead, then the rest, then the buffer number (R396). -/
def CanMsg.rank (m : CanMsg) (b : Nat) : Nat :=
  32 * (if m.ext then m.ident / 262144 * 524288 + 262144 + m.ident % 262144 else m.ident % 2048 * 524288) + b

/-- The part sends reference messages: it is single, or holds the role ACTIVE (R408). -/
def State.refActive (s : State) : Bool := !s.pairMode || s.rdn.role == 2

/-- A buffer may be sent now: pending, and for the reference message while the part is single or ACTIVE and was so at its
commit: a new ACTIVE sends from its next frame tick (R408). -/
def State.canEligible (s : State) (c b : Nat) : Bool :=
  ((s.canCtl c).buf b).pending && !(b == 16 && s.canUse c 2 && !((s.canCtl c).refSend && s.refActive))

/-- The content that an attempt begun at `start` sends (R395). -/
def CanBuf.contentAt (y : CanBuf) (start : Nat) : CanMsg :=
  if start < y.time then y.prev.getD y.msg else y.msg

/-- The buffer with which the controller entered arbitration at `start`: of those pending then, the first (R396). -/
def State.canFirst (s : State) (c start b : Nat) : Bool :=
  let x := s.canCtl c
  let at_ (n : Nat) : Bool := s.canEligible c n && decide ((x.buf n).since ≤ start)
  at_ b && (List.range 32).all (fun n =>
    !at_ n || decide (((x.buf b).contentAt start).rank b ≤ ((x.buf n).contentAt start).rank n))

/-- The pending state of a buffer ends. `outcome` is that of a host buffer: 0 sent, 1 aborted, 2 failed, reported by
event source 106 and counted when not sent (R398, R410). -/
def State.canEnd (c b outcome : Nat) (s : State) : State :=
  let x := s.canCtl c
  let y := x.buf b
  let s := s.setCan c (x.setBuf b { y with pending := false, abort := false, prev := none })
  if y.host then
    let s := if outcome = 0 then s else s.count (canCtr c 3)
    s.raise 106 .notice 0 0 c [word b, word outcome]
  else s

/-- An identifier clash of a buffer (R402). -/
def State.canClash (c b : Nat) (s : State) : State :=
  let x := s.canCtl c
  let s := s.setCan c { x with single := wbit x.single b true }
  (s.count (canCtr c 2)).raise 105 .notice 0 0 c [word b, word (x.buf b).msg.ident]

/-- The increase of TEC for a transmit error under ISO 11898-1: 8, but for the error-passive controller's acknowledgment
error with no dominant bit during its passive flag and for a stuff error during arbitration; and 8 for each bit error in
the active flag or dominant bit too many after a flag. PRESUMED (assumption 24). -/
def tecRise (state code : Nat) (afterArb dominant : Bool) (extra : Nat) : Nat :=
  (if code = 3 ∧ state = 1 ∧ dominant = false then 0 else if code = 1 ∧ afterArb = false then 0 else 8) + 8 * extra

/-- An attempt of a buffer ended in an error; the attempt that shows a clash is the last of its commit, as in the example
of R402. The outcome of a single shot stands, whatever was asked meanwhile (R398, R399, R402). -/
def State.canTxError (c b : Nat) (e : CanFault) (old : Bool) (s : State) : State :=
  let x := s.canCtl c
  let s := s.setCan c { x with errCode := e.code, errData := e.dataPhase, errTx := true, errBuf := b }
  let s := s.count (canCtr c 0)
  let s := s.canLevels c (x.tec + tecRise x.state e.code e.afterArb e.dominant e.extra) x.rxErr
  let n := if (e.code = 4 ∨ e.code = 5) ∧ e.afterArb then (x.buf b).clash + 1 else 0
  let x := s.canCtl c
  let y := x.buf b
  let wasSingle := x.single.getLsbD b || y.once
  let s := s.setCan c (x.setBuf b { y with clash := n % 3, prev := none })
  let s := if n = 3 then s.canClash c b else s
  if (wasSingle ∨ n = 3) ∧ old = false then s.canEnd c b 2
  else if y.abort then s.canEnd c b 1
  else s

/-- CAN_TX_ATTEMPT_END: an attempt of buffer `buf` that began `dur` ns ago ended (R395, R396, R402). -/
def execCanTxAttemptEnd (t ctl buf dur : Nat) (outcome : CanEnd) (s : State) : Host.Outcome State Fault Refusal :=
  .next <| (s.instant t).whileRunning fun s =>
    let x := s.canCtl ctl
    let start := s.clk.now - dur
    if ctl ≥ 3 ∨ x.live = false ∨ x.restricted ∨ s.canFirst ctl start buf = false then s else
    let y := x.buf buf
    let old := decide (start < y.time) && y.prev.isSome
    match outcome with
    | .lost =>
      let s := s.setCan ctl (x.setBuf buf { y with clash := 0, prev := none })
      if (x.single.getLsbD buf ∨ y.once) ∧ old = false then s.canEnd ctl buf 2
      else if y.abort then s.canEnd ctl buf 1 else s
    | .error e => s.canTxError ctl buf e old
    | .sent tdc =>
      let m := y.contentAt start
      let s := s.emit (.can ctl m.ident m.ext m.fd m.brs m.data)
      let s := s.setCan ctl { x.setBuf buf { y with clash := 0, prev := none } with tdc := if m.brs ∧ s.canCfg ctl 9 1 ≤ 2 then tdc % 128 else x.tdc }
      let s := s.canLevels ctl (x.tec - 1) x.rxErr
      if old then (if y.abort then s.canEnd ctl buf 1 else s) else s.canEnd ctl buf 0

/-- CAN_SINGLE_CLEAR: writing 1 to a buffer's bit returns it to normal retransmission (R402). -/
def execCanSingleClear (t ctl : Nat) (w : Word) (s : State) : Host.Outcome State Fault Refusal :=
  .next <|
    if ctl ≥ 3 then s else
    (s.instant t).barWrite (0xB010 + 0x400 * ctl) fun s =>
    let x := s.canCtl ctl
    s.setCan ctl { x with single := x.single &&& ~~~w }

/-! ## Host commands (R398, R401, R403) -/

/-- The lowest free host buffer of a controller. -/
def State.canFree (s : State) (c : Nat) : Option Nat :=
  (List.range 32).find? (fun b => !s.canReserved c b && !((s.canCtl c).buf b).pending)

/-- CAN_SEND takes effect (R398). -/
def State.takeCanSend (w : Waiting) (c flags ident : Nat) (data : List Byte) (s : State) : State :=
  if (s.canCtl c).off then s.refuse w 2
  else match s.canFree c with
    | none => s.refuse w 1
    | some b =>
      let ext := tbit flags 0
      let m : CanMsg := { ident := if ext then ident % 536870912 else ident % 2048, ext := ext, fd := tbit flags 1,
                          brs := tbit flags 1 && tbit flags 2, data := data }
      (s.setCan c ((s.canCtl c).commit s.clk.now b m true (tbit flags 3))).done w b

/-- CAN_ABORT takes effect (R398). Whether an attempt of the buffer is in progress is not in the state: a free value. -/
def State.takeCanAbort (w : Waiting) (c b : Nat) (s : State) : State :=
  if s.canReserved c b then s.refuse w 1 else
  let x := s.canCtl c
  let y := x.buf b
  let s := if y.pending = false then s
    else if x.live ∧ x.restricted = false ∧ Config.canBusy s.clk.free then
      (s.setCan c (x.setBuf b { y with abort := true })).useFree
    else (s.canEnd c b 1).useFree
  s.done w 0

/-- CAN_RECOVER takes effect (R401). -/
def State.takeCanRecover (w : Waiting) (c : Nat) (s : State) : State :=
  if (s.canCtl c).state = 2 then (s.canRecover c).done w 0 else s.refuse w 1

/-- CAN_MODE takes effect (R403). -/
def State.takeCanMode (w : Waiting) (c mode : Nat) (s : State) : State :=
  if s.canUse c 0 ∨ s.canUse c 2 then s.refuse w 1
  else (s.setCan c { s.canCtl c with restricted := mode == 1 }).done w 0

/-! ## Keystone segments and the reference message (R329, R397, R408) -/

/-- PAIR_SLOT: 1 for the part of a pair with the higher UNIT_ID (R329). -/
def State.pairSlot (s : State) : Nat :=
  match s.rdn.partnerUnit with
  | some u => if s.pairMode ∧ u < s.rdn.unitId then 1 else 0
  | none => 0

/-- The segment of an entry (R329). -/
def ksSegment (k : KsFrame) (entry : List Byte) : List Byte :=
  lebytes 2 k.claim.toNat ++ [byte k.flags, byte k.hold] ++ wbytes k.seq ++ padTo 16 entry

/-- Commit one keystone segment; one still pending is replaced and counts as a copy not sent (R397). -/
def State.canSegment (c u : Nat) (data : List Byte) (s : State) : State :=
  let x := s.canCtl c
  let held := (x.buf u).pending
  let m : CanMsg := { ident := s.canCfg c 0x10 2 + 16 * s.pairSlot + u, ext := false, fd := true, brs := s.canModeBit c 1, data := data }
  let s := s.setCan c (x.commit s.clk.now u m false false)
  if held then (s.count .netTxFail).raise 96 .notice 0 0 (2 + c) [] else s

/-- The keystone frame goes to every controller of keystone use, one segment a unit (R329, R397). `full` has bit 2 + c
set where controller c cannot accept its copy: that copy is not sent (R21). -/
def State.canKeystone (k : KsFrame) (full : Nat) (s : State) : State :=
  [0, 1, 2].foldl (fun s c =>
    if s.canUse c 0 = false then s
    else if tbit full (2 + c) || s.fifoStalled 22 then (s.count .netTxFail).raise 96 .notice 0 0 (2 + c) []
    else
      k.entries.zipIdx.foldl (fun s e => s.canSegment c (e.2 % 16) (ksSegment k e.1)) s) s

/-- The reference message of a frame (R408). -/
def State.canRefData (s : State) : List Byte :=
  [byte (s.crs.frame.toNat % 64)] ++ wbytes s.crs.frame ++ lebytes 2 s.frameCourses ++ [byte s.rdn.unitId]

/-- The reference messages at a frame tick; one still pending is replaced (R408). -/
def State.canReference (s : State) : State :=
  [0, 1, 2].foldl (fun s c =>
    if s.canUse c 2 then
      let x := s.canCtl c
      let held := (x.buf 16).pending
      let m : CanMsg := { ident := s.canCfg c 0x12 2, ext := false, fd := false, brs := false, data := s.canRefData }
      let s := s.setCan c { x.commit s.clk.now 16 m false false with refSend := s.refActive }
      if held then s.raise 108 .notice 0 0 c [] else s
    else s) s

/-- The controllers take the CAN part of a NETWORK section that differs (R393, R403). -/
def State.canActivate (old : List Byte) (s : State) : State :=
  if imgSection old 0x0E = s.sect 0x0E then s else
  [0, 1, 2].foldl (fun s c =>
    s.setCan c { s.canCtl c with off := s.canCfg c 1 1 == 0, restricted := s.canModeBit c 2 }) s

/-! ## Reception (R404 to R407) -/

/-- The parameter group of an extended identifier (R406). -/
def canPgn (ident : Nat) : Nat :=
  let p := bits ident 8 18
  if bits ident 16 8 < 240 then p / 256 * 256 else p

/-- A route entry of KIND 2 names the controller, and its source address fits (R407). -/
def canEntryFits (c sa : Nat) (r : List Byte) : Bool :=
  rtKind r == 2 && rtInbound r && u8 (rtIdent r) 5 == c && (u8 (rtIdent r) 4 == 0xFF || u8 (rtIdent r) 4 == sa)

/-- The route entry of a parameter group, controller and source address (R407). -/
def State.canEntry (s : State) (c pgn sa : Nat) : Option (List Byte) :=
  s.routes.find? (fun r => canEntryFits c sa r && u32 (rtIdent r) 0 == pgn)

/-- The acceptance filter (R404): an entry's group, the broadcast transport groups of a source that an entry fits, and
REF_ID on a time master. -/
def State.canAccepts (s : State) (c ident : Nat) (ext : Bool) : Bool :=
  if ext then
    (s.canEntry c (canPgn ident) (ident % 256)).isSome
      || ((canPgn ident == 0xEC00 || canPgn ident == 0xEB00) && bits ident 8 8 == 0xFF && s.routes.any (canEntryFits c (ident % 256)))
  else s.canUse c 2 && ident == s.canCfg c 0x12 2

/-- UNC of a frame, 0.1 µs: 6 µs and half a nominal bit time (R405). -/
def State.canUnc (s : State) (c : Nat) : Nat :=
  60 + s.canCfg c 4 2 * (1 + s.canCfg c 6 1 + s.canCfg c 7 1) / 16

/-- A frame enters the receive FIFO, or is lost (R404); at RXF_WARN event source 107 is raised as a warning (R410). -/
def State.canQueue (c : Nat) (f : CanRx) (s : State) : State :=
  let x := s.canCtl c
  if x.fifo.length < 64 then
    let s := s.setCan c { x with fifo := x.fifo ++ [f] }
    if x.fifo.length + 1 = bits (s.effReg (canCfgReg c)).toNat 0 7 then s.raise 107 .warning 0 0 c [] else s
  else
    let s := (s.setCan c { x with lostSince := true }).count (canCtr c 4)
    if x.lostSince then s else s.raise 107 .notice 0 0 c []

/-- CAN_FRAME_RX: the receive interrupt of a valid frame of duration `dur` ns (R404, R405). -/
def execCanFrameRx (t ctl ident : Nat) (ext remote : Bool) (data : List Byte) (dur : Nat) (s : State) :
    Host.Outcome State Fault Refusal :=
  .next <| (s.instant t).whileRunning fun s =>
    let x := s.canCtl ctl
    if ctl ≥ 3 ∨ x.live = false then s else
    let rx := if x.rxErr > 127 then 119 + Config.canRecAfter s.clk.free % 9 else x.rxErr - 1
    let s := if x.rxErr > 127 then s.useFree else s
    let s := s.canLevels ctl x.tec rx
    if remote = false ∧ s.canAccepts ctl ident ext then
      s.canQueue ctl { ident := ident, ext := ext, data := data, stamp := s.devTime - 6000 - dur, unc := s.canUnc ctl, time := s.clk.now }
    else s

/-- CAN_RX_ERROR: an error detected while receiving. `dominant` counts what raises REC by 8 more: a dominant first bit
after the error flag, a bit error in the active flag, each further group of dominant bits. CODE 7 is a recessive res bit: a
protocol exception when MODE bit 4 is set, else a form error (R391, R399). -/
def execCanRxError (t ctl code : Nat) (data : Bool) (dominant : Nat) (s : State) : Host.Outcome State Fault Refusal :=
  .next <| (s.instant t).whileRunning fun s =>
    let x := s.canCtl ctl
    if ctl ≥ 3 ∨ x.live = false ∨ code = 0 ∨ code > 7 then s
    else if code = 7 ∧ s.canModeBit ctl 4 then
      (s.setCan ctl { x with errCode := 7, errData := data, errTx := false }).raise 109 .notice 0 0 ctl []
    else
      let s := s.setCan ctl { x with errCode := if code = 7 then 2 else code, errData := data, errTx := false }
      (s.count (canCtr ctl 0)).canLevels ctl x.tec (x.rxErr + 1 + 8 * dominant)

/-! ## IEC 61162-3 messages (R406, R407) -/

/-- A message is discarded in reassembly (R407). -/
def State.canDiscard (c : Nat) (s : State) : State := (s.count (canCtr c 5)).raise 107 .notice 0 0 c []

/-- The messages of a controller that `dead` tells are discarded (R407). -/
def State.canExpire (c : Nat) (dead : CanAsm → Bool) (s : State) : State :=
  let x := s.canCtl c
  let gone := x.asms.filter dead
  let s := s.setCan c { x with asms := x.asms.filter (fun a => !dead a) }
  gone.foldl (fun s _ => s.canDiscard c) s

/-- A message's latest frame came more than 750 ms before `now` (R407). -/
def CanAsm.late (now : Nat) (a : CanAsm) : Bool := decide (a.last + 750000000 < now)

/-- A frame of the message waits in the FIFO, in time. -/
def CanCtl.waits (x : CanCtl) (a : CanAsm) : Bool :=
  x.fifo.any (fun f => f.ext && f.ident % 256 == a.sa && canPgn f.ident == (if a.kind = 1 then 0xEB00 else a.pgn) && !a.late f.time)

/-- CAN_REASM_TIMEOUT (R407). -/
def execCanReasmTimeout (t ctl : Nat) (s : State) : Host.Outcome State Fault Refusal :=
  .next <| (s.instant t).whileRunning fun s =>
    if ctl < 3 then s.canExpire ctl (fun a => a.late s.clk.now && !(s.canCtl ctl).waits a) else s

/-- The update that a message gives point `n` of a block (R375). -/
def canUpd (r msg : List Byte) (n : Nat) : PtUpd :=
  let o := rtField r + 4 * n
  let whole := decide (o + 4 ≤ msg.length)
  { num := rtFirst r + n, value := if whole then some (word (u32 msg o)) else none, typ := rtType r, qual := if whole then 0 else 2 }

/-- A message that is a sentence goes to the intake when a quoin entry names its route entry (spec/04 R84, R87; R407). -/
def State.canIntake (r msg : List Byte) (stamp : Int) (unc : Nat) (s : State) : State :=
  match s.quoinOfRoute 5 (rtEntry r) with
  | none => s
  | some q =>
    if u8 msg 0 ≠ 0x24 ∧ u8 msg 0 ≠ 0x21 then s else
    match checkSentence false msg with
    | .bad => s.sniError (qnEntry q)
    | .ok addr fs =>
      match parseSentence addr fs with
      | some (.record kind data _) => s.arrive q kind 0 unc (stamp - qnLatency q) data
      | some .bad => s.sniError (qnEntry q)
      | _ => s

/-- A message of a route entry is complete (R407). -/
def State.canMessage (r msg : List Byte) (stamp : Int) (unc : Nat) (s : State) : State :=
  (s.updateRoute r stamp ((List.range (rtCount r)).map (canUpd r msg))).canIntake r msg stamp unc

/-- The message that a kind and a source have in reassembly. -/
def CanCtl.asm (x : CanCtl) (kind sa pgn : Nat) : Option CanAsm :=
  x.asms.find? (fun a => a.kind == kind && a.sa == sa && (kind == 1 || a.pgn == pgn))

/-- Drop it. -/
def CanCtl.dropAsm (kind sa pgn : Nat) (x : CanCtl) : CanCtl :=
  { x with asms := x.asms.filter (fun a => !(a.kind == kind && a.sa == sa && (kind == 1 || a.pgn == pgn))) }

/-- A message whose bytes have all arrived goes on; another waits for its next frame. -/
def State.canProgress (c : Nat) (a : CanAsm) (s : State) : State :=
  let x := (s.canCtl c).dropAsm a.kind a.sa a.pgn
  if a.total ≤ a.data.length then
    let s := s.setCan c x
    match s.canEntry c a.pgn a.sa with
    | some r => s.canMessage r (a.data.take a.total) a.stamp a.unc
    | none => s
  else s.setCan c { x with asms := x.asms ++ [a] }

/-- A message begins; one of its kind and source that was in progress is discarded. -/
def State.canBegin (c limit : Nat) (a : CanAsm) (s : State) : State :=
  let s := if ((s.canCtl c).asm a.kind a.sa a.pgn).isSome then
      (s.setCan c ((s.canCtl c).dropAsm a.kind a.sa a.pgn)).canDiscard c
    else s
  if limit < a.total then s.canDiscard c else s.canProgress c a

/-- The next frame of a message in progress: in order, or the message is discarded (R407). -/
def State.canNext (c kind sa pgn : Nat) (ok : CanAsm → Bool) (more : List Byte) (now : Nat) (s : State) : State :=
  match (s.canCtl c).asm kind sa pgn with
  | none => s
  | some a =>
    if ok a then s.canProgress c { a with next := a.next + 1, data := a.data ++ more, last := now }
    else (s.setCan c ((s.canCtl c).dropAsm kind sa pgn)).canDiscard c

/-- A frame of a fast packet: byte 0 is the sequence number and the frame counter, byte 1 of frame 0 the length.
PRESUMED (assumption 24). -/
def State.canFast (c pgn : Nat) (f : CanRx) (s : State) : State :=
  let sa := f.ident % 256
  let q := u8 f.data 0 / 32
  let n := u8 f.data 0 % 32
  if n = 0 then
    s.canBegin c 223 { kind := 0, sa := sa, pgn := pgn, seq := q, next := 1, total := u8 f.data 1, data := f.data.drop 2,
                       stamp := f.stamp, unc := f.unc, last := f.time }
  else s.canNext c 0 sa pgn (fun a => a.seq == q && a.next == n) (f.data.drop 1) f.time

/-- A frame of the transport groups: a broadcast announce begins a message; connection mode is not supported.
PRESUMED formats (assumption 24). -/
def State.canTransport (c pgn : Nat) (f : CanRx) (s : State) : State :=
  let sa := f.ident % 256
  if pgn = 0xEC00 then
    let p := ule f.data 5 3
    if u8 f.data 0 ≠ 32 ∨ (s.canEntry c p sa).isNone then s
    else s.canBegin c 1785 { kind := 1, sa := sa, pgn := p, seq := 0, next := 1, total := u16 f.data 1, data := [],
                             stamp := f.stamp, unc := f.unc, last := f.time }
  else s.canNext c 1 sa 0 (fun a => a.next == u8 f.data 0) (f.data.drop 1) f.time

/-- One frame taken from a receive FIFO: on a base identifier a reference conflict (R407, R408). -/
def State.canTake (c : Nat) (f : CanRx) (s : State) : State :=
  if f.ext = false then s.raise 108 .notice 0 0 c [] else
  let s := s.canExpire c (fun a => a.late f.time)
  let pgn := canPgn f.ident
  match s.canEntry c pgn (f.ident % 256) with
  | some r =>
    if rtField r + 4 * rtCount r ≤ 8 then s.canMessage r f.data f.stamp f.unc else s.canFast c pgn f
  | none => if pgn = 0xEC00 ∨ pgn = 0xEB00 then s.canTransport c pgn f else s

/-- The receive FIFOs are emptied. -/
def State.canDrain (s : State) : State :=
  [0, 1, 2].foldl (fun s c =>
    let x := s.canCtl c
    let s := s.setCan c { x with fifo := [], lostSince := false }
    x.fifo.foldl (fun s f => s.canTake c f) s) s

/-- NET: received CAN frames, outbound publications, then queued events (R383, R404, R444). `full` names the networks
whose queue has no room. -/
def execNet (t full : Nat) (s : State) : Host.Outcome State Fault Refusal :=
  .next (s.runService 0x21 t (fun s => ((s.canDrain).publishAll full).writeEvents))

end Sys2Proof.Machine
end

