-- ==== Sys2Proof/Machine/Steering.lean ====
section
/-! DEFINITION. Steering of device time, its uncertainty, anchors and steps (spec/12_time_base.md R299 to R310, R316). -/

namespace Sys2Proof.Machine
open Sys2Proof

/-! ## Configuration -/

/-- STEP_THR, ns. -/
def State.stepThr (s : State) : Nat := 1000 * s.effField .timStep 0 20
/-- HO_LIMIT, ns. -/
def State.hoLimit (s : State) : Nat := 1000 * s.effField .timStep 20 12
/-- SLEW_MAX, ppm. -/
def State.slewMax (s : State) : Nat := s.effField .timServo 10 7

/-- A disciplining source. -/
def State.timSrc (s : State) (n : Nat) : TimSrc := vget s.tim.sources n TimSrc.reset

/-- The state with a source replaced. -/
def State.setTimSrc (n : Nat) (x : TimSrc) (s : State) : State :=
  s.withTim { s.tim with sources := vset s.tim.sources n x }

/-! ## Steering (R304, R306, R316) -/

/-- An offset after `d` ns of slewing toward 0 at `ppm`. -/
def slewBy (ppm d : Nat) (x : Int) : Int :=
  let r : Int := ppm * d / 1000000
  if x < 0 then min 0 (x + r) else max 0 (x - r)

/-- The offset still being slewed at the present instant. -/
def State.slewNow (s : State) : Int := slewBy s.slewMax (s.clk.now - s.tim.steerAt) s.tim.slewLeft

/-- The total steering of device time at the present instant, ns: what the frequency word has added less what slewing
has removed. -/
def State.steerNow (s : State) : Int :=
  let d : Int := (s.clk.now - s.tim.steerAt : Nat)
  s.tim.steer + s.tim.freq * d / 281474976710656 - (s.tim.slewLeft - s.slewNow)

/-- Offset of the time pulse from its place at the present instant, late counted positive; a change of DELAY is slewed
alike. The pulse moves in true time at SLEW_MAX: what the slewing of device time moves it by counts in (R316). -/
def State.ppsNow (s : State) : Int :=
  let want : Int := s.effField .timPps 11 16
  let x := s.tim.ppsPhase + (want - s.tim.ppsDelay)
  let r : Int := s.slewMax * (s.clk.now - s.tim.steerAt) / 1000000
  let m := s.tim.slewLeft - s.slewNow
  if x < 0 then min 0 (x + max 0 (r - m)) else max 0 (x - max 0 (r + m))

/-- Slewing and steering are accounted up to the present instant. -/
def State.timAdvance (s : State) : State :=
  s.withTim { s.tim with
    steer := s.steerNow, slewLeft := s.slewNow, steerAt := s.clk.now
    ppsPhase := s.ppsNow, ppsDelay := s.effField .timPps 11 16 }

/-! ## Uncertainty and holdover (R310) -/

/-- Twice the standard deviation of a list of offsets. -/
def twoSigma (l : List Int) : Nat :=
  let n := l.length
  let sum := l.foldl (· + ·) 0
  let sq := l.foldl (fun a x => a + x * x) 0
  if n = 0 then 0 else isqrt (4 * ((n : Int) * sq - sum * sum)).toNat / n

/-- U(t) of R310, rounded to whole ns, half upward (DEDUCED, assumption 88). -/
def State.holdoverUnc (s : State) (u0 : Nat) : Nat :=
  let d := s.clk.now - s.tim.uncAt
  let age := s.effField .timHold 10 10 * d * d
  u0 + (divRound (2000000000000 * s.effField .timHold 0 10 * d + age : Nat) 2000000000000000000000).toNat

/-- TIM_UNC; all-ones while unknown or larger. -/
def State.timUnc (s : State) : Nat :=
  match s.tim.state, s.tim.unc with
  | 1, some b => min 0xFFFFFFFF (b + s.slewNow.natAbs)
  | 2, some u => min 0xFFFFFFFF (s.holdoverUnc u)
  | _, _ => 0xFFFFFFFF

/-- HO_EXCEEDED follows the comparison of TIM_UNC with HO_LIMIT (R310). -/
def State.checkExceeded (s : State) : State :=
  let on := decide (s.hoLimit < s.timUnc)
  if on = s.tim.hoExceeded then s
  else (s.withTim { s.tim with hoExceeded := on }).raise 58 (if on then .alarm else .notice) (b2n (!on)) 2 noIndex [word s.timUnc]

/-- The frequency word is frozen: the mean of the integral term, or the starting word (R310). -/
def Tim.freeze (x : Tim) : Int :=
  if x.integral.isEmpty then x.startFreq else x.integral.foldl (· + ·) 0 / (x.integral.length : Int)

/-- The frequency word follows EXT_10M (R303). -/
def State.follows10m (s : State) : Bool := s.effField .timExt 0 1 == 1 && s.tim.ext10m

/-- Holdover begins with U_0, counted from `at_`; the word is frozen unless it follows EXT_10M (R303, R310). -/
def State.enterHoldover (u0 at_ : Nat) (s : State) : State :=
  let was := s.tim.state
  let s := s.timAdvance
  let s := s.withTim { s.tim with
    state := 2, unc := some u0, uncAt := at_, uncSlew := 0, slewLeft := 0
    freq := if s.follows10m then s.tim.freq else s.tim.freeze }
  let s := if was = 2 then s else s.raise 58 .notice 0 1 noIndex [word (min 0xFFFFFFFF u0)]
  s.checkExceeded

/-- Device time is loaded from the plinth's real-time counter at start-up, or stays unset (R309). `rtc` is the counter
and the outage, ns. -/
def State.startTime (rtc : Option (Nat × Nat)) (s : State) : State :=
  match rtc with
  | some (x, outage) =>
    (s.withClk { s.clk with base := (x : Int) - s.clk.now }).enterHoldover (1000000 + outage / 10000) s.clk.now
  | none => s.checkExceeded

/-! ## Anchors and steps (R300, R307, R308) -/

/-- The low and high words of a 64-bit value. -/
def words64 (x : Int) : List Word := [wordI x, wordI (x / 4294967296)]

/-- A new anchor: frame, device time of its tick, frame length (R300). -/
def State.placeAnchor (frame : Word) (time : Int) (s : State) : State :=
  let a : Anchor := { frame := frame, time := time, len := s.frameCourses, gen := (s.tim.anchor.gen + 1) % 256 }
  (s.withTim { s.tim with anchor := a, anchorDue := false }).raise 57 .notice 0 3 noIndex
    [frame, wordI (time / 1000000000), wordI (time / 1000000000 / 4294967296), wordI (time % 1000000000), word a.len]

/-- The offset of the tick from the whole millisecond, centred (R34). -/
def tickPhase (tick : Int) : Int :=
  let p := tick % 1000000
  if p < 500000 then p else p - 1000000

/-- Offsets measured before a step of device time move with it (R303). -/
def Tim.shift (d : Int) (x : Tim) : Tim :=
  { x with
    sources := x.sources.map (fun (y : TimSrc) => { y with offset := y.offset.map (· + d) })
    ports := x.ports.map (fun (p : PtpPort) => { p with
      offset := p.offset.map (· + d), sync := p.sync.map (fun q => (q.1, q.2 + d)), syncWait := p.syncWait.map (fun q => (q.1, q.2 + d)) })
    gnsOffset := x.gnsOffset.map (· + d), extOffset := x.extOffset.map (· + d) }

/-- Device time steps by `d`: the course tick and the pulse do not move, the tick is slewed, and an anchor is placed
for the frame (R34, R300, R308, R316). `seq` is W0 of the event. -/
def State.stepTime (d : Int) (seq : Nat) (s : State) : State :=
  let s := s.timAdvance
  let s := ((s.withClk { s.clk with base := s.clk.base + d }).withTim (s.tim.shift d)).withYlk { s.ylk with srcOffset := s.ylk.srcOffset.map (· + d) }
  let phase := tickPhase (s.clk.tickAt + s.clk.base)
  let was := s.crs.slewing
  let s := s.withCrs { s.crs with phase := phase, slewing := phase != 0 || was }
  let s := if phase ≠ 0 ∧ was = false then s.raise 5 .notice 0 0 noIndex [] else s
  let pps := (s.tim.ppsPhase + d) % 1000000000
  let s := s.withTim { s.tim with ppsPhase := if pps < 500000000 then pps else pps - 1000000000 }
  let s := s.raise 57 .notice 0 2 noIndex (word seq :: words64 d)
  s.placeAnchor s.crs.frame ((s.clk.tickAt - 1000000 * s.crs.course : Int) + s.clk.base)

end Sys2Proof.Machine
end

