-- ==== Sys2Proof/Machine/Cascade.lean ====
section
/-! DEFINITION. Cascades over the Yarerago link: ports, markers, beacons, membership, shared points and verdicts
(spec/23_cascade.md R518 to R532). Joining and member ticks stand in Ticks. -/

namespace Sys2Proof.Machine
open Sys2Proof

/-! ## Ports and topology (R518, R519, R523, R529) -/

/-- The up port with the smaller D_acc, of a member; else 2 (R523). -/
def State.tickPortNow (s : State) : Nat :=
  if s.ylk.state ≠ 2 then 2 else
  let d (p : Nat) : Nat := if s.linkUp p then vget s.ylk.dacc p 0xFFFF else 0x10000
  if d 0 ≥ 0x10000 ∧ d 1 ≥ 0x10000 then 2 else if d 1 < d 0 then 1 else 0

/-- The tick port is chosen again; a change raises event source 93 (R523, R533). -/
def State.updateTickPort (s : State) : State :=
  let p := s.tickPortNow
  if p = s.ylk.tickPort then s else (s.withYlk { s.ylk with tickPort := p }).raise 93 .notice 3 p noIndex []

/-- The topology as this part sees it: a ring while the image asks for one, both ports are up and the master's beacon
came on both within two frames (R529). DEDUCED (assumption 25). -/
def State.topoNow (s : State) : Nat :=
  if s.ylk.state < 2 ∨ s.linkPorts = 0 then 0 else
  let heard (p : Nat) : Bool := match vget s.ylk.bcnAt p none with
    | some c => decide (s.crs.courseCnt ≤ c + 2 * s.frameCourses)
    | none => false
  if u8 s.linkPart 8 = 1 ∧ s.linkUp 0 ∧ s.linkUp 1 ∧ heard 0 ∧ heard 1 then 2 else 1

/-- The topology is evaluated; a change raises event source 91 (R529). -/
def State.updateTopo (s : State) : State :=
  let n := s.topoNow
  if n = s.ylk.topo then s else (s.withYlk { s.ylk with topo := n }).raise 91 .notice 3 n noIndex []

/-- LINK_PORT_CHANGE (R518). -/
def execLinkPortChange (t port : Nat) (up : Bool) (s : State) : Host.Outcome State Fault Refusal :=
  .next <|
    if s.firmwareRuns = false ∨ port ≥ 2 ∨ s.linkPortEn port = false ∨ vget s.ylk.up port false = up then s else
    let s := s.instant t
    let s := s.withYlk { s.ylk with up := vset s.ylk.up port up }
    let s := if up then s else s.count .linkDown
    ((s.raise 91 .notice (b2n up) 0 port []).updateTickPort).updateTopo

/-- CABLE_DELAY_MEASURE: `trip` is the round trip less the turnaround, ns (R519). -/
def execCableDelayMeasure (t port trip : Nat) (s : State) : Host.Outcome State Fault Refusal :=
  .next <|
    if s.firmwareRuns = false ∨ port ≥ 2 ∨ s.linkUp port = false then s else
    let s := s.instant t
    s.withYlk { s.ylk with cable := vset s.ylk.cable port (min 0xFFFF (trip / 2)) }

/-! ## Markers (R523) -/

/-- TICK_MARKER_RX: a marker with these HOPS and course bits; `good` when its check character fits. It is forwarded
160 ns later, and kept for the next course when it is usable. -/
def execTickMarkerRx (t port hops course : Nat) (good : Bool) (s : State) : Host.Outcome State Fault Refusal :=
  .next <| (s.instant t).whileRunning fun s =>
    if port ≥ 2 ∨ s.linkUp port = false ∨ s.ylk.state = 0 ∨ s.ylk.state = 3 then s else
    let s := if s.linkUp (1 - port) ∧ hops < 31 then s.emit (.marker (1 - port) (hops + 1) (course % 256)) else s
    let usable := good && course % 256 == (s.crs.courseCnt + 1) % 256
    let s := s.withYlk { s.ylk with
      markAt := vset s.ylk.markAt port (some s.clk.now), markOk := vset s.ylk.markOk port usable
      markBits := course % 256, masterAt := s.crs.courseCnt }
    if s.ylk.state = 2 ∧ usable = false then
      let s := s.count .tickMiss
      if s.ylk.tickPort = port then s.raise 93 .notice 0 0 port [] else s
    else s

/-- The place of the tick that the marker of a port gives, ns since reset (R523). -/
def State.markerTick (s : State) (p : Nat) : Option Nat :=
  if s.linkUp p = false ∨ vget s.ylk.dacc p 0xFFFF = 0xFFFF then none
  else (vget s.ylk.markAt p none).map (fun a => a + s.tickDelay - vget s.ylk.dacc p 0)

/-- The tick that a member applies: from its tick port, else from its other port (R523). -/
def State.memberTick (s : State) : Option Nat :=
  let one (p : Nat) : Option Nat := if vget s.ylk.markOk p false then s.markerTick p else none
  match s.ylk.tickPort with
  | 0 => (one 0).or (one 1)
  | 1 => (one 1).or (one 0)
  | _ => none

/-- The markers that the master emits for a course (R523). -/
def State.emitMarkers (s : State) : State :=
  if s.ylk.state ≠ 3 then s else
  [0, 1].foldl (fun s p => if s.linkUp p then s.emit (.marker p 0 (s.crs.courseCnt % 256)) else s) s

/-! ## Beacons (R524) -/

/-- The members heard, as YLK_MEMBERS. -/
def State.heardMask (s : State) : Word := s.ylk.heard.foldl (fun m h => wbit m h.1 true) 0

/-- The beacon of a frame tick (R524). -/
def State.sendBeacon (s : State) : State :=
  if s.ylk.state ≠ 3 then s else
  let mask := wbit s.heardMask s.linkAddr true
  s.sendLink 4 (lebytes 6 (s.devTime / 1000000000).toNat ++ lebytes 4 (s.devTime % 1000000000).toNat
    ++ [byte s.frameCourses, byte s.linkRank] ++ lebytes 4 0 ++ wbytes mask)

/-- Device time of an own frame tick. -/
def State.linkTickTime (s : State) (frame : Word) : Option Int := (s.crs.tickTimes.find? (fun x => x.1 == frame)).map Prod.snd

/-- Source 5 takes its offset from the first beacon of a second (R303, R524). -/
def State.beaconOffset (hops : Nat) (b : LinkBeacon) (s : State) : State :=
  let sec := b.time / 1000000000
  if s.ylk.srcSec = some sec then s else
  match s.linkTickTime b.frame with
  | some t => s.withYlk { s.ylk with srcSec := some sec, srcOffset := some (t - b.time), srcHops := hops }
  | none => s

/-- T of the frames from `frame` on moves with a step that took place at the tick of that frame. -/
def State.retimeFrom (frame : Word) (d : Int) (s : State) : State :=
  s.withCrs { s.crs with tickTimes := s.crs.tickTimes.map (fun x => if newer frame x.1 then x else (x.1, x.2 + d)) }

/-- A step that the host accepted at the ring master is taken for the same frame tick: the beacon of that tick shows it as
a jump since the beacon before that slewing of both parts over the longest frame cannot give (R305, R316). DEDUCED
(assumption 83). -/
def State.followStep (b : LinkBeacon) (s : State) : State :=
  match s.linkTickTime b.frame with
  | none => s
  | some t =>
    let o := t - b.time
    let jump : Bool := match s.ylk.bcnOff with
      | some (p, st) => decide (min 20000 s.stepThr ≤ (o - p - (s.steerNow - st)).natAbs)
      | none => false
    if jump ∧ s.tim.state ≠ 0 then
      let s := (s.stepTime (-o) 0).retimeFrom b.frame (-o)
      let s := s.setTimSrc 5 { s.timSrc 5 with offset := some 0, steer := s.tim.steer }
      s.withYlk { s.ylk with bcnOff := some (0, s.tim.steer) }
    else s.withYlk { s.ylk with bcnOff := some (o, s.steerNow) }

/-- A beacon is acted on (R305, R524, R526, R528). -/
def State.takeBeacon (hops : Nat) (b : LinkBeacon) (s : State) : State :=
  match s.ylk.state with
  | 3 =>
    if s.linkRank < b.rank ∨ (s.linkRank = b.rank ∧ b.src < s.linkAddr) then
      ((s.withYlk { s.ylk with bcn := some b }).setLinkState 4).raise 92 .alarm 3 2 b.src []
    else s
  | 2 =>
    if b.src = s.ylk.master then
      ((s.withYlk { s.ylk with bcn := some b, masterAt := s.crs.courseCnt }).followStep b).beaconOffset hops b
    else s
  | _ => s.withYlk { s.ylk with bcn := some b, masterAt := s.crs.courseCnt }

/-- BEACON_RX: `casc` and `pair` are the master's CASCADE_ID and its choice of pair mode, of which the beacon's layout
lists neither. DEDUCED (assumption 25). -/
def execBeaconRx (t : Nat) (hd : LinkHdr) (bytes : List Byte) (casc : Word) (pair : Bool) (s : State) :
    Host.Outcome State Fault Refusal :=
  .next <| (s.instant t).whileRunning fun s =>
    let p := hd.port % 2
    if s.ylk.state = 0 ∨ s.linkUp p = false then s else
    let d := u32 bytes 12 + 160 + vget s.ylk.cable p 0
    let s := if hd.crc ≠ 0 then s else
      s.withYlk { s.ylk with
        bcnAt := vset s.ylk.bcnAt p (some s.crs.courseCnt)
        dacc := if hd.src = s.linkAddr then s.ylk.dacc else vset s.ylk.dacc p (min 0xFFFE d) }
    let fwd := bytes.take 12 ++ lebytes 4 d ++ bytes.drop 16
    let b : LinkBeacon := {
      src := hd.src, rank := u8 bytes 11, frame := hd.frame, time := ule bytes 0 6 * 1000000000 + u32 bytes 6
      len := u8 bytes 10, mask := word (u32 bytes 16), casc := casc, pair := pair, course := s.crs.courseCnt }
    ((s.linkTake hd 4 bytes fwd (State.takeBeacon hd.hops b)).updateTickPort).updateTopo

/-! ## Membership (R526, R527) -/

/-- The number of bits set. -/
def popWord (w : Word) : Nat := ((List.range 32).filter (fun i => w.getLsbD i)).length

/-- How far the master's tick lies from the own one, ns, when a marker has shown it. -/
def State.masterPhase (s : State) : Option Int :=
  match (s.markerTick 0).or (s.markerTick 1) with
  | some m =>
    let d := ((m : Int) - s.clk.tickAt) % 1000000
    some (if d < 500000 then d else d - 1000000)
  | none => none

/-- The part's tick lies within 20 µs of the master's, in the same course of the same frame: the beacon of a frame
leaves at its tick, so a part in phase has it in course 0 of its own frame of that number, or just before (R524, R526). -/
def State.inPhase (b : LinkBeacon) (s : State) : Option Int :=
  let open' := s.crs.courseCnt - s.crs.course
  match s.masterPhase with
  | some d =>
    if b.frame = s.crs.frame ∧ (b.course = open' ∨ b.course + 1 = open') ∧ -20000 < d ∧ d < 20000 then some d else none
  | none => none

/-- The first condition of R526 that fails, 0 when all hold. -/
def State.joinCause (b : LinkBeacon) (s : State) : Nat :=
  let limit := if s.pairMode then min 5000 (s.tickDelay - 500) else s.tickDelay - 500
  let near := [0, 1].any (fun p => s.linkUp p && decide (vget s.ylk.dacc p 0xFFFF ≤ limit))
  if word (u32 s.linkPart 0) ≠ b.casc ∨ s.pairMode ≠ b.pair then 1
  else if s.frameCourses ≠ b.len then 2
  else if b.src = s.linkAddr ∨ b.mask.getLsbD s.linkAddr then 3
  else if near = false then 4
  else if u8 s.linkPart 9 ≤ popWord b.mask then 5
  else if (s.ctl.mode == 0 && s.rdn.role != 2) || (s.inPhase b).isSome then 0 else 6

/-- This part's RANK is the highest of those named, ties to the lower ADDR; RANK 0 never (R527). -/
def State.ranksFirst (ranks : List (Nat × Nat)) (s : State) : Bool :=
  s.linkRank != 0 && ranks.all (fun r => decide (r.2 < s.linkRank ∨ (r.2 = s.linkRank ∧ s.linkAddr < r.1)))

/-- The part becomes ring master; its tick stays its own (R527). -/
def State.becomeMaster (s : State) : State :=
  let s := (s.withYlk { s.ylk with master := s.linkAddr, bcn := none }).setLinkState 3
  (s.raise 92 .alarm 3 1 s.linkAddr []).updateTickPort

/-- MASTER_LOSS: no beacon or marker of a master for MASTER_LOSS courses. `ranks` names ADDR and RANK of the parts
heard (R527). -/
def execMasterLoss (t : Nat) (ranks : List (Nat × Nat)) (s : State) : Host.Outcome State Fault Refusal :=
  .next <| (s.instant t).whileRunning fun s =>
    if s.ylk.state = 0 ∨ s.ylk.state = 3 ∨ s.crs.courseCnt < s.ylk.masterAt + s.masterLoss then s else
    let s := if s.ylk.state = 2 then
        ((s.setLinkState 4).raise 92 .alarm 0 0 s.ylk.master []).updateTickPort
      else s
    if s.ranksFirst ranks then s.becomeMaster else s

/-- What the link does at a frame tick: the members heard of late, the topology (R528, R529). -/
def State.linkFrame (s : State) : State :=
  if s.ylk.state = 0 then s else
  let s := s.withYlk { s.ylk with
    heard := s.ylk.heard.filter (fun h => decide (s.crs.courseCnt ≤ h.2 + 2 * s.frameCourses + s.masterLoss)) }
  s.updateTopo

/-- An activation: OFF without pair mode or a cascade image, LISTEN from it; a link part that differs starts anew. -/
def State.linkActivate (old : List Byte) (s : State) : State :=
  let s := if imgLinkPart old = s.linkPart then s else
    s.withYlk { s.ylk with
      verdicts := [], combined := []
      imports := (List.range (u8 s.linkPart 0x0B)).map (fun i => (i, { ImportSt.reset with since := s.crs.courseCnt })) }
  if s.linkMode = false then
    ((s.withYlk { s.ylk with bcn := none, heard := [], refused := 0 }).setLinkState 0).updateTickPort.updateTopo
  else if s.ylk.state = 0 then s.setLinkState 1 else s

/-! ## Shared points (R531) -/

/-- The export blocks of a frame, sent in POST_POINTS (R531). -/
def State.sendExports (s : State) : State :=
  let l := s.linkPart
  (List.range (u8 l 0x0A)).foldl (fun s i =>
    let x := lkExport l i
    if s.crs.tableFrames % max 1 (u8 x 2) = 0 then
      s.sendLink 0x0A (pointBlock (u8 x 0) ((List.range (u8 x 1)).map (fun n => (u32 x 4 + n, s.point (u32 x 4 + n)))))
    else s) s

/-- One record of a shared block is written, or counted when its TYPE differs from the point's (R531). A point never
written has no TYPE yet. -/
def State.importRecord (num : Nat) (r : List Byte) (s : State) : State :=
  let p := s.point num
  let typ := u8 r 12
  if p.full.isSome ∧ p.typ ≠ typ then s.count .crcErr
  else s.writePoints 0xFFFE (s.fullTime (word (u32 r 8))) s.crs.frame
    [{ num := num, value := some (word (u32 r 4)), typ := typ, qual := byte (u8 r 13) }]

/-- The import record of a source and a block. -/
def State.importOf (s : State) (src block : Nat) : Option Nat :=
  (List.range (u8 s.linkPart 0x0B)).find? (fun i => u8 (lkImport s.linkPart i) 0 == src && u8 (lkImport s.linkPart i) 1 == block)

/-- A publication of an import's block (R531). -/
def State.takeShared (i : Nat) (bytes : List Byte) (s : State) : State :=
  let m := lkImport s.linkPart i
  if u8 bytes 1 ≠ u8 m 2 then s.count .crcErr else
  let s := (List.range (u8 m 2)).foldl (fun s n => s.importRecord (u32 m 4 + n) (slice bytes (4 + 16 * n) 16)) s
  let x := aget i ImportSt.reset s.ylk.imports
  let y : ImportSt := { since := s.crs.courseCnt, stale := false }
  let s := s.withYlk { s.ylk with imports := aput i y s.ylk.imports }
  if x.stale then s.raise 94 .notice 1 0 i [] else s

/-- SHARED_POINT_BLOCK_RX (R531). -/
def execSharedPointBlockRx (t : Nat) (hd : LinkHdr) (bytes : List Byte) (s : State) : Host.Outcome State Fault Refusal :=
  .next <| (s.instant t).whileRunning <| State.linkTake hd 0x0A bytes bytes fun s =>
    match s.importOf hd.src (u8 bytes 0) with
    | some i => s.takeShared i bytes
    | none => s

/-- SHARED_BLOCK_STALE: no publication of import record `imp` for STALE × PERIOD × L courses, the exporter's PERIOD
being `period` (R531). -/
def execSharedBlockStale (t imp period : Nat) (s : State) : Host.Outcome State Fault Refusal :=
  .next <| (s.instant t).whileRunning fun s =>
    let m := lkImport s.linkPart imp
    let x := aget imp ImportSt.reset s.ylk.imports
    if u8 s.linkPart 0x0B ≤ imp ∨ period = 0 ∨ x.stale ∨ s.crs.courseCnt < x.since + u8 m 3 * period * s.frameCourses then s
    else
      let s := s.withYlk { s.ylk with imports := aput imp { x with stale := true } s.ylk.imports }
      (s.qualBit 2 true ((List.range (u8 m 2)).map (u32 m 4 + ·))).raise 94 .notice 0 0 imp []

/-! ## Shared verdicts (R532) -/

/-- CASE_VERDICTS_RX: the latest verdicts of a member (R532). -/
def execCaseVerdictsRx (t : Nat) (hd : LinkHdr) (bytes : List Byte) (s : State) : Host.Outcome State Fault Refusal :=
  .next <| (s.instant t).whileRunning <| State.linkTake hd 5 bytes bytes fun s =>
    (List.range (min (u8 bytes 0) ((bytes.length - 1) / 2))).foldl (fun s i =>
      let cc := u8 bytes (1 + 2 * i)
      s.withYlk { s.ylk with verdicts := aput (256 * hd.src + cc) (u8 bytes (2 + 2 * i), s.crs.frame) s.ylk.verdicts }) s

end Sys2Proof.Machine
end

