-- ==== Sys2Proof/Machine/Conseq.lean ====
section
/-! DEFINITION. Consequence analysis and capability envelopes (spec/10_consequence_analysis.md). -/

namespace Sys2Proof.Machine
open Sys2Proof

/-! ## Cases and schedule (R261, R263) -/

/-- A 16-bit field of the SCHEDULE section. -/
def State.sched16 (s : State) (o : Nat) : Nat := u16 (s.sect 1) o

/-- ENV_REFRESH. -/
def State.envRefresh (s : State) : Nat := max 1 (u8 (s.sect 1) 1)

/-- ENV_V_MAX, mm/s. -/
def State.envTop (s : State) : Nat := u32 (s.sect 1) 0x0C

/-- The active cases in ascending number (R261). -/
def State.activeCases (s : State) : List Nat := 0 :: (List.range s.caseCount).map (fun i => u8 (s.caseRec i) 0)

/-- The record of a listed case; zeros for case 0. -/
def State.caseOf (s : State) (c : Nat) : List Byte :=
  (((List.range s.caseCount).map s.caseRec).find? (fun r => u8 r 0 == c && c != 0)).getD []

/-- LOST of a case. -/
def State.caseLost (s : State) (c : Nat) : Half := BitVec.ofNat 16 (u16 (s.caseOf c) 2)

/-- What the analysis keeps of a case. -/
def State.caseSt (s : State) (c : Nat) : CaseSt := vget s.csq.cases c CaseSt.reset

/-- Replace it. -/
def State.putCase (c : Nat) (x : CaseSt) (s : State) : State := s.withCsq { s.csq with cases := vset s.csq.cases c x }

/-- A listed case whose lost units are all out already (R261). -/
def State.covered (s : State) (c : Nat) : Bool := c != 0 && (s.caseLost c &&& ~~~s.csq.outBase) == 0

/-- A case counts toward the consequence state (R278). -/
def State.counted (s : State) (c : Nat) : Bool := c == 0 || tbit (s.sched16 8) (u8 (s.caseOf c) 1)

/-! ## Problems (R264 to R267, R273) -/

/-- A previous solution's thrust of a unit, 0.1 N; 0 without one. DEDUCED (assumption 21). -/
def solThrust (sol : Option (List (Int × Word))) (u : Nat) : Int := ((sol.getD []).getD u (0, 0)).1

/-- The direction about which a unit is linearised: of the previous solution, else the α_p of R212, from its points as they
stood at the start of DISPATCH. -/
def State.caseDir (s : State) (sol : Option (List (Int × Word))) (u : Nat) : Word := match sol with
  | some l => (l.getD u (0, 0)).2
  | none => (s.alloc.angles.getD u none).getD (s.unitSt u).angle

/-- A unit is held at zero in a case. -/
def State.caseOut (s : State) (c u : Nat) : Bool := (s.caseLost c ||| s.csq.outBase).getLsbD u

/-- A unit in a case problem (R264). `tx` is the surge demand. -/
def State.caseUnit (s : State) (c : Nat) (sol : Option (List (Int × Word))) (tx : F64) (u : Nat) : QpUnit :=
  let d := s.thruster u
  let dir := s.caseDir sol u
  if s.caseOut c u then QpUnit.off dir
  else if unAzi d then
    let th := baRad (u32 (s.sect 1) 0x14)
    let f := unFwd d
    { out := false, dir := dir, astern := false, lo := f0, hi := fmul f (fcos th)
      slo := fneg (fmul f (fsin (capAngle th (sectorAcw d dir)))), shi := fmul f (fsin (capAngle th (sectorCw d dir))), p1 := f0, p2 := f0 }
  else
    let t := solThrust sol u
    let astern := decide (unKind d = 2 ∧ 0 < u32 d 0x10) && (decide (t < 0) || (decide (t = 0) && flt tx f0))
    { out := false, dir := dir, astern := astern, lo := fneg (unRev d)
      hi := unFwd d, slo := f0, shi := f0, p1 := f0, p2 := f0 }

/-- The chord constraint of some buses' units against an available power (R266). -/
def State.chordRow (s : State) (c : Nat) (sol : Option (List (Int × Word))) (bus : Nat) (members : List Nat) (avail : Int) :
    Nat × FVec × F64 :=
  let live (u : Nat) : Bool := !s.caseOut c u && members.contains (unBus (s.thruster u))
  let k (u : Nat) : F64 :=
    let d := s.thruster u
    let neg := unAzi d = false ∧ solThrust sol u < 0
    let l := if neg then unRev d else unFwd d
    if live u = false ∨ fle l f0 then f0 else
      let x := fdiv (fsub (unRated d) (unIdle d)) l
      if neg then fneg x else x
  let us := List.range s.units
  (bus, us.map k, fsub (ofI avail) ((us.filter live).map (fun u => unIdle (s.thruster u)) |>.foldl fadd f0))

/-- The power constraints of a case: a bus that carries a lost unit takes P_CAP, where it is not 0, for its own units
(R266). -/
def State.casePower (s : State) (c : Nat) (sol : Option (List (Int × Word))) : List (Nat × FVec × F64) :=
  let cap := u32 (s.caseOf c) 4
  let hit (b : Nat) : Bool := cap != 0 && (List.range s.units).any (fun u => (s.caseLost c).getLsbD u && unBus (s.thruster u) == b)
  let one (g : Nat × List Nat × Int) : List (Nat × FVec × F64) :=
    let free := g.2.1.filter (fun b => !hit b)
    (g.2.1.filter hit).map (fun b => s.chordRow c sol b [b] cap)
      ++ (match free with
        | b :: _ => [s.chordRow c sol b free g.2.2]
        | [] => [])
  (s.powerGroups.map one).flatten

/-- A case problem with a demand, 0.1 N and 0.1 N·m. -/
def State.caseProblem (s : State) (c : Nat) (sol : Option (List (Int × Word))) (tau : FVec) : AllocProblem :=
  { units := (List.range s.units).map (s.caseUnit c sol (fel tau 0)), tau := tau, wrate := f0, power := s.casePower c sol }

/-- The demand of every case: τ_c, in STANDBY −b̂ (R265). -/
def State.caseTau (s : State) : FVec :=
  if s.ctl.mode = 0 then [0x24, 0x28, 0x2C].map (fun o => ofI (-(i32 (padTo 64 s.est.record) o))) else s.ctl.tau.map ofI

/-- The environment force at a wind speed, mm/s, from direction `d`, 0.1 N and 0.1 N·m (R273). -/
def State.envForce (s : State) (d : Nat) (v : F64) : FVec :=
  let env := s.sect 3
  let w := fdiv v (ofI 1000)
  let cur := fq (s.sched16 0x10) 1000
  let k := fmul (fadd f1 (fq (s.sched16 0x12) 1000)) (fmul w w)
  vof 3 (fun a => fadd (fmul k (ofI (i32 env (0x90 * a + 4 * d)))) (fmul (ofI (i32 env (0x1B0 + 0x90 * a + 4 * d))) (fmul cur cur)))

/-- The wind speed a run tests: m·ENV_V_MAX/256 with m midway between lo and hi (R274). -/
def State.runSpeed (s : State) (r : EnvRun) : F64 := fscale (fmul (ofN ((r.lo + r.hi) / 2)) (ofN s.envTop)) (-8)

/-- The demand of a run's step. -/
def State.runTau (s : State) (r : EnvRun) : FVec := (s.envForce r.dir (s.runSpeed r)).map fneg

/-! ## Runs -/

/-- Key of an envelope point. -/
def EnvRun.key (r : EnvRun) : Nat := 36 * r.cse + r.dir

/-- The points in index order, by key (R273). -/
def State.envPoints (s : State) : List Nat := (s.activeCases.map (fun c => (List.range 36).map (fun d => 36 * c + d))).flatten

/-- The points of a slice (R275). -/
def State.envSlice (s : State) (j : Nat) : List Nat :=
  let ps := s.envPoints
  let n := (ps.length + s.envRefresh - 1) / s.envRefresh
  (ps.drop (j * n)).take n

/-- Merge of runs in flight with new ones, in point order, the older run of a point first. -/
def mergeRuns : Nat → List EnvRun → List EnvRun → List EnvRun
  | 0, a, b => a ++ b
  | _, [], b => b
  | _, a, [] => a
  | f + 1, x :: a, y :: b => if x.key ≤ y.key then x :: mergeRuns f a (y :: b) else y :: mergeRuns f (x :: a) b

/-- Points keep their previous value with the stale bit set (R276). -/
def markStale (ks : List Nat) (l : List (Nat × (Nat × Bool))) : List (Nat × (Nat × Bool)) :=
  l.map (fun p => if ks.contains p.1 then (p.1, (p.2.1, true)) else p)

/-- Every run in flight ends without a result (R276, R277). -/
def State.endRuns (s : State) : State :=
  s.withCsq { s.csq with points := markStale (s.csq.runs.map EnvRun.key) s.csq.points, runs := [] }

/-- The base out set of the frame, as DISPATCH took it; a change restarts the envelopes (R262, R277). -/
def State.takeBase (s : State) : State :=
  let b := s.alloc.base
  if b = s.csq.outBase then s else
  let s := s.endRuns
  (s.withCsq { s.csq with outBase := b, freshPts := [], superseded := !s.csq.published.isEmpty }).raise 47 .notice 0 0 noIndex []

/-- The points of the frame's slice start a run (R275). -/
def State.startRuns (s : State) : State :=
  let mk (k : Nat) : EnvRun :=
    { cse := k / 36, dir := k % 36, step := 1, lo := 0, hi := 256, sol := (s.caseSt (k / 36)).sol, dirs := [] }
  let new := (s.envSlice (s.crs.tableFrames % s.envRefresh)).map mk
  s.withCsq { s.csq with runs := mergeRuns (s.csq.runs.length + new.length) s.csq.runs new }

/-! ## CASE_DISPATCH -/

/-- PROBLEM_ID of the run at a place of the list. -/
def runId (i : Nat) : Nat := 64 + i

/-- A problem for the feed list; one whose numbers do not fit ends OVERFLOW at once. -/
def State.feedOne (t : List Byte) (p : AllocProblem) (pb : Option Problem) (s : State) : State :=
  match pb with
  | none => s
  | some pb =>
    match s.qpData t p with
    | some data =>
      let pb := { pb with data := data }
      (s.writeData pb).withVsl { s.vsl with feed := s.vsl.feed ++ [pb] }
    | none => (s.writeHeader pb 0 3 0x80 0).problemEnds pb 3

/-- The problem of a case (R264 to R267). -/
def State.feedCase (t : List Byte) (c : Nat) (s : State) : State :=
  if s.covered c then s else
  let x := s.caseSt c
  let p := s.caseProblem c x.sol s.caseTau
  let st := if c = 0 then 64 else c
  let pb := s.mkProblem 0 2 false true (some st) (some st) c (s.courseOf (caseCourse s.frameCourses)) 49 []
  (s.putCase c { x with dirs := p.units.map QpUnit.dir }).feedOne t p pb

/-- The step of the run at a place (R267, R273, R274). -/
def State.feedRun (t : List Byte) (i : Nat) (r : EnvRun) (s : State) : State :=
  let p := s.caseProblem r.cse r.sol (s.runTau r)
  let pb := s.mkProblem 1 2 false true none none (runId i) (s.courseOf (envCourse s.frameCourses)) 49 []
  (s.withCsq { s.csq with runs := s.csq.runs.set i { r with dirs := p.units.map QpUnit.dir } }).feedOne t p pb

/-- The frame dispatches no analysis problem: CONSEQ_REPORT missed in the frame before (R276). -/
def State.analysisSkipped (s : State) : Bool := s.csq.noDispatch == some s.crs.frame

/-- In such a frame every run ends without a result, and event source 47 is raised. -/
def State.skipAnalysis (s : State) : State :=
  let s := s.endRuns
  (s.withCsq { s.csq with noDispatch := none, dispatched := none }).raise 47 .notice 0 0 noIndex []

/-- The work of CASE_DISPATCH (R261 to R269, R275 to R277). The blocks are built whole here (assumption 77). -/
def State.caseDispatch (s : State) : State :=
  if s.analysisSkipped then s.skipAnalysis
  else
    let s := s.takePower.takeBase.startRuns
    let s := s.withCsq { s.csq with dispatched := some s.crs.frame }
    match imgTemplate s.image 0, imgTemplate s.image 1 with
    | some t0, some t1 =>
      let s := s.activeCases.foldl (fun s c => s.feedCase t0 c) s
      s.csq.runs.zipIdx.foldl (fun s p => s.feedRun t1 p.2 p.1) s
    | _, _ => s

/-- A miss of CASE_DISPATCH: a frame without analysis is one all the same (R276). -/
def State.caseDispatchMissed (s : State) : State := if s.analysisSkipped then s.skipAnalysis else s

/-- CASE_DISPATCH (R261 to R269). -/
def execCaseDispatch (t : Nat) (s : State) : Host.Outcome State Fault Refusal := .next (s.runItem 6 t State.caseDispatch)

/-! ## Results -/

/-- A usable result of a problem of the frame: SOLVED or BUDGET. -/
def State.usable (s : State) (ident : Nat) : Option ArrayResult :=
  if s.csq.dispatched ≠ some s.crs.frame then none else
  match s.resultOf 2 ident s.crs.frame with
  | some r => if r.status % 16 ≤ 1 then some r else none
  | none => none

/-- Signed thrust and direction of every unit in a solution about these directions. -/
def State.solutionUnits (s : State) (t : List Byte) (x : List Int) (dirs : List Word) (out : Nat → Bool) : List (Int × Word) :=
  (List.range s.units).map (fun u =>
    let d := s.thruster u
    let dir := dirs.getD u 0
    let v (ax : Nat) : F64 := solutionOf t x ax u
    if out u then (0, dir)
    else if unAzi d then
      let c := v 2
      let n := v 3
      (toI (fsqrt (fadd (fmul c c) (fmul n n))), if c = f0 ∧ n = f0 then dir else dir + wordI (radBa (fatan2 n c)))
    else (toI (v (if unKind d = 2 then 0 else 1)), dir))

/-- The achieved force of a solution, 0.1 N and 0.1 N·m (R202). -/
def State.solutionForce (s : State) (t : List Byte) (x : List Int) (dirs : List Word) : FVec :=
  let p : AllocProblem := { units := dirs.map QpUnit.off, tau := [], wrate := f0, power := [] }
  let v := (List.range (tmNvar t)).map (solutionAt t x)
  (s.axisRows t p).map (fun r => fdot r v)

/-- Largest utilisation, 0.1 %, and its unit (R272). -/
def State.solutionUtil (s : State) (c : Nat) (sol : List (Int × Word)) : Nat × Nat :=
  (List.range s.units).foldl (fun b u =>
    if s.caseOut c u then b else
    let d := s.thruster u
    let t := (sol.getD u (0, 0)).1
    let l := u32 d (if t < 0 then 0x10 else 0x0C)
    let k := if l = 0 then 0 else (toI (fq (1000 * t.natAbs) l)).toNat
    if b.1 < k then (k, u) else b) (0, 0)

/-- t_p of R272, s; none for infinite. `u` is the unmet force in N. -/
def State.driftPos (s : State) (u : FVec) : Option F64 :=
  let h := s.hull
  let ax := fdiv (fel u 0) h.m11
  let ay := fdiv (fel u 1) h.m22
  let a := fsqrt (fadd (fmul ax ax) (fmul ay ay))
  if fle a f0 then none else
  let v := s.estView
  let len := vnorm [fel u 0, fel u 1]
  let v0 := fmax f0 (fneg (fdiv (fadd (fmul (fel v.nu 0) (fel u 0)) (fmul (fel v.nu 1) (fel u 1))) len))
  let e := s.ctl.errors v
  let exc := if autoPos s.ctl.mode then vnorm [fel e 0, fel e 1] else f0
  let d := fmax f0 (fsub (milliF (s.lim32 0x2C)) exc)
  some (fdiv (fsub (fsqrt (fadd (fmul v0 v0) (fmul (fmul (ofI 2) a) d))) v0) a)

/-- t_ψ of R272, s. -/
def State.driftHead (s : State) (u : FVec) : Option F64 :=
  let n := fabs (fel u 2)
  if fle n f0 then none else
  let e := if autoHead s.ctl.mode then fabs (fel (s.ctl.errors s.estView) 2) else f0
  let d := fmax f0 (fsub (baRad (s.lim32 0x34)) e)
  some (fsqrt (fdiv (fmul (fmul (ofI 2) d) s.hull.m33) n))

/-- The drift-off time of a case that fails, 0.1 s: the lesser of the two, held at 6,553.4 s (R272). -/
def State.driftOff (s : State) (u : FVec) : Nat :=
  let t := match s.driftPos u, s.driftHead u with
    | some a, some b => some (fmin a b)
    | some a, none => some a
    | none, b => b
  match t with
  | some x => (min 65534 (ffloor (fmul x (ofI 10)))).toNat
  | none => 65534

/-- A verdict is set; a change raises event source 46. -/
def State.setVerdict (c : Nat) (x : CaseSt) (s : State) : State :=
  let old := (s.caseSt c).verdict
  let s := s.putCase c x
  if old = x.verdict then s else s.raise 46 .notice 3 x.verdict c []

/-- A case is held in the frame: its values and the verdict held stay (R271, R278). -/
def State.caseHeld (c status : Nat) (s : State) : State :=
  let x := s.caseSt c
  let n := x.heldRun + 1
  let r := s.countOcc x.held 47
  r.2.setVerdict c { x with
    verdict := if x.hasResult = false ∨ s.sched16 6 ≤ n then 3 else 2, status := status, held := r.1, heldRun := n }

/-- A case with a fresh result (R271, R272). -/
def State.caseFresh (t : List Byte) (c : Nat) (r : ArrayResult) (s : State) : State :=
  let x := s.caseSt c
  let v := r.data.take (tmNvar t)
  let sol := s.solutionUnits t v x.dirs (s.caseOut c)
  let unmet := vsub s.caseTau (s.solutionForce t v x.dirs)
  let fails := s.slackOver t v
  let k := s.solutionUtil c sol
  s.setVerdict c { x with
    verdict := b2n fails, kept := b2n fails, status := r.status, util := min 0xFFFF k.1, utilUnit := k.2
    drift := if fails then s.driftOff (unmet.map (fun y => fdiv y (ofI 10))) else 0xFFFF
    unmet := unmet.map toI, held := Occ.zero, heldRun := 0, hasResult := true, sol := some sol }

/-- One active case in CASE_COLLECT. -/
def State.collectCase (t : List Byte) (c : Nat) (s : State) : State :=
  if s.covered c ∧ s.csq.dispatched = some s.crs.frame then
    let x := s.caseSt c
    s.setVerdict c { s.caseSt 0 with verdict := 4, kept := 4, heldRun := 0, hasResult := x.hasResult, sol := x.sol, dirs := x.dirs }
  else match s.usable c with
    | some r => s.caseFresh t c r
    | none => s.caseHeld c (((s.statusOf 2 c).map (·.1)).getD (s.caseSt c).status)

/-- The work of CASE_COLLECT. -/
def State.caseCollect (s : State) : State := match imgTemplate s.image 0 with
  | some t => s.activeCases.foldl (fun s c => s.collectCase t c) s
  | none => s

/-- A miss of CASE_COLLECT: every active case is held (R271). -/
def State.caseCollectMissed (s : State) : State := s.activeCases.foldl (fun s c => s.caseHeld c (s.caseSt c).status) s

/-! ## ENV_COLLECT (R274 to R277) -/

/-- A run after its step: none when it ends. -/
def State.runAfter (s : State) (t : List Byte) (r : EnvRun) (res : ArrayResult) : EnvRun :=
  let v := res.data.take (tmNvar t)
  let m := (r.lo + r.hi) / 2
  let held := !s.slackOver t v
  { r with step := r.step + 1, lo := if held then m else r.lo, hi := if held then r.hi else m
           sol := some (s.solutionUnits t v r.dirs (s.caseOut r.cse)) }

/-- The step of the run at a place; the runs that go on gather in `keep`. -/
def State.collectRun (t : List Byte) (i : Nat) (r : EnvRun) (keep : List EnvRun) (s : State) : List EnvRun × State :=
  match s.usable (runId i) with
  | none => (keep, s.withCsq { s.csq with points := markStale [r.key] s.csq.points })
  | some res =>
    let n := s.runAfter t r res
    if n.step ≤ 8 then (keep ++ [n], s)
    else (keep, s.withCsq { s.csq with
      points := aput r.key (n.lo, false) s.csq.points
      freshPts := if s.csq.freshPts.contains r.key then s.csq.freshPts else s.csq.freshPts ++ [r.key] })

/-- The published blocks of a set: by case, code and stale bit of each direction. -/
def State.envSet (s : State) : List (Nat × List (Nat × Bool)) :=
  s.activeCases.map (fun c => (c, (List.range 36).map (fun d => aget (36 * c + d) (0, true) s.csq.points)))

/-- A block of the envelope set: 48 bytes (R282). -/
def envBlock (p : Nat × List (Nat × Bool)) : List Byte :=
  [byte p.1, 0, 0, 0] ++ lebytes 5 (maskOf (p.2.map Prod.snd)) ++ [0, 0, 0] ++ padTo 36 (p.2.map (fun q => byte q.1))

/-- The envelope set as its query and the point image carry it. -/
def State.envBytes (s : State) : List Byte :=
  wbytes s.csq.envSeq ++ wbytes s.csq.envFrame ++ lebytes 4 s.envTop
    ++ [byte s.csq.published.length, byte (b2n (s.csq.superseded && !s.csq.published.isEmpty)), 0, 0]
    ++ (s.csq.published.map envBlock).flatten

/-- The envelope set in the system area (spec/15 R372). -/
def State.postEnvelopes (s : State) : State := s.writeOwn 160 (wordsOf s.envBytes) s.csq.envFrame 0

/-- The last slice completes in this frame: one of its runs makes its eighth step; a slice without points is counted (R275). -/
def State.lastSliceEnds (runs : List EnvRun) (s : State) : Bool :=
  let n := s.crs.tableFrames
  let r := s.envRefresh
  let last := s.envSlice (r - 1)
  if last.isEmpty then decide (7 ≤ n ∧ (n - 7) % r = r - 1)
  else runs.any (fun x => last.contains x.key && x.step == 8)

/-- The last slice completes: the set is published once every point has a run under the present base and list (R275,
R277). -/
def State.publishSet (runs : List EnvRun) (s : State) : State :=
  if s.lastSliceEnds runs && s.envPoints.all s.csq.freshPts.contains then
    State.postEnvelopes (s.withCsq { s.csq with published := s.envSet, envSeq := s.csq.envSeq + 1, envFrame := s.crs.frame, superseded := false })
  else s

/-- The work of ENV_COLLECT. -/
def State.envCollect (s : State) : State :=
  match imgTemplate s.image 1 with
  | none => s
  | some t =>
    let runs := s.csq.runs
    let r := runs.zipIdx.foldl (fun (b : List EnvRun × State) p => b.2.collectRun t p.2 p.1 b.1) ([], s)
    (r.2.withCsq { r.2.csq with runs := r.1 }).publishSet runs

/-- ENV_COLLECT (R274 to R277). -/
def execEnvCollect (t : Nat) (s : State) : Host.Outcome State Fault Refusal := .next (s.runItem 0x11 t State.envCollect)

/-! ## CONSEQ_REPORT (R278, R280) -/

/-- A persistent condition after a frame. -/
def Persist.after (n : Nat) (cond : Bool) (p : Persist) : Persist :=
  if p.on = cond then { p with count := 0 }
  else if n ≤ p.count + 1 then { on := cond, count := 0 }
  else { p with count := p.count + 1 }

/-- The counted active cases. -/
def State.countedCases (s : State) : List Nat := s.activeCases.filter s.counted

/-- V_cap of a case at a relative direction, mm/s (R278). -/
def State.capAt (s : State) (b : List (Nat × Bool)) (gamma : F64) : F64 :=
  let q := fdiv (fmul gamma (ofI 18)) fpi
  let i := ffloor q
  let f := fsub q (ofI i)
  let v (k : Int) : F64 := fscale (fmul (ofN (b.getD (k % 36).toNat (0, true)).1) (ofN s.envTop)) (-8)
  fadd (fmul (fsub f1 f) (v i)) (fmul f (v (i + 1)))

/-- WIND_MARGIN, 0.1 %, and its case (R278); none when it is not formed. -/
def State.windMargin (s : State) : Option (Nat × Nat) :=
  if s.ctl.windLost ∨ s.csq.published.isEmpty then none else
  let v := fmul s.ctl.windV (ofI 1000)
  let one (c : Nat) : Nat := match afind c s.csq.published with
    | some b =>
      let cap := s.capAt b s.ctl.windG
      if fle v f0 then 0 else if fle cap f0 then 0xFFFF else (min 0xFFFF (toI (fdiv (fmul v (ofI 1000)) cap))).toNat
    | none => 0
  s.countedCases.foldl (fun b c => match b with
    | some x => if x.1 < one c then some (one c, c) else b
    | none => some (one c, c)) none

/-- The verdict that a member counts for a case of its own in a combination: COVERED is that of case 0 (R532). -/
def State.ownVerdict (s : State) (c : Nat) : Nat :=
  if (s.caseSt c).verdict = 4 then (s.caseSt 0).verdict else (s.caseSt c).verdict

/-- The verdicts of the linked cases go to the other members (spec/23 R521, R532). -/
def State.sendVerdicts (s : State) : State :=
  let ls := lkCases s.linkPart
  if ls.isEmpty then s
  else s.sendLink 5 (byte ls.length :: (ls.map (fun l => [byte l.2, byte (s.ownVerdict l.1)])).flatten)

/-- The combined verdicts of the frame are taken (R532). -/
def State.takeCombined (s : State) : State :=
  (lkCases s.linkPart).foldl (fun s l =>
    s.setCombined l.2 (combineVerdicts (s.ownVerdict l.1 :: s.otherVerdicts l.2 (s.sched16 6)))) s

/-- CASE_COLLECT (R271, R272); the verdicts of linked cases follow it (R532). -/
def execCaseCollect (t : Nat) (s : State) : Host.Outcome State Fault Refusal := .next (s.runItem 0x10 t (fun s => s.caseCollect.sendVerdicts))

/-- The verdict of a case in R278 and R281: the combined one where the case is linked (R532). -/
def State.verdictOf (s : State) (c : Nat) : Nat :=
  match s.caseLink c with
  | some cc => aget cc (s.ownVerdict c) s.ylk.combined
  | none => (s.caseSt c).verdict

/-- The verdict with which a case counts: a HELD frame counts with the verdict held (R278). -/
def State.countedVerdict (s : State) (c : Nat) : Nat :=
  if s.verdictOf c = 2 then (s.caseSt c).kept else s.verdictOf c

/-- The class of a consequence state's event (R278). -/
def conseqSev (st : Nat) : Sev := if st = 2 ∨ st = 3 then .alarm else .warning

/-- The consequence state of the frame. -/
def State.conseqState (s : State) : State :=
  let n := s.sched16 4
  let cs := s.countedCases
  let wm := s.windMargin
  let util := cs.any (fun c => decide (s.sched16 0x0A ≤ (s.caseSt c).util))
  let windy := match wm with
    | some m => decide (s.sched16 0x18 ≤ m.1)
    | none => false
  let fail := s.csq.fail.after n (cs.any (fun c => s.countedVerdict c == 1))
  let warn := s.csq.warnUtil.after n (util || windy)
  let unknown := cs.any (fun c => s.verdictOf c == 3) || s.csq.published.isEmpty
  let st := if fail.on then 2 else if unknown then 3 else if warn.on then 1 else 0
  let s1 := s.withCsq { s.csq with fail := fail, warnUtil := warn, state := st }
  if st = s.csq.state then s1 else s1.raise 45 (conseqSev st) 3 st noIndex []

/-- 8 bytes with a bit for each active case that meets a condition. -/
def State.caseBits (s : State) (p : Nat → Bool) : List Byte :=
  lebytes 8 (s.activeCases.foldl (fun m c => if p (s.caseSt c).verdict then m + 2 ^ c else m) 0)

/-- The failing counted case with the shortest drift-off (R280). -/
def State.worstCase (s : State) : Option Nat :=
  (s.countedCases.filter (fun c => (s.caseSt c).verdict == 1)).foldl (fun b c => match b with
    | some x => if (s.caseSt c).drift < (s.caseSt x).drift then some c else b
    | none => some c) none

/-- The consequence record (R280), fresh. -/
def State.conseqRecord (s : State) : List Byte :=
  let q := s.csq
  let worst := s.worstCase
  let wm := s.windMargin
  let um := s.countedCases.foldl (fun (b : Nat × Nat) c => if b.1 < (s.caseSt c).util then ((s.caseSt c).util, c) else b) (0, 0)
  let flags := 2 * b2n ((itemInputs 0x12).any s.itemHeld) + 4 * b2n (q.superseded && !q.published.isEmpty)
    + 8 * b2n q.published.isEmpty + 16 * b2n (s.ctl.mode == 0) + 32 * b2n wm.isNone
  padTo 64 (wbytes s.crs.frame ++ wbytes s.crs.frame ++ [byte q.state, byte (worst.getD 0xFF)] ++ lebytes 2 flags
    ++ s.caseBits (· == 0) ++ s.caseBits (· == 1) ++ s.caseBits (fun v => v == 2 || v == 3)
    ++ lebytes 2 q.outBase.toNat ++ lebytes 2 (match worst with
      | some c => (s.caseSt c).drift
      | none => 0xFFFF)
    ++ wbytes q.envSeq ++ wbytes q.envFrame ++ lebytes 2 um.1 ++ [byte um.2, byte ((wm.map (·.2)).getD 0xFF)]
    ++ lebytes 2 ((wm.map (·.1)).getD 0))

/-- The work of CONSEQ_REPORT. -/
def State.conseqReport (s : State) : State :=
  let s := s.takeCombined.conseqState
  s.withCsq { s.csq with record := s.conseqRecord }

/-- CONSEQ_REPORT (R278, R280). -/
def execConseqReport (t : Nat) (s : State) : Host.Outcome State Fault Refusal := .next (s.runItem 0x12 t State.conseqReport)

/-- A miss of CONSEQ_REPORT: the next frame dispatches no analysis problem (R276). -/
def State.conseqMissed (s : State) : State := s.withCsq { s.csq with noDispatch := some (s.crs.frame + 1) }

/-! ## Queries (R281, R282) -/

/-- The 16 bytes of a case entry (R281). -/
def State.caseEntry (s : State) (c : Nat) : List Byte :=
  let x := s.caseSt c
  let kn (a : Nat) (d : Nat) : List Byte := ibytes 2 (max (-32767) (min 32767 (toI (fq (x.unmet.getD a 0) d))))
  [byte c, byte (s.verdictOf c), byte x.status, byte x.utilUnit] ++ lebytes 2 x.util ++ lebytes 2 x.drift
    ++ kn 0 10000 ++ kn 1 10000 ++ kn 2 100000 ++ lebytes 2 x.held.count.toNat

/-- CONSEQ_QUERY: the record, with CASES the case entries; CLEAR clears the held counts (R281). -/
def State.serveConseqQuery (w : Waiting) (cases clear : Bool) (s : State) : State :=
  let out := padTo 64 s.csq.record ++ (if cases then (s.activeCases.map s.caseEntry).flatten else [])
  let s := s.answer w out
  if clear then s.withCsq { s.csq with cases := s.csq.cases.map (fun (x : CaseSt) => { x with held := Occ.zero }) } else s

/-- ENVELOPE_QUERY (R282). -/
def State.serveEnvelopeQuery (w : Waiting) (s : State) : State := s.answer w s.envBytes

/-! ## Activation (R73, R271, R277) -/

/-- No result has come since the activation; a change of CASES, and a cold activation, clear the set. -/
def State.activateConseq (clear : Bool) (s : State) : State :=
  if clear then
    (s.withCsq { s.csq with
      cases := Vector.replicate 64 CaseSt.reset, runs := [], points := [], published := [], superseded := false, freshPts := []
      dispatched := none, fail := Persist.reset, warnUtil := Persist.reset }).raise 47 .notice 0 0 noIndex []
  else s.withCsq { s.csq with cases := s.csq.cases.map (fun (x : CaseSt) => { x with hasResult := false }) }

end Sys2Proof.Machine
end

