-- ==== Sys2Proof/Machine/Descriptors.lean ====
section
/-! DEFINITION. Command descriptors: their layout, the checks of their fields, and the groups that configuration
security denies (spec/17_host_rings.md R418, R419, R423; spec/24 R544). -/

namespace Sys2Proof.Machine
open Sys2Proof

/-! ## Codes and parameters (R423) -/

/-- CODE of a command. -/
def cmdCode : HostCmd → Nat
  | .nop => 0x01 | .imageLoad => 0x10 | .imageActivate _ => 0x11 | .imageDiscard => 0x12 | .imageQuery => 0x13
  | .analogTest _ _ => 0x18 | .gnssCorrection _ => 0x19 | .gnssSnapshot _ _ _ _ _ => 0x1A | .gnssQuery => 0x1B
  | .gridOrigin _ _ _ => 0x20 | .refEnable _ _ => 0x21 | .refTarget _ _ _ _ => 0x22 | .refStatus _ => 0x23
  | .estQuery => 0x24 | .dpMode _ _ => 0x28 | .setpoint _ _ _ _ _ => 0x29 | .gainSelect _ => 0x2A
  | .trackLoad _ => 0x2B | .berthSet _ _ _ _ => 0x2C | .ctrlQuery => 0x2D | .thrusterEnable _ _ => 0x30
  | .allocQuery => 0x31 | .conseqQuery => 0x32 | .envelopeQuery => 0x33 | .trimStart _ _ => 0x38
  | .trimSet _ _ => 0x39 | .trimStop => 0x3A | .trimQuery => 0x3B | .timeStepAccept _ => 0x40
  | .timeSet _ _ _ => 0x41 | .timeLeap _ => 0x42 | .claimResume => 0x48 | .roleExchange => 0x49
  | .btrReset _ _ _ => 0x50 | .btrOutput _ _ => 0x51 | .pointWrite _ _ _ _ => 0x58 | .streamSet _ _ _ => 0x5A
  | .canSend _ _ _ _ => 0x60 | .canAbort _ _ => 0x61 | .canRecover _ => 0x62 | .canMode _ _ => 0x63
  | .logRead _ _ => 0x68 | .memTest _ _ => 0x70

/-- The parameters of a command: offset and size of each field. -/
def paramFields (code : Nat) : List (Nat × Nat) :=
  match code with
  | 0x11 => [(0x18, 4)]
  | 0x18 | 0x21 | 0x28 | 0x51 | 0x5A | 0x61 | 0x63 | 0x70 => [(0x18, 1), (0x19, 1)]
  | 0x1A => [(0x18, 8), (0x20, 4), (0x24, 1), (0x25, 1), (0x26, 1)]
  | 0x20 => [(0x18, 4), (0x1C, 4), (0x20, 4)]
  | 0x22 => [(0x18, 1), (0x19, 1), (0x1C, 4), (0x20, 4)]
  | 0x23 | 0x2A | 0x40 | 0x42 | 0x62 => [(0x18, 1)]
  | 0x29 => [(0x18, 1), (0x19, 1), (0x1C, 4), (0x20, 4), (0x24, 4)]
  | 0x2C => [(0x18, 4), (0x1C, 4), (0x20, 4), (0x24, 1)]
  | 0x30 | 0x38 | 0x39 => [(0x18, 2), (0x1A, 2)]
  | 0x41 => [(0x18, 8), (0x20, 4), (0x24, 4)]
  | 0x50 => [(0x18, 2), (0x1A, 1), (0x1B, 1)]
  | 0x58 => [(0x18, 4), (0x1C, 4), (0x20, 1), (0x21, 1)]
  | 0x60 => [(0x18, 1), (0x19, 1), (0x1C, 4)]
  | 0x68 => [(0x18, 4), (0x1C, 4)]
  | _ => []

/-- The values of the parameters, in the order of `paramFields`. -/
def cmdParams : HostCmd → List Nat
  | .imageActivate n => [n.toNat]
  | .analogTest c i => [c, i]
  | .gnssSnapshot secs ns dur streams tap => [secs, ns, dur, streams, tap]
  | .gridOrigin a b c => [a.toNat, b.toNat, c.toNat]
  | .refEnable r o => [r, o]
  | .refTarget r c n e => [r, c, n.toNat, e.toNat]
  | .refStatus r => [r]
  | .dpMode m j => [m, j]
  | .setpoint f t n e h => [f, t, n.toNat, e.toNat, h.toNat]
  | .gainSelect g => [g]
  | .berthSet n e h sd => [n.toNat, e.toNat, h.toNat, sd]
  | .thrusterEnable c o => [c.toNat, o.toNat]
  | .trimStart a b => [a.toNat, b.toNat]
  | .trimSet a b => [a.toNat, b.toNat]
  | .timeStepAccept q => [q]
  | .timeSet secs ns unc => [secs, ns, unc]
  | .timeLeap c => [c]
  | .btrReset i r o => [i.toNat, r.toNat, o.toNat]
  | .btrOutput c o => [c.toNat, o.toNat]
  | .pointWrite p v q t => [p, v.toNat, q, t]
  | .streamSet st c _ => [st, c]
  | .canSend c f i _ => [c, f, i]
  | .canAbort c b => [c, b]
  | .canRecover c => [c]
  | .canMode c m => [c, m]
  | .logRead f c => [f.toNat, c]
  | .memTest t f => [t, f]
  | _ => []

/-- The command of a code, the values of its parameters and the bytes of its buffer; none for a CODE that is not in the
table. -/
def cmdOf (code : Nat) (v : List Nat) (data : List Byte) : Option HostCmd :=
  let p (i : Nat) : Nat := v.getD i 0
  let w (i : Nat) : Word := word (p i)
  let h (i : Nat) : Half := BitVec.ofNat 16 (p i)
  match code with
  | 0x01 => some .nop
  | 0x10 => some .imageLoad
  | 0x11 => some (.imageActivate (w 0))
  | 0x12 => some .imageDiscard
  | 0x13 => some .imageQuery
  | 0x18 => some (.analogTest (p 0) (p 1))
  | 0x19 => some (.gnssCorrection data)
  | 0x1A => some (.gnssSnapshot (p 0) (p 1) (p 2) (p 3) (p 4))
  | 0x1B => some .gnssQuery
  | 0x20 => some (.gridOrigin (w 0) (w 1) (w 2))
  | 0x21 => some (.refEnable (p 0) (p 1))
  | 0x22 => some (.refTarget (p 0) (p 1) (w 2) (w 3))
  | 0x23 => some (.refStatus (p 0))
  | 0x24 => some .estQuery
  | 0x28 => some (.dpMode (p 0) (p 1))
  | 0x29 => some (.setpoint (p 0) (p 1) (w 2) (w 3) (w 4))
  | 0x2A => some (.gainSelect (p 0))
  | 0x2B => some (.trackLoad data)
  | 0x2C => some (.berthSet (w 0) (w 1) (w 2) (p 3))
  | 0x2D => some .ctrlQuery
  | 0x30 => some (.thrusterEnable (h 0) (h 1))
  | 0x31 => some .allocQuery
  | 0x32 => some .conseqQuery
  | 0x33 => some .envelopeQuery
  | 0x38 => some (.trimStart (h 0) (h 1))
  | 0x39 => some (.trimSet (h 0) (h 1))
  | 0x3A => some .trimStop
  | 0x3B => some .trimQuery
  | 0x40 => some (.timeStepAccept (p 0))
  | 0x41 => some (.timeSet (p 0) (p 1) (p 2))
  | 0x42 => some (.timeLeap (p 0))
  | 0x48 => some .claimResume
  | 0x49 => some .roleExchange
  | 0x50 => some (.btrReset (h 0) (byte (p 1)) (byte (p 2)))
  | 0x51 => some (.btrOutput (byte (p 0)) (byte (p 1)))
  | 0x58 => some (.pointWrite (p 0) (w 1) (p 2) (p 3))
  | 0x5A => some (.streamSet (p 0) (p 1) data)
  | 0x60 => some (.canSend (p 0) (p 1) (p 2) data)
  | 0x61 => some (.canAbort (p 0) (p 1))
  | 0x62 => some (.canRecover (p 0))
  | 0x63 => some (.canMode (p 0) (p 1))
  | 0x68 => some (.logRead (w 0) (p 1))
  | 0x70 => some (.memTest (p 0) (p 1))
  | _ => none

/-! ## Bytes (R418) -/

/-- A field of a descriptor replaced. -/
def putField (b : List Byte) (f : Nat × Nat) (x : Nat) : List Byte :=
  b.take f.1 ++ lebytes f.2 x ++ b.drop (f.1 + f.2)

/-- The 64 bytes of a descriptor; `phase` is that of its lap. -/
def descBytes (phase : Nat) (h : CmdHdr) (c : HostCmd) : List Byte :=
  let head := [byte (phase + 2 * b2n h.fence), byte (cmdCode c)] ++ lebytes 2 h.tag.toNat ++ lebytes 2 h.opts.toNat ++ [0, 0]
    ++ lebytes 8 h.addr.toNat ++ lebytes 4 h.len ++ [0, 0, 0, 0]
  ((paramFields (cmdCode c)).zip (cmdParams c)).foldl (fun b p => putField b p.1 p.2) (padTo 64 head)

/-- The header that a descriptor's bytes give. -/
def descHdr (ring : Nat) (dma : Option Nat) (b : List Byte) : CmdHdr :=
  { ring := ring, tag := BitVec.ofNat 16 (u16 b 2), fence := tbit (u8 b 0) 1, opts := BitVec.ofNat 16 (u16 b 4),
    addr := BitVec.ofNat 64 (ule b 8 8), len := u32 b 0x10, dma := dma }

/-- The command that a descriptor's bytes and its buffer give. -/
def descCmd (b data : List Byte) : Option HostCmd :=
  cmdOf (u8 b 1) ((paramFields (u8 b 1)).map (fun f => ule b f.1 f.2)) data

/-- The reserved ranges between the fields of a list, up to the end of the descriptor. -/
def gaps : Nat → List (Nat × Nat) → List (Nat × Nat)
  | i, [] => [(i, 64 - i)]
  | i, f :: r => (i, f.1 - i) :: gaps (f.1 + f.2) r

/-- The byte offset of the first reserved field that is not zero (check 2 of R419). -/
def reservedError (b : List Byte) : Option Nat :=
  if 4 ≤ u8 b 0 then some 0
  else (([(6, 2), (0x14, 4)] ++ gaps 0x18 (paramFields (u8 b 1))).find? (fun (g : Nat × Nat) => ule b g.1 g.2 != 0)).map Prod.fst

/-! ## Check 3 of R419 -/

/-- The size of a query's output; none for a command that is no query. -/
def State.outSize (s : State) (h : CmdHdr) (c : HostCmd) : Option Nat :=
  match c with
  | .imageQuery | .gnssQuery | .estQuery | .ctrlQuery | .trimQuery => some 64
  | .refStatus _ => some 32
  | .allocQuery => some (64 + 16 * s.units)
  | .conseqQuery => some (64 + (if h.opts.getLsbD 1 then 16 * s.activeCases.length else 0))
  | .envelopeQuery => some s.envBytes.length
  | _ => none

/-- LEN fits a command that reads a buffer; none for one that reads none. -/
def readLen (h : CmdHdr) (c : HostCmd) : Option Bool :=
  match c with
  | .imageLoad => some true
  | .gnssCorrection _ => some (decide (h.len ≤ 4096))
  | .trackLoad _ => some (decide (h.len % 16 = 0 ∧ 32 ≤ h.len ∧ h.len ≤ 1024))
  | .streamSet _ n _ => some (h.len == 8 * n)
  | .canSend _ f _ _ => some (decide (h.len ≤ 8) || (tbit f 1 && [12, 16, 20, 24, 32, 48, 64].contains h.len))
  | _ => none

/-- The bits of OPTS that a command takes. -/
def optsMask (c : HostCmd) : Nat :=
  match c with
  | .refStatus _ => 1
  | .conseqQuery | .logRead _ _ => 3
  | _ => 0

/-- The checks of the parameters that no chapter covers with a reason code, each with its offset. -/
def paramChecks (c : HostCmd) : List (Nat × Bool) :=
  match c with
  | .analogTest ch i => [(0x18, decide (ch < 16)), (0x19, decide (i ≤ 2))]
  | .gnssSnapshot secs ns dur st tap =>
    [(0x18, decide (secs < 2 ^ 48)), (0x20, decide (ns < 1000000000)), (0x24, decide (2 ≤ dur ∧ dur ≤ 64)), (0x25, decide (1 ≤ st ∧ st ≤ 15)), (0x26, decide (tap ≤ 1))]
  | .refEnable _ o => [(0x19, decide (o ≤ 1))]
  | .refTarget _ c _ _ => [(0x19, decide (c ≤ 1))]
  | .dpMode _ j => [(0x19, decide (j ≤ 2))]
  | .setpoint f t _ _ _ => [(0x18, decide (f < 8)), (0x19, decide (t ≤ 2))]
  | .berthSet _ _ _ sd => [(0x24, decide (sd ≤ 1))]
  | .timeSet secs ns _ => [(0x18, decide (secs < 2 ^ 48)), (0x20, decide (ns < 1000000000))]
  | .pointWrite _ _ q _ => [(0x20, decide (q ≤ 3))]
  | .streamSet st n _ => [(0x18, decide (st < 4)), (0x19, decide (n ≤ 64))]
  | .canSend ct f i _ =>
    [(0x18, decide (ct < 3)), (0x19, decide (f < 16)), (0x1C, decide (i < (if tbit f 0 then 2 ^ 29 else 2 ^ 11)))]
  | .canAbort ct b => [(0x18, decide (ct < 3)), (0x19, decide (b < 32))]
  | .canRecover ct => [(0x18, decide (ct < 3))]
  | .canMode ct m => [(0x18, decide (ct < 3)), (0x19, decide (m ≤ 1))]
  | .logRead _ n => [(0x1C, decide (1 ≤ n ∧ n ≤ 4194304))]
  | .memTest tg f => [(0x18, decide (tg ≤ 64 ∨ tg = 0xFF)), (0x19, decide (f ≤ 1))]
  | _ => []

/-- The byte offset of the first field that does not meet the command's row (check 3 of R419). -/
def State.formatError (s : State) (h : CmdHdr) (c : HostCmd) : Option Nat :=
  let used := (s.outSize h c).isSome || (readLen h c).isSome
  let addr := if used then h.addr.toNat % 8 == 0 else h.addr == 0
  let len : Bool := match s.outSize h c, readLen h c with
    | some n, _ => decide (n ≤ h.len)
    | none, some ok => ok
    | none, none => h.len == 0
  (((4, h.opts.toNat % 2 ^ 16 &&& (65535 - optsMask c) == 0) :: (8, addr) :: (0x10, len) :: paramChecks c).find? (fun x => !x.2)).map Prod.fst

/-! ## Groups -/

/-- The bit of DENY that covers a command (R544). -/
def denyBit (c : HostCmd) : Option Nat :=
  match c with
  | .imageLoad | .imageActivate _ | .imageDiscard => some 0
  | .analogTest _ _ | .gnssSnapshot _ _ _ _ _ | .memTest _ _ => some 1
  | .timeStepAccept _ | .timeSet _ _ _ | .timeLeap _ => some 2
  | .btrReset _ _ _ | .btrOutput _ _ => some 3
  | .canSend _ _ _ _ | .canAbort _ _ | .canRecover _ | .canMode _ _ => some 4
  | .pointWrite _ _ _ _ => some 5
  | .gridOrigin _ _ _ | .refEnable _ _ | .refTarget _ _ _ _ => some 6
  | _ => none

/-- The command is denied by GLB_SEC_CFG.DENY (R544). -/
def State.denies (s : State) (c : HostCmd) : Bool :=
  match denyBit c with
  | some i => (s.effReg .secCfg).getLsbD i
  | none => false

/-- A synchronised command (spec/13 R335). -/
def syncCmd (c : HostCmd) : Bool :=
  match c with
  | .dpMode _ _ | .setpoint _ _ _ _ _ | .gainSelect _ | .trackLoad _ | .berthSet _ _ _ _ | .refEnable _ _
  | .refTarget _ _ _ _ | .gridOrigin _ _ _ | .thrusterEnable _ _ | .trimStart _ _ | .trimSet _ _ | .trimStop => true
  | _ => false

/-- A command that takes effect at a frame tick under R23 ("Effect" in R423). -/
def effectCmd (c : HostCmd) : Bool :=
  syncCmd c || (match c with
    | .timeStepAccept _ | .timeSet _ _ _ | .claimResume => true
    | _ => false)

end Sys2Proof.Machine
end

