-- ==== Sys2Proof/Machine/Claims.lean ====
section
/-! DEFINITION. Readiness to claim, the health score, claims, keystone frames and the release generator
(spec/13_redundancy_and_claims.md R321 to R330; spec/01 R21, R22, R29). -/

namespace Sys2Proof.Machine
open Sys2Proof

/-! ## Readiness (R323, R324) -/

/-- Condition 1: an image in effect, in pair mode the one of a partner whose messages arrive (R74, R77). -/
def State.imageAgrees (s : State) : Bool :=
  s.hasImage && (!(s.pairMode && s.rdn.pAlive) || s.rdn.partnerDig == s.activeDigest)

/-- Condition 6. The source of a transfer is not held to be SYNCING, and the part that holds the claim needs no
transfer. A partner that has fallen silent holds no claim. DEDUCED (assumption 26). -/
def State.pairReady (s : State) : Bool :=
  !s.pairMode || ((s.rdn.pstate != 2 || s.rdn.syncSource)
    && (s.rdn.imageDone || s.rdn.role == 2 || !(s.rdn.msgSince || (s.rdn.pRole == 2 && s.rdn.pAlive))))

/-- NOT_READY: the first condition of R323 that fails, 0 when none does; start-up is reported first, as its reset
value 2 is (R559). DEDUCED (assumption 26). -/
def State.readyCode (s : State) : Nat :=
  if s.pwr.phase ≠ 7 then 2
  else if s.imageAgrees = false then 1
  else if s.rdn.mismatch then 3
  else if s.crs.gaveUp ∧ s.rdn.resumed = false then 4
  else if s.btr.ready = false ∨ s.btr.fault ∨ s.btr.lostByBeat then 5
  else if s.pairReady = false then 6 else 0

/-- The part is ready to claim. -/
def State.readyToClaim (s : State) : Bool := s.readyCode == 0

/-- READY_FRAMES. -/
def State.readyFrames (s : State) : Nat := s.effField .rdnCfg 15 10

/-- Condition 4 is met again once control items have run READY_FRAMES frames without a miss (R324). -/
def State.checkResume (s : State) : State :=
  match s.rdn.resume with
  | some n => if s.readyFrames ≤ n then s.withRdn { s.rdn with resumed := true } else s
  | none => s

/-- A frame has ended: the frames without a miss since CLAIM_RESUME, and those without a send failure (R324, R326). -/
def State.countResume (s : State) : State :=
  let x := { s.rdn with failA := min 100 (s.rdn.failA + 1), failB := min 100 (s.rdn.failB + 1) }
  match s.rdn.resume with
  | some n => s.withRdn { x with resume := some (if s.crs.ctrlMiss then 0 else min 1000 (n + 1)) }
  | none => s.withRdn x

/-- CLAIM_RESUME takes effect; without a give-up it changes nothing, and a repeat does not begin the count anew (R324). -/
def State.takeResume (w : Waiting) (s : State) : State :=
  (if s.crs.gaveUp ∧ s.rdn.resume = none then s.withRdn { s.rdn with resume := some 0 } else s).done w 0

/-- The part becomes ready to claim: the latch is set, streaks and GAVE_UP are cleared, the release generator stops
(R52, R321). -/
def State.becomeReady (s : State) : State :=
  let s := s.withRdn { s.rdn with claimLatch := true, relgen := false, resume := none, resumed := false }
  s.withCrs { s.crs with streak := Vector.replicate 8 0, gaveUp := false }

/-- Readiness is looked at: where it has been regained, streaks and GAVE_UP are cleared, with the latch set anew where it
was clear (R52, R321). -/
def State.noteReady (s : State) : State :=
  let ready := s.readyToClaim
  let s := if ready && !(s.rdn.wasReady && s.rdn.claimLatch) then s.becomeReady else s
  s.withRdn { s.rdn with wasReady := ready }

/-! ## Health (R326) -/

/-- The conditions of R326, term 0 first. -/
def State.healthTerms (s : State) : List Bool :=
  [s.portUp .a && decide (100 ≤ s.rdn.failA), s.portUp .b && decide (100 ≤ s.rdn.failB),
   [0, 1, 2].all (fun c => !s.canUse c 0 || (s.canCtl c).state == 0),
   s.rdn.feedA && s.rdn.feedB,
   decide (s.effField .vslCfg 14 7 ≤ s.vsl.inService),
   !s.btr.degraded,
   !s.pairMode || (s.linkUp 0 && s.linkUp 1)]

/-- The sum of the terms met. -/
def healthScore (ts : List Bool) : Nat :=
  sumNat ((ts.zip [48, 48, 32, 32, 32, 32, 16]).map (fun p => if p.1 then p.2 else 0))

/-- The health score is evaluated; a change raises event source 88. -/
def State.evalHealth (s : State) : State :=
  let ts := s.healthTerms
  let n := healthScore ts
  let s1 := s.withRdn { s.rdn with score := n, terms := maskOf ts }
  if n = s.rdn.score then s1 else s1.raise 88 .notice 3 n noIndex []

/-! ## Role and claim (R325) -/

/-- The role at the evaluation: RELEASE when not ready or the latch is clear; a single part is else ACTIVE, a part in
pair mode keeps ACTIVE, takes it where the comparison of the frame before found neither part holding the claim, and is
else STANDBY. -/
def State.evalRole (s : State) : Nat :=
  if s.readyToClaim = false ∨ s.rdn.claimLatch = false then 0
  else if s.pairMode = false ∨ s.rdn.role = 2 ∨ s.rdn.elected then 2 else 1

/-- The claim of the part. -/
def State.ownClaim (s : State) : Half := claimOf s.rdn.role s.rdn.score s.rdn.unitId

/-- Health score and role are evaluated, and the claim formed (R325). The model does so in the first of DIGEST and
KEYSTONE of a frame (assumption 26). -/
def State.evalClaim (s : State) : State :=
  if s.rdn.evalFrame = some s.crs.frame then s else
  let s := s.evalHealth.checkResume
  let s := s.noteReady
  let s := s.setRole s.evalRole .notice
  s.withRdn { s.rdn with own := s.ownClaim, evalFrame := some s.crs.frame, elected := false }

/-! ## Keystone frames (R328) -/

/-- The bytes of a keystone frame. -/
def KsFrame.bytes (k : KsFrame) : List Byte :=
  let b := lebytes 4 0x5359454B ++ [2, 32] ++ lebytes 2 k.claim.toNat ++ wbytes k.seq ++ wbytes k.frame ++ wbytes k.origin
    ++ lebytes 2 k.flags ++ [byte k.hold, byte k.entries.length] ++ wbytes k.vessel ++ wbytes k.stamp
    ++ (k.entries.map (padTo 16)).flatten
  b ++ wbytes (crc32 b)

/-- The sequence number of the next keystone frame (R29, R330). -/
def State.nextSeq (s : State) : Word := if s.rdn.sent then s.rdn.seq + 1 else 0

/-- A copy goes to network `n`, or is a copy not sent (R21). -/
def State.ksNet (k : KsFrame) (full n : Nat) (s : State) : State :=
  if s.netTakes n full then
    s.emit (.udp (if n = 0 then .a else .b) (s.netGroup (0x0C + 4 * n)) s.ksPort k.bytes)
  else s.sendFail n

/-- Some send engine takes its copy. -/
def State.ksTaken (s : State) (full : Nat) : Bool :=
  s.netTakes 0 full || s.netTakes 1 full || [0, 1, 2].any (fun c => s.canUse c 0 && !tbit full (2 + c) && !s.fifoStalled 22)

/-- All copies of a keystone frame are handed to their send engines, with the tap of the buttress (R16, R21). -/
def State.sendKeystone (k : KsFrame) (full : Nat) (s : State) : State :=
  let taken := s.ksTaken full
  let s := s.withRdn { s.rdn with
    tap := some k, last := if taken then some k else s.rdn.last, seq := k.seq, sent := true, own := k.claim }
  ((s.ksNet k full 0).ksNet k full 1).canKeystone k full

/-- An entry with OUT set and THRUST 0 (R321). -/
def outEntry (e : List Byte) : List Byte := e.take 3 ++ [byte (u8 e 3) ||| 1#8, 0, 0, 0, 0] ++ e.drop 8

/-- The entry of a descriptor in the generator's own frame: OUT and zeros (R321). -/
def blankEntry (d : List Byte) (u : Nat) : List Byte := padTo 16 (lebytes 2 (u16 d 0x34) ++ [byte u, 1])

/-- The frame of the release generator: the last frame that was sent, changed as R321 says, else one built from the
image in effect; none without an image. -/
def State.releaseFrame (s : State) : Option KsFrame :=
  match s.rdn.last with
  | some k => some { k with
      claim := claimOf 0 (bits k.claim.toNat 4 8) (bits k.claim.toNat 0 4), seq := s.nextSeq, frame := s.crs.frame
      flags := k.flags ||| 4, entries := k.entries.map outEntry }
  | none =>
    if s.hasImage = false then none else
    some { claim := claimOf 0 s.rdn.score s.rdn.unitId, seq := s.nextSeq, frame := s.crs.frame, origin := s.crs.frame, flags := 4,
           hold := 2 * s.frameCourses + 3, vessel := s.vesselId, stamp := s.stamp,
           entries := (List.range s.units).map (fun u => blankEntry (s.thruster u) u) }

/-- The release generator sends its frame; event source 87 at its first (R321). -/
def State.generate (full : Nat) (s : State) : State :=
  match s.releaseFrame with
  | none => s
  | some k =>
    let s := if s.rdn.relgen then s
      else ((s.withRdn { s.rdn with relgen := true }).count .rdnRelgen).raise 87 .notice 0 0 noIndex []
    s.sendKeystone k full

/-- The release generator has begun and goes on until the part is ready again (R321). With the latch clear and pair 1 in
time, the frame sent is pair 1's own, of role RELEASE. -/
def State.generates (s : State) : Bool := !s.rdn.claimLatch && s.rdn.relgen

/-- The keystone frame of pair 1 (R22, R325, R328). -/
def State.ownFrame (exch : Bool) (s : State) : KsFrame :=
  let r := s.item 7
  { claim := s.ownClaim, seq := s.nextSeq, frame := s.crs.frame, origin := r.origin,
    flags := b2n r.stale + 2 * b2n (s.ctl.mode == 0) + 8 * b2n (s.rdn.pstate == 3) + 16 * b2n exch,
    hold := 2 * s.frameCourses + 3, vessel := s.vesselId, stamp := s.stamp, entries := s.alloc.entries }

/-- Every role exchange command ends (R341): done, or abandoned, which has no reason code (assumption 26). -/
def State.endExchange (good : Bool) (s : State) : State :=
  let l := s.rdn.exchCmd
  let s := s.withRdn { s.rdn with exchCmd := [], exchFrame := none, exchConfirmed := false, exchAsk := false, exchRetry := none }
  l.foldl (fun s c => s.complete c.1 c.2 (if good then 0 else 1) 0) s

/-- A proposed exchange is abandoned: event source 86 (R342). -/
def State.abandonExchange (s : State) : State :=
  if s.rdn.exchFrame.isSome ∨ s.rdn.exchAsk then s.endExchange false |>.raise 86 .notice 2 0 noIndex [] else s

/-- The exchange takes place at this KEYSTONE item (R342). -/
def State.exchangeNow (s : State) : Bool :=
  s.rdn.exchFrame == some s.crs.frame && s.rdn.exchConfirmed && s.rdn.pstate == 3 && (s.rdn.role == 1 || s.rdn.role == 2)

/-- The roles are exchanged (R342). -/
def State.exchangeRoles (s : State) : State :=
  let s := s.setRole (3 - s.rdn.role) .notice
  let s := s.withRdn { s.rdn with exchLast := s.crs.frame, exchAt := s.clk.now, exchWarned := false }
  (s.endExchange true).raise 86 .notice 3 s.rdn.role noIndex []

/-- A STANDBY part takes ACTIVE in a case of R338. -/
def State.takeOver (s : State) : State :=
  let s1 := s.withRdn { s.rdn with yieldIn := false }
  if s.rdn.yieldIn ∧ s.rdn.role = 1 then (s1.setRole 2 .alarm).count .rdnTakeover else s1

/-- Whether a ready STANDBY exists, in pair mode: this part, or its partner by its latest claim; a change raises event
source 84 (R344). -/
def State.checkStandby (s : State) : State :=
  let none' := s.pairMode && !(s.rdn.role == 1 || (s.rdn.pAlive && s.rdn.pRole == 1))
  if none' = s.rdn.noStandby then s
  else (s.withRdn { s.rdn with noStandby := none' }).raise 84 .alarm (b2n (!none')) 0 noIndex []

/-- The KEYSTONE item: role, then all copies in one slot. `full` has bit 0 set where network A, bit 1 where network B,
bit 2 + c where controller c cannot accept its copy (R21). -/
def State.keystone (full : Nat) (s : State) : State :=
  let s := s.evalClaim
  let exch := s.exchangeNow
  let s := if exch then s.exchangeRoles else s.takeOver
  let s := s.checkStandby
  if s.generates then s.generate full else s.sendKeystone (s.ownFrame exch) full

/-- KEYSTONE (R21, R325). -/
def execKeystone (t : Nat) (full : Nat) (s : State) : Host.Outcome State Fault Refusal :=
  .next (s.runItem 9 t (State.keystone full))

/-- KEYSTONE missed its deadline: pair 1 hands no frame; with the latch clear the generator sends one (R321). -/
def State.keystoneMissed (s : State) : State :=
  let s := s.missItem 9
  if s.rdn.claimLatch = false then s.generate 0 else s

/-- READINESS_REGAINED (R324, R52). -/
def execReadinessRegained (t : Nat) (s : State) : Host.Outcome State Fault Refusal :=
  .next <| (s.instant t).whileRunning fun s =>
    let s := s.checkResume
    if s.rdn.resumed ∧ s.crs.gaveUp ∧ s.readyToClaim then s.noteReady else s

/-! ## Supply feeds (R322) -/

/-- A feed is in range: 2.7 V to 5.5 V. -/
def feedInRange (mv : Nat) : Bool := decide (2700 ≤ mv ∧ mv ≤ 5500)

/-- A feed's voltage, and whether it is in range. -/
def State.setFeed (feed mv : Nat) (s : State) : State :=
  if feed = 0 then (s.withPwr { s.pwr with vina := mv }).withRdn { s.rdn with feedA := feedInRange mv }
  else (s.withPwr { s.pwr with vinb := mv }).withRdn { s.rdn with feedB := feedInRange mv }

/-- FEED_OUT_OF_RANGE: a feed has been out of range for 1 ms (R322). -/
def execFeedOutOfRange (t feed mv : Nat) (s : State) : Host.Outcome State Fault Refusal :=
  .next <|
    if s.pwr.inReset ∨ feed > 1 ∨ feedInRange mv then s else
    let s := s.instant t
    let was := if feed = 0 then s.rdn.feedA else s.rdn.feedB
    let s := s.setFeed feed mv
    if was then s.raise 85 .notice 0 0 feed [] else s

/-- FEED_RESTORED (R322). -/
def execFeedRestored (t feed mv : Nat) (s : State) : Host.Outcome State Fault Refusal :=
  .next <|
    if s.pwr.inReset ∨ feed > 1 ∨ feedInRange mv = false then s else
    let s := s.instant t
    let was := if feed = 0 then s.rdn.feedA else s.rdn.feedB
    let s := s.setFeed feed mv
    if was then s else s.raise 85 .notice 1 0 feed []

end Sys2Proof.Machine
end

