-- ==== Sys2Proof/Machine/Clocks.lean ====
section
/-! DEFINITION. Clock domains, crossings and resets (spec/21_clock_domains_and_resets.md). -/

namespace Sys2Proof.Machine
open Sys2Proof

/-- Kind, first domain, second domain and FIFO depth of each crossing (R485): kind 0 request and acknowledge,
1 count, 2 FIFO. -/
def crossingTable : List (Nat × Nat × Nat × Nat) :=
  [(0, 0, 1, 0), (1, 0, 1, 0), (1, 3, 1, 0), (1, 3, 2, 0), (0, 3, 1, 0), (2, 3, 1, 64), (2, 4, 1, 512), (0, 4, 1, 0)]
  ++ [(2, 5, 1, 64), (2, 2, 1, 16), (2, 1, 2, 16), (2, 2, 6, 4), (2, 2, 6, 4), (2, 6, 2, 16), (2, 6, 2, 16), (2, 1, 6, 64)]
  ++ [(2, 1, 6, 64), (2, 6, 1, 256), (2, 6, 1, 256), (2, 6, 1, 64), (2, 6, 1, 64), (0, 6, 1, 0), (2, 1, 8, 32), (2, 8, 1, 64)]
  ++ [(0, 8, 1, 0), (2, 1, 7, 128), (2, 7, 1, 128), (0, 7, 1, 0), (2, 1, 9, 256), (2, 9, 1, 256), (1, 9, 1, 0), (0, 1, 10, 0)]

/-- The row of a crossing. -/
def crossingRow (c : Nat) : Nat × Nat × Nat × Nat := crossingTable.getD c (3, 0, 0, 0)

/-- A crossing has a side in a domain. -/
def crossingIn (c d : Nat) : Bool := (crossingRow c).2.1 == d || (crossingRow c).2.2.1 == d

/-- The class of a crossing's event (R489): alarm for crossings 3 and 9 to 14, warning otherwise. -/
def crossingSev (c : Nat) : Sev := if c = 3 ∨ (9 ≤ c ∧ c ≤ 14) then .alarm else .warning

/-- A crossing becomes STALLED (R488, R489). -/
def State.stall (c : Nat) (s : State) : State :=
  if vget s.glb.xState c 2 = 2 then s
  else (s.withGlb { s.glb with xState := vset s.glb.xState c 2 }).raise 125 (crossingSev c) 0 0 c []

/-- A crossing is reset as a whole on both sides (R486): counted, its discarded entries counted, and back in RUNNING.
On the send paths a discarded entry is a copy not sent (R21). -/
def State.resetCrossing (c discarded : Nat) (s : State) : State :=
  let row := crossingRow c
  let stalled := vget s.glb.xState c 0 == 2
  let s := s.withGlb { s.glb with xState := vset s.glb.xState c 0 }
  let s := (s.count .xReset).raise 125 (crossingSev c) 3 0 c []
  let n := if row.1 = 2 then min discarded row.2.2.2 else 0
  let s := if n = 0 then s else s.countN .xDisc n
  let s := if n > 0 ∧ (c = 15 ∨ c = 16) then s.sendFail (c - 15) else s
  if stalled then s.raise 125 (crossingSev c) 1 0 c [] else s

/-- Both clocks of a crossing are declared running. -/
def State.crossingClocks (s : State) (c : Nat) : Bool :=
  vget s.glb.clkRun (crossingRow c).2.1 false && vget s.glb.clkRun (crossingRow c).2.2.1 false

/-- CLOCK_STOPPED: the monitor declares a domain's clock stopped and stalls its crossings (R488); a stopped REFCLK,
core or plinth clock resets the part with cause clock loss (R490), a stopped BUTTRESS clock is an island fault (R347). -/
def execClockStopped (t domain : Nat) (s : State) : Host.Outcome State Fault Refusal :=
  .next <|
    if domain ≥ 11 ∨ vget s.glb.clkRun domain false = false then s else
    let s := s.instant t
    let s := s.withGlb { s.glb with clkRun := vset s.glb.clkRun domain false }
    if domain = 0 ∨ domain = 1 ∨ domain = 3 then s.partReset 4 else
    let s := s.raise 126 .notice 0 1 domain []
    let s := (List.range 32).foldl (fun s c => if crossingIn c domain then s.stall c else s) s
    if domain = 2 then s.islandFault else s

/-- A reset of the host interface with the crossings of its domain, 25 to 27 (R412, R487). -/
def State.resetHost (kind : Nat) (s : State) : State :=
  [25, 26, 27].foldl (fun s c => s.resetCrossing c 0) (s.hostInterfaceReset kind)

/-- HOST_INTERFACE_RESET (R412); while the PCIe clock has stopped it waits for it (R487). Kind 0, the conventional
reset, is a reset of the same reach. -/
def execHostInterfaceReset (t kind : Nat) (s : State) : Host.Outcome State Fault Refusal :=
  .next <|
    if kind > 3 ∨ s.firmwareRuns = false then s else
    let s := s.instant t
    if vget s.glb.clkRun 7 true then s.resetHost kind
    else s.withHrg { s.hrg with resetDue := some kind }

/-- CLOCK_RUNNING_AGAIN: the monitor declares the clock running; its crossings stay STALLED until SUPERVISE resets
them, but for the host interface, whose awaited reset takes effect and resets its crossings (R482, R487, R489). -/
def execClockRunningAgain (t domain : Nat) (s : State) : Host.Outcome State Fault Refusal :=
  .next <|
    if domain ≥ 11 ∨ vget s.glb.clkRun domain true = true then s else
    let s := s.instant t
    let s := (s.withGlb { s.glb with clkRun := vset s.glb.clkRun domain true }).raise 126 .notice 1 1 domain []
    if domain = 7 ∧ s.hrg.resetDue.isSome then
      s.resetHost (s.hrg.resetDue.getD 0)
    else s

/-- CROSSING_RESET (R486): a reset that falls due while a domain of the crossing has stopped waits for it (R487). -/
def execCrossingReset (t crossing discarded : Nat) (s : State) : Host.Outcome State Fault Refusal :=
  .next <|
    if crossing ≥ 32 ∨ s.crossingClocks crossing = false then s
    else (s.instant t).resetCrossing crossing discarded

/-- SUPERVISE: pair 5 resets every STALLED crossing whose two clocks run (R489), and services the plinth watchdog. -/
def execSupervise (t : Nat) (s : State) : Host.Outcome State Fault Refusal :=
  .next <| s.runService 0x28 t fun s =>
    let s := s.withGlb { s.glb with fedAt := s.clk.now }
    (List.range 32).foldl (fun s c =>
      if vget s.glb.xState c 0 = 2 ∧ s.crossingClocks c then s.resetCrossing c 0 else s) s

/-- RESET_N_ASSERT (R491): the ball held low past its filter resets the part. -/
def execResetNAssert (t : Nat) (s : State) : Host.Outcome State Fault Refusal :=
  .next ((s.instant t).partReset 3)

/-- PLINTH_WATCHDOG_EXPIRY (R491): pair 5 has not serviced the watchdog for 10 ms. -/
def execPlinthWatchdogExpiry (t : Nat) (s : State) : Host.Outcome State Fault Refusal :=
  .next <|
    if s.runs ∧ (s.instant t).clk.now < s.glb.fedAt + 10000000 then s else (s.instant t).partReset 5

/-- CORE_PLL_LOCK_LOSS (R490): a part reset of cause clock loss. -/
def execCorePllLockLoss (t : Nat) (s : State) : Host.Outcome State Fault Refusal :=
  .next ((s.instant t).partReset 4)

/-- POWER_ON_RESET (R491): the whole part, the plinth included; the reserve store, the log memory and the OTP fuses
keep their contents, and start-up begins in phase PLINTH. A save in progress stays incomplete. -/
def execPowerOnReset (s : State) : Host.Outcome State Fault Refusal :=
  let r := s.breakSave.resetPart 0 0
  .next (({ r with
    regs := Regs.reset
    glb := Glb.reset
    log := { Log.reset with slots := s.log.slots }
    pwr := { Pwr.reset with inReset := true, phase := 0, rtc := s.pwr.rtc } }))

/-- PART_RESET (R492): a part reset of the given cause code of R507 (3 to 6). -/
def execPartReset (cause : Nat) (s : State) : Host.Outcome State Fault Refusal :=
  .next (if 3 ≤ cause ∧ cause ≤ 6 then s.partReset cause else s)

/-- PART_RESET_RELEASE: 100 µs after the last part-scope source ended the part leaves reset and samples the seal
switches (R492, R494); it stays in reset while REFCLK, the core or the plinth clock is stopped (R499). -/
def execPartResetRelease (straps : Half) (s : State) : Host.Outcome State Fault Refusal :=
  .next <|
    if s.pwr.inReset ∧ s.pwr.phase = 2 ∧ (vget s.glb.clkRun 0 false && vget s.glb.clkRun 1 false && vget s.glb.clkRun 3 false) then
      (s.withPwr { s.pwr with inReset := false }).withSec { s.sec with sealCode := straps }
    else s

/-- GLB_RESET_WRITE: GLB_RESET with its key resets the part while the DP mode is STANDBY or the part is not ready to
claim; otherwise it is refused and counted (R493). A host reset request has no effect during a save (R502). -/
def execGlbResetWrite (w : Word) (s : State) : Host.Outcome State Fault Refusal :=
  .next <| s.barWrite 0x114 fun s =>
    if w.extractLsb' 16 16 ≠ 0x5253#16 ∨ w.getLsbD 0 = false then s
    else if s.pwr.save.isSome then s
    else if s.ctl.mode = 0 ∨ s.readyToClaim = false then s.partReset 6
    else (s.count .rstRefused).raise 126 .notice 0 3 noIndex []

/-- GLB_XSEL_WRITE latches the selected crossing into GLB_XINFO (R497); a FIFO's entries pass at once in this model,
so LEVEL reads 0. -/
def execGlbXselWrite (w : Word) (s : State) : Host.Outcome State Fault Refusal :=
  .next <| s.barWrite 0x104 fun s =>
    let c := (w.extractLsb' 0 5).toNat
    let row := crossingRow c
    s.withGlb { s.glb with
      xsel := c, xinfo := word (row.1 + 4 * vget s.glb.xState c 0 + 16 * row.2.1 + 256 * row.2.2.1) }

end Sys2Proof.Machine
end

