-- ==== Sys2Proof/Machine/TimeBase.lean ====
section
/-! DEFINITION. Device time, PTP, the time pulse and event capture (spec/12_time_base.md). -/

namespace Sys2Proof.Machine
open Sys2Proof

/-! ## Selection (R305, R307, R309) -/

/-- The sources in order of rank; source 5 alone in a part of a pair or cascade that is not the ring master (R305). -/
def State.timRanks (s : State) : List Nat :=
  if s.linkMode ∧ s.ylk.state ≠ 3 then [5]
  else ((List.range 4).map (fun i => s.effField .timCfg (3 * i) 3)).filter (fun c => decide (1 ≤ c ∧ c ≤ 4))

/-- Rank of a source: its place, 0 the highest; none when it is not ranked. -/
def State.timRank (s : State) (src : Nat) : Option Nat := s.timRanks.findIdx? (· == src)

/-- U_S of a source. -/
def State.baseUnc (s : State) (n : Nat) : Nat :=
  if n = 2 ∨ n = 3 then 100 + 50 * s.tim.gmSteps
  else if n = 5 then 20 + 10 * s.ylk.srcHops else 50

/-- A source is selected; device time follows it (R305, R310). -/
def State.selectSource (n : Nat) (s : State) : State :=
  let was := s.tim.state
  let o := (s.timSrc n).offset.getD 0
  let s := s.timAdvance
  let us := s.baseUnc n
  let s := s.withTim { s.tim with
    src := n, state := 1, offset := o, recent := [], slewLeft := o, unc := some us, uncAt := s.clk.now, uncSlew := o.natAbs }
  let s := s.raise 56 .notice 3 n noIndex []
  let s := if was = 2 then s.raise 58 .notice 1 1 noIndex [] else s
  s.checkExceeded

/-- A pending step is withdrawn (R307). -/
def State.withdrawStep (s : State) : State :=
  if s.tim.pending then (s.withTim { s.tim with pending := false }).raise 57 .notice 2 1 noIndex [word s.tim.stepSeq] else s

/-- A qualified source with an offset below STEP_THR. -/
def State.timSelectable (s : State) (n : Nat) : Bool :=
  (s.timSrc n).qualified && match (s.timSrc n).offset with
    | some o => decide (o.natAbs < s.stepThr)
    | none => false

/-- Rule 1 of R305: with no source selected, the highest-ranked selectable one is; the pending step is withdrawn (R307). -/
def State.applyRule1 (s : State) : State :=
  if s.tim.src ≠ 0 then
    (if s.tim.pending ∧ s.timSelectable s.tim.pendSrc then s.withdrawStep else s)
  else match s.timRanks.find? s.timSelectable with
    | some n => (s.selectSource n).withdrawStep
    | none => s

/-- TIM_OFFSET of an offset: 32 bits, saturating (R320). -/
def satOffset (o : Int) : Int := max (-2147483648) (min 2147483647 o)

/-- The event and sequence of a pending step. -/
def State.reportPending (n : Nat) (o : Int) (s : State) : State :=
  let seq := (s.tim.stepSeq + 1) % 256
  (s.withTim { s.tim with pending := true, pend := o, pendSrc := n, stepSeq := seq, offset := satOffset o }).raise 57 .alarm 0 1 noIndex
    (word seq :: words64 o)

/-- A step is refused and waits for the host (R307). -/
def State.refuseStep (n : Nat) (s : State) : State := (s.count .timRefused).reportPending n ((s.timSrc n).offset.getD 0)

/-- The selected source is given up: holdover from the last good offset (R307, R310). -/
def State.dropSource (s : State) : State :=
  let u := s.tim.unc.getD 0 + s.tim.uncSlew
  ((s.withTim { s.tim with src := 0 }).raise 56 .notice 3 0 noIndex []).enterHoldover u s.tim.uncAt

/-- The moves that a source's standing asks for once it is qualified (R305, R307, R309). -/
def State.considerSource (n : Nat) (s : State) : State :=
  match s.timRank n, (s.timSrc n).offset with
  | some r, some o =>
    if s.tim.state = 0 then
      ((s.stepTime (-o) 0).setTimSrc n { s.timSrc n with offset := some 0 }).selectSource n
    else if o.natAbs < s.stepThr then s.applyRule1
    else
      let above : Bool := match s.timRank s.tim.src with
        | some q => decide (r < q)
        | none => true
      if s.tim.src = 0 ∨ (above ∧ s.tim.src ≠ n) then s.refuseStep n else s
  | _, _ => s

/-- A part that is not the ring master gives up sources 1 to 4 (R305). -/
def State.followRole (s : State) : State :=
  if s.linkMode ∧ s.ylk.state ≠ 3 ∧ s.tim.src ≠ 0 ∧ s.tim.src ≠ 5 then s.dropSource.applyRule1 else s

/-! ## Measurement (R303, R304, R306) -/

/-- The PTP port of a source, when it is in SLAVE state. -/
def State.ptpPort (s : State) (i : Nat) : PtpPort := vget s.tim.ports i PtpPort.reset

/-- The clock offset that a standalone solution gives the time engine: 4 or more satellites, the integrity check passed,
its antenna not declared spoofed (R303). -/
def State.solOffset (s : State) : Option Int :=
  match s.gns.sol with
  | some x => if 4 ≤ x.sats ∧ x.raim ≤ 1 ∧ (vget s.gns.ants s.gns.solAnt GnsAnt.reset).spoofed = false then some x.clock else none
  | none => none

/-- The offset that a source gives in this second, when it is good (R303). -/
def State.sourceOffset (s : State) (n : Nat) : Option Int :=
  match n with
  | 1 => if s.solOffset.isSome then s.tim.gnsOffset else none
  | 2 => if (s.ptpPort 0).state = 9 ∧ s.tim.gmClass ≤ s.effField .timPtpRate 16 8 then (s.ptpPort 0).offset else none
  | 3 => if (s.ptpPort 1).state = 9 ∧ s.tim.gmClass ≤ s.effField .timPtpRate 16 8 then (s.ptpPort 1).offset else none
  | 4 => if s.tim.hostSet then s.tim.extOffset else none
  | 5 => s.ylk.srcOffset
  | _ => none

/-- What a source gave is used up, so that each second asks for a new offset. -/
def State.consumeOffset (n : Nat) (s : State) : State :=
  match n with
  | 1 => s.withTim { s.tim with gnsOffset := none }
  | 2 => s.withTim { s.tim with ports := vmod s.tim.ports 0 (fun p => { p with offset := none }) }
  | 3 => s.withTim { s.tim with ports := vmod s.tim.ports 1 (fun p => { p with offset := none }) }
  | 4 => s.withTim { s.tim with extOffset := none }
  | 5 => s.withYlk { s.ylk with srcOffset := none }
  | _ => s

/-- The selected source steers (R303, R306, R310). -/
def State.steerOn (n : Nat) (o : Int) (us : Nat) (s : State) : State :=
  let recent := (o :: s.tim.recent).take (s.effField .timServo 0 10)
  let i := Config.servoTerm (s.effField .timServo 0 10) s.tim.integral o
  let integral := if s.follows10m then s.tim.integral else (i :: s.tim.integral).take (s.effField .timHold 20 9)
  let s := s.withTim { s.tim with
    offset := satOffset o, slewLeft := o, recent := recent, integral := integral
    freq := if s.follows10m then Config.ext10mWord s.clk.now else i
    unc := some (us + twoSigma recent), uncAt := s.clk.now, uncSlew := o.natAbs }
  (s.setTimSrc n { s.timSrc n with lossSecs := 0 }).checkExceeded

/-- A new offset of the pending source: TIM_OFFSET shows it; it is reported again when it has moved by more than STEP_THR
(R307, R320). -/
def State.pendingMoved (n : Nat) (o : Int) (s : State) : State :=
  if s.tim.pending ∧ s.tim.pendSrc = n then
    let s := s.withTim { s.tim with offset := satOffset o }
    if s.stepThr < (o - s.tim.pend).natAbs ∧ s.stepThr ≤ o.natAbs then s.reportPending n o else s
  else s

/-- SOURCE_OFFSET_MEASURE: the offset of a source in this second (R303, R304, R306, R307). -/
def execSourceOffsetMeasure (t src : Nat) (s : State) : Host.Outcome State Fault Refusal :=
  .next <| (s.instant t).whileRunning fun s =>
    if src = 0 ∨ src > 5 then s else
    let s := s.followRole.timAdvance
    let x := s.timSrc src
    match s.sourceOffset src with
    | none => (s.consumeOffset src).setTimSrc src { x with goodSecs := 0, aboveSecs := 0, lossSecs := min 65535 (x.lossSecs + 1) }
    | some o =>
      let us := s.baseUnc src
      let s := s.consumeOffset src
      let near : Bool := match x.offset with
        | some p => decide ((o - p - (s.tim.steer - x.steer)).natAbs ≤ 1000)
        | none => false
      let below := decide (o.natAbs < s.stepThr)
      let s := s.setTimSrc src { x with
        offset := some o, steer := s.tim.steer, lossSecs := 0, goodSecs := if near then min 65535 (x.goodSecs + 1) else 1
        aboveSecs := if x.qualified && below then min 65535 (x.aboveSecs + 1) else 0 }
      if s.tim.src = src then
        (if below then s.steerOn src o us else (s.refuseStep src).dropSource)
      else
        let s := s.pendingMoved src o
        if (s.timSrc src).qualified = false then s
        else if s.tim.state = 0 then s.considerSource src else s.applyRule1

/-- SOURCE_QUALIFIED (R304, R305, R307, R309). -/
def execSourceQualified (t src : Nat) (s : State) : Host.Outcome State Fault Refusal :=
  .next <| (s.instant t).whileRunning fun s =>
    let x := s.timSrc src
    if src = 0 ∨ src > 5 ∨ x.qualified ∨ x.goodSecs < s.effField .timCfg 13 8 then s else
    ((s.setTimSrc src { x with qualified := true, aboveSecs := 0 }).raise 56 .notice 1 0 src []).considerSource src

/-- SOURCE_LOST: a qualified source, or one that the host selected by TIME_STEP_ACCEPT after its loss (R304, R305, R308,
R310). -/
def execSourceLost (t src : Nat) (s : State) : Host.Outcome State Fault Refusal :=
  .next <| (s.instant t).whileRunning fun s =>
    let x := s.timSrc src
    if src = 0 ∨ src > 5 ∨ (x.qualified = false ∧ s.tim.src ≠ src) ∨ x.lossSecs < s.effField .timCfg 21 4 then s else
    let s := (s.setTimSrc src { x with qualified := false, goodSecs := 0, aboveSecs := 0 }).raise 56 .notice 0 0 src []
    if s.tim.src = src then ((s.count .srcLoss).dropSource).applyRule1 else s

/-- SOURCE_REVERT (R305 rule 3). -/
def execSourceRevert (t src : Nat) (s : State) : Host.Outcome State Fault Refusal :=
  .next <| (s.instant t).whileRunning fun s =>
    match s.timRank src, s.timRank s.tim.src with
    | some r, some q =>
      if s.effField .timCfg 12 1 = 1 ∧ r < q ∧ s.timSelectable src ∧ s.effField .timServo 17 8 ≤ (s.timSrc src).aboveSecs
      then s.selectSource src else s
    | _, _ => s

/-- HOLDOVER_LIMIT_CROSSED (R310). -/
def execHoldoverLimitCrossed (t : Nat) (s : State) : Host.Outcome State Fault Refusal :=
  .next <| if s.pwr.inReset then s else (s.instant t).checkExceeded

/-- EXT_PPS_EDGE: the edge of PPS_POL gives its stamp less DELAY against the nearest whole second, while edges arrive once
per second: at 1 s from the one before, within 1 ms (DESIGN CHOICE, assumption 12) (R303, R320). -/
def execExtPpsEdge (edge : PpsEdge) (s : State) : Host.Outcome State Fault Refusal :=
  .next <| (s.instant edge.t).whileRunning fun s =>
    if s.effField .timExt 1 1 = 0 ∨ b2n edge.falling ≠ s.effField .timExt 2 1 then s else
    let o := (s.devTime - s.effField .timExt 3 16) % 1000000000
    let onTime : Bool := match s.tim.extAt with
      | some a => decide (a + 999000000 ≤ s.clk.now ∧ s.clk.now ≤ a + 1001000000)
      | none => false
    s.withTim { s.tim with
      extAt := some s.clk.now, extOffset := if onTime then some (if o < 500000000 then o else o - 1000000000) else none }

/-- The frequency word follows EXT_10M, or stays where it is once it has stopped following (R303). -/
def State.follow10m (was : Bool) (s : State) : State :=
  s.withTim { s.tim with freq := if s.follows10m then Config.ext10mWord s.clk.now else if was then s.tim.freeze else s.tim.freq }

/-- EXT_10M_PRESENCE_CHANGE: the frequency word starts or stops following EXT_10M (R303). -/
def execExt10mPresenceChange (t : Nat) (present : Bool) (s : State) : Host.Outcome State Fault Refusal :=
  .next <| (s.instant t).whileRunning fun s =>
    let s := s.timAdvance
    let was := s.follows10m
    (s.withTim { s.tim with ext10m := present }).follow10m was

/-! ## Host commands (R308, R311) -/

/-- TIME_STEP_ACCEPT takes effect at the tick of the frame (R308). -/
def State.takeStepAccept (w : Waiting) (seq : Nat) (s : State) : State :=
  if s.tim.pending = false then s.refuse w 1
  else if seq ≠ s.tim.stepSeq then s.refuse w 2
  else
    let s := s.timAdvance
    let n := s.tim.pendSrc
    let x := s.timSrc n
    let o := x.offset.getD s.tim.pend + (s.tim.steer - x.steer)
    let s := s.withTim { s.tim with pending := false, hostSet := true }
    let s := (s.stepTime (-o) seq).setTimSrc n { x with offset := some 0, steer := s.tim.steer }
    (s.selectSource n).done w 0

/-- TIME_SET takes effect at the tick of the frame (R308). -/
def State.takeTimeSet (w : Waiting) (secs ns unc : Nat) (s : State) : State :=
  if s.tim.src ≠ 0 then s.refuse w 1
  else
    let carried : Int := secs * 1000000000 + ns
    let s := s.stepTime (-(w.time - carried)) 0
    ((s.withTim { s.tim with hostSet := true }).enterHoldover unc s.clk.now).done w 0

/-- The leap-second count is learned or changes: event source 60 (R311). -/
def State.learnLeap (src count : Nat) (s : State) : State :=
  let t := s.tim
  let c := count % 256
  let s := s.withTim { t with leapCount := c, leapKnown := true, leapFrom := src }
  if t.leapKnown = false then s.raise 60 .notice 0 0 noIndex []
  else if c = t.leapCount then s else s.raise 60 .notice 3 0 noIndex []

/-- An announcement of a leap: 0 none, 1 one second more, 2 one less (R311). -/
def State.announceLeap (n : Nat) (s : State) : State :=
  if s.tim.leapAnn = n then s else
  (s.withTim { s.tim with leapAnn := n }).raise 60 .notice 3 n noIndex []

/-! ## PTP (R312 to R314) -/

/-- The clockClass advertised (R313). -/
def State.clockClass (s : State) : Nat :=
  match s.tim.state with
  | 1 =>
    if s.tim.src = 1 ∨ s.tim.src = 4 then (if s.timUnc ≤ 1000 then 6 else 248)
    else if s.tim.src = 5 then Config.linkClass s.clk.now % 256 else s.tim.gmClass
  | 2 => if s.tim.hoExceeded then 187 else 7
  | _ => 248

/-- clockAccuracy of an uncertainty in ns, from the table of IEEE 1588-2019. PRESUMED (assumption 12). -/
def clockAccuracy (u : Nat) : Nat :=
  let steps := [25, 100, 250, 1000, 2500, 10000, 25000, 100000, 250000, 1000000, 2500000, 10000000, 25000000,
    100000000, 250000000, 1000000000, 10000000000]
  if u = 0xFFFFFFFF then 0xFE else 0x20 + (steps.filter (· < u)).length

/-- The interval that a signed 4-bit log₂ of seconds gives, ns. -/
def logInterval (x : Nat) : Nat := if x < 8 then 1000000000 * 2 ^ x else 1000000000 / 2 ^ (16 - x)

/-- What the part compares of a foreign master, in order. -/
def Announce.key (a : Announce) : List Nat := [a.prio1, a.cls, a.acc, a.var, a.prio2, a.ident, a.steps]

/-- `a` is better than `b` under the default algorithm. -/
def Announce.better (a b : Announce) : Bool := decide (Announce.key a < Announce.key b)

/-- The part's own data set. -/
def State.ownAnnounce (s : State) : Announce :=
  { prio1 := s.effField .timPtpCfg 16 8, cls := s.clockClass, acc := clockAccuracy s.timUnc, var := Config.clockVar,
    prio2 := s.effField .timPtpCfg 24 8, ident := Config.clockIdent, steps := 0, utc := none, leap := 0 }

/-- PTP runs on a port. -/
def State.ptpOn (s : State) (i : Nat) : Bool := s.effField .timPtpCfg i 1 == 1

/-- The better of the masters that the ports hear. -/
def State.ptpBest (s : State) : Option (Nat × Announce) :=
  [0, 1].foldl (fun b i =>
    match b, (s.ptpPort i).best with
    | some (j, x), some y => if Announce.better y x then some (i, y) else some (j, x)
    | none, some y => some (i, y)
    | b, none => b) none

/-- The state that the default algorithm gives a port by itself: 4 LISTENING, 6 MASTER, 7 PASSIVE, 9 SLAVE. Without
MASTER_EN a port never becomes master; a port leaves LISTENING for MASTER once ANN_TIMEOUT intervals have passed; one
that hears the grandmaster by a worse path is PASSIVE (R312, R313). PRESUMED (assumption 12). -/
def State.ptpAlone (s : State) (i : Nat) : Nat :=
  let own := s.ownAnnounce
  let p := s.ptpPort i
  let may := s.effField .timPtpCfg 8 1 = 1
  match s.ptpBest with
  | none => if may ∧ (p.quiet ∨ p.state = 6) then 6 else 4
  | some (j, e) =>
    match p.best with
    | none => if may ∧ (p.quiet ∨ p.state = 5 ∨ p.state = 6) then 6 else 4
    | some x =>
      if may ∧ own.cls < 128 then (if Announce.better own x then 6 else 7)
      else if may ∧ Announce.better own e then 6
      else if i = j then 9
      else if may ∧ x.ident ≠ e.ident then 6 else 7

/-- A port that becomes MASTER while the other one has the parent waits in PRE_MASTER for stepsRemoved + 1 announce
intervals (R312). PRESUMED (assumption 12). -/
def State.ptpQualified (s : State) (i : Nat) : Bool :=
  let p := s.ptpPort i
  match s.ptpBest with
  | none => true
  | some (_, e) =>
    s.effField .timPtpCfg 8 1 == 1 && Announce.better s.ownAnnounce e || p.state == 6
      || p.state == 5 && decide (p.preAt + (e.steps + 1) * logInterval (s.effField .timPtpRate 4 4) ≤ s.clk.now)

/-- The port that an ordinary clock leaves active: the slave port, else port A while it is master (R312). DESIGN CHOICE:
port A before port B (assumption 12). -/
def State.ptpActive (s : State) : Nat :=
  if s.ptpOn 0 = false then 1
  else if s.ptpOn 1 = false then 0
  else if s.ptpAlone 0 = 9 then 0
  else if s.ptpAlone 1 = 9 then 1
  else if s.ptpAlone 0 = 6 then 0 else 1

/-- The state of a port: 0 disabled; an ordinary clock has one port active and the other passive (R312). -/
def State.ptpDecide (s : State) (i : Nat) : Nat :=
  if s.ptpOn i = false then 0 else
  let n := s.ptpAlone i
  if s.effField .timPtpCfg 6 2 ≠ 1 ∧ (n = 6 ∨ n = 9) ∧ s.ptpActive ≠ i then 7
  else if n = 6 ∧ s.ptpQualified i = false then 5 else n

/-- The state with a PTP port replaced. -/
def State.setPtp (i : Nat) (p : PtpPort) (s : State) : State := s.withTim { s.tim with ports := vset s.tim.ports i p }

/-- A port that is not enabled has heard nothing; one that becomes enabled listens from the present instant. -/
def State.ptpEnable (i : Nat) (s : State) : State :=
  let p := s.ptpPort i
  if s.ptpOn i then (if p.state = 0 then s.setPtp i { p with annAt := s.clk.now } else s)
  else s.setPtp i { PtpPort.reset with state := p.state, seq := p.seq, annSeq := p.annSeq, delaySeq := p.delaySeq }

/-- A port takes a state; a change raises event source 59 (R319). A port that the algorithm makes SLAVE is UNCALIBRATED, 8,
until it has formed an offset (R312). PRESUMED (assumption 12). -/
def State.ptpState (i n : Nat) (s : State) : State :=
  let p := s.ptpPort i
  let m := if n = 9 ∧ p.state ≠ 9 then 8 else n
  if p.state = m then s else
  (s.setPtp i { p with state := m, preAt := s.clk.now, sync := none, syncWait := none, offset := none }).raise 59 .notice 3 m i []

/-- The port states and the grandmaster are decided; a change of either raises event source 59 (R319). -/
def State.ptpUpdate (s : State) : State :=
  let s := [0, 1].foldl (fun s i => s.ptpEnable i) s
  let g : Nat × Nat × Option Nat := match s.ptpBest with
    | some (_, e) => (e.cls, e.steps, some e.ident)
    | none => (255, 0, none)
  let next := (s.ptpDecide 0, s.ptpDecide 1)
  let s := (s.ptpState 0 next.1).ptpState 1 next.2
  if s.tim.gmClass = g.1 ∧ s.tim.gmSteps = g.2.1 ∧ s.tim.gmIdent = g.2.2 then s
  else (s.withTim { s.tim with gmClass := g.1, gmSteps := g.2.1, gmIdent := g.2.2 }).raise 59 .notice 3 0 noIndex [word g.1, word g.2.1]

/-- A sequenceId that follows the one before, modulo 2¹⁶ (R314). -/
def seqFollows (q : Option Nat) (n : Nat) : Bool := match q with
  | some p => let d := (n + 65536 - p) % 65536; decide (0 < d ∧ d < 32768)
  | none => true

/-- A foreign master counts once two of its Announce messages have come within 4 announce intervals; at most five are
remembered (R312). PRESUMED (assumption 12). -/
def State.ptpHeard (i : Nat) (a : Announce) (s : State) : Bool × State :=
  let p := s.ptpPort i
  let known := p.heard.any (fun h => h.1 == a.ident && decide (s.clk.now ≤ h.2 + 4 * logInterval (s.effField .timPtpRate 4 4)))
  (known, s.setPtp i { p with heard := ((a.ident, s.clk.now) :: p.heard.filter (fun h => h.1 != a.ident)).take 5 })

/-- A port turns to another parent: what it measured against the old one is dropped, the delay of its link kept (R312). -/
def State.ptpParent (i : Nat) (s : State) : State :=
  let p := s.ptpPort i
  let s := s.setPtp i { p with
    syncIn := none, sync := none, syncWait := none, offset := none
    delay := if s.effField .timPtpCfg (2 + i) 1 = 1 then p.delay else none }
  if p.state = 9 then (s.setPtp i { s.ptpPort i with state := 8 }).raise 59 .notice 3 8 i [] else s

/-- An Announce on a port: the best foreign master is kept, its UTC offset and leap are taken (R311, R312, R314). -/
def State.ptpAnnounce (i seq : Nat) (a : Announce) (s : State) : State :=
  let p := s.ptpPort i
  let same : Bool := match p.best with
    | some b => a.ident == b.ident
    | none => false
  if same ∧ seqFollows p.annIn seq = false then s.count .ptpErr else
  let (known, s) := s.ptpHeard i a
  let take : Bool := same || known && match p.best with
    | some b => Announce.better a b
    | none => true
  let s := if take then s.setPtp i { s.ptpPort i with best := some a, annAt := s.clk.now, quiet := false, annIn := some seq } else s
  let s := (if take ∧ same = false then s.ptpParent i else s).ptpUpdate
  if take ∧ 8 ≤ (s.ptpPort i).state then
    let s := match a.utc with
      | some u => s.learnLeap 2 (u % 256).toNat
      | none => s
    s.announceLeap (a.leap % 3)
  else s

/-- offsetFromMaster with the port's asymmetry, once the path delay and a Sync are there; it makes an UNCALIBRATED port
SLAVE (R312, R314). -/
def State.ptpOffset (i : Nat) (s : State) : State :=
  let p := s.ptpPort i
  match p.sync, p.delay with
  | some (t1, t2), some d =>
    let asym : Int := (s.effReg (if i = 0 then .timAsymA else .timAsymB)).toInt
    let q := { p with offset := some (t2 - t1 - d - asym) }
    if p.state = 9 then s.setPtp i q
    else if p.state = 8 then (s.setPtp i { q with state := 9 }).raise 59 .notice 3 9 i []
    else s
  | _, _ => s

/-- A Sync of the parent: one-step it gives its origin time, two-step it waits for its Follow_Up (R312, R314). -/
def State.ptpSync (i seq : Nat) (t1 : Option Int) (t2 : Int) (s : State) : State :=
  let p := s.ptpPort i
  if seqFollows p.syncIn seq = false then s.count .ptpErr else
  match t1 with
  | some t => (s.setPtp i { p with syncIn := some seq, syncWait := none, sync := some (t, t2) }).ptpOffset i
  | none => s.setPtp i { p with syncIn := some seq, syncWait := some (seq, t2) }

/-- The Follow_Up of the Sync that waits (R314). -/
def State.ptpFollowUp (i seq : Nat) (t1 : Int) (s : State) : State :=
  let p := s.ptpPort i
  match p.syncWait with
  | some (q, t2) =>
    if q ≠ seq then s.count .ptpErr else (s.setPtp i { p with syncWait := none, sync := some (t1, t2) }).ptpOffset i
  | none => s.count .ptpErr

/-- A path delay, from the response to the request that waits for one (R314). -/
def State.ptpDelay (i seq : Nat) (d : Int) (s : State) : State :=
  let p := s.ptpPort i
  if p.reqSeq = some seq then s.setPtp i { p with delay := some d, reqSeq := none } else s.count .ptpErr

/-- stepsRemoved advertised: the parent's plus 1 while locked to PTP or to the link (R313). -/
def State.stepsOut (s : State) : Nat :=
  if s.tim.state ≠ 1 then 0
  else if s.tim.src = 2 ∨ s.tim.src = 3 then s.tim.gmSteps + 1
  else if s.tim.src = 5 then Config.linkSteps s.clk.now % 256 + 1 else 0

/-- Send a PTP message of a port (R312, R313). -/
def State.ptpSend (i kind seq : Nat) (time : Int) (s : State) : State :=
  s.emit (.ptp (if i = 0 then .a else .b)
    { kind := kind, trans := s.effField .timPtpCfg (4 + i) 1, domain := s.effField .timPtpCfg 9 7, seq := seq, time := time
      cls := s.clockClass, acc := clockAccuracy s.timUnc
      prio1 := s.effField .timPtpCfg 16 8, prio2 := s.effField .timPtpCfg 24 8, steps := s.stepsOut
      utc := if s.tim.leapKnown then some s.tim.leapCount else none })

/-- An interval has passed since an instant, or there was none. -/
def State.elapsed (s : State) (since : Option Nat) (d : Nat) : Bool := match since with
  | some a => decide (a + d ≤ s.clk.now)
  | none => true

/-- A message of the port's transport and domain (R312, R314). -/
def State.ptpTake (i : Nat) (hd : PtpHdr) (msg : PtpMsg) (s : State) : State :=
  let p := s.ptpPort i
  let p2p := s.effField .timPtpCfg (2 + i) 1 == 1
  match msg with
  | .bad => s.count .ptpErr
  | .ignored => s
  | .announce a => s.ptpAnnounce i hd.seq a
  | .sync t1 t2 => s.ptpSync i hd.seq t1 t2
  | .followUp t1 => s.ptpFollowUp i hd.seq t1
  | .delayResp t3 t4 =>
    match p.sync with
    | some (t1, t2) => if p2p then s.count .ptpErr else s.ptpDelay i hd.seq (((t2 - t3) + (t4 - t1)) / 2)
    | none => if p2p ∨ p.reqSeq ≠ some hd.seq then s.count .ptpErr else s.setPtp i { p with reqSeq := none }
  | .pdelayResp t1 t2 t3 t4 => if p2p then s.ptpDelay i hd.seq (((t4 - t1) - (t3 - t2)) / 2) else s.count .ptpErr
  | .delayReq t4 => if p.state = 6 ∧ p2p = false then s.ptpSend i 9 hd.seq t4 else s
  | .pdelayReq t2 => if p2p then (s.ptpSend i 3 hd.seq t2).ptpSend i 10 hd.seq s.devTime else s

/-- PTP_MESSAGE_RX (R312, R314): a message by the other transport does not reach the port, one of another domain is
discarded and counted. -/
def execPtpMessageRx (t : Nat) (port : Port) (rx : PtpRx) (s : State) : Host.Outcome State Fault Refusal :=
  .next <| (s.instant t).whileRunning fun s =>
    let i := if port = .a then 0 else 1
    if port = .m ∨ s.ptpOn i = false ∨ s.portLive port = false ∨ rx.hdr.trans ≠ s.effField .timPtpCfg (4 + i) 1 then s
    else if rx.hdr.domain ≠ s.effField .timPtpCfg 9 7 then s.count .ptpErr
    else s.ptpTake i rx.hdr rx.msg

/-- A master port sends Sync with its Follow_Up once its interval has passed. -/
def State.ptpSyncTx (i : Nat) (s : State) : State :=
  let p := s.ptpPort i
  if s.elapsed p.syncAt (logInterval (s.effField .timPtpRate 0 4)) then
    ((s.ptpSend i 0 p.seq s.devTime).ptpSend i 8 p.seq s.devTime).setPtp i
      { p with seq := (p.seq + 1) % 65536, syncAt := some s.clk.now }
  else s

/-- A master port sends Announce once its interval has passed. -/
def State.ptpAnnounceTx (i : Nat) (s : State) : State :=
  let p := s.ptpPort i
  if s.elapsed p.annSent (logInterval (s.effField .timPtpRate 4 4)) then
    (s.ptpSend i 11 p.annSeq s.devTime).setPtp i { p with annSeq := (p.annSeq + 1) % 65536, annSent := some s.clk.now }
  else s

/-- PTP_MASTER_TX: a master port sends Sync with its Follow_Up and Announce, each at its own rate (R312, R313). -/
def execPtpMasterTx (t : Nat) (port : Port) (s : State) : Host.Outcome State Fault Refusal :=
  .next <| (s.instant t).whileRunning fun s =>
    let i := if port = .a then 0 else 1
    if port = .m ∨ (s.ptpPort i).state ≠ 6 ∨ s.portLive port = false then s else (s.ptpSyncTx i).ptpAnnounceTx i

/-- PTP_ANNOUNCE_TIMEOUT: ANN_TIMEOUT announce intervals without an Announce of the best master (R312). -/
def execPtpAnnounceTimeout (t : Nat) (port : Port) (s : State) : Host.Outcome State Fault Refusal :=
  .next <| (s.instant t).whileRunning fun s =>
    let i := if port = .a then 0 else 1
    let p := s.ptpPort i
    if port = .m ∨ s.ptpOn i = false
      ∨ s.elapsed (some p.annAt) (s.effField .timPtpRate 12 4 * logInterval (s.effField .timPtpRate 4 4)) = false then s else
    (s.setPtp i { p with
      best := none, quiet := true, annIn := none, syncIn := none, syncWait := none, sync := none, offset := none }).ptpUpdate

/-- PTP_DELAY_REQUEST_TX: Delay_Req of a slave, or Pdelay_Req, at the rate of LOG_DELAY (R312). -/
def execPtpDelayRequestTx (t : Nat) (port : Port) (s : State) : Host.Outcome State Fault Refusal :=
  .next <| (s.instant t).whileRunning fun s =>
    let i := if port = .a then 0 else 1
    let p := s.ptpPort i
    let p2p := s.effField .timPtpCfg (2 + i) 1 == 1
    if port = .m ∨ s.ptpOn i = false ∨ s.portLive port = false ∨ (p2p = false ∧ p.state < 8)
      ∨ s.elapsed p.reqAt (logInterval (s.effField .timPtpRate 8 4)) = false then s else
    (s.ptpSend i (if p2p then 2 else 1) p.delaySeq s.devTime).setPtp i
      { p with delaySeq := (p.delaySeq + 1) % 65536, reqSeq := some p.delaySeq, reqAt := some s.clk.now }

/-! ## The time pulse and captures (R315 to R318) -/

/-- How far the pulse's leading edge lies behind the present instant, ns: 0 at the edge, DELAY ns before the whole second
but for what is still being slewed (R315, R316). -/
def State.ppsBehind (s : State) : Int := (s.devTime + s.effField .timPps 11 16 - s.ppsNow) % 1000000000

/-- The PPS ball goes to its active or its inactive level. -/
def State.drivePps (on : Bool) (s : State) : State := s.emit (.pin ballPps (if s.effField .timPps 1 1 = 0 then on else !on))

/-- The pulse ends: the ball is inactive (R315). -/
def State.endPulse (s : State) : State := (s.withTim { s.tim with ppsEnd := none }).drivePps false

/-- PPS_EDGE: the leading edge at its place, to 1 ns, while EN is set and STATE is not UNSET; the trailing edge WIDTH ms
after it (R315, R316). -/
def execPpsEdge (t : Nat) (s : State) : Host.Outcome State Fault Refusal :=
  .next <| (s.instant t).whileRunning fun s =>
    if s.effField .timPps 0 1 = 0 ∨ s.tim.state = 0 then s else
    match s.tim.ppsEnd with
    | some e => if e ≤ s.clk.now then s.endPulse else s
    | none =>
      if 1 < s.ppsBehind then s else
      let s := s.timAdvance
      (s.withTim { s.tim with ppsEnd := some (s.clk.now + 1000000 * s.effField .timPps 2 9) }).drivePps true

/-- STATUS.PPS_ALIGNED: within 1 ns of the whole second (R316). -/
def State.ppsAligned (s : State) : Bool :=
  s.effField .timPps 0 1 == 1 && s.tim.state != 0 && decide (s.ppsNow.natAbs ≤ 1)

/-- A capture input. -/
def State.capture (s : State) (n : Nat) : Capture := vget s.tim.caps n Capture.reset

/-- The filter of a capture input, ns (R320). -/
def capFilter (code : Nat) : Nat := match code with
  | 0 => 50
  | 1 => 200
  | 2 => 1000
  | _ => 10000

/-- CAPTURE_EDGE: an edge at the ball at `t`, after which the level stayed for a time: one shorter than FILT does not
pass the filter, whose delay is removed from the stamp of one that does (R317, R318). -/
def execCaptureEdge (t input : Nat) (edge : CapEdge) (s : State) : Host.Outcome State Fault Refusal :=
  .next <| (s.instant t).whileRunning fun s =>
    if input ≥ 4 then s else
    if edge.held < capFilter (s.effField .timCapCfg (4 * input + 2) 2) then s else
    let select := s.effField .timCapCfg (4 * input) 2
    if select ≠ 3 ∧ select ≠ (if edge.falling then 2 else 1) then s else
    let x := s.capture input
    let close : Bool := match x.lastEdge with
      | some l => decide (s.clk.now < l + 1000)
      | none => false
    let y := { x with lastEdge := some s.clk.now }
    if close ∨ 16 ≤ x.fifo.length then
      ((s.withTim { s.tim with caps := vset s.tim.caps input y }).count .capLost).raise 62 .notice 0 0 input []
    else
      let e : CapEntry := { time := s.devTime, falling := edge.falling, seq := x.nextSeq }
      let s := s.withTim { s.tim with
        caps := vset s.tim.caps input { y with fifo := x.fifo ++ [e], newest := some e, nextSeq := (x.nextSeq + 1) % 256 } }
      s.raise 61 .notice 0 0 input (word (b2n edge.falling) :: word e.seq :: words64 (e.time / 1000000000))

/-- The FIFOs of the capture inputs are read out. DESIGN CHOICE: once a course (assumption 12). -/
def State.drainCaptures (s : State) : State :=
  s.withTim { s.tim with caps := s.tim.caps.map (fun (c : Capture) => { c with fifo := [] }) }

/-- The configuration of the time engine is taken at a second of device time: slewing up to it is accounted under the
old one; the pulse, EXT_10M and the PTP ports follow; the ball takes the level of a new POL (R303, R315, R316, R319,
R320). -/
def State.takeSecond (s : State) : State :=
  let s := s.timAdvance
  let was := s.follows10m
  let pol := s.effField .timPps 1 1
  let s := (s.takeCfg .sec).follow10m was
  let s := if s.effField .timPps 1 1 = pol then s else s.drivePps s.tim.ppsEnd.isSome
  let s := if s.tim.ppsEnd.isSome ∧ (s.effField .timPps 0 1 = 0 ∨ s.tim.state = 0) then s.endPulse else s
  s.ptpUpdate.checkExceeded

/-- TIM_CAP_SEL_WRITE: the newest entry of the input is latched in one step (R318). -/
def execTimCapSelWrite (w : Word) (s : State) : Host.Outcome State Fault Refusal :=
  .next <| s.barWrite 0x606C fun s =>
    let n := (w.extractLsb' 0 2).toNat
    s.withTim { s.tim with capSel := n, latCap := (s.capture n).newest }

/-- TIM_LATCH_WRITE: device time and the anchor are latched in one step (R320). -/
def execTimLatchWrite (t : Nat) (w : Word) (s : State) : Host.Outcome State Fault Refusal :=
  .next <|
    let s := s.instant t
    s.barWrite 0x604C fun s =>
    if w.getLsbD 0 = false then s else
    s.withTim { s.tim with latNow := s.devTime, latAnchor := s.tim.anchor }

end Sys2Proof.Machine
end

