-- ==== Sys2Proof/Machine/TrimHold.lean ====
section
/-! DEFINITION. Trim and heel holding (spec/11_trim_and_heel.md). -/

namespace Sys2Proof.Machine
open Sys2Proof

/-! ## The BALLAST section (R284) -/

/-- The BALLAST section of the image in effect. -/
def State.ballast (s : State) : List Byte := s.sect 0x0B

/-- Tank, pump, valve and route records of a section, by kind 0 to 3. -/
def balRec (b : List Byte) (kind i : Nat) : List Byte :=
  let t := u8 b 0
  let p := u8 b 1
  let v := u8 b 2
  if kind = 0 then slice b (64 + 24 * i) 24
  else if kind = 1 then slice b (64 + 24 * t + 16 * i) 16
  else if kind = 2 then slice b (64 + 24 * t + 16 * p + 16 * i) 16
  else slice b (64 + 24 * t + 16 * p + 16 * v + 16 * i) 16

/-- PUMP of a route. -/
def rtePump (b : List Byte) (r : Nat) : Nat := u8 (balRec b 3 r) 1
/-- FROM. -/
def rteFrom (b : List Byte) (r : Nat) : Nat := u8 (balRec b 3 r) 2
/-- TO. -/
def rteTo (b : List Byte) (r : Nat) : Nat := u8 (balRec b 3 r) 3
/-- The valves of a route. -/
def rteValves (b : List Byte) (r : Nat) : List Nat := (List.range (u8 b 2)).filter (fun v => tbit (ule (balRec b 3 r) 8 8) v)
/-- Routes of a section. -/
def balRoutes (b : List Byte) : List Nat := List.range (u8 b 3)
/-- Pumps named by routes, ascending (R285). -/
def namedPumps (b : List Byte) : List Nat := (List.range 16).filter (fun p => (balRoutes b).any (fun r => rtePump b r == p))
/-- Tanks named by routes, ascending. -/
def namedTanks (b : List Byte) : List Nat :=
  (List.range 32).filter (fun i => (balRoutes b).any (fun r => rteFrom b r == i || rteTo b r == i))

/-- Rate of a pump, m³/s. -/
def pumpRate (b : List Byte) (p : Nat) : F64 := fq (u32 (balRec b 1 p) 4) 36000

/-- t_P, s (R286). -/
def State.trimPeriod (s : State) : F64 := fq (u8 s.ballast 6 * s.frameCourses) 1000

/-- t_H, s. -/
def State.trimHorizon (s : State) : F64 := ofN (u16 s.ballast 0x18)

/-- 0.01° in rad. -/
def centiDeg (x : Int) : F64 := fmul (fq x 18000) fpi
/-- The reverse, rounded. -/
def toCentiDeg (x : F64) : Int := toI (fdiv (fmul x (ofI 18000)) fpi)

/-! ## Points -/

/-- What holding keeps of a pump. -/
def State.pumpSt (s : State) (p : Nat) : PumpSt := vget s.trim.pumps p PumpSt.reset
/-- What it keeps of a valve. -/
def State.valveSt (s : State) (v : Nat) : PumpSt := vget s.trim.valves v PumpSt.reset
/-- Replace a pump. -/
def State.putPump (p : Nat) (x : PumpSt) (s : State) : State := s.withTrim { s.trim with pumps := vset s.trim.pumps p x }
/-- Replace a valve. -/
def State.putValve (v : Nat) (x : PumpSt) (s : State) : State := s.withTrim { s.trim with valves := vset s.trim.valves v x }

/-- A pump reports running. -/
def State.pumpRuns (s : State) (p : Nat) : Bool :=
  let q := s.viewPoint (u32 (balRec s.ballast 1 p) 12)
  q.good && q.value != 0
/-- A pump's report point says stopped; a point without good quality reports nothing. DEDUCED (assumption 22). -/
def State.stoppedAt (s : State) (n : Nat) : Bool :=
  let q := s.viewPoint n
  q.good && q.value == 0
/-- A pump reports stopped. -/
def State.pumpStopped (s : State) (p : Nat) : Bool := s.stoppedAt (u32 (balRec s.ballast 1 p) 12)
/-- A valve reports open. -/
def State.valveOpen (s : State) (v : Nat) : Bool :=
  let q := s.viewPoint (u32 (balRec s.ballast 2 v) 12)
  q.good && q.value == 1
/-- A valve reports other than open. -/
def State.valveShut (s : State) (v : Nat) : Bool :=
  let q := s.viewPoint (u32 (balRec s.ballast 2 v) 12)
  q.good && q.value != 1

/-- A pump is commanded; a command that changes starts its time. -/
def State.cmdPump (p : Nat) (on : Bool) (s : State) : State :=
  let x := s.pumpSt p
  if x.cmd = on then s else s.putPump p { x with cmd := on, since := s.clk.now, seen := false }
/-- A valve is commanded. -/
def State.cmdValve (v : Nat) (on : Bool) (s : State) : State :=
  let x := s.valveSt v
  if x.cmd = on then s else s.putValve v { x with cmd := on, since := s.clk.now, seen := false }

/-- A point's value as a signed number. -/
def ptInt (p : Pt) : Int := if p.typ = 2 then p.value.toInt else p.value.toNat

/-- DISPL_POINT is unusable: the displacement falls back (R286). -/
def State.displFallback (s : State) : Bool := match s.optPoint (u32 s.ballast 0x0C) with
  | some p => !p.good
  | none => true
/-- Displacement in use, t. -/
def State.displ (s : State) : Int :=
  if s.displFallback then u32 s.ballast 8 else ptInt (s.viewPoint (u32 s.ballast 0x0C))

/-- A tank is unknown (R287). -/
def State.tankUnknown (s : State) (i : Nat) : Bool :=
  let p := s.viewPoint (u32 (balRec s.ballast 0 i) 0x14)
  !p.good || s.pointStale p (u16 s.ballast 0x26)

/-- The contents of known tanks are taken (R287). -/
def State.takeLevels (s : State) : State :=
  s.withTrim { s.trim with contents := (List.range (u8 s.ballast 0)).foldl (fun l i =>
    if s.tankUnknown i then l else aput i (ptInt (s.viewPoint (u32 (balRec s.ballast 0 i) 0x14))) l) s.trim.contents }

/-- Content of a tank, m³; 0 while it was never good. DESIGN CHOICE (assumption 22). -/
def State.content (s : State) (i : Nat) : F64 := fq (aget i 0 s.trim.contents) 100

/-- Density of a tank's contents, t/m³. -/
def tankDensity (b : List Byte) (i : Nat) : F64 := fq (u16 (balRec b 0 i) 2) 1000
/-- A tank's position, m: 0 x, 1 y. -/
def tankPos (b : List Byte) (i ax : Nat) : F64 := milliF (i32 (balRec b 0 i) (4 + 4 * ax))

/-- Δ·GM of heel (0) and trim (1). -/
def State.righting (s : State) (ax : Nat) : F64 := fmul (ofI s.displ) (milliF (u32 s.ballast (0x10 + 4 * ax)))

/-- φ_model and θ_model (R286). -/
def State.trimModel (s : State) : F64 × F64 :=
  let b := s.ballast
  let m (ax : Nat) : F64 := ((List.range (u8 b 0)).map (fun i =>
    fmul (fmul (tankDensity b i) (s.content i)) (tankPos b i ax))).foldl fadd f0
  (fdiv (m 1) (s.righting 0), fneg (fdiv (m 0) (s.righting 1)))

/-- φ_meas and θ_meas: ROLL and PITCH of the estimate record. -/
def State.trimMeas (s : State) : F64 × F64 :=
  let r := padTo 64 s.est.record
  (centiDeg (i16 r 0x38), centiDeg (i16 r 0x3A))

/-- The correction filter and the means of the run (R286). -/
def State.trimMeans (s : State) : State :=
  let mdl := s.trimModel
  let mea := s.trimMeas
  let tp := s.trimPeriod
  let al := fdiv tp (fadd (ofN (u16 s.ballast 0x1A)) tp)
  let upd (c m d : F64) : F64 := if s.trim.restart then fsub d m else fadd c (fmul al (fsub (fsub d m) c))
  let c1 := upd (fel s.trim.corr 0) mdl.1 mea.1
  let c2 := upd (fel s.trim.corr 1) mdl.2 mea.2
  s.withTrim { s.trim with corr := [c1, c2], now := [fadd mdl.1 c1, fadd mdl.2 c2], restart := false }

/-! ## Interlocks and states (R288, R294) -/

/-- An interlock with this action is active. -/
def State.interlock (s : State) (act : Nat) : Bool :=
  (List.range 4).any (fun n =>
    bits (u8 s.ballast 7) (2 * n) 2 == act && (match s.optPoint (u32 s.ballast (0x28 + 4 * n)) with
      | some p => !p.good || p.value != 0
      | none => false))

/-- W_HEEL (0) or W_TRIM (1) in use (R289). -/
def State.trimWeight (s : State) (ax : Nat) : F64 :=
  if s.interlock (if ax = 0 then 2 else 1) then f0 else fq (u16 s.ballast (0x20 + 2 * ax)) 1000

/-- Dead band, rad. -/
def State.deadBand (s : State) (ax : Nat) : F64 := centiDeg (u16 s.ballast (0x1C + 2 * ax))

/-- Target of the run, rad. -/
def State.trimTarget (s : State) (ax : Nat) : F64 := (s.trim.tgt.getD ax none).getD (fel s.trim.now ax)

/-- Size of an error. -/
def State.trimErr (s : State) (ax : Nat) : F64 := fabs (fsub (s.trimTarget ax) (fel s.trim.now ax))

/-- The state of the run (R288). One transition a run. DEDUCED (assumption 22). -/
def State.trimNext (s : State) : Nat :=
  let st := s.trim.state
  let used (ax : Nat) : Bool := flt f0 (s.trimWeight ax)
  if s.interlock 0 ∨ (s.interlock 1 ∧ s.interlock 2) then 3
  else if st = 1 then
    if [0, 1].any (fun ax => used ax && flt (s.deadBand ax) (s.trimErr ax)) then 2 else 1
  else if st = 2 then
    if [0, 1].all (fun ax => !used ax || flt (s.trimErr ax) (fscale (s.deadBand ax) (-1))) then 1 else 2
  else 1

/-! ## Faults (R293) -/

/-- A pump is faulted. -/
def State.pumpFaulty (s : State) (p : Nat) : Bool :=
  let x := s.pumpSt p
  x.cmd && ((!x.seen && decide (x.since + 10000000000 ≤ s.clk.now) && !s.pumpRuns p) || (x.seen && s.pumpStopped p))

/-- A running route needs a valve. -/
def State.valveInUse (s : State) (v : Nat) : Bool := s.trim.running.any (fun r => (rteValves s.ballast r).contains v)

/-- A valve is faulted. -/
def State.valveFaulty (s : State) (v : Nat) : Bool :=
  let x := s.valveSt v
  let late := x.since + (u16 (balRec s.ballast 2 v) 2 + 2) * 1000000000
  x.cmd && ((!x.seen && decide (late ≤ s.clk.now) && !s.valveOpen v) || (s.valveInUse v && s.valveShut v))

/-- A pump's report is taken; a fault commands it to stop until the next TRIM_START. -/
def State.judgePump (p : Nat) (s : State) : State :=
  let x := s.pumpSt p
  if s.pumpFaulty p then s.putPump p { x with fault := true, cmd := false, since := s.clk.now, seen := false }
  else if x.cmd ∧ s.pumpRuns p then s.putPump p { x with seen := true } else s

/-- A valve's report is taken; a fault commands it closed. -/
def State.judgeValve (v : Nat) (s : State) : State :=
  let x := s.valveSt v
  if s.valveFaulty v then s.putValve v { x with fault := true, cmd := false, since := s.clk.now, seen := false }
  else if x.cmd ∧ s.valveOpen v then s.putValve v { x with seen := true } else s

/-- BALLAST_VALVE_FAULT (R293). -/
def execBallastValveFault (t valve : Nat) (s : State) : Host.Outcome State Fault Refusal :=
  .next <| (s.instant t).whileRunning fun s => if valve < u8 s.ballast 2 then s.judgeValve valve else s

/-- BALLAST_PUMP_FAULT (R293). -/
def execBallastPumpFault (t pump : Nat) (s : State) : Host.Outcome State Fault Refusal :=
  .next <| (s.instant t).whileRunning fun s => if pump < u8 s.ballast 1 then s.judgePump pump else s

/-! ## The problem (R289 to R291) -/

/-- a_r (0) and b_r (1). -/
def State.leverOf (s : State) (ax r : Nat) : F64 :=
  let b := s.ballast
  let p := 1 - ax
  let x := fdiv (fmul (tankDensity b (rteFrom b r)) (fsub (tankPos b (rteTo b r) p) (tankPos b (rteFrom b r) p))) (s.righting ax)
  if ax = 0 then x else fneg x

/-- Route `r` is excluded: U_r = 0. -/
def State.excluded (s : State) (r : Nat) : Bool :=
  let b := s.ballast
  (s.pumpSt (rtePump b r)).fault || (rteValves b r).any (fun v => (s.valveSt v).fault)
    || s.tankUnknown (rteFrom b r) || s.tankUnknown (rteTo b r)

/-- The route of a variable. -/
def trimRoute (t : List Byte) (j : Nat) : Nat := ((tmTags t).getD j 0).toNat % 256

/-- Constraint `i`: row by routes, right side. The `n`th row of an index is the `n`th route, named pump or named tank
(R290). -/
def State.trimRow (s : State) (t : List Byte) (i : Nat) : (Nat → F64) × F64 :=
  let b := s.ballast
  let ix := tmKind t i % 16
  let n := ((List.range i).filter (fun k => tmKind t k == tmKind t i)).length
  let cap (r : Nat) : F64 := fmul (pumpRate b (rtePump b r)) s.trimHorizon
  let net (k : Nat) (r : Nat) : F64 := if rteTo b r = k then f1 else if rteFrom b r = k then fneg f1 else f0
  let rec' (o k : Nat) : F64 := fq (u32 (balRec b 0 k) o) 100
  if ix = 0 then (fun r => if r = n then fneg f1 else f0, f0)
  else if ix = 1 then (fun r => if r = n then f1 else f0, if s.excluded n then f0 else cap n)
  else if ix = 2 then
    let p := (namedPumps b).getD n 255
    (fun r => if rtePump b r = p then f1 else f0, fmul (pumpRate b p) s.trimHorizon)
  else
    let k := (namedTanks b).getD n 255
    if ix = 3 then (net k, fmax f0 (fsub (rec' 0x10 k) (s.content k)))
    else (fun r => fneg (net k r), fmax f0 (fsub (s.content k) (rec' 0x0C k)))

/-- The data block of the trim problem, or none when a scaled number does not fit. -/
def State.trimData (s : State) (t : List Byte) : Option (List Int) :=
  let n := tmNvar t
  let m := tmNcon t
  let e := tmBexp t
  let q (x : F64) : Option Int :=
    let y := toI (fscale x (30 - e))
    if -2147483648 ≤ y ∧ y ≤ 2147483647 then some y else none
  let v (j : Nat) : Int := tmVscale t j
  let k (ax : Nat) : F64 := let d := s.deadBand ax; fdiv (fmul (ofI 2) (s.trimWeight ax)) (fmul d d)
  let c (ax j : Nat) : F64 := s.leverOf ax (trimRoute t j)
  let vol (j : Nat) : F64 :=
    let u := fmul (pumpRate s.ballast (rtePump s.ballast (trimRoute t j))) s.trimHorizon
    fdiv (fmul (ofI 2) (fq (u16 s.ballast 0x24) 1000)) (fmul u u)
  let err (ax : Nat) : F64 := fsub (s.trimTarget ax) (fel s.trim.now ax)
  let hij (i j : Nat) : F64 :=
    let x := fadd (fmul (k 0) (fmul (c 0 i) (c 0 j))) (fmul (k 1) (fmul (c 1 i) (c 1 j)))
    if i = j then fadd x (vol j) else x
  let h := (List.range n).map (fun j => (List.range (j + 1)).map (fun i => q (fscale (hij i j) (v i + v j))))
  let g := (List.range n).map (fun j =>
    q (fscale (fneg (fadd (fmul (k 0) (fmul (c 0 j) (err 0))) (fmul (k 1) (fmul (c 1 j) (err 1))))) (v j)))
  let a := (List.range m).map (fun i =>
    let row := (s.trimRow t i).1
    (List.range n).map (fun j => q (fscale (row (trimRoute t j)) (v j - tmRscale t i))))
  let bb := (List.range m).map (fun i => q (fscale (s.trimRow t i).2 (-(tmRscale t i))))
  let x := (List.range n).map (fun _ => some (0 : Int))
  (h.flatten ++ g ++ a.flatten ++ bb ++ x).mapM id

/-- PROBLEM_ID of the trim problem, apart from those of cases and runs. DESIGN CHOICE (assumption 80). -/
def trimId : Nat := 0xFFFF

/-- STATUS and ITER of the latest problem (R298). -/
def State.noteTrim (s : State) : State := match s.statusOf 2 trimId with
  | some x => s.withTrim { s.trim with status := x.1, iter := x.2 }
  | none => s

/-- The problem of a run enters the array; one whose numbers do not fit ends OVERFLOW at once (R291). -/
def State.trimSubmit (s : State) : State :=
  let no := u16 s.ballast 4
  match imgTemplate s.image no with
  | none => s
  | some t =>
    let pb := s.problemFrom no t 2 false true (some 65) (some 65) trimId (s.courseOf (envCourse s.frameCourses + 2)) 39 []
    match s.trimData t with
    | none => (s.writeHeader pb 0 3 0x80 0).problemEnds pb 3
    | some data => s.submitOwn { pb with data := data }

/-- The volume of each route by the frame's result, or none when the problem did not end SOLVED or BUDGET (R291). -/
def State.trimVolumes (s : State) : Option (Nat → F64) :=
  match imgTemplate s.image (u16 s.ballast 4), s.resultOf 2 trimId s.crs.frame with
  | some t, some r =>
    let vol (rt : Nat) : F64 := match (List.range (tmNvar t)).find? (fun j => trimRoute t j == rt) with
      | some j => solutionAt t (r.data.take (tmNvar t)) j
      | none => f0
    if r.status % 16 ≤ 1 then some vol else none
  | _, _ => none

/-! ## Pumps and valves (R292, R295, R296) -/

/-- The route that each pump is to run: the largest volume, the lower route on a tie, when it fills half a period. -/
def State.chosenRoutes (s : State) (vol : Nat → F64) : List Nat :=
  let b := s.ballast
  (namedPumps b).filterMap (fun p =>
    let best := ((balRoutes b).filter (fun r => rtePump b r == p)).foldl (fun (x : Option Nat) r => match x with
      | some y => if flt (vol y) (vol r) then some r else x
      | none => some r) none
    match best with
    | some r => if fle (fscale (fmul (pumpRate b p) s.trimPeriod) (-1)) (vol r) then some r else none
    | none => none)

/-- Running routes that are no longer to run: their pumps stop. -/
def State.stopRoutes (want : List Nat) (s : State) : State :=
  let b := s.ballast
  let gone := s.trim.running.filter (fun r => !want.contains r)
  let s := gone.foldl (fun s r => s.cmdPump (rtePump b r) false) s
  s.withTrim { s.trim with running := s.trim.running.filter want.contains }

/-- Routes to be started: valves commanded open; a pump runs once they all report open and no other route of it has just
stopped. -/
def State.startRoutes (want : List Nat) (stopped : List Nat) (s : State) : State :=
  let b := s.ballast
  let new := want.filter (fun r => !s.trim.running.contains r)
  let s := s.withTrim { s.trim with starting := new }
  let s := (new.map (rteValves b)).flatten.foldl (fun s v => s.cmdValve v true) s
  new.foldl (fun s r =>
    if (rteValves b r).all s.valveOpen ∧ stopped.contains (rtePump b r) = false then
      let s := s.cmdPump (rtePump b r) true
      s.withTrim { s.trim with running := s.trim.running ++ [r], starting := s.trim.starting.filter (· != r)
                               served := if s.trim.served.contains r then s.trim.served else s.trim.served ++ [r] }
    else s) s

/-- Valves that no running or starting route needs close once the pumps of the routes they served report stopped (R292);
after a change of BALLAST they are held until the host restarts and the pumps that ran under the old section report
stopped (R73). -/
def State.closeValves (s : State) : State :=
  let b := s.ballast
  let served := s.trim.served.filter (fun r => s.trim.running.contains r || !s.pumpStopped (rtePump b r))
  let old := s.trim.oldPumps.filter (fun n => !s.stoppedAt n)
  let s := s.withTrim { s.trim with served := served, oldPumps := old }
  if s.trim.held ∨ old.isEmpty = false then s else
  let need := ((s.trim.running ++ s.trim.starting ++ served).map (rteValves b)).flatten
  (List.range (u8 b 2)).foldl (fun s v => if need.contains v then s else s.cmdValve v false) s

/-- The command points are written, by a part that holds a claim (R295, R296). -/
def State.writeTrim (s : State) : State :=
  if s.rdn.role ≠ 2 then s else
  let b := s.ballast
  let one (kind i : Nat) (on : Bool) : PtUpd := { num := u32 (balRec b kind i) 8, value := some (word (b2n on)), typ := 1, qual := 0 }
  s.writePoints 0xFFFF s.devTime s.crs.frame
    ((List.range (u8 b 1)).map (fun p => one 1 p (s.pumpSt p).cmd) ++ (List.range (u8 b 2)).map (fun v => one 2 v (s.valveSt v).cmd))

/-- Every pump is commanded to stop and the valves are held as they stand (R291). -/
def State.stopPumps (s : State) : State :=
  let s := (List.range 16).foldl (fun s p => s.cmdPump p false) s
  s.withTrim { s.trim with running := [], starting := [] }

/-! ## Commands (R297) -/

/-- A target in range, 0.01°. -/
def targetGood (w : Half) (lim : Int) : Bool := w == 0x8000#16 || decide (-lim ≤ w.toInt ∧ w.toInt ≤ lim)

/-- A trim command reaches its frame tick: refused, or it waits for the next run. -/
def State.takeTrim (w : Waiting) (s : State) : State :=
  let go (heel trim : Half) : State :=
    if s.ballast.isEmpty then s.refuse w 1
    else if targetGood heel 500 && targetGood trim 200 then s.withTrim { s.trim with waiting := s.trim.waiting ++ [w] }
    else s.refuse w 2
  match w.cmd with
  | .trimStart heel trim => go heel trim
  | .trimSet heel trim => go heel trim
  | _ => if s.ballast.isEmpty then s.done w 0 else s.withTrim { s.trim with waiting := s.trim.waiting ++ [w] }

/-- A target as a command gives it; 0x8000 takes the mean of the run. -/
def targetOf (w : Half) : Option F64 := if w = 0x8000#16 then none else some (centiDeg w.toInt)

/-- A waiting command takes effect at a run. -/
def State.applyTrim (w : Waiting) (s : State) : State :=
  match w.cmd with
  | .trimStart heel trim =>
    let s := s.withTrim { s.trim with
      tgt := [targetOf heel, targetOf trim], restart := true, held := false
      state := if s.trim.state = 0 then 4 else s.trim.state
      pumps := s.trim.pumps.map (fun (x : PumpSt) => { x with fault := false })
      valves := s.trim.valves.map (fun (x : PumpSt) => { x with fault := false }) }
    s.done w 0
  | .trimSet heel trim => (s.withTrim { s.trim with tgt := [targetOf heel, targetOf trim] }).done w 0
  | _ => (s.withTrim { s.trim with state := 0 }).done w 0

/-! ## TRIM -/

/-- The trim record (R298), fresh. -/
def State.trimRecord (s : State) (vol : Nat → F64) : List Byte :=
  let b := s.ballast
  let rs := balRoutes b
  let mask (p : Nat → Bool) (l : List Nat) : Nat := l.foldl (fun m i => if p i then m + 2 ^ i else m) 0
  let cd (x : F64) : List Byte := ibytes 2 (max (-32768) (min 32767 (toCentiDeg x)))
  let pred (ax : Nat) : F64 := (rs.map (fun r => fmul (s.leverOf ax r) (vol r))).foldl fadd (fel s.trim.now ax)
  let flags := 2 * b2n (s.interlock 0) + 4 * b2n (s.interlock 1) + 8 * b2n (s.interlock 2) + 16 * b2n s.displFallback
    + 32 * b2n ((List.range (u8 b 0)).any s.tankUnknown)
  padTo 64 (wbytes s.crs.frame ++ wbytes s.crs.frame ++ [byte s.trim.state, byte flags, byte s.trim.status, byte s.trim.iter]
    ++ cd (fel s.trim.now 0) ++ cd (fel s.trim.now 1) ++ cd (s.trimTarget 0) ++ cd (s.trimTarget 1) ++ cd (pred 0) ++ cd (pred 1)
    ++ lebytes 2 (mask s.trim.running.contains rs) ++ lebytes 2 (mask s.excluded rs)
    ++ lebytes 2 (mask (fun p => (s.pumpSt p).fault) (List.range (u8 b 1))) ++ [0, 0]
    ++ lebytes 8 (mask (fun v => (s.valveSt v).fault) (List.range (u8 b 2))) ++ ibytes 4 s.displ)

/-- The pumps and valves of a run that wants these routes. -/
def State.trimMove (want : List Nat) (s : State) : State :=
  let before := s.trim.running
  let s := s.stopRoutes want
  let stopped := (before.filter (fun r => !want.contains r)).map (rtePump s.ballast)
  (s.startRoutes want stopped).closeValves

/-- A trim record is held (R47, R298). -/
def State.trimHeld (s : State) : State :=
  let r := padTo 64 s.trim.record
  s.withTrim { s.trim with record := wbytes s.crs.frame ++ slice r 4 5 ++ [byte (u8 r 9 ||| 1)] ++ r.drop 10 }

/-- The run up to its state: commands, levels, means, targets, faults, state. -/
def State.trimPrepare (s : State) : State :=
  let ws := s.trim.waiting
  let s := ws.foldl (fun s w => s.applyTrim w) (s.withTrim { s.trim with waiting := [] })
  let s := s.takeLevels.trimMeans
  let s := s.withTrim { s.trim with tgt := [some (s.trimTarget 0), some (s.trimTarget 1)] }
  let s := (List.range (u8 s.ballast 1)).foldl (fun s p => s.judgePump p) s
  let s := (List.range (u8 s.ballast 2)).foldl (fun s v => s.judgeValve v) s
  if s.trim.state = 0 then s else s.withTrim { s.trim with state := s.trimNext }

/-- The trim record in the system area, at each run of TRIM (spec/15 R372). -/
def State.postTrim (s : State) : State :=
  let r := padTo 64 s.trim.record
  s.writeOwn 64 (wordsOf r) (word (u32 r 0)) (if tbit (u8 r 9) 0 then 1 else 0)

/-- A miss of TRIM, or of its problem (R291): it counts as a miss of the item. -/
def State.trimMissed (s : State) : State := (s.missItem 0x13).stopPumps.writeTrim.trimHeld.postTrim

/-- A run of TRIM is due in the frame (R42, R291). -/
def State.trimDue (s : State) : Bool := match s.tablePeriod 0x13 with
  | some p => !s.ballast.isEmpty && decide (s.crs.tableFrames % p = 0)
  | none => false

/-- The first part of a run: its state is found and, while holding, its problem enters the array. -/
def State.trimPose (s : State) : State :=
  if s.trim.posed = some s.crs.frame then s else
  let s := s.trimPrepare
  let s := s.withTrim { s.trim with posed := some s.crs.frame }
  if s.trim.state ≠ 2 then s else s.trimSubmit

/-- The second part of a run: the command points by the result of the problem, with the record. -/
def State.trimMoves (vol : Nat → F64) (want : List Nat) (s : State) : State :=
  let s := (s.trimMove want).writeTrim
  (s.withTrim { s.trim with record := s.trimRecord vol }).postTrim.itemDone 0x13

/-- TRIM waits for its problem where `fin` says how it ends: the array works on until then. DESIGN CHOICE (assumption 81). -/
def State.trimAwait (fin : Option OwnEnd) (s : State) : State :=
  match fin, (s.vsl.queue ++ (List.range 64).filterMap (fun l => (s.lane l).job)).find? (fun p =>
      p.owner == 2 && p.ident == BitVec.ofNat 16 trimId && p.frame == s.crs.frame) with
  | some e, some p => (s.arrayUntil [(p, e)] 512).finishOwn e p
  | _, _ => s

/-- TRIM (R286 to R298): it poses its problem, which the array solves by the end of slot 39, and slots 40 to 49 write the
command points (R291). Before slot 40 `fin` says how the problem ends that TRIM has waited for; with none the rows of the
array end it. -/
def execTrim (t : Nat) (fin : Option OwnEnd) (s : State) : Host.Outcome State Fault Refusal :=
  .next <| (s.instant t).whileRunning fun s =>
    if s.itemRuns 0x13 = false ∨ s.trimDue = false then s else
    let s := s.trimPose
    if s.framePlace < s.itemStart 0x13 + 800000 then s.trimAwait fin
    else if s.trim.state ≠ 2 then s.trimMoves (fun _ => f0) []
    else
      let s := s.noteTrim
      match s.trimVolumes with
      | none => s.trimMissed
      | some vol => s.trimMoves vol (s.chosenRoutes vol)

/-- TRIM_QUERY (R298). -/
def State.serveTrimQuery (w : Waiting) (s : State) : State := s.answer w (padTo 64 s.trim.record)

/-- An activation that changes BALLAST: holding stops with pumps stopped and valves held (R73, R288). A waiting command
of a part without the section is answered. -/
def State.activateTrim (old : List Byte) (s : State) : State :=
  if imgSection old 0x0B = s.ballast then s else
  let ob := imgSection old 0x0B
  let s := s.stopPumps
  let s := if s.rdn.role = 2 then
      s.writePoints 0xFFFF s.devTime s.crs.frame
        ((List.range (u8 ob 1)).map (fun p => { num := u32 (balRec ob 1 p) 8, value := some 0, typ := 1, qual := 0 }))
    else s
  let ws := s.trim.waiting
  let s := s.withTrim { s.trim with
    state := 0, contents := [], served := [], waiting := [], held := true
    oldPumps := s.trim.oldPumps ++ s.trim.served.map (fun r => u32 (balRec ob 1 (rtePump ob r)) 12) }
  ws.foldl (fun s w => s.takeTrim w) s

end Sys2Proof.Machine
end

