-- ==== Sys2Proof/Machine/Gnss.lean ====
section
/-! DEFINITION. The GNSS receiver behind its tracking channels: supplies, assignment, continuity, notches, checks, heading
state, corrections, measurement records, snapshot (spec/05_gnss_baseband.md). What the correlators, the navigation decoder
and the two solution searches deliver comes with GNSS_NAV. -/

namespace Sys2Proof.Machine
open Sys2Proof

/-! ## Parts of the receiver -/

/-- An antenna. -/
def State.gant (s : State) (a : Nat) : GnsAnt := vget s.gns.ants a GnsAnt.reset
/-- Replace it. -/
def State.putAnt (a : Nat) (x : GnsAnt) (s : State) : State := s.withGns { s.gns with ants := vset s.gns.ants a x }
/-- Channel `c` of an antenna. -/
def State.chan (s : State) (a c : Nat) : GnsChan := vget s.gns.chans (64 * a + c) GnsChan.reset
/-- Replace it. -/
def State.putChan (a c : Nat) (x : GnsChan) (s : State) : State :=
  s.withGns { s.gns with chans := vset s.gns.chans (64 * a + c) x }

/-- The upper band holds a signal. -/
def sigUpper (g : Nat) : Bool := g / 16 % 2 == 1
/-- System of a signal: 0 GPS, 1 Galileo, 2 BeiDou, 3 SBAS (R107). -/
def sigSys (g : Nat) : Nat :=
  if g = 0x03 ∨ g = 0x12 then 1 else if g = 0x04 ∨ g = 0x13 then 2 else if g = 0x21 ∨ g = 0x31 then 3 else 0
/-- Carrier frequency of a band, Hz. -/
def bandHz (upper : Bool) : Nat := if upper then 1176450000 else 1575420000
/-- The stream of an antenna's band. -/
def streamOf (a : Nat) (upper : Bool) : Nat := 2 * a + b2n upper

/-- Cable delay of a band, 0.1 ns (R117). -/
def State.cable (s : State) (a : Nat) (upper : Bool) : Nat :=
  s.effField (if a = 0 then .gnsCable0 else .gnsCable1) (if upper then 16 else 0) 16

/-- A check is enabled. -/
def State.checkOn (s : State) (n : Nat) : Bool := tbit (s.effField .gnsCheck 0 8) n

/-! ## Epochs (R114) -/

/-- Frames between epochs. -/
def State.epochFrames (s : State) : Nat := (if s.frameCourses < 20 then 2 else 1) * max 1 (s.effField .gnsCfg 20 4)

/-- The present frame has an epoch. -/
def State.epochDue (s : State) : Bool := decide (s.crs.tableFrames % s.epochFrames = 0)

/-! ## Antenna supply (R105) -/

/-- What the supply is found to be at a current of `ma` mA: open below 4 mA, short at the limit of 120 mA (R105). -/
def supplyState (ma : Nat) : Nat := if 120 ≤ ma then 3 else if ma < 4 then 2 else 1

/-- An antenna is supplied: GNS_ANT switches it on and no short has removed it (R105). -/
def State.supplied (a : Nat) (s : State) : Bool := s.effField .gnsAnt (2 * a) 1 == 1 && (s.gant a).retryAt.isNone

/-- A supply is found in a state; a short removes it for 1 s. Event source 48 at open, short, and return to normal. -/
def State.findSupply (ant state : Nat) (s : State) : State :=
  let x := s.gant ant
  let s1 := s.putAnt ant { x with supply := state, retryAt := if state = 3 then some (s.clk.now + 1000000000) else none }
  if x.supply = state then s1
  else if state ≠ 1 then s1.raise 48 .notice 0 state ant []
  else if x.supply = 0 then s1 else s1.raise 48 .notice 1 1 ant []

/-- ANTENNA_SUPPLY_FAULT: the current that a supplied antenna draws, mA (R105). -/
def execAntennaSupplyFault (t ant ma : Nat) (s : State) : Host.Outcome State Fault Refusal :=
  .next <| (s.instant t).whileRunning fun s =>
    if ant ≤ 1 ∧ s.supplied ant then s.findSupply ant (supplyState ma) else s

/-- ANTENNA_SUPPLY_RETRY: one second after a short the supply is switched on again. -/
def execAntennaSupplyRetry (t ant : Nat) (s : State) : Host.Outcome State Fault Refusal :=
  .next <| (s.instant t).whileRunning fun s =>
    match (s.gant ant).retryAt with
    | some r => if ant ≤ 1 ∧ r ≤ s.clk.now then s.putAnt ant { s.gant ant with retryAt := none } else s
    | none => s

/-! ## Continuity (R112) -/

/-- A loss of a channel's carrier at the device time `at_`: SLIP_SEQ and GNS_SLIP plus one, LOCK zero, its ambiguity
dropped; continuity begins again only with a later declaration of phase lock. -/
def State.slipAt (a c : Nat) (at_ : Int) (s : State) : State :=
  let x := s.chan a c
  let s := s.putChan a c { x with since := none, lost := some at_, slip := x.slip + 1, last := none, hist := [] }
  (s.withGns { s.gns with amb := s.gns.amb.filter (·.1 != c) }).count .slip

/-- A loss of a channel's carrier at the present instant. -/
def State.slipCarrier (a c : Nat) (s : State) : State := s.slipAt a c s.devTime

/-- A channel's carrier loses continuity; one whose carrier is not continuous has none to lose. -/
def State.loseCarrier (a c : Nat) (s : State) : State := if (s.chan a c).since.isNone then s else s.slipCarrier a c

/-- CARRIER_CONTINUITY_LOSS: a tracked channel loses lock; its phase lock was declared, at this epoch or since (R112). -/
def execCarrierContinuityLoss (t ant chan : Nat) (s : State) : Host.Outcome State Fault Refusal :=
  .next <| (s.instant t).whileRunning fun s =>
    if ant ≤ 1 ∧ chan < 64 ∧ (s.chan ant chan).signal ≠ 0 then s.slipCarrier ant chan else s

/-! ## Loop settings (R111) -/

/-- The signal has no pilot: GPS L1 C/A and SBAS. -/
def sigData (g : Nat) : Bool := g == 0x01 || sigSys g == 3

/-- Noise bandwidth of the phase lock loop, Hz. -/
def pllBand (code : Nat) : Nat := [5, 10, 15, 25].getD code 0
/-- Noise bandwidth of the delay lock loop, 0.01 Hz. -/
def dllBand (code : Nat) : Nat := [5, 20, 50, 200].getD code 0
/-- Coherent integration, ms. -/
def cohTime (code : Nat) : Nat := [1, 4, 10, 20].getD code 0

/-- The loop settings of a channel: bandwidths by GNS_LOOP; integration T_COH on a pilot, on a data component 1 ms until bit
synchronisation and then the lesser of T_COH and 20 ms. -/
def State.loopOf (s : State) (signal : Nat) (sync : Bool) : GnsLoop :=
  let coh := cohTime (s.effField .gnsLoop 4 2)
  { pll := pllBand (s.effField .gnsLoop 0 2), dll := dllBand (s.effField .gnsLoop 2 2)
    integ := if sigData signal then (if sync then min coh 20 else 1) else coh, sync := sync }

/-! ## Channel assignment (R108 to R110) -/

/-- The signal of a satellite in the lower or upper band. -/
def satSignal (sys : Nat) (l1c upper : Bool) : Nat :=
  if upper then (if sys = 0 then 0x11 else if sys = 1 then 0x12 else if sys = 2 then 0x13 else 0x31)
  else if sys = 0 then (if l1c then 0x02 else 0x01) else if sys = 1 then 0x03 else if sys = 2 then 0x04 else 0x21

/-- The lower channel of a ranging satellite. -/
def State.satChannel (s : State) (c : SatCand) : Option Nat :=
  s.gns.assign.toList.findIdx? (fun x => match x with
    | some y => y.sys == c.sys && y.sv == c.sv
    | none => false)

/-- Antenna 0 or 1 tracks a channel. -/
def State.chanTracked (s : State) (c : Nat) : Bool := (s.chan 0 c).tracked || (s.chan 1 c).tracked

/-- Rank of a candidate: tracked in both bands, tracked, not yet tracked. -/
def State.satRank (s : State) (c : SatCand) : Nat := match s.satChannel c with
  | some i => if s.chanTracked i && s.chanTracked (i + 32) then 0 else if s.chanTracked i || s.chanTracked (i + 32) then 1 else 2
  | none => 2

/-- `a` stands before `b`: rank, higher elevation (one without an almanac last), system, satellite number. -/
def State.satBefore (s : State) (a b : SatCand) : Bool :=
  let ra := s.satRank a
  let rb := s.satRank b
  let ea := a.elev.getD (-9001)
  let eb := b.elev.getD (-9001)
  decide (ra < rb) || (ra == rb && (decide (eb < ea) || (ea == eb && (decide (a.sys < b.sys) || (a.sys == b.sys && decide (a.sv < b.sv))))))

/-- Insert a candidate in the ranking. -/
def State.satInsert (s : State) (x : SatCand) : List SatCand → List SatCand
  | [] => [x]
  | y :: r => if s.satBefore x y then x :: y :: r else y :: s.satInsert x r

/-- The satellite numbers of a system (R107). -/
def svInRange (sys sv : Nat) : Bool :=
  if sys = 0 then decide (1 ≤ sv ∧ sv ≤ 32) else if sys = 1 then decide (1 ≤ sv ∧ sv ≤ 36)
  else if sys = 2 then decide (19 ≤ sv ∧ sv ≤ 63) else decide (120 ≤ sv ∧ sv ≤ 158)

/-- The satellites that may hold a channel. -/
def State.satGood (s : State) (c : SatCand) : Bool :=
  let mask : Int := 100 * s.effField .gnsCfg 14 6
  decide (c.sys < 3) && svInRange c.sys c.sv && s.effField .gnsCfg c.sys 1 == 1 && c.healthy && (match c.elev with
    | some e => decide (mask ≤ e)
    | none => true)

/-- A channel takes a signal of a satellite on both antennas; a change ends its continuity (DESIGN CHOICE, assumption 64)
and what was kept of the satellite before. -/
def State.tune (c signal sv : Nat) (s : State) : State :=
  [0, 1].foldl (fun s a =>
    let x := s.chan a c
    if x.signal = signal ∧ x.sv = sv then s else
    let s := s.loseCarrier a c
    let s := s.withGns { s.gns with
      amb := s.gns.amb.filter (·.1 != c), bands := s.gns.bands.filter (·.1 != 32 * a + c % 32) }
    s.putChan a c { s.chan a c with
      signal := signal, sv := sv, tracked := false, lost := none, loops := s.loopOf signal false, last := none, hist := [] }) s

/-- A channel pair serves a satellite, or none. -/
def State.serveSat (i : Nat) (x : Option GnsSat) (s : State) : State :=
  let s := s.withGns { s.gns with assign := vset s.gns.assign i x }
  match x with
  | some y =>
    let s := s.tune i (satSignal y.sys y.l1c false) y.sv
    if y.upper then s.tune (i + 32) (satSignal y.sys y.l1c true) y.sv else s.tune (i + 32) 0 0
  | none => (s.tune i 0 0).tune (i + 32) 0 0

/-- The satellite of a candidate with its bands. -/
def State.satOf (s : State) (c : SatCand) : GnsSat :=
  { sys := c.sys, sv := c.sv, upper := c.upper && s.effField .gnsCfg 4 1 == 1, l1c := c.sys == 0 && c.l1c && s.effField .gnsCfg 3 1 == 1 }

/-- The SBAS satellite: SBAS_PRN, or the highest in view (R124). -/
def State.sbasSat (s : State) (cands : List SatCand) : Option Nat :=
  let prn := s.effField .gnsCfg 6 8
  if prn ≠ 0 then (if svInRange 3 prn then some prn else none)
  else
    let best := cands.foldl (fun b c =>
      if c.sys = 3 ∧ svInRange 3 c.sv ∧ c.healthy ∧ 0 ≤ c.elev.getD (-1) then match b with
        | some (x : SatCand) => if x.elev.getD (-1) < c.elev.getD (-1) then some c else b
        | none => some c
      else b) none
    best.map (·.sv)

/-- What R110 compares: a candidate with its rank before the revision. -/
structure SatRanked where
  /-- The candidate. -/
  c : SatCand
  /-- Its rank. -/
  rank : Nat
  deriving DecidableEq, Repr

/-- Two satellites are the same. -/
def satSame (c : SatCand) (x : GnsSat) : Bool := c.sys == x.sys && c.sv == x.sv

/-- A holder gives up its channel to `x`: an untracked one to any candidate that ranks before it, a tracked one only to a
candidate of its own rank that stands more than 5° higher (R110). -/
def outranks (x h : SatRanked) : Bool :=
  let ex := x.c.elev.getD (-9001)
  let eh := h.c.elev.getD (-9001)
  let first : Bool := decide (x.rank < h.rank ∨ eh < ex)
    || (eh == ex && (decide (x.c.sys < h.c.sys) || (x.c.sys == h.c.sys && decide (x.c.sv < h.c.sv))))
  x.c.elev.isSome && (if h.rank = 2 then first else x.rank == h.rank && decide (eh + 500 < ex))

/-- The channel that a candidate takes from `n` channels: a free one, or that of the lowest-ranked holder it outranks. -/
def State.channelFor (s : State) (n : Nat) (ranked : List SatRanked) (x : SatRanked) : Option Nat :=
  match (List.range n).find? (fun i => (vget s.gns.assign i none).isNone) with
  | some i => some i
  | none =>
    let holders := ranked.filter (fun h => match s.satChannel h.c with
      | some i => decide (i < n)
      | none => false)
    match (holders.filter (outranks x)).getLast? with
    | some h => s.satChannel h.c
    | none => none

/-- The revision of the assignment (R109, R110). The satellite on channel 31 competes for another when SBAS takes it. -/
def State.reviseChannels (cands : List SatCand) (s : State) : State :=
  let sbas := s.effField .gnsCfg 5 1 = 1
  let n := if sbas then 31 else 32
  let order := (cands.filter s.satGood).foldl (fun l c => s.satInsert c l) []
  let ranked := order.map (fun c => (⟨c, s.satRank c⟩ : SatRanked))
  let s := (List.range 32).foldl (fun s i => match vget s.gns.assign i none with
    | some x => if i < n ∧ order.any (satSame · x) then s else if n ≤ i ∧ x.sys = 3 then s else s.serveSat i none
    | none => s) s
  let s := ranked.foldl (fun s x => match s.satChannel x.c with
    | some i => s.serveSat i (some (s.satOf x.c))
    | none =>
      match s.channelFor n ranked x with
      | some i => s.serveSat i (some (s.satOf x.c))
      | none => s) s
  if sbas then
    s.serveSat 31 ((s.sbasSat cands).map (fun sv => { sys := 3, sv := sv, upper := s.effField .gnsCfg 4 1 == 1, l1c := false }))
  else s

/-- CHANNEL_ASSIGN_REVISION (R110). -/
def execChannelAssignRevision (t : Nat) (cands : List SatCand) (s : State) : Host.Outcome State Fault Refusal :=
  .next <| (s.instant t).whileRunning fun s => s.reviseChannels cands

/-! ## Notches and the jamming indicator (R125, R126) -/

/-- Notch by its number 4s + n. -/
def State.notch (s : State) (i : Nat) : Notch := vget s.gns.notches i Notch.reset

/-- A change of a notch marks its stream and a running capture. -/
def State.markNotch (stream : Nat) (s : State) : State :=
  let now := s.devTime
  let g := s.gns
  let chg := if g.snap.state = 2 ∧ tbit g.snap.chg stream = false then g.snap.chg + 2 ^ stream else g.snap.chg
  s.withGns { g with placed := (g.placed.filter (fun p => decide (now - 100000000 < p.2))) ++ [(stream, now)]
                     snap := { g.snap with chg := chg } }

/-- The −3 dB width of a notch, kHz, by WIDTH (code 3 is reserved). -/
def notchWidth (code : Nat) : Nat := [50, 200, 800].getD code 0

/-- A notch is placed, or moved, on a bin; its depth is at least 40 dB (R125). -/
def State.placeNotch (i : Nat) (bin : Int) (s : State) : State :=
  let x : Notch := { active := true, bin := bin, width := notchWidth (s.effField .gnsNotch 6 2), moved := s.clk.now, cand := s.clk.now }
  ((s.withGns { s.gns with notches := vset s.gns.notches i x }).markNotch (i / 4)).raise 51 .notice 0 0 i []

/-- A notch is released. -/
def State.dropNotch (i : Nat) (s : State) : State :=
  if (s.notch i).active = false then s else
  ((s.withGns { s.gns with notches := vset s.gns.notches i { s.notch i with active := false, bin := 0 } }).markNotch (i / 4)).raise
    51 .notice 1 0 i []

/-- All notches of some streams are released. -/
def State.dropNotches (streams : List Nat) (s : State) : State :=
  let s := streams.foldl (fun s st => (List.range 4).foldl (fun s n => s.dropNotch (4 * st + n)) s) s
  s.withGns { s.gns with runs := s.gns.runs.filter (fun p => !streams.contains (p.1 / 256)) }

/-- NOTCH_RELEASE: no candidate in its bin for 100 ms. -/
def execNotchRelease (t notch : Nat) (s : State) : Host.Outcome State Fault Refusal :=
  .next <| (s.instant t).whileRunning fun s =>
    if notch < 16 ∧ (s.notch notch).active ∧ (s.notch notch).cand + 100000000 ≤ s.clk.now then s.dropNotch notch else s

/-- The loop settings of GNS_LOOP reach every channel alike (R111). -/
def State.setLoops (s : State) : State :=
  s.withGns { s.gns with chans := s.gns.chans.map (fun (x : GnsChan) => { x with loops := s.loopOf x.signal x.loops.sync }) }

/-- J is taken at the epoch (R118). At an epoch's tick the GNS configuration takes effect (R132): the loop settings of all
channels, a supply that is switched off reads 0 and is not retried (R105), and turning ADAPT off releases all notches
(R125). The divider in effect before decides that the tick is an epoch; a new one counts from here on, for GNSS_NAV of
this frame too. DESIGN CHOICE (assumption 97). -/
def State.gnsEpoch (s : State) : State :=
  if s.tableRuns ∧ s.epochDue then
    let s := (s.takeCfg .epoch).setLoops
    let s := s.withGns { s.gns with jamAt := s.gns.jam }
    let s := [0, 1].foldl (fun s a =>
      if s.effField .gnsAnt (2 * a) 1 = 0 then s.putAnt a { s.gant a with supply := 0, retryAt := none } else s) s
    if s.effField .gnsNotch 0 1 = 0 then s.dropNotches [0, 1, 2, 3] else s
  else s

/-- J of a power, 0.001 dB, in steps of 0.25 dB. -/
def State.jamLevel (s : State) (stream : Nat) (power : Int) : Nat :=
  let gain := s.effField .gnsAnt (if stream < 2 then 4 else 12) 8
  (min 255 (max 0 (divRound (4 * (power - Config.expectedPower stream gain)) 1000))).toNat

/-- The indicator of a stream and event source 50. -/
def State.setJam (stream j : Nat) (s : State) : State :=
  let warn := s.effField .gnsCheck 8 8
  let on := vget s.gns.jamOn stream false
  let s := s.withGns { s.gns with jam := vset s.gns.jam stream j }
  if on = false ∧ warn ≤ j then
    (s.withGns { s.gns with jamOn := vset s.gns.jamOn stream true }).raise 50 .notice 0 0 stream []
  else if on ∧ j + 8 < warn then
    (s.withGns { s.gns with jamOn := vset s.gns.jamOn stream false }).raise 50 .notice 1 0 stream []
  else s

/-- Insert a bin by falling level. -/
def binInsert (x : Int × Int) : List (Int × Int) → List (Int × Int)
  | [] => [x]
  | y :: r => if y.2 < x.2 then x :: y :: r else y :: binInsert x r

/-- Twice the median of the levels of 256 bins, sorted by falling level. -/
def twiceMedian (bins : List (Int × Int)) : Int := (bins.getD 127 (0, 0)).2 + (bins.getD 128 (0, 0)).2

/-- The bins of a transform, −128 to 127, by falling level. -/
def binsByLevel (levels : List Int) : List (Int × Int) :=
  ((List.range 256).map (fun (i : Nat) => ((i : Int) - 128, levels.getD (i : Nat) 0))).foldl (fun l b => binInsert b l) []

/-- Key of a stream's bin. -/
def binKey (stream : Nat) (b : Int) : Nat := 256 * stream + (b + 128).toNat % 256

/-- One candidate gets its notch: its own, a free one, or one that no present candidate holds and that has not moved for
10 ms. -/
def State.notchFor (stream : Nat) (want : List Int) (b : Int) (s : State) : State :=
  let ix := (List.range 4).map (fun n => 4 * stream + n)
  match ix.find? (fun i => (s.notch i).active && (s.notch i).bin == b) with
  | some _ => s
  | none =>
    match ix.find? (fun i => !(s.notch i).active) with
    | some i => s.placeNotch i b
    | none =>
      match ix.find? (fun i => !want.contains (s.notch i).bin && decide ((s.notch i).moved + 10000000 ≤ s.clk.now)) with
      | some i => s.placeNotch i b
      | none => s

/-- The candidates of a stream: its bins that stand THR dB above the median bin for 4 consecutive transforms, the strongest
first. -/
def State.notchCandidates (stream : Nat) (levels : List Int) (s : State) : List Int × State :=
  let bins := binsByLevel levels
  let hot := bins.filter (fun b => decide (twiceMedian bins + 2000 * s.effField .gnsNotch 1 5 ≤ 2 * b.2))
  let runs := hot.map (fun b => (binKey stream b.1, aget (binKey stream b.1) 0 s.gns.runs + 1))
  let other := s.gns.runs.filter (fun p => p.1 / 256 != stream)
  let s := s.withGns { s.gns with runs := runs.foldl (fun l p => aput p.1 p.2 l) other }
  ((hot.filter (fun b => decide (4 ≤ aget (binKey stream b.1) 0 s.gns.runs))).map (·.1), s)

/-- NOTCH_ANALYSIS: one transform of a stream. `power` is the wideband power of the last 10 ms in 0.001 dB, `levels` the
level of the 256 bins in 0.001 dB, bin −128 first (R125, R126). -/
def execNotchAnalysis (t stream : Nat) (power : Int) (levels : List Int) (s : State) : Host.Outcome State Fault Refusal :=
  .next <| (s.instant t).whileRunning fun s =>
    if stream > 3 then s else
    let s := s.setJam stream (s.jamLevel stream power)
    if s.effField .gnsNotch 0 1 = 0 then s.dropNotches [stream]
    else
      let r := s.notchCandidates stream levels
      let cands := r.1
      let s := (List.range 4).foldl (fun s n =>
        let i := 4 * stream + n
        if (s.notch i).active && cands.contains (s.notch i).bin then
          s.withGns { s.gns with notches := vset s.gns.notches i { s.notch i with cand := s.clk.now } }
        else s) r.2
      let want := cands.take 4
      want.foldl (fun s b => s.notchFor stream want b) s

/-- GNS_NOTCH_SEL_WRITE latches a notch's frequency in one step (R132). -/
def execGnsNotchSelWrite (w : Word) (s : State) : Host.Outcome State Fault Refusal :=
  .next <| s.barWrite 0x7030 fun s =>
    let i := (w.extractLsb' 0 4).toNat
    let x := s.notch i
    s.withGns { s.gns with sel := i, freq := if x.active then BitVec.ofInt 16 (80 * x.bin) else 0 }

/-! ## Corrections (R122, R123) -/

/-- A correction age limit, ns. -/
def State.corrAge (s : State) : Int := 1000000000 * s.effField .gnsLimits 20 6

/-- `n` bits of a payload from bit `i`, most significant first. -/
def msbBits (b : List Byte) (i n : Nat) : Nat :=
  (List.range n).foldl (fun x k => 2 * x + b2n (tbit (u8 b ((i + k) / 8)) (7 - (i + k) % 8))) 0

/-- Messages with observables. -/
def rtcmObs (n : Nat) : Bool := [1074, 1077, 1094, 1097, 1124, 1127].contains n
/-- Ephemeris messages. -/
def rtcmEph (n : Nat) : Bool := [1019, 1045, 1046, 1042].contains n
/-- Position messages. -/
def rtcmPos (n : Nat) : Bool := n == 1005 || n == 1006

/-- A station message is taken: its station is the one followed, or the followed one has been silent for CORR_AGE. -/
def State.takeStation (id : Nat) (s : State) : Option State :=
  let now := s.devTime
  let g := s.gns
  match g.station with
  | none => some (s.withGns { g with station := some id, heard := now })
  | some x =>
    if x = id then some (s.withGns { g with heard := now })
    else if s.corrAge ≤ now - g.heard then
      some (s.withGns { g with station := some id, heard := now, stnPos := none, stnOld := [], rtcm := [] })
    else none

/-- Some observables are current at an instant. -/
def State.corrCurrent (s : State) (t : Int) : Bool :=
  s.gns.rtcm.any (fun m => decide (t - Config.rtcmTime m.bytes m.came ≤ s.corrAge))

/-- Corrections lapse or resume: they are current while the followed station's position is known and some observables are no
older than CORR_AGE. Event source 54 at each change (R123). -/
def State.corrChange (s : State) : State :=
  let on := s.gns.stnPos.isSome && s.corrCurrent s.devTime
  if on = s.gns.corrOn then s
  else (s.withGns { s.gns with corrOn := on }).raise 54 .notice (b2n on) 0 noIndex []

/-- A signed field of a payload. -/
def msbInt (b : List Byte) (i n : Nat) : Int := sext n (msbBits b i n)

/-- The station coordinates of a position message, ECEF, 0.0001 m (RTCM 10403, messages 1005 and 1006). PRESUMED
(assumption 65). -/
def rtcmStation (p : List Byte) : List Int := [msbInt p 34 38, msbInt p 74 38, msbInt p 114 38]

/-- What was decoded of a satellite since start-up, which the save keeps to seed a later acquisition (R113). -/
def State.noteEph (key : Nat) (b : List Byte) (s : State) : State :=
  s.withGns { s.gns with decoded := aput key b s.gns.decoded, seed := { s.gns.seed with eph := aput key b s.gns.seed.eph } }

/-- A position message of the followed station; those before it stay for the epochs before it (R123). -/
def State.notePosition (p : List Int) (s : State) : State :=
  s.withGns { s.gns with stnPos := some (s.devTime, p), stnOld := (s.gns.stnPos.toList ++ s.gns.stnOld).take 16 }

/-- A valid message: the state, and whether it was used. -/
def State.rtcmMessage (p : List Byte) (s : State) : State × Bool :=
  let n := msbBits p 0 12
  let now := s.devTime
  if rtcmEph n then (s.noteEph (65536 * n + msbBits p 12 6) p, true)
  else if rtcmPos n then
    match s.takeStation (msbBits p 12 12) with
    | some s => ((s.notePosition (rtcmStation p)).corrChange, true)
    | none => (s, false)
  else if rtcmObs n then
    match s.takeStation (msbBits p 12 12) with
    | some s =>
      let keep := s.gns.rtcm.filter (fun m => decide (now - 61000000000 < m.came))
      ((s.withGns { s.gns with rtcm := keep ++ [{ number := n, came := now, bytes := p }] }).corrChange, true)
    | none => (s, false)
  else (s, false)

/-- The frames of a buffer in turn: preamble 0xD3, 10 bits of length, payload, CRC-24Q. A byte string that is no whole
frame counts as one error and ends the buffer: no new preamble is looked for. DESIGN CHOICE (assumption 66). -/
def State.rtcmFrames : Nat → List Byte → Nat → State → State × Nat
  | 0, _, used, s => (s, used)
  | f + 1, b, used, s =>
    if b.isEmpty then (s, used) else
    let n := u8 b 1 % 4 * 256 + u8 b 2
    if u8 b 0 ≠ 0xD3 ∨ b.length < n + 6 then (s.count .corrErr, used) else
    let crc := u8 b (n + 3) * 65536 + u8 b (n + 4) * 256 + u8 b (n + 5)
    if (crc24q (b.take (n + 3))).toNat = crc then
      let r := s.rtcmMessage (slice b 3 n)
      State.rtcmFrames f (b.drop (n + 6)) (used + b2n r.2) r.1
    else State.rtcmFrames f (b.drop (n + 6)) used (s.count .corrErr)

/-- GNSS_CORRECTION runs; RESULT is the number of frames used. -/
def State.takeCorrection (w : Waiting) (data : List Byte) (s : State) : State :=
  let r := s.rtcmFrames (data.length + 1) data 0
  r.1.done w r.2

/-- CORRECTION_LAPSE (R123). -/
def execCorrectionLapse (t : Nat) (s : State) : Host.Outcome State Fault Refusal :=
  .next <| (s.instant t).whileRunning fun s => s.corrChange

/-- Geometric range from a station to a satellite, m. -/
def stationRange (p : List Int) (sys sv : Nat) (t : Int) : F64 :=
  vnorm (vsub ((List.range 3).map (Config.satPos sys sv t)) (p.map (fun x => fq x 10000)))

/-- The station position that was complete before an epoch. -/
def State.stationAt (s : State) (tk : Int) : Option (List Int) :=
  ((s.gns.stnPos.toList ++ s.gns.stnOld).find? (fun p => decide (p.1 < tk))).map (·.2)

/-- The RTCM correction of a record at an epoch: the station's code and phase observables of the same signal and satellite,
less the geometric range; code in 2⁻¹⁶ m, phase in 2⁻³² cycle (R123). Only what was complete before the epoch counts. -/
def State.rtcmFor (s : State) (tk : Int) (o : GnsObs) : Option (Int × Int) :=
  let ms := s.gns.rtcm.filter (fun m => decide (m.came < tk) && Config.rtcmCovers m.bytes o.signal o.sv
    && decide (tk - Config.rtcmTime m.bytes m.came ≤ s.corrAge))
  match ms.getLast?, s.stationAt tk with
  | some m, some p =>
    let r := stationRange p (sigSys o.signal) o.sv (Config.rtcmTime m.bytes m.came)
    let cyc := fdiv (fmul r (ofI (bandHz (sigUpper o.signal)))) lightSpeed
    some (Config.rtcmCode m.bytes o.signal o.sv - toI (fscale r 16), Config.rtcmPhase m.bytes o.signal o.sv - toI (fscale cyc 32))
  | _, _ => none

/-! ## Measurements and checks (R117, R127) -/

/-- A measurement under way. -/
structure GnsMeas where
  /-- The observation. -/
  o : GnsObs
  /-- Pseudorange after corrections, 2⁻¹⁶ m. -/
  pr : Int
  /-- Phase after corrections. -/
  ph : Int
  /-- Carrier valid after C3. -/
  carr : Bool
  /-- RTCM corrected. -/
  rtcm : Bool
  /-- SBAS corrected. -/
  sbas : Bool
  /-- Failed checks. -/
  checks : Nat
  /-- Suspect. -/
  susp : Bool
  deriving DecidableEq, Repr

/-- A delay, 0.1 ns, in 2⁻¹⁶ m of range. -/
def delayRange (d : Int) : Int := divRound (d * 299792458 * 65536) 10000000000

/-- A system's time less TAI, s: GPS, Galileo and SBAS network time −19 s, BeiDou −33 s. PRESUMED (assumption 65). -/
def sysLag (sys : Nat) : Int := if sys = 2 then 33 else 19

/-- The transmit time in TAI, 2⁻⁴⁸ s: the system time plus its fixed and, for GPS and BeiDou, its broadcast offset of the
navigation data decoded since start-up (R113, R117). -/
def State.transmitTai (s : State) (o : GnsObs) : Int :=
  let sys := sigSys o.signal
  o.tx + sysLag sys * 281474976710656 + (if sys = 1 then 0 else Config.sysOffset sys s.gns.decoded)

/-- c × (T_k − t_tx), 2⁻¹⁶ m (R117). -/
def State.flightRange (s : State) (tk : Int) (o : GnsObs) : Int :=
  divRound (299792458 * (tk * 281474976710656 - s.transmitTai o * 1000000000)) (4294967296 * 1000000000)

/-- Code minus carrier, 2⁻¹⁶ m. -/
def codeMinusCarrier (o : GnsObs) (range : Int) : Int := range - divRound (o.phase * 299792458) (65536 * bandHz (sigUpper o.signal))

/-- C3: Doppler against carrier phase rate over the epochs, 2 Hz. Doppler is positive when range shrinks (R117). -/
def failsC3 (x : GnsChan) (tk : Int) (o : GnsObs) : Bool := match x.since, x.last with
  | some _, some p =>
    let dt := tk - p.1
    decide (0 < dt) && o.dopOk && decide (2 * 4294967296 * dt < ((o.doppler * 4194304 * dt + (o.phase - p.2) * 1000000000).natAbs : Int))
  | _, _ => false

/-- C2: code minus carrier over 1 s, 2 m. -/
def failsC2 (x : GnsChan) (tk v : Int) : Bool := match (x.hist.filter (fun p => decide (p.1 + 1000000000 ≤ tk))).getLast? with
  | some p => decide (131072 < (v - p.2).natAbs)
  | none => false

/-- A notch change marks the stream's records for 20 ms of epochs; J at or above JAM_HIGH at the epoch marks them too. -/
def State.streamSuspect (s : State) (stream : Nat) (tk : Int) : Bool :=
  s.gns.placed.any (fun p => p.1 == stream && decide (p.2 ≤ tk ∧ tk ≤ p.2 + 20000000))
    || decide (s.effField .gnsCheck 16 8 ≤ vget s.gns.jamAt stream 0)

/-- The channel works on exactly the signal and satellite that the assignment gave it (R107, R108). -/
def State.obsFits (s : State) (o : GnsObs) : Bool :=
  decide (o.ant < 2 ∧ o.chan < 64) && o.signal != 0 && (s.chan o.ant o.chan).signal == o.signal && (s.chan o.ant o.chan).sv == o.sv

/-- The phase lock of an observation holds without a break that has been noted: it was declared after the latest loss. -/
def GnsChan.locked (x : GnsChan) (o : GnsObs) : Option Int := match o.locked, x.lost with
  | some t, some l => if l < t then some t else none
  | t, _ => t

/-- The channel after the lock state of an epoch: a declaration later than the one in force shows a loss before it, and
continuity holds from the declaration on (R112). -/
def State.noteLock (o : GnsObs) (s : State) : State :=
  let x := s.chan o.ant o.chan
  match x.locked o, x.since with
  | none, _ => s.loseCarrier o.ant o.chan
  | some t, some f => if f < t then s.slipAt o.ant o.chan (t - 1) else s
  | some _, none => s

/-- One observation: range, corrections, continuity and the checks C0 to C3. -/
def State.navOne (tk : Int) (o : GnsObs) (s : State) : GnsMeas × State :=
  let up := sigUpper o.signal
  let range := s.flightRange tk o
  let pr0 : Int := range - delayRange (s.cable o.ant up) - delayRange (Config.frontEnd o.ant (b2n up))
  let rc := s.rtcmFor tk o
  let sb : Option Int := if rc.isNone ∧ s.effField .gnsCfg 5 1 = 1 then o.sbas else none
  let pr := match rc with
    | some c => pr0 - c.1
    | none => pr0 + sb.getD 0
  let ph := o.phase - ((rc.map (·.2)).getD 0)
  let s := s.noteLock o
  let x := s.chan o.ant o.chan
  let c3 := s.checkOn 3 && (x.locked o).isSome && failsC3 x tk o
  let s := if c3 then s.loseCarrier o.ant o.chan else s
  let x := s.chan o.ant o.chan
  let since := if c3 then none else (x.locked o).map (fun t => x.since.getD (min t tk))
  let carr := since.isSome
  let v := codeMinusCarrier o range
  let c2 := s.checkOn 2 && carr && failsC2 x tk v
  let hist := (x.hist.filter (fun p => decide (tk - 2000000000 ≤ p.1))) ++ [(tk, v)]
  let x := { x with tracked := o.code, loops := s.loopOf o.signal o.sync, since := since
                    last := if carr then some (tk, o.phase) else none, hist := if carr then hist else [] }
  let s := s.putChan o.ant o.chan x
  let c0 := s.checkOn 0 && decide (o.cn0 < 100 * s.effField .gnsLoop 6 6)
  let c1 := s.checkOn 1 && decide (100 * s.effField .gnsCheck 24 6 < o.cn0)
  ({ o := o, pr := pr, ph := ph, carr := carr, rtcm := rc.isSome, sbas := sb.isSome
     checks := b2n c0 + 2 * b2n c1 + 4 * b2n c2 + 8 * b2n c3
     susp := c0 || c1 || c2 || s.streamSuspect (streamOf o.ant up) tk }, s)

/-- Distance of the antennas by the quoin, m (R106, R120). -/
def State.gnsBaseline (s : State) : Option F64 := match s.quoinAt 3 0, s.quoinAt 3 1 with
  | some a, some b => some (vnorm (vsub (quoinLever a) (quoinLever b)))
  | _, _ => none

/-- A failed check of a measurement that makes it suspect. -/
def GnsMeas.fail (n : Nat) (m : GnsMeas) : GnsMeas :=
  { m with checks := if tbit m.checks n then m.checks else m.checks + 2 ^ n, susp := true }

/-- A failed check that does not make the measurement suspect: C6 and C7, whose action is exclusion. -/
def GnsMeas.mark (n : Nat) (m : GnsMeas) : GnsMeas := { m with checks := if tbit m.checks n then m.checks else m.checks + 2 ^ n }

/-- C4: both antennas, same satellite and signal. -/
def State.checkC4 (ms : List GnsMeas) (s : State) : List GnsMeas :=
  match s.gnsBaseline with
  | none => ms
  | some b =>
    if s.checkOn 4 = false then ms else
    let bad (m : GnsMeas) : Bool := ms.any (fun n => n.o.ant != m.o.ant && n.o.signal == m.o.signal && n.o.sv == m.o.sv
      && flt (fadd b (ofI 3)) (fscale (ofN (n.pr - m.pr).natAbs) (-16)))
    ms.map (fun m => if bad m then m.fail 4 else m)

/-- The measurement of a channel of an antenna. -/
def measAt (ms : List GnsMeas) (a c : Nat) : Option GnsMeas := ms.find? (fun m => m.o.ant == a && m.o.chan == c)

/-- C5: lower minus upper pseudorange against its 60 s mean. -/
def State.checkC5 (tk : Int) (ms : List GnsMeas) (s : State) : List GnsMeas × State :=
  let pairs := ms.filterMap (fun m =>
    if m.o.chan < 32 then (measAt ms m.o.ant (m.o.chan + 32)).map (fun u => (32 * m.o.ant + m.o.chan, m.pr - u.pr)) else none)
  let old (k : Nat) : List (Int × Int) := (aget k [] s.gns.bands).filter (fun p => decide (tk - 60000000000 ≤ p.1))
  let bad := pairs.filter (fun p =>
    let l := old p.1
    let n : Int := l.length
    let sum := (l.map (·.2)).foldl (· + ·) (0 : Int)
    !l.isEmpty && decide (15 * 65536 * n < ((p.2 * n - sum).natAbs : Int)))
  let s := s.withGns { s.gns with bands := pairs.map (fun p => (p.1, old p.1 ++ [(tk, p.2)])) |>.foldl (fun l p => aput p.1 p.2 l) s.gns.bands }
  if s.checkOn 5 then
    (ms.map (fun m => if bad.any (fun p => p.1 == 32 * m.o.ant + m.o.chan % 32) then m.fail 5 else m), s)
  else (ms, s)

/-! ## Spoofing (R127, R128) -/

/-- An antenna is declared spoofed. -/
def State.declareSpoofed (c7 : Bool) (a : Nat) (s : State) : State :=
  let x := s.gant a
  let s1 := s.putAnt a { x with spoofed := true, c7 := x.c7 || c7, cleanFrom := none }
  if x.spoofed then s1 else s1.raise 52 .notice 0 0 a []

/-- The state clears after SPOOF_CLEAR of clean epochs. -/
def State.clearSpoofed (a : Nat) (s : State) : State :=
  let x := s.gant a
  match x.cleanFrom with
  | some f =>
    if x.spoofed ∧ f + 1000000000 * (s.effField .gnsLimits 12 8 : Int) ≤ s.frameTime then
      (s.putAnt a { x with spoofed := false, c7 := false }).raise 52 .notice 1 0 a []
    else s
  | none => s

/-- SPOOF_CLEAR (R128). -/
def execSpoofClear (t ant : Nat) (s : State) : Host.Outcome State Fault Refusal :=
  .next <| (s.instant t).whileRunning fun s => if ant ≤ 1 then s.clearSpoofed ant else s

/-- C6: the clock offset of a solution against the offset that last passed, less the steering of device time since.
DEDUCED CHOICE (assumption 23). -/
def State.failsC6 (a : Nat) (clock : Int) (s : State) : Bool := match (s.gant a).clock with
  | some p => s.checkOn 6 && decide ((s.effField .gnsLimits 0 12 : Int) < ((clock - (p.1 + (s.clk.base + s.steerNow - p.2))).natAbs : Int))
  | none => false

/-- C1 fails on more than half of an antenna's records. -/
def c1Majority (ms : List GnsMeas) (a : Nat) : Bool :=
  let l := ms.filter (fun m => m.o.ant == a)
  decide (l.length < 2 * (l.filter (fun m => tbit m.checks 1)).length)

/-! ## Heading (R120, R121) -/

/-- A measurement serves the heading. -/
def State.headMeas (s : State) (m : GnsMeas) : Bool := m.carr && !m.susp && !(s.gant m.o.ant).spoofed

/-- The channels that serve the heading on both antennas. -/
def State.headChans (ms : List GnsMeas) (s : State) : List Nat :=
  (ms.filter (fun m => m.o.ant == 0 && sigSys m.o.signal != 3 && s.headMeas m && (match measAt ms 1 m.o.chan with
    | some n => n.o.sv == m.o.sv && n.o.signal == m.o.signal && s.headMeas n
    | none => false))).map (fun m => m.o.chan)

/-- One channel of each satellite, the lower band before the upper. -/
def satChans (cs : List Nat) : List Nat := cs.filter (fun c => c < 32 || !cs.contains (c - 32))

/-- The direction to the satellite of a measurement: north, east, down. -/
def GnsMeas.sight (m : GnsMeas) : FVec :=
  let e := fmul (fq m.o.elev 18000) fpi
  let a := fmul (fq m.o.azim 18000) fpi
  [fmul (fcos e) (fcos a), fmul (fcos e) (fsin a), fneg (fsin e)]

/-- The single-difference phase of a channel, antenna 1 less antenna 0, less the line bias, 2⁻³² cycle (R120, R121). -/
def State.phaseDiff (ms : List GnsMeas) (c : Nat) (s : State) : Int := match measAt ms 0 c, measAt ms 1 c with
  | some a, some b =>
    let up := sigUpper a.o.signal
    let d : Int := (s.cable 1 up : Int) - s.cable 0 up + Config.frontEnd 1 (b2n up) - Config.frontEnd 0 (b2n up)
    b.ph - a.ph - divRound (d * bandHz up * 4294967296) 10000000000
  | _, _ => 0

/-- The single-difference phase of a channel, modulo one cycle (R121, C7). -/
def State.singleDiff (ms : List GnsMeas) (c : Nat) (s : State) : Word := wordI (s.phaseDiff ms c)

/-- C7: over half of the satellites show one single difference within 0.1 cycle, with a residual above 0.25 cycle. -/
def State.failsC7 (ms : List GnsMeas) (cs : List Nat) (fixed : Bool) (rms : F64) (s : State) : Bool :=
  let ds := (satChans cs).map (fun c => s.singleDiff ms c)
  let near (x : Word) : Nat := (ds.filter (fun y => decide ((wdiff y x).natAbs ≤ 429496729))).length
  s.checkOn 7 && fixed && flt (fq 1 4) rms && ds.any (fun x => decide (ds.length < 2 * near x))

/-- The double differences of one band with integers `amb`, against the first channel: the coefficients of the baseline
(north, east, down; 1/m) and the phase less its integer, cycles. Carrier phase grows with range, so it falls by the
component of the baseline towards the satellite (R117, R120). -/
def State.bandDiffs (ms : List GnsMeas) (amb : List (Nat × Int)) (s : State) : List (FVec × F64) := match amb with
  | [] => []
  | r :: l =>
    match measAt ms 0 r.1 with
    | none => []
    | some mr => l.filterMap (fun p => (measAt ms 0 p.1).map (fun m =>
        (vscale (fdiv f1 (bandLambda (sigUpper m.o.signal))) (vsub mr.sight m.sight),
         fscale (ofI (s.phaseDiff ms p.1 - s.phaseDiff ms r.1 - (p.2 - r.2) * 4294967296)) (-32))))

/-- The double differences of both bands. -/
def State.doubleDiffs (ms : List GnsMeas) (amb : List (Nat × Int)) (s : State) : List (FVec × F64) :=
  s.bandDiffs ms (amb.filter (fun p => decide (p.1 < 32))) ++ s.bandDiffs ms (amb.filter (fun p => decide (32 ≤ p.1)))

/-- The least-squares baseline of double differences. -/
def leastBaseline (ds : List (FVec × F64)) : FVec :=
  let n := ds.foldl (fun a d => madd a (outer d.1 d.1)) (mzero 3)
  let r := ds.foldl (fun a d => vadd a (vscale d.2 d.1)) (vof 3 (fun _ => f0))
  mvec (minv 3 n) r

/-- The sum of squared residuals of double differences at a baseline, cycles². -/
def residualSum (ds : List (FVec × F64)) (b : FVec) : F64 :=
  ds.foldl (fun a d => let e := fsub d.2 (fdot d.1 b); fadd a (fmul e e)) f0

/-- What the double differences give with one integer vector: the baseline in m, the sum of squared residuals, and their
root mean square in cycles. -/
structure GnsFix where
  /-- North, east, down. -/
  b : FVec
  /-- Sum of squares. -/
  sum : F64
  /-- Root mean square. -/
  rms : F64
  deriving DecidableEq, Repr

/-- The solution with given integers. -/
def State.solveBaseline (ms : List GnsMeas) (amb : List (Nat × Int)) (s : State) : GnsFix :=
  let ds := s.doubleDiffs ms amb
  let b := leastBaseline ds
  let q := residualSum ds b
  { b := b, sum := q, rms := fsqrt (fdiv q (ofN (max 1 ds.length))) }

/-- Direction and elevation of a baseline, binary angles, and its length in mm. -/
def baselineOut (b : FVec) : Word × Word × Nat :=
  let n := fel b 0
  let e := fel b 1
  let d := fel b 2
  (wordI (radBa (fatan2 e n)), wordI (radBa (fatan2 (fneg d) (fsqrt (fadd (fmul n n) (fmul e e))))), (toI (fmul (vnorm b) (ofI 1000))).toNat)

/-- The integer vectors of a search for the channels in use, the best or the second-best. -/
def searchBest (h : GnsHeading) (cs : List Nat) : List (Nat × Int) :=
  (h.search.filter (fun p => cs.contains p.1)).map (fun p => (p.1, p.2.1))
/-- The second-best. -/
def searchSecond (h : GnsHeading) (cs : List Nat) : List (Nat × Int) :=
  (h.search.filter (fun p => cs.contains p.1)).map (fun p => (p.1, p.2.2))

/-- RATIO of a search, 0.01: second-best to best sum of squared residuals. -/
def State.searchRatio (ms : List GnsMeas) (cs : List Nat) (h : GnsHeading) (s : State) : Nat :=
  if (searchBest h cs).isEmpty then 0
  else min 0xFFFF (ffloor (fmul (ofI 100) (fdiv (s.solveBaseline ms (searchSecond h cs)).sum (s.solveBaseline ms (searchBest h cs)).sum))).toNat

/-- The fix of an epoch is accepted (R120): 5 satellites in common, RATIO_MIN, the measured length within 5 mm and 0.002 of
the quoin length. -/
def State.fixAccepted (n ratio : Nat) (length : F64) (s : State) : Bool := match s.gnsBaseline with
  | some b =>
    decide (5 ≤ n) && decide (10 * s.effField .gnsLimits 26 6 ≤ ratio)
      && fle (fabs (fsub length b)) (fadd (fq 5 1000) (fmul (fq 2 1000) b))
  | none => false

/-- Ambiguities of channels that an epoch leaves out, carried to the integers of a new fix of their band: only differences
within a band count (R120). -/
def carryAmb (old new : List (Nat × Int)) : List (Nat × Int) :=
  (old.filter (fun p => !new.any (·.1 == p.1))).filterMap (fun p =>
    match new.find? (fun q => decide (q.1 < 32 ↔ p.1 < 32) && old.any (·.1 == q.1)) with
    | some q => some (p.1, p.2 + q.2 - aget q.1 0 old)
    | none => none)

/-- The ambiguities of the channels in use. -/
def ambOf (cs : List Nat) (amb : List (Nat × Int)) : List (Nat × Int) := amb.filter (fun p => cs.contains p.1)

/-- The heading state of an epoch and the ambiguities that stay fixed, those of channels that the epoch leaves out with
their continuity unbroken among them; they keep the fix while at least 4 satellites in use hold theirs. DESIGN CHOICE
(assumption 23). -/
def State.headState (ms : List GnsMeas) (cs : List Nat) (h : GnsHeading) (s : State) : Nat × List (Nat × Int) :=
  let n := (satChans cs).length
  let new := searchBest h cs
  if n < 4 then (0, s.gns.amb)
  else if s.fixAccepted (satChans (new.map (·.1))).length (s.searchRatio ms cs h) (vnorm (s.solveBaseline ms new).b) then
    (2, new ++ carryAmb s.gns.amb new)
  else (if 4 ≤ (satChans ((ambOf cs s.gns.amb).map (·.1))).length then 2 else 1, s.gns.amb)

/-- A new heading state; event source 53. -/
def State.setHead (n : Nat) (amb : List (Nat × Int)) (s : State) : State :=
  let s1 := s.withGns { s.gns with head := n, amb := amb }
  if s.gns.head = n then s1 else s1.raise 53 .notice 3 n noIndex []

/-! ## Records (R118, R119) -/

/-- DATA of a signal measurement; a pilot has no half-cycle ambiguity (R112). -/
def State.signalData (tk : Int) (m : GnsMeas) (s : State) : List Byte :=
  let o := m.o
  let x := s.chan o.ant o.chan
  let lock := match x.since with
    | some f => (min 65535 ((tk - f) / 100000000)).toNat
    | none => 0
  let excl := (s.gant o.ant).spoofed
  let flags := b2n o.code + 2 * b2n m.carr + 8 * b2n o.dopOk + 16 * b2n m.rtcm + 32 * b2n m.sbas + 64 * b2n m.susp
    + 128 * b2n excl
  let half := o.half || !sigData o.signal
  let flags := if half then flags + 4 else flags
  [0, byte o.signal, byte o.sv, byte o.chan] ++ ibytes 8 m.pr ++ ibytes 8 m.ph ++ ibytes 4 o.doppler ++ lebytes 2 o.cn0
    ++ lebytes 2 lock ++ [x.slip, byte flags] ++ ibytes 2 o.elev ++ lebytes 2 o.azim ++ lebytes 2 (min 0xFFFF o.stdCode)
    ++ lebytes 2 (min 0xFFFF o.stdPhase) ++ [byte (vget s.gns.jamAt (streamOf o.ant (sigUpper o.signal)) 0), byte m.checks]

/-- A signal record enters the intake under its antenna's quoin entry; an excluded one is counted. It keeps the stamp T_k
whatever the entry's LATENCY (R115; DESIGN CHOICE, assumption 97). -/
def State.placeSignal (tk : Int) (m : GnsMeas) (s : State) : State :=
  match s.quoinAt 3 m.o.ant with
  | none => s
  | some q =>
    let excl := (s.gant m.o.ant).spoofed
    let s := if excl then s.count .excl else s
    s.arrive q 0x0A (64 * b2n excl) 1 tk (s.signalData tk m)

/-- The heading record enters under antenna 0. Its solution fields read zero while STATE is none (DESIGN CHOICE, assumption
67); while float they give the float baseline. It keeps the stamp T_k whatever the entry's LATENCY (R115; DESIGN CHOICE,
assumption 97). -/
def State.placeHeading (tk : Int) (ms : List GnsMeas) (cs : List Nat) (h : GnsHeading) (s : State) : State :=
  match s.quoinAt 3 0 with
  | none => s
  | some q =>
    let b := if s.gns.head = 2 then (s.solveBaseline ms (ambOf cs s.gns.amb)).b else h.float.map (fun x => fscale (ofI x) (-16))
    let o := baselineOut b
    let d := if s.gns.head = 0 then [] else
      wbytes o.1 ++ wbytes o.2.1 ++ lebytes 4 o.2.2 ++ wbytes h.headStd ++ wbytes h.pitchStd ++ lebytes 2 (s.searchRatio ms cs h)
    s.arrive q 0x0A 0 1 tk ([1, byte s.gns.head, byte (satChans cs).length, 0] ++ d)

/-! ## GNSS_NAV (R115) -/

/-- Ranging satellites tracked on an antenna. -/
def rangingSats (ms : List GnsMeas) (a : Nat) : Nat :=
  (satChans ((ms.filter (fun m => m.o.ant == a && m.o.code && sigSys m.o.signal != 3)).map (fun m => m.o.chan))).length

/-- The satellite count of an antenna; event source 49. -/
def State.setSats (a n : Nat) (s : State) : State :=
  let x := s.gant a
  let few := decide (n < 4)
  let s1 := s.putAnt a { x with sats := min 63 n, few := few }
  if few = x.few then s1 else s1.raise 49 .notice (if few then 0 else 1) 0 a []

/-- The antenna of the standalone solution: 0, or 1 while antenna 0 is excluded or short of satellites. -/
def State.solAntenna (s : State) : Nat := if (s.gant 0).spoofed || (s.gant 0).few then 1 else 0

/-- C6 on the standalone solution of an antenna: its failure declares the antenna spoofed, a passed offset is kept. -/
def State.checkC6 (a : Nat) (sol : Option GnsSol) (s : State) : Bool × State := match sol with
  | some x =>
    if s.failsC6 a x.clock then (true, s.declareSpoofed false a)
    else (false, s.putAnt a { s.gant a with clock := some (x.clock, s.clk.base + s.steerNow) })
  | none => (false, s)

/-- The clean time of the antennas runs on while neither C6 nor C7 fails (R128). -/
def State.noteClean (tk : Int) (a : Nat) (c6 c7 : Bool) (s : State) : State :=
  [0, 1].foldl (fun s b =>
    let x := s.gant b
    s.putAnt b { x with cleanFrom := if c7 || (c6 && b == a) then none else some (x.cleanFrom.getD tk) }) s

/-- The standalone solution of the epoch, from antenna `a`; a broadcast leap-second count reaches the time engine. -/
def State.standalone (a : Nat) (ms : List GnsMeas) (sol : Option GnsSol) (s : State) : State :=
  let mine := ms.filter (fun m => m.o.ant == a)
  let fix := if sol.isNone then 0 else if mine.any (·.rtcm) then 3 else if mine.any (·.sbas) then 2 else 1
  let pos := match sol with
    | some x => some (x.lat, x.lon, x.height)
    | none => s.gns.seed.pos
  let s := s.withGns { s.gns with sol := sol, solAnt := a, fix := fix, epoch := some s.crs.frame, seed := { s.gns.seed with pos := pos } }
  let s := s.withTim { s.tim with gnsOffset := s.solOffset }
  match sol with
  | some x => match x.leap with
    | some n => (s.learnLeap 1 n.toNat).announceLeap (x.ann % 3)
    | none => s
  | none => s

/-- The measurements of an epoch with the checks C0 to C5. -/
def State.navMeasure (tk : Int) (obs : List GnsObs) (s : State) : List GnsMeas × State :=
  let r := (obs.filter s.obsFits).foldl (fun (b : List GnsMeas × State) o =>
    let x := b.2.navOne tk o
    (b.1 ++ [x.1], x.2)) ([], s)
  r.2.checkC5 tk (r.2.checkC4 r.1)

/-- The measurements with the bits of C6 and C7. -/
def marksC6C7 (a : Nat) (c6 c7 : Bool) (ms : List GnsMeas) : List GnsMeas :=
  ms.map (fun m =>
    let m := if c6 && m.o.ant == a then m.mark 6 else m
    if c7 then m.mark 7 else m)

/-- The heading of an epoch, none while C7 has declared an antenna. -/
def State.navHeading (hs : Nat × List (Nat × Int)) (s : State) : State :=
  if (s.gant 0).c7 || (s.gant 1).c7 then s.setHead 0 [] else s.setHead hs.1 hs.2

/-- The work of GNSS_NAV in the order of R115. -/
def State.gnssNav (nav : List (Nat × List Byte)) (iono : List Byte) (obs : List GnsObs) (sols : List (Option GnsSol))
    (hd : GnsHeading) (s : State) : State :=
  let tk := s.frameTime
  let s := nav.foldl (fun s p => s.noteEph p.1 p.2) s
  let s := if iono.isEmpty then s else s.withGns { s.gns with seed := { s.gns.seed with iono := iono } }
  let r := s.navMeasure tk obs
  let ms := r.1
  let s := (r.2.setSats 0 (rangingSats ms 0)).setSats 1 (rangingSats ms 1)
  let s := [0, 1].foldl (fun s a => if c1Majority ms a then s.declareSpoofed false a else s) s
  let a := s.solAntenna
  let sol := sols.getD a none
  let c6 := s.checkC6 a sol
  let s := c6.2
  let cs := s.headChans ms
  let hs := s.headState ms cs hd
  let c7 := s.failsC7 ms cs (decide (hs.1 = 2)) (s.solveBaseline ms (ambOf cs hs.2)).rms
  let s := if c7 then (s.declareSpoofed true 0).declareSpoofed true 1 else s
  let s := s.noteClean tk a c6.1 c7
  let s := (s.clearSpoofed 0).clearSpoofed 1
  let ms := marksC6C7 a c6.1 c7 ms
  let s := s.standalone a ms sol
  let s := s.navHeading hs
  let s := ms.foldl (fun s m => s.placeSignal tk m) s
  s.placeHeading tk ms cs hd

/-- GNSS_NAV (R115): `nav` and `iono` are what was decoded, `obs` the latched channels, `sols` the standalone solution of
each antenna, `hd` what the integer search found. -/
def execGnssNav (t : Nat) (nav : List (Nat × List Byte)) (iono : List Byte) (obs : List GnsObs) (sols : List (Option GnsSol))
    (hd : GnsHeading) (s : State) : Host.Outcome State Fault Refusal :=
  .next <| s.runItem 0x18 t fun s => if s.epochDue then s.gnssNav nav iono obs sols hd else s

/-- GNSS_QUERY: the standalone solution of the latest epoch (spec/17 R425). -/
def State.serveGnssQuery (w : Waiting) (s : State) : State :=
  let g := s.gns
  let out := match g.sol with
    | some x => wbytes x.lat ++ wbytes x.lon ++ wbytes x.height ++ ibytes 4 (satI 32 x.clock) ++ [byte g.fix, byte x.sats]
        ++ lebytes 2 (min 0xFFFF x.pdop) ++ [byte g.solAnt, byte x.raim]
    | none => List.replicate 16 0 ++ [0, 0, 0, 0, byte g.solAnt, 2]
  s.answer w (padTo 64 (wbytes (g.epoch.getD 0) ++ out))

/-! ## Snapshot (R129, R130) -/

/-- GNSS_SNAPSHOT: refused while a capture runs or its export is incomplete, and while an earlier one waits for its start
(DESIGN CHOICE, assumption 68); else its transfer takes its place and the buffer's banks wake (R472). -/
def State.takeSnapshot (w : Waiting) (secs ns dur streams tap : Nat) (s : State) : State :=
  let req : Int := (secs : Int) * 1000000000 + ns
  if s.gns.snap.state ≠ 0 then s.refuse w 1 else
  let x := s.hrg.nextXfer
  let s := s.wakeSnapshot.withHrg { s.hrg with
    nextXfer := x + 1, xfers := s.hrg.xfers ++ [{ kind := 1, tag := w.hdr.tag, xfer := x, rest := [], pos := 0, error := false }] }
  let sn : GnsSnap := { GnsSnap.reset with state := 1, cmd := some w, notBefore := max req (s.devTime + 1), dur := dur, streams := streams, tap := tap, xfer := x }
  s.withGns { s.gns with snap := sn }

/-- Active notches, bit 4s + n. -/
def State.notchAct (s : State) : Nat := maskOf (s.gns.notches.toList.map (·.active))

/-- SNAPSHOT_CAPTURE_START: the first course tick at or after the requested time. -/
def execSnapshotCaptureStart (t : Nat) (s : State) : Host.Outcome State Fault Refusal :=
  .next <| (s.instant t).whileRunning fun s =>
    let x := s.gns.snap
    let tick : Int := (s.clk.tickAt : Int) + s.clk.base
    if x.state = 1 ∧ x.notBefore ≤ tick then
      s.withGns { s.gns with snap := { x with
        state := 2, startNow := s.clk.tickAt, start := tick, jam := s.gns.jam.toList, act := s.notchAct, chg := 0 } }
    else s

/-- The 64-byte header of a snapshot over its stream data. -/
def GnsSnap.header (x : GnsSnap) (data : List Byte) : List Byte :=
  lebytes 4 0x50414E53 ++ lebytes 2 1 ++ [byte x.streams, byte x.dur] ++ ibytes 8 (x.start / 1000000000)
    ++ ibytes 4 (x.start % 1000000000) ++ lebytes 4 20480000 ++ [byte x.tap, byte x.chg, 0, 0] ++ lebytes 4 (10240 * x.dur)
    ++ padTo 4 (x.jam.map byte) ++ lebytes 2 x.act ++ List.replicate 22 0 ++ wbytes (crc32 data)

/-- SNAPSHOT_CAPTURE_DONE: the samples of the streams in order; the command completes and the export begins. -/
def execSnapshotCaptureDone (t : Nat) (samples : List Byte) (s : State) : Host.Outcome State Fault Refusal :=
  .next <| (s.instant t).whileRunning fun s =>
    let x := s.gns.snap
    if x.state ≠ 2 ∨ s.clk.now < x.startNow + 1000000 * x.dur then s else
    let n := ((List.range 4).filter (tbit x.streams)).length * x.dur * 10240
    let data := padTo n samples
    let s := s.withHrg { s.hrg with
      xfers := s.hrg.xfers.map (fun f => if f.kind = 1 ∧ f.xfer = x.xfer then { f with rest := x.header data ++ data } else f) }
    let s := s.withGns { s.gns with snap := { x with state := 3, cmd := none } }
    match x.cmd with
    | some w => s.done w x.xfer.toNat
    | none => s

/-- The export is complete once its transfer has left the list (R130). -/
def State.snapExported (s : State) : State :=
  if s.gns.snap.state = 3 ∧ s.hrg.xfers.all (fun f => f.kind != 1 || f.xfer != s.gns.snap.xfer) then
    (s.withGns { s.gns with snap := GnsSnap.reset }).retainSnapshot
  else s

end Sys2Proof.Machine
end

