-- ==== Sys2Proof/Machine/ImageRanges.lean ====
section
/-! DEFINITION. Checks 8 and 9 of the verification of an image: every field against its range, the limits, and the schedule
fit (spec/03_vessel_model_image.md R61 to R67, with the field tables of the chapters that R60 names). The spec gives check 8
no order among fields: the model takes the sections in order of ID, each by its records, then the rules that join them;
DESIGN CHOICE (assumption 28). -/

namespace Sys2Proof.Machine
open Sys2Proof

/-! ## Field tables -/

/-- A field of a table: byte offset, size, lowest and highest value; signed where the lowest value is negative. A reserved
field runs from 0 to 0. -/
abbrev FieldRow := Nat × Nat × Int × Int

/-- The value of a field. -/
def fieldVal (b : List Byte) (base : Nat) (f : FieldRow) : Int :=
  let x := ule b (base + f.1) f.2.1
  if f.2.2.1 < 0 then sext (8 * f.2.1) x else x

/-- The field lies in its range. -/
def fieldOk (b : List Byte) (base : Nat) (f : FieldRow) : Bool :=
  decide (f.2.2.1 ≤ fieldVal b base f ∧ fieldVal b base f ≤ f.2.2.2)

/-- The first field out of its range, as its offset in the section. -/
def badField (b : List Byte) (base : Nat) (fs : List FieldRow) : Option Nat :=
  (fs.find? (fun f => !fieldOk b base f)).map (fun f => base + f.1)

/-- A rule that fails gives the offset of its field. -/
def failIf (c : Bool) (off : Nat) : Option Nat := if c then some off else none

/-- The first failure of a list of checks. -/
def firstFail {α : Type} (l : List (Option α)) : Option α := l.findSome? id

/-- The first failure among the records of a section. -/
def badRecord (n : Nat) (f : Nat → Option Nat) : Option Nat := (List.range n).findSome? f

/-- A point number that may be none, outside the system area (R224, R372). -/
def pointOrNone (b : List Byte) (off : Nat) : Option Nat :=
  let x := u32 b off
  failIf (!(decide (2048 ≤ x ∧ x ≤ 131071) || x == 0xFFFFFFFF)) off

/-- A point number outside the system area (R372). -/
def pointField (off : Nat) : FieldRow := (off, 4, 2048, 131071)

/-- The largest positive range that the tables use for a 32-bit field. -/
def giga2 : Int := 2000000000

/-! ## SCHEDULE, HULL, ENVIRONMENT (R263, R135, R199) -/

/-- SCHEDULE. -/
def rangesSchedule : List FieldRow :=
  [(0, 1, 10, 100), (1, 1, 1, 10), (2, 2, 100, 1000), (4, 2, 1, 3000), (6, 2, 1, 1000), (0x0A, 2, 500, 1000), (0x0C, 4, 10000, 80000)]
  ++ [(0x10, 2, 0, 5000), (0x12, 2, 0, 2000), (0x14, 4, 0x038E38E4, 0x15555555), (0x18, 2, 500, 1000), (0x1A, 6, 0, 0)]

/-- SCHEDULE is 32 bytes long (R263). -/
def badSchedule (b : List Byte) : Option Nat := firstFail [failIf (b.length != 32) 0,
    badField b 0 rangesSchedule]

/-- HULL. -/
def rangesHull : List FieldRow :=
  [(0, 4, 1, giga2), (4, 4, 1, giga2), (0x0C, 4, 1, giga2), (0x10, 4, 0, giga2), (0x14, 4, 0, giga2), (0x1C, 4, 0, giga2)]
  ++ [(0x20, 4, 0, giga2), (0x24, 4, 0, giga2), (0x28, 4, 0, giga2), (0x2C, 2, 200, 3000), (0x2E, 2, 10, 500), (0x30, 2, 10, 10000)]
  ++ [(0x32, 2, 10, 10000), (0x34, 4, 1, 1000000), (0x38, 4, 1, 100000000), (0x3C, 2, 1, 10000), (0x3E, 2, 1, 10000), (0x40, 2, 1, 10000)]
  ++ [(0x42, 2, 1, 10000), (0x44, 2, 0, 5000), (0x46, 2, 0, 600), (0x48, 2, 5, 600), (0x4A, 2, 300, 1000), (0x4C, 2, 25, 3000)]
  ++ [(0x4E, 2, 10, 3600), (0x50, 4, 500, 50000), (0x54, 4, 1193046, 119304647), (0x59, 7, 0, 0)]

/-- HULL is 96 bytes long (R135). -/
def badHull (b : List Byte) : Option Nat :=
  firstFail [failIf (b.length != 96) 0,
    badField b 0 (rangesHull.take 27),
    failIf (decide (40 ≤ u8 b 0x58) && u8 b 0x58 != 0xFF) 0x58,
    badField b 0 (rangesHull.drop 27)]

/-- A quoin entry number, or 0xFF for none. -/
def badEntryByte (b : List Byte) (off : Nat) : Option Nat := failIf (decide (40 ≤ u8 b off) && u8 b off != 0xFF) off

/-- ENVIRONMENT is 880 bytes long (R199). -/
def badEnvironment (b : List Byte) : Option Nat :=
  firstFail [failIf (b.length != 880) 0,
    badEntryByte b 0x360,
    badEntryByte b 0x361,
    badField b 0 [(0x362, 2, 5, 600), (0x364, 2, 10, 1000), (0x366, 10, 0, 0)]]

/-! ## THRUSTERS and POWER (R61, R213, R223 to R225) -/

/-- A thruster descriptor. -/
def rangesThruster : List FieldRow :=
  [(1, 1, 0, 3), (2, 1, 0, 7), (3, 1, 0, 3), (4, 4, -200000, 200000), (8, 4, -50000, 50000), (0x0C, 4, 1, 20000000), (0x10, 4, 0, 20000000)]
  ++ [(0x14, 4, 1, 20000000), (0x18, 4, 1, 20000000), (0x1C, 4, 0, 0x40000000), (0x34, 2, 1, 65534), (0x36, 10, 0, 0)]

/-- One thruster descriptor: UNIT is its place, P_COEF holds n and P_IDLE in their ranges. -/
def badThruster (b : List Byte) (i : Nat) : Option Nat :=
  let o := 64 * i
  firstFail [failIf (u8 b o != i) o,
    badField b o (rangesThruster.take 10),
    failIf (decide (u16 b (o + 0x30) < 1000 ∨ 3000 < u16 b (o + 0x30) ∨ 2000 < u16 b (o + 0x32))) (o + 0x30),
    badField b o (rangesThruster.drop 10)]

/-- THRUSTERS holds 1 to 16 descriptors (R61, R66). -/
def badThrusters (b : List Byte) : Option Nat :=
  let n := b.length / 64
  firstFail [failIf (b.length % 64 != 0 || decide (n < 1 ∨ 16 < n)) 0,
    badRecord n (badThruster b)]

/-- The header of POWER. -/
def rangesPower : List FieldRow :=
  [(0, 4, 1, 1000000000), (4, 4, 1, 1000000000), (8, 4, 1, 1000000000), (0x0C, 2, 0, 10000), (0x0E, 2, 1, 100), (0x10, 2, 0, 500)]
  ++ [(0x12, 2, 1, 1000), (0x14, 2, 10, 5000), (0x16, 2, 10, 1000), (0x18, 2, 10, 500), (0x1A, 1, 1, 16), (0x1B, 1, 1, 8), (0x1C, 4, 0, 0)]

/-- A unit record: UNIT is its place, since the records are as many as the units and in ascending order. -/
def badUnitRecord (b : List Byte) (i : Nat) : Option Nat :=
  let o := 32 + 24 * i
  firstFail [failIf (u8 b o != i) o,
    badField b o [(1, 1, 0, 1), (2, 2, 100, 10000), (4, 2, 0, 500), pointField 0x0C],
    pointOrNone b (o + 0x10),
    pointOrNone b (o + 0x14)]

/-- A bus record. -/
def badBusRecord (b : List Byte) (units j : Nat) : Option Nat :=
  let o := 32 + 24 * units + 24 * j
  firstFail [badField b o [(0, 1, 0, 7)],
    failIf (decide (0 < j ∧ u8 b o ≤ u8 b (o - 24))) o,
    failIf (decide (8 ≤ u8 b (o + 1)) && u8 b (o + 1) != 0xFF) (o + 1),
    badField b o [(2, 2, 0, 0), pointField 4],
    pointOrNone b (o + 8),
    badField b o [(0x0C, 4, 0, 20000000), (0x10, 4, 0, 20000000), (0x14, 4, 0, 0)]]

/-- POWER (R223 to R225). -/
def badPower (b : List Byte) : Option Nat :=
  let u := u8 b 0x1A
  let n := u8 b 0x1B
  firstFail [badField b 0 rangesPower,
    failIf (b.length != 32 + 24 * u + 24 * n) 0,
    badRecord u (badUnitRecord b),
    badRecord n (badBusRecord b u)]

/-! ## REFERENCES, QUOIN (R147, R78, R80) -/

/-- A reference descriptor. -/
def badReference (b : List Byte) (i : Nat) : Option Nat :=
  let o := 32 * i
  firstFail [badField b o [(0, 1, 0, 15)],
    failIf (decide (0 < i ∧ u8 b o ≤ u8 b (o - 32))) o,
    badField b o [(1, 1, 0, 5), (2, 1, 0, 39), (3, 1, 0, 8), (4, 1, 0, 3), (5, 3, 0, 0), (8, 4, 1, 100000000), (0x10, 2, 150, 1000)],
    failIf (u8 b (o + 1) == 3 && u8 b (o + 3) == 0) (o + 3),
    badField b o [(0x12, 2, 1, 50), (0x14, 2, 50, 60000)],
    failIf (!(decide (1 ≤ u16 b (o + 0x16) ∧ u16 b (o + 0x16) ≤ 600) || u16 b (o + 0x16) == 0xFFFF)) (o + 0x16),
    badField b o [(0x18, 8, 0, 0)]]

/-- REFERENCES holds 1 to 16 descriptors (R147). -/
def badReferences (b : List Byte) : Option Nat :=
  let n := b.length / 32
  firstFail [failIf (b.length % 32 != 0 || decide (n < 1 ∨ 16 < n)) 0,
    badRecord n (badReference b)]

/-- Ports of each PORT_KIND (R78). -/
def portCount (kind : Nat) : Nat := [8, 2, 16, 2, 1, 1].getD kind 0

/-- The port settings word is legal for its PORT_KIND: no reserved code, every other bit 0 (R78, R80). -/
def settingsOk (kind w : Nat) : Bool :=
  match kind with
  | 0 => decide (bits w 0 3 ≤ 5 ∧ w < 32)
  | 1 => decide (bits w 0 2 ≤ 2 ∧ 1 ≤ bits w 3 5 ∧ bits w 3 5 ≤ 20 ∧ 1 ≤ bits w 8 12 ∧ 1 ≤ bits w 20 12)
  | 2 => decide (bits w 0 3 ≤ 5 ∧ bits w 3 3 ≤ 4 ∧ w < 1024)
  | 3 => w == 0
  | _ => decide (w < 4096)

/-- A quoin entry (R78). -/
def badQuoin (b : List Byte) (i : Nat) : Option Nat :=
  let o := 48 * i
  let k := u8 b (o + 1)
  firstFail [badField b o [(0, 1, 0, 39)],
    failIf (decide (0 < i ∧ u8 b o ≤ u8 b (o - 48))) o,
    badField b o [(1, 1, 0, 5), (2, 1, 0, (portCount k : Int) - 1), (3, 1, 0, 15), (4, 4, -200000, 200000), (8, 4, -50000, 50000), (0x0C, 4, -50000, 50000)],
    failIf (!settingsOk k (u32 b (o + 0x1C))) (o + 0x1C),
    badField b o [(0x28, 4, 0, 1000000000), (0x2C, 2, 1, 6400), (0x2E, 2, 1, 60000)]]

/-- QUOIN holds 1 to 40 entries. -/
def badQuoins (b : List Byte) : Option Nat :=
  let n := b.length / 48
  firstFail [failIf (b.length % 48 != 0 || decide (n < 1 ∨ 40 < n)) 0,
    badRecord n (badQuoin b)]

/-! ## GAINS, CASES (R194, R62) -/

/-- A gain set, behind its SET, MODE_MASK and WAVE_MAX. -/
def rangesGains : List FieldRow :=
  (List.range 12).map (fun i => (4 + 4 * i, 4, (0 : Int), giga2)) ++ [(0x34, 2, 0, 1000), (0x36, 2, 0, 1000), (0x38, 8, 0, 0)]

/-- GAINS holds 1 to 8 sets in ascending order, and each of modes 2 to 5 lies in some set's MODE_MASK (R194). -/
def badGains (b : List Byte) : Option Nat :=
  let n := b.length / 64
  firstFail [failIf (b.length % 64 != 0 || decide (n < 1 ∨ 8 < n)) 0,
    badRecord n (fun i => firstFail [badField b (64 * i) [(0, 1, 0, 7)],
      failIf (decide (0 < i ∧ u8 b (64 * i) ≤ u8 b (64 * i - 64))) (64 * i),
      badField b (64 * i) rangesGains]),
    failIf (!([2, 3, 4, 5].all (fun m => (List.range n).any (fun i => tbit (u8 b (64 * i + 1)) m)))) 0]

/-- CASES holds 0 to 63 records in ascending order; each mask names units of THRUSTERS alone, and no two records agree in
mask and cap (R62). -/
def badCases (units : Nat) (b : List Byte) : Option Nat :=
  let n := b.length / 8
  let key (i : Nat) : Nat × Nat := (u16 b (8 * i + 2), u32 b (8 * i + 4))
  firstFail [failIf (b.length % 8 != 0 || decide (63 < n)) 0,
    badRecord n (fun i => firstFail [badField b (8 * i) [(0, 1, 1, 63)],
      failIf (decide (0 < i ∧ u8 b (8 * i) ≤ u8 b (8 * i - 8))) (8 * i),
      badField b (8 * i) [(1, 1, 0, 15), (2, 2, 1, (2 : Int) ^ units - 1)],
      failIf ((List.range i).any (fun j => key j == key i)) (8 * i + 2)])]

/-! ## PROBLEMS (R239, R63, R64, R241, R267, R285) -/

/-- Length of a template record: header and arrays, padded to a multiple of 8. -/
def tmplLength (t : List Byte) : Nat := (40 + 3 * tmNvar t + 3 * tmRows t + 7) / 8 * 8

/-- The byte string of the structure signature (R64). -/
def sigBytes (t : List Byte) : List Byte :=
  [byte (tmNvar t), byte (tmNcon t)] ++ slice t 40 (2 * tmNvar t) ++ slice t (40 + 3 * tmNvar t) (tmRows t)

/-- A constraint kind byte is one of the table of R241. -/
def kindByteOk (k : Nat) : Bool :=
  let i := k % 16
  match k / 16 with
  | 1 | 2 => decide (i ≤ 5)
  | 3 => decide (i ≤ 1)
  | 4 | 5 => decide (i ≤ 2)
  | 6 => decide (i ≤ 7)
  | 7 => true
  | _ => false

/-- The first failure of a template record, as its offset in the record. -/
def badTemplate (t : List Byte) : Option Nat :=
  let k := u8 t 2
  let n := tmNvar t
  let m := tmNcon t
  firstFail [badField t 0 [(0, 2, 0, 191), (2, 1, 1, 3), (3, 1, 1, if k = 3 then 24 else 32)],
    failIf (!(if k = 1 then decide (1 ≤ m ∧ m ≤ 4) else if k = 2 then decide (m ≤ 48) else m == 0)) 4,
    badField t 0 [(6, 1, 1, 255), (7, 1, (u8 t 6 : Int), 255)],
    failIf (word (u32 t 8) != crc32 (sigBytes t)) 8,
    badField t 0 [(0x0C, 4, 1, 0x7FFFFFFF), (0x10, 4, 1, 0x7FFFFFFF), (0x14, 4, 1, 0x7FFFFFFF), (0x18, 4, 1, 0x7FFFFFFF), (0x1C, 4, 1, 0x7FFFFFFF)],
    failIf (u16 t 0x20 != tmplLength t) 0x20,
    badField t 0 [(0x22, 6, 0, 0)],
    failIf (k != 2 && (slice t 40 (2 * n)).any (· != 0)) 40,
    failIf (!((List.range (tmRows t)).all (fun i => kindByteOk (tmKind t i)))) (40 + 3 * n),
    failIf ((t.drop (40 + 3 * n + 3 * tmRows t)).any (· != 0)) (40 + 3 * n + 3 * tmRows t)]

/-- The offsets of the template records. -/
def tmplOffsets : Nat → List (List Byte) → List Nat
  | _, [] => []
  | o, t :: r => o :: tmplOffsets (o + t.length) r

/-- The variables of the nominal problem: tags in unit order, then the slack block (R203). -/
def structTags (kinds : List Nat) : List Nat :=
  ((List.range kinds.length).map (fun u =>
    let k := kinds.getD u 0
    (if k = 0 then [1] else if k = 2 then [0, 4] else [2, 3]).map (fun a => 256 * a + u))).flatten ++ [0x5FF, 0x5FF, 0x5FF]

/-- The constraint keys of R203, group by group: a unit's constraints, the slack block, each power constraint. Within a group
the order is the template's. -/
def structKeys (kinds buses : List Nat) : List (List Nat) :=
  ((List.range kinds.length).map (fun u =>
    let k := kinds.getD u 0
    (if k = 0 then [0x11, 0x21] else if k = 2 then [0x10, 0x20, 0x30, 0x31] else [0x12, 0x22, 0x13, 0x23]).map (fun a => a + 256 * u)))
  ++ [[0x40, 0x41, 0x42, 0x50, 0x51, 0x52].map (fun a => a + 0xFF00)] ++ buses.map (fun x => [0x60 + x + 0xFF00])

/-- Keys stand in the order of the groups. -/
def keysInOrder : List (List Nat) → List Nat → Bool
  | [], ks => ks.isEmpty
  | g :: gs, ks =>
    let sort := sortBy (fun a b : Nat => decide (a ≤ b))
    sort (ks.take g.length) == sort g && keysInOrder gs (ks.drop g.length)

/-- A template has the structure of R203. -/
def structOk (kinds buses : List Nat) (t : List Byte) : Bool :=
  u8 t 2 == 2 && (tmTags t).map BitVec.toNat == structTags kinds
    && keysInOrder (structKeys kinds buses) ((tmKeys t).map BitVec.toNat)

/-- PROBLEMS (R239): templates 0 and 1 with the structure of R203 and one signature (R267). -/
def badProblems (kinds buses : List Nat) (b : List Byte) : Option Nat :=
  let ts := tmplWalk 193 b
  let os := tmplOffsets 0 ts
  let total := sumNat (ts.map List.length)
  let at0 (i : Nat) : Nat := os.getD i 0
  let find (x : Nat) : Option (Nat × List Byte) := ((os.zip ts).find? (fun p => u16 p.2 0 == x))
  firstFail [failIf (total != b.length || decide (ts.length < 1 ∨ 192 < ts.length)) (total % 65536),
    badRecord ts.length (fun i => (badTemplate (ts.getD i [])).map (fun o => at0 i + o)),
    badRecord ts.length (fun i => failIf (decide (0 < i ∧ u16 (ts.getD i []) 0 ≤ u16 (ts.getD (i - 1) []) 0)) (at0 i)),
    match find 0, find 1 with
      | some t0, some t1 =>
      firstFail [failIf (!structOk kinds buses t0.2) t0.1,
      failIf (!structOk kinds buses t1.2) t1.1,
      failIf (u32 t0.2 8 != u32 t1.2 8) (t1.1 + 8)]
      | _, _ => some 0]

/-! ## BALLAST (R284, R285) -/

/-- The header of BALLAST. -/
def rangesBallast : List FieldRow :=
  [(0, 1, 1, 32), (1, 1, 1, 16), (2, 1, 0, 64), (3, 1, 1, 12), (4, 2, 2, 191), (6, 1, 1, 255), (8, 4, 1, 2000000), (0x10, 4, 100, 20000)]
  ++ [(0x14, 4, 10000, 1000000), (0x18, 2, 10, 600), (0x1A, 2, 10, 600), (0x1C, 2, 5, 500), (0x1E, 2, 5, 500), (0x20, 2, 0, 10000)]
  ++ [(0x22, 2, 0, 10000), (0x24, 2, 1, 10000), (0x26, 2, 100, 60000), (0x38, 8, 0, 0)]

/-- BALLAST, with the template of the trim problem. -/
def badBallast (tm : Nat → Option (List Byte)) (b : List Byte) : Option Nat :=
  let nt := u8 b 0
  let np := u8 b 1
  let nv := u8 b 2
  let nr := u8 b 3
  let po := 64 + 24 * nt
  let vo := po + 16 * np
  let ro := vo + 16 * nv
  let route (i : Nat) (f : Nat) : Nat := u8 b (ro + 16 * i + f)
  let tanks := ((List.range nr).map (fun i => [route i 2, route i 3])).flatten.eraseDups.length
  let pumps := ((List.range nr).map (fun i => route i 1)).eraseDups.length
  let rows := 2 * nr + pumps + 2 * tanks
  firstFail [badField b 0 rangesBallast,
    failIf (b.length != ro + 16 * nr) 0,
    pointOrNone b 0x0C,
    badRecord 4 (fun i => pointOrNone b (0x28 + 4 * i)),
    badRecord nt (fun i => let o := 64 + 24 * i
      firstFail [failIf (u8 b o != i) o,
      badField b o [(1, 1, 0, 0), (2, 2, 1000, 2000), (4, 4, -200000, 200000), (8, 4, -50000, 50000)],
      failIf (decide (u32 b (o + 0x10) ≤ u32 b (o + 0x0C))) (o + 0x0C),
      badField b o [pointField 0x14]]),
    badRecord np (fun i => let o := po + 16 * i
      firstFail [failIf (u8 b o != i) o,
      badField b o [(1, 3, 0, 0), (4, 4, 1, 100000), pointField 8, pointField 0x0C]]),
    badRecord nv (fun i => let o := vo + 16 * i
      firstFail [failIf (u8 b o != i) o,
      badField b o [(1, 1, 0, 0), (2, 2, 1, 600), (4, 4, 0, 0), pointField 8, pointField 0x0C]]),
    badRecord nr (fun i => let o := ro + 16 * i
      firstFail [failIf (u8 b o != i) o,
      badField b o [(1, 1, 0, (np : Int) - 1), (2, 1, 0, (nt : Int) - 1), (3, 1, 0, (nt : Int) - 1), (4, 4, 0, 0)],
      failIf (u8 b (o + 2) == u8 b (o + 3)) (o + 3),
      failIf (decide (2 ^ nv ≤ ule b (o + 8) 8)) (o + 8)]),
    failIf (decide (48 < rows)) 3,
    match tm (u16 b 4) with
      | some t => failIf (u8 t 2 != 2 || tmNvar t != nr || tmNcon t != rows) 4
      | none => some 4]

/-! ## ROUTES (R373, R374) -/

/-- IDENT of a route entry is legal for its KIND. -/
def identOk (r : List Byte) : Bool :=
  match u8 r 2 with
  | 0 => ule r 0x14 4 == 0
  | 1 => u8 r 0x15 == 0xFF && u16 r 0x16 == 0
  | 2 => decide (u32 r 0x10 ≤ 0x3FFFF ∧ u8 r 0x15 ≤ 2) && u16 r 0x16 == 0
  | 3 => decide (u8 r 0x15 ≤ 7) && u16 r 0x16 == 0
  | 4 => decide (u8 r 0x10 ≤ 15) && ule r 0x11 7 == 0
  | _ => ule r 0x10 8 == 0

/-- A route entry (R373). -/
def badRoute (b : List Byte) (i : Nat) : Option Nat :=
  let o := 24 * i
  firstFail [badField b o [(0, 2, 0, 4095)],
    failIf (decide (0 < i ∧ u16 b o ≤ u16 b (o - 24))) o,
    badField b o [(2, 1, 0, 5), (3, 1, 0, 31), (4, 4, 2048, 131071), (8, 1, 0, 32), (9, 1, 1, 5), (0x0A, 2, 0, 60000), (0x0C, 2, 0, 255), (0x0E, 1, 0, 9), (0x0F, 1, 1, 255)],
    failIf (!identOk (slice b o 24)) (o + 0x10)]

/-- ROUTES holds 0 to 4,096 entries. -/
def badRoutes (b : List Byte) : Option Nat :=
  let n := b.length / 24
  firstFail [failIf (b.length % 24 != 0 || decide (4096 < n)) 0,
    badRecord n (badRoute b)]

/-- The first block of a list, sorted by first point, that overlaps an earlier one: its place. -/
def overlapAt : Nat → List (Nat × Nat × Nat) → Option Nat
  | _, [] => none
  | top, x :: r => if x.1 < top then some x.2.2 else overlapAt (max top (x.1 + x.2.1)) r

/-- R374: blocks within the image, outbound entries of KIND 0, no two inbound entries alike, and no two inbound blocks,
imports among them (R525), overlap. -/
def badBlocks (b link : List Byte) : Option Nat :=
  let n := b.length / 24
  let e (i : Nat) : List Byte := slice b (24 * i) 24
  let inb (i : Nat) : Bool := !tbit (u8 (e i) 3) 0
  let ident (i : Nat) : Nat × Nat := (u8 (e i) 2, ule (e i) 0x10 8)
  let mine : List (Nat × Nat × Nat) :=
    ((List.range n).filter (fun i => inb i && u8 (e i) 8 != 0)).map (fun i => (u32 (e i) 4, u8 (e i) 8, 24 * i + 4))
  let imps : List (Nat × Nat × Nat) := (List.range (u8 link 0x0B)).map (fun i => (u32 (lkImport link i) 4, u8 (lkImport link i) 2, 0))
  firstFail [badRecord n (fun i => firstFail [failIf (decide (131072 < u32 (e i) 4 + u8 (e i) 8)) (24 * i + 4),
      failIf (!inb i && u8 (e i) 2 != 0) (24 * i + 2),
      failIf (inb i && (List.range i).any (fun j => inb j && ident j == ident i)) (24 * i + 0x10)]),
    failIf (imps.any (fun x => decide (131072 < x.1 + x.2.1))) 0,
    overlapAt 0 (sortBy (fun x y => decide (x.1 ≤ y.1)) (mine ++ imps))]

/-! ## SAFETY (R350) -/

/-- A multicast IPv4 address, in network byte order. PRESUMED (assumption 28): 224.0.0.0 to 239.255.255.255. -/
def multicastOk (b : List Byte) (off : Nat) : Bool := decide (224 ≤ u8 b off ∧ u8 b off ≤ 239)

/-- A unicast IPv4 address. PRESUMED (assumption 28): first octet 1 to 223 but for 127. -/
def unicastOk (b : List Byte) (off : Nat) : Bool := decide (1 ≤ u8 b off ∧ u8 b off ≤ 223) && u8 b off != 127

/-- SAFETY (R350). -/
def badSafety (units : Nat) (b : List Byte) : Option Nat :=
  let ni := u8 b 0
  let no := u8 b 1
  let nr := u8 b 2
  let oo := 32 + 8 * ni
  let ro := oo + 8 * no
  let mask : Int := (2 : Int) ^ units - 1
  firstFail [badField b 0 [(0, 1, 0, 16), (1, 1, 0, 8), (2, 1, 0, 8), (3, 1, 1, 254), (4, 2, 1, 3600), (6, 2, 1, 20)],
    failIf (!multicastOk b 8) 8,
    failIf (!multicastOk b 0x0C) 0x0C,
    badField b 0 [(0x10, 2, 1024, 65535), (0x12, 2, 10, 1000), (0x14, 12, 0, 0)],
    failIf (b.length != ro + 8 * nr) 0,
    badRecord ni (fun i => firstFail [failIf (u8 b (32 + 8 * i) != i) (32 + 8 * i),
      badField b (32 + 8 * i) [(1, 1, 0, 3), (2, 2, 10, 2000), (4, 2, 0, mask), (7, 1, 0, 0)]]),
    badRecord no (fun i => firstFail [failIf (u8 b (oo + 8 * i) != i) (oo + 8 * i),
      badField b (oo + 8 * i) [(1, 1, 0, 1), (2, 2, 200, 1000), (4, 2, 100, 60000), (6, 2, 0, 0)]]),
    badRecord nr (fun i => firstFail [badField b (ro + 8 * i) [(0, 1, 1, 254)],
      failIf (u8 b (ro + 8 * i) == u8 b 3) (ro + 8 * i),
      badField b (ro + 8 * i) [(1, 1, 0, 15), (2, 2, 0, mask), (5, 1, 0, 1), (6, 2, 0, 0)]])]

/-! ## NETWORK (R385, R392 to R394, R406, R525) -/

/-- The network part. -/
def badNetPart (b : List Byte) : Option Nat :=
  firstFail [failIf (!unicastOk b 0) 0,
    failIf (!unicastOk b 4) 4,
    badField b 0 [(8, 1, 8, 30), (9, 1, 8, 30), (0x0A, 2, 1, 65518)],
    failIf (!multicastOk b 0x0C) 0x0C,
    failIf (!multicastOk b 0x10) 0x10,
    badField b 0 [(0x14, 2, 1024, 65535), (0x16, 2, 1024, 65535)],
    failIf (!multicastOk b 0x18) 0x18,
    failIf (!multicastOk b 0x1C) 0x1C,
    badField b 0 [(0x24, 1, 0, 3), (0x25, 1, 0, 3), (0x26, 1, 0, 2), (0x27, 1, 8, 30)],
    failIf (u8 b 0x26 != 0 && !unicastOk b 0x28) 0x28,
    badField b 0 [(0x2C, 20, 0, 0)]]

/-- Nominal bit time of a CAN record, in cycles of 80 MHz (R392). -/
def canNom (b : List Byte) (o : Nat) : Nat := u16 b (o + 4) * (1 + u8 b (o + 6) + u8 b (o + 7))

/-- Data bit time. -/
def canDat (b : List Byte) (o : Nat) : Nat := u8 b (o + 9) * (1 + u8 b (o + 0x0A) + u8 b (o + 0x0B))

/-- A sample point lies from 70 % to 90 % (R392). -/
def sampleOk (s1 s2 : Nat) : Bool := decide (70 * (1 + s1 + s2) ≤ 100 * (1 + s1) ∧ 100 * (1 + s1) ≤ 90 * (1 + s1 + s2))

/-- Worst-case bus time of a keystone segment, µs, by the cycles of a nominal and a data bit. The spec states it for four
pairs of rates; for another it is free (R394). DESIGN CHOICE (assumption 28). -/
def segmentTime (nom dat : Nat) : Nat :=
  if nom = 80 ∧ dat = 16 then 90 else if nom = 80 ∧ dat = 40 then 173
  else if nom = 160 ∧ dat = 16 then 124 else if nom = 160 ∧ dat = 40 then 207 else Config.segmentTime nom dat

/-- A CAN record: ranges, R392, R394 and R406. -/
def badCanRecord (b : List Byte) (l units : Nat) (pair : Bool) (c : Nat) : Option Nat :=
  let o := 0x40 + 32 * c
  let use := u8 b (o + 1)
  let mode := u8 b (o + 2)
  let nom := canNom b o
  let dat := canDat b o
  let ks := tbit use 0
  firstFail [failIf (u8 b o != c) o,
    badField b o [(1, 1, 0, 7), (2, 1, 0, 31), (3, 1, 0, 0), (4, 2, 1, 32), (6, 1, 2, 255), (7, 1, 1, 128), (8, 1, 1, (u8 b (o + 7) : Int))],
    badField b o [(9, 1, 1, 32), (0x0A, 1, 1, 32), (0x0B, 1, 1, 16), (0x0C, 1, 1, (u8 b (o + 0x0B) : Int)), (0x0D, 1, 0, 127), (0x0E, 2, 10, 60000)],
    badField b o [(0x10, 2, 0, 0x7E0), (0x12, 2, 0, 0x7FF), (0x14, 12, 0, 0)],
    failIf (decide (nom < 80 ∨ 640 < nom)) (o + 4),
    failIf (decide (dat < 16 ∨ nom < dat)) (o + 9),
    failIf (!sampleOk (u8 b (o + 6)) (u8 b (o + 7))) (o + 6),
    failIf (!sampleOk (u8 b (o + 0x0A)) (u8 b (o + 0x0B))) (o + 0x0A),
    failIf (ks && tbit use 1) (o + 1),
    failIf (ks && !tbit mode 0) (o + 2),
    failIf (tbit use 1 && (tbit mode 0 || nom != 320)) (o + 2),
    failIf (ks && tbit use 2 && decide (u16 b (o + 0x10) ≤ u16 b (o + 0x12))) (o + 0x12),
    failIf (ks && decide (1000 * l < 4 * ((if pair then 2 else 1) * units * segmentTime nom dat))) (o + 4)]

/-- The link part (R525). -/
def badLinkPart (l : List Byte) (pair : Bool) : Option Nat :=
  let ne := u8 l 0x0A
  let ni := u8 l 0x0B
  let nl := u8 l 0x0C
  let io := 16 + 8 * ne
  let lo := io + 8 * ni
  firstFail [badField l 0 [(0, 4, 1, 0xFFFFFFFE), (4, 2, 20, 200), (6, 2, 3, 100), (8, 1, 0, 1), (9, 1, 2, 32), (0x0A, 1, 0, if pair then 0 else 16)],
    badField l 0 [(0x0B, 1, 0, if pair then 0 else 16), (0x0C, 1, 0, if pair then 0 else 63), (0x0D, 3, 0, 0)],
    failIf (l.length != lo + 2 * nl) 0,
    badRecord ne (fun i => badField l (16 + 8 * i) [(0, 1, 0, 15), (1, 1, 1, 64), (2, 1, 1, 255), (3, 1, 0, 0), (4, 4, 0, 131071)]),
    badRecord ni (fun i => badField l (io + 8 * i) [(0, 1, 0, 31), (1, 1, 0, 15), (2, 1, 1, 64), (3, 1, 1, 10), (4, 4, 2048, 131071)]),
    badRecord nl (fun i => badField l (lo + 2 * i) [(0, 1, 1, 63), (1, 1, 1, 255)])]

/-- The address check of R385 with a UNIT_ID: the offset of the first address that fails. -/
def badAddress (uid : Nat) (b : List Byte) : Option Nat :=
  let bad (ip pre : Nat) : Bool :=
    let last := u8 b (ip + 3) + uid
    let a := u8 b ip * 16777216 + u8 b (ip + 1) * 65536 + u8 b (ip + 2) * 256 + last % 256
    let h := 2 ^ (32 - u8 b pre)
    decide (255 < last) || a % h == 0 || a % h == h - 1
  firstFail [failIf (bad 0 8) 0,
    failIf (bad 4 9) 4,
    failIf (u8 b 0x26 != 0 && bad 0x28 0x27) 0x28]

/-! ## LIMITS (R198) -/

/-- LIMITS. -/
def rangesLimits : List FieldRow :=
  [(0, 4, 0, 7), (4, 4, 1, giga2), (8, 4, 1, giga2), (0x0C, 4, 1, giga2), (0x10, 4, 100, 1000000), (0x14, 4, 0, 0x80000000), (0x18, 2, 50, 3000)]
  ++ [(0x1A, 2, 10, 5000), (0x1C, 2, 1, 1000), (0x1E, 2, 0, 0), (0x20, 4, 1, 0x01000000), (0x24, 4, 1, 0x01000000), (0x28, 4, 100, 100000)]
  ++ [(0x2C, 4, 100, 100000), (0x38, 4, 2048, 131069), (0x3C, 2, 10, 5000), (0x3E, 2, 0, 200), (0x40, 2, 1, 1000), (0x42, 2, 1, 1000)]
  ++ [(0x44, 2, 1, 3600), (0x46, 2, 10, 5000), (0x48, 2, 10, 10000), (0x4A, 2, 0, 0), (0x4C, 4, 1000, 10000000), (0x50, 4, 1000, 1000000)]
  ++ [(0x54, 4, 500, 1000000), (0x58, 4, 500, 1000000), (0x5C, 4, 1000, 10000000), (0x60, 4, 1000, 200000), (0x64, 4, 100, 10000)]
  ++ [(0x6C, 2, 10, 2000), (0x6E, 2, 10, 1000), (0x70, 2, 0, 500), (0x72, 14, 0, 0)]

/-- LIMITS is 128 bytes long. -/
def badLimits (b : List Byte) : Option Nat := firstFail [failIf (b.length != 128) 0,
    badField b 0 rangesLimits]

/-! ## Rules that join sections -/

/-- The quoin entries of a QUOIN section. -/
def quoinsOf (b : List Byte) : List (List Byte) := (List.range (b.length / 48)).map (recAt b 48)

/-- The kinds of the thruster units. -/
def kindsOf (b : List Byte) : List Nat := (List.range (b.length / 64)).map (fun i => u8 b (64 * i + 1))

/-- The buses of a POWER section. -/
def busesOf (b : List Byte) : List Nat := (List.range (u8 b 0x1B)).map (fun j => u8 b (32 + 24 * u8 b 0x1A + 24 * j))

/-- The variables and constraints of the nominal problem fit the array (R204). -/
def structFits (kinds buses : List Nat) : Bool :=
  let n1 := (kinds.filter (· == 0)).length
  let n2 := kinds.length - n1
  decide (n1 + 2 * n2 + 3 ≤ 32 ∧ 2 * n1 + 4 * n2 + 6 + buses.length ≤ 48)

/-- POWER agrees with THRUSTERS (R223, R224). -/
def badPowerJoin (thr pw : List Byte) : Option Nat :=
  let n := thr.length / 64
  let kinds := kindsOf thr
  firstFail [failIf (u8 pw 0x1A != n) 0x1A,
    failIf (!((List.range n).all (fun i => (busesOf pw).contains (u8 thr (64 * i + 2))))) 0x1B,
    badRecord n (fun i => let o := 32 + 24 * i
      if kinds.getD i 0 = 2 then badField pw o [(6, 2, 50, 1000), (8, 4, 1, 0x15555555)] else badField pw o [(6, 2, 0, 0), (8, 4, 0, 0)])]

/-- Both antennas of a part are among the quoin entries. -/
def bothAntennas (qs : List (List Byte)) (pair : Bool) (member : Nat) : Bool :=
  [0, 1].all (fun p => qs.any (fun q => qnKind q == 3 && qnPort q == p && (!pair || qnMember q == member)))

/-- ENTRY of a reference names a quoin entry of the kind its source needs (R147). -/
def badRefJoin (qs : List (List Byte)) (pair : Bool) (rf : List Byte) : Option Nat :=
  badRecord (rf.length / 32) (fun i => let o := 32 * i
    let src := u8 rf (o + 1)
    match qs.find? (fun q => qnEntry q == u8 rf (o + 2)) with
    | none => some (o + 2)
    | some q => failIf (!(if src ≤ 1 then qnKind q == 3 && (src == 0 || bothAntennas qs pair (qnMember q)) else [0, 4, 5].contains (qnKind q))) (o + 2))

/-- Squared distance of the lever arms of two quoin entries, mm². -/
def leverDist2 (a b : List Byte) : Int :=
  let d (o : Nat) : Int := i32 a o - i32 b o
  d 4 * d 4 + d 8 * d 8 + d 0x0C * d 0x0C

/-- QUOIN with SCHEDULE and ROUTES (R78, R80, R106). The pair's members are this part and the partner it has heard, any
unit while it has heard none; DEDUCED (assumption 28). -/
def badQuoinJoin (l : Nat) (pair : Bool) (uid : Nat) (partner : Option Nat) (routes q : List Byte) : Option Nat :=
  let qs := quoinsOf q
  let e (i : Nat) : List Byte := qs.getD i []
  let key (i : Nat) : Nat × Nat × Nat :=
    if 4 ≤ qnKind (e i) then (4, qnSet (e i) 0 12, 0) else (qnKind (e i), qnPort (e i), if pair then qnMember (e i) else 0)
  let rk (r : Nat) : Option Nat := ((List.range (routes.length / 24)).find? (fun i => u16 routes (24 * i) == r)).map (fun i => u8 routes (24 * i + 2))
  badRecord qs.length (fun i => let o := 48 * i
    let k := qnKind (e i)
    firstFail [failIf ((List.range i).any (fun j => key j == key i)) (o + if 4 ≤ k then 0x1C else 2),
    failIf (decide (4 ≤ k) && rk (qnSet (e i) 0 12) != some (k - 3)) (o + 0x1C),
    failIf (decide (4 ≤ k) && pair && qnMember (e i) != uid && partner.any (fun p => p != qnMember (e i))) (o + 3),
    failIf (decide (64 * l < u16 (e i) 0x2C)) (o + 0x2C),
    failIf (k == 2 && decide (u16 (e i) 0x2C < (groupDelay (e i) + 999999) / 1000000 + 2)) (o + 0x2C),
    failIf (k == 3 && (List.range i).any (fun j => qnKind (e j) == 3 && (!pair || qnMember (e j) == qnMember (e i))
      && !decide (250000 ≤ leverDist2 (e j) (e i) ∧ leverDist2 (e j) (e i) ≤ 400000000))) (o + 4)])

/-! ## Check 8 as a whole -/

/-- A failure named with its section. -/
def inSection (id : Nat) (x : Option Nat) : Option (Nat × Nat) := x.map (fun o => (id, o))

/-- The fields of each section, in order of ID. -/
def badFields (b : List Byte) : Option (Nat × Nat) :=
  let sec (i : Nat) : List Byte := imgSection b i
  let units := imgUnits b
  let pair := tbit (u32 b 0x1C) 0
  let linked := decide (u32 b 0x1C % 4 ≠ 0)
  let net := sec 0x0E
  firstFail [inSection 1 (badSchedule (sec 1)),
    inSection 2 (badHull (sec 2)),
    inSection 3 (badEnvironment (sec 3)),
    inSection 4 (firstFail [badThrusters (sec 4), failIf (!structFits (kindsOf (sec 4)) (busesOf (sec 5))) 0]),
    inSection 5 (badPower (sec 5)),
    inSection 6 (badReferences (sec 6)),
    inSection 7 (badQuoins (sec 7)),
    inSection 8 (badGains (sec 8)),
    inSection 9 (badCases units (sec 9)),
    inSection 0x0A (badProblems (kindsOf (sec 4)) (busesOf (sec 5)) (sec 0x0A)),
    inSection 0x0B (if (dirFind b 0x0B).isSome then badBallast (imgTemplate b) (sec 0x0B) else none),
    inSection 0x0C (badRoutes (sec 0x0C)),
    inSection 0x0D (badSafety units (sec 0x0D)),
    inSection 0x0E (firstFail [failIf (decide (net.length < 0xA0)) 0,
      badNetPart net,
      badRecord 3 (badCanRecord net (u8 (sec 1) 0) units pair),
      if linked then (badLinkPart (net.drop 0xA0) pair).map (· + 0xA0) else none]),
    inSection 0x0F (badLimits (sec 0x0F))]

/-- The rules that join sections, in order of the section named. -/
def badJoins (uid : Nat) (partner : Option Nat) (b : List Byte) : Option (Nat × Nat) :=
  let sec (i : Nat) : List Byte := imgSection b i
  let pair := tbit (u32 b 0x1C) 0
  let link : List Byte := if u32 b 0x1C % 4 ≠ 0 then (sec 0x0E).drop 0xA0 else []
  firstFail [inSection 5 (badPowerJoin (sec 4) (sec 5)),
    inSection 6 (badRefJoin (quoinsOf (sec 7)) pair (sec 6)),
    inSection 7 (badQuoinJoin (u8 (sec 1) 0) pair uid partner (sec 0x0C) (sec 7)),
    inSection 0x0C (badBlocks (sec 0x0C) link),
    inSection 0x0E (failIf (u32 b 0x1C % 4 == 3) 0),
    inSection 0x0E (if pair then badAddress uid (sec 0x0E) else none)]

/-! ## Check 9: the schedule fit (R45, R270) -/

/-- The sum of the sizes of the slices in work in a frame of analysis count `f`: eight steps follow each start (R274, R275). -/
def sliceSteps (points r f : Nat) : Nat :=
  let size := (points + r - 1) / r
  sumNat ((List.range r).map (fun j =>
    min size (points - j * size) * ((List.range 8).filter (fun t => (f + 8 * r - t) % r == j)).length))

/-- The worst-case time of a problem of a template, in core cycles: BUDGET_COLD iterations, the check of a BUDGET result
and one ridge retry (R255). -/
def worstCycles (t : List Byte) : Nat :=
  30 + laneCycles 2 (tmNvar t) (tmNcon t) (4 * (blockWords 2 (tmNvar t) (tmNcon t)).1) (u8 t 7) true true

/-- Bytes of data and result block of a problem of a template (R243). -/
def blockBytes (t : List Byte) : Nat :=
  4 * (blockWords 2 (tmNvar t) (tmNcon t)).1 + 4 * (blockWords 2 (tmNvar t) (tmNcon t)).2 + 16

/-- Cycles of the array exceed a share, in 0.1 %, of the time from course 0 slot 34 to the end of a course on 56 lanes at
600 MHz: 600 cycles a µs, 680 µs of course 0 gone. -/
def overTime (cycles share course : Nat) : Bool :=
  decide (share * 56 * 600 * (1000 * (course + 1) - 680) < 1000 * cycles)

/-- The schedule fit of R270. -/
def scheduleFits (b : List Byte) : Bool :=
  let sc := imgSection b 1
  let l := u8 sc 0
  let r := max 1 (u8 sc 1)
  let share := u16 sc 2
  let t0 := (imgTemplate b 0).getD []
  let t1 := (imgTemplate b 1).getD []
  let n := (imgSection b 9).length / 8 + 1
  let steps := ((List.range r).map (sliceSteps (36 * n) r)).foldl max 0
  !(overTime (n * worstCycles t0 + steps * worstCycles t1) share (envCourse l) || overTime (n * worstCycles t0) share (caseCourse l)
    || decide (4096 < n + steps) || decide (4194304 < n * blockBytes t0 + steps * blockBytes t1))

end Sys2Proof.Machine
end

