-- ==== Sys2Proof/Machine/Security.lean ====
section
/-! DEFINITION. Configuration security: OTP objects, provisioning, seals, locks (spec/24_configuration_security.md). -/

namespace Sys2Proof.Machine
open Sys2Proof

/-- The bound seal code: the newest valid binding, 0 when there is none (R535). -/
def Sec.bound (x : Sec) : Half :=
  match (x.bindings.reverse.find? Prod.fst) with
  | some b => b.2
  | none => 0

/-- Provisioning mode (R537). -/
def State.provisioning (s : State) : Bool := s.sec.sealCode == 0 && s.pwr.phase == 3 && !s.pwr.inReset

/-- An image's seal code is bound (R542). -/
def State.sealBound (s : State) (code : Half) : Bool :=
  code == s.sec.bound && code == s.sec.sealCode && code != 0

/-- The bytes of the data window. -/
def Sec.window (x : Sec) : List Byte := (x.otpData.toList.map wbytes).flatten

/-- The data window with a byte string from its start. -/
def Sec.setWindow (b : List Byte) (x : Sec) : Sec :=
  { x with otpData := Vector.ofFn (fun i : Fin 32 => word (u32 (padTo 128 b) (4 * i.val))) }

/-- An operation ends at once with a result (R538). -/
def State.otpEnd (r : Nat) (s : State) : State := s.withSec { s.sec with otpResult := r }

/-- A programming operation starts on the data window as it stands; its outcome comes within 2 ms (R538). -/
def State.otpStart (op slot : Nat) (s : State) : State :=
  s.withSec { s.sec with otpBusy := some { op := op, slot := slot, data := s.sec.window }, otpHit := false }

/-- A write of GLB_OTP_CTRL: ignored without the key, noted while an operation runs (R538). -/
def State.otpWrite (key : Nat) (go : State → State) (s : State) : State :=
  s.barWrite 0x214 fun s =>
  if key ≠ 0x4F54 then s
  else if s.sec.otpBusy.isSome then s.withSec { s.sec with otpHit := true }
  else go s

/-- The newest identity record in slot order: record SLOT, zeros when it was never written. -/
def Sec.idRecord (x : Sec) (slot : Nat) : List Byte := padTo 64 ((x.idRecords.getD slot (false, [])).2)

/-- OTP_READ_IDENTITY, operation 1; a SLOT above 7 ends with BAD_DATA (R538; DEDUCED, assumption 93). -/
def execOtpReadIdentity (slot key : Nat) (s : State) : Host.Outcome State Fault Refusal :=
  .next <| s.otpWrite key fun s =>
    if slot ≥ 8 then s.otpEnd 4 else (s.withSec (s.sec.setWindow (s.sec.idRecord slot))).otpEnd 0

/-- OTP_READ_KEY, operation 2 (R538): KEY_ID, X, Y of an image key slot. -/
def execOtpReadKey (slot key : Nat) (s : State) : Host.Outcome State Fault Refusal :=
  .next <| s.otpWrite key fun s =>
    if slot ≥ 4 then s.otpEnd 4 else
    let k := vget s.sec.keys slot ⟨false, false, 0, [], []⟩
    (s.withSec (s.sec.setWindow (wbytes k.keyId ++ padTo 48 k.x ++ padTo 48 k.y))).otpEnd 0

/-- OTP_WRITE_IDENTITY, operation 3, in provisioning mode, while uses are left (R535, R538). -/
def execOtpWriteIdentity (slot key : Nat) (s : State) : Host.Outcome State Fault Refusal :=
  .next <| s.otpWrite key fun s =>
    if s.provisioning = false then s.otpEnd 2
    else if s.sec.idRecords.length ≥ 8 then s.otpEnd 3
    else s.otpStart 3 slot

/-- The key that operation 4 finds in the data. -/
def keyIn (data : List Byte) : KeySlot :=
  { used := true, valid := true, keyId := word (u32 data 0), x := slice data 4 48, y := slice data 52 48 }

/-- OTP_WRITE_KEY, operation 4 (R538): the slot is empty, KEY_ID is not zero and unlike the other slots', and the
point lies on P-384, or the result is BAD_DATA (DEDUCED, assumption 93). -/
def execOtpWriteKey (slot key : Nat) (s : State) : Host.Outcome State Fault Refusal :=
  .next <| s.otpWrite key fun s =>
    let k := keyIn s.sec.window
    let others := s.sec.keys.toList.any (fun o => o.used && o.keyId == k.keyId)
    if s.provisioning = false then s.otpEnd 2
    else if slot ≥ 4 ∨ (s.sec.keys.toList.getD slot k).used ∨ k.keyId = 0 ∨ others ∨ onP384 (beNat k.x) (beNat k.y) = false
    then s.otpEnd 4
    else s.otpStart 4 slot

/-- OTP_REVOKE_KEY, operation 5 (R538): another filled slot stays unrevoked. -/
def execOtpRevokeKey (slot key : Nat) (s : State) : Host.Outcome State Fault Refusal :=
  .next <| s.otpWrite key fun s =>
    let left := (List.range 4).any (fun i =>
      i != slot && (s.sec.keys.toList.getD i ⟨false, false, 0, [], []⟩).valid && !(vget s.sec.revoked i true))
    if s.provisioning = false then s.otpEnd 2
    else if slot ≥ 4 then s.otpEnd 4
    else if left = false then s.otpEnd 5
    else s.otpStart 5 slot

/-- OTP_REVOKE_FW_KEY, operation 6 (R538): the other boot ROM key stays unrevoked. -/
def execOtpRevokeFwKey (slot key : Nat) (s : State) : Host.Outcome State Fault Refusal :=
  .next <| s.otpWrite key fun s =>
    if s.provisioning = false then s.otpEnd 2
    else if slot ≥ 2 then s.otpEnd 4
    else if vget s.sec.fwRevoked (1 - slot) true then s.otpEnd 5
    else s.otpStart 6 slot

/-- OTP_BIND_SEAL, operation 7 (R538): the code in DATA0 bits 15..0 is not 0x0000, and uses are left. -/
def execOtpBindSeal (slot key : Nat) (s : State) : Host.Outcome State Fault Refusal :=
  .next <| s.otpWrite key fun s =>
    if s.provisioning = false then s.otpEnd 2
    else if (s.sec.otpData[0]).setWidth 16 = 0#16 then s.otpEnd 4
    else if s.sec.bindings.length ≥ 32 then s.otpEnd 3
    else s.otpStart 7 slot

/-- OTP_RAISE_VERSION, operation 8 (R540): FULL when all 64 steps are used (R536), else only in RUNNING, in STANDBY,
while the running firmware's SEC_VERSION exceeds the steps used. -/
def execOtpRaiseVersion (slot key : Nat) (s : State) : Host.Outcome State Fault Refusal :=
  .next <| s.otpWrite key fun s =>
    if s.sec.steps ≥ 64 then s.otpEnd 3
    else if s.pwr.phase = 7 ∧ s.ctl.mode = 0 ∧ s.sec.steps < s.sec.runVersion then s.otpStart 8 slot
    else s.otpEnd 2

/-- What a programming operation writes when its read-back is good (R535, R538, R540). -/
def Sec.program (o : OtpOp) (x : Sec) : Sec :=
  match o.op with
  | 3 => { x with idRecords := x.idRecords ++ [(true, slice o.data 0 64)] }
  | 4 => { x with keys := vset x.keys o.slot (keyIn o.data) }
  | 5 => { x with revoked := vset x.revoked o.slot true }
  | 6 => { x with fwRevoked := vset x.fwRevoked o.slot true }
  | 7 => { x with bindings := x.bindings ++ [(true, BitVec.ofNat 16 (u16 o.data 0))] }
  | 8 => { x with steps := min 64 x.runVersion }
  | _ => x

/-- OTP_OPERATION_DONE: a programming operation ends. A failed read-back consumes the use and leaves an invalid record
(R535). RESULT is BUSY when GLB_OTP_CTRL was written meanwhile (R538). -/
def execOtpOperationDone (t : Nat) (good : Bool) (s : State) : Host.Outcome State Fault Refusal :=
  .next <|
    match s.sec.otpBusy with
    | none => s
    | some o =>
      let s := s.instant t
      let x := if good then s.sec.program o else s.sec.interrupt s.clk.free
      let s := s.useFree
      let full := x.steps = 64 ∧ s.sec.steps ≠ 64
      let s := s.withSec { x with
        otpBusy := none, otpHit := false, otpResult := if s.sec.otpHit then 1 else if good then 0 else 6 }
      let s := s.raise 120 .notice 0 0 noIndex [word o.op, word o.slot]
      if full then s.raise 120 .notice 0 0 noIndex [] else s

/-! ## Locks -/

/-- The configuration-access source of a block (R553). -/
def accessSource (off : Nat) : Nat :=
  if off < 0x1000 then 127 else if off < 0x4000 then 115 else if off < 0x5000 then 7
  else if off < 0x6000 then 118 else if off < 0x7000 then 63 else if off < 0x8000 then 55
  else if off < 0x9000 then 19 else if off < 0xA000 then 44 else if off < 0xB000 then 103
  else if off < 0xC000 then 111 else if off < 0xD000 then 79 else if off < 0xD800 then 89
  else if off < 0xE000 then 95 else if off < 0xF000 then 120 else 124

/-- A write to an rwl field after lock: the field stays, the block's configuration-access event is raised as a
warning and the write is counted (R7, R553). -/
def State.deniedWrite (off : Nat) (s : State) : State :=
  (s.raise (accessSource off) .warning 4 0 (off % 65536) []).count .cfgDenied

/-- LOCK_ALL: a write of GLB_SEC_LOCK.LOCK_ALL sets all 15 locks at once (R543, R553). -/
def execLockAll (w : Word) (s : State) : Host.Outcome State Fault Refusal :=
  .next <| s.barWrite 0x21C fun s =>
    if w.getLsbD 0 = false then s
    else s.withRegs { s.regs with locks := Vector.replicate 15 true }

/-- LOCK_SET: a write of a block's LOCK register, by its bit in GLB_LOCKMAP (R553). A set lock is read only, like any
other rwl field: a write to it is refused and counted; a write of 0 to a clear lock leaves it 0. -/
def execLockSet (lock : Nat) (w : Word) (s : State) : Host.Outcome State Fault Refusal :=
  .next <|
    match LockId.all[lock]? with
    | none => s
    | some l => s.barWrite l.offset fun s =>
      if s.locked l then s.deniedWrite l.offset
      else if w.getLsbD 0 then s.withRegs { s.regs with locks := s.regs.locks.set l.idx true } else s

end Sys2Proof.Machine
end

