-- ==== Sys2Proof/Machine/Image.lean ====
section
/-! DEFINITION. Loading, verifying, activating and discarding the vessel model image
(spec/03_vessel_model_image.md R58 to R76, spec/24_configuration_security.md R541, R542). -/

namespace Sys2Proof.Machine
open Sys2Proof

/-- A result word of R68: reason, section or block, offset. -/
def imgWord (reason sec off : Nat) : Nat := reason + 256 * (sec % 256) + 65536 * (off % 65536)

/-- A failure at an offset as a result word. -/
def failWord (reason sec : Nat) (x : Option Nat) : Option Nat := x.map (imgWord reason sec)

/-! ## Checks 1 to 6 -/

/-- Check 2: MAGIC, FORMAT, HDR_SIZE and the reserved fields of the header and the signature block. -/
def checkHeader (b : List Byte) : Option Nat :=
  let flagsOk := decide (u32 b 0x1C < 4)
  firstFail [failWord 2 0 (failIf (u32 b 0 != 0x494D5856) 0), failWord 2 0 (failIf (u16 b 4 != 3) 4),
    failWord 2 0 (failIf (u16 b 6 != 128) 6), failWord 2 0 (failIf (!flagsOk) 0x1C),
    failWord 2 0 (failIf (ule b 0x51 47 != 0) 0x51), failWord 2 1 (failIf (u32 b (b.length - 104 + 4) != 0) 4)]

/-- The signature is good (R59, R541). -/
def Sec.signatureOk (x : Sec) (b : List Byte) : Bool :=
  let o := b.length - 104
  let i := u8 b 0x50
  let k : KeySlot := vget x.keys i ⟨false, false, 0, [], []⟩
  decide (i < 4) && k.valid && !vget x.revoked i true && k.keyId == word (u32 b o)
    && ecdsaVerify (b.take o) (beNat k.x) (beNat k.y) (beNat (slice b (o + 8) 48)) (beNat (slice b (o + 56) 48))

/-- The key slot of a staged image still verifies (R541). -/
def Sec.keyStands (x : Sec) (b : List Byte) : Bool :=
  let i := u8 b 0x50
  let k : KeySlot := vget x.keys i ⟨false, false, 0, [], []⟩
  decide (i < 4) && k.valid && !vget x.revoked i true

/-- The end of the last section by the directory; the signature block's place when the directory names no usable end.
DEDUCED (assumption 28). -/
def sectionsEnd (b : List Byte) : Nat :=
  let o := b.length - 104
  let e := ((List.range (min 16 (imgSections b))).map (fun i => u32 b (dirAt i + 4) + u32 b (dirAt i + 8))).foldl max 0
  if 128 ≤ e ∧ e ≤ o then e else o

/-- DIGEST is that of the content. -/
def digestOk (b : List Byte) : Bool := imgDigest b == sha384 (slice b 0x80 (sectionsEnd b - 0x80))

/-! ## Check 7 (R58, R60) -/

/-- A section ID that may be left out. -/
def optionalSection (id : Nat) : Bool := id == 0x0B

/-- The directory: IDs known and ascending, FORMAT 1. -/
def badDirectory (b : List Byte) : Option Nat :=
  (List.range (imgSections b)).findSome? (fun i =>
    let id := u16 b (dirAt i)
    let bad := decide (id < 1 ∨ 0x0F < id) || (decide (0 < i) && decide (id ≤ u16 b (dirAt i - 16))) || u16 b (dirAt i + 2) != 1
    if bad then some (imgWord 7 id (dirAt i)) else none)

/-- The first mandatory section that is missing. -/
def badMissing (b : List Byte) : Option Nat :=
  ((List.range 15).map (· + 1)).findSome? (fun id =>
    if !optionalSection id && (dirFind b id).isNone then some (imgWord 7 id 0) else none)

/-- The directory entries in order of their sections' offsets. -/
def dirOrder (b : List Byte) : List Nat :=
  sortBy (fun i j => decide (u32 b (dirAt i + 4) ≤ u32 b (dirAt j + 4))) (List.range (imgSections b))

/-- The ID of the last section. -/
def lastSection (b : List Byte) : Nat :=
  match (dirOrder b).getLast? with
  | some i => u16 b (dirAt i)
  | none => 0

/-- The layout from a position on: each section on an 8-byte boundary behind it, zeros between, and the signature block
at the first 8-byte boundary after the last (R58). -/
def badLayout (b : List Byte) (last : Nat) : Nat → List Nat → Option Nat
  | pos, [] =>
    let o := b.length - 104
    if o ≠ (pos + 7) / 8 * 8 ∨ (slice b pos (o - pos)).any (· != 0) then some (imgWord 7 last 0) else none
  | pos, i :: r =>
    let off := u32 b (dirAt i + 4)
    let len := u32 b (dirAt i + 8)
    if off % 8 ≠ 0 ∨ off < pos ∨ b.length - 104 < off + len then some (imgWord 7 last (dirAt i))
    else if (slice b pos (off - pos)).any (· != 0) then some (imgWord 7 last 0)
    else badLayout b last (off + len) r

/-- The CRC of each section. -/
def badCrc (b : List Byte) : Option Nat :=
  (List.range (imgSections b)).findSome? (fun i =>
    if crc32 (dirSection b i) = word (u32 b (dirAt i + 12)) then none else some (imgWord 7 (u16 b (dirAt i)) (dirAt i)))

/-- Check 7. -/
def checkSections (b : List Byte) : Option Nat :=
  let n := imgSections b
  if n < 1 ∨ 16 < n ∨ b.length - 104 < dirAt n then some (imgWord 7 0 0) else
  firstFail [badDirectory b, badMissing b, badLayout b (lastSection b) (dirAt n) (dirOrder b), badCrc b]

/-! ## Verification (R67) -/

/-- A failure of check 8 as a result word. -/
def rangeWord (x : Option (Nat × Nat)) : Option Nat := x.map (fun p => imgWord 8 p.1 p.2)

/-- The checks in order; the first that fails gives its result word, 0 when none does. `len` is the fetched length. -/
def State.verifyImage (s : State) (len : Nat) (b : List Byte) : Nat :=
  if u32 b 8 ≠ len ∨ b.length ≠ len ∨ len < 232 ∨ 1048576 < len then 1 else
  (firstFail [checkHeader b, failWord 3 0 (failIf (!s.sec.signatureOk b) 0), failWord 4 0 (failIf (!digestOk b) 0),
    failWord 5 0 (failIf (decide (s.glb.fwRelease < u16 b 0x14 ∨ u16 b 0x16 < s.glb.fwRelease)) 0),
    failWord 6 0 (failIf (!s.sealBound (BitVec.ofNat 16 (u16 b 0x18))) 0), checkSections b,
    rangeWord (badFields b), rangeWord (badJoins (bits (s.cfgReg .rdnCfg).toNat 0 4) s.rdn.partnerUnit b),
    failWord 9 0 (failIf (!scheduleFits b) 0)]).getD 0

/-! ## Loading and discarding (R67) -/

/-- IMAGE_LOAD is accepted: the slot's content goes, and the fetch begins. -/
def State.takeImageLoad (w : Waiting) (s : State) : State :=
  match s.img.slot with
  | .loading | .pending _ => s.refuse w 0x0A
  | _ => s.withImg { s.img with slot := .loading, staged := [], load := some w }

/-- The fetch failed for good, and its retry with it (R429). -/
def State.fetchFailed (s : State) : State :=
  match s.img.load with
  | some w => ((s.count .fetchErr).raise 114 .notice 0 0 w.ring []).endLoad (.refused 0x10) [] 0x10
  | none => s

/-- IMAGE_VERIFY_DONE: fetch and verification end. `img` is what the DMA brought, none when the read and its retry failed.
A discard that waits takes precedence. -/
def execImageVerifyDone (t : Nat) (img : Option (List Byte)) (s : State) : Host.Outcome State Fault Refusal :=
  .next <|
    if s.hostServes = false then s else
    let s := s.instant t
    match s.img.load, s.img.discard with
    | none, _ => s
    | some _, _ :: _ => s.stopLoad
    | some w, [] =>
      match w.hdr.dma, img with
      | none, some b =>
        let r := s.verifyImage w.hdr.len (padTo w.hdr.len b)
        if r = 0 then s.endLoad .verified (padTo w.hdr.len b) 0 else s.endLoad (.refused r) [] r
      | _, _ => s.fetchFailed

/-- IMAGE_DISCARD is accepted. -/
def State.takeImageDiscard (w : Waiting) (s : State) : State :=
  match s.img.slot with
  | .pending _ => s.refuse w 0x0A
  | .loading => s.withImg { s.img with discard := s.img.discard ++ [w] }
  | _ => (s.withImg { s.img with slot := .empty, staged := [] }).done w 0

/-- IMAGE_DISCARD_STOP: the stop at the boundary of pair 5's service run. -/
def execImageDiscardStop (t : Nat) (s : State) : Host.Outcome State Fault Refusal :=
  .next <|
    if s.hostServes = false ∨ s.img.load.isNone ∨ s.img.discard.isEmpty then s else (s.instant t).stopLoad

/-! ## Activation (R69 to R76) -/

/-- The condition of a cold change: the DP mode is STANDBY and the part holds no claim (R72). -/
def State.coldAllowed (s : State) : Bool := s.ctl.mode == 0 && s.rdn.role != 2

/-- The change class of the staged image. -/
def State.stagedClass (s : State) : Nat := changeClass s.img.active s.img.staged

/-- The earliest target frame (R69). -/
def earliestFrame (k : Word) : Word := if k + 2 = 0 then k + 3 else k + 2

/-- The reason for which IMAGE_ACTIVATE is refused at acceptance, 0 when it is not (R69). -/
def State.activateCheck (n : Word) (s : State) : Nat :=
  match s.img.slot with
  | .empty | .refused _ => 0x0B
  | .loading | .pending _ => 0x0A
  | .verified =>
    if s.sec.keyStands s.img.staged = false then 3
    else if n ≠ 0 ∧ ¬(2 ≤ wdiff n s.crs.frame ∧ wdiff n s.crs.frame ≤ 65536) then 0x0D
    else if s.pairMode ∧ tbit (u32 s.img.staged 0x1C) 0 = false then imgWord 8 0x0E 0
    else if s.stagedClass = 0 ∧ s.coldAllowed = false then 0x0C
    else 0

/-- IMAGE_ACTIVATE is accepted. -/
def State.takeImageActivate (w : Waiting) (n : Word) (s : State) : State :=
  let r := s.activateCheck n
  if r ≠ 0 then s.refuse w r
  else s.withImg { s.img with slot := .pending (if n = 0 then earliestFrame s.crs.frame else n), activate := some w }

/-- The reason for which the activation is abandoned at the tick of its frame, 0 when it is not (R69, R72, R385, R554);
in pair mode the comparison of frame N − 1 must have found the partner ready (R76). -/
def State.tickCheck (s : State) : Nat :=
  let cold := s.stagedClass == 0
  if s.pairMode && s.rdn.compFrame != some (s.crs.frame - 1) then 0x0E
  else if cold && !s.coldAllowed then 0x0F
  else if cold && tbit (u32 s.img.staged 0x1C) 0 then
    match badAddress (bits (s.cfgReg .rdnCfg).toNat 0 4) (imgSection s.img.staged 0x0E) with
    | some o => imgWord 8 0x0E o
    | none => 0
  else 0

/-- The code of a slot in IMAGE_QUERY. -/
def Slot.code : Slot → Nat
  | .empty => 0
  | .loading => 1
  | .verified => 2
  | .refused _ => 3
  | .pending _ => 4

/-- IMAGE_QUERY (R425). -/
def State.serveImageQuery (w : Waiting) (s : State) : State :=
  let reason := match s.img.slot with
    | .refused r => r
    | _ => 0
  let target : Word := match s.img.slot with
    | .pending n => n
    | _ => 0
  let staged := if s.img.slot = .verified ∨ s.img.slot.code = 4 then u32 s.img.staged 0x0C else 0
  s.answer w (lebytes 4 (u32 s.image 0x0C) ++ [byte (if s.hasImage then s.img.activeClass else 0), byte s.img.slot.code, byte reason, 0]
    ++ padTo 48 s.activeDigest ++ lebytes 4 staged ++ wbytes target)

end Sys2Proof.Machine
end

