-- ==== Sys2Proof/Machine/Memory.lean ====
section
/-! DEFINITION. On-chip memory: banks, ownership, ECC, mortar memory, march test (spec/20_on_chip_memory.md).
-/

namespace Sys2Proof.Machine
open Sys2Proof

/-- The owners that firmware release 3.2 gives the banks (R466). -/
def firmwareOwner (b : Nat) : Nat :=
  if b ≤ 4 then 0 else if b = 5 then 1 else if b = 6 then 3 else if b = 7 then 4
  else if b ≤ 12 then 6 else if b ≤ 15 then 3 else if b ≤ 31 then 2 else if b ≤ 39 then 7
  else if b ≤ 55 then 5 else 3

/-- The firmware sets the group modes and the owners before any bank is used (R465, R466). -/
def Mem.firmwareMap (x : Mem) : Mem :=
  { x with
    interleaved := 0b11111100
    banks := Vector.ofFn (fun b : Fin 64 =>
      { vget x.banks b.val Bank.reset with owner := firmwareOwner b.val, retained := snapshotBank b.val }) }

/-- A word of a bank, or of the mortar memory, fails a march test at run time (R478). -/
def State.bankFailed (b : Nat) (s : State) : State :=
  (s.withMem { s.mem with banks := vmod s.mem.banks b (fun k => { k with failed := true }) }).raise 117 .alarm 0 0 noIndex []

/-- The pass goes back to the slice that was aborted, the MEM_TEST's or the background's. -/
def Mem.backSlice (x : Mem) : Mem :=
  match x.test, x.locked with
  | some k, _ => { x with test := some { k with slices := k.slices - 1 } }
  | none, some l => { x with bank := l.1, window := l.2, banks := vmod x.banks l.1 (fun k => { k with passDone := false }) }
  | none, none => x

/-- The slice in progress is aborted and its window restored (R477); it is retried no sooner than 100 µs later. -/
def State.abortSlice (s : State) : State :=
  (s.withMem { s.mem.backSlice with locked := none, sliceEnd := 0, retryAfter := s.clk.now + 100000 }).count .sliceAbort

/-- The window that the engine has locked at this instant (R477). -/
def State.sliceNow (s : State) : Option (Nat × Nat) := if s.clk.now < s.mem.sliceEnd then s.mem.locked else none

/-- DMA of the old owner into banks handed over is ended: an image load into the staging slot, a capture into the snapshot
buffer (R467, R469). -/
def State.endOldDma (bs : List Nat) (s : State) : State :=
  let err (s : State) : State := (s.count .ownErr).raise 116 .notice 0 0 noIndex []
  let s := if s.img.load.isSome ∧ bs.any (fun b => decide (40 ≤ b ∧ b ≤ 47)) then err (s.endLoad (.refused 0x10) [] 0x10) else s
  if s.gns.snap.state = 2 ∧ bs.any snapshotBank then
    let s := match s.gns.snap.cmd with
      | some w => s.complete w.ring w.ref 4 0
      | none => s
    err (s.withGns { s.gns with snap := GnsSnap.reset })
  else s

/-- BANK_HANDOVER (R469): only the owning pair, or pair 5 for the array and the point engine, hands a bank over;
a write by any other is ignored and counted. DMA of the old owner and a slice in the bank end, a retained bank wakes first
(R472). -/
def execBankHandover (t writer bank owner : Nat) (s : State) : Host.Outcome State Fault Refusal :=
  .next <| (s.instant t).whileRunning fun s =>
    let cur := (s.bank bank).owner
    if bank ≥ 64 ∨ 5 < writer ∨ (7 < owner ∧ owner ≠ 15) then s
    else if writer ≠ cur ∧ ¬ (writer = 5 ∧ (cur = 6 ∨ cur = 7)) then (s.count .ownErr).raise 116 .notice 0 0 noIndex []
    else
      let bs := s.mem.together bank
      let s := if owner = cur then s else s.endOldDma bs
      let s := if s.sliceNow.any (fun l => bs.contains l.1) then s.abortSlice else s
      let s := s.wakeBank bank
      s.withMem { s.mem with
        banks := bs.foldl (fun v b => vmod v b (fun k => { k with owner := owner })) s.mem.banks
        handBank := bank, handOwner := owner }

/-- BANK_WAKE (R472): an access to a retained bank wakes it, and its group when interleaved. -/
def execBankWake (t bank : Nat) (s : State) : Host.Outcome State Fault Refusal :=
  .next <| if (s.bank bank).retained then (s.instant t).wakeBank bank else s

/-- MARCH_SLICE_ABORT (R477): a processor access to the window that the slice in progress has locked. -/
def execMarchSliceAbort (t bank window : Nat) (s : State) : Host.Outcome State Fault Refusal :=
  .next <|
    if (s.instant t).sliceNow = some (bank, window) then (s.instant t).abortSlice else s

/-- MARCH_PERIOD in ns. -/
def State.marchPeriod (s : State) : Nat := s.effField .memCfg 8 8 * 3600000000000

/-- MARCH_PASS_OVERDUE (R478): the bank's pass is incomplete after twice MARCH_PERIOD. -/
def execMarchPassOverdue (t bank : Nat) (s : State) : Host.Outcome State Fault Refusal :=
  .next <|
    let s := s.instant t
    if (s.bank bank).passDone = false ∧ (s.bank bank).retained = false ∧ s.mem.periodStart + 2 * s.marchPeriod ≤ s.clk.now
    then s.raise 117 .warning 0 0 noIndex [] else s

/-- The number of windows of a bank of 256 KiB, and of the mortar memory (R477). -/
def windowsOf (b : Nat) : Nat := if b < 64 then 1024 else 4096

/-- The next bank of the background pass that is awake, 64 for the mortar memory (R478). -/
def Mem.nextBank (x : Mem) (b : Nat) : Nat :=
  match (List.range 65).find? (fun i => decide (b < i) && (i == 64 || !(vget x.banks i Bank.reset).retained)) with
  | some i => i
  | none => ((List.range 65).find? (fun i => i == 64 || !(vget x.banks i Bank.reset).retained)).getD 64

/-- The bank and window of the next slice: of the MEM_TEST in progress, one bank or all, else of the background pass. -/
def Mem.slice (x : Mem) : Nat × Nat :=
  match x.test with
  | none => (x.bank, x.window)
  | some k => if k.target ≤ 64 then (k.target, k.slices % windowsOf k.target) else (min 64 (k.slices / 1024), k.slices % 1024)

/-- The engine has run that slice: the background pass is complete for a bank after its last window (R478). -/
def Mem.afterSlice (x : Mem) : Mem :=
  match x.test with
  | some k => { x with test := some { k with slices := k.slices + 1 } }
  | none =>
    if x.window + 1 < windowsOf x.bank then { x with window := x.window + 1 }
    else { x with window := 0, bank := x.nextBank x.bank, banks := vmod x.banks x.bank (fun k => { k with passDone := true }) }

/-- MARCH (R477, R478): one preserving slice, its window unchanged, of the MEM_TEST that runs ahead of the background pass
(R479), else of that pass; a word that fails marks its bank failed. -/
def execMarch (t : Nat) (failed : Bool) (s : State) : Host.Outcome State Fault Refusal :=
  .next <| s.runService 0x2A t fun s =>
    if s.clk.now < s.mem.retryAfter ∨ s.sliceNow.isSome then s else
    let slice := s.mem.slice
    let s := if s.mem.test.isSome then s.wakeBank slice.1 else s
    let s := if failed then s.bankFailed slice.1 else s
    let m := { s.mem.afterSlice with locked := some slice, sliceEnd := s.clk.now + 640 }
    let s := s.withMem m
    if m.periodStart + s.marchPeriod ≤ s.clk.now ∧ m.banks.toList.all (fun k => k.passDone || k.retained)
      then s.withMem { m with
        periodStart := s.clk.now, banks := m.banks.map (fun k => { k with passDone := false }) } else s

/-- One corrected error (R470): counted, and a warning when MEM_ECC_CE has risen by ECC_WARN within one hour; the hour is
counted anew after the warning (DEDUCED, assumption 86). -/
def State.corrected (s : State) : State :=
  let s := s.count .eccCe
  let l := s.mem.ceTimes.filter (fun a => decide (s.clk.now < a + 3600000000000)) ++ [s.clk.now]
  if l.length < s.effField .memCfg 16 16 then s.withMem { s.mem with ceTimes := l }
  else (s.withMem { s.mem with ceTimes := [] }).raise 116 .warning 0 0 noIndex []

/-- An uncorrectable error (R470): the word is poisoned until it is next written, the error is counted and its
address latched. -/
def State.uncorrectable (site : EccSite) (s : State) : State :=
  let m := if site.mortar
    then { s.mem with mortarPoisoned := if s.mem.mortarPoisoned.contains site.word then s.mem.mortarPoisoned else s.mem.mortarPoisoned ++ [site.word] }
    else { s.mem with poisoned := if s.mem.poisoned.contains site.word then s.mem.poisoned else s.mem.poisoned ++ [site.word] }
  let s := s.withMem { m with eccAddr := word (site.word % 33554432 + if site.mortar then 33554432 else 0) }
  (s.count .eccUe).raise 116 .alarm 0 0 noIndex []


/-- SCRUBBER_READ (R471): a retained bank is skipped; an error is corrected or reported as R470 says. -/
def execScrubberRead (t : Nat) (site : EccSite) (errors : Nat) (s : State) : Host.Outcome State Fault Refusal :=
  .next <|
    if site.mortar = false ∧ (s.bank (s.mem.bankOf site.word)).retained then s else
    let s := s.instant t
    if errors = 0 then s else if errors = 1 then s.corrected else s.uncorrectable site

/-- One cycle of a mortar word that both ports access, each with the word it writes or none for a read: the word left
behind, and whether port 1's write has write-collision status. A read sees the word as it stood before (R473). -/
def mortarCycle (old : BitVec 64) (port0 port1 : Option (BitVec 64)) : BitVec 64 × Bool :=
  match port0, port1 with
  | none, none => (old, false)
  | some a, none => (a, false)
  | none, some b => (b, false)
  | some a, some b => (a, a != b)

/-- Words are written to the mortar memory from a word address on; they are not poisoned any more. -/
def State.mortarWrite (a : Nat) (ws : List (BitVec 64)) (s : State) : State :=
  ws.zipIdx.foldl (fun s w => s.withMem { s.mem with
    mortar := memSetWord (a + w.2) w.1 s.mem.mortar, mortarPoisoned := s.mem.mortarPoisoned.filter (· != a + w.2) }) s

/-- MORTAR_WRITE_COLLISION (R473, R474): port 0 writes `v0` to the word that a transfer by port 1, the read of a command
buffer, has come to in the same cycle. With write-collision status the whole transfer is repeated from its start; a second
collision fails it after the bytes before that word, counted as a failed read under R429 (DEDUCED, assumption 94). -/
def execMortarWriteCollision (t ring start : Nat) (x : MortarXfer) (v0 : BitVec 64) (again : Bool) (s : State) :
    Host.Outcome State Fault Refusal :=
  .next <|
    if start + x.words.length > 131072 ∨ x.words.length ≤ x.reached then s else
    let s := s.instant t
    let v1 := x.words.getD x.reached 0
    let w := mortarCycle (BitVec.ofNat 64 (memGetWord s.mem.mortar (start + x.reached))) (some v0) (some v1)
    let s := (s.mortarWrite start (x.words.take x.reached)).mortarWrite (start + x.reached) [w.1]
    if w.2 = false then s.mortarWrite (start + x.reached + 1) (x.words.drop (x.reached + 1)) else
    let s := (s.count .coll).raise 117 .warning 0 0 noIndex []
    if again then ((s.count .fetchErr).raise 114 .notice 0 0 ring []).bufferLost ring (8 * x.reached)
    else s.mortarWrite start x.words

/-- MEM_BANK_SEL_WRITE latches the selected bank's state (R481). -/
def execMemBankSelWrite (w : Word) (s : State) : Host.Outcome State Fault Refusal :=
  .next <| s.barWrite 0x5010 fun s =>
    let b := (w.extractLsb' 0 6).toNat
    let k := s.bank b
    let poisoned := (s.mem.poisoned.filter (fun a => s.mem.bankOf a == b)).length
    s.withMem { s.mem with
      selBank := b, info := word (k.owner + 16 * b2n k.retained + 32 * b2n k.failed + 64 * min poisoned 1023) }

/-- MEM_TEST is taken (R479): refused while one runs, and destructive only on FREE banks. -/
def State.takeMemTest (w : Waiting) (target form : Nat) (s : State) : State :=
  let inUse := form == 1 && (decide (64 ≤ target) || (s.bank target).owner != 15)
  if inUse then s.refuse w 1
  else if s.mem.test.isSome then s.refuse w 2
  else s.withMem { s.mem with test := some { ring := w.ring, ref := w.ref, target := target, form := form, slices := 0 } }

/-- MEM_TEST_DONE (R479): RESULT is the number of failing words; a destructive test leaves every word of the bank
zero; a failing word marks its bank failed (R478), the bank tested or, in a test of all, each bank named. -/
def execMemTestDone (t : Nat) (fin : MemTestEnd) (s : State) : Host.Outcome State Fault Refusal :=
  .next <| (s.instant t).whileRunning fun s =>
    match s.mem.test with
    | none => s
    | some x =>
      let zero := x.form == 1 && decide (x.target < 64)
      let m := if zero then s.mem.zeroBank x.target else s.mem
      let s := s.withMem m.endTest
      let bad := if fin.failing = 0 then [] else if x.target ≤ 64 then [x.target] else fin.banks.filter (fun b => decide (b ≤ 64))
      let s := bad.foldl (fun s b => s.bankFailed b) s
      (s.raise 117 .notice 1 0 noIndex []).complete x.ring x.ref 0 (word (min fin.failing 0xFFFF))

end Sys2Proof.Machine
end

