-- ==== Sys2Proof/Machine/Recorder.lean ====
section
/-! DEFINITION. The event recorder and the log memory (spec/19_event_recorder.md). -/

namespace Sys2Proof.Machine
open Sys2Proof

/-- Circulating slots of a memory of this density (R451). -/
def logC (log2 : Nat) : Nat := (2 ^ log2 - 270336) / 64

/-- The position of a SEQ: the latest record number below the next one that it can stand for (R451). -/
def Log.posOf (x : Log) (seq : Word) : Nat := x.nextSeq.toNat + 4294967296 * x.wraps - (x.nextSeq - seq).toNat

/-- The slot of a position: foundation slots are 0 to 4,095, circulating slot j is 4,096 + j (R451). -/
def Log.slotAt (x : Log) (p : Nat) : Nat :=
  if p < 4096 then p else 4096 + (p - 4096) % max 1 (logC x.log2)

/-- The slot of a SEQ. -/
def Log.slotOf (x : Log) (seq : Word) : Nat := x.slotAt (x.posOf seq)

/-- The 64 bytes of a record (R454). -/
def LogRec.bytes (seq : Word) (r : LogRec) : List Byte :=
  let body := wbytes seq ++ wbytes r.opSec ++ lebytes 3 r.cycles ++ [byte r.typ]
    ++ ibytes 6 (r.time / 1000000000) ++ [byte r.src, byte r.cls] ++ ibytes 4 (r.time % 1000000000)
    ++ wbytes r.frame ++ wbytes r.code ++ lebytes 2 r.count.toNat ++ lebytes 2 r.flags
    ++ padTo 20 (r.data.map wbytes).flatten
  body ++ wbytes (crc32 body) ++ lebytes 4 0x4B52414D

/-- A slot holds a valid record: its MARK stands and its CRC is correct (R454). -/
def validRec (b : List Byte) : Bool :=
  u32 b 0x3C == 0x4B52414D && (crc32 (b.take 0x38)).toNat == u32 b 0x38

/-- The log header of both copies (R452). -/
def logHeader (log2 noErase wraps gen formSec formCyc : Nat) : List Byte :=
  let body := lebytes 4 0x474F4C56 ++ lebytes 2 1 ++ [byte log2, byte noErase] ++ lebytes 4 (logC log2)
    ++ lebytes 2 wraps ++ lebytes 2 gen ++ lebytes 4 formSec ++ lebytes 4 formCyc ++ List.replicate 36 0
  body ++ wbytes (crc32 body)

/-- A header copy is valid: its CRC is correct (R452). -/
def headerGood (b : List Byte) : Bool := decide (b.length = 64) && (crc32 (b.take 0x3C)).toNat == u32 b 0x3C

/-- The header copy in use: the valid one with the newer GEN under R10 (R452). -/
def headerOf (h : List Byte × List Byte) : Option (List Byte) :=
  match headerGood h.1, headerGood h.2 with
  | true, true => some (if decide (0 < (ule h.2 0x0E 2 + 65536 - ule h.1 0x0E 2) % 65536 ∧
      (ule h.2 0x0E 2 + 65536 - ule h.1 0x0E 2) % 65536 < 32768) then h.2 else h.1)
  | true, false => some h.1
  | false, true => some h.2
  | false, false => none

/-- The memory's density is one that the recorder supports: its log₂ (R449). -/
def logDensity (bytes : Nat) : Option Nat := (List.range 29).find? (fun k => decide (20 ≤ k) && 2 ^ k == bytes)

/-- Every condition of R449 is met. -/
def logSupported (noErase : Bool) (d : LogDev) : Bool :=
  d.sfdp && (logDensity d.density).isSome && (d.fourByte || decide (d.density ≤ 16777216)) && d.fastRead
    && decide (64 ≤ d.page) && (noErase || d.erase4k)

/-- The code of a class (R436). -/
def Sev.code : Sev → Nat
  | .alarm => 0
  | .warning => 1
  | .notice => 2

/-- A record of a staged event, with the mason's mark of this moment (R455). -/
def Log.form (x : Log) (flags : Nat) (e : SEntry) : LogRec :=
  { opSec := x.secs, cycles := x.cycles, typ := 1, time := e.ev.time, src := e.ev.src, cls := e.ev.sev.code,
    frame := e.ev.frame, code := e.ev.code, count := e.count,
    flags := flags + (if e.count = 1 then 0 else 1), data := padWords (e.ev.vals.take 5) }
where
  /-- Five words, zero-filled. -/
  padWords (l : List Word) : List Word := (l ++ List.replicate 5 0#32).take 5

/-- A record that is no event: its type and words, formed now. -/
def State.sysRec (s : State) (typ flags : Nat) (data : List Word) : LogRec :=
  { opSec := s.log.secs, cycles := s.log.cycles, typ := typ, time := s.devTime, src := 0xFF, cls := 0,
    frame := s.crs.frame, code := 0, count := 1, flags := flags, data := data }

/-- Occupied coalescing slots move into the FIFO while it has room, in order of their first stamps (R447): a slot is
occupied in the order of its first event, so the list of slots stands in that order. -/
def Evt.drainSlots (e : Evt) : Evt :=
  let n := min (256 - e.staging.length) e.slots.length
  { e with staging := e.staging ++ e.slots.take n, slots := e.slots.drop n }

/-- Events leave the FIFO for the holding area while no program is in progress and the area has room (R447, R455). -/
def State.formRecords (s : State) : State :=
  if s.log.prog.isSome then s else
  let s := s.withEvt s.evt.drainSlots
  let n := min (512 - s.log.hold.length) s.evt.staging.length
  let flags := if s.log.state = .failed then 2 else 0
  let s := (s.withLog { s.log with hold := s.log.hold ++ (s.evt.staging.take n).map (s.log.form flags) }).withEvt
    { s.evt with staging := s.evt.staging.drop n }
  s.withEvt s.evt.drainSlots

/-- The next SEQ after a program has begun; both header copies are rewritten when it wraps (R451). -/
def Log.bumpSeq (x : Log) : Log :=
  let n := x.nextSeq + 1
  if n ≠ 0 then { x with nextSeq := n } else
  let w := (x.wraps + 1) % 65536
  let g := (x.gen + 1) % 65536
  { x with
    nextSeq := n, wraps := w, gen := g
    header := logHeader x.log2 (ule x.header 7 1) w g (u32 x.header 0x10) (u32 x.header 0x14) }

/-- A power cycle: the count sticks at its maximum with its flag (R8, R11). -/
def Log.addCycle (x : Log) : Log :=
  if x.cycOvf then x
  else if x.cycles + 1 < 0xFFFFFF then { x with cycles := x.cycles + 1 }
  else { x with cycles := 0xFFFFFF, cycOvf := true }

/-- The mason's mark counters move on; one that has just stuck raises the counter-overflow event of LOG (R8, R11). -/
def State.markCount (x : Log) (s : State) : State :=
  let stuck := (x.secOvf && !s.log.secOvf) || (x.cycOvf && !s.log.cycOvf)
  let s := s.withLog x
  if stuck then s.raise 124 .notice 0 0 noIndex [] else s

/-- On NOR, entering a circulating sector erases the next one, counted modulo C/64 (R452). -/
def Log.eraseAhead (slot : Nat) (x : Log) : Log :=
  let k := (slot - 4096) / 64
  if x.noErase ∨ slot < 4096 ∨ x.entered = some k then x else
  let e := (k + 1) % max 1 (logC x.log2 / 64)
  { x with entered := some k, erasing := true, slots := x.slots.filter (fun p => p.1 < 4096 || (p.1 - 4096) / 64 != e) }

/-- The program of the record at the head of the holding area begins, and takes the next SEQ (R451, R454). -/
def State.startProgram (s : State) : State :=
  if s.log.state ≠ .running ∨ s.log.prog.isSome ∨ s.log.erasing ∨ s.log.hold.isEmpty ∨ s.pwr.save.isSome then s else
  let slot := s.log.slotOf s.log.nextSeq
  let x := s.log.eraseAhead slot
  if x.erasing then s.withLog x
  else s.withLog { x with prog := some x.nextSeq }.bumpSeq

/-- RECORDER (R455): forms records and starts a program; the mason's mark is kept by the plinth. -/
def execRecorder (t : Nat) (s : State) : Host.Outcome State Fault Refusal :=
  .next <| s.runService 0x29 t fun s => s.formRecords.startProgram

/-- The foundation area is full once the SEQ of its last slot is used or consumed (R464). -/
def State.foundCheck (q : Word) (s : State) : State :=
  if 4095 ≤ s.log.posOf q ∧ s.log.foundFull = false then
    (s.withLog { s.log with foundFull := true }).raise 123 .notice 0 0 noIndex []
  else s

/-- The log memory fails (R459): a SEQ in progress is consumed, and its record stays held; an erase begins again when the
memory is back. -/
def State.logFails (s : State) : State :=
  if s.log.state ≠ .running then s else
  let x := s.log
  let s := s.withLog { x with
    state := .failed, erasing := false, entered := if x.erasing then none else x.entered, prog := none
    consumed := x.consumed ++ x.prog.toList
    failSec := wordI (s.devTime / 1000000000), hold := x.hold.map (fun r => { r with flags := r.flags ||| 2 }) }
  let s := x.prog.toList.foldl (fun s q => s.foundCheck q) s
  (s.count .logFail).raise 122 .alarm 0 0 noIndex []

/-- LOG_PROGRAM_DONE (R454): the record stands in its slot with its MARK, or the memory has failed. -/
def execLogProgramDone (t : Nat) (how : LogEnd) (s : State) : Host.Outcome State Fault Refusal :=
  .next <|
    match s.log.prog, s.log.hold with
    | some q, r :: rest =>
      let s := s.instant t
      match how with
      | .failed => s.logFails
      | .good =>
        let s := s.withLog { s.log with prog := none, hold := rest, slots := aput (s.log.slotOf q) (r.bytes q) s.log.slots }
        let s := if r.typ = 2 then (s.count .logGap).raise 124 .notice 0 0 noIndex [] else s
        s.foundCheck q
    | _, _ => s

/-- LOG_ERASE_DONE (R452): the sector is erased and held records resume; during a save no program starts (R458). -/
def execLogEraseDone (t : Nat) (how : LogEnd) (s : State) : Host.Outcome State Fault Refusal :=
  .next <|
    if s.log.erasing = false then s else
    match how with
    | .good =>
      let s := s.instant t
      let x : Log := { s.log with erasing := false }
      if x.hold.isEmpty ∨ x.prog.isSome ∨ s.pwr.save.isSome then s.withLog x
      else s.withLog { x with prog := some x.nextSeq }.bumpSeq
    | .failed => (s.instant t).logFails

/-- A valid record of this SEQ stands in its slot. -/
def Log.hasRec (x : Log) (q : Word) : Bool :=
  (afind (x.slotOf q) x.slots).any (fun b => validRec b && word (u32 b 0) == q)

/-- The gap records that the consumed SEQs without a valid record need, one for each run of them (R460); `lost` makes W2
all-ones. -/
def State.gapRecs (s : State) (lost : Bool) : List LogRec :=
  let w2 : Word := if lost then 0xFFFFFFFF#32 else word s.log.hold.length
  (runs (s.log.consumed.filter (fun q => !s.log.hasRec q))).map (fun r =>
    s.sysRec 2 0 [r.1, r.2, w2, s.log.failSec, wordI (s.devTime / 1000000000)])
where
  /-- The runs of following SEQs, first and last. -/
  runs : List Word → List (Word × Word)
    | [] => []
    | q :: r => match runs r with
      | (a, b) :: t => if a = q + 1 then (q, b) :: t else (q, q) :: (a, b) :: t
      | [] => [(q, q)]

/-- The newest valid record of a memory that was read: the newest under R10 of the circulating area, or of the foundation
area while the circulating area has none (R457, R28). -/
def newestRec (slots : List (Nat × List Byte)) : Option (List Byte) :=
  let valid := slots.filter (fun p => validRec p.2)
  let circ := valid.filter (fun p => decide (4096 ≤ p.1))
  (if circ.isEmpty then valid else circ).foldl (fun m p =>
    match m with
    | none => some p.2
    | some b => if newer (word (u32 p.2 0)) (word (u32 b 0)) then some p.2 else some b) none

/-- The next SEQ moves past those consumed before, and on NOR past those whose slot is not all-ones, which are consumed
(R457, R458, R460). -/
def Log.skipTaken : Nat → Log → Log
  | 0, x => x
  | f + 1, x =>
    let q := x.nextSeq
    let taken := !x.noErase && (afind (x.slotOf q) x.slots).any (fun b => b.any (fun c => c != 0xFF#8))
    if x.consumed.contains q then Log.skipTaken f x.bumpSeq
    else if taken then Log.skipTaken f { x with consumed := x.consumed ++ [q] }.bumpSeq
    else x

/-- The mason's mark goes on from the newest record when no saved copy could be read; a maximum taken over sticks (R11,
R456). -/
def Log.adopt (b : List Byte) (x : Log) : Log :=
  let secs := max x.secs.toNat (u32 b 4)
  let cyc := max x.cycles (min 0xFFFFFF (ule b 8 3 + 1))
  { x with secs := word secs, secOvf := x.secOvf || secs == 0xFFFFFFFF, cycles := cyc, cycOvf := x.cycOvf || cyc == 0xFFFFFF }

/-- The START record goes behind the gap records and those restored, ahead of new events (R457). -/
def State.startRecord (gaps : List LogRec) (s : State) : State :=
  let n := s.log.restored
  s.withLog { s.log with
    hold := gaps ++ s.log.hold.take n ++ s.sysRec 3 0 s.log.start :: s.log.hold.drop n, restored := 0, consumed := [], lost := false }

/-- What an identification at start-up, or of another memory, leaves (R450, R453, R457). -/
def State.identified (d : LogDev) (s : State) : State :=
  let noErase := tbit (s.cfgReg .logCfg).toNat 7
  let x := { s.log with log2 := (logDensity d.density).getD 0, jedec := d.jedec, slots := d.slots, noErase := noErase, header := [] }
  if logSupported noErase d = false then (s.withLog { x with state := .unsupported }).raise 123 .notice 3 5 noIndex []
  else match headerOf d.headers with
    | none => (s.withLog { x with state := .unformatted }).raise 123 .notice 3 2 noIndex []
    | some h =>
      let newest := newestRec d.slots
      let next := match newest with
        | some b => word (u32 b 0) + 1
        | none => 0
      let x := { x with state := .running, header := h, nextSeq := next, wraps := ule h 0x0C 2, gen := ule h 0x0E 2 }
      let at_ := x.slotOf (next - 1)
      let x := { x with foundFull := decide (4096 ≤ x.posOf next), entered := if newest.isSome ∧ 4096 ≤ at_ then some ((at_ - 4096) / 64) else none }
      let y := match newest with
        | some b => if s.log.restarted ∨ s.mem.marks.toList.any MarkCopy.valid then x else x.adopt b
        | none => x
      let s := s.markCount { y.skipTaken (d.slots.length + y.consumed.length) with restarted := true }
      let s := if s.log.nextSeq = next then s else s.foundCheck (s.log.nextSeq - 1)
      ((s.startRecord (s.gapRecs s.log.lost)).takeCfg .ident).raise 123 .notice 3 3 noIndex []

/-- LOG_IDENTIFY (R450): the port is ABSENT while LOG_CFG.EN is 0; no answering memory leaves it ABSENT. -/
def execLogIdentify (t : Nat) (dev : Option LogDev) (s : State) : Host.Outcome State Fault Refusal :=
  .next <| (s.instant t).whileRunning fun s =>
    if s.log.state ≠ .absent ∧ s.log.state ≠ .identifying then s else
    let s := s.takeCfg .ident
    if tbit (s.cfgReg .logCfg).toNat 8 = false then s.withLog { s.log with state := .absent, log2 := 0 } else
    match dev with
    | none => s.withLog { s.log with state := .absent, log2 := 0 }
    | some d => s.identified d

/-- LOG_REIDENTIFY (R459, R460): a failed memory that identifies unchanged returns, with its gap record first; one that
identifies differently is treated as at start-up. LOG_CFG takes effect at each identification (R464). -/
def execLogReidentify (t : Nat) (dev : Option LogDev) (s : State) : Host.Outcome State Fault Refusal :=
  .next <| (s.instant t).whileRunning fun s =>
    if s.log.state ≠ .failed then s else
    let s := s.takeCfg .ident
    if tbit (s.cfgReg .logCfg).toNat 8 = false then s.withLog { s.log with state := .absent, log2 := 0 } else
    match dev with
    | none => s
    | some d =>
      let noErase := tbit (s.cfgReg .logCfg).toNat 7
      if logSupported noErase d ∧ d.jedec = s.log.jedec ∧ logDensity d.density = some s.log.log2
        ∧ (headerOf d.headers).map (fun h => ule h 0x0E 2) = some s.log.gen then
        let s := s.withLog { s.log with state := .running, slots := d.slots, noErase := noErase }
        let gaps := s.gapRecs false
        (s.withLog { s.log with hold := gaps ++ s.log.hold, consumed := [] }).raise 122 .notice 1 0 noIndex []
      else (s.withLog { s.log with consumed := [] }).identified d

/-- LOG_FORMAT (R453): LOG_CTRL with FORMAT and its key formats an UNFORMATTED memory and nothing else; only NOR is erased. -/
def execLogFormat (t : Nat) (w : Word) (s : State) : Host.Outcome State Fault Refusal :=
  .next <| (s.instant t).barWrite 0xF008 fun s =>
    if w.getLsbD 0 ∧ w.extractLsb' 16 16 = 0x464D#16 ∧ s.log.state = .unformatted then
      ((s.withLog { s.log with
        state := .running, slots := if s.log.noErase then s.log.slots else [], nextSeq := 0, wraps := 0, gen := 0
        foundFull := false, erasing := false, entered := none, prog := none
        header := logHeader s.log.log2 (b2n s.log.noErase) 0 0 s.log.secs.toNat s.log.cycles }).startRecord []).raise 123 .notice 3 3 noIndex []
    else s

/-- MASON_MARK_SAVE (R456): the mason's mark goes to the copy of the persistent area whose turn it is (R475). -/
def State.saveMark (s : State) : State :=
  s.withMem { s.mem with
    marks := vset s.mem.marks s.mem.markNext
      { valid := true, secs := s.log.secs, secOvf := s.log.secOvf, cycles := s.log.cycles, cycOvf := s.log.cycOvf }
    markNext := 1 - s.mem.markNext }

/-- MASON_MARK_SAVE (R456). -/
def execMasonMarkSave (t : Nat) (s : State) : Host.Outcome State Fault Refusal :=
  .next ((s.instant t).whileRunning State.saveMark)

/-- The part has been powered for `ns` more (R11, R456). -/
def State.logPowered (ns : Nat) (s : State) : State := s.markCount (s.log.addPowered ns)

/-- The oldest SEQ of these slots, the one furthest behind the next. -/
def Log.oldestOf (x : Log) (slots : List (Nat × List Byte)) : Word :=
  (slots.filter (fun p => validRec p.2)).foldl (fun m p =>
    let q := word (u32 p.2 0)
    if (x.nextSeq - m).toNat < (x.nextSeq - q).toNat then q else m) x.nextSeq

/-- The oldest SEQ retained in the circulating area (R464). -/
def Log.oldest (x : Log) : Word := x.oldestOf (x.slots.filter (fun p => decide (4096 ≤ p.1)))

/-- Where a LOG_READ from the oldest record starts (R461): the oldest retained is in the foundation area, which is kept for
the life of the memory (R453), while it holds any; with bit 1 the read stays there. -/
def Log.readStart (x : Log) (found : Bool) : Word :=
  let f := x.slots.filter (fun p => decide (p.1 < 4096))
  match f.find? (fun p => validRec p.2) with
  | some _ => x.oldestOf f
  | none => if found then x.nextSeq else x.oldest

/-- LOG_READ is taken (R461): its bulk transfer is queued. -/
def State.takeLogRead (w : Waiting) (first : Word) (count : Nat) (s : State) : State :=
  if s.log.state ≠ .running then s.refuse w 1
  else
    let found := w.hdr.opts.getLsbD 1
    let first := if w.hdr.opts.getLsbD 0 then s.log.readStart found else first
    let x : LogRead := { xfer := s.hrg.nextXfer, tag := w.hdr.tag, first := first, next := first, left := count,
                         got := 0, missing := 0, foundation := found }
    let s := s.withLog { s.log with reads := s.log.reads ++ [x] }
    let s := s.withHrg { s.hrg with
      nextXfer := s.hrg.nextXfer + 1
      xfers := s.hrg.xfers ++ [{ kind := 2, tag := w.hdr.tag, xfer := x.xfer, rest := [], pos := 0, error := false }] }
    s.done w x.xfer.toNat

/-- The TRAILER record that ends a read (R462). -/
def State.trailer (s : State) (x : LogRead) : List Byte :=
  (s.sysRec 4 0 [x.first, x.next - 1, word x.got, word x.missing, 0]).bytes 0

/-- The SEQ that a read comes to is not past the newest record, nor past the foundation area where the read is restricted
to it (R461, R462). -/
def Log.readsOn (x : Log) (r : LogRead) : Bool :=
  if r.foundation then decide (r.next.toNat < 4096 ∧ r.next.toNat < x.posOf x.nextSeq) else newer x.nextSeq r.next

/-- The valid record stored for a SEQ (R462); the foundation area holds the SEQs below 4,096 since formatting. -/
def Log.stored (x : Log) (r : LogRead) : Option (List Byte) :=
  match afind (if r.foundation then r.next.toNat else x.slotOf r.next) x.slots with
  | some b => if validRec b ∧ word (u32 b 0) = r.next then some b else none
  | none => none

/-- Reading on in a log transfer, up to `fuel` slots: each SEQ in turn, up to COUNT or past the newest record, then the
TRAILER; whether the read is finished (R462). -/
def State.logReadSome : Nat → State → LogRead → List Byte × LogRead × Bool
  | 0, _, x => ([], x, false)
  | fuel + 1, s, x =>
    if x.left = 0 ∨ s.log.readsOn x = false then (s.trailer x, x, true) else
    let hit := s.log.stored x
    let y := { x with next := x.next + 1, left := x.left - 1, got := x.got + b2n hit.isSome
                      missing := x.missing + b2n hit.isNone }
    let r := State.logReadSome fuel s y
    (hit.getD [] ++ r.1, r.2)

/-- The bytes of the next piece of a log transfer become known when it is served, the slots as they stand then; a failure
while reading, or a memory that has failed, ends the transfer early (R459, R462). -/
def State.fillLogRead (how : LogEnd) (s : State) : State :=
  match s.log.reads, s.hrg.xfers with
  | x :: rest, f :: fs =>
    if f.kind = 2 ∧ f.xfer = x.xfer ∧ f.error = false ∧ f.rest.length < 65536 then
      let s := if how = .failed then s.logFails else s
      if s.log.state ≠ .running then
        (s.withLog { s.log with reads := rest }).withHrg { s.hrg with xfers := { f with error := true } :: fs } else
      let r := State.logReadSome (1024 - f.rest.length / 64) s x
      let n := r.2.1.missing - x.missing
      let s := s.withLog { s.log with reads := if r.2.2 then rest else r.2.1 :: rest }
      let s := if n = 0 then s else s.countN .logReadMiss n
      s.withHrg { s.hrg with xfers := { f with rest := f.rest ++ r.1 } :: fs }
    else s
  | _, _ => s

end Sys2Proof.Machine
end

