-- ==== Sys2Proof/Machine/Redundancy.lean ====
section
/-! DEFINITION. Pair mode: the pair message and its comparison, synchronised commands, switch-over, resynchronisation and
the role exchange (spec/13_redundancy_and_claims.md R327, R333 to R342). -/

namespace Sys2Proof.Machine
open Sys2Proof

/-! ## Pair messages (R336) -/

/-- A pair message from its bytes. -/
def pairMsgOf (b : List Byte) : PairMsg :=
  { typ := u8 b 0, unit := u8 b 1, claim := BitVec.ofNat 16 (u16 b 2), frame := word (u32 b 4), digest := BitVec.ofNat 64 (ule b 8 8),
    pstate := u8 b 0x10, flags := u8 b 0x11, exchFrame := word (u32 b 0x14), imgN := word (u32 b 0x18), imgDigest := slice b 0x1C 48,
    cmds := (List.range (min 8 (u8 b 0x4C))).map (fun i => slice b (0x50 + 64 * i) 64) }

/-- The refused status with reason PAIR (R335). -/
def pairReason : Nat := 0x0B

/-- Leaving PAIRED (R323, R335, R342): the forwarded commands of a STANDBY are refused, those of an ACTIVE take effect in
it alone, an exchange under way is abandoned. -/
def State.leavePaired (s : State) : State :=
  let own := s.rdn.batch.filter (fun w => w.ring != noRing)
  let s1 := s.withRdn { s.rdn with
    batch := [], forwarded := [], pairedFrames := 0, msgSince := false, imageDone := false, elected := false }
  let s1 := if s.rdn.role = 2 then
      s1.withHrg { s1.hrg with waiting := s1.hrg.waiting ++ own.map (fun w => { w with due := s.crs.frame + 1 }) }
    else (s.rdn.forwarded.map Prod.fst ++ own).foldl (fun s w => s.refuse w pairReason) s1
  s1.abandonExchange

/-- The pair state changes: event source 80 (R333, R337). -/
def State.setPair (n : Nat) (s : State) : State :=
  if s.rdn.pstate = n then s else
  let s := if s.rdn.pstate = 3 then s.leavePaired.endView else s
  (s.withRdn { s.rdn with pstate := n }).raise 80 .notice 3 n noIndex []

/-- This part yields the claim and joins again (R337, R339). -/
def State.yieldClaim (s : State) : State := ((s.setRole 0 .notice).sendYield).setPair 2

/-- What every message of the partner tells, by whatever path it came (R323, R325, R327, R339). -/
def State.notePartner (m : PairMsg) (s : State) : State :=
  if m.unit = s.rdn.unitId then
    if s.rdn.refusedId then s
    else (s.withRdn { s.rdn with refusedId := true }).raise 80 .notice 0 1 noIndex []
  else
    let ready := tbit m.flags 5
    let s := s.withRdn { s.rdn with
      refusedId := false, partnerUnit := some m.unit, partner := m.claim, pRole := claimRole m.claim, pAlive := true
      msgSince := true, heard := true
      partnerDig := if ready then s.rdn.partnerDig else m.imgDigest }
    if claimRole m.claim = 2 ∧ s.rdn.role = 2 ∧ s.rdn.own < m.claim then s.yieldClaim else s

/-- A command of the ACTIVE's message: the own one that was forwarded, or the partner's, whose buffer the message does
not carry. -/
def State.pairCommand (b : List Byte) (s : State) : State :=
  match takeFirst (fun (f : Waiting × Word) => f.1.desc == b) s.rdn.forwarded with
  | some (f, rest) => s.withRdn { s.rdn with forwarded := rest, apply := s.rdn.apply ++ [(true, f.1)] }
  | none =>
    match descCmd b (Config.pairBuffer s.clk.free) with
    | none => s
    | some c =>
      let w : Waiting := { ring := noRing, ref := 0, cmd := c, hdr := descHdr noRing none b, time := s.devTime, due := s.crs.frame + 1, desc := b }
      (s.withRdn { s.rdn with apply := s.rdn.apply ++ [(false, w)] }).useFree

/-- PAIR_MESSAGE_RX (R335, R336). -/
def execPairMessageRx (t : Nat) (hd : LinkHdr) (bytes : List Byte) (s : State) : Host.Outcome State Fault Refusal :=
  .next <| (s.instant t).whileRunning <| State.linkTake hd 2 bytes bytes fun s =>
    let m := pairMsgOf bytes
    if s.pairMode = false ∨ m.typ ≠ 1 then s else
    let s := s.notePartner m
    if m.unit = s.rdn.unitId then s else
    let s := s.withRdn { s.rdn with msg := some m }
    if s.rdn.pstate = 3 ∧ s.rdn.role ≠ 2 ∧ claimRole m.claim = 2 ∧ m.frame = s.crs.frame then
      m.cmds.foldl (fun s b => s.pairCommand b) s
    else s

/-- HEARTBEAT_RX: the first 0x50 bytes of a message on network A or B (R336). -/
def execHeartbeatRx (t : Nat) (port : Port) (bytes : List Byte) (s : State) : Host.Outcome State Fault Refusal :=
  .next <| (s.instant t).whileRunning fun s =>
    let m := pairMsgOf bytes
    if s.pairMode = false ∨ m.typ ≠ 1 ∨ bytes.length < 0x50 ∨ port = .m ∨ s.portUp port = false then s else
    let s := s.notePartner m
    if m.unit = s.rdn.unitId then s else
    s.withRdn { s.rdn with hb := some m, hbPaths := s.rdn.hbPaths ||| (if port = .a then 1 else 2) }

/-- URGENT_YIELD_RX (R338). -/
def execUrgentYieldRx (t : Nat) (hd : LinkHdr) (bytes : List Byte) (s : State) : Host.Outcome State Fault Refusal :=
  .next <| (s.instant t).whileRunning <| State.linkTake hd 1 bytes bytes fun s =>
    let m := pairMsgOf bytes
    if s.pairMode = false ∨ m.typ ≠ 2 ∨ m.unit = s.rdn.unitId then s
    else s.withRdn { s.rdn with partner := m.claim, pRole := claimRole m.claim, yieldIn := true }

/-- REMOVAL_MASK_RX: the partner's mask of course 0 (spec/14 R358). -/
def execRemovalMaskRx (t : Nat) (hd : LinkHdr) (bytes : List Byte) (s : State) : Host.Outcome State Fault Refusal :=
  .next <| (s.instant t).whileRunning <| State.linkTake hd 3 bytes bytes fun s =>
    if s.pairMode then s.withRdn { s.rdn with pMask := some (hd.frame, BitVec.ofNat 16 (u16 bytes 0)) } else s

/-! ## DIGEST (R336) -/

/-- The result block of the nominal problem. -/
def State.nominalBlock (s : State) : List Byte :=
  match s.alloc.submitted, s.nominalResult with
  | some p, some r => r.bytes (BitVec.ofNat 16 p.2)
  | _, _ => []

/-- What the digest covers, in its order; A_g as signed 32-bit words (assumption 27). -/
def State.digestBytes (s : State) : List Byte :=
  padTo 64 s.est.record ++ padTo 64 s.ctl.record ++ (s.alloc.block.map (ibytes 4)).flatten ++ s.nominalBlock
    ++ (s.powerGroups.map (fun g => ibytes 4 g.2.2)).flatten
    ++ (match s.rdn.tap with
      | some k => (k.entries.map (padTo 16)).flatten
      | none => [])
    ++ padTo 64 s.csq.record ++ padTo 64 s.trim.record ++ s.rdn.applied.flatten

/-- The local miss flag: a covered result of the frame is stale or rejected, or the partner's mask was missing
(R336; spec/14 R358). -/
def State.localMissNow (s : State) : Bool :=
  [1, 2, 3, 4, 5].any (fun c => (s.item c).stale) || s.rdn.maskMiss
    || (s.ctl.mode != 0 && (match s.nominalResult with
      | some r => decide (r.status % 16 > 1)
      | none => true))

/-- Commands accepted before course 1 slot 28 of the frame (R335). -/
def State.slot28 (s : State) : Int := (s.clk.tickAt : Int) + slotStart 28 + s.clk.base

/-- The staged image awaits its frame: N. -/
def State.pendingFrame (s : State) : Option Word := match s.img.slot with
  | .pending n => some n
  | _ => none

/-- The commands that go in the frame's message, up to 8 in order of acceptance (R335). -/
def State.messageCmds (s : State) : List Waiting :=
  if s.rdn.pstate ≠ 3 then [] else (s.rdn.batch.takeWhile (fun w => decide (w.time < s.slot28))).take 8

/-- The commands leave with the message: the ACTIVE's take effect at the next tick, the STANDBY's are forwarded. -/
def State.sendCmds (ws : List Waiting) (s : State) : State :=
  let rest := s.rdn.batch.drop ws.length
  if s.rdn.role = 2 then s.withRdn { s.rdn with batch := rest, apply := ws.map (fun w => (w.ring != noRing, w)) }
  else s.withRdn { s.rdn with batch := rest, forwarded := s.rdn.forwarded ++ ws.map (fun w => (w, s.crs.frame)) }

/-- The pair message of the frame. IMG_DIGEST is that of the staged image while it awaits activation, with image ready,
else that of the image in effect (assumption 27). -/
def State.pairMessage (ws : List Waiting) (s : State) : PairMsg :=
  let propose := s.rdn.exchAsk && s.rdn.role == 2
  let confirm := s.rdn.role == 1 && s.rdn.exchFrame.isSome && !s.rdn.exchConfirmed
  let joins := s.rdn.pstate == 2 && !s.rdn.syncSource && s.rdn.syncFrame == some s.crs.frame
  { typ := 1, unit := s.rdn.unitId, claim := s.rdn.own, frame := s.crs.frame, digest := s.rdn.digest, pstate := s.rdn.pstate
    flags := b2n s.crs.gaveUp + 2 * b2n s.readyToClaim + 4 * b2n s.rdn.localMiss + 8 * b2n propose + 16 * b2n confirm
      + 32 * b2n s.pendingFrame.isSome + 64 * b2n joins
    exchFrame := if propose then s.crs.frame + 3 else if confirm then s.rdn.exchFrame.getD 0 else 0
    imgN := s.pendingFrame.getD 0
    imgDigest := if s.pendingFrame.isSome then imgDigest s.img.staged else s.activeDigest
    cmds := ws.map (fun w => w.desc) }

/-- A heartbeat on network `n`; where it goes is not given: free values. -/
def State.heartbeat (b : List Byte) (n : Nat) (s : State) : State :=
  let p : Port := if n = 0 then .a else .b
  if s.portUp p then s.emit (.udp p (Config.heartbeatDst n) Config.heartbeatPort b) else s

/-- The work of DIGEST. -/
def State.digestItem (s : State) : State :=
  let s := s.evalClaim
  let s := s.withRdn { s.rdn with digest := crc64 s.digestBytes, localMiss := s.localMissNow }
  let ws := s.messageCmds
  let m := s.pairMessage ws
  let s := (s.sendCmds ws).withRdn { (s.sendCmds ws).rdn with
    exchFrame := if tbit m.flags 3 then some m.exchFrame else s.rdn.exchFrame
    exchAsk := s.rdn.exchAsk && !tbit m.flags 3
    exchConfirmed := s.rdn.exchConfirmed || tbit m.flags 4 }
  let b := m.bytes
  ((s.sendLink 2 b).heartbeat (b.take 0x50) 0).heartbeat (b.take 0x50) 1

/-- DIGEST (R336), which runs in pair mode alone (R43). -/
def execDigest (t : Nat) (s : State) : Host.Outcome State Fault Refusal :=
  .next <| (s.instant t).whileRunning fun s => if s.pairMode ∧ s.itemRuns 8 then s.digestItem.itemDone 8 else s

/-! ## The comparison (R337, R338, R342) -/

/-- The paths on which no message of the frame has come: bit 0 the link, 1 network A, 2 network B. -/
def State.pathsMissing (s : State) : Nat :=
  b2n s.rdn.msg.isNone + 2 * b2n (!tbit s.rdn.hbPaths 0) + 4 * b2n (!tbit s.rdn.hbPaths 1)

/-- Event source 83 of each path whose state changes, once a partner has been heard (R344). -/
def State.pathEvents (s : State) : State :=
  let now := s.pathsMissing
  if s.rdn.heard = false then s else
  let s1 := [0, 1, 2].foldl (fun x p =>
    if tbit now p = tbit s.rdn.pathMiss p then x else x.raise 83 .notice (b2n (!tbit now p)) 0 p []) s
  s1.withRdn { s1.rdn with pathMiss := now }

/-- Whether the partner was heard in the frame, and what follows for a STANDBY (R338). -/
def State.partnerHeard (s : State) : State :=
  let got := s.rdn.msg.isSome || s.rdn.hb.isSome
  let miss := if got then 0 else s.rdn.missing + 1
  let gave : Bool := match s.rdn.msg, s.rdn.hb with
    | some m, _ => tbit m.flags 0
    | none, some m => tbit m.flags 0
    | none, none => false
  s.withRdn { s.rdn with
    pAlive := got, missing := miss, linkMsg := if got then s.rdn.msg.isSome else s.rdn.linkMsg
    yieldIn := s.rdn.yieldIn || gave || decide (2 ≤ miss) }

/-- The partner comparison of a pending activation, in frame N − 1, by the message that the partner's DIGEST of that
frame sent over the link: a silent partner is not ready (spec/03 R76). -/
def State.compareImage (s : State) : State :=
  match s.pendingFrame with
  | none => s
  | some n =>
    if n ≠ s.crs.frame + 1 then s else
    match s.rdn.msg with
    | some m =>
      if tbit m.flags 5 ∧ m.imgN = n ∧ m.imgDigest = imgDigest s.img.staged then s else s.abandonActivation 0x0E
    | none => s.abandonActivation 0x0E

/-- Forwarded commands that two messages of the ACTIVE have not carried are refused (R335). -/
def State.expireForwarded (s : State) : State :=
  let late (f : Waiting × Word) : Bool := !newer (f.2 + 2) s.crs.frame
  let s1 := s.withRdn { s.rdn with forwarded := s.rdn.forwarded.filter (fun f => !late f) }
  (s.rdn.forwarded.filter late).foldl (fun s f => s.refuse f.1 pairReason) s1

/-- An attempt to resynchronise failed: counted, event source 80, and the joiner starts again 60 s later; the views of an
attempt that reached no PAIRED frame end (R340). -/
def State.syncFail (s : State) : State :=
  let again := if s.rdn.syncSource then none else some (s.clk.now + 60000000000)
  let s := if s.rdn.pstate = 3 then s else s.endView
  let s := s.withRdn { s.rdn with syncFrame := none, syncSource := false, installed := false, pieces := 0, syncRetry := again }
  (s.count .rdnSyncFail).raise 80 .notice 0 2 noIndex []

/-- The first PAIRED frame is in step: the transfer is complete (R340 step 6). -/
def State.syncDone (s : State) : State :=
  if s.rdn.syncFrame = none then s else
  let s := s.withRdn { s.rdn with syncFrame := none, syncSource := false, imageDone := true, syncRetry := none }
  let s := s.noteReady.setRole s.noteReady.evalRole .notice
  s.withRdn { s.rdn with own := s.ownClaim }

/-- With no part holding the claim, the ready one of the higher health score and unit id takes it, and the STANDBY of a
partner that is not ready, at the next evaluation of the role (R325; assumption 26). -/
def State.elect (m : PairMsg) (s : State) : State :=
  let r := claimRole m.claim
  s.withRdn { s.rdn with
    elected := s.rdn.role == 1 && r != 2
      && (decide ((m.claim &&& 0x0FFF#16) < claimOf 0 s.rdn.score s.rdn.unitId) || (r == 0 && decide (1 < s.rdn.pairedFrames))) }

/-- The steps of an exchange in a frame in step (R342). -/
def State.exchangeStep (m : PairMsg) (s : State) : State :=
  match s.rdn.exchFrame with
  | none =>
    if s.rdn.role = 1 ∧ claimRole m.claim = 2 ∧ tbit m.flags 3 then s.withRdn { s.rdn with exchFrame := some m.exchFrame, exchConfirmed := false }
    else s
  | some x =>
    if s.rdn.role = 2 ∧ x = s.crs.frame + 2 then
      if tbit m.flags 4 ∧ m.exchFrame = x then s.withRdn { s.rdn with exchConfirmed := true } else s.abandonExchange
    else if newer s.crs.frame x then s.abandonExchange else s

/-- The digests are equal. -/
def State.inStep (m : PairMsg) (s : State) : State :=
  ((s.withRdn { s.rdn with pairedFrames := min 65536 (s.rdn.pairedFrames + 1) }).syncDone.elect m).exchangeStep m

/-- The digests differ (R337, R340). -/
def State.outOfStep (m : PairMsg) (s : State) : State :=
  let s := (s.count .rdnDiverge).raise 82 .notice 0 0 noIndex []
  let first := s.rdn.syncFrame.isSome
  let mine := s.rdn.localMiss
  let theirs := tbit m.flags 2
  let s := if mine ∧ theirs = false then (if s.rdn.role = 2 then s.yieldClaim else s.setPair 2)
    else if theirs ∧ mine = false then
      (s.withRdn { s.rdn with yieldIn := s.rdn.yieldIn || claimRole m.claim == 2 }).setPair 1
    else if s.rdn.role = 2 then s.setPair 1
    else if claimRole m.claim = 2 ∨ s.rdn.own < m.claim then s.setPair 2 else s.setPair 1
  if first then s.syncFail else s

/-- The partner's message is missing on the link (R337). -/
def State.messageMissing (s : State) : State :=
  let s := s.count .rdnMsgMiss
  let s := if s.rdn.syncFrame.isSome then s.syncFail else s
  if s.linkPorts ≠ 0 ∧ s.rdn.hb.isSome then s.setPair 2 else s.setPair 1

/-- The source of a transfer is PAIRED with the first message of a PAIRED joiner (R340 step 5). -/
def State.joinPaired (s : State) : State :=
  match s.rdn.msg with
  | some m =>
    if s.rdn.pstate = 2 ∧ s.rdn.syncSource ∧ m.pstate = 3 then
      let s := s.setPair 3
      s.withRdn { s.rdn with pairedFrames := 0, exchAt := s.clk.now }
    else s
  | none => s

/-- The work at the end of course 1 slot 33. -/
def State.pairCompare (s : State) : State :=
  let fresh := match s.rdn.msg with
    | some m => if m.frame = s.crs.frame then some m else none
    | none => none
  let s := s.withRdn { s.rdn with msg := fresh, compFrame := some s.crs.frame }
  let s := s.pathEvents.partnerHeard.compareImage.expireForwarded.joinPaired
  if s.rdn.pstate ≠ 3 then s else
  match fresh with
  | none => s.messageMissing
  | some m => if m.digest = s.rdn.digest then s.inStep m else s.outOfStep m

/-- The comparison of a frame is due: in pair mode, once, at the end of course 1 slot 33 or as soon after it as the
sender puts it, and before KEYSTONE (R337, R19). -/
def State.comparesNow (s : State) : Bool :=
  s.pairMode && s.tableRuns && decide (s.itemStop 8 ≤ s.framePlace) && s.rdn.compFrame != some s.crs.frame
    && !s.crs.doneItems.contains 9

/-- PAIR_COMPARE (R337). -/
def execPairCompare (t : Nat) (s : State) : Host.Outcome State Fault Refusal :=
  .next <| (s.instant t).whileRunning fun s => if s.comparesNow then s.pairCompare else s

/-! ## Frame ticks (R335, R340) -/

/-- The pieces that a state image is sent in: offset, then up to 1,024 bytes of data (R340; spec/23 R521). -/
def imagePieces : Nat → Nat → List Byte → List (List Byte)
  | 0, _, _ => []
  | fuel + 1, at_, b => if b.isEmpty then [] else (lebytes 4 at_ ++ b.take 1024) :: imagePieces fuel (at_ + 1024) (b.drop 1024)

/-- The source copies its state image at the tick of frame j = i + 2, with its own values as the aligned view from which
both parts go on, and sends it over the link. The coding of the image is not given: its bytes are a free value (R340
steps 3 and 4; assumption 84). -/
def State.sendImage (s : State) : State :=
  match s.rdn.syncFrame with
  | some i =>
    if s.rdn.syncSource ∧ s.crs.frame = i + 2 then
      let b := (Config.stateBytes s.clk.free).take 3145728
      (imagePieces 3072 0 b).foldl (fun s p => s.sendLink 0x0C p) s.beginView.useFree
    else s
  | none => s

/-- Pair mode at a frame tick, before any command takes effect: the STANDBY's commands of the last frame count as
accepted by the ACTIVE; a joiner with its image installed is PAIRED. -/
def State.pairTick (s : State) : State :=
  if s.pairMode = false then s else
  let got : List (List Byte) := match s.rdn.msg with
    | some m => if s.rdn.pstate = 3 ∧ s.rdn.role = 2 ∧ m.frame + 1 = s.crs.frame then m.cmds else []
    | none => []
  let s := s.withRdn { s.rdn with msg := none, hb := none, hbPaths := 0 }
  let s := got.foldl (fun s b =>
    match descCmd b (Config.pairBuffer s.clk.free) with
    | none => s
    | some c =>
      let w : Waiting := { ring := noRing, ref := 0, cmd := c, hdr := descHdr noRing none b, time := s.devTime, due := s.crs.frame + 1, desc := b }
      (s.withRdn { s.rdn with batch := s.rdn.batch ++ [w] }).useFree) s
  if s.rdn.installed then
    let s := s.setPair 3
    s.withRdn { s.rdn with installed := false, pairedFrames := 0, exchAt := s.clk.now }
  else s.sendImage

/-- An activation: pair mode begins or ends (R333). -/
def State.activatePair (s : State) : State :=
  if s.pairMode then (if s.rdn.pstate = 0 then s.setPair 1 else s) else s.setPair 0

/-! ## Resynchronisation (R340) -/

/-- The joiner asks for the image: SYNCING from here, flag bit 6 in the message of frame i. -/
def State.startJoin (s : State) : State :=
  let i := if s.rdn.evalFrame = some s.crs.frame then s.crs.frame + 1 else s.crs.frame
  let s := (s.setRole 0 .notice).setPair 2
  s.withRdn { s.rdn with syncFrame := some i, syncSource := false, pieces := 0, installed := false, syncRetry := none }

/-- This part is the joiner of the two: the partner holds the claim, or neither does and its claim is higher; and the
images are equal (R77, R340). -/
def State.joins (s : State) : Bool :=
  s.pairMode && s.rdn.syncFrame.isNone && s.rdn.pAlive && s.rdn.linkMsg && s.rdn.role != 2
    && (s.rdn.pRole == 2 || decide (s.rdn.own < s.rdn.partner)) && s.imageAgrees
    && (s.rdn.pstate != 3 || s.readyCode == 6)

/-- RESYNC_START: as joiner, or as source when the partner's message asks for it (R340). -/
def execResyncStart (t : Nat) (joiner : Bool) (s : State) : Host.Outcome State Fault Refusal :=
  .next <| (s.instant t).whileRunning fun s =>
    if joiner then (if s.joins ∧ s.rdn.syncRetry = none then s.startJoin else s)
    else match s.rdn.msg with
      | some m =>
        if s.pairMode ∧ s.rdn.syncFrame = none ∧ tbit m.flags 6 ∧ s.imageAgrees then
          let s := s.setPair 2
          s.withRdn { s.rdn with syncFrame := some m.frame, syncSource := true }
        else s
      | none => s

/-- STATE_IMAGE_PIECE_RX (R340). -/
def execStateImagePieceRx (t : Nat) (hd : LinkHdr) (bytes : List Byte) (s : State) : Host.Outcome State Fault Refusal :=
  .next <| (s.instant t).whileRunning <| State.linkTake hd 0x0C bytes bytes fun s =>
    if s.rdn.syncFrame.isSome ∧ s.rdn.syncSource = false then s.withRdn { s.rdn with pieces := s.rdn.pieces + (bytes.length - 4) } else s

/-- The state image takes the place of this part's own control state. -/
def State.install (x : StateImage) (s : State) : State :=
  { s with
    est := { x.est with refs := x.est.refs.map (fun (r : RefSt) => { r with capture := r.capture.map foreign }) }
    vsl := { s.vsl with store := x.store }
    sni := { s.sni with buffer := x.buffer, peak := max s.sni.peak x.buffer.length }
    pnt := { s.pnt with aligned := x.aligned }
    ctl := { x.ctl with spWait := x.ctl.spWait.map (fun r => { r with cmd := foreign r.cmd }) }
    alloc := x.alloc
    csq := x.csq
    trim := { x.trim with waiting := x.trim.waiting.map foreign }
    rdn := { s.rdn with seq := x.seq, sent := true, installed := true } }

/-- RESYNC_INSTALL: `img` is the state image with the frames since its own made up, up to the present one (R340 step 5;
assumption 27). -/
def execResyncInstall (t : Nat) (img : StateImage) (s : State) : Host.Outcome State Fault Refusal :=
  .next <| (s.instant t).whileRunning fun s =>
    match s.rdn.syncFrame with
    | some i =>
      if s.rdn.pstate = 2 ∧ s.rdn.syncSource = false ∧ s.rdn.installed = false ∧ 0 < s.rdn.pieces ∧ img.frame = s.crs.frame
        ∧ newer (i + 2) s.crs.frame = false then s.install img
      else s
    | none => s

/-- SYNC_LIMIT. -/
def State.syncLimit (s : State) : Nat := s.effField .rdnCfg 5 10

/-- RESYNC_TIMEOUT: not complete within SYNC_LIMIT frames of frame i (R340). -/
def execResyncTimeout (t : Nat) (s : State) : Host.Outcome State Fault Refusal :=
  .next <| (s.instant t).whileRunning fun s =>
    match s.rdn.syncFrame with
    | some i => if (s.syncLimit : Int) ≤ wdiff s.crs.frame i ∧ s.rdn.pstate = 2 then s.syncFail.setPair 1 else s
    | none => s

/-- RESYNC_RETRY: 60 s after the failure (R340). -/
def execResyncRetry (t : Nat) (s : State) : Host.Outcome State Fault Refusal :=
  .next <| (s.instant t).whileRunning fun s =>
    match s.rdn.syncRetry with
    | some at_ =>
      if at_ ≤ s.clk.now then
        let s := s.withRdn { s.rdn with syncRetry := none }
        if s.joins then s.startJoin else s
      else s
    | none => s

/-! ## Role exchange (R341) -/

/-- EXCH_PERIOD, ns. -/
def State.exchPeriod (s : State) : Nat := 3600000000000 * s.effField .rdnExch 1 8

/-- The scheduled exchange is due. -/
def State.exchDue (s : State) : Bool := s.effField .rdnExch 0 1 == 1 && decide (s.rdn.exchAt + s.exchPeriod ≤ s.clk.now)

/-- The conditions of a proposal (R341). -/
def State.exchAllowed (s : State) : Bool :=
  s.rdn.pstate == 3 && s.rdn.role == 2 && decide (1500 ≤ s.rdn.pairedFrames)
    && decide (s.rdn.score ≤ bits s.rdn.partner.toNat 4 8) && decide (s.csq.state ≤ 1)
    && !(s.ctl.mode == 5 && s.ctl.phase == 1)

/-- A proposal is made, or tried again in 60 s; one that is 1 h overdue raises event source 86 as a warning (R341). -/
def State.proposeExchange (s : State) : State :=
  if s.rdn.exchFrame.isSome ∨ s.rdn.exchAsk then s
  else if s.exchAllowed then s.withRdn { s.rdn with exchAsk := true, exchRetry := none }
  else
    let s := s.withRdn { s.rdn with exchRetry := some (s.clk.now + 60000000000) }
    if s.exchDue ∧ s.rdn.exchWarned = false ∧ s.rdn.exchAt + s.exchPeriod + 3600000000000 ≤ s.clk.now then
      (s.withRdn { s.rdn with exchWarned := true }).raise 86 .warning 0 0 noIndex []
    else s

/-- EXCHANGE_PROPOSAL_DUE (R341). -/
def execExchangeProposalDue (t : Nat) (s : State) : Host.Outcome State Fault Refusal :=
  .next <| (s.instant t).whileRunning fun s =>
    let due : Bool := match s.rdn.exchRetry with
      | some r => decide (r ≤ s.clk.now)
      | none => true
    if s.pairMode ∧ s.rdn.role = 2 ∧ due ∧ (s.exchDue ∨ s.rdn.exchCmd.isEmpty = false) then s.proposeExchange else s

/-- ROLE_EXCHANGE proposes at once, and completes when the exchange is done or abandoned (R341, R423). -/
def State.takeRoleExchange (w : Waiting) (s : State) : State :=
  (s.withRdn { s.rdn with exchCmd := s.rdn.exchCmd ++ [(w.ring, w.ref)] }).proposeExchange

end Sys2Proof.Machine
end

