-- ==== Sys2Proof/Machine/HostCmd.lean ====
section
/-! DEFINITION. The checks of a descriptor, acceptance, and the commands that are served in the HOST item
(spec/17_host_rings.md R419 to R424; spec/13 R335; spec/04 R95). -/

namespace Sys2Proof.Machine
open Sys2Proof

/-! ## Commands of this chapter and of the intake -/

/-- The buffer of a command as the DMA brought it: LEN bytes (R418). -/
def cmdWithLen (h : CmdHdr) (c : HostCmd) : HostCmd :=
  match c with
  | .gnssCorrection d => .gnssCorrection (padTo h.len d)
  | .trackLoad d => .trackLoad (padTo h.len d)
  | .streamSet st n d => .streamSet st n (padTo h.len d)
  | .canSend ct f i d => .canSend ct f i (padTo h.len d)
  | c => c

/-- The command reads a buffer before it is carried out; an image has its own fetch (R67). -/
def readsBuffer (c : HostCmd) : Bool :=
  match c with
  | .gnssCorrection _ | .trackLoad _ | .streamSet _ _ _ | .canSend _ _ _ _ => true
  | _ => false

/-- The analog channel's entry feeds a reference that is admitted to the vote (R95). -/
def State.channelAdmitted (s : State) (channel : Nat) : Bool :=
  match s.quoinAt 2 channel with
  | some q => s.refDescs.any (fun d => rfEntry d == qnEntry q && (s.refSt (rfRef d)).state == 2)
  | none => false

/-- The analog channel's entry feeds trim and heel holding (R95). -/
def State.channelTrims (s : State) (channel : Nat) : Bool :=
  match s.analogRoute channel with
  | some r => (rtPoints r).any (ballastPoints (imgSection s.image 0x0B)).contains
  | none => false

/-- ANALOG_TEST (R95, R424): it completes at the first output after the switch; a channel without an entry has no
outputs, so there it completes at once. -/
def State.takeAnalogTest (w : Waiting) (channel input : Nat) (s : State) : State :=
  if s.channelAdmitted channel then s.refuse w 1
  else if s.ctl.mode ≠ 0 ∧ s.channelTrims channel then s.refuse w 2
  else
    let s := s.anaSwitch channel input
    if (s.quoinAt 2 channel).isNone then s.done w 0
    else s.setAna channel { s.anaCh channel with tests := (s.anaCh channel).tests ++ [w] }

/-- The route entry of KIND 5 whose block holds a point (R423). -/
def State.hostRoute (s : State) (n : Nat) : Option (List Byte) :=
  s.routes.find? (fun r => rtKind r == 5 && rtInbound r && (rtPoints r).contains n)

/-- POINT_WRITE (R423). -/
def State.takePointWrite (w : Waiting) (n : Nat) (v : Word) (quality typ : Nat) (s : State) : State :=
  match s.hostRoute n with
  | none => s.refuse w 1
  | some r =>
    if typ ≠ rtType r then s.refuse w 2
    else
      let old := match (s.point n).full with
        | some f => decide (w.time < f)
        | none => false
      if old then (s.count .pntOld).refuse w 3
      else (s.updateRoute r w.time [{ num := n, value := some v, typ := typ, qual := byte (quality % 4) }]).done w 0

/-! ## Serving (R420, R423) -/

/-- A command that completes "at once", or that starts something which completes it, is carried out in the HOST item. -/
def State.serveNow (w : Waiting) (s : State) : State :=
  match w.cmd with
  | .nop => s.done w 0
  | .imageLoad => s.takeImageLoad w
  | .imageActivate n => s.takeImageActivate w n
  | .imageDiscard => s.takeImageDiscard w
  | .imageQuery => s.serveImageQuery w
  | .analogTest c i => s.takeAnalogTest w c i
  | .gnssCorrection d => s.takeCorrection w d
  | .gnssSnapshot secs ns dur st tap => s.takeSnapshot w secs ns dur st tap
  | .gnssQuery => s.serveGnssQuery w
  | .refStatus r => s.serveRefStatus w r
  | .estQuery => s.serveEstQuery w
  | .ctrlQuery => s.serveCtrlQuery w
  | .allocQuery => s.serveAllocQuery w
  | .conseqQuery => s.serveConseqQuery w (w.hdr.opts.getLsbD 1) (w.hdr.opts.getLsbD 0)
  | .envelopeQuery => s.serveEnvelopeQuery w
  | .trimQuery => s.serveTrimQuery w
  | .timeLeap n => (s.learnLeap 0 n).done w 0
  | .roleExchange => s.takeRoleExchange w
  | .btrReset _ _ _ => s.withBtr { s.btr with cmds := s.btr.cmds ++ [w] }
  | .btrOutput _ _ => s.withBtr { s.btr with cmds := s.btr.cmds ++ [w] }
  | .pointWrite n v q t => s.takePointWrite w n v q t
  | .streamSet st n d => (s.setStream st (streamRanges n d)).done w 0
  | .canSend c f i d => s.takeCanSend w c f i d
  | .canAbort c b => s.takeCanAbort w c b
  | .canRecover c => s.takeCanRecover w c
  | .canMode c m => s.takeCanMode w c m
  | .logRead f n => s.takeLogRead w f n
  | .memTest tg f => s.takeMemTest w tg f
  | .gridOrigin _ _ _ | .refEnable _ _ | .refTarget _ _ _ _ | .dpMode _ _ | .setpoint _ _ _ _ _ | .gainSelect _
  | .trackLoad _ | .berthSet _ _ _ _ | .thrusterEnable _ _ | .trimStart _ _ | .trimSet _ _ | .trimStop
  | .timeStepAccept _ | .timeSet _ _ _ | .claimResume => s

/-- An accepted command goes where it takes effect: in a paired part a synchronised one into the next pair message
(R335), one that takes effect at a frame tick to the next tick (R23), any other one at once. -/
def State.routeCommand (w : Waiting) (s : State) : State :=
  if syncCmd w.cmd ∧ s.rdn.pstate = 3 then s.withRdn { s.rdn with batch := s.rdn.batch ++ [w] }
  else if effectCmd w.cmd then s.withHrg { s.hrg with waiting := s.hrg.waiting ++ [w] }
  else s.serveNow w

/-- Note the acceptance of a descriptor (R419). -/
def State.markAccepted (ring ref : Nat) (s : State) : State :=
  let r := s.ring ring
  s.setRing ring { r with outst := r.outst.map (fun o =>
    if o.ref = ref then { o with accepted := true, acceptFrame := s.crs.frame, fenced := none } else o) }

/-- A descriptor that passed its checks is accepted; then its buffer is read (R419, R420). -/
def State.acceptCommand (ref : Nat) (h : CmdHdr) (c : HostCmd) (desc : List Byte) (s : State) : State :=
  let w : Waiting := { ring := h.ring, ref := ref, cmd := cmdWithLen h c, hdr := h, time := s.devTime, due := s.crs.frame + 1, desc := desc }
  let s := s.markAccepted h.ring ref
  if readsBuffer c then s.withBuffer w (fun s => s.routeCommand w) else s.routeCommand w

/-- A descriptor that waited on FENCE is accepted once every earlier one of its ring has completed (R419). -/
def State.releaseFenced (ring : Nat) (s : State) : State :=
  match (s.ring ring).outst with
  | o :: _ =>
    match o.fenced with
    | some x => s.acceptCommand o.ref x.1 x.2.1 x.2.2
    | none => s
  | [] => s

/-! ## The checks of R419 -/

/-- The phase of the lap that a ring's position is on (R414). -/
def Ring.phase (r : Ring) : Nat := if r.partPos / r.size = 0 then 1 else 0

/-- A descriptor has been fetched: it holds its place in the order of completions (R25). -/
def State.pushOutst (ring code : Nat) (tag : Half) (s : State) : State :=
  let r := s.ring ring
  let o : Outst := { ref := s.hrg.nextRef, code := code, tag := tag, index := r.partPos % r.size, acceptFrame := 0
                     accepted := false, fenced := none, done := none }
  let s := s.withHrg { s.hrg with nextRef := s.hrg.nextRef + 1 }
  s.setRing ring { r with partPos := (r.partPos + 1) % (2 * r.size), outst := r.outst ++ [o], phaseWait := none }

/-- The descriptor waits on FENCE. -/
def State.setFenced (ring ref : Nat) (x : CmdHdr × HostCmd × List Byte) (s : State) : State :=
  let r := s.ring ring
  s.setRing ring { r with outst := r.outst.map (fun o => if o.ref = ref then { o with fenced := some x } else o) }

/-- Checks 3 to 5 of R419, on a descriptor whose CODE is known. -/
def State.checkDescriptor (h : CmdHdr) (c : HostCmd) (desc : List Byte) (s : State) : State :=
  let ref := s.hrg.nextRef
  let s := s.pushOutst h.ring (cmdCode c) h.tag
  match s.formatError h c with
  | some o => s.complete h.ring ref 3 (word o)
  | none =>
    if s.denies c then s.complete h.ring ref 7 0
    else if h.fence ∧ (s.ring h.ring).outst.length ≠ 1 then s.setFenced h.ring ref (h, c, desc)
    else s.acceptCommand ref h c desc

/-- The fields of a descriptor can hold the command: every parameter fits its field, and so does LEN (R418). -/
def cmdFits (h : CmdHdr) (c : HostCmd) : Bool :=
  ((paramFields (cmdCode c)).zip (cmdParams c)).all (fun p => decide (p.2 < 256 ^ p.1.2)) && decide (h.len < 4294967296)

/-- The HOST item fetches and checks the descriptor of one command (R419); where none is due on the ring, nothing
happens. -/
def State.hostCommand (t : Nat) (h : CmdHdr) (c : HostCmd) (s : State) : State :=
  (s.instant t).whileRunning fun s =>
    if s.canFetch h.ring && cmdFits h c then s.checkDescriptor h c (descBytes (s.ring h.ring).phase h c) else s

end Sys2Proof.Machine
end

