-- ==== Sys2Proof/Machine/HostIf.lean ====
section
/-! DEFINITION. The HOST item, completions, bulk pieces, and one command of the block for each host command
(spec/17_host_rings.md R419 to R428; spec/18_events.md R444). -/

namespace Sys2Proof.Machine
open Sys2Proof

/-! ## The HOST item (R419) -/

/-- One read of the descriptor at a ring's position: a read that failed twice, a wrong phase, an unknown CODE, a reserved
field that is not zero, or a descriptor for the other checks. -/
def State.hostFetch (f : Fetch) (s : State) : State :=
  let b := padTo 64 f.bytes
  let r := s.ring f.ring
  if s.canFetch f.ring = false then s
  else if f.fetched = false then ((s.count .fetchErr).raise 114 .notice 0 0 f.ring []).fetchLost f.ring
  else if u8 b 0 % 2 ≠ r.phase then s.setRing f.ring { r with phaseWait := some (r.phaseWait.getD s.clk.now) }
  else
    let ref := s.hrg.nextRef
    match descCmd b f.data with
    | none => (s.pushOutst f.ring (u8 b 1) (BitVec.ofNat 16 (u16 b 2))).complete f.ring ref 2 0
    | some c =>
      match reservedError b with
      | some o => (s.pushOutst f.ring (u8 b 1) (BitVec.ofNat 16 (u16 b 2))).complete f.ring ref 3 (word o)
      | none => s.checkDescriptor (descHdr f.ring f.dma b) c b

/-- The rings in rotation, up to 4 descriptors of one ring per turn; `fuel` bounds the turns. -/
def State.hostTurns : Nat → List Fetch → State → State
  | 0, _, s => s
  | fuel + 1, fs, s =>
    if fs.isEmpty then s else
    let mine := (fs.filter (fun f => f.ring == s.hrg.turn)).take 4
    let rest := (fs.filter (fun f => f.ring == s.hrg.turn)).drop 4 ++ fs.filter (fun f => f.ring != s.hrg.turn)
    let s := mine.foldl (fun s f => s.hostFetch f) s
    State.hostTurns fuel rest (s.withHrg { s.hrg with turn := (s.hrg.turn + 1) % 8 })

/-- HOST: queued event entries, descriptors that waited on FENCE, those whose turn it is, and event entries again (R419, R444).
`fetches` is what the reads of descriptors and buffers brought, in order. -/
def execHost (t : Nat) (fetches : List Fetch) (s : State) : Host.Outcome State Fault Refusal :=
  .next <| s.runService 0x20 t fun s =>
    let fs := fetches.filter (fun f => decide (f.ring < 8))
    let s := (List.range 8).foldl (fun s r => s.releaseFenced r) s.writeEvents
    (s.hostTurns (8 * fs.length) fs).writeEvents

/-- COMPLETION_POST (R421). -/
def execCompletionPost (t ring : Nat) (s : State) : Host.Outcome State Fault Refusal :=
  .next <| if ring < 8 ∧ s.hostServes then ((s.instant t).postCompletion ring).releaseFenced ring else s

/-- BULK_PIECE_WRITE (R428): a piece of the transfer at the head; for a log read the records are read as its turn comes,
which may fail (R462). -/
def execBulkPieceWrite (piece : BulkPiece) (s : State) : Host.Outcome State Fault Refusal :=
  .next <| if s.hostServes then (((s.instant piece.t).fillLogRead piece.read).writePiece).snapExported else s

/-! ## The commands of the command table (R423)

Each is the HOST item taking one descriptor of that command. -/

/-- NOP, 0x01. -/
def execNop (t : Nat) (h : CmdHdr) (s : State) : Host.Outcome State Fault Refusal := .next (s.hostCommand t h .nop)

/-- IMAGE_LOAD, 0x10 (R67). -/
def execImageLoad (t : Nat) (h : CmdHdr) (s : State) : Host.Outcome State Fault Refusal :=
  .next (s.hostCommand t h .imageLoad)

/-- IMAGE_ACTIVATE, 0x11 (R69). -/
def execImageActivate (t : Nat) (h : CmdHdr) (n : Word) (s : State) : Host.Outcome State Fault Refusal :=
  .next (s.hostCommand t h (.imageActivate n))

/-- IMAGE_DISCARD, 0x12 (R67). -/
def execImageDiscard (t : Nat) (h : CmdHdr) (s : State) : Host.Outcome State Fault Refusal :=
  .next (s.hostCommand t h .imageDiscard)

/-- IMAGE_QUERY, 0x13 (R425). -/
def execImageQuery (t : Nat) (h : CmdHdr) (s : State) : Host.Outcome State Fault Refusal :=
  .next (s.hostCommand t h .imageQuery)

/-- ANALOG_TEST, 0x18 (R95). -/
def execAnalogTest (t : Nat) (h : CmdHdr) (channel input : Nat) (s : State) : Host.Outcome State Fault Refusal :=
  .next (s.hostCommand t h (.analogTest channel input))

/-- GNSS_CORRECTION, 0x19 (R122). -/
def execGnssCorrection (t : Nat) (h : CmdHdr) (data : List Byte) (s : State) : Host.Outcome State Fault Refusal :=
  .next (s.hostCommand t h (.gnssCorrection data))

/-- GNSS_SNAPSHOT, 0x1A (R129). -/
def execGnssSnapshot (t : Nat) (h : CmdHdr) (secs ns dur streams tap : Nat) (s : State) : Host.Outcome State Fault Refusal :=
  .next (s.hostCommand t h (.gnssSnapshot secs ns dur streams tap))

/-- GNSS_QUERY, 0x1B (R425). -/
def execGnssQuery (t : Nat) (h : CmdHdr) (s : State) : Host.Outcome State Fault Refusal :=
  .next (s.hostCommand t h .gnssQuery)

/-- GRID_ORIGIN, 0x20 (R148). -/
def execGridOrigin (t : Nat) (h : CmdHdr) (lat lon height : Word) (s : State) : Host.Outcome State Fault Refusal :=
  .next (s.hostCommand t h (.gridOrigin lat lon height))

/-- REF_ENABLE, 0x21 (R172). -/
def execRefEnable (t : Nat) (h : CmdHdr) (ref on : Nat) (s : State) : Host.Outcome State Fault Refusal :=
  .next (s.hostCommand t h (.refEnable ref on))

/-- REF_TARGET, 0x22 (R172). -/
def execRefTarget (t : Nat) (h : CmdHdr) (ref capture : Nat) (n e : Word) (s : State) : Host.Outcome State Fault Refusal :=
  .next (s.hostCommand t h (.refTarget ref capture n e))

/-- REF_STATUS, 0x23 (R171). -/
def execRefStatus (t : Nat) (h : CmdHdr) (ref : Nat) (s : State) : Host.Outcome State Fault Refusal :=
  .next (s.hostCommand t h (.refStatus ref))

/-- EST_QUERY, 0x24 (R170). -/
def execEstQuery (t : Nat) (h : CmdHdr) (s : State) : Host.Outcome State Fault Refusal :=
  .next (s.hostCommand t h .estQuery)

/-- DP_MODE, 0x28 (R175). -/
def execDpMode (t : Nat) (h : CmdHdr) (mode joy : Nat) (s : State) : Host.Outcome State Fault Refusal :=
  .next (s.hostCommand t h (.dpMode mode joy))

/-- SETPOINT, 0x29 (R179). -/
def execSetpoint (t : Nat) (h : CmdHdr) (flags turn : Nat) (n e heading : Word) (s : State) : Host.Outcome State Fault Refusal :=
  .next (s.hostCommand t h (.setpoint flags turn n e heading))

/-- GAIN_SELECT, 0x2A (R195). -/
def execGainSelect (t : Nat) (h : CmdHdr) (set : Nat) (s : State) : Host.Outcome State Fault Refusal :=
  .next (s.hostCommand t h (.gainSelect set))

/-- TRACK_LOAD, 0x2B (R188). -/
def execTrackLoad (t : Nat) (h : CmdHdr) (data : List Byte) (s : State) : Host.Outcome State Fault Refusal :=
  .next (s.hostCommand t h (.trackLoad data))

/-- BERTH_SET, 0x2C (R192). -/
def execBerthSet (t : Nat) (h : CmdHdr) (n e heading : Word) (side : Nat) (s : State) : Host.Outcome State Fault Refusal :=
  .next (s.hostCommand t h (.berthSet n e heading side))

/-- CTRL_QUERY, 0x2D (R200). -/
def execCtrlQuery (t : Nat) (h : CmdHdr) (s : State) : Host.Outcome State Fault Refusal :=
  .next (s.hostCommand t h .ctrlQuery)

/-- THRUSTER_ENABLE, 0x30 (R211). -/
def execThrusterEnable (t : Nat) (h : CmdHdr) (changed on : Half) (s : State) : Host.Outcome State Fault Refusal :=
  .next (s.hostCommand t h (.thrusterEnable changed on))

/-- ALLOC_QUERY, 0x31 (R227). -/
def execAllocQuery (t : Nat) (h : CmdHdr) (s : State) : Host.Outcome State Fault Refusal :=
  .next (s.hostCommand t h .allocQuery)

/-- CONSEQ_QUERY, 0x32 (R281). -/
def execConseqQuery (t : Nat) (h : CmdHdr) (s : State) : Host.Outcome State Fault Refusal :=
  .next (s.hostCommand t h .conseqQuery)

/-- ENVELOPE_QUERY, 0x33 (R282). -/
def execEnvelopeQuery (t : Nat) (h : CmdHdr) (s : State) : Host.Outcome State Fault Refusal :=
  .next (s.hostCommand t h .envelopeQuery)

/-- TRIM_START, 0x38 (R297). -/
def execTrimStart (t : Nat) (h : CmdHdr) (heel trim : Half) (s : State) : Host.Outcome State Fault Refusal :=
  .next (s.hostCommand t h (.trimStart heel trim))

/-- TRIM_SET, 0x39 (R297). -/
def execTrimSet (t : Nat) (h : CmdHdr) (heel trim : Half) (s : State) : Host.Outcome State Fault Refusal :=
  .next (s.hostCommand t h (.trimSet heel trim))

/-- TRIM_STOP, 0x3A (R297). -/
def execTrimStop (t : Nat) (h : CmdHdr) (s : State) : Host.Outcome State Fault Refusal :=
  .next (s.hostCommand t h .trimStop)

/-- TRIM_QUERY, 0x3B (R298). -/
def execTrimQuery (t : Nat) (h : CmdHdr) (s : State) : Host.Outcome State Fault Refusal :=
  .next (s.hostCommand t h .trimQuery)

/-- TIME_STEP_ACCEPT, 0x40 (R308). -/
def execTimeStepAccept (t : Nat) (h : CmdHdr) (seq : Nat) (s : State) : Host.Outcome State Fault Refusal :=
  .next (s.hostCommand t h (.timeStepAccept seq))

/-- TIME_SET, 0x41 (R308). -/
def execTimeSet (t : Nat) (h : CmdHdr) (secs ns unc : Nat) (s : State) : Host.Outcome State Fault Refusal :=
  .next (s.hostCommand t h (.timeSet secs ns unc))

/-- TIME_LEAP, 0x42 (R311). -/
def execTimeLeap (t : Nat) (h : CmdHdr) (count : Nat) (s : State) : Host.Outcome State Fault Refusal :=
  .next (s.hostCommand t h (.timeLeap count))

/-- CLAIM_RESUME, 0x48 (R324). -/
def execClaimResume (t : Nat) (h : CmdHdr) (s : State) : Host.Outcome State Fault Refusal :=
  .next (s.hostCommand t h .claimResume)

/-- ROLE_EXCHANGE, 0x49 (R341). -/
def execRoleExchange (t : Nat) (h : CmdHdr) (s : State) : Host.Outcome State Fault Refusal :=
  .next (s.hostCommand t h .roleExchange)

/-- BTR_RESET, 0x50 (R353). -/
def execBtrReset (t : Nat) (h : CmdHdr) (inputs : Half) (remotes outputs : Byte) (s : State) : Host.Outcome State Fault Refusal :=
  .next (s.hostCommand t h (.btrReset inputs remotes outputs))

/-- BTR_OUTPUT, 0x51 (R353). -/
def execBtrOutput (t : Nat) (h : CmdHdr) (changed on : Byte) (s : State) : Host.Outcome State Fault Refusal :=
  .next (s.hostCommand t h (.btrOutput changed on))

/-- POINT_WRITE, 0x58 (R423). -/
def execPointWrite (t : Nat) (h : CmdHdr) (point : Nat) (value : Word) (quality typ : Nat) (s : State) : Host.Outcome State Fault Refusal :=
  .next (s.hostCommand t h (.pointWrite point value quality typ))

/-- STREAM_SET, 0x5A (R387). -/
def execStreamSet (t : Nat) (h : CmdHdr) (stream count : Nat) (data : List Byte) (s : State) : Host.Outcome State Fault Refusal :=
  .next (s.hostCommand t h (.streamSet stream count data))

/-- CAN_SEND, 0x60 (R398). -/
def execCanSend (t : Nat) (h : CmdHdr) (ctl flags ident : Nat) (data : List Byte) (s : State) : Host.Outcome State Fault Refusal :=
  .next (s.hostCommand t h (.canSend ctl flags ident data))

/-- CAN_ABORT, 0x61 (R398). -/
def execCanAbort (t : Nat) (h : CmdHdr) (ctl buf : Nat) (s : State) : Host.Outcome State Fault Refusal :=
  .next (s.hostCommand t h (.canAbort ctl buf))

/-- CAN_RECOVER, 0x62 (R401). -/
def execCanRecover (t : Nat) (h : CmdHdr) (ctl : Nat) (s : State) : Host.Outcome State Fault Refusal :=
  .next (s.hostCommand t h (.canRecover ctl))

/-- CAN_MODE, 0x63 (R403). -/
def execCanMode (t : Nat) (h : CmdHdr) (ctl mode : Nat) (s : State) : Host.Outcome State Fault Refusal :=
  .next (s.hostCommand t h (.canMode ctl mode))

/-- LOG_READ, 0x68 (R461). -/
def execLogRead (t : Nat) (h : CmdHdr) (first : Word) (count : Nat) (s : State) : Host.Outcome State Fault Refusal :=
  .next (s.hostCommand t h (.logRead first count))

/-- MEM_TEST, 0x70 (R479). -/
def execMemTest (t : Nat) (h : CmdHdr) (target form : Nat) (s : State) : Host.Outcome State Fault Refusal :=
  .next (s.hostCommand t h (.memTest target form))

end Sys2Proof.Machine
end

