-- ==== Sys2Proof/Machine/Seeds.lean ====
section
/-! DEFINITION. The content blocks of a hold-up save and their use at restore (spec/22_power_and_startup.md R506). -/

namespace Sys2Proof.Machine
open Sys2Proof

/-- Block 2: the mean of filter 0, roll, pitch and the IMU in use. -/
def State.estSeed (s : State) : EstSeed :=
  { mean := (s.est.filters.head?.map Filt.mean).getD (List.replicate 18 f0), roll := s.est.roll, pitch := s.est.pitch, imu := s.est.imuCur }

/-- Block 4: ephemerides, almanacs, ionosphere and last standalone position. -/
def State.gnsSeed (s : State) : GnsSeed := s.gns.seed

/-- Block 5: the integral frequency of the time engine's loop, or the word it started from. -/
def State.freqWord (s : State) : Int := s.tim.integral.head?.getD s.tim.startFreq

/-- Block 6: mode, role, setpoint and desired point, gain set. -/
def State.dpReport (s : State) : DpReport :=
  { mode := s.ctl.mode, role := s.rdn.role, setpoint := s.ctl.sp, gainSet := s.ctl.gainSet }

/-- What a restored area seeds at once: acquisition and the starting frequency word. The seeds of the means and the warm
starts wait for the first activation (R506, spec/03 R74). -/
def State.seedAfterRestore (a : SaveArea) (s : State) : State :=
  let s := match a.gnss with
    | some g => s.withGns { s.gns with seed := g }
    | none => s
  match a.freq with
  | some f => s.withTim { s.tim with freq := f, startFreq := f }
  | none => s

/-- At the first activation after the restart, the seed of the means and the warm starts are used when the DIGEST saved
equals that of the image (spec/03 R74): the seed, and the state with the warm starts. -/
def State.seedAtActivation (s : State) : Option EstSeed × State :=
  match s.pwr.kept with
  | some a =>
    let s1 := s.withPwr { s.pwr with kept := none }
    if a.digest = s.activeDigest then (a.seed, s1.restoreWarm a.warm) else (none, s1)
  | none => (none, s)

end Sys2Proof.Machine
end

