-- ==== Sys2Proof/Machine/Activation.lean ====
section
/-! DEFINITION. What the activation of an image does (spec/03_vessel_model_image.md R69 to R75, R40; spec/04 R93, R101;
spec/06 R159, R172; spec/15 R377). -/

namespace Sys2Proof.Machine
open Sys2Proof

/-! ## Quoin entries (R93, R101) -/

/-- The port and the settings of a quoin entry. -/
def qnPlace (q : List Byte) : List Nat := [qnKind q, qnPort q, qnMember q, u32 q 0x1C]

/-- An entry that the activation brought, or whose port or settings it changed, is timed from its tick; one that it
brought is not silent (R101). -/
def State.activateEntry (old : List Byte) (first : Bool) (q : List Byte) (s : State) : State :=
  let x := s.entrySt (qnEntry q)
  match if first then none else (imgQuoins old).find? (fun o => qnEntry o == qnEntry q) with
  | none => s.setEntrySt (qnEntry q) { x with since := s.crs.courseCnt, silent := false }
  | some o =>
    if qnPlace o = qnPlace q then s else s.setEntrySt (qnEntry q) { x with since := s.crs.courseCnt }

/-- An entry that the new image does not use is no longer silent. -/
def State.dropEntries (s : State) : State :=
  (List.range 40).foldl (fun s e =>
    if (s.quoin e).isNone then s.setEntrySt e { s.entrySt e with silent := false } else s) s

/-- PRESET, RATE, SCALE_A and SCALE_B of a channel. -/
def anaSettings (q : List Byte) : Nat × Nat × Nat := (qnSet q 0 6, u32 q 0x20, u32 q 0x24)

/-- A channel whose settings changed, or whose conversion begins, starts an unsettled run (R93). -/
def State.activateChannels (old : List Byte) (s : State) : State :=
  (List.range 16).foldl (fun s c =>
    match s.quoinAt 2 c with
    | none => s
    | some q =>
      let was := (imgQuoins old).find? (fun o => qnKind o == 2 && qnPort o == c && s.ownsQuoin o)
      if was.map anaSettings = some (anaSettings q) then s else s.startRun c) s

/-- The intake takes the new QUOIN section. -/
def State.activateQuoins (old : List Byte) (first : Bool) (s : State) : State :=
  let s := s.quoins.foldl (fun s q => s.activateEntry old first q) s
  s.dropEntries.activateChannels old

/-! ## Routes (R73, R377) -/

/-- An inbound entry that changed: its points are stale until its next update, timed from the tick; one that the
activation brought is timed from the tick. DEDUCED (assumption 29). -/
def State.activateRoute (old : List Byte) (r : List Byte) (s : State) : State :=
  let e := rtEntry r
  let x := s.routeSt e
  match (imgRoutes old).find? (fun o => rtEntry o == e) with
  | none => s.setRouteSt e { x with since := s.crs.courseCnt, stale := false }
  | some o =>
    if o = r then s else
    let s1 := (s.setRouteSt e { x with since := s.crs.courseCnt, stale := true }).qualBit 2 true (rtPoints r)
    if x.stale then s1 else s1.raise 98 .notice 0 0 e []

/-- The point engine takes the new ROUTES section. -/
def State.activateRoutes (old : List Byte) (s : State) : State :=
  let ins := s.routes.filter rtInbound
  let s := s.withPnt { s.pnt with
    routes := s.pnt.routes.map (fun x => if ins.any (fun r => rtEntry r == x.1) then x else (x.1, { x.2 with stale := false })) }
  ins.foldl (fun s r => s.activateRoute old r) s

/-! ## References -/

/-- A dispute of which only one reference is left ends: that one must pass re-admission (R157, R159). DEDUCED
(assumption 29). -/
def State.activateDispute (c : Nat) (s : State) : State :=
  (s.cls c).pairs.foldl (fun s p =>
    let left := [p.a, p.b].filter (fun r => (s.refSt r).state == 3)
    if left.length < 2 then left.foldl (fun s r => s.setRef r 1 5) (s.endDispute c p) else s) s

/-! ## The activation -/

/-- The PERIOD of TRIM where trim and heel is enabled (R43). -/
def State.trimEvery (s : State) : Option Nat := if s.ballast.isEmpty then none else some (max 1 (u8 s.ballast 6))

/-- What a cold activation does first: registers sampled at it, the course table, and with a new
frame length an anchor (R40, R72, R300, R554). -/
def State.activateCold (s : State) : State :=
  let s := s.takeCfg .cold
  let s := s.withRdn { s.rdn with unitId := s.effField .rdnCfg 0 4, pairEn := s.effField .rdnCfg 4 1 == 1 }
  let l := u8 (s.sect 1) 0
  let s := if l = s.frameCourses then s else s.withTim { s.tim with anchorDue := true }
  s.buildTable l s.pairMode s.trimEvery

/-- The estimator at an activation: the filters start at the first one after start-up, a cold one clears the history
(R158, R163, R506). -/
def State.activateEstimator (first cold : Bool) (s : State) : State :=
  if first then
    let x := s.seedAtActivation
    x.2.startFilters x.1
  else if cold then s.clearHistory else s

/-- The staged image takes effect (R70 to R73, R75). In pair mode the partner, found ready for the same frame with the
same image, has it in effect from here too (R76, R77). -/
def State.activateImage (s : State) : State :=
  let old := s.image
  let first := !s.hasImage
  let paired := s.pairMode
  let cls := s.stagedClass
  let cold := cls == 0
  let w := s.img.activate
  let s := s.withImg { s.img with
    active := some s.img.staged, activeClass := cls, slot := .empty, staged := [], activate := none }
  let s := if cold then s.activateCold else s
  let s := if paired then s.withRdn { s.rdn with partnerDig := s.activeDigest } else s
  let s := ((s.activatePair).linkActivate old).newTemplates old s.image cold
  let s := s.activateEstimator first cold
  let s := (s.activateQuoins old first).activateRefs old first
  let s := (s.activateDispute 0).activateDispute 1
  let s := (s.activateWind old).activateGains.activateUnits (imgSection old 4 != s.sect 4)
  let s := (s.activateRoutes old).activateConseq (imgSection old 9 != s.sect 9)
  let s := ((s.activateTrim old).canActivate old).activateButtress old
  let s := s.raise 121 .notice 0 0 noIndex [word (u32 s.image 0x0C), word cls]
  match w with
  | some w => s.done w 0
  | none => s

/-- The activation due at the tick of frame N: it takes effect, or it is abandoned (R69, R70, R72). -/
def State.activationTick (s : State) : State :=
  match s.img.slot with
  | .pending n =>
    if n = s.crs.frame then
      (if s.tickCheck = 0 then s.activateImage else s.abandonActivation s.tickCheck)
    else s
  | _ => s

end Sys2Proof.Machine
end

