-- ==== Sys2Proof/Machine/Ticks.lean ====
section
/-! DEFINITION. Course and frame ticks, commands that take effect at them, the ticks of a member of a pair or a cascade,
and deadlines (spec/02_courses_and_frames.md R31 to R39, R46 to R49, R54; spec/01 R23; spec/13 R335; spec/23 R523, R526). -/

namespace Sys2Proof.Machine
open Sys2Proof

/-! ## Commands that take effect at a frame tick (R23, R335) -/

/-- A command takes effect at the tick of a frame. -/
def State.takeEffect (w : Waiting) (s : State) : State :=
  match w.cmd with
  | .gridOrigin lat lon h => s.takeGridOrigin w lat lon h
  | .refEnable r on => s.takeRefEnable w r on
  | .refTarget r c n e => s.takeRefTarget w r c n e
  | .dpMode m j => s.takeDpMode w m j
  | .setpoint f d n e h => s.takeSetpoint w f d n e h
  | .gainSelect g => s.takeGainSelect w g
  | .trackLoad d => s.takeTrackLoad w d
  | .berthSet n e h sd => s.takeBerthSet w n e h sd
  | .thrusterEnable c on => s.takeThrusterEnable w c on
  | .trimStart _ _ | .trimSet _ _ | .trimStop => s.takeTrim w
  | .timeStepAccept q => s.takeStepAccept w q
  | .timeSet secs ns unc => s.takeTimeSet w secs ns unc
  | .claimResume => s.takeResume w
  | .nop | .imageLoad | .imageActivate _ | .imageDiscard | .imageQuery | .analogTest _ _ | .gnssCorrection _
  | .gnssSnapshot _ _ _ _ _ | .gnssQuery | .refStatus _ | .estQuery | .ctrlQuery | .allocQuery | .conseqQuery
  | .envelopeQuery | .trimQuery | .timeLeap _ | .roleExchange | .btrReset _ _ _ | .btrOutput _ _ | .pointWrite _ _ _ _
  | .streamSet _ _ _ | .canSend _ _ _ _ | .canAbort _ _ | .canRecover _ | .canMode _ _ | .logRead _ _ | .memTest _ _ => s

/-- The batch of the ACTIVE's message, in message order (R335). -/
def State.applyBatch (s : State) : State :=
  let batch := s.rdn.apply.map Prod.snd
  batch.foldl (fun s w => s.takeEffect w) (s.withRdn { s.rdn with applied := batch.map Waiting.desc, apply := [] })

/-- The commands accepted before the tick, in order of acceptance (R23). -/
def State.applyWaiting (s : State) : State :=
  let due := s.hrg.waiting.filter (fun w => !newer w.due s.crs.frame)
  let rest := s.hrg.waiting.filter (fun w => newer w.due s.crs.frame)
  due.foldl (fun s w => s.takeEffect w) (s.withHrg { s.hrg with waiting := rest })

/-! ## Ticks (R31 to R38) -/

/-- TICK_SRC; a change raises event source 4 (R35, R55). -/
def State.setTickSrc (n : Nat) (s : State) : State :=
  if s.crs.tickSrc = n then s else (s.withCrs { s.crs with tickSrc := n }).raise 4 .notice 3 n noIndex []

/-- The first course tick stands on a whole millisecond of device time (R33). -/
def State.firstTick (s : State) : Nat := s.clk.now + ((-s.devTime) % 1000000).toNat

/-- The part of a tick phase slew that one course removes: at most 100 ns (R34). -/
def slewStep (phase : Int) : Int := max (-100) (min 100 phase)

/-- The place of the next tick of the own time engine, ns since reset (R31, R33, R34). -/
def State.ownTick (s : State) : Nat :=
  if s.crs.started then (s.clk.tickAt + 1000000 - slewStep s.crs.phase : Int).toNat else s.firstTick

/-- The next course tick opens a frame (R38). -/
def State.frameDue (s : State) : Bool := !s.crs.started || decide (s.frameCourses ≤ s.crs.course + 1)

/-- Frame, course and course count move on (R38). -/
def Crs.nextCourse (frameCourses : Nat) (c : Crs) : Crs :=
  if c.started = false then { c with started := true, frame := 0, course := 0, courseCnt := 0 }
  else if c.course + 1 < frameCourses then { c with course := c.course + 1, courseCnt := c.courseCnt + 1 }
  else { c with frame := c.frame + 1, course := 0, courseCnt := c.courseCnt + 1 }

/-- What every course tick does beside counting: registers that act at a tick or at a second take their values, the
beat of the buttress is watched, capture FIFOs are read out, the service items' runs begin anew, the master emits its
markers. -/
def State.courseWork (newSecond : Bool) (s : State) : State :=
  let s := s.takeCfg .tick
  let s := if newSecond then s.takeSecond else s
  let s := s.followRole.watchBeat.drainCaptures
  let s := s.withCrs { s.crs with
    doneItems := s.crs.doneItems.filter (fun c => decide (c < 0x20)), missed := s.crs.missed.filter (fun c => decide (c < 0x20)) }
  (s.withYlk { s.ylk with markOk := Vector.replicate 2 false }).emitMarkers

/-- T of the present frame. -/
def State.pushTick (s : State) : State :=
  s.withCrs { s.crs with tickTimes := ((s.crs.frame, s.devTime) :: s.crs.tickTimes).take 66 }

/-- τ of the frame that opens, by the keystone frame sent in the one before (R134). -/
def State.pushTau (s : State) : State :=
  s.withEst { s.est with taus := ((s.crs.frame, s.sentTau) :: s.est.taus).take 64 }

/-- A step at the tick moves device time and not the tick, so T of the frame is the tick's place in the new time.
DEDUCED from R32 and R300 (assumption 30). -/
def State.retimeTick (s : State) : State :=
  s.withCrs { s.crs with tickTimes := (s.crs.frame, s.devTime) :: s.crs.tickTimes.drop 1 }

/-- The anchor that is due (R300). -/
def State.anchorTick (s : State) : State := if s.tim.anchorDue then s.placeAnchor s.crs.frame s.devTime else s

/-- What a frame tick does beside what a course tick does: the activation that is due, then the commands, then the
beacon with the tick's time (R23, R70, R524). -/
def State.frameTick (s : State) : State :=
  let s := if s.crs.missed.contains 0x0B then s.countResume.takeSysRecords (s.crs.frame - 1) else s.countResume
  let s := s.withCrs { s.crs with doneItems := [], missed := [], ctrlMiss := false, tableFrames := s.crs.tableFrames + 1 }
  let s := s.pushTick.pushTau.noteWave.activationTick
  let s := s.linkFrame.canReference
  let s := s.gnsEpoch.pairTick
  (s.applyBatch.applyWaiting).retimeTick.anchorTick.sendBeacon

/-- Health score and role of a frame whose DIGEST and KEYSTONE did not run by the end of course 1: evaluated all the
same, with the instant of R325 (assumption 26). -/
def State.lateEval (s : State) : State :=
  if s.crs.started ∧ s.crs.course = 1 ∧ s.rdn.evalFrame ≠ some s.crs.frame then (s.instant (slotStart 30)).evalClaim else s

/-- A course tick at `place`, ns since reset. -/
def State.makeTick (place : Nat) (s : State) : State :=
  let s := s.lateEval.logPowered (place - s.clk.tickAt)
  let first := !s.crs.started
  let sec := ((s.clk.tickAt : Int) + s.clk.base) / 1000000000
  let s := s.withClk { s.clk with now := place, tickAt := place }
  let s := s.withCrs (s.crs.nextCourse s.frameCourses)
  let s := s.courseWork (first || s.devTime / 1000000000 != sec)
  if s.crs.course = 0 then s.frameTick else s

/-- A tick of the own time engine. -/
def State.ownCourse (s : State) : State :=
  let place := s.ownTick
  let s := if s.crs.started then s.withCrs { s.crs with phase := s.crs.phase - slewStep s.crs.phase } else s
  s.makeTick place

/-- A tick from the ring master, within 100 ns of the part's own (R33, R34, R523). `m` is its place. While the part
slews, CRS_PHASE is what is left to the master's tick. -/
def State.memberCourse (m : Nat) (s : State) : State :=
  let place := max (s.clk.tickAt + 999900) (min (s.clk.tickAt + 1000100) m)
  let s := s.setTickSrc 1
  let s := if s.crs.slewing then s.withCrs { s.crs with phase := (place : Int) - m } else s
  s.makeTick place

/-- The tick that the part makes without a substitute: its own, or in MEMBER that of the master; an ORPHAN makes
substitute ticks (R35, R526). -/
def State.dueTick (s : State) : State :=
  match s.ylk.state with
  | 2 =>
    match s.memberTick with
    | some m => s.memberCourse m
    | none => s
  | 4 => s
  | _ => (s.setTickSrc 0).ownCourse

/-- COURSE_TICK (R31): the time engine's tick; a frame opens with every L-th. -/
def execCourseTick (s : State) : Host.Outcome State Fault Refusal :=
  .next <| s.whileRunning fun s => if s.ylk.state = 2 then s else s.dueTick

/-- FRAME_TICK (R38): the tick due is one that opens a frame. -/
def execFrameTick (s : State) : Host.Outcome State Fault Refusal :=
  .next <| s.whileRunning fun s => if s.frameDue then s.dueTick else s

/-- IMAGE_ACTIVATION_TICK (R70): the tick due opens the target frame of a pending image. -/
def execImageActivationTick (s : State) : Host.Outcome State Fault Refusal :=
  .next <| s.whileRunning fun s =>
    if s.frameDue ∧ s.img.slot = .pending (if s.crs.started then s.crs.frame + 1 else 0) then s.dueTick else s

/-- SUBSTITUTE_TICK (R35): no tick came from the ring master, so the part makes its own. -/
def execSubstituteTick (s : State) : Host.Outcome State Fault Refusal :=
  .next <| s.whileRunning fun s =>
    if s.ylk.state = 4 ∨ (s.ylk.state = 2 ∧ s.memberTick.isNone) then
      (((s.withCrs { s.crs with tickSrc := 2 }).count .lateTick).raise 4 .notice 0 2 noIndex []).ownCourse
    else s

/-- TICK_PHASE_SLEW_END (R34): the offset is zero; a new anchor follows at the next frame (R300). -/
def execTickPhaseSlewEnd (s : State) : Host.Outcome State Fault Refusal :=
  .next <| s.whileRunning fun s =>
    if s.crs.slewing ∧ s.crs.phase = 0 then
      ((s.withCrs { s.crs with slewing := false }).withTim { s.tim with anchorDue := true }).raise 5 .notice 1 0 noIndex []
    else s

/-! ## Member ticks (R523, R526) -/

/-- MEMBER_TICK_APPLY (R523). -/
def execMemberTickApply (s : State) : Host.Outcome State Fault Refusal :=
  .next <| s.whileRunning fun s =>
    match s.ylk.state, s.memberTick with
    | 2, some m => s.memberCourse m
    | _, _ => s

/-- The next course count whose low 8 bits are those of the master's marker. -/
def alignCount (cnt low : Nat) : Nat := cnt + (low + 256 - cnt % 256) % 256

/-- The low bits of the master's course count in the present course: a marker names the course that its tick opens. -/
def State.masterCount (s : State) : Nat :=
  match (s.markerTick 0).or (s.markerTick 1) with
  | some m => if m ≤ s.clk.now then s.ylk.markBits else s.ylk.markBits + 255
  | none => s.crs.courseCnt


/-- The part becomes MEMBER: in phase it keeps its frame and slews to the master's tick, else the master's next frame
opens here (R39, R526). -/
def State.joinMaster (b : LinkBeacon) (s : State) : State :=
  let s := (s.withYlk { s.ylk with master := b.src, refused := 0 }).setLinkState 2
  let s := s.updateTickPort.setTickSrc 1
  match s.inPhase b with
  | some d =>
    let cnt := alignCount s.crs.courseCnt (s.masterCount % 256)
    let s1 := s.withCrs { s.crs with courseCnt := cnt, phase := -d, slewing := s.crs.slewing || d != 0 }
    if d ≠ 0 ∧ s.crs.slewing = false then (s1.raise 5 .notice 0 0 noIndex []).followRole else s1.followRole
  | none =>
    let cnt := alignCount s.crs.courseCnt ((s.masterCount + 255) % 256)
    (s.withCrs { s.crs with
      started := true, frame := b.frame, course := s.frameCourses - 1, courseCnt := cnt, phase := 0 }).makeTick s.clk.now

/-- LINK_JOIN (R526): the part becomes MEMBER, or is refused with the cause of the first condition that fails. -/
def execLinkJoin (t : Nat) (s : State) : Host.Outcome State Fault Refusal :=
  .next <| (s.instant t).whileRunning fun s =>
    match s.ylk.bcn with
    | none => s
    | some b =>
      if s.ylk.state ≠ 1 ∧ s.ylk.state ≠ 4 then s
      else if s.joinCause b ≠ 0 then
        (s.withYlk { s.ylk with refused := s.joinCause b }).raise 90 .notice 0 (s.joinCause b) noIndex []
      else s.joinMaster b

/-! ## Deadlines (R46 to R49) -/

/-- A record held over a frame: the frame's number, and its stale mark at byte `at_` (R47). -/
def heldRecord (frame : Word) (at_ : Nat) (b : List Byte) : List Byte :=
  let x := padTo 64 b
  wbytes frame ++ slice x 4 (at_ - 4) ++ [byte (u8 x at_) ||| 1] ++ x.drop (at_ + 1)

/-- What a missed deadline does beside the miss, by item: the held record of VOTE, LAW and CONSEQ_REPORT, and what the
items' chapters add (R47; R220, R276, R291, R321). -/
def State.missHeld (code : Nat) (s : State) : State :=
  match code with
  | 3 => (s.missItem 3).withEst { (s.missItem 3).est with record := heldRecord s.crs.frame 8 s.est.record }
  | 4 => (s.missItem 4).withCtl { (s.missItem 4).ctl with record := heldRecord s.crs.frame 0x0A s.ctl.record }
  | 6 => (s.missItem 6).caseDispatchMissed
  | 7 => s.releaseLate
  | 9 => s.keystoneMissed
  | 0x10 => (s.missItem 0x10).caseCollectMissed
  | 0x11 => (s.missItem 0x11).endRuns
  | 0x12 =>
    let s1 := s.missItem 0x12
    (s1.withCsq { s1.csq with record := heldRecord s.crs.frame 0x0A s.csq.record }).conseqMissed
  | 0x13 => if s.trimDue then s.trimMissed else s
  | c => s.missItem c


/-- DEADLINE_MISS (R46): the owner's slot timer stops the item at the end of its deadline slot. Items stopped by a save
count as no miss (R54), and none is counted before the first table (R584). -/
def execDeadlineMiss (t code : Nat) (s : State) : Host.Outcome State Fault Refusal :=
  .next <| (s.instant t).whileRunning fun s => if s.canMiss code then s.missHeld code else s

end Sys2Proof.Machine
end

