-- ==== Sys2Proof/Machine/Losses.lean ====
section
/-! DEFINITION. Work items that lose their results before their deadlines (spec/20_on_chip_memory.md R470,
spec/21_clock_domains_and_resets.md R488). -/

namespace Sys2Proof.Machine
open Sys2Proof

/-- A running item loses its result, as at a missed deadline (R46, R467). One that has finished, that no table holds or
that a save has stopped has nothing to lose (R54, R584). -/
def State.loseItem (code : Nat) (s : State) : State := if s.runs && s.itemOpen code then s.missHeld code else s

/-- ECC_UNCORRECTABLE (R470): a pair's item that reads the word loses its result, a lane ends its problem LANE_FAULT. -/
def execEccUncorrectable (t : Nat) (site : EccSite) (reader : Reader) (s : State) : Host.Outcome State Fault Refusal :=
  .next <|
    let s := (s.instant t).uncorrectable site
    match reader with
    | .item code => s.loseItem code
    | .lane n => s.laneFault n
    | .other => s

/-- CROSSING_TIMEOUT: a request on a request and acknowledge crossing whose far clock has stopped ends with TIMEOUT;
the crossing is STALLED, and a processor's work item loses its result (R488); a host's register access at the offset
`access` ends without effect and is counted (R551). -/
def execCrossingTimeout (t crossing item : Nat) (access : Option Nat) (s : State) : Host.Outcome State Fault Refusal :=
  .next <|
    if (crossingRow crossing).1 ≠ 0 ∨ s.crossingClocks crossing then s else
    let s := ((s.instant t).count .xTimeout).stall crossing
    match access with
    | some off =>
      if (accessCrossings off).contains crossing then (s.count .badAccess).raise 127 .notice 5 0 (off % 65536) [] else s.loseItem item
    | none => s.loseItem item

end Sys2Proof.Machine
end

