-- ==== Sys2Proof/Machine/Posting.lean ====
section
/-! DEFINITION. POST_POINTS and POST_LOG (spec/15_point_image_and_networks.md R372; spec/18 R444; spec/19 R455;
spec/23 R531). -/

namespace Sys2Proof.Machine
open Sys2Proof

/-- POST_POINTS (R372, R444, R531) writes the next `count` records of the frame and finishes with the last; after a missed
deadline it goes on in the free slots of pair 4, over the frame tick up to its next start. -/
def execPostPoints (run : PostRun) (s : State) : Host.Outcome State Fault Refusal :=
  .next <| (s.instant run.t).whileRunning fun s =>
    if s.itemRuns 0x0B then
      let s := (if s.pnt.sysFrame = some s.crs.frame then s else (s.takeSysRecords s.crs.frame).sendExports.writeEvents).writeRecords run.count
      if s.pnt.sysLeft.isEmpty then s.itemDone 0x0B else s
    else if s.recordsLate then s.writeRecords run.count else s

/-- POST_LOG (R43): the frame's recorder entries are formed into records. DEDUCED: the spec gives the item no more than
its name (assumption 31). -/
def execPostLog (t : Nat) (s : State) : Host.Outcome State Fault Refusal :=
  .next <| s.runItem 0x0C t State.formRecords

end Sys2Proof.Machine
end

