-- ==== Sys2Proof/Machine/Power.lean ====
section
/-! DEFINITION. Power, hold-up save and start-up (spec/22_power_and_startup.md). -/

namespace Sys2Proof.Machine
open Sys2Proof

/-- HOLD is FULL: 15.5 V or more, in 20 mV counts (R500). -/
def holdFull (v : Nat) : Bool := decide (775 ≤ v)

/-- The capacitor is good (R501). -/
def capGood (cap esr : Nat) : Bool := decide (376 ≤ cap ∧ cap ≤ 600 ∧ esr ≤ 320)

/-- PWR_STATUS.HOLD_OK (R501). -/
def Pwr.holdOk (x : Pwr) : Bool := capGood x.cap x.esr && holdFull x.hold

/-- The HOLD voltage is judged: an event when it becomes FULL or leaves FULL (R516). -/
def State.judgeHold (volt : Nat) (s : State) : State :=
  let was := s.pwr.full
  let s := s.withPwr { s.pwr with hold := volt, full := holdFull volt }
  if was = holdFull volt then s else s.raise 119 .notice (b2n was) 0 noIndex []

/-- A measurement of the capacitor is judged (R501, R516): each one outside the limits counts and alarms. -/
def State.judgeCap (s : State) : State :=
  if capGood s.pwr.cap s.pwr.esr then
    if s.pwr.holdFault then (s.withPwr { s.pwr with holdFault := false }).raise 119 .notice 1 0 noIndex [] else s
  else ((s.withPwr { s.pwr with holdFault := true }).count .holdFail).raise 119 .alarm 0 0 noIndex []

/-- HOLD_CHARGE_COMPLETE (R500): the charge ends at `volt`. The ESR is the voltage step, in µV, over 0.1 A; after the
first charge since power-on, `rise` µs from 4.0 V to 14.0 V at 25 mA give the capacitance. -/
def execHoldChargeComplete (t volt step : Nat) (rise : Option Nat) (s : State) : Host.Outcome State Fault Refusal :=
  .next <|
    if s.pwr.save.isSome then s else
    let s := s.instant t
    let cap := match rise with
      | some us => us / 400
      | none => s.pwr.cap
    let s := s.withPwr { s.pwr with charging := false, esr := min (step / 100) 1023, cap := min cap 2047 }
    (s.judgeHold (volt % 2048)).judgeCap

/-- HOLD_TEST (R500): due HOLD_TEST hours after the latest one. `fall` µs from 16.0 V to 15.6 V at 10 mA give the
capacitance; HOLD stays FULL and the charger recharges. -/
def execHoldTest (t fall : Nat) (s : State) : Host.Outcome State Fault Refusal :=
  .next <|
    let s' := s.instant t
    if s.pwr.save.isSome ∨ s.pwr.full = false ∨ s'.clk.now < s.pwr.testAt + 3600000000000 * s.effField .pwrCfg 0 8 then s else
    (s'.withPwr { s.pwr with cap := min (fall / 40) 2047, charging := true, testAt := s'.clk.now }).judgeCap

/-- VBAT_LOW (R515): below VBAT_WARN while a feed is present sets the flag and raises the warning; below 1.8 V while
the counter runs from it, the counter is invalid. -/
def execVbatLow (t mv : Nat) (counterOnVbat : Bool) (s : State) : Host.Outcome State Fault Refusal :=
  .next <|
    let s := (s.instant t).withPwr { s.pwr with vbat := mv % 4096 }
    if counterOnVbat then (if mv < 1800 then s.withPwr { s.pwr with rtc := none } else s)
    else if mv < 100 * s.effField .pwrCfg 8 6 then
      if s.pwr.vbatLow then s
      else (s.withPwr { s.pwr with vbatLow := true }).raise 120 .warning 0 0 noIndex []
    else s.withPwr { s.pwr with vbatLow := false }

/-- FEED_QUALIFIED (R510): a feed has stayed in range for 10 ms and REFCLK runs, so BOOT begins. The real-time counter
read in PLINTH, with the length of the outage, sets device time when it is valid (R309). A plinth that a sag without a
save holds in reset takes no feed before power-on (R503). -/
def execFeedQualified (vina vinb : Nat) (rtc : Option (Nat × Nat)) (s : State) : Host.Outcome State Fault Refusal :=
  .next <|
    if s.pwr.inReset = false ∨ s.pwr.held ∨ s.pwr.phase ≥ 2 ∨ (feedInRange vina || feedInRange vinb) = false
      ∨ vget s.glb.clkRun 3 false = false then s
    else
      let s := (s.setFeed 0 (vina % 65536)).setFeed 1 (vinb % 65536)
      (s.withPwr { s.pwr with
        phase := 2, charging := true, rtcValid := rtc.isSome
        rtc := rtc.map (fun x => (x.1 : Int) - s.clk.now) }).startTime rtc

/-- BOOT_DONE (R510): boot ROM check, OTP read and the destructive march have ended. A failure (bits 0 to 2 of
PWR_SELFTEST) keeps the part in FAILED (R478, R513). -/
def execBootDone (t failed : Nat) (banks : List Nat) (s : State) : Host.Outcome State Fault Refusal :=
  .next <|
    if s.pwr.inReset ∨ s.pwr.phase ≠ 2 then s else
    let s := s.instant t
    let bad := failed % 8 ||| (if banks.isEmpty then 0 else 4)
    let s := s.withMem { s.mem with
      banks := banks.foldl (fun v b => vmod v b (fun k => { k with failed := true })) s.mem.banks, sram := [], mortar := [] }
    if bad = 0 then s.withPwr { s.pwr with phase := 3 }
    else (s.withPwr { s.pwr with phase := 8, selftest := bad }).raise 120 .alarm 0 0 noIndex []

/-- PWR_BOOT_GO: PWR_BOOT with GO and its key starts the firmware fetch, in BOOT_WAIT alone (R511, R517). -/
def execPwrBootGo (w : Word) (s : State) : Host.Outcome State Fault Refusal :=
  .next <| s.barWrite 0xE018 fun s =>
    if s.pwr.phase ≠ 3 ∨ w.getLsbD 0 = false ∨ w.extractLsb' 16 16 ≠ 0x4254#16 then s
    else s.withPwr { s.pwr with
      phase := 4
      fwGo := some ((s.cfgReg .pwrFwAddrLo).toNat + 4294967296 * (s.cfgReg .pwrFwAddrHi).toNat, (s.cfgReg .pwrFwLen).toNat) }

/-- The outcome of AUTH, in the order of R539: fetch, format, signature, version, silicon. -/
def State.authResult (s : State) (img : FwImage) : Nat :=
  let len := match s.pwr.fwGo with
    | some g => g.2
    | none => 0
  if img.fetchFailed then 2
  else if img.magic ≠ 0x57465856#32 ∨ img.format ≠ 1 ∨ img.hdrSize ≠ 64 ∨ img.length ≠ len ∨ img.length > 8388608 then 3
  else if img.keyIndex > 1 ∨ vget s.sec.fwRevoked img.keyIndex true ∨ img.keyIdMatch = false ∨ img.sigValid = false then 4
  else if img.secVersion < s.sec.steps then 5
  else if img.silicon ≠ 0xB1 then 6
  else 1

/-- FW_AUTH_DONE (R512): OK goes on to SELFTEST with the firmware running, its bank map set and its blocks answering;
any other result returns to BOOT_WAIT. -/
def execFwAuthDone (t : Nat) (img : FwImage) (s : State) : Host.Outcome State Fault Refusal :=
  .next <|
    if s.pwr.inReset ∨ s.pwr.phase ≠ 4 then s else
    let s := s.instant t
    let r := s.authResult img
    let s := s.withPwr { s.pwr with fwResult := r, fwRelease := img.release % 65536, fwGo := none, phase := if r = 1 then 5 else 3 }
    if r = 1 then
      ((s.withGlb { s.glb with fwRunning := true, fwRelease := img.release % 65536 }).withSec
        { s.sec with runVersion := img.secVersion % 256 }).withMem s.mem.firmwareMap
    else s

/-- SELFTEST_DONE (R513): a failed test ends in FAILED; a lane that fails its known-answer test is quarantined (R257)
and start-up continues. -/
def execSelftestDone (t failed : Nat) (lanes : List Nat) (s : State) : Host.Outcome State Fault Refusal :=
  .next <|
    if s.pwr.inReset ∨ s.pwr.phase ≠ 5 then s else
    let s := s.instant t
    let bad := failed % 256
    if bad = 0 then
      let s := s.withVsl { s.vsl with lanes := s.vsl.lanes.map (fun x => { x with lastKat := s.crs.courseCnt }) }
      (lanes.foldl (fun s l => (s.count .vslKatFail).quarantine l) s).withPwr { s.pwr with phase := 6 }
    else (s.withPwr { s.pwr with phase := 8, selftest := bad }).raise 120 .alarm 0 0 noIndex []

/-- The cause that the save areas with MAGIC give, the newest of them, and what is restored: the valid area with the newer
SAVE_SEQ, where it has content (R475, R506). -/
def State.causeFound (s : State) : Nat × Option SaveArea :=
  let newest (a b : SaveArea) (ga gb : Bool) : Option SaveArea := match ga, gb with
    | true, true => some (if newer b.seq a.seq then b else a)
    | true, false => some a
    | false, true => some b
    | false, false => none
  let a := s.mem.areaA
  let b := s.mem.areaB
  let cause := match newest a b a.magic b.magic with
    | none => s.pwr.latched
    | some x => if x.mark ∧ x.length > 0 then 1 else 2
  (cause, (newest a b a.good b.good).filter (fun x => decide (x.length > 0)))

/-- RESTORE_DONE (R508, R510): the reserve store is read and both areas are cleared (DEDUCED, assumption 95), the mason's
mark is restored and the power cycle counted (R456), the recorder starts with the restored records and the START record
(R457, R509). -/
def execRestoreDone (t : Nat) (s : State) : Host.Outcome State Fault Refusal :=
  .next <|
    if s.pwr.inReset ∨ s.pwr.phase ≠ 6 then s else
    let s := s.instant t
    let f := s.causeFound
    let va := s.mem.areaA.good
    let vb := s.mem.areaB.good
    let nb := newer s.mem.areaB.seq s.mem.areaA.seq || !va
    let s := s.withMem { s.mem with
      rsvValidA := va, rsvValidB := vb, rsvNewest := vb && nb, rsvRestored := f.2.isSome
      rsvSeq := if vb && nb then s.mem.areaB.seq else if va then s.mem.areaA.seq else 0
      areaA := { s.mem.areaA with magic := false, mark := false }
      areaB := { s.mem.areaB with magic := false, mark := false } }
    let mark := (s.mem.marks.toList.filter MarkCopy.valid).foldl (fun (m : MarkCopy) c =>
      if m.valid && decide (c.secs.toNat ≤ m.secs.toNat) && decide (c.cycles ≤ m.cycles) then m else c) MarkCopy.reset
    let l := if s.pwr.latched = 0 ∧ mark.valid
      then { s.log with secs := mark.secs, secOvf := mark.secOvf, cycles := mark.cycles, cycOvf := mark.cycOvf } else s.log
    let s := (s.withLog l).markCount { l.addCycle with lost := f.1 == 2, state := .identifying }
    let s := match f.2 with
      | some x => s.raise 118 .notice 0 1 noIndex [x.seq]
      | none => s.raise 118 .notice 0 2 noIndex []
    let restored := match f.2 with
      | some x => x.hold.map (fun r => { r with flags := r.flags ||| 4 })
          ++ (x.staging ++ x.slots).map (fun e => s.log.form 4 e)
      | none => []
    let none4 : Word := 0xFFFFFFFF#32
    let w3 := match f.2.bind (fun x => x.dp) with
      | some d => word (d.mode + 256 * d.role)
      | none => none4
    let start : List Word := [word f.1, (f.2.map SaveArea.seq).getD none4, (f.2.map SaveArea.frame).getD none4, w3,
      word s.glb.fwRelease]
    let s := s.withLog { s.log with
      hold := restored ++ s.log.hold, restored := restored.length, start := start, consumed := (f.2.map SaveArea.consumed).getD [] }
    let s := match f.2 with
      | some x => s.seedAfterRestore x
      | none => s
    let s := s.withPwr { s.pwr with
      phase := 7, cause := f.1, kept := f.2, startTime := s.clk.now / 1000 % 4294967296 }
    s.raise 120 .notice 0 f.1 noIndex []

/-- HOLDUP_SAVE_START (R502, R503): both feeds below 2.55 V for 20 µs, with AUTH passed; the kind follows the voltage
on HOLD. In phase FAILED it begins where AUTH had passed (DEDUCED, assumption 95). From here on no item starts and none
that runs finishes (R54; DESIGN CHOICE, assumption 100), commands whose completion is not written are lost, the array is
aborted (R432, R446, R504). -/
def execHoldupSaveStart (t volt : Nat) (s : State) : Host.Outcome State Fault Refusal :=
  .next <|
    if s.pwr.inReset ∨ s.pwr.phase < 2 ∨ s.pwr.save.isSome then s else
    let s := s.instant t
    if s.firmwareRuns = false then s.resetPart 2 1 else
    let kind : SaveKind := if 775 ≤ volt then .full else if 400 ≤ volt then .short else .none
    let s := s.withPwr { s.pwr with save := some kind, hold := volt % 2048, charging := false }
    let s := s.judgeHold (volt % 2048)
    let s := match kind with
      | .full => s.count .pwrSaves
      | .short => s.count .pwrShort
      | .none => s
    let s := s.abandonActivation 0x0F
    let s := s.abortArray
    let s := s.buttressSave
    let s := if s.tim.ppsEnd.isSome then (s.withTim { s.tim with ppsEnd := none }).emit (.pin ballPps false) else s
    let s := s.withHrg { s.hrg with
      waiting := [], xfers := []
      rings := s.hrg.rings.map (fun r => { r with state := .disabled, en := false, outst := [] }) }
    s.withEvt { s.evt with queue := [], pendDrops := 0, seq := 0 }

/-- HOLDUP_SAVE_END (R504): the save is written, with its content blocks (R506), its trailer and valid mark and the
mason's mark; then the part is reset with cause hold-up save. Without a save the plinth is held in reset until
power-on. -/
def execHoldupSaveEnd (t : Nat) (s : State) : Host.Outcome State Fault Refusal :=
  .next <|
    match s.pwr.save with
    | none => s
    | some .none => s.resetPart 2 0
    | some kind =>
      let s := (s.instant t).saveMark
      let into := s.mem.saveInto
      let head : SaveArea := { SaveArea.reset with
        magic := true, mark := true, crcGood := true, seq := into.2, frame := s.crs.frame, digest := s.activeDigest }
      let a : SaveArea := if kind = .full then
          let x := { head with
            seed := some s.estSeed, warm := s.warmSaved, gnss := some s.gnsSeed, freq := some s.freqWord
            dp := some s.dpReport, hold := s.log.hold, consumed := s.log.consumed ++ s.log.prog.toList, staging := s.evt.staging, slots := s.evt.slots }
          { x with length := saveLength x }
        else head
      let s := s.withMem (if into.1 then { s.mem with areaB := a } else { s.mem with areaA := a })
      s.resetPart (if kind = .full then 1 else 2) 1
where
  /-- LENGTH: the blocks that are not empty, each behind its 8-byte descriptor (R506). -/
  saveLength (x : SaveArea) : Nat :=
    sumNat (([16, 256, 320 * x.warm.length, 65536, 64, 256, 64 * x.hold.length, 64 * x.staging.length,
      64 * x.slots.length].filter (· != 0)).map (· + 8))

end Sys2Proof.Machine
end

