-- ==== Sys2Proof/Machine/Flags.lean ====
section
/-! DEFINITION. The status flags and fields: what every register of the register map reads (spec/25_register_map.md R547, R549, R552 and the field
tables R56, R103, R132, R260, R320, R345, R369, R390, R410, R434, R448, R464, R481, R497, R517, R534, R546). No read has an
effect (R550). -/

namespace Sys2Proof.Machine
open Sys2Proof

/-- A bit field at bit `i`, cut to `n` bits. -/
def regField (i n v : Nat) : Nat := v % 2 ^ n * 2 ^ i

/-- A flag at bit `i`. -/
def regFlag (i : Nat) (b : Bool) : Nat := b2n b * 2 ^ i

/-- A mask word from a test of each bit number. -/
def regMask (n : Nat) (p : Nat → Bool) : Nat := (List.range n).foldl (fun a i => a + regFlag i (p i)) 0

/-- An occurrence counter as its register shows it: COUNT in bits 15..0, OVF in bit 31 (R8). -/
def Occ.reg (o : Occ) : Word := word (o.count.toNat + regFlag 31 o.ovf)

/-- The number of a ring state (R434). -/
def RingState.code : RingState → Nat
  | .disabled => 0
  | .running => 1
  | .halted => 2
  | .resetting => 3

/-- The number of a log memory state (R464). -/
def LogState.code : LogState → Nat
  | .absent => 0
  | .identifying => 1
  | .unformatted => 2
  | .running => 3
  | .failed => 4
  | .unsupported => 5

/-- A signed value held to 32 bits. -/
def sat32 (x : Int) : Word := wordI (max (-2147483648) (min 2147483647 x))

/-- GLB identification and crossings, offsets 0x000 to 0x114 (R552, R497). -/
def State.readGlb (s : State) : Nat → Word
  | 0x000 => 0x1F3C7240
  | 0x004 => 0x000001B1
  | 0x008 => word (regField 0 16 s.glb.fwRelease + regFlag 16 s.glb.fwRunning)
  | 0x00C => s.sec.serial.extractLsb' 0 32
  | 0x010 => s.sec.serial.extractLsb' 32 32
  | 0x018 => word (regMask 15 (fun i => vget s.regs.locks i false))
  | 0x100 => word (regMask 32 (fun i => vget s.glb.xState i 0 == 2))
  | 0x104 => word (regField 0 5 s.glb.xsel)
  | 0x108 => s.glb.xinfo
  | 0x10C => word (regMask 11 (fun i => vget s.glb.clkRun i false))
  | _ => 0

/-- Security registers, offsets 0x200 to 0x2FC (R546). -/
def State.readSec (s : State) (off : Nat) : Word :=
  match off with
  | 0x200 => word (s.sec.sealCode.toNat + regFlag 16 s.provisioning + regFlag 17 (s.sec.sealCode == s.sec.bound && s.sec.sealCode != 0))
  | 0x204 => word (s.sec.bound.toNat + regField 16 6 s.sec.bindings.length + regField 22 4 s.sec.idRecords.length)
  | 0x208 => word (regMask 4 (fun i => (vget s.sec.keys i ⟨false, false, 0, [], []⟩).used)
      + regMask 4 (fun i => vget s.sec.revoked i false) * 16 + regMask 2 (fun i => vget s.sec.fwRevoked i false) * 256)
  | 0x20C => word (regField 0 7 s.sec.steps + regField 7 8 s.sec.runVersion + regFlag 31 (s.sec.steps == 64))
  | 0x218 => word (regFlag 0 s.sec.otpBusy.isSome + regField 1 3 s.sec.otpResult)
  | _ => if 0x280 ≤ off ∧ off < 0x300 ∧ off % 4 = 0 then vget s.sec.otpData ((off - 0x280) / 4) 0 else 0

/-- HRG registers (R434); the ring window reads zero while HRG_SEL holds 22 to 31. -/
def State.readHrg (s : State) (off : Nat) : Word :=
  let r := s.ring s.hrg.sel
  let win (w : Word) : Word := if s.hrg.sel < 22 then w else 0
  match off with
  | 0x000 => word (regField 0 5 s.hrg.sel)
  | 0x004 => win r.baseLo
  | 0x008 => win r.baseHi
  | 0x00C => win r.rcfg
  | 0x010 => win (word (regFlag 0 r.en))
  | 0x014 => win (word (regField 0 2 r.state.code + regField 2 13 r.partPos + regField 15 13 r.hostPos))
  | 0x018 => s.hrg.bulkLo
  | 0x01C => s.hrg.bulkHi
  | 0x020 => word (regField 0 17 s.hrg.bulkPages)
  | 0x024 => word (regMask 22 (fun i => (s.ring i).state == .halted))
  | _ => 0

/-- EVT registers (R448). -/
def State.readEvt (s : State) : Nat → Word
  | 0x008 =>
    let n := s.evt.queue.length
    let waits := match s.evt.queue with
      | q :: _ => q.ev.sev != .alarm && (s.ring 16).state == .running && decide ((s.ring 16).free - 1 < (s.ring 16).size / 4)
      | [] => false
    word (regField 0 11 n + regFlag 11 waits + regField 12 11 s.evt.peak + regField 23 9 s.evt.staging.length)
  | 0x034 => vget s.evt.droppedBits 0 0
  | 0x038 => vget s.evt.droppedBits 1 0
  | 0x03C => vget s.evt.droppedBits 2 0
  | 0x040 => vget s.evt.droppedBits 3 0
  | _ => 0

/-- CRS registers (R56). -/
def State.readCrs (s : State) : Nat → Word
  | 0x000 => word (regField 0 7 s.crs.frameLen + regField 7 2 s.crs.tickSrc + regFlag 9 s.crs.slewing + regFlag 10 s.crs.gaveUp)
  | 0x004 => s.crs.frame
  | 0x008 => word (regField 0 7 s.crs.course + regField 7 6 s.slotNow)
  | 0x00C => word s.crs.courseCnt
  | 0x010 => wordI s.crs.phase
  | 0x020 => word (regField 0 8 s.crs.lastItem + regField 8 7 s.crs.lastCourse + regField 16 16 s.crs.lastFrame.toNat)
  | 0x024 => word ((List.range 8).foldl (fun a i => a + regField (2 * i) 2 (vget s.crs.streak i 0)) 0)
  | 0x030 => word (regField 0 10 s.crs.tblIndex + regField 16 16 s.crs.tblLatchGen.toNat)
  | 0x034 => s.crs.tblWord0
  | 0x038 => s.crs.tblWord1
  | 0x03C => word s.crs.tblGen.toNat
  | _ => 0

/-- MEM registers (R481). -/
def State.readMem (s : State) : Nat → Word
  | 0x008 => word (regFlag 0 (decide (s.clk.now < s.mem.sliceEnd) && s.mem.locked.isSome) + regField 1 7 s.mem.bank + regFlag 8 s.mem.test.isSome)
  | 0x00C => word (regField 0 8 s.mem.interleaved)
  | 0x010 => word (regField 0 6 s.mem.selBank)
  | 0x014 => s.mem.info
  | 0x018 => word (regField 0 6 s.mem.handBank + regField 6 4 s.mem.handOwner)
  | 0x01C => word (regMask 32 (fun i => (s.bank i).retained))
  | 0x020 => word (regMask 32 (fun i => (s.bank (32 + i)).retained))
  | 0x024 => word (regMask 32 (fun i => (s.bank i).failed))
  | 0x028 => word (regFlag 0 s.mem.rsvValidA + regFlag 1 s.mem.rsvValidB + regFlag 2 s.mem.rsvNewest + regFlag 3 s.mem.rsvRestored
      + regField 4 28 s.mem.rsvSeq.toNat)
  | 0x02C => s.mem.eccAddr
  | 0x04C => word (regMask 32 (fun i => (s.bank (32 + i)).failed))
  | _ => 0

/-- Seconds and nanoseconds of a device time. -/
def secsOf (t : Int) : Int := t / 1000000000

/-- The TIM_CAP registers of the latched capture (R318). -/
def capWords (e : Option CapEntry) : Word × Word × Word :=
  match e with
  | none => (0, 0, 0)
  | some c => (wordI (secsOf c.time), word ((secsOf c.time / 4294967296 % 65536).toNat + regFlag 16 c.falling + regFlag 17 true + regField 24 8 c.seq),
      wordI (c.time % 1000000000))

/-- TIM registers (R320). -/
def State.readTim (s : State) : Nat → Word
  | 0x030 => word (regField 0 3 s.tim.src + regField 3 2 s.tim.state + regFlag 5 (decide (1000 < s.slewNow.natAbs)) + regFlag 6 s.tim.pending
      + regFlag 7 s.ppsAligned + regFlag 8 s.tim.hoExceeded
      + 512 * regMask 4 (fun i => (vget s.tim.sources (i + 1) TimSrc.reset).qualified)
      + regField 16 8 s.tim.stepSeq + regField 24 8 s.clockClass)
  | 0x034 => word s.timUnc
  | 0x038 => sat32 s.tim.offset
  | 0x03C => wordI s.tim.pend
  | 0x040 => wordI (s.tim.pend / 4294967296)
  | 0x044 => word (regField 0 8 s.tim.leapCount + regFlag 8 s.tim.leapKnown + regField 9 2 s.tim.leapFrom + regField 11 2 s.tim.leapAnn)
  | 0x048 => word (regField 0 4 (vget s.tim.ports 0 PtpPort.reset).state + regField 4 4 (vget s.tim.ports 1 PtpPort.reset).state
      + regField 8 8 s.tim.gmClass + regField 16 8 s.tim.gmSteps)
  | 0x050 => wordI (secsOf s.tim.latNow)
  | 0x054 => wordI (secsOf s.tim.latNow / 4294967296 % 65536)
  | 0x058 => wordI (s.tim.latNow % 1000000000)
  | 0x05C => s.tim.latAnchor.frame
  | 0x060 => wordI (secsOf s.tim.latAnchor.time)
  | 0x064 => word ((secsOf s.tim.latAnchor.time / 4294967296 % 65536).toNat + regField 16 7 s.tim.latAnchor.len
      + regField 24 8 s.tim.latAnchor.gen)
  | 0x068 => wordI (s.tim.latAnchor.time % 1000000000)
  | 0x06C => word (regField 0 2 s.tim.capSel)
  | 0x070 => (capWords s.tim.latCap).1
  | 0x074 => (capWords s.tim.latCap).2.1
  | 0x078 => (capWords s.tim.latCap).2.2
  | _ => 0

/-- GNS registers (R132). -/
def State.readGns (s : State) : Nat → Word
  | 0x024 =>
    let a0 := vget s.gns.ants 0 GnsAnt.reset
    let a1 := vget s.gns.ants 1 GnsAnt.reset
    word (regField 0 2 a0.supply + regField 2 2 a1.supply + regField 4 2 s.gns.head + regField 6 2 s.gns.fix + regField 8 6 a0.sats
      + regField 14 6 a1.sats + regFlag 20 a0.spoofed + regFlag 21 a1.spoofed + regFlag 22 s.gns.corrOn
      + regFlag 23 (decide (2 ≤ s.gns.snap.state)))
  | 0x028 => word ((List.range 4).foldl (fun a i => a + regField (8 * i) 8 (vget s.gns.jam i 0)) 0)
  | 0x02C => word (regMask 16 (fun i => (s.notch i).active))
  | 0x030 => word (regField 0 4 s.gns.sel)
  | 0x034 => word s.gns.freq.toNat
  | _ => 0

/-- SNI registers (R103): SNI_ERR, SNI_OVERDUE and SNI_GAP of the selected entry. -/
def State.readSni (s : State) : Nat → Word
  | 0x008 => word (regMask 32 (fun i => (vget s.sni.entries i EntrySt.reset).silent))
  | 0x00C => word (regMask 8 (fun i => (vget s.sni.entries (32 + i) EntrySt.reset).silent))
  | 0x010 => word (regField 0 6 s.sni.entrySel)
  | 0x014 => (vget s.sni.entries s.sni.entrySel EntrySt.reset).err.reg
  | 0x018 => (vget s.sni.entries s.sni.entrySel EntrySt.reset).overdue.reg
  | 0x01C => (vget s.sni.entries s.sni.entrySel EntrySt.reset).gap.reg
  | 0x024 => word (regField 0 13 s.sni.buffer.length + regField 16 13 s.sni.peak)
  | 0x028 => word (regMask 16 (fun i => (vget s.sni.ana i AnaCh.reset).run != 0)
      + 65536 * regMask 16 (fun i => (vget s.sni.ana i AnaCh.reset).ovr))
  | _ => 0

/-- VSL registers (R260). -/
def State.readVsl (s : State) : Nat → Word
  | 0x008 => word (regField 0 7 s.vsl.inService + regField 8 8 s.vsl.queue.length
      + regField 16 7 (s.vsl.lanes.toList.filter (fun l => l.job.isSome)).length + regFlag 23 s.vsl.stopped)
  | 0x00C => word (regMask 32 (fun i => (s.lane i).state != 0))
  | 0x010 => word (regMask 32 (fun i => (s.lane (32 + i)).state != 0))
  | 0x014 => word (regField 0 8 s.vsl.peak)
  | 0x018 => s.vsl.released
  | 0x04C => word (regField 0 6 s.vsl.sel)
  | 0x050 => s.vsl.info
  | _ => 0

/-- NET and PNT registers (R390). -/
def State.readNet (s : State) : Nat → Word
  | 0x000 => word (regFlag 0 (s.pnt.linkA != 0) + regFlag 1 (s.pnt.linkB != 0) + regFlag 2 s.pnt.linkM + regField 3 2 s.pnt.linkA
      + regField 5 2 s.pnt.linkB)
  | 0x024 => word (regField 0 17 s.pnt.sel)
  | 0x028 => s.pnt.latched.value
  | 0x02C => s.pnt.latched.stamp
  | 0x030 => s.pnt.latched.frame
  | 0x034 => word (regField 0 8 s.pnt.latched.typ + regField 8 8 s.pnt.latched.qual.toNat + regField 16 16 s.pnt.latched.entry.toNat)
  | 0x038 => word (regField 0 13 (s.pnt.routes.filter (fun r => r.2.stale)).length)
  | _ => 0

/-- CAN registers of one controller, by offset in its block (R410). -/
def CanCtl.read (x : CanCtl) : Nat → Word
  | 0x000 => word (regField 0 2 x.state + regFlag 2 x.restricted + regFlag 3 x.off + regField 4 7 x.fifo.length + regField 11 7 x.tdc)
  | 0x004 => word (regField 0 9 x.tec + regField 16 8 x.rxErr)
  | 0x008 => word (regField 0 3 x.errCode + regFlag 3 x.errData + regFlag 4 x.errTx + regField 5 5 x.errBuf)
  | 0x00C => word (regMask 32 (fun i => (vget x.bufs i CanBuf.reset).pending))
  | 0x010 => x.single
  | _ => 0

/-- Whole seconds left before the first forced-safe action, a part of a second counting as one. DEDUCED (assumption 13). -/
def Btr.degLeft (x : Btr) : Nat :=
  let t := x.outputs.toList.filterMap (fun o => if o.latchedOff then none else o.degraded)
    ++ x.remotes.toList.filterMap (fun r => if r.forced then none else r.degraded)
  if t.isEmpty then 0 else min 4095 ((x.degLimit - t.foldl max 0 + 999) / 1000)

/-- BTR registers (R369). -/
def Btr.read (x : Btr) : Nat → Word :=
  let inp (i : Nat) : BtrIn := vget x.inputs i BtrIn.reset
  let out (i : Nat) : BtrOut := vget x.outputs i BtrOut.reset
  let rem (i : Nat) : BtrRem := vget x.remotes i BtrRem.reset
  fun
  | 0x000 => word (regFlag 0 x.ready + regFlag 1 x.taken + regFlag 2 x.degraded + regFlag 3 x.fault + regFlag 4 x.save
      + regField 5 3 x.notReady + regField 8 2 x.missStreak)
  | 0x004 => x.beat
  | 0x008 => word (regMask 16 (fun i => (inp i).demand) + 65536 * regMask 16 (fun i => (inp i).fault))
  | 0x00C => word (regMask 8 (fun i => (out i).on) + 256 * regMask 8 (fun i => (out i).latchedOff)
      + 65536 * regMask 8 (fun i => (out i).faultH) + 16777216 * regMask 8 (fun i => (out i).faultL))
  | 0x010 => word x.remove.toNat
  | 0x014 => word (regMask 16 (fun i => (inp i).latched || ((inp i).fault && (inp i).clr))
      + 65536 * regMask 8 (fun i => (rem i).latched || (rem i).forced || (rem i).mismatch)
      + 16777216 * regMask 8 (fun i => (out i).latchedOff))
  | 0x018 => word (regMask 8 (fun i => (out i).degraded.isSome) + 256 * regMask 8 (fun i => (rem i).degraded.isSome))
  | 0x01C => word (regField 0 12 x.degLeft)
  | 0x020 => x.paramCrc
  | 0x024 => x.sfSeq
  | 0x028 => word (regMask 8 (fun i => (rem i).fresh) + 256 * regMask 8 (fun i => (rem i).mismatch))
  | _ => 0

/-- RDN registers (R345). -/
def State.readRdn (s : State) : Nat → Word
  | 0x00C => word (regField 0 3 s.rdn.pstate + regField 3 2 s.rdn.role + regFlag 5 s.readyToClaim + regField 6 3 s.readyCode
      + regField 9 2 s.rdn.pRole + regFlag 11 s.rdn.pAlive + regFlag 12 s.rdn.linkMsg + regFlag 13 s.rdn.feedA + regFlag 14 s.rdn.feedB
      + regFlag 15 s.rdn.relgen)
  | 0x010 => word (s.rdn.own.toNat + 65536 * s.rdn.partner.toNat)
  | 0x014 => word (regField 0 8 s.rdn.score + regField 8 7 s.rdn.terms)
  | 0x018 => s.rdn.seq
  | 0x01C => s.rdn.exchLast
  | _ => 0

/-- YLK registers (R534). -/
def Ylk.read (x : Ylk) : Nat → Word
  | 0x008 => word (regField 0 3 x.state + regField 3 2 x.topo + regFlag 5 (vget x.up 0 false) + regFlag 6 (vget x.up 1 false)
      + regField 7 2 x.tickPort + regField 9 5 x.master + regField 14 6 x.heard.length + regField 20 3 x.refused)
  | 0x00C => word (regMask 32 (fun i => x.heard.any (fun h => h.1 == i)))
  | 0x010 => word (regField 0 16 (vget x.cable 0 0) + regField 16 16 (vget x.cable 1 0))
  | 0x014 => word (regField 0 16 (vget x.dacc 0 0) + regField 16 16 (vget x.dacc 1 0))
  | _ => 0

/-- PWR registers (R517). -/
def Pwr.read (x : Pwr) : Nat → Word
  | 0x008 => word (regField 0 4 x.phase + regField 4 4 x.cause + regFlag 8 x.holdOk + regFlag 9 x.charging + regFlag 10 x.holdFault
      + regFlag 11 x.vbatLow + regFlag 12 x.rtcValid)
  | 0x00C => word (regField 0 16 x.vina + regField 16 16 x.vinb)
  | 0x010 => word (regField 0 11 x.hold + regField 11 11 x.cap + regField 22 10 x.esr)
  | 0x014 => word (regField 0 12 x.vbat)
  | 0x028 => word (regField 0 8 x.fwResult + regField 8 16 x.fwRelease)
  | 0x02C => word (regField 0 8 x.selftest)
  | 0x030 => word x.startTime
  | _ => 0

/-- LOG registers (R464). -/
def Log.read (x : Log) : Nat → Word
  | 0x00C => word (regField 0 3 x.state.code + regFlag 3 x.foundFull + regField 4 10 (min 512 x.hold.length) + regFlag 14 x.erasing)
  | 0x010 => x.nextSeq
  | 0x014 => if x.log2 = 0 then 0 else x.oldest
  | 0x018 => word (regField 0 5 x.log2)
  | 0x01C => x.secs
  | 0x020 => word (regField 0 24 x.cycles + regFlag 30 x.secOvf + regFlag 31 x.cycOvf)
  | _ => 0

/-- The MSI-X table and pending-bit array. PRESUMED (assumption 6): the layout is that of PCI Express. -/
def State.readMsix (s : State) (off : Nat) : Word :=
  if off = 0x10800 then s.hrg.msixPba
  else if 0x10200 ≤ off then 0
  else
    let v := (off - 0x10000) / 16
    match off % 16 with
    | 0 => vget s.hrg.msixAddrLo v 0
    | 4 => vget s.hrg.msixAddrHi v 0
    | 8 => vget s.hrg.msixData v 0
    | 12 => word (regFlag 0 (s.hrg.msixMask.getLsbD v))
    | _ => 0

/-- The status registers of a block, by the offset in BAR0 (R547). -/
def State.readStatus (s : State) (off : Nat) : Word :=
  if off < 0x200 then s.readGlb off
  else if off < 0x1000 then s.readSec off
  else if off < 0x2000 then 0
  else if off < 0x3000 then s.readHrg (off - 0x2000)
  else if off < 0x4000 then s.readEvt (off - 0x3000)
  else if off < 0x5000 then s.readCrs (off - 0x4000)
  else if off < 0x6000 then s.readMem (off - 0x5000)
  else if off < 0x7000 then s.readTim (off - 0x6000)
  else if off < 0x8000 then s.readGns (off - 0x7000)
  else if off < 0x9000 then s.readSni (off - 0x8000)
  else if off < 0xA000 then s.readVsl (off - 0x9000)
  else if off < 0xB000 then s.readNet (off - 0xA000)
  else if off < 0xB400 then (s.canCtl 0).read (off - 0xB000)
  else if off < 0xB800 then (s.canCtl 1).read (off - 0xB400)
  else if off < 0xBC00 then (s.canCtl 2).read (off - 0xB800)
  else if off < 0xC000 then 0
  else if off < 0xD000 then s.btr.read (off - 0xC000)
  else if off < 0xD800 then s.readRdn (off - 0xD000)
  else if off < 0xE000 then s.ylk.read (off - 0xD800)
  else if off < 0xF000 then s.pwr.read (off - 0xE000)
  else if off < 0x10000 then s.log.read (off - 0xF000)
  else s.readMsix off

/-- What a register reads, whether or not its block answers: configuration registers, locks, occurrence counters, and
the status registers. -/
def State.regValue (s : State) (off : Nat) : Word :=
  match CfgReg.all.find? (fun r => r.offset == off), LockId.all.find? (fun l => l.offset == off),
    Ctr.all.find? (fun c => c.offset == off) with
  | some r, _, _ => s.cfgReg r
  | none, some l, _ => word (regFlag 0 (s.locked l))
  | none, none, some c => (s.ctr c).reg
  | none, none, none => s.readStatus off

/-- A register read: zero from a reserved offset and from a block that does not answer (R549); none when the access ends
with an error response (R551). -/
def State.readReg (s : State) (off : Nat) : Option Word :=
  if s.answers off = false then some 0
  else if s.accessStalled off then none
  else some (s.regValue off)

/-! ## Status balls (spec/26) -/

/-- STAT0: RDN_STATUS.READY (R563), low in a reset, before the end of BOOT and from step 2 of a save on (R578). -/
def State.stat0 (s : State) : Bool := s.answers 0 && s.pwr.save.isNone && s.readyToClaim

/-- STAT1: the role is ACTIVE (R563, R578). -/
def State.stat1 (s : State) : Bool := s.answers 0 && s.pwr.save.isNone && s.rdn.role == 2

/-- STAT2: BTR_STATUS.READY is 1 and BTR_STATUS.FAULT is 0 (R563, R578). -/
def State.stat2 (s : State) : Bool := s.answers 0 && s.pwr.save.isNone && s.btr.ready && !s.btr.fault

/-- STAT3: a hold-up save is in progress (R563). -/
def State.stat3 (s : State) : Bool := s.pwr.save.isSome

/-- CANn_STB: standby in a reset, before the end of BOOT and in a save (R578), and while USE is 0 with STB_OFF (R410). -/
def State.canStb (s : State) (c : Nat) : Bool :=
  !s.answers 0 || s.pwr.save.isSome ||
    ((s.canCtl c).off && tbit (s.effReg (if c = 0 then .canCfg0 else if c = 1 then .canCfg1 else .canCfg2)).toNat 7)

end Sys2Proof.Machine
end

