-- ==== Sys2Proof/Machine/Registers.lean ====
section
/-! DEFINITION. Register writes (spec/25_register_map.md R548 to R554): configuration registers and locks, the clear
registers, and the registers without a command row of their own. -/

namespace Sys2Proof.Machine
open Sys2Proof

/-! ## Clear registers (R9) -/

/-- The counters of the entry selected in SNI_ENTRY that bits 0 to 2 of SNI_CLEAR clear (R103). -/
def State.clearEntry (w : Word) (s : State) : State :=
  s.withSni { s.sni with entries := vmod s.sni.entries s.sni.entrySel (fun e =>
    { e with
      err := if w.getLsbD 0 then Occ.zero else e.err
      overdue := if w.getLsbD 1 then Occ.zero else e.overdue
      gap := if w.getLsbD 2 then Occ.zero else e.gap }) }

/-- The occurrence counters that a write of a clear register clears (R9). -/
def State.clearCounters (off : Nat) (w : Word) (s : State) : State :=
  let s := Ctr.all.foldl (fun s c => if c.clearOffset = off ∧ w.getLsbD c.clearBit then s.clearCtr c else s) s
  if off = 0x802C then s.clearEntry w else s

/-- The peak that a write of a clear register sets to the present level (R103, R260, R448). -/
def State.clearPeaks (off : Nat) (w : Word) (s : State) : State :=
  if off = 0x802C ∧ w.getLsbD 4 then s.withSni { s.sni with peak := s.sni.buffer.length }
  else if off = 0x3030 ∧ w.getLsbD 4 then s.withEvt { s.evt with peak := s.evt.queue.length }
  else if off = 0x9048 ∧ w.getLsbD 10 then s.withVsl { s.vsl with peak := s.vsl.queue.length }
  else s

/-- A write of a clear register: every bit of it acts. -/
def State.writeClear (off : Nat) (w : Word) (s : State) : State := (s.clearCounters off w).clearPeaks off w

/-- COUNTER_CLEAR (R9). -/
def execCounterClear (t offset : Nat) (w : Word) (s : State) : Host.Outcome State Fault Refusal :=
  .next <| (s.instant t).barWrite offset (State.writeClear offset w)

/-- PEAK_CLEAR (R103, R260, R448). -/
def execPeakClear (t offset : Nat) (w : Word) (s : State) : Host.Outcome State Fault Refusal :=
  .next <| (s.instant t).barWrite offset (State.writeClear offset w)

/-! ## Registers without a row of their own -/

/-- A write of a configuration register: refused and counted after its lock (R7, R553); PWR_FW_ADDR and PWR_FW_LEN take
a write in BOOT_WAIT alone (R517). Reserved bits stay zero. -/
def State.writeCfg (r : CfgReg) (w : Word) (s : State) : State :=
  if (r.lock.map s.locked).getD false then s.deniedWrite r.offset
  else if 0xE01C ≤ r.offset ∧ r.offset ≤ 0xE024 ∧ s.pwr.phase ≠ 3 then s
  else s.setCfg r (w &&& r.mask)

/-- The writable bits of HRG_RCFG by kind of ring (R434): CPL on command rings alone, VECTOR on no command ring and not
on the event ring. -/
def rcfgMask (ring : Nat) : Word :=
  if ring < 8 then 0x007FE07F else if ring = 16 then 0x007FE00F else 0x007FFF0F

/-- HRG registers (R434): window and bulk registers ignore a write while the ring concerned is enabled. -/
def State.writeHrg (off : Nat) (w : Word) (s : State) : State :=
  let i := s.hrg.sel
  let r := s.ring i
  let open_ := decide (i < 22) && !r.en
  let bulkOpen := !(s.ring 21).en
  match off with
  | 0x2000 => s.withHrg { s.hrg with sel := (w.extractLsb' 0 5).toNat }
  | 0x2004 => if open_ then s.setRing i { r with baseLo := w &&& 0xFFFFF000 } else s
  | 0x2008 => if open_ then s.setRing i { r with baseHi := w } else s
  | 0x200C => if open_ then s.setRing i { r with rcfg := w &&& rcfgMask i } else s
  | 0x2018 => if bulkOpen then s.withHrg { s.hrg with bulkLo := w &&& 0xFFFFF000 } else s
  | 0x201C => if bulkOpen then s.withHrg { s.hrg with bulkHi := w } else s
  | 0x2020 => if bulkOpen then s.withHrg { s.hrg with bulkPages := (w.extractLsb' 0 17).toNat } else s
  | _ => s

/-- An entry of the MSI-X table; a vector unmasked with its pending bit set sends its message. PRESUMED (assumption 6):
the layout and the pending bits are those of PCI Express. -/
def State.writeMsix (off : Nat) (w : Word) (s : State) : State :=
  if 0x10200 ≤ off then s else
  let v := (off - 0x10000) / 16
  match off % 16 with
  | 0 => s.withHrg { s.hrg with msixAddrLo := vset s.hrg.msixAddrLo v (w &&& 0xFFFFFFFC) }
  | 4 => s.withHrg { s.hrg with msixAddrHi := vset s.hrg.msixAddrHi v w }
  | 8 => s.withHrg { s.hrg with msixData := vset s.hrg.msixData v w }
  | 12 =>
    let s := s.withHrg { s.hrg with msixMask := wbit s.hrg.msixMask v (w.getLsbD 0) }
    if w.getLsbD 0 = false ∧ s.hrg.msixPba.getLsbD v then
      (s.withHrg { s.hrg with msixPba := wbit s.hrg.msixPba v false }).emit (.msix v)
    else s
  | _ => s

/-- A write of a register that no command row names; read only and reserved registers ignore it (R549). -/
def State.writePlain (off : Nat) (w : Word) (s : State) : State :=
  match CfgReg.all.find? (fun r => r.offset == off) with
  | some r => s.writeCfg r w
  | none =>
    if 0x280 ≤ off ∧ off < 0x300 ∧ off % 4 = 0 then s.withSec { s.sec with otpData := vset s.sec.otpData ((off - 0x280) / 4) w }
    else if 0x2000 ≤ off ∧ off < 0x3000 then s.writeHrg off w
    else if 0x3034 ≤ off ∧ off ≤ 0x3040 ∧ off % 4 = 0 then
      s.withEvt { s.evt with droppedBits := vmod s.evt.droppedBits ((off - 0x3034) / 4) (fun d => d &&& ~~~w) }
    else if 0x10000 ≤ off then s.writeMsix off w
    else s

/-- The clear registers. -/
def clearRegs : List Nat :=
  [0x028, 0x128, 0x2038, 0x3030, 0x402C, 0x5048, 0x608C, 0x7044, 0x802C, 0x9048, 0xA020, 0xB034, 0xB434, 0xB834, 0xC044,
   0xD034, 0xD828, 0xE040, 0xF030]

/-- A write of GLB_OTP_CTRL, by its OP (R538). -/
def writeOtpCtrl (w : Word) (s : State) : Host.Outcome State Fault Refusal :=
  let slot := (w.extractLsb' 4 4).toNat
  let key := (w.extractLsb' 16 16).toNat
  match (w.extractLsb' 0 4).toNat with
  | 1 => execOtpReadIdentity slot key s
  | 2 => execOtpReadKey slot key s
  | 3 => execOtpWriteIdentity slot key s
  | 4 => execOtpWriteKey slot key s
  | 5 => execOtpRevokeKey slot key s
  | 6 => execOtpRevokeFwKey slot key s
  | 7 => execOtpBindSeal slot key s
  | 8 => execOtpRaiseVersion slot key s
  | _ => .next s

/-- The bytes of `w` that the byte enables take, over those of `old`. -/
def mergeBytes (be : Nat) (old w : Word) : Word :=
  let m : Word := maskOf ((List.range 32).map (fun i => tbit be (i / 8)))
  (w &&& m) ||| (old &&& ~~~m)

/-- A write whose byte enables are not all four (R548): discarded, counted in GLB_BAD_ACCESS, event source 127. In a
reserved region it is ignored (R549). DEDUCED (assumption 32): a reserved offset within a block window counts. -/
def State.partialWrite (off : Nat) (s : State) : State :=
  s.barWrite off fun s =>
    if 0xBC00 ≤ off ∧ off < 0xC000 then s else (s.count .badAccess).raise 127 .notice 5 0 (off % 65536) []

/-- REGISTER_WRITE (R548 to R554): a register that a command row of its own names is written as that command writes it,
so that every register of the map can be written by its offset. Bit n of `be` enables byte n. -/
def execRegisterWrite (t offset be : Nat) (w : Word) (s : State) : Host.Outcome State Fault Refusal :=
  if offset % 4 ≠ 0 then .next s
  else if 0x10000 ≤ offset then
    .next <| (s.instant t).barWrite offset (fun s => s.writePlain offset (mergeBytes be (s.regValue offset) w))
  else if be % 16 ≠ 15 then .next ((s.instant t).partialWrite offset)
  else  match LockId.all.findIdx? (fun l => l.offset == offset) with
  | some l => execLockSet l w (s.instant t)
  | none =>
    if clearRegs.contains offset then execCounterClear t offset w s
    else if 0x1000 ≤ offset ∧ offset < 0x1058 then execDoorbellWrite t ((offset - 0x1000) / 4) w s
    else if offset = 0x104 then execGlbXselWrite w (s.instant t)
    else if offset = 0x114 then execGlbResetWrite w (s.instant t)
    else if offset = 0x214 then writeOtpCtrl w (s.instant t)
    else if offset = 0x21C then execLockAll w (s.instant t)
    else if offset = 0x2010 then execRingEnable t w s
    else if offset = 0x4030 then execCrsTblIndexWrite w (s.instant t)
    else if offset = 0x5010 then execMemBankSelWrite w (s.instant t)
    else if offset = 0x604C then execTimLatchWrite t w s
    else if offset = 0x606C then execTimCapSelWrite w (s.instant t)
    else if offset = 0x7030 then execGnsNotchSelWrite w (s.instant t)
    else if offset = 0x8010 then execSniEntryWrite w (s.instant t)
    else if offset = 0x904C then execVslLaneSelWrite w (s.instant t)
    else if offset = 0xA024 then execPntSelWrite w (s.instant t)
    else if offset = 0xB010 then execCanSingleClear t 0 w s
    else if offset = 0xB410 then execCanSingleClear t 1 w s
    else if offset = 0xB810 then execCanSingleClear t 2 w s
    else if offset = 0xE018 then execPwrBootGo w (s.instant t)
    else if offset = 0xF008 then execLogFormat t w s
    else .next <| (s.instant t).barWrite offset (State.writePlain offset w)

end Sys2Proof.Machine
end

