-- ==== Sys2Proof/Machine/Dispatch.lean ====
section
/-! DEFINITION. One arm for each constructor of Instr, each a direct call of that command's meaning. -/

namespace Sys2Proof.Machine

def exec (i : Instr) (s : State) : Host.Outcome State Fault Refusal :=
  match i with
  | .courseTick => Sys2Proof.Machine.execCourseTick s
  | .frameTick => Sys2Proof.Machine.execFrameTick s
  | .substituteTick => Sys2Proof.Machine.execSubstituteTick s
  | .tickPhaseSlewEnd => Sys2Proof.Machine.execTickPhaseSlewEnd s
  | .deadlineMiss t code => Sys2Proof.Machine.execDeadlineMiss t code s
  | .align t => Sys2Proof.Machine.execAlign t s
  | .estimate t ends => Sys2Proof.Machine.execEstimate t ends s
  | .vote t => Sys2Proof.Machine.execVote t s
  | .refSilent t ref => Sys2Proof.Machine.execRefSilent t ref s
  | .refReadmissionComplete t ref => Sys2Proof.Machine.execRefReadmissionComplete t ref s
  | .bootstrapAdmission t ref => Sys2Proof.Machine.execBootstrapAdmission t ref s
  | .classCoastTimeout t cls => Sys2Proof.Machine.execClassCoastTimeout t cls s
  | .law t => Sys2Proof.Machine.execLaw t s
  | .joystickLost t => Sys2Proof.Machine.execJoystickLost t s
  | .gainAutoEvaluation t => Sys2Proof.Machine.execGainAutoEvaluation t s
  | .currentReport t => Sys2Proof.Machine.execCurrentReport t s
  | .dispatch t => Sys2Proof.Machine.execDispatch t s
  | .caseDispatch t => Sys2Proof.Machine.execCaseDispatch t s
  | .release t => Sys2Proof.Machine.execRelease t s
  | .availPointStale t bus => Sys2Proof.Machine.execAvailPointStale t bus s
  | .digest t => Sys2Proof.Machine.execDigest t s
  | .pairCompare t => Sys2Proof.Machine.execPairCompare t s
  | .keystone t full => Sys2Proof.Machine.execKeystone t full s
  | .confirm t => Sys2Proof.Machine.execConfirm t s
  | .confirmMiss t => Sys2Proof.Machine.execConfirmMiss t s
  | .postPoints run => Sys2Proof.Machine.execPostPoints run s
  | .postLog t => Sys2Proof.Machine.execPostLog t s
  | .caseCollect t => Sys2Proof.Machine.execCaseCollect t s
  | .envCollect t => Sys2Proof.Machine.execEnvCollect t s
  | .conseqReport t => Sys2Proof.Machine.execConseqReport t s
  | .trim t fin => Sys2Proof.Machine.execTrim t fin s
  | .gnssNav t nav iono obs sols hd => Sys2Proof.Machine.execGnssNav t nav iono obs sols hd s
  | .host t fetches => Sys2Proof.Machine.execHost t fetches s
  | .descriptorPhaseTimeout t ring => Sys2Proof.Machine.execDescriptorPhaseTimeout t ring s
  | .net t full => Sys2Proof.Machine.execNet t full s
  | .supervise t => Sys2Proof.Machine.execSupervise t s
  | .recorder t => Sys2Proof.Machine.execRecorder t s
  | .march t failed => Sys2Proof.Machine.execMarch t failed s
  | .completionPost t ring => Sys2Proof.Machine.execCompletionPost t ring s
  | .msixModerationExpiry t ring => Sys2Proof.Machine.execMsixModerationExpiry t ring s
  | .nop t h => Sys2Proof.Machine.execNop t h s
  | .imageLoad t h => Sys2Proof.Machine.execImageLoad t h s
  | .imageVerifyDone t img => Sys2Proof.Machine.execImageVerifyDone t img s
  | .imageActivate t h n => Sys2Proof.Machine.execImageActivate t h n s
  | .imageActivationTick => Sys2Proof.Machine.execImageActivationTick s
  | .imageDiscard t h => Sys2Proof.Machine.execImageDiscard t h s
  | .imageDiscardStop t => Sys2Proof.Machine.execImageDiscardStop t s
  | .imageQuery t h => Sys2Proof.Machine.execImageQuery t h s
  | .analogTest t h channel input => Sys2Proof.Machine.execAnalogTest t h channel input s
  | .gnssCorrection t h data => Sys2Proof.Machine.execGnssCorrection t h data s
  | .gnssSnapshot t h secs ns dur streams tap => Sys2Proof.Machine.execGnssSnapshot t h secs ns dur streams tap s
  | .snapshotCaptureStart t => Sys2Proof.Machine.execSnapshotCaptureStart t s
  | .snapshotCaptureDone t samples => Sys2Proof.Machine.execSnapshotCaptureDone t samples s
  | .gnssQuery t h => Sys2Proof.Machine.execGnssQuery t h s
  | .gridOrigin t h lat lon height => Sys2Proof.Machine.execGridOrigin t h lat lon height s
  | .refEnable t h ref on => Sys2Proof.Machine.execRefEnable t h ref on s
  | .refTarget t h ref capture n e => Sys2Proof.Machine.execRefTarget t h ref capture n e s
  | .refStatus t h ref => Sys2Proof.Machine.execRefStatus t h ref s
  | .estQuery t h => Sys2Proof.Machine.execEstQuery t h s
  | .dpMode t h mode joy => Sys2Proof.Machine.execDpMode t h mode joy s
  | .setpoint t h flags turn n e heading => Sys2Proof.Machine.execSetpoint t h flags turn n e heading s
  | .gainSelect t h set => Sys2Proof.Machine.execGainSelect t h set s
  | .trackLoad t h data => Sys2Proof.Machine.execTrackLoad t h data s
  | .berthSet t h n e heading side => Sys2Proof.Machine.execBerthSet t h n e heading side s
  | .ctrlQuery t h => Sys2Proof.Machine.execCtrlQuery t h s
  | .thrusterEnable t h changed on => Sys2Proof.Machine.execThrusterEnable t h changed on s
  | .allocQuery t h => Sys2Proof.Machine.execAllocQuery t h s
  | .conseqQuery t h => Sys2Proof.Machine.execConseqQuery t h s
  | .envelopeQuery t h => Sys2Proof.Machine.execEnvelopeQuery t h s
  | .trimStart t h heel trim => Sys2Proof.Machine.execTrimStart t h heel trim s
  | .trimSet t h heel trim => Sys2Proof.Machine.execTrimSet t h heel trim s
  | .trimStop t h => Sys2Proof.Machine.execTrimStop t h s
  | .trimQuery t h => Sys2Proof.Machine.execTrimQuery t h s
  | .timeStepAccept t h seq => Sys2Proof.Machine.execTimeStepAccept t h seq s
  | .timeSet t h secs ns unc => Sys2Proof.Machine.execTimeSet t h secs ns unc s
  | .timeLeap t h count => Sys2Proof.Machine.execTimeLeap t h count s
  | .claimResume t h => Sys2Proof.Machine.execClaimResume t h s
  | .readinessRegained t => Sys2Proof.Machine.execReadinessRegained t s
  | .roleExchange t h => Sys2Proof.Machine.execRoleExchange t h s
  | .exchangeProposalDue t => Sys2Proof.Machine.execExchangeProposalDue t s
  | .btrReset t h inputs remotes outputs => Sys2Proof.Machine.execBtrReset t h inputs remotes outputs s
  | .btrOutput t h changed on => Sys2Proof.Machine.execBtrOutput t h changed on s
  | .pointWrite t h point value quality typ => Sys2Proof.Machine.execPointWrite t h point value quality typ s
  | .streamSet t h stream count data => Sys2Proof.Machine.execStreamSet t h stream count data s
  | .canSend t h ctl flags ident data => Sys2Proof.Machine.execCanSend t h ctl flags ident data s
  | .canAbort t h ctl buf => Sys2Proof.Machine.execCanAbort t h ctl buf s
  | .canRecover t h ctl => Sys2Proof.Machine.execCanRecover t h ctl s
  | .canMode t h ctl mode => Sys2Proof.Machine.execCanMode t h ctl mode s
  | .logRead t h first count => Sys2Proof.Machine.execLogRead t h first count s
  | .memTest t h target form => Sys2Proof.Machine.execMemTest t h target form s
  | .memTestDone t fin => Sys2Proof.Machine.execMemTestDone t fin s
  | .sentenceStartStamp t uart => Sys2Proof.Machine.execSentenceStartStamp t uart s
  | .sentenceReceived t uart bytes => Sys2Proof.Machine.execSentenceReceived t uart bytes s
  | .imuSyncPulse t port => Sys2Proof.Machine.execImuSyncPulse t port s
  | .imuDrdyEdge t port => Sys2Proof.Machine.execImuDrdyEdge t port s
  | .imuFrameRead t port bytes => Sys2Proof.Machine.execImuFrameRead t port bytes s
  | .imuDrdyTimeout t port => Sys2Proof.Machine.execImuDrdyTimeout t port s
  | .analogOutput t channel code overrange => Sys2Proof.Machine.execAnalogOutput t channel code overrange s
  | .analogStepDetected t channel => Sys2Proof.Machine.execAnalogStepDetected t channel s
  | .quoinEntrySilent t entry => Sys2Proof.Machine.execQuoinEntrySilent t entry s
  | .networkSentenceRx t port group bytes => Sys2Proof.Machine.execNetworkSentenceRx t port group bytes s
  | .canFrameRx t ctl ident ext remote data dur => Sys2Proof.Machine.execCanFrameRx t ctl ident ext remote data dur s
  | .canReasmTimeout t ctl => Sys2Proof.Machine.execCanReasmTimeout t ctl s
  | .canTxAttemptEnd t ctl buf dur outcome => Sys2Proof.Machine.execCanTxAttemptEnd t ctl buf dur outcome s
  | .canBusoffWaitExpiry t ctl => Sys2Proof.Machine.execCanBusoffWaitExpiry t ctl s
  | .canRecoveryDone t ctl => Sys2Proof.Machine.execCanRecoveryDone t ctl s
  | .antennaSupplyFault t ant ma => Sys2Proof.Machine.execAntennaSupplyFault t ant ma s
  | .antennaSupplyRetry t ant => Sys2Proof.Machine.execAntennaSupplyRetry t ant s
  | .channelAssignRevision t cands => Sys2Proof.Machine.execChannelAssignRevision t cands s
  | .carrierContinuityLoss t ant chan => Sys2Proof.Machine.execCarrierContinuityLoss t ant chan s
  | .notchAnalysis t stream power levels => Sys2Proof.Machine.execNotchAnalysis t stream power levels s
  | .notchRelease t notch => Sys2Proof.Machine.execNotchRelease t notch s
  | .spoofClear t ant => Sys2Proof.Machine.execSpoofClear t ant s
  | .correctionLapse t => Sys2Proof.Machine.execCorrectionLapse t s
  | .sourceOffsetMeasure t src => Sys2Proof.Machine.execSourceOffsetMeasure t src s
  | .sourceQualified t src => Sys2Proof.Machine.execSourceQualified t src s
  | .sourceLost t src => Sys2Proof.Machine.execSourceLost t src s
  | .sourceRevert t src => Sys2Proof.Machine.execSourceRevert t src s
  | .holdoverLimitCrossed t => Sys2Proof.Machine.execHoldoverLimitCrossed t s
  | .ppsEdge t => Sys2Proof.Machine.execPpsEdge t s
  | .extPpsEdge edge => Sys2Proof.Machine.execExtPpsEdge edge s
  | .captureEdge t input edge => Sys2Proof.Machine.execCaptureEdge t input edge s
  | .ptpMessageRx t port rx => Sys2Proof.Machine.execPtpMessageRx t port rx s
  | .ptpMasterTx t port => Sys2Proof.Machine.execPtpMasterTx t port s
  | .lockstepMismatch t pair => Sys2Proof.Machine.execLockstepMismatch t pair s
  | .feedOutOfRange t feed mv => Sys2Proof.Machine.execFeedOutOfRange t feed mv s
  | .pairMessageRx t hd bytes => Sys2Proof.Machine.execPairMessageRx t hd bytes s
  | .heartbeatRx t port bytes => Sys2Proof.Machine.execHeartbeatRx t port bytes s
  | .urgentYieldRx t hd bytes => Sys2Proof.Machine.execUrgentYieldRx t hd bytes s
  | .removalMaskRx t hd bytes => Sys2Proof.Machine.execRemovalMaskRx t hd bytes s
  | .resyncStart t joiner => Sys2Proof.Machine.execResyncStart t joiner s
  | .stateImagePieceRx t hd bytes => Sys2Proof.Machine.execStateImagePieceRx t hd bytes s
  | .resyncInstall t img => Sys2Proof.Machine.execResyncInstall t img s
  | .resyncTimeout t => Sys2Proof.Machine.execResyncTimeout t s
  | .resyncRetry t => Sys2Proof.Machine.execResyncRetry t s
  | .buttressCourse chA chB readH readL => Sys2Proof.Machine.execButtressCourse chA chB readH readL s
  | .discrepancyFault t input => Sys2Proof.Machine.execDiscrepancyFault t input s
  | .outputStartupTest t output good => Sys2Proof.Machine.execOutputStartupTest t output good s
  | .outputTestStart output => Sys2Proof.Machine.execOutputTestStart output s
  | .outputTestEnd output openRead closedRead => Sys2Proof.Machine.execOutputTestEnd output openRead closedRead s
  | .degradedLimit t remote number => Sys2Proof.Machine.execDegradedLimit t remote number s
  | .islandFault t => Sys2Proof.Machine.execIslandFault t s
  | .buttressBeatLoss t => Sys2Proof.Machine.execButtressBeatLoss t s
  | .safetyFrameRx t port bytes => Sys2Proof.Machine.execSafetyFrameRx t port bytes s
  | .safetyCopyTimeout t number => Sys2Proof.Machine.execSafetyCopyTimeout t number s
  | .remoteSourceLost t number => Sys2Proof.Machine.execRemoteSourceLost t number s
  | .zwiluxDataRx t port u bytes => Sys2Proof.Machine.execZwiluxDataRx t port u bytes s
  | .zwiluxCommandRx t port u bytes => Sys2Proof.Machine.execZwiluxCommandRx t port u bytes s
  | .zwiluxReadRx t port u bytes => Sys2Proof.Machine.execZwiluxReadRx t port u bytes s
  | .routeEntryStale t entry => Sys2Proof.Machine.execRouteEntryStale t entry s
  | .streamPendingPost t stream => Sys2Proof.Machine.execStreamPendingPost t stream s
  | .netLinkChange t port speed => Sys2Proof.Machine.execNetLinkChange t port speed s
  | .icmpEchoRequest t port src bytes => Sys2Proof.Machine.execIcmpEchoRequest t port src bytes s
  | .arpRequest t port sender target => Sys2Proof.Machine.execArpRequest t port sender target s
  | .doorbellWrite t ring w => Sys2Proof.Machine.execDoorbellWrite t ring w s
  | .ringEnable t w => Sys2Proof.Machine.execRingEnable t w s
  | .ringReset t w => Sys2Proof.Machine.execRingReset t w s
  | .ringResetDone t ring => Sys2Proof.Machine.execRingResetDone t ring s
  | .hostAccessFailure t kind => Sys2Proof.Machine.execHostAccessFailure t kind s
  | .hostAccessRetry t kind good done => Sys2Proof.Machine.execHostAccessRetry t kind good done s
  | .bulkPieceWrite piece => Sys2Proof.Machine.execBulkPieceWrite piece s
  | .hostInterfaceReset t kind => Sys2Proof.Machine.execHostInterfaceReset t kind s
  | .problemSubmit t desc => Sys2Proof.Machine.execProblemSubmit t desc s
  | .feedListMove t => Sys2Proof.Machine.execFeedListMove t s
  | .laneTake t => Sys2Proof.Machine.execLaneTake t s
  | .problemRelease t fin => Sys2Proof.Machine.execProblemRelease t fin s
  | .problemLate t fin => Sys2Proof.Machine.execProblemLate t fin s
  | .laneKat t lane pass => Sys2Proof.Machine.execLaneKat t lane pass s
  | .arrayComparatorMismatch t => Sys2Proof.Machine.execArrayComparatorMismatch t s
  | .ballastValveFault t valve => Sys2Proof.Machine.execBallastValveFault t valve s
  | .ballastPumpFault t pump => Sys2Proof.Machine.execBallastPumpFault t pump s
  | .logIdentify t dev => Sys2Proof.Machine.execLogIdentify t dev s
  | .logProgramDone t how => Sys2Proof.Machine.execLogProgramDone t how s
  | .logReidentify t dev => Sys2Proof.Machine.execLogReidentify t dev s
  | .logEraseDone t how => Sys2Proof.Machine.execLogEraseDone t how s
  | .masonMarkSave t => Sys2Proof.Machine.execMasonMarkSave t s
  | .bankHandover t writer bank owner => Sys2Proof.Machine.execBankHandover t writer bank owner s
  | .bankWake t bank => Sys2Proof.Machine.execBankWake t bank s
  | .marchSliceAbort t bank window => Sys2Proof.Machine.execMarchSliceAbort t bank window s
  | .marchPassOverdue t bank => Sys2Proof.Machine.execMarchPassOverdue t bank s
  | .eccUncorrectable t site reader => Sys2Proof.Machine.execEccUncorrectable t site reader s
  | .mortarWriteCollision t ring start x v0 again => Sys2Proof.Machine.execMortarWriteCollision t ring start x v0 again s
  | .clockStopped t domain => Sys2Proof.Machine.execClockStopped t domain s
  | .clockRunningAgain t domain => Sys2Proof.Machine.execClockRunningAgain t domain s
  | .crossingTimeout t crossing item access => Sys2Proof.Machine.execCrossingTimeout t crossing item access s
  | .crossingReset t crossing discarded => Sys2Proof.Machine.execCrossingReset t crossing discarded s
  | .resetNAssert t => Sys2Proof.Machine.execResetNAssert t s
  | .plinthWatchdogExpiry t => Sys2Proof.Machine.execPlinthWatchdogExpiry t s
  | .powerOnReset => Sys2Proof.Machine.execPowerOnReset s
  | .partReset cause => Sys2Proof.Machine.execPartReset cause s
  | .partResetRelease straps => Sys2Proof.Machine.execPartResetRelease straps s
  | .glbResetWrite w => Sys2Proof.Machine.execGlbResetWrite w s
  | .holdupSaveStart t volt => Sys2Proof.Machine.execHoldupSaveStart t volt s
  | .holdupSaveEnd t => Sys2Proof.Machine.execHoldupSaveEnd t s
  | .holdChargeComplete t volt step rise => Sys2Proof.Machine.execHoldChargeComplete t volt step rise s
  | .holdTest t fall => Sys2Proof.Machine.execHoldTest t fall s
  | .vbatLow t mv counterOnVbat => Sys2Proof.Machine.execVbatLow t mv counterOnVbat s
  | .feedQualified vina vinb rtc => Sys2Proof.Machine.execFeedQualified vina vinb rtc s
  | .bootDone t failed banks => Sys2Proof.Machine.execBootDone t failed banks s
  | .pwrBootGo w => Sys2Proof.Machine.execPwrBootGo w s
  | .fwAuthDone t img => Sys2Proof.Machine.execFwAuthDone t img s
  | .selftestDone t failed lanes => Sys2Proof.Machine.execSelftestDone t failed lanes s
  | .restoreDone t => Sys2Proof.Machine.execRestoreDone t s
  | .linkPortChange t port up => Sys2Proof.Machine.execLinkPortChange t port up s
  | .cableDelayMeasure t port trip => Sys2Proof.Machine.execCableDelayMeasure t port trip s
  | .tickMarkerRx t port hops course good => Sys2Proof.Machine.execTickMarkerRx t port hops course good s
  | .memberTickApply => Sys2Proof.Machine.execMemberTickApply s
  | .beaconRx t hd bytes casc pair => Sys2Proof.Machine.execBeaconRx t hd bytes casc pair s
  | .linkJoin t => Sys2Proof.Machine.execLinkJoin t s
  | .masterLoss t ranks => Sys2Proof.Machine.execMasterLoss t ranks s
  | .caseVerdictsRx t hd bytes => Sys2Proof.Machine.execCaseVerdictsRx t hd bytes s
  | .intakeRecordsRx t hd bytes => Sys2Proof.Machine.execIntakeRecordsRx t hd bytes s
  | .forwardedPointsRx t hd bytes => Sys2Proof.Machine.execForwardedPointsRx t hd bytes s
  | .sharedPointBlockRx t hd bytes => Sys2Proof.Machine.execSharedPointBlockRx t hd bytes s
  | .sharedBlockStale t imp period => Sys2Proof.Machine.execSharedBlockStale t imp period s
  | .otpReadIdentity slot key => Sys2Proof.Machine.execOtpReadIdentity slot key s
  | .otpReadKey slot key => Sys2Proof.Machine.execOtpReadKey slot key s
  | .otpWriteIdentity slot key => Sys2Proof.Machine.execOtpWriteIdentity slot key s
  | .otpWriteKey slot key => Sys2Proof.Machine.execOtpWriteKey slot key s
  | .otpRevokeKey slot key => Sys2Proof.Machine.execOtpRevokeKey slot key s
  | .otpRevokeFwKey slot key => Sys2Proof.Machine.execOtpRevokeFwKey slot key s
  | .otpBindSeal slot key => Sys2Proof.Machine.execOtpBindSeal slot key s
  | .otpRaiseVersion slot key => Sys2Proof.Machine.execOtpRaiseVersion slot key s
  | .otpOperationDone t good => Sys2Proof.Machine.execOtpOperationDone t good s
  | .lockAll w => Sys2Proof.Machine.execLockAll w s
  | .lockSet lock w => Sys2Proof.Machine.execLockSet lock w s
  | .logFormat t w => Sys2Proof.Machine.execLogFormat t w s
  | .crsTblIndexWrite w => Sys2Proof.Machine.execCrsTblIndexWrite w s
  | .sniEntryWrite w => Sys2Proof.Machine.execSniEntryWrite w s
  | .gnsNotchSelWrite w => Sys2Proof.Machine.execGnsNotchSelWrite w s
  | .vslLaneSelWrite w => Sys2Proof.Machine.execVslLaneSelWrite w s
  | .pntSelWrite w => Sys2Proof.Machine.execPntSelWrite w s
  | .timLatchWrite t w => Sys2Proof.Machine.execTimLatchWrite t w s
  | .timCapSelWrite w => Sys2Proof.Machine.execTimCapSelWrite w s
  | .memBankSelWrite w => Sys2Proof.Machine.execMemBankSelWrite w s
  | .glbXselWrite w => Sys2Proof.Machine.execGlbXselWrite w s
  | .canSingleClear t ctl w => Sys2Proof.Machine.execCanSingleClear t ctl w s
  | .counterClear t offset w => Sys2Proof.Machine.execCounterClear t offset w s
  | .peakClear t offset w => Sys2Proof.Machine.execPeakClear t offset w s
  | .registerWrite t offset be w => Sys2Proof.Machine.execRegisterWrite t offset be w s
  | .uartFramingError t uart => Sys2Proof.Machine.execUartFramingError t uart s
  | .feedRestored t feed mv => Sys2Proof.Machine.execFeedRestored t feed mv s
  | .corePllLockLoss t => Sys2Proof.Machine.execCorePllLockLoss t s
  | .pcieLinkUp t => Sys2Proof.Machine.execPcieLinkUp t s
  | .ptpAnnounceTimeout t port => Sys2Proof.Machine.execPtpAnnounceTimeout t port s
  | .ptpDelayRequestTx t port => Sys2Proof.Machine.execPtpDelayRequestTx t port s
  | .igmpQueryRx t port version group => Sys2Proof.Machine.execIgmpQueryRx t port version group s
  | .canRxError t ctl code data dominant => Sys2Proof.Machine.execCanRxError t ctl code data dominant s
  | .scrubberRead t site errors => Sys2Proof.Machine.execScrubberRead t site errors s
  | .ext10mPresenceChange t present => Sys2Proof.Machine.execExt10mPresenceChange t present s
  | .safeOutputCurrentLimit t output high => Sys2Proof.Machine.execSafeOutputCurrentLimit t output high s

end Sys2Proof.Machine
end

