-- ==== Sys2Proof/Safety.lean ====
section
/-! DEFINITION. What a safe run is, in the terms statements use: every command completes, and what a command leaves
unchanged is said over the parts of the state. -/

namespace Sys2Proof.Machine
open Sys2Proof

/-- A command completes: exec answers a next state. -/
def Completes (i : Instr) (s : State) : Prop := ∃ t, exec i s = .next t

/-- A state from which `n` steps end in no fault and no refusal. -/
def SafeFor : Nat → State → Prop
  | 0, _ => True
  | n + 1, s => ∃ t, step s = .next t ∧ SafeFor n t

/-- The parts of the state that frames are said over. -/
inductive Part where
  /-- Device time and the counter of free values. -/
  | clk
  /-- The latest course tick: its place, frame, course, course count and source. -/
  | tick
  /-- Courses, items and the course table, but for the part `tick`. -/
  | crs
  /-- The event queue, the staging FIFO and their select registers. -/
  | evt
  /-- Rings, doorbells and the host interface. -/
  | hrg
  /-- The vessel model image. -/
  | img
  /-- The GNSS receiver. -/
  | gns
  /-- The point image and the networks. -/
  | pnt
  /-- The occurrence counters that have a register of their own. -/
  | ctrs
  /-- The configuration registers and their values in effect. -/
  | cfg
  /-- The locks of the blocks. -/
  | locks
  /-- The sensor intake. -/
  | sni
  /-- Estimation and reference voting. -/
  | est
  /-- DP modes and control laws. -/
  | ctl
  /-- Thrust allocation. -/
  | alloc
  /-- Consequence analysis. -/
  | csq
  /-- Trim and heel holding. -/
  | trim
  /-- The voussoir array. -/
  | vsl
  /-- The time engine. -/
  | tim
  /-- Redundancy and claims. -/
  | rdn
  /-- The buttress. -/
  | btr
  /-- The CAN FD controllers. -/
  | can
  /-- The Yarerago link and the cascade. -/
  | ylk
  /-- The recorder and the log memory. -/
  | log
  /-- The bytes of the SRAM and of the mortar memory. -/
  | cells
  /-- On-chip memory, its bytes apart. -/
  | mem
  /-- Identification, domains and crossings. -/
  | glb
  /-- OTP, seals and security. -/
  | sec
  /-- Power, hold-up and start-up. -/
  | pwr
  /-- What the block has given out. -/
  | outbox
  /-- The commands that wait. -/
  | pending
  deriving DecidableEq, Repr

/-- Both memories have their canonical form. -/
def State.memOk (s : State) : Prop := memWf s.mem.sram = true ∧ memWf s.mem.mortar = true

/-- exec answers a next state of which `P` holds. -/
def Answers (i : Instr) (s : State) (P : State → Prop) : Prop := ∃ u, exec i s = .next u ∧ P u

/-- The bytes of the two memories. -/
def Mem.cells (x : Mem) : List Host.Cell × List Host.Cell := (x.sram, x.mortar)

/-- On-chip memory with its bytes left out. -/
def Mem.rest (x : Mem) : Mem := { x with sram := [], mortar := [] }

/-- The configuration registers: what they read and what is in effect. -/
def Regs.config (x : Regs) : Vector Word 42 × Vector Word 42 := (x.cfg, x.eff)

/-- The place in the course grid: whether a tick has been made, frame, course, course count and TICK_SRC. -/
def Crs.place (x : Crs) : Bool × Word × Nat × Nat × Nat := (x.started, x.frame, x.course, x.courseCnt, x.tickSrc)

/-- The clock block with the place of the latest course tick left out. -/
def Clk.rest (x : Clk) : Clk := { x with tickAt := 0 }

/-- The course block with that place left out. -/
def Crs.rest (x : Crs) : Crs := { x with started := false, frame := 0, course := 0, courseCnt := 0, tickSrc := 0 }

/-- `t` has every part of `s` but those listed. -/
structure SameBut (ps : List Part) (s t : State) : Prop where
  clk : .clk ∉ ps → t.clk.rest = s.clk.rest
  tick : .tick ∉ ps → t.crs.place = s.crs.place ∧ t.clk.tickAt = s.clk.tickAt
  crs : .crs ∉ ps → t.crs.rest = s.crs.rest
  evt : .evt ∉ ps → t.evt = s.evt
  hrg : .hrg ∉ ps → t.hrg = s.hrg
  img : .img ∉ ps → t.img = s.img
  gns : .gns ∉ ps → t.gns = s.gns
  pnt : .pnt ∉ ps → t.pnt = s.pnt
  ctrs : .ctrs ∉ ps → t.regs.ctrs = s.regs.ctrs
  cfg : .cfg ∉ ps → t.regs.config = s.regs.config
  locks : .locks ∉ ps → t.regs.locks = s.regs.locks
  sni : .sni ∉ ps → t.sni = s.sni
  est : .est ∉ ps → t.est = s.est
  ctl : .ctl ∉ ps → t.ctl = s.ctl
  alloc : .alloc ∉ ps → t.alloc = s.alloc
  csq : .csq ∉ ps → t.csq = s.csq
  trim : .trim ∉ ps → t.trim = s.trim
  vsl : .vsl ∉ ps → t.vsl = s.vsl
  tim : .tim ∉ ps → t.tim = s.tim
  rdn : .rdn ∉ ps → t.rdn = s.rdn
  btr : .btr ∉ ps → t.btr = s.btr
  can : .can ∉ ps → t.can = s.can
  ylk : .ylk ∉ ps → t.ylk = s.ylk
  log : .log ∉ ps → t.log = s.log
  cells : .cells ∉ ps → t.mem.cells = s.mem.cells
  mem : .mem ∉ ps → t.mem.rest = s.mem.rest
  glb : .glb ∉ ps → t.glb = s.glb
  sec : .sec ∉ ps → t.sec = s.sec
  pwr : .pwr ∉ ps → t.pwr = s.pwr
  outbox : .outbox ∉ ps → t.outbox = s.outbox
  pending : .pending ∉ ps → t.pending = s.pending

/-- The parts of the state that taking one descriptor of a host command may change. -/
def cmdParts (c : HostCmd) : List Part :=
  match c with
  | .nop | .timeStepAccept _ | .timeSet _ _ _ | .claimResume => [.clk, .hrg]
  | .imageLoad | .imageActivate _ | .imageDiscard => [.clk, .hrg, .img]
  | .imageQuery | .gnssQuery | .estQuery | .ctrlQuery | .allocQuery | .envelopeQuery | .trimQuery => [.clk, .evt, .hrg, .ctrs, .outbox]
  | .analogTest _ _ => [.clk, .hrg, .sni]
  | .gnssCorrection _ => [.clk, .evt, .hrg, .gns, .ctrs]
  | .gnssSnapshot _ _ _ _ _ => [.clk, .evt, .hrg, .gns, .ctrs, .mem]
  | .refStatus _ => [.clk, .evt, .hrg, .ctrs, .est, .outbox]
  | .conseqQuery => [.clk, .evt, .hrg, .ctrs, .csq, .outbox]
  | .timeLeap _ => [.clk, .evt, .hrg, .ctrs, .tim]
  | .roleExchange | .trackLoad _ => [.clk, .evt, .hrg, .ctrs, .rdn]
  | .btrReset _ _ _ | .btrOutput _ _ => [.clk, .hrg, .btr]
  | .pointWrite _ _ _ _ => [.clk, .evt, .hrg, .pnt, .ctrs, .ylk, .outbox]
  | .streamSet _ _ _ => [.clk, .evt, .hrg, .pnt, .ctrs]
  | .canSend _ _ _ _ | .canAbort _ _ | .canRecover _ => [.clk, .evt, .hrg, .ctrs, .can]
  | .canMode _ _ => [.clk, .hrg, .can]
  | .logRead _ _ => [.clk, .hrg, .log]
  | .memTest _ _ => [.clk, .hrg, .mem]
  | .gridOrigin _ _ _ | .refEnable _ _ | .refTarget _ _ _ _ | .dpMode _ _ | .setpoint _ _ _ _ _
  | .gainSelect _ | .berthSet _ _ _ _ | .thrusterEnable _ _ | .trimStart _ _ | .trimSet _ _ | .trimStop => [.clk, .hrg, .rdn]

/-- A command leaves every part but those listed as it was. -/
def TouchesOnly (ps : List Part) (i : Instr) : Prop := ∀ s t, exec i s = .next t → SameBut ps s t

/-- In `u` the item has finished in time: fresh, produced in the frame of `s`, with the input-stale mark of its inputs
there, and done for the frame (R46, R47, R49). -/
def FinishedItem (code : Nat) (s u : State) : Prop :=
  u.item code = { origin := s.crs.frame, stale := false, inputStale := (itemInputs code).any s.itemHeld } ∧
  code ∈ u.crs.doneItems

/-- In `u` the grid has moved on by one course: the first tick opens frame 0 with course 0, a later one the next course or
the next frame (R38, R584). -/
def MovedOn (s u : State) : Prop :=
  u.crs.started = true ∧
  if s.crs.started = false then u.crs.frame = 0 ∧ u.crs.course = 0 ∧ u.crs.courseCnt = 0
  else if s.crs.course + 1 < s.frameCourses then
    u.crs.frame = s.crs.frame ∧ u.crs.course = s.crs.course + 1 ∧ u.crs.courseCnt = s.crs.courseCnt + 1
  else u.crs.frame = s.crs.frame + 1 ∧ u.crs.course = 0 ∧ u.crs.courseCnt = s.crs.courseCnt + 1

/-- A link frame that a part takes: its port is up, its CRC is good, it comes from another part with a newer SEQ of its
class, it is for this part or for all, and its payload is no longer than 1,028 bytes (R520 to R522). -/
def State.Hears (hd : LinkHdr) (typ : Nat) (payload : List Byte) (s : State) : Prop :=
  s.ylk.state ≠ 0 ∧ s.linkUp (hd.port % 2) = true ∧ hd.crc = 0 ∧ hd.src ≠ s.linkAddr ∧
  (∀ q, afind (4 * hd.src + linkClass typ) s.ylk.seqIn = some q → newer hd.seq q = true) ∧
  (hd.dst = 0xFF ∨ hd.dst = s.linkAddr) ∧ payload.length ≤ 1028

/-- The next descriptor of a ring holds the command, and it passes the checks of R419 with no fence to wait on. -/
def State.Accepts (h : CmdHdr) (c : HostCmd) (s : State) : Prop :=
  s.runs = true ∧ s.canFetch h.ring = true ∧ cmdFits h c = true ∧ s.formatError h c = none ∧ s.denies c = false ∧
  (h.fence = false ∨ (s.ring h.ring).outst = [])

/-- The state in which that descriptor has been taken from its ring and accepted (R419). -/
def State.accepted (t : Nat) (h : CmdHdr) (c : HostCmd) (s : State) : State :=
  ((s.instant t).pushOutst h.ring (cmdCode c) h.tag).markAccepted h.ring s.hrg.nextRef

/-- The accepted command as it goes on (R23, R420). -/
def State.taken (t : Nat) (h : CmdHdr) (c : HostCmd) (s : State) : Waiting :=
  { ring := h.ring, ref := s.hrg.nextRef, cmd := cmdWithLen h c, hdr := h, time := (s.instant t).devTime
    due := s.crs.frame + 1, desc := descBytes (s.ring h.ring).phase h c }

/-- A failed access waits for its one retry, and its ring with it (R429). -/
def State.awaitRetry (k : HostAccess) (s : State) : State :=
  let s := s.withHrg { s.hrg with accessRetry := s.hrg.accessRetry ++ [k] }
  s.setRing (accessCtr k).2 { s.ring (accessCtr k).2 with retry := true }

/-- The retry has run, and the access waits no longer. -/
def State.retried (k : HostAccess) (s : State) : State :=
  let s := s.withHrg { s.hrg with accessRetry := s.hrg.accessRetry.erase k }
  s.setRing (accessCtr k).2 { s.ring (accessCtr k).2 with retry := false }

end Sys2Proof.Machine
end

