-- ==== Sys2Proof/Certificates/Slice0/Obligations.lean ====
section
/-! DEFINITION. The statements about the model. Each names the rule of spec/ it rests on. -/

open Sys2Proof Sys2Proof.Machine

/-- For every command c and every state s, a step of s with c put at the front of its queue is exec of c on s with the
queue as it was. (spec/01_architecture.md R23) -/
def Obligations.StepRunsFrontCommand : Prop :=
  ∀ (c : Instr) (s : State), step { s with pending := c :: s.pending } = exec c s

/-- A step on a queue c :: rest that answers a next state leaves exactly rest in the queue, whatever command c is and
whatever the state; on an empty queue the block idles. The queue and the idle step are the model's own (assumption
1). (spec/01_architecture.md R23) -/
def Obligations.CommandsRunFirstInFirstOut : Prop :=
  ∀ (s : State),
    (s.pending = [] → step s = .next s) ∧
    ∀ (c : Instr) (rest : List Instr) (u : State),
      s.pending = c :: rest → step s = .next u → u.pending = rest

/-- Every command answers a next state on every state, so a run of any length from any state ends in no fault and no
refusal. (spec/00_scope.md, spec/01_architecture.md) -/
def Obligations.NoRunStops : Prop :=
  (∀ (i : Instr) (s : State), Completes i s) ∧ ∀ (n : Nat) (s : State), SafeFor n s

/-- In the state after reset the SRAM and the mortar memory are in canonical form, and every byte of them reads zero.
What an unlisted byte reads as is the content the start-up march leaves. (spec/20_on_chip_memory.md R465,
spec/20_on_chip_memory.md R478) -/
def Obligations.MemoryFormAtReset : Prop :=
  State.reset.memOk ∧ ∀ a : Nat, memGet State.reset.mem.sram a = 0 ∧ memGet State.reset.mem.mortar a = 0

/-- When the SRAM and the mortar memory list strictly rising addresses and no zero byte, they do so after every step
that answers a next state. Equal memories are then equal data in every state a run can reach.
(spec/20_on_chip_memory.md R465, spec/20_on_chip_memory.md R473) -/
def Obligations.MemoryFormKeptByEveryStep : Prop :=
  ∀ (s u : State), s.memOk → step s = .next u → u.memOk

/-- Over a memory in canonical form: a byte that is written reads back, every other byte reads as before, and the memory
keeps its form; a 64-bit word is written as its eight bytes in little-endian order and no byte outside it changes.
(spec/00_scope.md R3, spec/20_on_chip_memory.md R465) -/
def Obligations.MemoryReadAfterWrite : Prop :=
  (∀ (m : List Host.Cell) (a : Nat) (b : Byte), memWf m = true →
    memWf (memSet a b m) = true ∧ memGet (memSet a b m) a = b ∧ ∀ c, c ≠ a → memGet (memSet a b m) c = memGet m c) ∧
  ∀ (m : List Host.Cell) (w : Nat) (v : DWord), memWf m = true →
    memWf (memSetWord w v m) = true ∧
    (∀ i, i < 8 → memGet (memSetWord w v m) (8 * w + i) = v.extractLsb' (8 * i) 8) ∧
    ∀ c, c < 8 * w ∨ 8 * w + 8 ≤ c → memGet (memSetWord w v m) c = memGet m c

/-- In the state after reset every register of the table of non-zero reset values reads its value there, the ring
configuration of each ring reads 4, and every occurrence counter, every lock and every configuration register
outside that table reads zero. (spec/25_register_map.md R559) -/
def Obligations.ResetRegisterValues : Prop :=
  (∀ p ∈ ([
    (0x0000, 0x1F3C7240#32), (0x0004, 0x000001B1#32), (0x010C, 0x000007FF#32), (0x0110, 0x000003A9#32),
    (0x2020, 0x00000040#32), (0x3000, 0x00327FDD#32), (0x5000, 0x00100118#32), (0x5014, 0x0000000F#32),
    (0x6000, 0x006150D1#32), (0x6004, 0x0079903C#32), (0x6008, 0x06400064#32), (0x600C, 0x12C02814#32),
    (0x6010, 0x00000190#32), (0x6018, 0x80800000#32), (0x601C, 0x00073010#32), (0x6028, 0x00004444#32),
    (0x6030, 0xF8000000#32), (0x6034, 0xFFFFFFFF#32), (0x6048, 0x0000FF00#32), (0x7000, 0x0012801F#32),
    (0x7004, 0x0000072A#32), (0x7008, 0x0001E1E5#32), (0x7014, 0x00000059#32), (0x7018, 0x387828FF#32),
    (0x701C, 0x78A3C12C#32), (0x9000, 0x000E03E8#32), (0x9008, 0x00000040#32), (0xA004, 0x00000002#32),
    (0xA034, 0x00000300#32), (0xB000, 0x0000000C#32), (0xB014, 0x000000B0#32), (0xB400, 0x0000000C#32),
    (0xB414, 0x000000B0#32), (0xB800, 0x0000000C#32), (0xB814, 0x000000B0#32), (0xC000, 0x00000020#32),
    (0xC010, 0x0000FFFF#32), (0xD000, 0x007D3E80#32), (0xD004, 0x00000030#32), (0xD00C, 0x00000080#32),
    (0xD800, 0x00000600#32), (0xD808, 0x00000100#32), (0xD814, 0xFFFFFFFF#32), (0xE000, 0x00001618#32),
    (0xE008, 0x00000002#32), (0xF000, 0x00000119#32)] : List (Nat × Word)), State.reset.regValue p.1 = p.2) ∧
  (∀ i, i < 22 → (State.reset.ring i).rcfg = 0x00000004#32) ∧
  (∀ c : Ctr, (State.reset.ctr c).reg = 0#32) ∧ (∀ l : LockId, State.reset.locked l = false) ∧
  ∀ r : CfgReg, State.reset.cfgReg r = State.reset.effReg r ∧
    (r.offset ∈ [0x001C, 0x0210, 0x300C, 0x3010, 0x3014, 0x3018, 0x6014, 0x6020, 0x6024, 0x700C, 0x7010, 0x8000, 0xE01C, 0xE020,
      0xE024] → State.reset.cfgReg r = 0#32)

/-- Each of these commands leaves every part of the state but those listed beside it as it was when it answers a next
state; the queue is never listed. Commands: ALIGN, ESTIMATE, VOTE, REF_SILENT, REF_READMISSION_COMPLETE,
BOOTSTRAP_ADMISSION, CLASS_COAST_TIMEOUT, LAW, JOYSTICK_LOST, GAIN_AUTO_EVALUATION, CURRENT_REPORT, DISPATCH,
CASE_DISPATCH, RELEASE, AVAIL_POINT_STALE, DIGEST, PAIR_COMPARE, KEYSTONE, CONFIRM, CONFIRM_MISS,
TICK_PHASE_SLEW_END, DEADLINE_MISS. (spec/02_courses_and_frames.md R43, spec/06_position_estimation.md,
spec/07_control_modes.md, spec/08_thrust_allocation.md, spec/14_safety_island.md) -/
def Obligations.FrameItemsOfTheControlPath : Prop :=
  (∀ t, TouchesOnly [.clk, .crs, .evt, .pnt, .ctrs, .sni, .est] (.align t)) ∧
  (∀ t ends, TouchesOnly [.clk, .crs, .evt, .hrg, .ctrs, .est, .vsl, .rdn, .ylk, .cells, .mem, .outbox] (.estimate t ends)) ∧
  (∀ t, TouchesOnly [.clk, .crs, .evt, .ctrs, .est, .ctl] (.vote t)) ∧
  (∀ t ref, TouchesOnly [.clk, .evt, .ctrs, .est] (.refSilent t ref)) ∧
  (∀ t ref, TouchesOnly [.clk, .evt, .ctrs, .est] (.refReadmissionComplete t ref)) ∧
  (∀ t ref, TouchesOnly [.clk, .evt, .ctrs, .est] (.bootstrapAdmission t ref)) ∧
  (∀ t cls, TouchesOnly [.clk, .evt, .ctrs, .est] (.classCoastTimeout t cls)) ∧
  (∀ t, TouchesOnly [.clk, .crs, .evt, .hrg, .ctrs, .ctl, .alloc] (.law t)) ∧
  (∀ t, TouchesOnly [.clk, .evt, .ctrs, .ctl] (.joystickLost t)) ∧
  (∀ t, TouchesOnly [.clk, .evt, .ctrs, .ctl] (.gainAutoEvaluation t)) ∧
  (∀ t, TouchesOnly [.clk, .ctl] (.currentReport t)) ∧
  (∀ t, TouchesOnly [.clk, .crs, .evt, .ctrs, .alloc, .vsl, .rdn, .cells, .mem] (.dispatch t)) ∧
  (∀ t, TouchesOnly [.clk, .crs, .evt, .ctrs, .alloc, .csq, .vsl, .cells, .mem] (.caseDispatch t)) ∧
  (∀ t, TouchesOnly [.clk, .crs, .evt, .ctrs, .alloc, .rdn, .ylk, .outbox] (.release t)) ∧
  (∀ t bus, TouchesOnly [.clk, .evt, .ctrs, .alloc] (.availPointStale t bus)) ∧
  (∀ t, TouchesOnly [.clk, .crs, .evt, .ctrs, .rdn, .ylk, .outbox] (.digest t)) ∧
  (∀ t, TouchesOnly [.clk, .crs, .evt, .hrg, .img, .pnt, .ctrs, .rdn, .ylk, .outbox] (.pairCompare t)) ∧
  (∀ t full, TouchesOnly [.clk, .crs, .evt, .hrg, .ctrs, .rdn, .can, .outbox] (.keystone t full)) ∧
  (∀ t, TouchesOnly [.clk, .crs, .evt, .ctrs, .btr, .outbox] (.confirm t)) ∧
  (∀ t, TouchesOnly [.clk, .crs, .evt, .ctrs, .btr, .outbox] (.confirmMiss t)) ∧
  (TouchesOnly [.crs, .evt, .ctrs, .tim] (.tickPhaseSlewEnd)) ∧
  (∀ t code, TouchesOnly [.clk, .crs, .evt, .hrg, .pnt, .ctrs, .est, .ctl, .alloc, .csq, .trim, .rdn, .can, .ylk, .outbox] (.deadlineMiss t code))

/-- Each of these commands leaves every part of the state but those listed beside it as it was when it answers a next
state; the queue is never listed. Commands: POST_POINTS, POST_LOG, CASE_COLLECT, ENV_COLLECT, CONSEQ_REPORT, TRIM,
GNSS_NAV, HOST, DESCRIPTOR_PHASE_TIMEOUT, NET, SUPERVISE, RECORDER, MARCH, COMPLETION_POST, MSIX_MODERATION_EXPIRY.
(spec/02_courses_and_frames.md R43, spec/10_consequence_analysis.md, spec/11_trim_and_heel.md, spec/17_host_rings.md
R419) -/
def Obligations.FrameItemsOfAnalysisAndService : Prop :=
  (∀ run, TouchesOnly [.clk, .crs, .evt, .hrg, .pnt, .ctrs, .ylk, .outbox] (.postPoints run)) ∧
  (∀ t, TouchesOnly [.clk, .crs, .evt, .log] (.postLog t)) ∧
  (∀ t, TouchesOnly [.clk, .crs, .evt, .ctrs, .csq, .ylk, .outbox] (.caseCollect t)) ∧
  (∀ t, TouchesOnly [.clk, .crs, .evt, .hrg, .pnt, .ctrs, .csq, .outbox] (.envCollect t)) ∧
  (∀ t, TouchesOnly [.clk, .crs, .evt, .ctrs, .csq, .ylk] (.conseqReport t)) ∧
  (∀ t fin, TouchesOnly [.clk, .crs, .evt, .hrg, .pnt, .ctrs, .trim, .vsl, .rdn, .ylk, .cells, .mem, .outbox] (.trim t fin)) ∧
  (∀ t nav iono obs sols hd, TouchesOnly [.clk, .crs, .evt, .gns, .ctrs, .sni, .tim, .ylk, .outbox] (.gnssNav t nav iono obs sols hd)) ∧
  (∀ t fetches, TouchesOnly [.clk, .crs, .evt, .hrg, .img, .gns, .pnt, .ctrs, .sni, .est, .csq, .tim, .rdn, .btr, .can, .ylk, .log, .mem, .outbox] (.host t fetches)) ∧
  (∀ t ring, TouchesOnly [.clk, .evt, .hrg, .ctrs] (.descriptorPhaseTimeout t ring)) ∧
  (∀ t full, TouchesOnly [.clk, .crs, .evt, .hrg, .pnt, .ctrs, .sni, .can, .ylk, .outbox] (.net t full)) ∧
  (∀ t, TouchesOnly [.clk, .crs, .evt, .ctrs, .rdn, .glb] (.supervise t)) ∧
  (∀ t, TouchesOnly [.clk, .crs, .evt, .log] (.recorder t)) ∧
  (∀ t failed, TouchesOnly [.clk, .crs, .evt, .ctrs, .mem] (.march t failed)) ∧
  (∀ t ring, TouchesOnly [.clk, .evt, .hrg, .img, .gns, .pnt, .ctrs, .sni, .est, .csq, .tim, .rdn, .btr, .can, .ylk, .log, .mem, .outbox] (.completionPost t ring)) ∧
  (∀ t ring, TouchesOnly [.clk, .evt, .hrg, .outbox] (.msixModerationExpiry t ring))

/-- Each of these commands leaves every part of the state but those listed beside it as it was when it answers a next
state; the queue is never listed. Commands: NOP, IMAGE_LOAD, IMAGE_ACTIVATE, IMAGE_DISCARD, IMAGE_QUERY,
ANALOG_TEST, GNSS_CORRECTION, GNSS_SNAPSHOT, GNSS_QUERY, GRID_ORIGIN, REF_ENABLE, REF_TARGET, REF_STATUS, EST_QUERY,
DP_MODE, SETPOINT, GAIN_SELECT, TRACK_LOAD, BERTH_SET, CTRL_QUERY, THRUSTER_ENABLE, ALLOC_QUERY, CONSEQ_QUERY,
ENVELOPE_QUERY, TRIM_START, TRIM_SET, TRIM_STOP, TRIM_QUERY, TIME_STEP_ACCEPT, TIME_SET, TIME_LEAP, CLAIM_RESUME,
ROLE_EXCHANGE, BTR_RESET, BTR_OUTPUT, POINT_WRITE, STREAM_SET, CAN_SEND, CAN_ABORT, CAN_RECOVER, CAN_MODE, LOG_READ,
MEM_TEST. (spec/17_host_rings.md R419, spec/17_host_rings.md R420, spec/17_host_rings.md R423,
spec/01_architecture.md R23) -/
def Obligations.FrameHostCommands : Prop :=
  (∀ t h, TouchesOnly [.clk, .hrg] (.nop t h)) ∧
  (∀ t h, TouchesOnly [.clk, .hrg, .img] (.imageLoad t h)) ∧
  (∀ t h n, TouchesOnly [.clk, .hrg, .img] (.imageActivate t h n)) ∧
  (∀ t h, TouchesOnly [.clk, .hrg, .img] (.imageDiscard t h)) ∧
  (∀ t h, TouchesOnly [.clk, .evt, .hrg, .ctrs, .outbox] (.imageQuery t h)) ∧
  (∀ t h channel input, TouchesOnly [.clk, .hrg, .sni] (.analogTest t h channel input)) ∧
  (∀ t h data, TouchesOnly [.clk, .evt, .hrg, .gns, .ctrs] (.gnssCorrection t h data)) ∧
  (∀ t h secs ns dur streams tap, TouchesOnly [.clk, .evt, .hrg, .gns, .ctrs, .mem] (.gnssSnapshot t h secs ns dur streams tap)) ∧
  (∀ t h, TouchesOnly [.clk, .evt, .hrg, .ctrs, .outbox] (.gnssQuery t h)) ∧
  (∀ t h lat lon height, TouchesOnly [.clk, .hrg, .rdn] (.gridOrigin t h lat lon height)) ∧
  (∀ t h ref on, TouchesOnly [.clk, .hrg, .rdn] (.refEnable t h ref on)) ∧
  (∀ t h ref capture n e, TouchesOnly [.clk, .hrg, .rdn] (.refTarget t h ref capture n e)) ∧
  (∀ t h ref, TouchesOnly [.clk, .evt, .hrg, .ctrs, .est, .outbox] (.refStatus t h ref)) ∧
  (∀ t h, TouchesOnly [.clk, .evt, .hrg, .ctrs, .outbox] (.estQuery t h)) ∧
  (∀ t h mode joy, TouchesOnly [.clk, .hrg, .rdn] (.dpMode t h mode joy)) ∧
  (∀ t h flags turn n e heading, TouchesOnly [.clk, .hrg, .rdn] (.setpoint t h flags turn n e heading)) ∧
  (∀ t h set, TouchesOnly [.clk, .hrg, .rdn] (.gainSelect t h set)) ∧
  (∀ t h data, TouchesOnly [.clk, .evt, .hrg, .ctrs, .rdn] (.trackLoad t h data)) ∧
  (∀ t h n e heading side, TouchesOnly [.clk, .hrg, .rdn] (.berthSet t h n e heading side)) ∧
  (∀ t h, TouchesOnly [.clk, .evt, .hrg, .ctrs, .outbox] (.ctrlQuery t h)) ∧
  (∀ t h changed on, TouchesOnly [.clk, .hrg, .rdn] (.thrusterEnable t h changed on)) ∧
  (∀ t h, TouchesOnly [.clk, .evt, .hrg, .ctrs, .outbox] (.allocQuery t h)) ∧
  (∀ t h, TouchesOnly [.clk, .evt, .hrg, .ctrs, .csq, .outbox] (.conseqQuery t h)) ∧
  (∀ t h, TouchesOnly [.clk, .evt, .hrg, .ctrs, .outbox] (.envelopeQuery t h)) ∧
  (∀ t h heel trim, TouchesOnly [.clk, .hrg, .rdn] (.trimStart t h heel trim)) ∧
  (∀ t h heel trim, TouchesOnly [.clk, .hrg, .rdn] (.trimSet t h heel trim)) ∧
  (∀ t h, TouchesOnly [.clk, .hrg, .rdn] (.trimStop t h)) ∧
  (∀ t h, TouchesOnly [.clk, .evt, .hrg, .ctrs, .outbox] (.trimQuery t h)) ∧
  (∀ t h seq, TouchesOnly [.clk, .hrg] (.timeStepAccept t h seq)) ∧
  (∀ t h secs ns unc, TouchesOnly [.clk, .hrg] (.timeSet t h secs ns unc)) ∧
  (∀ t h count, TouchesOnly [.clk, .evt, .hrg, .ctrs, .tim] (.timeLeap t h count)) ∧
  (∀ t h, TouchesOnly [.clk, .hrg] (.claimResume t h)) ∧
  (∀ t h, TouchesOnly [.clk, .evt, .hrg, .ctrs, .rdn] (.roleExchange t h)) ∧
  (∀ t h inputs remotes outputs, TouchesOnly [.clk, .hrg, .btr] (.btrReset t h inputs remotes outputs)) ∧
  (∀ t h changed on, TouchesOnly [.clk, .hrg, .btr] (.btrOutput t h changed on)) ∧
  (∀ t h point value quality typ, TouchesOnly [.clk, .evt, .hrg, .pnt, .ctrs, .ylk, .outbox] (.pointWrite t h point value quality typ)) ∧
  (∀ t h stream count data, TouchesOnly [.clk, .evt, .hrg, .pnt, .ctrs] (.streamSet t h stream count data)) ∧
  (∀ t h ctl flags ident data, TouchesOnly [.clk, .evt, .hrg, .ctrs, .can] (.canSend t h ctl flags ident data)) ∧
  (∀ t h ctl buf, TouchesOnly [.clk, .evt, .hrg, .ctrs, .can] (.canAbort t h ctl buf)) ∧
  (∀ t h ctl, TouchesOnly [.clk, .evt, .hrg, .ctrs, .can] (.canRecover t h ctl)) ∧
  (∀ t h ctl mode, TouchesOnly [.clk, .hrg, .can] (.canMode t h ctl mode)) ∧
  (∀ t h first count, TouchesOnly [.clk, .hrg, .log] (.logRead t h first count)) ∧
  (∀ t h target form, TouchesOnly [.clk, .hrg, .mem] (.memTest t h target form))

/-- Each of these commands leaves every part of the state but those listed beside it as it was when it answers a next
state; the queue is never listed. Commands: DOORBELL_WRITE, RING_ENABLE, RING_RESET, RING_RESET_DONE,
HOST_ACCESS_FAILURE, HOST_ACCESS_RETRY, BULK_PIECE_WRITE, HOST_INTERFACE_RESET, PCIE_LINK_UP, IMAGE_VERIFY_DONE,
IMAGE_DISCARD_STOP, SNAPSHOT_CAPTURE_START, SNAPSHOT_CAPTURE_DONE, MEM_TEST_DONE, READINESS_REGAINED,
EXCHANGE_PROPOSAL_DUE. (spec/17_host_rings.md, spec/03_vessel_model_image.md, spec/05_gnss_baseband.md R129) -/
def Obligations.FrameHostInterface : Prop :=
  (∀ t ring w, TouchesOnly [.clk, .evt, .hrg, .ctrs, .outbox] (.doorbellWrite t ring w)) ∧
  (∀ t w, TouchesOnly [.clk, .evt, .hrg, .ctrs, .outbox] (.ringEnable t w)) ∧
  (∀ t w, TouchesOnly [.clk, .evt, .hrg, .ctrs, .outbox] (.ringReset t w)) ∧
  (∀ t ring, TouchesOnly [.clk, .hrg] (.ringResetDone t ring)) ∧
  (∀ t kind, TouchesOnly [.clk, .evt, .hrg, .ctrs] (.hostAccessFailure t kind)) ∧
  (∀ t kind good done, TouchesOnly [.clk, .evt, .hrg, .img, .ctrs, .rdn, .outbox] (.hostAccessRetry t kind good done)) ∧
  (∀ piece, TouchesOnly [.clk, .evt, .hrg, .gns, .ctrs, .log, .mem, .outbox] (.bulkPieceWrite piece)) ∧
  (∀ t kind, TouchesOnly [.clk, .evt, .hrg, .img, .gns, .ctrs, .est, .ctl, .trim, .rdn, .btr, .log, .mem, .glb] (.hostInterfaceReset t kind)) ∧
  (∀ t, TouchesOnly [.clk, .evt, .hrg, .ctrs] (.pcieLinkUp t)) ∧
  (∀ t img, TouchesOnly [.clk, .evt, .hrg, .img, .ctrs] (.imageVerifyDone t img)) ∧
  (∀ t, TouchesOnly [.clk, .hrg, .img] (.imageDiscardStop t)) ∧
  (∀ t, TouchesOnly [.clk, .gns] (.snapshotCaptureStart t)) ∧
  (∀ t samples, TouchesOnly [.clk, .hrg, .gns] (.snapshotCaptureDone t samples)) ∧
  (∀ t fin, TouchesOnly [.clk, .evt, .hrg, .ctrs, .cells, .mem] (.memTestDone t fin)) ∧
  (∀ t, TouchesOnly [.clk, .crs, .rdn] (.readinessRegained t)) ∧
  (∀ t, TouchesOnly [.clk, .evt, .ctrs, .rdn] (.exchangeProposalDue t))

/-- Each of these commands leaves every part of the state but those listed beside it as it was when it answers a next
state; the queue is never listed. Commands: SENTENCE_START_STAMP, SENTENCE_RECEIVED, UART_FRAMING_ERROR,
NETWORK_SENTENCE_RX, IMU_SYNC_PULSE, IMU_DRDY_EDGE, IMU_FRAME_READ, IMU_DRDY_TIMEOUT, ANALOG_OUTPUT,
ANALOG_STEP_DETECTED, QUOIN_ENTRY_SILENT, INTAKE_RECORDS_RX, FORWARDED_POINTS_RX, ANTENNA_SUPPLY_FAULT,
ANTENNA_SUPPLY_RETRY, CHANNEL_ASSIGN_REVISION, CARRIER_CONTINUITY_LOSS, NOTCH_ANALYSIS, NOTCH_RELEASE, SPOOF_CLEAR,
CORRECTION_LAPSE. (spec/04_sensor_intake.md, spec/05_gnss_baseband.md) -/
def Obligations.FrameIntakeAndGnss : Prop :=
  (∀ t uart, TouchesOnly [.clk, .sni] (.sentenceStartStamp t uart)) ∧
  (∀ t uart bytes, TouchesOnly [.clk, .evt, .hrg, .pnt, .ctrs, .sni, .ylk, .outbox] (.sentenceReceived t uart bytes)) ∧
  (∀ t uart, TouchesOnly [.clk, .evt, .ctrs, .sni] (.uartFramingError t uart)) ∧
  (∀ t port group bytes, TouchesOnly [.clk, .evt, .hrg, .pnt, .ctrs, .sni, .ylk, .outbox] (.networkSentenceRx t port group bytes)) ∧
  (∀ t port, TouchesOnly [.clk, .sni, .outbox] (.imuSyncPulse t port)) ∧
  (∀ t port, TouchesOnly [.clk, .sni] (.imuDrdyEdge t port)) ∧
  (∀ t port bytes, TouchesOnly [.clk, .evt, .ctrs, .sni, .ylk, .outbox] (.imuFrameRead t port bytes)) ∧
  (∀ t port, TouchesOnly [.clk, .evt, .ctrs, .sni] (.imuDrdyTimeout t port)) ∧
  (∀ t channel code overrange, TouchesOnly [.clk, .evt, .hrg, .pnt, .ctrs, .sni, .ylk, .outbox] (.analogOutput t channel code overrange)) ∧
  (∀ t channel, TouchesOnly [.clk, .sni] (.analogStepDetected t channel)) ∧
  (∀ t entry, TouchesOnly [.clk, .evt, .ctrs, .sni] (.quoinEntrySilent t entry)) ∧
  (∀ t hd bytes, TouchesOnly [.clk, .evt, .ctrs, .sni, .ylk, .outbox] (.intakeRecordsRx t hd bytes)) ∧
  (∀ t hd bytes, TouchesOnly [.clk, .evt, .pnt, .ctrs, .ylk, .outbox] (.forwardedPointsRx t hd bytes)) ∧
  (∀ t ant ma, TouchesOnly [.clk, .evt, .gns, .ctrs] (.antennaSupplyFault t ant ma)) ∧
  (∀ t ant, TouchesOnly [.clk, .gns] (.antennaSupplyRetry t ant)) ∧
  (∀ t cands, TouchesOnly [.clk, .evt, .gns, .ctrs] (.channelAssignRevision t cands)) ∧
  (∀ t ant chan, TouchesOnly [.clk, .evt, .gns, .ctrs] (.carrierContinuityLoss t ant chan)) ∧
  (∀ t stream power levels, TouchesOnly [.clk, .evt, .gns, .ctrs] (.notchAnalysis t stream power levels)) ∧
  (∀ t notch, TouchesOnly [.clk, .evt, .gns, .ctrs] (.notchRelease t notch)) ∧
  (∀ t ant, TouchesOnly [.clk, .evt, .gns, .ctrs] (.spoofClear t ant)) ∧
  (∀ t, TouchesOnly [.clk, .evt, .gns, .ctrs] (.correctionLapse t))

/-- Each of these commands leaves every part of the state but those listed beside it as it was when it answers a next
state; the queue is never listed. Commands: SOURCE_OFFSET_MEASURE, SOURCE_QUALIFIED, SOURCE_LOST, SOURCE_REVERT,
HOLDOVER_LIMIT_CROSSED, PPS_EDGE, EXT_PPS_EDGE, CAPTURE_EDGE, PTP_MESSAGE_RX, PTP_MASTER_TX, PTP_ANNOUNCE_TIMEOUT,
PTP_DELAY_REQUEST_TX, EXT_10M_PRESENCE_CHANGE, LOCKSTEP_MISMATCH, FEED_OUT_OF_RANGE, FEED_RESTORED, PAIR_MESSAGE_RX,
HEARTBEAT_RX, URGENT_YIELD_RX, REMOVAL_MASK_RX, RESYNC_START, STATE_IMAGE_PIECE_RX, RESYNC_INSTALL, RESYNC_TIMEOUT,
RESYNC_RETRY. (spec/12_time_base.md, spec/13_redundancy_and_claims.md) -/
def Obligations.FrameTimeAndRedundancy : Prop :=
  (∀ t src, TouchesOnly [.clk, .crs, .evt, .ctrs, .tim, .ylk] (.sourceOffsetMeasure t src)) ∧
  (∀ t src, TouchesOnly [.clk, .crs, .evt, .ctrs, .tim, .ylk] (.sourceQualified t src)) ∧
  (∀ t src, TouchesOnly [.clk, .evt, .ctrs, .tim] (.sourceLost t src)) ∧
  (∀ t src, TouchesOnly [.clk, .evt, .ctrs, .tim] (.sourceRevert t src)) ∧
  (∀ t, TouchesOnly [.clk, .evt, .ctrs, .tim] (.holdoverLimitCrossed t)) ∧
  (∀ t, TouchesOnly [.clk, .tim, .outbox] (.ppsEdge t)) ∧
  (∀ edge, TouchesOnly [.clk, .tim] (.extPpsEdge edge)) ∧
  (∀ t input edge, TouchesOnly [.clk, .evt, .ctrs, .tim] (.captureEdge t input edge)) ∧
  (∀ t port rx, TouchesOnly [.clk, .evt, .ctrs, .tim, .outbox] (.ptpMessageRx t port rx)) ∧
  (∀ t port, TouchesOnly [.clk, .tim, .outbox] (.ptpMasterTx t port)) ∧
  (∀ t port, TouchesOnly [.clk, .evt, .ctrs, .tim] (.ptpAnnounceTimeout t port)) ∧
  (∀ t port, TouchesOnly [.clk, .tim, .outbox] (.ptpDelayRequestTx t port)) ∧
  (∀ t present, TouchesOnly [.clk, .tim] (.ext10mPresenceChange t present)) ∧
  (∀ t pair, TouchesOnly [.clk, .evt, .ctrs, .rdn, .ylk, .outbox] (.lockstepMismatch t pair)) ∧
  (∀ t feed mv, TouchesOnly [.clk, .evt, .ctrs, .rdn, .pwr] (.feedOutOfRange t feed mv)) ∧
  (∀ t feed mv, TouchesOnly [.clk, .evt, .ctrs, .rdn, .pwr] (.feedRestored t feed mv)) ∧
  (∀ t hd bytes, TouchesOnly [.clk, .evt, .hrg, .pnt, .ctrs, .rdn, .can, .ylk, .outbox] (.pairMessageRx t hd bytes)) ∧
  (∀ t port bytes, TouchesOnly [.clk, .evt, .hrg, .pnt, .ctrs, .rdn, .ylk, .outbox] (.heartbeatRx t port bytes)) ∧
  (∀ t hd bytes, TouchesOnly [.clk, .evt, .ctrs, .rdn, .ylk, .outbox] (.urgentYieldRx t hd bytes)) ∧
  (∀ t hd bytes, TouchesOnly [.clk, .evt, .ctrs, .rdn, .ylk, .outbox] (.removalMaskRx t hd bytes)) ∧
  (∀ t joiner, TouchesOnly [.clk, .evt, .hrg, .pnt, .ctrs, .rdn] (.resyncStart t joiner)) ∧
  (∀ t hd bytes, TouchesOnly [.clk, .evt, .ctrs, .rdn, .ylk, .outbox] (.stateImagePieceRx t hd bytes)) ∧
  (∀ t img, TouchesOnly [.clk, .pnt, .sni, .est, .ctl, .alloc, .csq, .trim, .vsl, .rdn] (.resyncInstall t img)) ∧
  (∀ t, TouchesOnly [.clk, .evt, .hrg, .pnt, .ctrs, .rdn] (.resyncTimeout t)) ∧
  (∀ t, TouchesOnly [.clk, .evt, .hrg, .pnt, .ctrs, .rdn] (.resyncRetry t))

/-- Each of these commands leaves every part of the state but those listed beside it as it was when it answers a next
state; the queue is never listed. Commands: BUTTRESS_COURSE, DISCREPANCY_FAULT, OUTPUT_STARTUP_TEST,
OUTPUT_TEST_START, OUTPUT_TEST_END, DEGRADED_LIMIT, ISLAND_FAULT, BUTTRESS_BEAT_LOSS, SAFETY_FRAME_RX,
SAFETY_COPY_TIMEOUT, REMOTE_SOURCE_LOST, SAFE_OUTPUT_CURRENT_LIMIT, ZWILUX_DATA_RX, ZWILUX_COMMAND_RX,
ZWILUX_READ_RX, ROUTE_ENTRY_STALE, STREAM_PENDING_POST, NET_LINK_CHANGE, ICMP_ECHO_REQUEST, ARP_REQUEST,
IGMP_QUERY_RX, CAN_FRAME_RX, CAN_REASM_TIMEOUT, CAN_TX_ATTEMPT_END, CAN_BUSOFF_WAIT_EXPIRY, CAN_RECOVERY_DONE,
CAN_RX_ERROR. (spec/14_safety_island.md, spec/15_point_image_and_networks.md, spec/16_can_fd.md) -/
def Obligations.FrameButtressNetworksAndCan : Prop :=
  (∀ chA chB readH readL, TouchesOnly [.clk, .evt, .hrg, .ctrs, .btr, .ylk, .outbox] (.buttressCourse chA chB readH readL)) ∧
  (∀ t input, TouchesOnly [.clk, .evt, .ctrs, .btr] (.discrepancyFault t input)) ∧
  (∀ t output good, TouchesOnly [.clk, .evt, .ctrs, .btr, .outbox] (.outputStartupTest t output good)) ∧
  (∀ output, TouchesOnly [.clk, .btr, .outbox] (.outputTestStart output)) ∧
  (∀ output openRead closedRead, TouchesOnly [.clk, .evt, .ctrs, .btr, .outbox] (.outputTestEnd output openRead closedRead)) ∧
  (∀ t remote number, TouchesOnly [.clk, .evt, .ctrs, .btr, .outbox] (.degradedLimit t remote number)) ∧
  (∀ t, TouchesOnly [.clk, .evt, .ctrs, .btr, .outbox] (.islandFault t)) ∧
  (∀ t, TouchesOnly [.clk, .evt, .ctrs, .btr] (.buttressBeatLoss t)) ∧
  (∀ t port bytes, TouchesOnly [.clk, .evt, .ctrs, .btr] (.safetyFrameRx t port bytes)) ∧
  (∀ t number, TouchesOnly [.clk, .evt, .ctrs, .btr] (.safetyCopyTimeout t number)) ∧
  (∀ t number, TouchesOnly [.clk, .evt, .ctrs, .btr] (.remoteSourceLost t number)) ∧
  (∀ t output high, TouchesOnly [.clk, .btr, .outbox] (.safeOutputCurrentLimit t output high)) ∧
  (∀ t port u bytes, TouchesOnly [.clk, .evt, .hrg, .pnt, .ctrs, .ylk, .outbox] (.zwiluxDataRx t port u bytes)) ∧
  (∀ t port u bytes, TouchesOnly [.clk, .evt, .hrg, .pnt, .ctrs, .ylk, .outbox] (.zwiluxCommandRx t port u bytes)) ∧
  (∀ t port u bytes, TouchesOnly [.clk, .evt, .hrg, .pnt, .ctrs, .ylk, .outbox] (.zwiluxReadRx t port u bytes)) ∧
  (∀ t entry, TouchesOnly [.clk, .evt, .hrg, .pnt, .ctrs, .outbox] (.routeEntryStale t entry)) ∧
  (∀ t stream, TouchesOnly [.clk, .hrg, .pnt, .outbox] (.streamPendingPost t stream)) ∧
  (∀ t port speed, TouchesOnly [.clk, .evt, .pnt, .ctrs] (.netLinkChange t port speed)) ∧
  (∀ t port src bytes, TouchesOnly [.clk, .outbox] (.icmpEchoRequest t port src bytes)) ∧
  (∀ t port sender target, TouchesOnly [.clk, .outbox] (.arpRequest t port sender target)) ∧
  (∀ t port version group, TouchesOnly [.clk, .outbox] (.igmpQueryRx t port version group)) ∧
  (∀ t ctl ident ext remote data dur, TouchesOnly [.clk, .evt, .ctrs, .can] (.canFrameRx t ctl ident ext remote data dur)) ∧
  (∀ t ctl, TouchesOnly [.clk, .evt, .ctrs, .can] (.canReasmTimeout t ctl)) ∧
  (∀ t ctl buf dur outcome, TouchesOnly [.clk, .evt, .ctrs, .can, .outbox] (.canTxAttemptEnd t ctl buf dur outcome)) ∧
  (∀ t ctl, TouchesOnly [.clk, .evt, .ctrs, .can] (.canBusoffWaitExpiry t ctl)) ∧
  (∀ t ctl, TouchesOnly [.clk, .evt, .ctrs, .can] (.canRecoveryDone t ctl)) ∧
  (∀ t ctl code data dominant, TouchesOnly [.clk, .evt, .ctrs, .can] (.canRxError t ctl code data dominant))

/-- Each of these commands leaves every part of the state but those listed beside it as it was when it answers a next
state; the queue is never listed. Commands: PROBLEM_SUBMIT, FEED_LIST_MOVE, LANE_TAKE, PROBLEM_RELEASE,
PROBLEM_LATE, LANE_KAT, ARRAY_COMPARATOR_MISMATCH, BALLAST_VALVE_FAULT, BALLAST_PUMP_FAULT, LOG_IDENTIFY,
LOG_PROGRAM_DONE, LOG_REIDENTIFY, LOG_ERASE_DONE, MASON_MARK_SAVE, BANK_HANDOVER, BANK_WAKE, MARCH_SLICE_ABORT,
MARCH_PASS_OVERDUE, ECC_UNCORRECTABLE, MORTAR_WRITE_COLLISION, SCRUBBER_READ. (spec/09_voussoir_solver_array.md,
spec/19_event_recorder.md, spec/20_on_chip_memory.md) -/
def Obligations.FrameSolverMemoryAndRecorder : Prop :=
  (∀ t desc, TouchesOnly [.clk, .evt, .ctrs, .vsl, .cells, .mem] (.problemSubmit t desc)) ∧
  (∀ t, TouchesOnly [.clk, .evt, .ctrs, .vsl, .cells, .mem] (.feedListMove t)) ∧
  (∀ t, TouchesOnly [.clk, .evt, .ctrs, .vsl, .cells, .mem] (.laneTake t)) ∧
  (∀ t fin, TouchesOnly [.clk, .evt, .ctrs, .vsl, .cells, .mem] (.problemRelease t fin)) ∧
  (∀ t fin, TouchesOnly [.clk, .evt, .ctrs, .vsl, .cells, .mem] (.problemLate t fin)) ∧
  (∀ t lane pass, TouchesOnly [.clk, .evt, .ctrs, .vsl] (.laneKat t lane pass)) ∧
  (∀ t, TouchesOnly [.clk, .evt, .ctrs, .vsl, .rdn, .ylk, .outbox] (.arrayComparatorMismatch t)) ∧
  (∀ t valve, TouchesOnly [.clk, .trim] (.ballastValveFault t valve)) ∧
  (∀ t pump, TouchesOnly [.clk, .trim] (.ballastPumpFault t pump)) ∧
  (∀ t dev, TouchesOnly [.clk, .evt, .ctrs, .cfg, .log] (.logIdentify t dev)) ∧
  (∀ t how, TouchesOnly [.clk, .evt, .ctrs, .log] (.logProgramDone t how)) ∧
  (∀ t dev, TouchesOnly [.clk, .evt, .ctrs, .cfg, .log] (.logReidentify t dev)) ∧
  (∀ t how, TouchesOnly [.clk, .evt, .ctrs, .log] (.logEraseDone t how)) ∧
  (∀ t, TouchesOnly [.clk, .mem] (.masonMarkSave t)) ∧
  (∀ t writer bank owner, TouchesOnly [.clk, .evt, .hrg, .img, .gns, .ctrs, .mem] (.bankHandover t writer bank owner)) ∧
  (∀ t bank, TouchesOnly [.clk, .evt, .ctrs, .mem] (.bankWake t bank)) ∧
  (∀ t bank window, TouchesOnly [.clk, .evt, .ctrs, .mem] (.marchSliceAbort t bank window)) ∧
  (∀ t bank, TouchesOnly [.clk, .evt, .ctrs] (.marchPassOverdue t bank)) ∧
  (∀ t site reader, TouchesOnly [.clk, .crs, .evt, .hrg, .pnt, .ctrs, .est, .ctl, .alloc, .csq, .trim, .vsl, .rdn, .can, .ylk, .cells, .mem, .outbox] (.eccUncorrectable t site reader)) ∧
  (∀ t ring start x v0 again, TouchesOnly [.clk, .evt, .hrg, .img, .ctrs, .rdn, .cells, .mem] (.mortarWriteCollision t ring start x v0 again)) ∧
  (∀ t site errors, TouchesOnly [.clk, .evt, .ctrs, .mem] (.scrubberRead t site errors))

/-- Each of these commands leaves every part of the state but those listed beside it as it was when it answers a next
state; the queue is never listed. Commands: CLOCK_RUNNING_AGAIN, CROSSING_TIMEOUT, CROSSING_RESET,
PART_RESET_RELEASE, HOLD_CHARGE_COMPLETE, HOLD_TEST, VBAT_LOW, FEED_QUALIFIED, BOOT_DONE, PWR_BOOT_GO, FW_AUTH_DONE,
SELFTEST_DONE, RESTORE_DONE, LINK_PORT_CHANGE, CABLE_DELAY_MEASURE, TICK_MARKER_RX, BEACON_RX, MASTER_LOSS,
CASE_VERDICTS_RX, SHARED_POINT_BLOCK_RX, SHARED_BLOCK_STALE. (spec/21_clock_domains_and_resets.md,
spec/22_power_and_startup.md, spec/23_cascade.md) -/
def Obligations.FrameClocksPowerAndCascade : Prop :=
  (∀ t domain, TouchesOnly [.clk, .evt, .hrg, .img, .gns, .ctrs, .est, .ctl, .trim, .rdn, .btr, .log, .mem, .glb] (.clockRunningAgain t domain)) ∧
  (∀ t crossing item access, TouchesOnly [.clk, .crs, .evt, .hrg, .pnt, .ctrs, .est, .ctl, .alloc, .csq, .trim, .rdn, .can, .ylk, .glb, .outbox] (.crossingTimeout t crossing item access)) ∧
  (∀ t crossing discarded, TouchesOnly [.clk, .evt, .ctrs, .rdn, .glb] (.crossingReset t crossing discarded)) ∧
  (∀ straps, TouchesOnly [.sec, .pwr] (.partResetRelease straps)) ∧
  (∀ t volt step rise, TouchesOnly [.clk, .evt, .ctrs, .pwr] (.holdChargeComplete t volt step rise)) ∧
  (∀ t fall, TouchesOnly [.clk, .evt, .ctrs, .pwr] (.holdTest t fall)) ∧
  (∀ t mv counterOnVbat, TouchesOnly [.clk, .evt, .ctrs, .pwr] (.vbatLow t mv counterOnVbat)) ∧
  (∀ vina vinb rtc, TouchesOnly [.clk, .evt, .ctrs, .tim, .rdn, .pwr] (.feedQualified vina vinb rtc)) ∧
  (∀ t failed banks, TouchesOnly [.clk, .evt, .ctrs, .cells, .mem, .pwr] (.bootDone t failed banks)) ∧
  (∀ w, TouchesOnly [.evt, .ctrs, .pwr] (.pwrBootGo w)) ∧
  (∀ t img, TouchesOnly [.clk, .evt, .hrg, .img, .ctrs, .mem, .glb, .sec, .pwr] (.fwAuthDone t img)) ∧
  (∀ t failed lanes, TouchesOnly [.clk, .evt, .ctrs, .vsl, .pwr] (.selftestDone t failed lanes)) ∧
  (∀ t, TouchesOnly [.clk, .evt, .gns, .ctrs, .tim, .log, .mem, .pwr] (.restoreDone t)) ∧
  (∀ t port up, TouchesOnly [.clk, .evt, .ctrs, .ylk] (.linkPortChange t port up)) ∧
  (∀ t port trip, TouchesOnly [.clk, .ylk] (.cableDelayMeasure t port trip)) ∧
  (∀ t port hops course good, TouchesOnly [.clk, .evt, .ctrs, .ylk, .outbox] (.tickMarkerRx t port hops course good)) ∧
  (∀ t hd bytes casc pair, TouchesOnly [.clk, .crs, .evt, .ctrs, .tim, .ylk, .outbox] (.beaconRx t hd bytes casc pair)) ∧
  (∀ t ranks, TouchesOnly [.clk, .evt, .ctrs, .ylk] (.masterLoss t ranks)) ∧
  (∀ t hd bytes, TouchesOnly [.clk, .evt, .ctrs, .ylk, .outbox] (.caseVerdictsRx t hd bytes)) ∧
  (∀ t hd bytes, TouchesOnly [.clk, .evt, .hrg, .pnt, .ctrs, .ylk, .outbox] (.sharedPointBlockRx t hd bytes)) ∧
  (∀ t imp period, TouchesOnly [.clk, .evt, .hrg, .pnt, .ctrs, .ylk, .outbox] (.sharedBlockStale t imp period))

/-- Each of these commands leaves every part of the state but those listed beside it as it was when it answers a next
state; the queue is never listed. Commands: OTP_READ_IDENTITY, OTP_READ_KEY, OTP_WRITE_IDENTITY, OTP_WRITE_KEY,
OTP_REVOKE_KEY, OTP_REVOKE_FW_KEY, OTP_BIND_SEAL, OTP_RAISE_VERSION, OTP_OPERATION_DONE, LOCK_ALL, LOCK_SET,
LOG_FORMAT, CRS_TBL_INDEX_WRITE, SNI_ENTRY_WRITE, GNS_NOTCH_SEL_WRITE, VSL_LANE_SEL_WRITE, PNT_SEL_WRITE,
TIM_LATCH_WRITE, TIM_CAP_SEL_WRITE, MEM_BANK_SEL_WRITE, GLB_XSEL_WRITE, CAN_SINGLE_CLEAR, COUNTER_CLEAR, PEAK_CLEAR.
(spec/24_configuration_security.md, spec/25_register_map.md) -/
def Obligations.FrameSecurityAndRegisterWrites : Prop :=
  (∀ slot key, TouchesOnly [.evt, .ctrs, .sec] (.otpReadIdentity slot key)) ∧
  (∀ slot key, TouchesOnly [.evt, .ctrs, .sec] (.otpReadKey slot key)) ∧
  (∀ slot key, TouchesOnly [.evt, .ctrs, .sec] (.otpWriteIdentity slot key)) ∧
  (∀ slot key, TouchesOnly [.evt, .ctrs, .sec] (.otpWriteKey slot key)) ∧
  (∀ slot key, TouchesOnly [.evt, .ctrs, .sec] (.otpRevokeKey slot key)) ∧
  (∀ slot key, TouchesOnly [.evt, .ctrs, .sec] (.otpRevokeFwKey slot key)) ∧
  (∀ slot key, TouchesOnly [.evt, .ctrs, .sec] (.otpBindSeal slot key)) ∧
  (∀ slot key, TouchesOnly [.evt, .ctrs, .sec] (.otpRaiseVersion slot key)) ∧
  (∀ t good, TouchesOnly [.clk, .evt, .ctrs, .sec] (.otpOperationDone t good)) ∧
  (∀ w, TouchesOnly [.evt, .ctrs, .locks] (.lockAll w)) ∧
  (∀ lock w, TouchesOnly [.evt, .ctrs, .locks] (.lockSet lock w)) ∧
  (∀ t w, TouchesOnly [.clk, .evt, .ctrs, .log] (.logFormat t w)) ∧
  (∀ w, TouchesOnly [.crs, .evt, .ctrs] (.crsTblIndexWrite w)) ∧
  (∀ w, TouchesOnly [.evt, .ctrs, .sni] (.sniEntryWrite w)) ∧
  (∀ w, TouchesOnly [.evt, .gns, .ctrs] (.gnsNotchSelWrite w)) ∧
  (∀ w, TouchesOnly [.evt, .ctrs, .vsl] (.vslLaneSelWrite w)) ∧
  (∀ w, TouchesOnly [.evt, .pnt, .ctrs] (.pntSelWrite w)) ∧
  (∀ t w, TouchesOnly [.clk, .evt, .ctrs, .tim] (.timLatchWrite t w)) ∧
  (∀ w, TouchesOnly [.evt, .ctrs, .tim] (.timCapSelWrite w)) ∧
  (∀ w, TouchesOnly [.evt, .ctrs, .mem] (.memBankSelWrite w)) ∧
  (∀ w, TouchesOnly [.evt, .ctrs, .glb] (.glbXselWrite w)) ∧
  (∀ t ctl w, TouchesOnly [.clk, .evt, .ctrs, .can] (.canSingleClear t ctl w)) ∧
  (∀ t offset w, TouchesOnly [.clk, .evt, .ctrs, .sni, .vsl] (.counterClear t offset w)) ∧
  (∀ t offset w, TouchesOnly [.clk, .evt, .ctrs, .sni, .vsl] (.peakClear t offset w))

/-- Every command that makes a course tick (COURSE_TICK, FRAME_TICK, SUBSTITUTE_TICK, IMAGE_ACTIVATION_TICK,
MEMBER_TICK_APPLY, LINK_JOIN) leaves the locks, both memories and what is known of them, the crossings, the security
state and the queue as they were. (spec/02_courses_and_frames.md R31, spec/02_courses_and_frames.md R38,
spec/23_cascade.md R523) -/
def Obligations.FrameTicks : Prop :=
  let ps : List Part := [.clk, .tick, .crs, .evt, .hrg, .img, .gns, .pnt, .ctrs, .cfg, .sni, .est, .ctl, .alloc, .csq, .trim, .vsl,
    .tim, .rdn, .btr, .can, .ylk, .log, .pwr, .outbox]
  TouchesOnly ps .courseTick ∧ TouchesOnly ps .frameTick ∧ TouchesOnly ps .substituteTick ∧
  TouchesOnly ps .imageActivationTick ∧ TouchesOnly ps .memberTickApply ∧ ∀ t, TouchesOnly ps (.linkJoin t)

/-- While frames run, in its window and after the items before it, ALIGN, VOTE, LAW, DISPATCH, CASE_DISPATCH and RELEASE
(from slot 30 of course 1 on; in STANDBY, or with a usable result of the frame), and ESTIMATE once the main filter
is there and its covariance step was released, answer a next state in which the item has finished in time: its
result belongs to the present frame, is not stale, is marked input-stale exactly where an input was held, and the
item is done for the frame. ALIGN also hands its records over. (spec/02_courses_and_frames.md R43,
spec/02_courses_and_frames.md R46, spec/02_courses_and_frames.md R47, spec/02_courses_and_frames.md R49,
spec/04_sensor_intake.md R98, spec/06_position_estimation.md R150, spec/06_position_estimation.md R155,
spec/07_control_modes.md R181, spec/08_thrust_allocation.md R211, spec/08_thrust_allocation.md R221,
spec/10_consequence_analysis.md R269, spec/08_thrust_allocation.md R209) -/
def Obligations.ControlItemsFinish : Prop :=
  ∀ (t : Nat) (s : State), s.runs = true →
    ((s.instant t).itemRuns 1 = true → Answers (.align t) s fun u => FinishedItem 1 s u ∧ u.est.consumed = false) ∧
    (∀ ends, (s.instant t).itemRuns 2 = true → s.est.fresh = true →
      (((s.instant t).withEst { s.est with carry := [], consumed := true }).estimateRun ends (s.instant t).takeRecords).2 = true →
      Answers (.estimate t ends) s fun u => FinishedItem 2 s u) ∧
    ((s.instant t).itemRuns 3 = true → Answers (.vote t) s fun u => FinishedItem 3 s u) ∧
    ((s.instant t).itemRuns 4 = true → Answers (.law t) s fun u => FinishedItem 4 s u) ∧
    ((s.instant t).itemRuns 5 = true → Answers (.dispatch t) s fun u => FinishedItem 5 s u) ∧
    ((s.instant t).itemRuns 6 = true → Answers (.caseDispatch t) s fun u => FinishedItem 6 s u) ∧
    ((s.instant t).itemRuns 7 = true → 1000000 + slotStart 30 ≤ (s.instant t).framePlace → s.ctl.mode = 0 → Answers (.release t) s fun u => FinishedItem 7 s u) ∧
    (∀ (tm : List Byte) (r : ArrayResult), (s.instant t).itemRuns 7 = true → 1000000 + slotStart 30 ≤ (s.instant t).framePlace →
      s.ctl.mode ≠ 0 → imgTemplate s.image 0 = some tm →
      s.nominalResult = some r → r.status % 16 ≤ 1 → Answers (.release t) s fun u => FinishedItem 7 s u)

/-- While frames run, in its window and after the items before it, CONFIRM, POST_POINTS once every record it takes is
written, POST_LOG, CASE_COLLECT, ENV_COLLECT, CONSEQ_REPORT, GNSS_NAV, and TRIM where a run is due, at or after its
slot 40 and unless its problem has no usable result, answer a next state in which the item has finished in time: its
result belongs to the present frame, is not stale, is marked input-stale exactly where an input was held, and the
item is done for the frame. CONFIRM of an acting buttress ends the streak of missed confirms and counts a good one.
POST_POINTS writes the records it has left from the front. TRIM before its slot 40 poses its problem, and where its
row says how the problem ends, it waits for it. (spec/02_courses_and_frames.md R43, spec/02_courses_and_frames.md
R46, spec/02_courses_and_frames.md R49, spec/14_safety_island.md R359, spec/14_safety_island.md R360,
spec/15_point_image_and_networks.md R372, spec/10_consequence_analysis.md R271, spec/10_consequence_analysis.md
R275, spec/10_consequence_analysis.md R278, spec/05_gnss_baseband.md R115, spec/11_trim_and_heel.md R291) -/
def Obligations.AnalysisItemsFinish : Prop :=
  ∀ (t : Nat) (s : State), s.runs = true →
    ((s.instant t).itemRuns 0x0A = true → s.btr.acts = true → Answers (.confirm t) s fun u => FinishedItem 0x0A s u ∧
      u.btr.missStreak = 0 ∧ u.btr.goodConfirms = min 250 (s.btr.goodConfirms + 1) ∧
      u.btr.missLatched = (s.btr.missLatched && decide (s.btr.goodConfirms + 1 < 250))) ∧
    (∀ n, (s.instant t).itemRuns 0x0B = true →
      (if s.pnt.sysFrame = some s.crs.frame then s.pnt.sysLeft.length else (s.instant t).sysRecords.length) ≤ n →
      Answers (.postPoints ⟨t, n⟩) s fun u => FinishedItem 0x0B s u) ∧
    (∀ n, (s.instant t).itemRuns 0x0B = true → s.pnt.sysFrame = some s.crs.frame →
      Answers (.postPoints ⟨t, n⟩) s fun u => u.pnt.sysLeft = s.pnt.sysLeft.drop n) ∧
    ((s.instant t).itemRuns 0x0C = true → Answers (.postLog t) s fun u => FinishedItem 0x0C s u) ∧
    ((s.instant t).itemRuns 0x10 = true → Answers (.caseCollect t) s fun u => FinishedItem 0x10 s u) ∧
    ((s.instant t).itemRuns 0x11 = true → Answers (.envCollect t) s fun u => FinishedItem 0x11 s u) ∧
    ((s.instant t).itemRuns 0x12 = true → Answers (.conseqReport t) s fun u => FinishedItem 0x12 s u) ∧
    ((s.instant t).itemRuns 0x13 = true → s.trimDue = true →
      (s.instant t).itemStart 0x13 + 800000 ≤ (s.instant t).framePlace →
      ((s.instant t).trimPose.trim.state = 2 → (s.instant t).trimPose.noteTrim.trimVolumes ≠ none) →
      ∀ fin, Answers (.trim t fin) s fun u => FinishedItem 0x13 s u) ∧
    ((s.instant t).itemRuns 0x13 = true → s.trimDue = true →
      (s.instant t).framePlace < (s.instant t).itemStart 0x13 + 800000 →
      exec (.trim t none) s = .next (s.instant t).trimPose ∧
      ∀ fin, exec (.trim t fin) s = .next ((s.instant t).trimPose.trimAwait fin)) ∧
    (∀ nav iono obs sols hd, (s.instant t).itemRuns 0x18 = true →
      Answers (.gnssNav t nav iono obs sols hd) s fun u => FinishedItem 0x18 s u)

/-- While frames run, with or without a course table, HOST, NET, SUPERVISE, RECORDER and MARCH, in a slot of their own
run in the course or, once missed, in a slot that no item is assigned, answer a next state in which the item has
finished in time. After SUPERVISE no crossing is stalled whose two clocks run, and the plinth watchdog has been fed;
MARCH that no lock or retry holds back has the window of its slice locked for 640 ns. (spec/02_courses_and_frames.md
R43, spec/02_courses_and_frames.md R46, spec/17_host_rings.md R419, spec/15_point_image_and_networks.md R383,
spec/21_clock_domains_and_resets.md R489, spec/21_clock_domains_and_resets.md R490, spec/19_event_recorder.md R455,
spec/20_on_chip_memory.md R477, spec/20_on_chip_memory.md R478) -/
def Obligations.ServiceItemsFinish : Prop :=
  ∀ (t : Nat) (s : State), s.runs = true →
    (∀ fetches, (s.instant t).serviceOpen 0x20 = true → Answers (.host t fetches) s fun u => FinishedItem 0x20 s u) ∧
    (∀ full, (s.instant t).serviceOpen 0x21 = true → Answers (.net t full) s fun u => FinishedItem 0x21 s u) ∧
    ((s.instant t).serviceOpen 0x28 = true → Answers (.supervise t) s fun u => FinishedItem 0x28 s u ∧
      u.glb.fedAt = (s.instant t).clk.now ∧ ∀ c < 32, vget u.glb.xState c 0 = 2 → u.crossingClocks c = false) ∧
    ((s.instant t).serviceOpen 0x29 = true → Answers (.recorder t) s fun u => FinishedItem 0x29 s u) ∧
    (∀ failed, (s.instant t).serviceOpen 0x2A = true → Answers (.march t failed) s fun u => FinishedItem 0x2A s u ∧
      (s.mem.retryAfter ≤ (s.instant t).clk.now → (s.instant t).sliceNow = none →
        u.mem.locked = some s.mem.slice ∧ u.mem.sliceEnd = (s.instant t).clk.now + 640))

/-- While frames run, in its window and after the items before it: DIGEST in pair mode forms the frame digest and the
local-miss flag and sends the pair message; its result belongs to the frame, is not stale and the item is done.
PAIR_COMPARE once its place is reached compares with the partner's message of the frame, and without one the part is
not PAIRED afterwards. KEYSTONE finishes likewise, and where the claim latch then stands it has handed over one
frame of this frame number with the next sequence number and the entries of RELEASE. (spec/02_courses_and_frames.md
R46, spec/13_redundancy_and_claims.md R336, spec/13_redundancy_and_claims.md R337, spec/01_architecture.md R21,
spec/01_architecture.md R22, spec/01_architecture.md R24, spec/13_redundancy_and_claims.md R325) -/
def Obligations.PairItemsFinish : Prop :=
  ∀ (t : Nat) (s : State), s.runs = true →
    (s.pairMode = true → (s.instant t).itemRuns 8 = true → Answers (.digest t) s fun u =>
      u = (s.instant t).digestItem.itemDone 8 ∧ u.rdn.digest = crc64 (s.instant t).evalClaim.digestBytes ∧
      u.rdn.localMiss = (s.instant t).evalClaim.localMissNow ∧
      (u.item 8).origin = s.crs.frame ∧ (u.item 8).stale = false ∧ 8 ∈ u.crs.doneItems) ∧
    ((s.instant t).comparesNow = true → Answers (.pairCompare t) s fun u =>
      u = (s.instant t).pairCompare ∧ u.rdn.compFrame = some s.crs.frame ∧ u.crs.frame = s.crs.frame ∧
      u.crs.course = s.crs.course ∧ (s.rdn.msg = none → u.rdn.pstate ≠ 3)) ∧
    (∀ full, (s.instant t).itemRuns 9 = true → Answers (.keystone t full) s fun u =>
      u = ((s.instant t).keystone full).itemDone 9 ∧
      (u.item 9).origin = s.crs.frame ∧ (u.item 9).stale = false ∧ 9 ∈ u.crs.doneItems ∧
      (u.rdn.claimLatch = true → ∃ k : KsFrame, u.rdn.tap = some k ∧ k.frame = s.crs.frame ∧ k.seq = s.nextSeq ∧
        k.entries = s.alloc.entries ∧ u.rdn.seq = k.seq ∧ u.rdn.sent = true ∧ u.rdn.own = k.claim))

/-- While frames run, COURSE_TICK of a part that is neither MEMBER nor ORPHAN, FRAME_TICK and IMAGE_ACTIVATION_TICK of
such a part where a frame is due, and SUBSTITUTE_TICK of an ORPHAN or of a MEMBER without a tick from its master
answer a next state in which course, frame and course count have moved on by one course (the first tick opens frame
0 with course 0), the tick stands at the place of the own time engine, and TICK_SRC is 0, or 2 for a substitute. A
tick that activates the staged image leaves no pending activation of that frame. (spec/02_courses_and_frames.md R31,
spec/02_courses_and_frames.md R33, spec/02_courses_and_frames.md R34, spec/02_courses_and_frames.md R35,
spec/02_courses_and_frames.md R38, spec/02_courses_and_frames.md R584, spec/03_vessel_model_image.md R70) -/
def Obligations.CourseTicksMoveTheGridOn : Prop :=
  ∀ s : State, s.runs = true →
    (s.ylk.state ≠ 2 → s.ylk.state ≠ 4 →
      (Answers .courseTick s fun u => MovedOn s u ∧ u.clk.tickAt = s.ownTick ∧ u.crs.tickSrc = 0) ∧
      (s.frameDue = true → Answers .frameTick s fun u =>
        MovedOn s u ∧ u.crs.course = 0 ∧ u.clk.tickAt = s.ownTick ∧ u.crs.tickSrc = 0) ∧
      (∀ n, s.frameDue = true → s.img.slot = .pending n → (n = if s.crs.started then s.crs.frame + 1 else 0) →
        Answers .imageActivationTick s fun u => MovedOn s u ∧ u.crs.frame = n ∧ u.img.slot ≠ .pending n)) ∧
    (s.ylk.state = 4 ∨ (s.ylk.state = 2 ∧ s.memberTick = none) → Answers .substituteTick s fun u =>
      MovedOn s u ∧ u.clk.tickAt = s.ownTick ∧ u.crs.tickSrc = 2)

/-- While frames run: MEMBER_TICK_APPLY with a tick of the master at place m moves the grid on by one course with
TICK_SRC 1, the tick standing at m held to within 100 ns of 1 ms after the last; TICK_PHASE_SLEW_END at offset 0
clears SLEWING, makes an anchor due and raises event source 5; LINK_JOIN of a LISTEN or ORPHAN part names the first
condition that fails in REFUSED with event source 90, joins in phase as MEMBER keeping its frame with CRS_PHASE
equal to minus the offset, or opens the frame after the one of the beacon. (spec/02_courses_and_frames.md R33,
spec/02_courses_and_frames.md R34, spec/02_courses_and_frames.md R39, spec/23_cascade.md R523, spec/23_cascade.md
R526) -/
def Obligations.TicksFollowTheMaster : Prop :=
  ∀ s : State, s.runs = true →
    (∀ m, s.ylk.state = 2 → s.memberTick = some m → Answers .memberTickApply s fun u =>
      MovedOn s u ∧ u.crs.tickSrc = 1 ∧ u.clk.tickAt = max (s.clk.tickAt + 999900) (min (s.clk.tickAt + 1000100) m)) ∧
    (s.crs.slewing = true → s.crs.phase = 0 → exec .tickPhaseSlewEnd s = .next
      (((s.withCrs { s.crs with slewing := false }).withTim { s.tim with anchorDue := true }).raise 5 .notice 1 0 noIndex [])) ∧
    ∀ (t : Nat) (b : LinkBeacon), s.ylk.bcn = some b → s.ylk.state = 1 ∨ s.ylk.state = 4 →
      ((s.instant t).joinCause b ≠ 0 → exec (.linkJoin t) s = .next
        (((s.instant t).withYlk { s.ylk with refused := (s.instant t).joinCause b }).raise 90 .notice 0
          ((s.instant t).joinCause b) noIndex [])) ∧
      ((s.instant t).joinCause b = 0 → Answers (.linkJoin t) s fun u => u.crs.tickSrc = 1 ∧
        (∀ d, (s.instant t).inPhase b = some d → u.ylk.master = b.src ∧ u.ylk.state = 2 ∧ u.crs.frame = s.crs.frame ∧ u.crs.phase = -d) ∧
        ((s.instant t).inPhase b = none → 0 < s.frameCourses → u.crs.frame = b.frame + 1 ∧ u.crs.course = 0))

/-- While frames run, DEADLINE_MISS of an item of the control or analysis class whose deadline has come, that has
neither finished nor been stopped in the frame and whose predecessors are done (TRIM where a run is due, RELEASE
outside STANDBY) answers a next state in which CRS_LAST_MISS names the item and the frame, the item is done for the
frame, its held result is marked stale, and the streak of a control item has risen by one up to 3, where GAVE_UP is
set. RELEASE in STANDBY has no deadline to miss: it finishes. A service item is recorded and counts as missed in the
course. (spec/02_courses_and_frames.md R46, spec/02_courses_and_frames.md R47, spec/02_courses_and_frames.md R50,
spec/02_courses_and_frames.md R51, spec/02_courses_and_frames.md R56, spec/08_thrust_allocation.md R221) -/
def Obligations.MissedItemIsHeldStale : Prop :=
  ∀ (t code : Nat) (s : State), s.runs = true → (s.instant t).canMiss code = true →
    (code ∈ [1, 2, 3, 4, 5, 6, 7, 8, 9, 0x10, 0x11, 0x12, 0x13, 0x18] → (code = 0x13 → s.trimDue = true) →
      (code = 7 → s.ctl.mode ≠ 0) → Answers (.deadlineMiss t code) s fun u =>
        u.crs.lastItem = code ∧ u.crs.lastFrame = s.crs.frame.setWidth 16 ∧ code ∈ u.crs.doneItems ∧ (u.item code).stale = true ∧
        ∀ i, streakOf code = some i → vget u.crs.streak i 0 = min 3 (vget s.crs.streak i 0 + 1) ∧
          (vget u.crs.streak i 0 = 3 → u.crs.gaveUp = true)) ∧
    (code = 7 → s.ctl.mode = 0 → Answers (.deadlineMiss t code) s fun u => FinishedItem 7 s u) ∧
    (code ∈ [0x0B, 0x0C, 0x20, 0x21, 0x28, 0x29, 0x2A] → Answers (.deadlineMiss t code) s fun u =>
      u.crs.lastItem = code ∧ u.crs.lastFrame = s.crs.frame.setWidth 16 ∧ code ∈ u.crs.missed ∧ u.crs.items = s.crs.items)

/-- While frames run: REF_SILENT after the first ESTIMATE makes a reference that is enabled and whose quoin entry is
silent SILENT; REF_READMISSION_COMPLETE makes a WARMING reference outside bootstrap whose in-gate count has reached
READMIT ADMITTED; BOOTSTRAP_ADMISSION makes a candidate whose count has reached INIT_PERIOD ADMITTED;
CLASS_COAST_TIMEOUT after DR_TIME marks a coasting class lost and returns it to bootstrap.
(spec/06_position_estimation.md R158, spec/06_position_estimation.md R159, spec/06_position_estimation.md R160,
spec/06_position_estimation.md R166, spec/06_position_estimation.md R169) -/
def Obligations.ReferenceRowsChangeStates : Prop :=
  ∀ (t : Nat) (s : State), s.runs = true →
    (∀ ref d, ref < 16 → s.refDesc ref = some d → s.est.fresh = true → s.refSilent d = true →
      (s.refSt ref).state ≠ 0 → (s.refSt ref).state ≠ 4 →
      Answers (.refSilent t ref) s fun u => (u.refSt ref).state = 4 ∧ (u.refSt ref).cause = 3) ∧
    (∀ ref d, ref < 16 → s.refDesc ref = some d → (s.refSt ref).state = 1 → s.bootstraps (rfClass d) = false →
      u16 d 0x14 ≤ (s.refSt ref).readmit → Answers (.refReadmissionComplete t ref) s fun u =>
        (u.refSt ref).state = 2 ∧ (u.refSt ref).since = s.crs.frame) ∧
    (∀ ref d w, ref < 16 → s.refDesc ref = some d → s.bootstraps (rfClass d) = true → w ∈ s.candidates (rfClass d) → w.ref = ref →
      u16 (s.sect 2) 0x4C ≤ (s.refSt ref).readmit →
      Answers (.bootstrapAdmission t ref) s fun u => (u.refSt ref).state = 2) ∧
    (∀ cls, cls < 2 → (s.cls cls).coasting = true → (s.cls cls).lost = false →
      1000000000 * u16 (s.sect 2) 0x4E ≤ (s.instant t).clk.now - (s.cls cls).coastAt →
      Answers (.classCoastTimeout t cls) s fun u => (u.cls cls).lost = true ∧ (u.cls cls).boot = true)

/-- While frames run: JOYSTICK_LOST in mode 1 or 2 with a lost point sets JOY_LOST with an alarm of event source 35, and
one already known in the mode changes nothing (the first check after an entry gives its event again);
GAIN_AUTO_EVALUATION and CURRENT_REPORT under a course table make the evaluation and the report of the first frame
of a second, and once a second only; AVAIL_POINT_STALE before the power points of the frame are read turns a bus
whose point is bad or stale to its fallback, its available power the lesser of the last good value and the fallback
value, less the reserve, with event source 39; READINESS_REGAINED of a part that has given up and whose resume has
counted its frames, once it is ready to claim, clears streaks and GAVE_UP and sets the claim latch. Outside reset
FEED_OUT_OF_RANGE and FEED_RESTORED record the voltage and drop or restore the health term of the feed, a change
with event source 85. (spec/07_control_modes.md R184, spec/07_control_modes.md R187, spec/07_control_modes.md R195,
spec/08_thrust_allocation.md R215, spec/13_redundancy_and_claims.md R323, spec/13_redundancy_and_claims.md R324,
spec/02_courses_and_frames.md R52, spec/13_redundancy_and_claims.md R322) -/
def Obligations.ControlRowsAct : Prop :=
  ∀ (t : Nat) (s : State),
    (s.runs = true → s.ctl.mode = 1 ∨ s.ctl.mode = 2 → (s.instant t).joyGone = true → exec (.joystickLost t) s = .next
      (if s.ctl.joyLost = true ∧ s.ctl.joyEntry = false then s.instant t
       else ((s.instant t).withCtl { s.ctl with joyLost := true, joyEntry := false }).raise 35 .alarm 0 0 noIndex [])) ∧
    (s.runs = true → s.tableRuns = true → exec (.gainAutoEvaluation t) s = .next
      (if (s.instant t).frameSecond = s.ctl.second then s.instant t
       else ((s.instant t).withCtl { s.ctl with second := (s.instant t).frameSecond }).gainSecond)) ∧
    (s.runs = true → s.tableRuns = true → ∀ r, r = (s.instant t).currentReport (s.instant t).estView →
      exec (.currentReport t) s = .next (if (s.instant t).frameSecond = s.ctl.curSecond then s.instant t
        else (s.instant t).withCtl { s.ctl with curSecond := (s.instant t).frameSecond, curSpd := r.1, curDir := r.2 })) ∧
    (∀ bus r, s.runs = true → s.busRecs.find? (fun r => u8 r 0 == bus) = some r → (s.busSt bus).fallback = false →
      s.alloc.powerAt ≠ some s.crs.frame →
      ((s.viewPoint (u32 r 4)).good = false ∨ (s.instant t).pointStale (s.viewPoint (u32 r 4)) (s.pow16 0x14) = true) →
      ∀ v : Int, v = (match (s.busSt bus).good with | some g => min g (u32 r 0x10 : Int) | none => u32 r 0x10) - u32 r 0x0C →
      exec (.availPointStale t bus) s = .next (((s.instant t).withAlloc { s.alloc with
        buses := vset s.alloc.buses bus { s.busSt bus with fallback := true, avail := v } }).raise 39 .notice 0 2 bus [])) ∧
    (∀ n b, s.runs = true → s.rdn.resume = some n → s.readyFrames ≤ n → s.crs.gaveUp = true → s.rdn.claimLatch = false →
      b = (s.instant t).withRdn { s.rdn with resumed := true } → b.readyToClaim = true →
      exec (.readinessRegained t) s = .next ((b.withRdn { s.rdn with
        claimLatch := true, relgen := false, resume := none, resumed := false, wasReady := true }).withCrs
          { s.crs with streak := Vector.replicate 8 0, gaveUp := false })) ∧
    (∀ mv, s.pwr.inReset = false → (mv < 2700 ∨ 5500 < mv) →
      (∀ b, b = ((s.instant t).withPwr { s.pwr with vina := mv }).withRdn { s.rdn with feedA := false } →
        exec (.feedOutOfRange t 0 mv) s = .next (if s.rdn.feedA then b.raise 85 .notice 0 0 0 [] else b)) ∧
      (∀ b, b = ((s.instant t).withPwr { s.pwr with vinb := mv }).withRdn { s.rdn with feedB := false } →
        exec (.feedOutOfRange t 1 mv) s = .next (if s.rdn.feedB then b.raise 85 .notice 0 0 1 [] else b))) ∧
    (∀ mv, s.pwr.inReset = false → 2700 ≤ mv → mv ≤ 5500 →
      (∀ b, b = ((s.instant t).withPwr { s.pwr with vina := mv }).withRdn { s.rdn with feedA := true } →
        exec (.feedRestored t 0 mv) s = .next (if s.rdn.feedA then b else b.raise 85 .notice 1 0 0 [])) ∧
      (∀ b, b = ((s.instant t).withPwr { s.pwr with vinb := mv }).withRdn { s.rdn with feedB := true } →
        exec (.feedRestored t 1 mv) s = .next (if s.rdn.feedB then b else b.raise 85 .notice 1 0 1 [])))

/-- While frames run in pair mode, of another unit: a pair message that the link takes is kept as the message of the
frame after what it says of the partner, and a STANDBY that is PAIRED takes the commands of the ACTIVE's message of
its frame; a heartbeat on network A or B is kept with the path it came on; an urgent yield gives the partner's claim
and marks the yield; a removal mask is kept with its frame; the bytes of a piece of the state image that a joiner
waits for are counted. (spec/13_redundancy_and_claims.md R335, spec/13_redundancy_and_claims.md R336,
spec/13_redundancy_and_claims.md R338, spec/13_redundancy_and_claims.md R340, spec/14_safety_island.md R358,
spec/23_cascade.md R520, spec/23_cascade.md R521) -/
def Obligations.PairRowsAct : Prop :=
  ∀ (t : Nat) (hd : LinkHdr) (bytes : List Byte) (s : State), s.runs = true → s.pairMode = true →
    let m := pairMsgOf bytes
    (∀ a b, s.Hears hd 2 bytes → m.typ = 1 → m.unit ≠ s.rdn.unitId → a = ((s.instant t).linkTake hd 2 bytes bytes id).notePartner m →
      b = a.withRdn { a.rdn with msg := some m } → exec (.pairMessageRx t hd bytes) s = .next
        (if b.rdn.pstate = 3 ∧ b.rdn.role ≠ 2 ∧ claimRole m.claim = 2 ∧ m.frame = s.crs.frame
          then m.cmds.foldl (fun u d => u.pairCommand d) b else b)) ∧
    (∀ port a, port ≠ .m → s.portUp port = true → m.typ = 1 → 0x50 ≤ bytes.length → m.unit ≠ s.rdn.unitId →
      a = (s.instant t).notePartner m → exec (.heartbeatRx t port bytes) s = .next (a.withRdn { a.rdn with
        hb := some m, hbPaths := a.rdn.hbPaths ||| (if port = .a then 1 else 2) })) ∧
    (s.Hears hd 1 bytes → m.typ = 2 → m.unit ≠ s.rdn.unitId → exec (.urgentYieldRx t hd bytes) s = .next
      (((s.instant t).linkTake hd 1 bytes bytes id).withRdn { s.rdn with
        partner := m.claim, pRole := claimRole m.claim, yieldIn := true })) ∧
    (s.Hears hd 3 bytes → exec (.removalMaskRx t hd bytes) s = .next
      (((s.instant t).linkTake hd 3 bytes bytes id).withRdn { s.rdn with
        pMask := some (hd.frame, BitVec.ofNat 16 (u16 bytes 0)) })) ∧
    (s.Hears hd 0x0C bytes → s.rdn.syncFrame.isSome = true → s.rdn.syncSource = false →
      exec (.stateImagePieceRx t hd bytes) s = .next (((s.instant t).linkTake hd 0x0C bytes bytes id).withRdn
        { s.rdn with pieces := s.rdn.pieces + (bytes.length - 4) }))

/-- While frames run: RESYNC_START of a part that joins gives up its role, becomes SYNCING and sets the frame of the
state image, and a source becomes SYNCING and records the frame of its partner; RESYNC_INSTALL installs the image of
a joiner in the frame it is of; RESYNC_TIMEOUT after SYNC_LIMIT frames counts RDN_SYNC_FAIL, raises event source 80
and leaves the part ALONE; RESYNC_RETRY 60 s after a failure starts again; EXCHANGE_PROPOSAL_DUE of an ACTIVE whose
period has passed, or that was asked to, asks for the exchange where the conditions hold and otherwise tries again
after 60 s. (spec/13_redundancy_and_claims.md R340, spec/13_redundancy_and_claims.md R341) -/
def Obligations.ResynchronisationRows : Prop :=
  ∀ (t : Nat) (s : State), s.runs = true →
    (∀ a, s.joins = true → s.rdn.syncRetry = none → a = ((s.instant t).setRole 0 .notice).setPair 2 →
      exec (.resyncStart t true) s = .next (a.withRdn { a.rdn with
        syncFrame := some (if s.rdn.evalFrame = some s.crs.frame then s.crs.frame + 1 else s.crs.frame)
        syncSource := false, pieces := 0, installed := false, syncRetry := none })) ∧
    (∀ m a, s.rdn.msg = some m → s.pairMode = true → s.rdn.syncFrame = none → tbit m.flags 6 = true → s.imageAgrees = true →
      a = (s.instant t).setPair 2 → exec (.resyncStart t false) s = .next (a.withRdn { a.rdn with
        syncFrame := some m.frame, syncSource := true })) ∧
    (∀ img i, s.rdn.syncFrame = some i → s.rdn.pstate = 2 → s.rdn.syncSource = false → s.rdn.installed = false →
      0 < s.rdn.pieces → img.frame = s.crs.frame → newer (i + 2) s.crs.frame = false →
      exec (.resyncInstall t img) s = .next ((s.instant t).install img)) ∧
    (∀ i, s.rdn.syncFrame = some i → s.rdn.pstate = 2 → (s.syncLimit : Int) ≤ wdiff s.crs.frame i →
      exec (.resyncTimeout t) s = .next ((s.instant t).syncFail.setPair 1) ∧
      ((s.instant t).syncFail.setPair 1).rdn.syncFrame = none ∧ ((s.instant t).syncFail.setPair 1).rdn.pstate = 1) ∧
    (∀ at_ a, s.rdn.syncRetry = some at_ → at_ ≤ (s.instant t).clk.now → s.joins = true →
      a = (((s.instant t).withRdn { s.rdn with syncRetry := none }).setRole 0 .notice).setPair 2 →
      exec (.resyncRetry t) s = .next (a.withRdn { a.rdn with
        syncFrame := some (if s.rdn.evalFrame = some s.crs.frame then s.crs.frame + 1 else s.crs.frame)
        syncSource := false, pieces := 0, installed := false, syncRetry := none })) ∧
    (s.pairMode = true → s.rdn.role = 2 → (∀ r, s.rdn.exchRetry = some r → r ≤ (s.instant t).clk.now) →
      ((s.instant t).exchDue = true ∨ s.rdn.exchCmd ≠ []) → s.rdn.exchFrame = none → s.rdn.exchAsk = false →
      (s.exchAllowed = true → exec (.exchangeProposalDue t) s = .next
        ((s.instant t).withRdn { s.rdn with exchAsk := true, exchRetry := none })) ∧
      (s.exchAllowed = false → Answers (.exchangeProposalDue t) s fun u => u.rdn.exchAsk = false ∧
        u.rdn.exchRetry = some ((s.instant t).clk.now + 60000000000)))

/-- IMAGE_QUERY, GNSS_QUERY, REF_STATUS of a reference of the image, EST_QUERY, CTRL_QUERY, ALLOC_QUERY, CONSEQ_QUERY,
ENVELOPE_QUERY and TRIM_QUERY, accepted and with a working transfer, write the record the rule names to ADDR and
complete with OK and the number of bytes written. CONSEQ_QUERY adds the entries of the cases where asked, and with
the clear option it clears the held counts; REF_STATUS with its clear option clears the counters of the reference,
and is refused with reason 1 for a reference the image does not have. A transfer that fails completes the query with
its error and the bytes moved, counted in HRG_WRITE_ERR with event source 114. (spec/17_host_rings.md R420,
spec/17_host_rings.md R423, spec/17_host_rings.md R425, spec/05_gnss_baseband.md R129,
spec/06_position_estimation.md R170, spec/06_position_estimation.md R171, spec/07_control_modes.md R200,
spec/08_thrust_allocation.md R227, spec/10_consequence_analysis.md R281, spec/10_consequence_analysis.md R282,
spec/11_trim_and_heel.md R298) -/
def Obligations.QueriesAnswerFromTheRecords : Prop :=
  ∀ (t : Nat) (h : CmdHdr) (s : State),
    (∀ n, h.dma = some n → ∀ p ∈ [(Instr.imageQuery t h, HostCmd.imageQuery), (.gnssQuery t h, .gnssQuery), (.estQuery t h, .estQuery),
      (.ctrlQuery t h, .ctrlQuery), (.allocQuery t h, .allocQuery), (.envelopeQuery t h, .envelopeQuery), (.trimQuery t h, .trimQuery)],
      s.Accepts h p.2 → exec p.1 s = .next ((((s.accepted t h p.2).count .writeErr).raise 114 .notice 0 0 h.ring []).complete
        h.ring s.hrg.nextRef 4 (word n))) ∧ (h.dma = none →
    (∀ out, s.Accepts h .imageQuery →
      out = lebytes 4 (u32 s.image 0x0C) ++ [byte (if s.hasImage then s.img.activeClass else 0), byte s.img.slot.code, byte (match s.img.slot with
          | .refused r => r
          | _ => 0), 0] ++ padTo 48 s.activeDigest ++
        lebytes 4 (if s.img.slot = .verified ∨ s.img.slot.code = 4 then u32 s.img.staged 0x0C else 0) ++
        wbytes (match s.img.slot with
          | .pending n => n
          | _ => 0) →
      exec (.imageQuery t h) s = .next (((s.accepted t h .imageQuery).emit (.hostWrite h.addr out)).done (s.taken t h .imageQuery) 64)) ∧
    (∀ out, s.Accepts h .gnssQuery →
      out = padTo 64 (wbytes (s.gns.epoch.getD 0) ++ (match s.gns.sol with
        | some x => wbytes x.lat ++ wbytes x.lon ++ wbytes x.height ++ ibytes 4 (satI 32 x.clock) ++
            [byte s.gns.fix, byte x.sats] ++ lebytes 2 (min 0xFFFF x.pdop) ++ [byte s.gns.solAnt, byte x.raim]
        | none => List.replicate 16 0 ++ [0, 0, 0, 0, byte s.gns.solAnt, 2])) →
      exec (.gnssQuery t h) s = .next (((s.accepted t h .gnssQuery).emit (.hostWrite h.addr out)).done (s.taken t h .gnssQuery) 64)) ∧
    (∀ ref, s.Accepts h (.refStatus ref) → ((s.refDesc ref).isSome = false → exec (.refStatus t h ref) s = .next
        ((s.accepted t h (.refStatus ref)).refuse (s.taken t h (.refStatus ref)) 1)) ∧
      ((s.refDesc ref).isSome = true → exec (.refStatus t h ref) s = .next ((((if h.opts.getLsbD 0
        then (s.accepted t h (.refStatus ref)).putRef ref { s.refSt ref with
          fails := Occ.zero, lateApplied := Occ.zero, lateDropped := Occ.zero, rowsDropped := Occ.zero }
        else s.accepted t h (.refStatus ref)).emit (.hostWrite h.addr (s.refStatus ref))).done
          (s.taken t h (.refStatus ref)) (s.refStatus ref).length)))) ∧
    (s.Accepts h .estQuery → exec (.estQuery t h) s = .next (((s.accepted t h .estQuery).emit
      (.hostWrite h.addr (padTo 64 s.est.record))).done (s.taken t h .estQuery) 64)) ∧
    (s.Accepts h .ctrlQuery → exec (.ctrlQuery t h) s = .next (((s.accepted t h .ctrlQuery).emit
      (.hostWrite h.addr (padTo 64 s.ctl.record))).done (s.taken t h .ctrlQuery) 64)) ∧
    (s.Accepts h .allocQuery → exec (.allocQuery t h) s = .next (((s.accepted t h .allocQuery).emit
      (.hostWrite h.addr (padTo 64 s.alloc.record ++ s.alloc.entries.flatten))).done (s.taken t h .allocQuery)
      (64 + s.alloc.entries.flatten.length))) ∧
    (∀ out u, s.Accepts h .conseqQuery → out = padTo 64 s.csq.record ++
        (if h.opts.getLsbD 1 then (s.activeCases.map s.caseEntry).flatten else []) →
      u = ((s.accepted t h .conseqQuery).emit (.hostWrite h.addr out)).done (s.taken t h .conseqQuery) out.length →
      exec (.conseqQuery t h) s = .next (if h.opts.getLsbD 0 then u.withCsq { s.csq with
        cases := s.csq.cases.map (fun (x : CaseSt) => { x with held := Occ.zero }) } else u)) ∧
    (s.Accepts h .envelopeQuery → exec (.envelopeQuery t h) s = .next (((s.accepted t h .envelopeQuery).emit
      (.hostWrite h.addr s.envBytes)).done (s.taken t h .envelopeQuery) s.envBytes.length)) ∧
    (s.Accepts h .trimQuery → exec (.trimQuery t h) s = .next (((s.accepted t h .trimQuery).emit
      (.hostWrite h.addr (padTo 64 s.trim.record))).done (s.taken t h .trimQuery) 64)))

/-- Accepted, NOP completes with OK; IMAGE_LOAD outside LOADING and PENDING starts loading and is refused BUSY in them;
IMAGE_ACTIVATE that passes its checks makes the slot PENDING for its frame, or for the earliest when 0, and is
otherwise refused with the reason; IMAGE_DISCARD outside LOADING and PENDING empties the slot and completes, and
waits for the load to stop in LOADING; ANALOG_TEST on a channel that feeds no admitted reference switches its input
in STANDBY, to complete after the settling of a channel of the quoin, and is refused on one that does;
GNSS_CORRECTION delivers its frames and completes with their number; GNSS_SNAPSHOT with none in progress wakes its
banks and is requested, and is refused otherwise; TIME_LEAP sets the leap-second count; ROLE_EXCHANGE that is
allowed asks for the exchange; BTR_RESET and BTR_OUTPUT wait for the next buttress course. (spec/17_host_rings.md
R423, spec/03_vessel_model_image.md R67, spec/03_vessel_model_image.md R69, spec/04_sensor_intake.md R95,
spec/05_gnss_baseband.md R122, spec/05_gnss_baseband.md R129, spec/12_time_base.md R311,
spec/13_redundancy_and_claims.md R341, spec/14_safety_island.md R353) -/
def Obligations.ImageAndReceiverCommands : Prop :=
  ∀ (t : Nat) (h : CmdHdr) (s : State),
    (s.Accepts h .nop → exec (.nop t h) s = .next ((s.accepted t h .nop).done (s.taken t h .nop) 0)) ∧
    (s.Accepts h .imageLoad → s.img.slot ≠ .loading → (∀ n, s.img.slot ≠ .pending n) → exec (.imageLoad t h) s = .next
      ((s.accepted t h .imageLoad).withImg { s.img with slot := .loading, staged := [], load := some (s.taken t h .imageLoad) })) ∧
    (∀ n, s.Accepts h (.imageActivate n) → s.activateCheck n ≠ 0 → exec (.imageActivate t h n) s = .next
      ((s.accepted t h (.imageActivate n)).refuse (s.taken t h (.imageActivate n)) (s.activateCheck n))) ∧
    (∀ n, s.Accepts h (.imageActivate n) → s.activateCheck n = 0 → exec (.imageActivate t h n) s = .next
      ((s.accepted t h (.imageActivate n)).withImg { s.img with
        slot := .pending (if n = 0 then earliestFrame s.crs.frame else n), activate := some (s.taken t h (.imageActivate n)) })) ∧
    (s.Accepts h .imageDiscard → s.img.slot ≠ .loading → (∀ n, s.img.slot ≠ .pending n) → exec (.imageDiscard t h) s = .next
      (((s.accepted t h .imageDiscard).withImg { s.img with slot := .empty, staged := [] }).done (s.taken t h .imageDiscard) 0)) ∧
    (∀ n, (s.img.slot = .loading ∨ s.img.slot = .pending n) → s.Accepts h .imageLoad → exec (.imageLoad t h) s = .next
      ((s.accepted t h .imageLoad).refuse (s.taken t h .imageLoad) 0x0A)) ∧
    (s.img.slot = .loading → s.Accepts h .imageDiscard → exec (.imageDiscard t h) s = .next
      ((s.accepted t h .imageDiscard).withImg { s.img with discard := s.img.discard ++ [s.taken t h .imageDiscard] })) ∧
    (∀ c i a, s.Accepts h (.analogTest c i) → a = (s.accepted t h (.analogTest c i)).anaSwitch c i →
      (s.channelAdmitted c = true → exec (.analogTest t h c i) s = .next
        ((s.accepted t h (.analogTest c i)).refuse (s.taken t h (.analogTest c i)) 1)) ∧
      (s.channelAdmitted c = false → s.ctl.mode = 0 → exec (.analogTest t h c i) s = .next
        (if (s.quoinAt 2 c).isNone then a.done (s.taken t h (.analogTest c i)) 0
         else a.setAna c { a.anaCh c with tests := (a.anaCh c).tests ++ [s.taken t h (.analogTest c i)] }))) ∧
    (∀ d, s.Accepts h (.gnssCorrection d) → h.dma = none → exec (.gnssCorrection t h d) s = .next
      ((s.accepted t h (.gnssCorrection d)).takeCorrection (s.taken t h (.gnssCorrection d)) (padTo h.len d))) ∧
    (∀ secs ns dur st tap a, a = s.accepted t h (.gnssSnapshot secs ns dur st tap) → s.Accepts h (.gnssSnapshot secs ns dur st tap) →
      exec (.gnssSnapshot t h secs ns dur st tap) s = .next (if s.gns.snap.state = 0
        then (a.wakeSnapshot.withHrg { a.hrg with nextXfer := s.hrg.nextXfer + 1, xfers := s.hrg.xfers ++
          [{ kind := 1, tag := h.tag, xfer := s.hrg.nextXfer, rest := [], pos := 0, error := false }] }).withGns { s.gns with
            snap := { GnsSnap.reset with
              state := 1, cmd := some (s.taken t h (.gnssSnapshot secs ns dur st tap)), dur := dur, streams := st, tap := tap
              notBefore := max ((secs : Int) * 1000000000 + ns) ((s.instant t).devTime + 1), xfer := s.hrg.nextXfer } }
        else a.refuse (s.taken t h (.gnssSnapshot secs ns dur st tap)) 1)) ∧
    (∀ n, s.Accepts h (.timeLeap n) → Answers (.timeLeap t h n) s fun u =>
      u = ((s.accepted t h (.timeLeap n)).learnLeap 0 n).done (s.taken t h (.timeLeap n)) 0 ∧
      u.tim.leapCount = n % 256 ∧ u.tim.leapKnown = true ∧ u.tim.leapFrom = 0) ∧
    (s.Accepts h .roleExchange → s.exchAllowed = true → s.rdn.exchFrame = none → s.rdn.exchAsk = false →
      exec (.roleExchange t h) s = .next ((s.accepted t h .roleExchange).withRdn { s.rdn with
        exchCmd := s.rdn.exchCmd ++ [(h.ring, s.hrg.nextRef)], exchAsk := true, exchRetry := none })) ∧
    (∀ i r o, s.Accepts h (.btrReset i r o) → exec (.btrReset t h i r o) s = .next
      ((s.accepted t h (.btrReset i r o)).withBtr { s.btr with cmds := s.btr.cmds ++ [s.taken t h (.btrReset i r o)] })) ∧
    (∀ c on, s.Accepts h (.btrOutput c on) → exec (.btrOutput t h c on) s = .next
      ((s.accepted t h (.btrOutput c on)).withBtr { s.btr with cmds := s.btr.cmds ++ [s.taken t h (.btrOutput c on)] }))

/-- Accepted, POINT_WRITE to a point of a host route block with the right type and no newer value updates the block and
completes, and to a point of none is refused; STREAM_SET replaces the ranges, and completes with the error of a
buffer that could not be read; CAN_SEND on a running controller with a free host buffer commits the frame there and
completes with the buffer; CAN_ABORT of a reserved buffer is refused, of one that is not pending completes, and of a
pending one of a controller that takes no part in the bus ends it; CAN_RECOVER of a bus-off controller begins
recovery, and of another is refused; CAN_MODE of a controller with no keystone or NMEA use sets its mode; LOG_READ
of a running log queues the transfer from its first record and completes with its number, and of another is refused;
MEM_TEST with none in progress begins, but not a destructive one on a bank in use. (spec/17_host_rings.md R423,
spec/15_point_image_and_networks.md R387, spec/16_can_fd.md R398, spec/16_can_fd.md R401, spec/16_can_fd.md R403,
spec/19_event_recorder.md R461, spec/20_on_chip_memory.md R479) -/
def Obligations.PointCanLogAndMemoryCommands : Prop :=
  ∀ (t : Nat) (h : CmdHdr) (s : State),
    (∀ n v q ty r, s.Accepts h (.pointWrite n v q ty) → s.hostRoute n = some r → ty = rtType r →
      (∀ f, (s.point n).full = some f → f ≤ (s.instant t).devTime) → exec (.pointWrite t h n v q ty) s = .next
        (((s.accepted t h (.pointWrite n v q ty)).updateRoute r (s.instant t).devTime
          [{ num := n, value := some v, typ := ty, qual := byte (q % 4) }]).done (s.taken t h (.pointWrite n v q ty)) 0)) ∧
    (∀ n v q ty, s.Accepts h (.pointWrite n v q ty) → s.hostRoute n = none → exec (.pointWrite t h n v q ty) s = .next
      ((s.accepted t h (.pointWrite n v q ty)).refuse (s.taken t h (.pointWrite n v q ty)) 1)) ∧
    (∀ n, h.dma = some n → ∀ st k d, s.Accepts h (.streamSet st k d) → exec (.streamSet t h st k d) s = .next
      ((((s.accepted t h (.streamSet st k d)).count .fetchErr).raise 114 .notice 0 0 h.ring []).complete h.ring s.hrg.nextRef 4 (word n))) ∧
    (∀ st n d, s.Accepts h (.streamSet st n d) → h.dma = none → exec (.streamSet t h st n d) s = .next
      (((s.accepted t h (.streamSet st n d)).setStream st (streamRanges n (padTo h.len d))).done (s.taken t h (.streamSet st n d)) 0)) ∧
    (∀ c f i d b, s.Accepts h (.canSend c f i d) → h.dma = none → (s.canCtl c).off = false → s.canFree c = some b →
      Answers (.canSend t h c f i d) s fun u => ∃ m : CanMsg, m.data = padTo h.len d ∧ m.ext = tbit f 0 ∧ m.fd = tbit f 1 ∧
        u = ((s.accepted t h (.canSend c f i d)).setCan c ((s.canCtl c).commit (s.instant t).clk.now b m true (tbit f 3))).done
          (s.taken t h (.canSend c f i d)) b) ∧
    (∀ c b, s.Accepts h (.canAbort c b) → s.canReserved c b = true → exec (.canAbort t h c b) s = .next
      ((s.accepted t h (.canAbort c b)).refuse (s.taken t h (.canAbort c b)) 1)) ∧
    (∀ c b, s.Accepts h (.canAbort c b) → s.canReserved c b = false →
      (((s.canCtl c).buf b).pending = false → exec (.canAbort t h c b) s = .next
        ((s.accepted t h (.canAbort c b)).done (s.taken t h (.canAbort c b)) 0)) ∧
      (((s.canCtl c).buf b).pending = true → (s.canCtl c).live = false → exec (.canAbort t h c b) s = .next
        ((((s.accepted t h (.canAbort c b)).canEnd c b 1).useFree).done (s.taken t h (.canAbort c b)) 0))) ∧
    (∀ c, s.Accepts h (.canRecover c) → (s.canCtl c).state ≠ 2 → exec (.canRecover t h c) s = .next
      ((s.accepted t h (.canRecover c)).refuse (s.taken t h (.canRecover c)) 1)) ∧
    (∀ c, s.Accepts h (.canRecover c) → (s.canCtl c).state = 2 → exec (.canRecover t h c) s = .next
      (((s.accepted t h (.canRecover c)).canRecover c).done (s.taken t h (.canRecover c)) 0)) ∧
    (∀ c m, s.Accepts h (.canMode c m) → s.canUse c 0 = false → s.canUse c 2 = false → exec (.canMode t h c m) s = .next
      (((s.accepted t h (.canMode c m)).setCan c { s.canCtl c with restricted := m == 1 }).done (s.taken t h (.canMode c m)) 0)) ∧
    (∀ f n, s.Accepts h (.logRead f n) → s.log.state ≠ .running → exec (.logRead t h f n) s = .next
      ((s.accepted t h (.logRead f n)).refuse (s.taken t h (.logRead f n)) 1)) ∧
    (∀ f n a o, s.Accepts h (.logRead f n) → s.log.state = .running → a = s.accepted t h (.logRead f n) →
      o = (if h.opts.getLsbD 0 then s.log.readStart (h.opts.getLsbD 1) else f) →
      exec (.logRead t h f n) s = .next (((a.withLog { s.log with reads := s.log.reads ++ [{
          xfer := s.hrg.nextXfer, tag := h.tag, first := o, next := o, left := n, got := 0, missing := 0
          foundation := h.opts.getLsbD 1 }] }).withHrg { a.hrg with nextXfer := s.hrg.nextXfer + 1, xfers := s.hrg.xfers ++
          [{ kind := 2, tag := h.tag, xfer := s.hrg.nextXfer, rest := [], pos := 0, error := false }] }).done
        (s.taken t h (.logRead f n)) s.hrg.nextXfer.toNat)) ∧
    (∀ g f, s.Accepts h (.memTest g f) →
      (f ≠ 1 ∨ (g < 64 ∧ (s.bank g).owner = 15) → s.mem.test = none → exec (.memTest t h g f) s = .next
        ((s.accepted t h (.memTest g f)).withMem { s.mem with
          test := some { ring := h.ring, ref := s.hrg.nextRef, target := g, form := f, slices := 0 } })) ∧
      (f = 1 → g < 64 → (s.bank g).owner ≠ 15 → exec (.memTest t h g f) s = .next
        ((s.accepted t h (.memTest g f)).refuse (s.taken t h (.memTest g f)) 1)))

/-- Accepted (and with its buffer read), GRID_ORIGIN, REF_ENABLE, REF_TARGET, DP_MODE, SETPOINT, GAIN_SELECT,
TRACK_LOAD, BERTH_SET, THRUSTER_ENABLE, TRIM_START, TRIM_SET and TRIM_STOP go to the end of the commands that wait
for the next frame tick, or in pair state PAIRED to the end of the batch for the next pair message;
TIME_STEP_ACCEPT, TIME_SET and CLAIM_RESUME wait for the next frame tick in every pair state. The waiting command is
due in the frame after the one of its acceptance. (spec/01_architecture.md R23, spec/13_redundancy_and_claims.md
R335, spec/17_host_rings.md R419, spec/17_host_rings.md R420) -/
def Obligations.TickCommandsWaitForTheirTick : Prop :=
  ∀ (t : Nat) (h : CmdHdr) (s : State),
    let waits : Instr → HostCmd → Prop := fun i c => s.Accepts h c →
      exec i s = .next ((s.accepted t h c).withHrg { (s.accepted t h c).hrg with waiting := s.hrg.waiting ++ [s.taken t h c] }) ∧
      (s.taken t h c).due = s.crs.frame + 1
    let batched : Instr → HostCmd → Prop := fun i c => s.Accepts h c →
      exec i s = .next ((s.accepted t h c).withRdn { s.rdn with batch := s.rdn.batch ++ [s.taken t h c] })
    let goes : Instr → HostCmd → Prop := fun i c =>
      (s.rdn.pstate ≠ 3 → waits i c) ∧ (s.rdn.pstate = 3 → batched i c)
    (∀ a b c, goes (.gridOrigin t h a b c) (.gridOrigin a b c)) ∧ (∀ r on, goes (.refEnable t h r on) (.refEnable r on)) ∧
    (∀ r c n e, goes (.refTarget t h r c n e) (.refTarget r c n e)) ∧ (∀ m j, goes (.dpMode t h m j) (.dpMode m j)) ∧
    (∀ f d n e p, goes (.setpoint t h f d n e p) (.setpoint f d n e p)) ∧ (∀ g, goes (.gainSelect t h g) (.gainSelect g)) ∧
    (∀ d, h.dma = none → goes (.trackLoad t h d) (.trackLoad d)) ∧
    (∀ n e p d, goes (.berthSet t h n e p d) (.berthSet n e p d)) ∧
    (∀ c on, goes (.thrusterEnable t h c on) (.thrusterEnable c on)) ∧ (∀ a b, goes (.trimStart t h a b) (.trimStart a b)) ∧
    (∀ a b, goes (.trimSet t h a b) (.trimSet a b)) ∧ goes (.trimStop t h) .trimStop ∧
    (∀ q, waits (.timeStepAccept t h q) (.timeStepAccept q)) ∧ (∀ a b c, waits (.timeSet t h a b c) (.timeSet a b c)) ∧
    waits (.claimResume t h) .claimResume

/-- The tick of a frame applies the commands that are due in it one after another in their order. Then: GRID_ORIGIN in
STANDBY sets the origin, and is refused with reason 1 in another mode; REF_ENABLE enables or disables a reference of
the image; REF_TARGET sets a given position of a reference that needs one; DP_MODE enters a mode whose conditions
hold, is refused with the reason of the first that fails, and sets the joystick compensation it names; SETPOINT
outside its modes is refused with reason 7, and an absolute position in AUTO_POSITION is taken up to STEP and
refused with reason 8 beyond it; GAIN_SELECT 0xFF chooses automatically, and a set of the mode is taken into use;
TRACK_LOAD of good waypoints replaces the track outside TRACK; BERTH_SET sets the berth outside AUTO_BERTH;
THRUSTER_ENABLE changes exactly the named units; TRIM_START, TRIM_SET with good targets and TRIM_STOP wait for the
next TRIM; TIME_STEP_ACCEPT of the pending step selects its source, and is refused without one or with another
number; TIME_SET with no source in use sets the time and enters holdover, and is refused with one; CLAIM_RESUME
after a give-up starts the count of frames. Each that is done completes with OK. (spec/01_architecture.md R23,
spec/06_position_estimation.md R148, spec/06_position_estimation.md R172, spec/07_control_modes.md R175,
spec/07_control_modes.md R179, spec/07_control_modes.md R188, spec/07_control_modes.md R192,
spec/07_control_modes.md R195, spec/08_thrust_allocation.md R211, spec/11_trim_and_heel.md R297,
spec/12_time_base.md R308, spec/13_redundancy_and_claims.md R324) -/
def Obligations.WaitingCommandsTakeEffect : Prop :=
  ∀ (w : Waiting) (s : State),
    (∀ ws, s.hrg.waiting = w :: ws → (∀ x ∈ w :: ws, newer x.due s.crs.frame = false) → s.applyWaiting =
      ws.foldl (fun u x => u.takeEffect x) ((s.withHrg { s.hrg with waiting := [] }).takeEffect w)) ∧
    (∀ a b c, w.cmd = .gridOrigin a b c → s.takeEffect w =
      if s.ctl.mode = 0 then (s.setOrigin (a, b, c)).done w 0 else s.refuse w 1) ∧
    (∀ r on, w.cmd = .refEnable r on → s.refDesc r = none → s.takeEffect w = s.refuse w 1) ∧
    (∀ r on d, w.cmd = .refEnable r on → s.refDesc r = some d → s.takeEffect w =
      (if on % 2 = 0 then (if (s.refSt r).state = 0 then s else s.setRef r 0 4)
        else if (s.refSt r).state = 0 then s.setRef r (s.enabledState d) 4 else s).done w 0) ∧
    (∀ r c d n e, w.cmd = .refTarget r c n e → s.refDesc r = some d → (rfNeeds d = false → s.takeEffect w = s.refuse w 2) ∧
      (rfNeeds d = true → c % 2 = 0 → s.takeEffect w = (s.setTarget r (n.toInt, e.toInt)).done w 0)) ∧
    (∀ m j u, w.cmd = .dpMode m j → (m = s.ctl.mode ∧ u = s) ∨ (m ≠ s.ctl.mode ∧ s.entryReason m = 0 ∧ u = s.changeMode m 0) →
      s.takeEffect w = (if j = 1 ∨ j = 2 then u.withCtl { u.ctl with joyComp := decide (j = 1) } else u).done w 0) ∧
    (∀ m j, w.cmd = .dpMode m j → m ≠ s.ctl.mode → s.entryReason m ≠ 0 → s.takeEffect w = s.refuse w (s.entryReason m)) ∧
    (∀ f d n e p, w.cmd = .setpoint f d n e p → ((tbit f 0 = true ∧ s.ctl.mode ≠ 3) ∨
        (tbit f 1 = true ∧ s.ctl.mode ≠ 2 ∧ s.ctl.mode ≠ 3)) → s.takeEffect w = s.refuse w 7) ∧
    (∀ f d n e p q, w.cmd = .setpoint f d n e p → tbit f 0 = true → tbit f 1 = false → tbit f 2 = false → s.ctl.mode = 3 →
      s.ctl.cameFrom = none → s.ctl.spWait = [] → q = [milliF n.toInt, milliF e.toInt] → s.takeEffect w =
        if flt (milliF (s.lim32 0x10)) (vnorm (vsub q s.ctl.refPos)) = true then s.refuse w 8
        else (s.withCtl ({ s.ctl with sp := [n.toInt, e.toInt, s.ctl.sp.getD 2 0] }.drawTo q)).done w 0) ∧
    (w.cmd = .gainSelect 0xFF → s.takeEffect w = (s.withCtl { s.ctl with gainFixed := false, gainHold := 0 }).done w 0) ∧
    (∀ k, k ≠ 0xFF → w.cmd = .gainSelect k → (s.gainSetOf k = none → s.takeEffect w = s.refuse w 10) ∧
      ∀ g, s.gainSetOf k = some g → s.takeEffect w = if tbit (u8 g 1) s.ctl.mode
        then ((s.withCtl { s.ctl with gainFixed := true }).useGains k g).done w 0 else s.refuse w 10) ∧
    (∀ d, w.cmd = .trackLoad d → (s.ctl.mode = 4 → s.takeEffect w = s.refuse w 7) ∧
      (s.ctl.mode ≠ 4 → ∀ l, l = (List.range (d.length / 16)).map (recAt d 16) →
        (∀ b ∈ l, u8 b 10 ≤ 2 ∧ u8 b 11 = 0 ∧ u16 b 8 ≤ s.trackSpeedMax) →
        s.takeEffect w = (s.withCtl { s.ctl with track := l.map waypointOf }).done w 0)) ∧
    (∀ n e p b, w.cmd = .berthSet n e p b → s.takeEffect w =
      if s.ctl.mode = 5 then s.refuse w 7 else (s.withCtl { s.ctl with berth := some (n.toInt, e.toInt, p, b) }).done w 0) ∧
    (∀ c on, w.cmd = .thrusterEnable c on → ∃ d : Half, s.takeEffect w = (s.withAlloc { s.alloc with disabled := d }).done w 0 ∧
      ∀ u, u < 16 → d.getLsbD u = if c.getLsbD u then !on.getLsbD u else s.alloc.disabled.getLsbD u) ∧
    (∀ a b, (w.cmd = .trimStart a b ∨ w.cmd = .trimSet a b) → (s.ballast.isEmpty = true → s.takeEffect w = s.refuse w 1) ∧
      (s.ballast.isEmpty = false → s.takeEffect w = if targetGood a 500 = true ∧ targetGood b 200 = true
        then s.withTrim { s.trim with waiting := s.trim.waiting ++ [w] } else s.refuse w 2)) ∧
    (w.cmd = .trimStop → s.takeEffect w =
      if s.ballast.isEmpty then s.done w 0 else s.withTrim { s.trim with waiting := s.trim.waiting ++ [w] }) ∧
    (∀ q, w.cmd = .timeStepAccept q → (s.tim.pending = false → s.takeEffect w = s.refuse w 1) ∧
      (s.tim.pending = true → q ≠ s.tim.stepSeq → s.takeEffect w = s.refuse w 2) ∧
      (s.tim.pending = true → q = s.tim.stepSeq → (s.takeEffect w).tim.src = s.tim.pendSrc ∧
        (s.takeEffect w).tim.state = 1 ∧ (s.takeEffect w).tim.pending = false)) ∧
    (∀ a b c, w.cmd = .timeSet a b c → (s.tim.src ≠ 0 → s.takeEffect w = s.refuse w 1) ∧
      (s.tim.src = 0 → (s.takeEffect w).tim.state = 2 ∧ (s.takeEffect w).tim.hostSet = true ∧ (s.takeEffect w).tim.unc = some c)) ∧
    (w.cmd = .claimResume → s.takeEffect w =
      (if s.crs.gaveUp = true ∧ s.rdn.resume = none then s.withRdn { s.rdn with resume := some 0 } else s).done w 0)

/-- In an answering host interface with no stalled crossing on the way: a doorbell write that R416 does not reject sets
the host position of its ring (the bulk ring also frees the area passed, and another ring that the part writes takes
the entries it holds as far as there is room) and nothing else, and a rejected one leaves the ring, is counted in
HRG_DBL_ERR and raises event source 113; an enable of a disabled ring with LOG2SIZE 4 to 12 and a base other than 0
makes it running, goes on with what it held and lets the halted command rings that complete to it go on, an enable
with another configuration is refused with event source 113, and a cleared EN stops it; a written ring that is reset
answers positions 0 and a cleared EN with event source 112; the end of the reset of a command ring with nothing
outstanding leaves it disabled with both positions 0. (spec/17_host_rings.md R413, spec/17_host_rings.md R416,
spec/17_host_rings.md R428, spec/17_host_rings.md R431, spec/17_host_rings.md R434) -/
def Obligations.DoorbellAndRingRows : Prop :=
  ∀ (t ring : Nat) (w : Word) (s : State), s.hostServes = true → ring < 22 →
    ((s.instant t).answers (doorbellOffset ring) = true → (s.instant t).accessStalled (doorbellOffset ring) = false →
      ∀ a n, n = (w.extractLsb' 0 13).toNat → a = (s.instant t).setRing ring { s.ring ring with hostPos := n } →
      ((s.ring ring).rejects (decide (ring < 8)) n = false → exec (.doorbellWrite t ring w) s = .next (if ring = 21
        then a.withHrg { a.hrg with bulkUsed := s.hrg.bulkUsed.drop (s.hrg.bulkUsed.length - (a.ring 21).ahead (s.ring 21).partPos n) }
        else if 8 ≤ ring ∧ (s.ring ring).retry = false then a.flushHeld ring else a)) ∧
      ((s.ring ring).rejects (decide (ring < 8)) n = true → exec (.doorbellWrite t ring w) s =
        .next (((s.instant t).count .dblErr).raise 113 .notice 0 0 ring []))) ∧
    ((s.instant t).answers 0x2010 = true → (s.instant t).accessStalled 0x2010 = false → s.hrg.sel = ring →
      (w.getLsbD 1 = false → w.getLsbD 0 = true → (s.ring ring).en = false →
        (4 ≤ bits (s.ring ring).rcfg.toNat 0 4 ∧ bits (s.ring ring).rcfg.toNat 0 4 ≤ 12 ∧
          ((s.ring ring).baseLo ≠ 0 ∨ (s.ring ring).baseHi ≠ 0) → (s.ring ring).state = .disabled → exec (.ringEnable t w) s = .next
            ((((s.instant t).setRing ring { s.ring ring with en := true, state := .running }).flushHeld ring).releaseBound ring)) ∧
        (bits (s.ring ring).rcfg.toNat 0 4 < 4 ∨ 12 < bits (s.ring ring).rcfg.toNat 0 4 ∨
          ((s.ring ring).baseLo = 0 ∧ (s.ring ring).baseHi = 0) → exec (.ringEnable t w) s = .next
            (((s.instant t).setRing ring { s.ring ring with en := false }).raise 113 .notice 0 0 ring []))) ∧
      (w.getLsbD 1 = false → w.getLsbD 0 = false → exec (.ringEnable t w) s = .next ((s.instant t).setRing ring
        { s.ring ring with en := false, phaseWait := none, state := if (s.ring ring).state = .running then .disabled else (s.ring ring).state })) ∧
      (w.getLsbD 1 = true → exec (.ringReset t w) s = .next (((if ring < 8 then (s.instant t).resetCommandRing ring
        else (s.instant t).resetWrittenRing ring)).raise 112 .notice 1 0 ring []))) ∧
    (ring < 8 → (s.ring ring).state = .resetting → (s.ring ring).outst = [] → exec (.ringResetDone t ring) s =
      .next ((s.instant t).setRing ring { s.ring ring with state := .disabled, partPos := 0, hostPos := 0 }))

/-- A failed host memory access is counted in HRG_FETCH_ERR or HRG_WRITE_ERR, raises event source 114 and waits for its
one retry; a retry that succeeds ends the wait, that of an entry letting the entries held behind it follow, and one
that fails completes the descriptor with FETCH_ERROR, ends the command whose buffer or output it was, or halts the
ring of an entry. A descriptor that the part may fetch and whose phase has not matched for 1 ms completes with
FETCH_ERROR in its own position. A completion whose command has ended and whose ring has room is written to its
completion ring as R421 lays it out, bytes 0x04 to 0x3F first and the word with the phase after them. At the end of
MOD one more message is sent, for the event ring with the vector of the class. A bulk piece with room and free bytes
is written with its entry. (spec/17_host_rings.md R414, spec/17_host_rings.md R419, spec/17_host_rings.md R421,
spec/17_host_rings.md R427, spec/17_host_rings.md R428, spec/17_host_rings.md R429, spec/17_host_rings.md R430) -/
def Obligations.HostAccessRows : Prop :=
  ∀ (t ring : Nat) (s : State), s.hostServes = true →
    (∀ k, exec (.hostAccessFailure t k) s = .next
      ((((s.instant t).count (accessCtr k).1).raise 114 .notice 0 0 (accessCtr k).2 []).awaitRetry k)) ∧
    (∀ k n, k ∈ s.hrg.accessRetry → exec (.hostAccessRetry t k true n) s = .next (match k with
      | .entry r => ((s.instant t).retried k).flushHeld r
      | _ => (s.instant t).retried k)) ∧
    (∀ k n, k ∈ s.hrg.accessRetry → exec (.hostAccessRetry t k false n) s = .next (match k with
      | .fetch r => ((s.instant t).retried k).fetchLost r
      | .bufRead r => ((s.instant t).retried k).bufferLost r n
      | .outWrite r => ((s.instant t).retried k).dmaLost true r n
      | .entry r => ((s.instant t).retried k).haltWritten r)) ∧
    (∀ a, s.runs = true → s.canFetch ring = true → (s.ring ring).phaseWait = some a → a + 1000000 ≤ (s.instant t).clk.now →
      exec (.descriptorPhaseTimeout t ring) s = .next (((s.instant t).raise 113 .notice 0 0 ring []).fetchLost ring)) ∧
    (∀ o c, ring < 8 → s.cplReady ring = some (o, c) → Answers (.completionPost t ring) s fun u =>
      ∀ q n body, q = s.ring (s.cplRing ring) → n = q.partPos % q.size → body = cplBody ring o c (s.instant t).stamp →
        (u.outbox.drop s.outbox.length).take 2 = [.ringEntry (s.cplRing ring) n 4 (body.drop 3),
          .ringEntry (s.cplRing ring) n 0 (byte (if q.partPos / q.size = 0 then 1 else 0) :: body.take 3)]) ∧
    (ring < 22 → ring ≠ 16 → (s.ring ring).msgDue = true →
      ((s.ring ring).lastMsg.getD 0) + 1000 * bits (s.ring ring).rcfg.toNat 13 10 ≤ (s.instant t).clk.now →
      exec (.msixModerationExpiry t ring) s = .next (((s.instant t).setRing ring { s.ring ring with
        lastMsg := some (s.instant t).clk.now, msgDue := false }).msix (bits (s.ring ring).rcfg.toNat 8 5))) ∧
    (∀ c l, s.evt.msgDue = some c → s.evt.lastMsg = some l → l + 1000 * s.effField .evtCfg 15 10 ≤ (s.instant t).clk.now →
      exec (.msixModerationExpiry t 16) s = .next (((s.instant t).withEvt { s.evt with
        msgDue := none, lastMsg := some (s.instant t).clk.now }).msix (s.effField .evtCfg (match c with
          | .alarm => 0
          | .warning => 5
          | .notice => 10) 5))) ∧
    (∀ how x rest n o, s.log.reads = [] → s.hrg.xfers = x :: rest → x.error = false → 0 < x.rest.length → s.ringRoom 21 = true →
      n = min 65536 x.rest.length → o = s.bulkPlace n → s.bulkFree o n = true → Answers (.bulkPieceWrite ⟨t, how⟩) s fun u =>
        (u.outbox.drop s.outbox.length).head? = some (.hostWrite (BitVec.ofNat 64 ((s.hrg.bulkLo.toNat + 4294967296 * s.hrg.bulkHi.toNat) + o)) (x.rest.take n)) ∧
        u.hrg.xfers = (if x.rest.length = n then rest else { x with rest := x.rest.drop n, pos := x.pos + n } :: rest) ∧
        u.hrg.bulkOff = o + n ∧ u.hrg.bulkUsed = s.hrg.bulkUsed ++ [(o, n)])

/-- While frames run, on a UART of the quoin: a start character takes device time as the stamp of its sentence; a
framing error ends the sentence in progress as an error; CR LF ends it, a sentence that fails its checks is counted
as an error of its entry and one that passes is taken with the stamp of its start. A datagram of a subscribed group
on a live network port with another header is rejected and counted with event source 99, and every line of a good
one, its tags apart, goes the way of its sentence with one arrival stamp. (spec/04_sensor_intake.md R83,
spec/04_sensor_intake.md R84, spec/04_sensor_intake.md R86, spec/15_point_image_and_networks.md R386) -/
def Obligations.SerialAndNetworkSentences : Prop :=
  ∀ (t : Nat) (s : State), s.runs = true →
    (∀ uart q, s.quoinAt 0 uart = some q →
      exec (.sentenceStartStamp t uart) s = .next ((s.instant t).withSni
        { s.sni with uarts := vset s.sni.uarts uart (some (s.instant t).devTime) }) ∧
      ∀ x ended, vget s.sni.uarts uart none = some x →
        ended = (s.instant t).withSni { s.sni with uarts := vset s.sni.uarts uart none } →
        exec (.uartFramingError t uart) s = .next (ended.sniError (qnEntry q)) ∧
        (∀ b, checkSentence (qnSet q 4 1 == 1) b = .bad →
          exec (.sentenceReceived t uart b) s = .next (ended.sniError (qnEntry q))) ∧
        (∀ b a fs, checkSentence (qnSet q 4 1 == 1) b = .ok a fs →
          exec (.sentenceReceived t uart b) s = .next (ended.uartSentence uart q a fs x))) ∧
    (∀ p g b, p ≠ .m → s.portLive p = true → 1 ≤ g → g ≤ 32 → tbit (u32 (s.sect 0x0E) 0x20) (g - 1) = true →
      (b.take 6 ≠ ascii "UdPbC" ++ [0#8] → exec (.networkSentenceRx t p g b) s =
        .next (((s.instant t).count .netRxErr).raise 99 .notice 0 0 (portNum p) [])) ∧
      (b.take 6 = ascii "UdPbC" ++ [0#8] → exec (.networkSentenceRx t p g b) s =
        .next ((textLines (b.drop 6)).foldl (fun u l => if (dropTags 4 l).isEmpty then u
          else u.busSentence 1 4 0xFF 1 (s.instant t).devTime (dropTags 4 l)) (s.instant t))))

/-- While frames run, on a port of the quoin: in SYNC timing a pulse due at a multiple of the sample period drives
IMUn_SYNC high and low and stamps an edge, in DRDY timing the edge of the IMU is stamped; a frame is read with its
query, and one whose check fails is counted as an error and one that passes is taken with the stamp of its edge; a
missing edge after 1.5 periods counts one missing sample. An analog step starts the settling run of its channel.
ANALOG_OUTPUT clamps its code, full scale on an overrange, marks it unsettled while the run counts down, raises
event source 20 on the first overrange, stores the record with its engineering value, updates the point of its route
and completes the tests that waited for it. An entry not heard for more than SILENCE courses, found in the course of
ALIGN, becomes silent with event source 16. (spec/04_sensor_intake.md R88, spec/04_sensor_intake.md R89,
spec/04_sensor_intake.md R90, spec/04_sensor_intake.md R91, spec/04_sensor_intake.md R92, spec/04_sensor_intake.md
R94, spec/04_sensor_intake.md R95, spec/04_sensor_intake.md R101) -/
def Obligations.ImuAndAnalogRows : Prop :=
  ∀ (t : Nat) (s : State), s.runs = true →
    (∀ port q v, s.quoinAt 1 port = some q → v = vmod s.sni.imus port (fun x => { x with
        edge := some (s.instant t).devTime, lastEdge := some (s.instant t).clk.now }) →
      (qnSet q 2 1 = 0 → (s.instant t).devTime % (imuPeriod (qnSet q 0 2) : Int) = 0 → exec (.imuSyncPulse t port) s = .next
        ((((s.instant t).emit (.pin (ballSync port) true)).withSni { s.sni with imus := v }).emit (.pin (ballSync port) false))) ∧
      (qnSet q 2 1 = 1 → exec (.imuDrdyEdge t port) s = .next ((s.instant t).withSni { s.sni with imus := v })) ∧
      (∀ e b a, (vget s.sni.imus port ImuPort.reset).edge = some e → a = (s.instant t).emit (.spi port imuQuery) →
        (u8 (padTo 32 b) 0 = 0xA5 ∧ ube (padTo 32 b) 0x1E 2 = (crc16 ((padTo 32 b).take 0x1E)).toNat →
          exec (.imuFrameRead t port b) s = .next (a.imuAccept port q (padTo 32 b) e)) ∧
        (¬ (u8 (padTo 32 b) 0 = 0xA5 ∧ ube (padTo 32 b) 0x1E 2 = (crc16 ((padTo 32 b).take 0x1E)).toNat) →
          exec (.imuFrameRead t port b) s = .next ((a.withSni { s.sni with
            imus := vset s.sni.imus port { vget s.sni.imus port ImuPort.reset with edge := none } }).sniError (qnEntry q)))) ∧
      (∀ l w, w = imuPeriod (qnSet q 0 2) * 3 / 2 → qnSet q 2 1 = 1 → (vget s.sni.imus port ImuPort.reset).lastEdge = some l →
        l + w ≤ (s.instant t).clk.now → exec (.imuDrdyTimeout t port) s = .next (((s.instant t).withSni { s.sni with
          imus := vmod s.sni.imus port (fun x => { x with lastEdge := some (l + w) }) }).sniGap (qnEntry q) 1))) ∧
    (∀ c q, s.quoinAt 2 c = some q →
      exec (.analogStepDetected t c) s = .next ((s.instant t).setAna c { s.anaCh c with run := anaSettle (qnSet q 0 3) }) ∧
      (∀ (code k p stamp : Int) (ovr uns test : Bool) (a b : State),
        k = (if ovr then (if code < 0 then -8388607 else 8388607) else max (-8388607) (min 8388607 code)) →
        p = anaPeriod (qnSet q 3 3) → stamp = (s.instant t).devTime / p * p - groupDelay q - qnLatency q →
        uns = decide (0 < (s.anaCh c).run) → test = ((s.anaCh c).input != 0) →
        a = (s.instant t).setAna c { s.anaCh c with run := (s.anaCh c).run - 1, ovr := ovr } →
        b = (if ovr = true ∧ (s.anaCh c).ovr = false then a.raise 20 .notice 0 0 c [] else a).arrive q 9
          (b2n uns + 2 * b2n ovr + 32 * b2n test) 1 stamp (ibytes 4 k ++ ibytes 4 (engValue q k)) →
        exec (.analogOutput t c code ovr) s = .next ((match b.analogRoute c with
          | some r => b.updateRoute r stamp (if rtCount r = 0 then [] else
              [{ num := rtFirst r, value := some (wordI (engValue q k)), typ := rtType r, qual := anaQual uns ovr test }])
          | none => b).anaTestsDone c))) ∧
    (∀ e q, s.quoin e = some q → s.crs.course = 0 → (s.entrySt (qnEntry q)).silent = false →
      qnSilence q < s.crs.courseCnt - (s.entrySt (qnEntry q)).since → exec (.quoinEntrySilent t e) s = .next
        (((s.instant t).setEntrySt (qnEntry q) { s.entrySt (qnEntry q) with silent := true }).raise 16 .notice 0 0 (qnEntry q) []))

/-- While frames run, a link frame that R520 to R522 let a part take is remembered as the newest of its sender and
class, and its payload is acted on: intake records of a partner whose data this part uses are queued one after
another, point updates wait behind those that wait already, a shared block goes to the import record of its source
and block number, and linked case verdicts are kept under their sender and case with the frame.
(spec/04_sensor_intake.md R97, spec/13_redundancy_and_claims.md R334, spec/23_cascade.md R520, spec/23_cascade.md
R521, spec/23_cascade.md R522, spec/23_cascade.md R531, spec/23_cascade.md R532) -/
def Obligations.LinkFramesAreTaken : Prop :=
  ∀ (t : Nat) (hd : LinkHdr) (b : List Byte) (s : State), s.runs = true →
    (∀ typ, s.Hears hd typ b → afind (4 * hd.src + linkClass typ) ((s.instant t).linkTake hd typ b b id).ylk.seqIn = some hd.seq) ∧
    (∀ a, s.Hears hd 8 b → a = (s.instant t).linkTake hd 8 b b id → exec (.intakeRecordsRx t hd b) s = .next (if s.forwards
      then ((List.range (min (u32 b 0) ((b.length - 4) / 64))).map (fun i => slice b (4 + 64 * i) 64)).foldl
        (fun u r => u.takeForwarded r) a else a)) ∧
    (∀ a, s.Hears hd 9 b → a = (s.instant t).linkTake hd 9 b b id → exec (.forwardedPointsRx t hd b) s = .next (if s.forwards
      then a.withPnt { s.pnt with fwd := s.pnt.fwd ++ (List.range (min (u8 b 1) ((b.length - 4) / 16))).map (fun i =>
        a.fwdRecord (s.rdn.partnerUnit.getD 0) hd.frame (slice b (4 + 16 * i) 16)) } else a)) ∧
    (∀ i, s.Hears hd 0x0A b → s.importOf hd.src (u8 b 0) = some i → exec (.sharedPointBlockRx t hd b) s =
      .next (((s.instant t).linkTake hd 0x0A b b id).takeShared i b)) ∧
    (s.Hears hd 5 b → exec (.caseVerdictsRx t hd b) s = .next ((List.range (min (u8 b 0) ((b.length - 1) / 2))).foldl
      (fun u i => u.withYlk { u.ylk with
        verdicts := aput (256 * hd.src + u8 b (1 + 2 * i)) (u8 b (2 + 2 * i), s.crs.frame) u.ylk.verdicts })
      ((s.instant t).linkTake hd 5 b b id)))

/-- While frames run: a supply that is on and draws less than 4 mA is shown open, at 120 mA or more short, otherwise
normal, a change with event source 48, and a short removes the supply until its retry 1 s later, which the retry
ends; a loss of continuity ends the lock of a channel in use, counts a slip and drops its ambiguity; channels are
revised from the candidates; the analysis of a stream keeps its jamming level, drops its notches where they are off,
and otherwise renews the notches whose bin is a candidate and gives at most four candidates a notch; an active notch
without a candidate for 100 ms is released with event source 51; corrections that are no longer current lapse with
event source 54; a spoofed antenna clean for SPOOF_CLEAR seconds is cleared with event source 52; a capture starts
at the first course tick at or after its time, and its end gives the transfer its header and samples and completes
the command with the number of the transfer. (spec/05_gnss_baseband.md R105, spec/05_gnss_baseband.md R107,
spec/05_gnss_baseband.md R110, spec/05_gnss_baseband.md R112, spec/05_gnss_baseband.md R123,
spec/05_gnss_baseband.md R125, spec/05_gnss_baseband.md R126, spec/05_gnss_baseband.md R128,
spec/05_gnss_baseband.md R129) -/
def Obligations.ReceiverRows : Prop :=
  ∀ (t : Nat) (s : State), s.runs = true →
    (∀ a ma n b, a < 2 → s.effField .gnsAnt (2 * a) 1 = 1 → (s.gant a).retryAt = none →
      n = (if 120 ≤ ma then 3 else if ma < 4 then 2 else 1) → b = (s.instant t).putAnt a { s.gant a with
        supply := n, retryAt := if n = 3 then some ((s.instant t).clk.now + 1000000000) else none } →
      exec (.antennaSupplyFault t a ma) s = .next (if (s.gant a).supply = n then b else if n ≠ 1 then b.raise 48 .notice 0 n a []
        else if (s.gant a).supply = 0 then b else b.raise 48 .notice 1 1 a [])) ∧
    (∀ a r, a < 2 → (s.gant a).retryAt = some r → r ≤ (s.instant t).clk.now → exec (.antennaSupplyRetry t a) s =
      .next ((s.instant t).putAnt a { s.gant a with retryAt := none })) ∧
    (∀ a c, a < 2 → c < 64 → (s.chan a c).signal ≠ 0 → exec (.carrierContinuityLoss t a c) s = .next
      (((s.instant t).withGns { s.gns with
        chans := vset s.gns.chans (64 * a + c) { s.chan a c with
          since := none, lost := some (s.instant t).devTime, slip := (s.chan a c).slip + 1, last := none, hist := [] }
        amb := s.gns.amb.filter (·.1 != c) }).count .slip)) ∧
    (∀ l, exec (.channelAssignRevision t l) s = .next ((s.instant t).reviseChannels l)) ∧
    (∀ st p l a, st < 4 → a = (s.instant t).setJam st (s.jamLevel st p) →
      (s.effField .gnsNotch 0 1 = 0 → Answers (.notchAnalysis t st p l) s fun u => u = a.dropNotches [st] ∧
        vget u.gns.jam st 0 = s.jamLevel st p ∧ ∀ n, n < 4 → (u.notch (4 * st + n)).active = false) ∧
      (∀ r b, s.effField .gnsNotch 0 1 = 1 → r = a.notchCandidates st l → b = (List.range 4).foldl (fun u n =>
          if ((u.notch (4 * st + n)).active && r.1.contains (u.notch (4 * st + n)).bin) = true then u.withGns { u.gns with
            notches := vset u.gns.notches (4 * st + n) { u.notch (4 * st + n) with cand := u.clk.now } } else u) r.2 →
        exec (.notchAnalysis t st p l) s = .next ((r.1.take 4).foldl (fun u x => u.notchFor st (r.1.take 4) x) b))) ∧
    (∀ n, n < 16 → (s.notch n).active = true → (s.notch n).cand + 100000000 ≤ (s.instant t).clk.now →
      exec (.notchRelease t n) s = .next ((((s.instant t).withGns { s.gns with
        notches := vset s.gns.notches n { s.notch n with active := false, bin := 0 } }).markNotch (n / 4)).raise 51 .notice 1 0 n [])) ∧
    (s.gns.corrOn = true → (s.gns.stnPos = none ∨ s.corrCurrent (s.instant t).devTime = false) → exec (.correctionLapse t) s =
      .next (((s.instant t).withGns { s.gns with corrOn := false }).raise 54 .notice 0 0 noIndex [])) ∧
    (∀ a f, a < 2 → (s.gant a).spoofed = true → (s.gant a).cleanFrom = some f →
      f + 1000000000 * (s.effField .gnsLimits 12 8 : Int) ≤ (s.instant t).frameTime → exec (.spoofClear t a) s = .next
      (((s.instant t).putAnt a { s.gant a with spoofed := false, c7 := false }).raise 52 .notice 1 0 a [])) ∧
    (s.gns.snap.state = 1 → s.gns.snap.notBefore ≤ (s.clk.tickAt : Int) + s.clk.base → exec (.snapshotCaptureStart t) s = .next
      ((s.instant t).withGns { s.gns with snap := { s.gns.snap with
        state := 2, startNow := s.clk.tickAt, start := (s.clk.tickAt : Int) + s.clk.base, jam := s.gns.jam.toList
        act := s.notchAct, chg := 0 } })) ∧
    (∀ b w d, s.gns.snap.state = 2 → s.gns.snap.startNow + 1000000 * s.gns.snap.dur ≤ (s.instant t).clk.now →
      s.gns.snap.cmd = some w →
      d = padTo (((List.range 4).filter (tbit s.gns.snap.streams)).length * s.gns.snap.dur * 10240) b →
      exec (.snapshotCaptureDone t b) s = .next ((((s.instant t).withHrg { s.hrg with
        xfers := s.hrg.xfers.map (fun f => if f.kind = 1 ∧ f.xfer = s.gns.snap.xfer
          then { f with rest := s.gns.snap.header d ++ d } else f) }).withGns { s.gns with
            snap := { s.gns.snap with state := 3, cmd := none } }).done w s.gns.snap.xfer.toNat))

/-- While frames run: a measurement without an offset counts a second of loss; one with an offset counts a good second
where it lies within 1 µs of the last, steers on the source in use or drops it at the step threshold, and of another
that is qualified applies the selection rule (before the first selection, considers that source); a source with
enough good seconds qualifies, and one lost for long enough is unqualified, each with event source 56, the one in
use with a count and the choice of another; a better source that has stayed inside the step threshold long enough is
reverted to. Crossing the holdover limit, either way, raises event source 58. An EXT_PPS edge of the polarity
chosen, 1 s within 1 ms after the last, gives the offset against the nearest second, and any other one gives none;
an EXT_10M change is recorded and followed. An enabled pulse whose second has come drives the PPS ball, and at its
width drives it back; a filtered capture edge of the chosen direction is stored with its time and event source 61,
or, within 1 µs of the last or with 16 stored, counted as lost with 62. On network A or B with PTP on: a message
that came by the other transport is not seen, one of another domain or malformed is counted in TIM_PTP_ERR, an
ignored one changes nothing, and a Delay_Req to an end-to-end master is answered with its sequence number and
receipt time; a master port sends Sync and Follow_Up, and Announce, when their intervals have passed; a slave or
uncalibrated port of the end-to-end mechanism, and every port of the peer-to-peer one, sends its delay request when
its interval has passed; a port that has heard no Announce for the time-out forgets its best master and its offset,
and the states are decided again. (spec/12_time_base.md R303, spec/12_time_base.md R304, spec/12_time_base.md R305,
spec/12_time_base.md R307, spec/12_time_base.md R310, spec/12_time_base.md R312, spec/12_time_base.md R313,
spec/12_time_base.md R314, spec/12_time_base.md R315, spec/12_time_base.md R317, spec/12_time_base.md R318) -/
def Obligations.TimeSourceRows : Prop :=
  ∀ (t : Nat) (s : State), s.runs = true →
    (∀ n b x c, 1 ≤ n → n ≤ 5 → b = (s.instant t).followRole.timAdvance → x = b.timSrc n →
      (b.sourceOffset n = none → exec (.sourceOffsetMeasure t n) s = .next ((b.consumeOffset n).setTimSrc n
        { x with goodSecs := 0, aboveSecs := 0, lossSecs := min 65535 (x.lossSecs + 1) })) ∧
      (∀ o, b.sourceOffset n = some o → c = (b.consumeOffset n).setTimSrc n { x with
          offset := some o, steer := b.tim.steer, lossSecs := 0
          goodSecs := if x.offset.any (fun p => decide ((o - p - (b.tim.steer - x.steer)).natAbs ≤ 1000)) = true
            then min 65535 (x.goodSecs + 1) else 1
          aboveSecs := if x.qualified = true ∧ o.natAbs < b.stepThr then min 65535 (x.aboveSecs + 1) else 0 } →
        (b.tim.src = n → exec (.sourceOffsetMeasure t n) s = .next (if o.natAbs < b.stepThr then c.steerOn n o (b.baseUnc n)
          else (c.refuseStep n).dropSource)) ∧
        (b.tim.src ≠ n → exec (.sourceOffsetMeasure t n) s = .next (if x.qualified = false then c.pendingMoved n o
          else if b.tim.state = 0 then (c.pendingMoved n o).considerSource n else (c.pendingMoved n o).applyRule1)))) ∧
    (∀ n, 1 ≤ n → n ≤ 5 → (s.timSrc n).qualified = false → s.effField .timCfg 13 8 ≤ (s.timSrc n).goodSecs →
      exec (.sourceQualified t n) s = .next ((((s.instant t).setTimSrc n { s.timSrc n with qualified := true, aboveSecs := 0 }).raise
        56 .notice 1 0 n []).considerSource n)) ∧
    (∀ n a, 1 ≤ n → n ≤ 5 → ((s.timSrc n).qualified = true ∨ s.tim.src = n) → s.effField .timCfg 21 4 ≤ (s.timSrc n).lossSecs →
      a = ((s.instant t).setTimSrc n { s.timSrc n with qualified := false, goodSecs := 0, aboveSecs := 0 }).raise 56 .notice 0 0 n [] →
      exec (.sourceLost t n) s = .next (if s.tim.src = n then ((a.count .srcLoss).dropSource).applyRule1 else a)) ∧
    (∀ n r q, s.timRank n = some r → s.timRank s.tim.src = some q → r < q → s.effField .timCfg 12 1 = 1 →
      s.timSelectable n = true → s.effField .timServo 17 8 ≤ (s.timSrc n).aboveSecs →
      exec (.sourceRevert t n) s = .next ((s.instant t).selectSource n) ∧ ((s.instant t).selectSource n).tim.src = n) ∧
    (∀ on, s.pwr.inReset = false → on = decide (s.hoLimit < (s.instant t).timUnc) → exec (.holdoverLimitCrossed t) s = .next
      (if s.tim.hoExceeded = on then s.instant t else ((s.instant t).withTim { s.tim with hoExceeded := on }).raise
        58 (if on then .alarm else .notice) (b2n (!on)) 2 noIndex [word (s.instant t).timUnc])) ∧
    (∀ (f : Bool) (o : Int), o = ((s.instant t).devTime - s.effField .timExt 3 16) % 1000000000 →
      exec (.extPpsEdge ⟨t, f⟩) s = .next (if s.effField .timExt 1 1 = 0 ∨ b2n f ≠ s.effField .timExt 2 1 then s.instant t
        else (s.instant t).withTim { s.tim with
          extAt := some (s.instant t).clk.now
          extOffset := if s.tim.extAt.any (fun l => decide (l + 999000000 ≤ (s.instant t).clk.now ∧
              (s.instant t).clk.now ≤ l + 1001000000)) = true
            then some (if o < 500000000 then o else o - 1000000000) else none })) ∧
    (∀ on, exec (.ext10mPresenceChange t on) s = .next (((s.instant t).timAdvance.withTim
      { (s.instant t).timAdvance.tim with ext10m := on }).follow10m s.follows10m)) ∧
    (s.effField .timPps 0 1 = 1 → s.tim.state ≠ 0 →
      (s.tim.ppsEnd = none → (s.instant t).ppsBehind ≤ 1 → exec (.ppsEdge t) s = .next (((s.instant t).timAdvance.withTim
        { (s.instant t).timAdvance.tim with
          ppsEnd := some ((s.instant t).clk.now + 1000000 * s.effField .timPps 2 9) }).emit
            (.pin ballPps (s.effField .timPps 1 1 == 0)))) ∧
      (∀ e, s.tim.ppsEnd = some e → e ≤ (s.instant t).clk.now → exec (.ppsEdge t) s = .next
        (((s.instant t).withTim { s.tim with ppsEnd := none }).emit (.pin ballPps (s.effField .timPps 1 1 != 0))))) ∧
    (∀ i f h x y, i < 4 → capFilter (s.effField .timCapCfg (4 * i + 2) 2) ≤ h →
      (s.effField .timCapCfg (4 * i) 2 = 3 ∨ s.effField .timCapCfg (4 * i) 2 = if f then 2 else 1) →
      x = s.capture i → y = { x with lastEdge := some (s.instant t).clk.now } →
      ((∀ l, x.lastEdge = some l → l + 1000 ≤ (s.instant t).clk.now) → x.fifo.length < 16 →
        ∀ e : CapEntry, e = { time := (s.instant t).devTime, falling := f, seq := x.nextSeq } →
        exec (.captureEdge t i ⟨f, h⟩) s = .next (((s.instant t).withTim { s.tim with caps := vset s.tim.caps i { y with
          fifo := x.fifo ++ [e], newest := some e, nextSeq := (x.nextSeq + 1) % 256 } }).raise
            61 .notice 0 0 i (word (b2n f) :: word x.nextSeq :: words64 ((s.instant t).devTime / 1000000000)))) ∧
      ((16 ≤ x.fifo.length ∨ ∃ l, x.lastEdge = some l ∧ (s.instant t).clk.now < l + 1000) → exec (.captureEdge t i ⟨f, h⟩) s = .next ((((s.instant t).withTim { s.tim with
        caps := vset s.tim.caps i y }).count .capLost).raise 62 .notice 0 0 i []))) ∧
    (∀ (p : Port) (i : Nat), (p = .a ∧ i = 0) ∨ (p = .b ∧ i = 1) → s.portLive p = true →
      (∀ hd m, s.ptpOn i = true →
        (hd.trans ≠ s.effField .timPtpCfg (4 + i) 1 → exec (.ptpMessageRx t p ⟨hd, m⟩) s = .next (s.instant t)) ∧
        (hd.trans = s.effField .timPtpCfg (4 + i) 1 →
          (hd.domain ≠ s.effField .timPtpCfg 9 7 → exec (.ptpMessageRx t p ⟨hd, m⟩) s = .next ((s.instant t).count .ptpErr)) ∧
          (hd.domain = s.effField .timPtpCfg 9 7 →
            exec (.ptpMessageRx t p ⟨hd, .bad⟩) s = .next ((s.instant t).count .ptpErr) ∧
            exec (.ptpMessageRx t p ⟨hd, .ignored⟩) s = .next (s.instant t) ∧
            (∀ t4, (s.ptpPort i).state = 6 → s.effField .timPtpCfg (2 + i) 1 = 0 →
              exec (.ptpMessageRx t p ⟨hd, .delayReq t4⟩) s = .next ((s.instant t).ptpSend i 9 hd.seq t4)) ∧
            exec (.ptpMessageRx t p ⟨hd, m⟩) s = .next ((s.instant t).ptpTake i hd m)))) ∧
      (∀ x a, (s.ptpPort i).state = 6 → x = s.ptpPort i →
        a = (if (s.instant t).elapsed x.syncAt (logInterval (s.effField .timPtpRate 0 4)) = true
          then (((s.instant t).ptpSend i 0 x.seq (s.instant t).devTime).ptpSend i 8 x.seq (s.instant t).devTime).setPtp i
            { x with seq := (x.seq + 1) % 65536, syncAt := some (s.instant t).clk.now }
          else s.instant t) →
        exec (.ptpMasterTx t p) s = .next (if (s.instant t).elapsed x.annSent (logInterval (s.effField .timPtpRate 4 4)) = true
          then (a.ptpSend i 11 x.annSeq (s.instant t).devTime).setPtp i { a.ptpPort i with
            annSeq := (x.annSeq + 1) % 65536, annSent := some (s.instant t).clk.now }
          else a)) ∧
      (∀ k, s.ptpOn i = true → (k = 2 ∧ s.effField .timPtpCfg (2 + i) 1 = 1) ∨
          (k = 1 ∧ s.effField .timPtpCfg (2 + i) 1 = 0 ∧ 8 ≤ (s.ptpPort i).state) →
        (s.instant t).elapsed (s.ptpPort i).reqAt (logInterval (s.effField .timPtpRate 8 4)) = true →
        exec (.ptpDelayRequestTx t p) s = .next (((s.instant t).ptpSend i k (s.ptpPort i).delaySeq (s.instant t).devTime).setPtp i
          { s.ptpPort i with delaySeq := ((s.ptpPort i).delaySeq + 1) % 65536, reqSeq := some (s.ptpPort i).delaySeq
                             reqAt := some (s.instant t).clk.now })) ∧
      (s.ptpOn i = true → (s.ptpPort i).annAt +
          s.effField .timPtpRate 12 4 * logInterval (s.effField .timPtpRate 4 4) ≤ (s.instant t).clk.now →
        exec (.ptpAnnounceTimeout t p) s = .next ((((s.instant t).setPtp i { s.ptpPort i with
          best := none, quiet := true, annIn := none, syncIn := none, syncWait := none, sync := none, offset := none }).ptpUpdate))))

/-- While frames run and the array is not stopped: a descriptor whose lengths or fields differ from the template in
effect ends DESCRIPTOR without running, and a good one, with the template copied into it, enters the queue at the
place of its class (in a full queue it displaces the last analysis problem, or is itself turned away); the head of
the feed list enters the queue while that holds fewer than 128; a problem whose deadline has passed leaves the head
of the queue as EXPIRED, and otherwise the lowest free lane takes it with its warm-start entry and loads its data
block, and it waits where no lane is free; a lane that finishes in time releases its problem, its corrected memory
errors counted, and one still running past the deadline, or finishing then, ends it LATE; a known-answer test that
fails is counted and quarantines the lane, one that passes leaves a lane in service and brings a quarantined lane
back at the sixteenth pass in a row, with event source 42. A comparator mismatch ends every problem ABORTED, stops
the array, raises event source 42 and gives up control. A ballast valve or pump that R293 calls faulted is marked so
and its command ends; otherwise a confirmed command is noted. (spec/09_voussoir_solver_array.md R229,
spec/09_voussoir_solver_array.md R231, spec/09_voussoir_solver_array.md R233, spec/09_voussoir_solver_array.md R242,
spec/09_voussoir_solver_array.md R249, spec/09_voussoir_solver_array.md R256, spec/09_voussoir_solver_array.md R232,
spec/09_voussoir_solver_array.md R257, spec/09_voussoir_solver_array.md R258, spec/10_consequence_analysis.md R268,
spec/11_trim_and_heel.md R293) -/
def Obligations.ArrayRows : Prop :=
  ∀ (t : Nat) (s a : State), s.runs = true → a = s.instant t →
    (∀ d p, d.length = 64 → u8 d 0x0B ≤ 2 → s.vsl.stopped = false → p = a.problemOf d →
      ((descLengths d = false ∨ imgTemplate s.image (u16 d 0) = none) →
        exec (.problemSubmit t d) s = .next (a.rejectProblem p) ∧ (a.rejectProblem p).vsl.queue = s.vsl.queue) ∧
      (∀ tm, descLengths d = true → imgTemplate s.image (u16 d 0) = some tm →
        (a.problemGood p tm = false →
          exec (.problemSubmit t d) s = .next (a.rejectProblem p) ∧ (a.rejectProblem p).vsl.queue = s.vsl.queue) ∧
        (a.problemGood p tm = true → 192 ≤ s.vsl.queue.length → exec (.problemSubmit t d) s = .next (
          if p.priority = true ∨ p.analysis = false then (match takeLast (fun x => x.analysis && !x.priority) s.vsl.queue with
            | some (v, r) => (a.withVsl { s.vsl with queue := queueAt (a.copyTemplate p tm) r }).problemEnds v 10
            | none => a.problemEnds (a.copyTemplate p tm) 11)
          else a.problemEnds (a.copyTemplate p tm) 11)) ∧
        (∀ q, a.problemGood p tm = true → s.vsl.queue.length < 192 → q = queueAt (a.copyTemplate p tm) s.vsl.queue →
          exec (.problemSubmit t d) s = .next (a.withVsl { s.vsl with queue := q, peak := max s.vsl.peak q.length })))) ∧
    (∀ d, s.vsl.stopped = true → exec (.problemSubmit t d) s = .next a) ∧
    (∀ p r, s.vsl.feed = p :: r →
      (s.vsl.queue.length < 128 → exec (.feedListMove t) s = .next ((a.withVsl { s.vsl with feed := r }).enterQueue p)) ∧
      (128 ≤ s.vsl.queue.length → exec (.feedListMove t) s = .next a)) ∧
    (∀ p r, s.vsl.queue = p :: r →
      (a.deadlinePassed p = true → exec (.laneTake t) s = .next ((a.withVsl { s.vsl with queue := r }).problemEnds p 9)) ∧
      (a.deadlinePassed p = false →
        (s.freeLane = none → exec (.laneTake t) s = .next a) ∧
        (∀ l, s.freeLane = some l → exec (.laneTake t) s = .next (((a.withVsl { s.vsl with queue := r }).setLane l
          { s.lane l with job := some p, warm := s.warmEntry p, started := a.clk.now }).laneLoad l p)))) ∧
    (∀ l p, (s.lane l).job = some p →
      (∀ e, a.deadlinePassed p = false → exec (.problemRelease t ⟨l, e⟩) s = .next ((a.countN .vslEcc e).laneReleases l p)) ∧
      (∀ e, a.deadlinePassed p = true → exec (.problemRelease t ⟨l, e⟩) s = .next ((a.countN .vslEcc e).laneLate l p)) ∧
      (∀ e, a.deadlinePassed p = true → exec (.problemLate t ⟨l, e⟩) s = .next ((a.countN .vslEcc e).laneLate l p))) ∧
    (∀ l x, l < 64 → x = s.lane l → x.job = none →
      exec (.laneKat t l false) s = .next
        (((a.setLane l { x with testFirst := false, lastKat := s.crs.courseCnt }).count .vslKatFail).quarantine l) ∧
      (x.state = 1 → s.katDue x = false → exec (.laneKat t l true) s = .next a) ∧
      (x.state = 0 → exec (.laneKat t l true) s = .next (a.setLane l { x with testFirst := false, lastKat := s.crs.courseCnt })) ∧
      (∀ y, y = { x with testFirst := false, lastKat := s.crs.courseCnt } → x.state = 1 → s.katDue x = true →
        (x.passes + 1 < 16 → exec (.laneKat t l true) s = .next ((a.setLane l y).setLane l { y with passes := x.passes + 1 })) ∧
        (16 ≤ x.passes + 1 → exec (.laneKat t l true) s = .next
          (((a.setLane l y).setLane l { y with state := 0, passes := 0 }).raise 42 .notice 1 0 l [])))) ∧
    (Answers (.arrayComparatorMismatch t) s fun u => u.vsl.stopped = true ∧ u.vsl.queue = [] ∧ u.vsl.feed = [] ∧
      u = ((a.abortArray.withVsl { a.abortArray.vsl with stopped := true }).raise 42 .notice 0 0 noIndex []).comparatorMismatch 6) ∧
    (∀ v x, v < u8 s.ballast 2 → x = s.valveSt v →
      (a.valveFaulty v = true → exec (.ballastValveFault t v) s = .next (a.putValve v
        { x with fault := true, cmd := false, since := a.clk.now, seen := false })) ∧
      (a.valveFaulty v = false → x.cmd = true → a.valveOpen v = true →
        exec (.ballastValveFault t v) s = .next (a.putValve v { x with seen := true }))) ∧
    (∀ p x, p < u8 s.ballast 1 → x = s.pumpSt p →
      (a.pumpFaulty p = true → exec (.ballastPumpFault t p) s = .next (a.putPump p
        { x with fault := true, cmd := false, since := a.clk.now, seen := false })) ∧
      (a.pumpFaulty p = false → x.cmd = true → a.pumpRuns p = true →
        exec (.ballastPumpFault t p) s = .next (a.putPump p { x with seen := true })))

/-- While frames run: the work of a buttress course counts the beat on by one, and in course 0 the mask it publishes is
held for the pair; an island fault of a sound buttress removes every unit, opens every output and raises event
source 77; a beat lost for 3 courses removes every unit with event source 77; a switch in current limit opens. While
the buttress acts: a CONFIRM not done by its deadline is a miss, counted with event source 75, that counts towards
the latch and still sends the regular safety frame; a discrepancy that has lasted DISC_TIME latches the fault of its
input, counted with event source 65; a safety frame that fails a check of R364 or is no newer is counted, and of a
good one the first copy is acted on, the second by the other network ends the wait, and one that differs latches the
mismatch with event source 72; a copy that comes too late degrades its remote with event source 70; a remote silent
for its time-out is lost with event source 72; DEG_LIMIT forces a degraded remote or latches a degraded output off
with event source 71; the start-up test of an output drives its high and then its low switch, each alone for PULSE,
and marks it tested, or latches it off when it fails; a test pulse opens the switch of its channel, and at its end
the switch closes, the other channel is next, and the readings are judged 100 µs later. (spec/14_safety_island.md
R346, spec/14_safety_island.md R347, spec/14_safety_island.md R351, spec/14_safety_island.md R352,
spec/14_safety_island.md R354, spec/14_safety_island.md R355, spec/14_safety_island.md R360,
spec/14_safety_island.md R364, spec/14_safety_island.md R365, spec/26_package_and_electrical.md R571) -/
def Obligations.ButtressRows : Prop :=
  ∀ (t : Nat) (s a : State), s.runs = true → a = s.instant t →
    (∀ ca cb h l, s.btr.fault = false → Answers (.buttressCourse ca cb h l) s fun u =>
      u = (s.instant 10080).buttressCourse ca cb h l ∧
      u.btr.beat = s.btr.beat + 1 ∧ (s.crs.course = 0 → u.btr.mask0 = u.btr.remove)) ∧
    (s.btr.fault = false → Answers (.islandFault t) s fun u => u = a.islandFault ∧
      u.btr.fault = true ∧ u.btr.remove = 0xFFFF#16 ∧ ∀ o, o < 8 → (u.btrOut o).on = false) ∧
    (3 ≤ s.btr.beatLost → s.btr.lostByBeat = false → s.btr.fault = false → exec (.buttressBeatLoss t) s = .next
      (((a.withBtr { s.btr with lostByBeat := true }).btrPublish 0xFFFF#16).raise 77 .notice 0 0 noIndex [])) ∧
    (∀ o h, o < 8 → (s.btrOut o).on = true → exec (.safeOutputCurrentLimit t o h) s = .next
      ((a.emit (.pin (if h then ballHigh o else ballLow o) false)).setBtrOut o
        { s.btrOut o with tripH := (s.btrOut o).tripH || h, tripL := (s.btrOut o).tripL || !h })) ∧
    (s.btr.acts = true →
      (∀ n, a.canMiss 0x0A = true → n = min 3 (s.btr.missStreak + 1) → exec (.confirmMiss t) s = .next
        ((((((a.withCrs { s.crs with doneItems := s.crs.doneItems ++ [0x0A] }).withBtr { s.btr with
          missStreak := n, goodConfirms := 0, missLatched := s.btr.missLatched || n == 3 }).count .btrMiss).raise
            75 .notice 0 0 noIndex []).btrReady).sendSafety 16)) ∧
      (∀ i, i < min 16 s.btr.nIn → (s.btrIn i).fault = false → max 1 (u16 (s.btr.recIn i) 2) ≤ (s.btrIn i).disc →
        exec (.discrepancyFault t i) s = .next (((a.setBtrIn i
          { s.btrIn i with fault := true, both := false, clr := false }).count .btrDisc).raise 65 .notice 0 0 i [])) ∧
      (∀ p b, p ≠ .m → s.portUp p = true →
        (s.btr.frameValid b = false → exec (.safetyFrameRx t p b) s = .next (a.count .btrSfErr)) ∧
        (∀ ns, s.btr.frameValid b = true → ns = s.btr.rems.filter (fun n => u8 (s.btr.recRem n) 0 == u8 b 5) →
          exec (.safetyFrameRx t p b) s = .next (if ns.any (fun n => s.btrOld p b n) = true then a.count .btrSfErr
            else ns.foldl (fun u n => u.btrFrame p n b) a)) ∧
        (∀ n x q, s.btr.frameValid b = true → s.btr.rems.filter (fun n => u8 (s.btr.recRem n) 0 == u8 b 5) = [n] →
          x = s.btrRem n → q = word (u32 b 8) →
          (x.other p q = none →
            (∀ r, x.seq = some r → newer q r = false → exec (.safetyFrameRx t p b) s = .next (a.count .btrSfErr)) ∧
            (∀ y, (∀ r, x.seq = some r → newer q r = true) → y = a.setBtrRem n { x with
                copies := x.copies ++ [{ port := p, bytes := b, waited := 0 }], seq := some q, silent := 0, timeout := u16 b 0x1C
                fresh := true, stopSeen := tbit (u16 b 0x14) (u8 (s.btr.recRem n) 1) || tbit (u16 b 6) 5 } →
              exec (.safetyFrameRx t p b) s = .next (if x.fresh = false ∧ s.btr.leads n = true then y.raise 72 .notice 1 1 n [] else y))) ∧
          (∀ c r, x.other p q = some c → r = x.copies.filter (fun c => word (u32 c.bytes 8) != q) →
            (c.bytes = b → exec (.safetyFrameRx t p b) s = .next
              (((a.setBtrRem n { x with copies := r, goodCopies := x.goodCopies + 1 }).btrAgree n (s.btr.frameStop n b)).btrCopiesGood n)) ∧
            (∀ y, c.bytes ≠ b → y = a.setBtrRem n { x with
                copies := r, goodCopies := 0, mismatch := true, both := false, clr := false } →
              exec (.safetyFrameRx t p b) s = .next (if s.btr.leads n = true then y.raise 72 .notice 0 2 n [q] else y))))) ∧
      (∀ n x, n < min 8 s.btr.nRem → x = s.btrRem n →
        (∀ w y, w = u16 s.btr.params 6 → (∃ c ∈ x.copies, w < c.waited) →
          y = { x with copies := x.copies.filter (fun c => !decide (w < c.waited)), goodCopies := 0 } →
          exec (.safetyCopyTimeout t n) s = .next (if x.degraded.isSome = true then a.setBtrRem n y
            else if s.btr.leads n = true then (a.setBtrRem n { y with degraded := some 0 }).raise 70 .notice 0 0 n []
            else a.setBtrRem n { y with degraded := some 0 })) ∧
        (∀ y, x.fresh = true → x.timeout ≤ x.silent → y = a.setBtrRem n { x with fresh := false } →
          exec (.remoteSourceLost t n) s = .next (if s.btr.leads n = true then y.raise 72 .notice 0 1 n [] else y)) ∧
        (∀ c y, x.degraded = some c → x.forced = false → s.btr.degLimit ≤ c → y = a.setBtrRem n { x with forced := true } →
          exec (.degradedLimit t true n) s = .next (if s.btr.leads n = true then y.raise 71 .alarm 0 0 n [] else y))) ∧
      (∀ o x, o < min 8 s.btr.nOut → x = s.btrOut o →
        (∀ c, x.degraded = some c → x.latchedOff = false → s.btr.degLimit ≤ c →
          exec (.degradedLimit t false o) s = .next ((a.raise 71 .alarm 0 0 o []).btrLatchOff o)) ∧
        (x.tested = false → x.on = false →
          (∀ g, x.startStep = 0 → exec (.outputStartupTest t o g) s = .next ((a.emit (.pin (ballHigh o) true)).setBtrOut o
            { x with startStep := 1, pulseAt := a.clk.now })) ∧
          (x.startStep ≠ 0 → x.pulseAt + 1000 * u16 (s.btr.recOut o) 2 ≤ a.clk.now →
            ∀ e, e = a.emit (.pin (if x.startStep = 1 then ballHigh o else ballLow o) false) →
            exec (.outputStartupTest t o false) s = .next ((e.setBtrOut o
              { x with startStep := 0, tested := true, testBad := true, latchedOff := true }).btrTestFail o) ∧
            exec (.outputStartupTest t o true) s = .next (if x.startStep = 1
              then (e.emit (.pin (ballLow o) true)).setBtrOut o { x with startStep := 2, pulseAt := a.clk.now }
              else e.setBtrOut o { x with startStep := 0, tested := true }))) ∧
        (x.on = true → x.pulse = none → x.testIn = 0 → exec (.outputTestStart o) s = .next
          (((s.instant 500080).emit (.pin (if x.nextHigh then ballHigh o else ballLow o) false)).setBtrOut o
            { x with pulse := some x.nextHigh, pulseAt := (s.instant 500080).clk.now, testIn := max 1 (u16 (s.btr.recOut o) 4 / 2) })) ∧
        (∀ h b y, x.pulse = some h → s.pulseEnd o ≤ 899899 → b = s.instant (s.pulseEnd o) →
          y = ((b.emit (.pin (if h then ballHigh o else ballLow o) true)).instant
            (b.clk.now - s.clk.tickAt + 100000)).setBtrOut o { x with pulse := none, nextHigh := !h } →
          exec (.outputTestEnd o true true) s = .next y ∧
          ∀ r c, exec (.outputTestEnd o r c) s = .next (y.btrVerdict o h r c))))

/-- While frames run, on a live port, whichever of the three rows brings the datagram: a fragment, or a Zwilux message
that fails a check of R380, is counted with event source 99 on A and B and discarded without count on the
maintenance port; a datagram not addressed to the part changes nothing; a READ is answered unicast with the points
that exist, on A and B only while READ_AB is 1; on the maintenance port every other message is discarded. On A and
B: a DATA message newer than the last of its node and block is noted and its records applied to its entry, where
there is one, and an older one has no effect; a newer COMMAND for an entry that accepts it, with CMD_EN set and
fitting records, is applied and acknowledged with status 0, another one is counted, raises event source 100 and is
acknowledged with status 1, 2 or 3, and one with the number of the last is answered again with its first status. A
silent inbound entry sets STALE on its block with event source 98; a stream with room posts its pending points with
OVERRUN, up to three an entry; a link change of any port is recorded, with event source 97 where the link comes up
or goes down; an echo request, an ARP request for the own address and an IGMP query for the groups joined are
answered on their port. (spec/15_point_image_and_networks.md R377, spec/15_point_image_and_networks.md R380,
spec/15_point_image_and_networks.md R381, spec/15_point_image_and_networks.md R382,
spec/15_point_image_and_networks.md R384, spec/15_point_image_and_networks.md R386,
spec/15_point_image_and_networks.md R388) -/
def Obligations.NetworkAndPointRows : Prop :=
  ∀ (t : Nat) (s a : State), a = s.instant t →
    (s.runs = true →
      (∀ c p u b, c ∈ [Instr.zwiluxDataRx t p u b, .zwiluxCommandRx t p u b, .zwiluxReadRx t p u b] → s.portLive p = true →
        (u.frag = true → exec c s = .next (if p = .m then a else a.netReject p)) ∧
        (u.frag = false → s.zxMine p u = false → exec c s = .next a) ∧
        (u.frag = false → s.zxMine p u = true → zxValid b = false → exec c s = .next (if p = .m then a else a.netReject p)) ∧
        (u.frag = false → s.zxMine p u = true → zxValid b = true →
          (u8 b 3 = 4 →
            (p ≠ .m → s.effField .netCfg 1 1 = 0 → exec c s = .next a) ∧
            (∀ ns, p = .m ∨ s.effField .netCfg 1 1 ≠ 0 →
              ns = ((List.range (u8 b 0x10)).map (u32 b 0x14 + ·)).filter (· < 131072) → exec c s = .next (a.sendZx p u.src
                (zxMsg 1 s.zxNode 0 (word (u32 b 8)) a.stamp ns.length (1 + if p = .a then 2 else 0)
                  (ns.map (fun n => (a.point n).record)).flatten)))) ∧
          (u8 b 3 ≠ 4 → p = .m → exec c s = .next a) ∧
          (p ≠ .m →
            (∀ x, u8 b 3 = 1 → afind (zxKey b) s.pnt.seqIn = some x → newer (word (u32 b 8)) x.1 = false → exec c s = .next a) ∧
            ((∀ x, afind (zxKey b) s.pnt.seqIn = some x → newer (word (u32 b 8)) x.1 = true) →
              (u8 b 3 = 1 → s.zxEntry b = none → exec c s = .next (a.setSeqIn b none)) ∧
              (∀ r, u8 b 3 = 1 → s.zxEntry b = some r → exec c s = .next ((a.setSeqIn b none).applyRecords r b)) ∧
              (∀ r, u8 b 3 = 2 → s.zxEntry b = some r → rtFlag r 3 = true → s.effField .netCfg 0 1 ≠ 0 →
                u8 b 0x10 = rtCount r → (∀ n, n < u8 b 0x10 → (recordUpd r b n).isSome = true) →
                exec c s = .next (((a.setSeqIn b (some 0)).applyRecords r b).sendAck p u.src b 0)) ∧
              (∀ st, u8 b 3 = 2 →
                ((st = 1 ∧ s.zxEntry b = none) ∨
                 (∃ r, s.zxEntry b = some r ∧ ((st = 1 ∧ rtFlag r 3 = false) ∨
                   (rtFlag r 3 = true ∧ ((st = 2 ∧ s.effField .netCfg 0 1 = 0) ∨
                     (st = 3 ∧ s.effField .netCfg 0 1 ≠ 0 ∧
                       (u8 b 0x10 ≠ rtCount r ∨ ∃ n, n < u8 b 0x10 ∧ (recordUpd r b n).isNone = true))))))) →
                exec c s = .next ((((a.setSeqIn b (some st)).count .pntRefused).raise 100 .notice 0 st noIndex []).sendAck
                  p u.src b st))) ∧
            (∀ st, u8 b 3 = 2 → afind (zxKey b) s.pnt.seqIn = some (word (u32 b 8), some st) →
              exec c s = .next (a.sendAck p u.src b st))))) ∧
      (∀ p, s.portLive p = true →
        (∀ src b, p ≠ .m → exec (.icmpEchoRequest t p src b) s = .next (a.emit (.frame p 1 (wbytes src ++ b)))) ∧
        (∀ x, exec (.arpRequest t p x (s.portIp p)) s = .next (a.emit (.frame p 0x0806 (wbytes x ++ wbytes (s.portIp p))))) ∧
        (∀ v g, p ≠ .m → exec (.igmpQueryRx t p v g) s = .next
          (((s.groups (portNum p)).filter (fun h => g == 0 || h == g)).foldl
            (fun u h => u.emit (.frame p 2 (byte (if v ≥ 3 then 3 else 2) :: wbytes h))) a))) ∧
      (∀ e r x, s.routeByEntry e = some r → rtInbound r = true → 0 < rtStale r → x = s.routeSt (rtEntry r) → x.stale = false →
        x.since + rtStale r ≤ s.crs.courseCnt → exec (.routeEntryStale t e) s = .next
          (((a.setRouteSt (rtEntry r) { x with stale := true }).qualBit 2 true (rtPoints r)).raise 98 .notice 0 0 (rtEntry r) [])) ∧
      (∀ n x, n < 4 → x = vget s.pnt.streams n Stream.reset →
        ((x.pend = [] ∨ s.ringRoom (17 + n) = false) → exec (.streamPendingPost t n) s = .next a) ∧
        (∀ ps, x.pend ≠ [] → s.ringRoom (17 + n) = true → ps = (x.pend.take 3).map (fun m => (m, (s.point m).withOverrun)) →
          exec (.streamPendingPost t n) s = .next (State.streamDrain n x.pend.length (((a.withPnt
            { s.pnt with streams := vset s.pnt.streams n { x with pend := x.pend.drop 3, reported := false } }).putEntry
              (17 + n) (2 * ps.length) (streamBody n ps)).ringMsg (17 + n)))))) ∧
    (s.firmwareRuns = true → ∀ n x, n ≤ 3 →
      (x = a.withPnt { s.pnt with linkA := n } → exec (.netLinkChange t .a n) s = .next
        (if (s.pnt.linkA != 0) = (n != 0) then x else x.raise 97 .notice (b2n (s.pnt.linkA != 0)) 0 (portNum .a) [])) ∧
      (x = a.withPnt { s.pnt with linkB := n } → exec (.netLinkChange t .b n) s = .next
        (if (s.pnt.linkB != 0) = (n != 0) then x else x.raise 97 .notice (b2n (s.pnt.linkB != 0)) 0 (portNum .b) [])) ∧
      (x = a.withPnt { s.pnt with linkM := n != 0 } → exec (.netLinkChange t .m n) s = .next
        (if s.pnt.linkM = (n != 0) then x else x.raise 97 .notice (b2n s.pnt.linkM) 0 (portNum .m) [])))

/-- While frames run, of a controller that takes part in the bus and is not restricted: the attempt of the first pending
buffer, when lost to arbitration, ends its clash count and leaves it pending, but ends a buffer that is aborted or
attempted once; when it succeeds it gives out the content that stood at its start, lowers TEC by one and ends the
buffer, but leaves a newer content committed meanwhile pending; when it fails its error is counted, judged and taken
towards the clash of R402. A frame received lowers REC by one (to a value from 119 to 127 where it exceeded 127, a
free value of the model); a remote frame is then discarded, a base frame with the identifier of the time master
raises event source 108, an accepted extended one enters the FIFO and another is discarded. An error while receiving
is counted and raises REC, and a protocol exception with MODE bit 4 raises event source 109 and without it is a form
error. A bus-off controller with automatic recovery begins it after its wait; the end of recovery leaves it
error-active with TEC and REC zero and event source 104; unfinished assemblies end 750 ms after their last frame,
each counted with event source 107. Writing 1 to a bit of CAN_SINGLE returns that buffer to normal retransmission.
(spec/16_can_fd.md R391, spec/16_can_fd.md R395, spec/16_can_fd.md R396, spec/16_can_fd.md R399, spec/16_can_fd.md
R401, spec/16_can_fd.md R402, spec/16_can_fd.md R404, spec/16_can_fd.md R407) -/
def Obligations.CanRows : Prop :=
  ∀ (t c : Nat) (s a : State) (x : CanCtl), s.runs = true → c < 3 → a = s.instant t → x = s.canCtl c →
    (x.live = true →
      (∀ b d st y o, x.restricted = false → st = a.clk.now - d → a.canFirst c st b = true → y = x.buf b →
        o = (decide (st < y.time) && y.prev.isSome) →
        (∀ z, z = a.setCan c (x.setBuf b { y with clash := 0, prev := none }) →
          ((x.single.getLsbD b = true ∨ y.once = true) → o = false →
            exec (.canTxAttemptEnd t c b d .lost) s = .next (z.canEnd c b 2)) ∧
          ((o = true ∨ x.single.getLsbD b = false ∧ y.once = false) →
            exec (.canTxAttemptEnd t c b d .lost) s = .next (if y.abort = true then z.canEnd c b 1 else z))) ∧
        (∀ k m z, m = y.contentAt st →
          z = ((a.emit (.can c m.ident m.ext m.fd m.brs m.data)).setCan c { x.setBuf b { y with clash := 0, prev := none } with
            tdc := if m.brs = true ∧ s.canCfg c 9 1 ≤ 2 then k % 128 else x.tdc }).canLevels c (x.tec - 1) x.rxErr →
          exec (.canTxAttemptEnd t c b d (.sent k)) s = .next
            (if o = true then (if y.abort = true then z.canEnd c b 1 else z) else z.canEnd c b 0)) ∧
        (∀ e, exec (.canTxAttemptEnd t c b d (.error e)) s = .next (a.canTxError c b e o))) ∧
      (∀ z, z = (if 127 < x.rxErr then a.useFree.canLevels c x.tec (119 + Config.canRecAfter s.clk.free % 9)
          else a.canLevels c x.tec (x.rxErr - 1)) →
        (∀ i e data d, exec (.canFrameRx t c i e true data d) s = .next z) ∧
        (∀ i e data d, exec (.canFrameRx t c i e false data d) s = .next
          (if z.canAccepts c i e = true then z.canQueue c { ident := i, ext := e, data := data
                                                            stamp := z.devTime - 6000 - d, unc := z.canUnc c
                                                            time := z.clk.now } else z))) ∧
      (∀ k d n, 1 ≤ k → k ≤ 7 → (k = 7 → s.canModeBit c 4 = false) → exec (.canRxError t c k d n) s = .next
        (((a.setCan c { x with errCode := if k = 7 then 2 else k, errData := d, errTx := false }).count (canCtr c 0)).canLevels c
          x.tec (x.rxErr + 1 + 8 * n))) ∧
      (∀ d n, s.canModeBit c 4 = true → exec (.canRxError t c 7 d n) s = .next
        ((a.setCan c { x with errCode := 7, errData := d, errTx := false }).raise 109 .notice 0 0 c []))) ∧
    (x.state = 2 → s.canModeBit c 3 = true → x.offAt + 1000000 * s.canCfg c 0x0E 2 ≤ a.clk.now →
      exec (.canBusoffWaitExpiry t c) s = .next (a.canSetState c 3)) ∧
    (x.state = 3 → exec (.canRecoveryDone t c) s = .next
      ((a.setCan c { x with state := 0, tec := 0, rxErr := 0 }).raise 104 .warning 1 0 c [])) ∧
    (∀ dead : CanAsm → Bool, dead = (fun m => m.late a.clk.now && !x.waits m) → exec (.canReasmTimeout t c) s = .next
      ((x.asms.filter dead).foldl (fun u _ => (u.count (canCtr c 5)).raise 107 .notice 0 0 c [])
        (a.setCan c { x with asms := x.asms.filter (fun m => !dead m) }))) ∧
    (∀ w, a.answers (0xB010 + 0x400 * c) = true → a.accessStalled (0xB010 + 0x400 * c) = false →
      exec (.canSingleClear t c w) s = .next (a.setCan c { x with single := x.single &&& ~~~w }))

/-- A program that ends well leaves its record in the slot of its number and takes it from the holding area; a gap
record is then counted with event source 124, and the number that fills the foundation area raises event source 123,
programmed or consumed. A program or an erasure that fails in a running log makes it FAILED, consumes the number
being programmed, flags the held records and is counted with event source 122. An erasure that ends well lets the
next held record begin, with the next number. While frames run: an absent or identifying log with the recorder off
or no answering memory is ABSENT; a memory that does not meet R449 is UNSUPPORTED and one without a valid header is
UNFORMATTED, each with event source 123, and another one runs; a failed log takes LOG_CFG at each identification, is
ABSENT with the recorder off, changes no more while no memory answers, and runs again with event source 122 and its
gap records when the memory answers with the same identity, density and header generation. A write of LOG_CTRL with
FORMAT and its key formats an unformatted memory, with a START record and event source 123 (slots that are never
erased keep what they hold), and is ignored in every other state; the mark is saved into one copy and the next save
goes to the other. (spec/19_event_recorder.md R449, spec/19_event_recorder.md R450, spec/19_event_recorder.md R452,
spec/19_event_recorder.md R453, spec/19_event_recorder.md R454, spec/19_event_recorder.md R456,
spec/19_event_recorder.md R459) -/
def Obligations.RecorderRows : Prop :=
  ∀ (t : Nat) (s a : State), a = s.instant t →
    (∀ q r rest, s.log.prog = some q → s.log.hold = r :: rest →
      (∀ y z, y = a.withLog { s.log with prog := none, hold := rest, slots := aput (s.log.slotOf q) (r.bytes q) s.log.slots } →
        z = (if r.typ = 2 then (y.count .logGap).raise 124 .notice 0 0 noIndex [] else y) →
        exec (.logProgramDone t .good) s = .next (if 4095 ≤ s.log.posOf q ∧ s.log.foundFull = false
          then (z.withLog { z.log with foundFull := true }).raise 123 .notice 0 0 noIndex [] else z)) ∧
      (∀ y, s.log.state = .running → y = a.withLog { s.log with
          state := .failed, erasing := false, entered := if s.log.erasing then none else s.log.entered, prog := none
          consumed := s.log.consumed ++ [q], failSec := wordI (a.devTime / 1000000000)
          hold := s.log.hold.map (fun r => { r with flags := r.flags ||| 2 }) } →
        exec (.logProgramDone t .failed) s = .next (((if 4095 ≤ s.log.posOf q ∧ s.log.foundFull = false
          then (y.withLog { y.log with foundFull := true }).raise 123 .notice 0 0 noIndex [] else y).count .logFail).raise
            122 .alarm 0 0 noIndex []))) ∧
    (∀ x : Log, s.log.erasing = true → x = { s.log with erasing := false } →
      ((s.log.hold = [] ∨ s.log.prog.isSome = true ∨ s.pwr.save.isSome = true) →
        exec (.logEraseDone t .good) s = .next (a.withLog x)) ∧
      (s.log.hold ≠ [] → s.log.prog = none → s.pwr.save = none →
        exec (.logEraseDone t .good) s = .next (a.withLog { x with prog := some x.nextSeq }.bumpSeq)) ∧
      (s.log.prog = none → s.log.state = .running → exec (.logEraseDone t .failed) s = .next (((a.withLog { s.log with
        state := .failed, erasing := false, entered := none, failSec := wordI (a.devTime / 1000000000)
        hold := s.log.hold.map (fun r => { r with flags := r.flags ||| 2 }) }).count .logFail).raise 122 .alarm 0 0 noIndex []))) ∧
    (∀ b on ne, s.runs = true → b = a.takeCfg .ident → on = tbit (b.cfgReg .logCfg).toNat 8 → ne = tbit (b.cfgReg .logCfg).toNat 7 →
      (s.log.state = .absent ∨ s.log.state = .identifying →
        (∀ d, on = false ∨ d = none → exec (.logIdentify t d) s = .next (b.withLog { s.log with state := .absent, log2 := 0 })) ∧
        (∀ (d : LogDev) (x : Log), on = true → x = { s.log with
            log2 := (logDensity d.density).getD 0, jedec := d.jedec, slots := d.slots, noErase := ne, header := [] } →
          (logSupported ne d = false → exec (.logIdentify t (some d)) s = .next
            ((b.withLog { x with state := .unsupported }).raise 123 .notice 3 5 noIndex [])) ∧
          (logSupported ne d = true → headerOf d.headers = none → exec (.logIdentify t (some d)) s = .next
            ((b.withLog { x with state := .unformatted }).raise 123 .notice 3 2 noIndex [])) ∧
          (∀ h, logSupported ne d = true → headerOf d.headers = some h → Answers (.logIdentify t (some d)) s fun u =>
            u = b.identified d ∧ u.log.state = .running ∧ u.log.header = h ∧ u.log.slots = d.slots))) ∧
      (s.log.state = .failed →
        (∀ d, on = false → exec (.logReidentify t d) s = .next (b.withLog { s.log with state := .absent, log2 := 0 })) ∧
        (on = true → exec (.logReidentify t none) s = .next b) ∧
        (∀ (d : LogDev) (x : Log), on = true → x = { s.log with state := .running, slots := d.slots, noErase := ne } →
          logSupported ne d = true → d.jedec = s.log.jedec → logDensity d.density = some s.log.log2 →
          (headerOf d.headers).map (fun h => ule h 0x0E 2) = some s.log.gen → exec (.logReidentify t (some d)) s = .next
            ((b.withLog { x with hold := (b.withLog x).gapRecs false ++ s.log.hold, consumed := [] }).raise
              122 .notice 1 0 noIndex [])) ∧
        (∀ d : LogDev, on = true → (logSupported ne d = false ∨ d.jedec ≠ s.log.jedec ∨ logDensity d.density ≠ some s.log.log2 ∨
          (headerOf d.headers).map (fun h => ule h 0x0E 2) ≠ some s.log.gen) → exec (.logReidentify t (some d)) s = .next
            ((b.withLog { s.log with consumed := [] }).identified d))) ∧
      exec (.masonMarkSave t) s = .next (a.withMem { s.mem with
        marks := vset s.mem.marks s.mem.markNext { valid := true, secs := s.log.secs, secOvf := s.log.secOvf
                                                   cycles := s.log.cycles, cycOvf := s.log.cycOvf }
        markNext := 1 - s.mem.markNext })) ∧
    (∀ w, a.answers 0xF008 = true → a.accessStalled 0xF008 = false →
      (w.getLsbD 0 = true → w.extractLsb' 16 16 = 0x464D#16 → s.log.state = .unformatted → exec (.logFormat t w) s = .next
        (((a.withLog { s.log with
          state := .running, slots := if s.log.noErase then s.log.slots else [], nextSeq := 0, wraps := 0, gen := 0
          foundFull := false, erasing := false, entered := none, prog := none
          header := logHeader s.log.log2 (b2n s.log.noErase) 0 0 s.log.secs.toNat s.log.cycles }).startRecord []).raise
            123 .notice 3 3 noIndex [])) ∧
      ((w.getLsbD 0 = false ∨ w.extractLsb' 16 16 ≠ 0x464D#16 ∨ s.log.state ≠ .unformatted) → exec (.logFormat t w) s = .next a))

/-- An access wakes a retained bank with its group and counts it; an access to the window locked by a running slice
restores and aborts it, for a retry at least 100 µs later, and counts it. A read with an uncorrectable error poisons
the word, counts it, latches its address and raises event source 116 in the alarm class; an open item that reads it
is missed, and a lane ends its problem LANE_FAULT and is quarantined. The scrubber skips retained banks, counts a
corrected word, with a warning when ECC_WARN is reached within an hour, and treats an uncorrectable one so. Two
ports that write the same value to one mortar word leave it there and the transfer goes on; with different values
the first stands, the collision is counted with event source 117, and the transfer repeated from its start then
stands, while a second collision fails it with the bytes moved, counted as a failed read with event source 114. A
bank awake whose pass is not done after twice MARCH_PERIOD raises event source 117. While frames run: the owner of a
bank, or pair 5 for the array and the point engine, hands it over with its group, awake, with a slice in it aborted
and the DMA of its old owner ended, and a write by any other pair is counted with event source 116; the end of a
memory test marks the failed banks, raises event source 117 and completes the command with the count of failing
words, and a destructive one leaves its bank zero. (spec/20_on_chip_memory.md R469, spec/20_on_chip_memory.md R470,
spec/20_on_chip_memory.md R471, spec/20_on_chip_memory.md R472, spec/20_on_chip_memory.md R473,
spec/20_on_chip_memory.md R474, spec/20_on_chip_memory.md R477, spec/20_on_chip_memory.md R478,
spec/20_on_chip_memory.md R479, spec/20_on_chip_memory.md R480) -/
def Obligations.MemoryRows : Prop :=
  ∀ (t : Nat) (s a : State), a = s.instant t →
    (∀ b, (s.bank b).retained = true → Answers (.bankWake t b) s fun u =>
      u = (a.withMem { s.mem with
        banks := (s.mem.together b).foldl (fun v i => vmod v i (fun k => { k with retained := false })) s.mem.banks }).count .wake ∧
      ∀ c ∈ s.mem.together b, c < 64 → (u.bank c).retained = false) ∧
    (∀ b w, a.sliceNow = some (b, w) → exec (.marchSliceAbort t b w) s = .next ((a.withMem
      { s.mem.backSlice with locked := none, sliceEnd := 0, retryAfter := a.clk.now + 100000 }).count .sliceAbort)) ∧
    (∀ x m u, m = (if x.mortar = true
          then { s.mem with mortarPoisoned := if s.mem.mortarPoisoned.contains x.word then s.mem.mortarPoisoned
                                              else s.mem.mortarPoisoned ++ [x.word] }
          else { s.mem with poisoned := if s.mem.poisoned.contains x.word then s.mem.poisoned else s.mem.poisoned ++ [x.word] }) →
      u = ((a.withMem { m with eccAddr := word (x.word % 33554432 + if x.mortar then 33554432 else 0) }).count .eccUe).raise
        116 .alarm 0 0 noIndex [] →
      exec (.eccUncorrectable t x .other) s = .next u ∧
      (∀ code, exec (.eccUncorrectable t x (.item code)) s = .next (if u.runs = true ∧ u.itemOpen code = true
        then u.missHeld code else u)) ∧
      (∀ n p, n < 64 → (u.lane n).job = some p → exec (.eccUncorrectable t x (.lane n)) s = .next
        ((((u.endHeader n p 7).setLane n { u.lane n with job := none, warm := none, testFirst := true }).problemEnds
          p 7).quarantine n)) ∧
      (x.mortar = true ∨ (s.bank (s.mem.bankOf x.word)).retained = false →
        exec (.scrubberRead t x 0) s = .next a ∧
        (∀ l, l = s.mem.ceTimes.filter (fun c => decide (a.clk.now < c + 3600000000000)) ++ [a.clk.now] →
          exec (.scrubberRead t x 1) s = .next (if l.length < s.effField .memCfg 16 16
            then (a.count .eccCe).withMem { (a.count .eccCe).mem with ceTimes := l }
            else ((a.count .eccCe).withMem { (a.count .eccCe).mem with ceTimes := [] }).raise 116 .warning 0 0 noIndex [])) ∧
        ∀ n, 2 ≤ n → exec (.scrubberRead t x n) s = .next u)) ∧
    (∀ ring start (x : MortarXfer) v0 v1 z, start + x.words.length ≤ 131072 → x.words[x.reached]? = some v1 →
      z = (a.mortarWrite start (x.words.take x.reached)).mortarWrite (start + x.reached) [v0] →
      (∀ b, v0 = v1 → exec (.mortarWriteCollision t ring start x v0 b) s = .next
        (z.mortarWrite (start + x.reached + 1) (x.words.drop (x.reached + 1)))) ∧
      (∀ y, v0 ≠ v1 → y = (z.count .coll).raise 117 .warning 0 0 noIndex [] →
        exec (.mortarWriteCollision t ring start x v0 true) s = .next
          (((y.count .fetchErr).raise 114 .notice 0 0 ring []).bufferLost ring (8 * x.reached)) ∧
        exec (.mortarWriteCollision t ring start x v0 false) s = .next (y.mortarWrite start x.words))) ∧
    (∀ b, (s.bank b).passDone = false → (s.bank b).retained = false → s.mem.periodStart + 2 * s.marchPeriod ≤ a.clk.now →
      exec (.marchPassOverdue t b) s = .next (a.raise 117 .warning 0 0 noIndex [])) ∧
    (s.runs = true →
      (∀ w b o c, w ≤ 5 → b < 64 → (o ≤ 7 ∨ o = 15) → c = (s.bank b).owner →
        (w ≠ c → ¬ (w = 5 ∧ (c = 6 ∨ c = 7)) → exec (.bankHandover t w b o) s = .next
          ((a.count .ownErr).raise 116 .notice 0 0 noIndex [])) ∧
        (∀ e z, (w = c ∨ w = 5 ∧ (c = 6 ∨ c = 7)) → e = (if o = c then a else a.endOldDma (s.mem.together b)) →
          z = (if e.sliceNow.any (fun l => (s.mem.together b).contains l.1) = true then e.abortSlice else e).wakeBank b →
          exec (.bankHandover t w b o) s = .next (z.withMem { z.mem with
            banks := (s.mem.together b).foldl (fun v i => vmod v i (fun k => { k with owner := o })) z.mem.banks
            handBank := b, handOwner := o }))) ∧
      (∀ x n bs m bad, s.mem.test = some x → m = (if x.form = 1 ∧ x.target < 64 then s.mem.zeroBank x.target else s.mem) →
        bad = (if n = 0 then [] else if x.target ≤ 64 then [x.target] else bs.filter (fun b => decide (b ≤ 64))) →
        exec (.memTestDone t ⟨n, bs⟩) s = .next (((bad.foldl (fun u b => u.bankFailed b) (a.withMem m.endTest)).raise
          117 .notice 1 0 noIndex []).complete x.ring x.ref 0 (word (min n 0xFFFF))) ∧
        m.endTest.test = none ∧
        (x.form = 1 → x.target < 64 → ∀ c ∈ m.sram, s.mem.bankOf (c.1 / 8) ≠ x.target)))

/-- With the firmware running, a change of an enabled port is recorded with event source 91, counted when the port goes
down, and the tick port and topology follow; half of the measured trip is the cable delay of a port that is up.
While frames run: a part that does not master the link forwards a tick marker out of its other port with one more
hop, and keeps it as usable when it is good and carries the next course, a MEMBER counting one that is not, with
event source 93 on its tick port; a beacon on a port that is up gives, with a good CRC, the delay of the port, is
forwarded and taken with the delay of the hop added, and a beacon that R520 to R522 let the part take is kept as the
newest of its sender; a master silent for MASTER_LOSS courses makes a MEMBER ORPHAN with event source 92, and the
LISTEN or ORPHAN part that ranks first MASTER with event source 92; a shared block not published for its time sets
STALE with event source 94. (spec/23_cascade.md R518, spec/23_cascade.md R519, spec/23_cascade.md R523,
spec/23_cascade.md R524, spec/23_cascade.md R526, spec/23_cascade.md R527, spec/23_cascade.md R531) -/
def Obligations.CascadeRows : Prop :=
  ∀ (t : Nat) (s a : State), a = s.instant t →
    (∀ p up z, s.firmwareRuns = true → p < 2 → s.linkPortEn p = true → vget s.ylk.up p false ≠ up →
      z = a.withYlk { s.ylk with up := vset s.ylk.up p up } → exec (.linkPortChange t p up) s = .next
        ((((if up then z else z.count .linkDown).raise 91 .notice (b2n up) 0 p []).updateTickPort).updateTopo)) ∧
    (∀ p n, s.firmwareRuns = true → p < 2 → s.linkUp p = true → exec (.cableDelayMeasure t p n) s =
      .next (a.withYlk { s.ylk with cable := vset s.ylk.cable p (min 0xFFFF (n / 2)) })) ∧
    (s.runs = true →
      (∀ p h c g ok x z, p < 2 → s.linkUp p = true → s.ylk.state ≠ 0 → s.ylk.state ≠ 3 →
        ok = (g && c % 256 == (s.crs.courseCnt + 1) % 256) →
        x = (if s.linkUp (1 - p) = true ∧ h < 31 then a.emit (.marker (1 - p) (h + 1) (c % 256)) else a) →
        z = x.withYlk { s.ylk with
          markAt := vset s.ylk.markAt p (some a.clk.now), markOk := vset s.ylk.markOk p ok
          markBits := c % 256, masterAt := s.crs.courseCnt } →
        ((s.ylk.state ≠ 2 ∨ ok = true) → exec (.tickMarkerRx t p h c g) s = .next z) ∧
        (s.ylk.state = 2 → ok = false → exec (.tickMarkerRx t p h c g) s = .next
          (if s.ylk.tickPort = p then (z.count .tickMiss).raise 93 .notice 0 0 p [] else z.count .tickMiss))) ∧
      (∀ hd b k m p d z c, p = hd.port % 2 → s.ylk.state ≠ 0 → s.linkUp p = true → d = u32 b 12 + 160 + vget s.ylk.cable p 0 →
        z = (if hd.crc ≠ 0 then a else a.withYlk { s.ylk with
          bcnAt := vset s.ylk.bcnAt p (some s.crs.courseCnt)
          dacc := if hd.src = s.linkAddr then s.ylk.dacc else vset s.ylk.dacc p (min 0xFFFE d) }) →
        c = ({ src := hd.src, rank := u8 b 11, frame := hd.frame, time := ule b 0 6 * 1000000000 + u32 b 6, len := u8 b 10
               mask := word (u32 b 16), casc := k, pair := m, course := s.crs.courseCnt } : LinkBeacon) →
        Answers (.beaconRx t hd b k m) s fun u =>
          u = ((z.linkTake hd 4 b (b.take 12 ++ lebytes 4 d ++ b.drop 16) (State.takeBeacon hd.hops c)).updateTickPort).updateTopo ∧
          (s.Hears hd 4 b → afind (4 * hd.src + linkClass 4) u.ylk.seqIn = some hd.seq)) ∧
      (∀ l z, s.ylk.masterAt + s.masterLoss ≤ s.crs.courseCnt →
        (s.ylk.state = 1 ∨ s.ylk.state = 4 → exec (.masterLoss t l) s = .next (if s.ranksFirst l = true then a.becomeMaster else a)) ∧
        (s.ylk.state = 2 → z = ((a.setLinkState 4).raise 92 .alarm 0 0 s.ylk.master []).updateTickPort →
          exec (.masterLoss t l) s = .next (if z.ranksFirst l = true then z.becomeMaster else z))) ∧
      (∀ i p x m, i < u8 s.linkPart 0x0B → 0 < p → x = aget i ImportSt.reset s.ylk.imports → m = lkImport s.linkPart i →
        x.stale = false → x.since + u8 m 3 * p * s.frameCourses ≤ s.crs.courseCnt →
        exec (.sharedBlockStale t i p) s = .next (((a.withYlk { s.ylk with
          imports := aput i { x with stale := true } s.ylk.imports }).qualBit 2 true
            ((List.range (u8 m 2)).map (u32 m 4 + ·))).raise 94 .notice 0 0 i [])))

/-- With the host served: a load that no discard waits on ends VERIFIED and completes with OK when every check passes,
and REFUSED with the number of the first check that fails; a fetch that failed is counted with event source 114 and
ends REFUSED with the reason FETCH; a waiting discard stops the load at the next service run, or at the end of the
verification, which completes DISCARDED and leaves the slot EMPTY. With the firmware running, a reset of the host
interface with its clock running disables every ring, empties their outstanding lists, resets the crossings of its
domain, drops the commands that wait and leaves the locks and, but for the setpoints that wait, the DP control, and
with the clock stopped it is done when the clock runs again; the link training up raises event source 114. A
lockstep mismatch with the firmware running is kept with its first pair, raises event source 81 with the pair (the
source is the choice of the model, log entry 59) and makes the part lose its claim. (spec/03_vessel_model_image.md
R67, spec/17_host_rings.md R412, spec/17_host_rings.md R433, spec/01_architecture.md R14,
spec/02_courses_and_frames.md R53) -/
def Obligations.InterfaceAndLoadRows : Prop :=
  ∀ (t : Nat) (s a : State), a = s.instant t →
    (∀ w, s.hostServes = true → s.img.load = some w →
      (s.img.discard = [] →
        (∀ b n, w.hdr.dma = none → n = a.verifyImage w.hdr.len (padTo w.hdr.len b) →
          (n = 0 → exec (.imageVerifyDone t (some b)) s = .next ((a.withImg
            { s.img with slot := .verified, staged := padTo w.hdr.len b, load := none }).done w 0)) ∧
          (n ≠ 0 → exec (.imageVerifyDone t (some b)) s = .next ((a.withImg
            { s.img with slot := .refused n, staged := [], load := none }).refuse w n))) ∧
        (∀ b z, b = none ∨ w.hdr.dma ≠ none → z = (a.count .fetchErr).raise 114 .notice 0 0 w.ring [] →
          exec (.imageVerifyDone t b) s = .next
            ((z.withImg { z.img with slot := .refused 0x10, staged := [], load := none }).refuse w 0x10))) ∧
      (s.img.discard ≠ [] → ∀ c b, c ∈ [Instr.imageDiscardStop t, .imageVerifyDone t b] → Answers c s fun u =>
        u = s.img.discard.foldl (fun v d => v.done d 0)
          (((a.withImg { s.img with slot := .empty, staged := [], load := none }).refuse w 0x11).withImg
            { ((a.withImg { s.img with slot := .empty, staged := [], load := none }).refuse w 0x11).img with discard := [] }) ∧
        u.img.slot = .empty ∧ u.img.staged = [] ∧ u.img.load = none ∧ u.img.discard = [])) ∧
    (∀ k, k ≤ 3 → s.firmwareRuns = true →
      (vget s.glb.clkRun 7 true = true → Answers (.hostInterfaceReset t k) s fun u => u = a.resetHost k ∧
        (∀ r, (u.ring r).state = .disabled ∧ (u.ring r).en = false ∧ (u.ring r).outst = []) ∧ u.hrg.waiting = [] ∧
        u.regs.locks = s.regs.locks ∧ { u.ctl with spWait := s.ctl.spWait } = s.ctl) ∧
      (vget s.glb.clkRun 7 true = false → exec (.hostInterfaceReset t k) s = .next (a.withHrg { s.hrg with resetDue := some k }))) ∧
    (s.firmwareRuns = true → s.hrg.linkUp = false → exec (.pcieLinkUp t) s =
      .next ((a.withHrg { s.hrg with linkUp := true }).raise 114 .notice 1 0 noIndex [])) ∧
    (∀ p, p < 6 → s.firmwareRuns = true → exec (.lockstepMismatch t p) s = .next (((a.withRdn
      { s.rdn with mismatch := true, mismatchOf := s.rdn.mismatchOf.or (some p) }).raise 81 .alarm 0 3 p []).loseClaim))

/-- Outside a hold-up save, RESET_N, the plinth watchdog (with frames running, 10 ms after pair 5 fed it), a keyed
GLB_RESET in STANDBY and PART_RESET of causes 3 to 6 put the part into reset with their cause, and during a save
they have no effect; a lost core PLL resets the part even then, and so does the end of a save that kept nothing,
which holds the plinth in reset until power-on. Every part reset, and the reset at power-on, leaves every lock
clear, the DP mode STANDBY and no image, opens the switches of every safe output that was on or under its start-up
test, and keeps the OTP identity records, keys, revocations and bindings as an interrupted programming leaves them
(unchanged with no OTP operation in progress), the slots of the log memory, and the commands that wait.
(spec/21_clock_domains_and_resets.md R490, spec/21_clock_domains_and_resets.md R491,
spec/21_clock_domains_and_resets.md R492, spec/21_clock_domains_and_resets.md R493, spec/25_register_map.md R558,
spec/24_configuration_security.md R535) -/
def Obligations.ResetsKeepWhatTheyMust : Prop :=
  ∀ (t : Nat) (s : State),
    let a := s.instant t
    let k := s.sec.interrupt s.clk.free
    let kept : State → Prop := fun u => u.pwr.inReset = true ∧ (∀ l, u.locked l = false) ∧ u.ctl.mode = 0 ∧ u.hasImage = false ∧
      u.sec.idRecords = k.idRecords ∧ u.sec.keys = k.keys ∧ u.sec.revoked = k.revoked ∧ u.sec.fwRevoked = k.fwRevoked ∧
      u.sec.bindings = k.bindings ∧ u.sec.steps = k.steps ∧ u.log.slots = s.log.slots ∧ u.pending = s.pending ∧
      u.outbox = s.outbox ++ s.openPins
    (s.sec.otpBusy = none → k = s.sec) ∧
    (s.pwr.save = none →
      Answers (.resetNAssert t) s (fun u => u = a.resetPart 3 1 ∧ kept u ∧ u.pwr.cause = 3) ∧
      ((s.runs = false ∨ s.glb.fedAt + 10000000 ≤ a.clk.now) →
        Answers (.plinthWatchdogExpiry t) s (fun u => u = a.resetPart 5 1 ∧ kept u ∧ u.pwr.cause = 5)) ∧
      (∀ c, 3 ≤ c → c ≤ 6 → Answers (.partReset c) s (fun u => u = s.resetPart c 1 ∧ kept u ∧ u.pwr.cause = c)) ∧
      (∀ w : Word, s.answers 0x114 = true → s.accessStalled 0x114 = false → w.extractLsb' 16 16 = 0x5253#16 → w.getLsbD 0 = true →
        (s.ctl.mode = 0 → Answers (.glbResetWrite w) s (fun u => u = s.resetPart 6 1 ∧ kept u ∧ u.pwr.cause = 6)))) ∧
    (s.pwr.save.isSome = true → exec (.resetNAssert t) s = .next a ∧
      ∀ c, 3 ≤ c → c ≤ 6 → c ≠ 4 → exec (.partReset c) s = .next s) ∧
    Answers (.corePllLockLoss t) s (fun u => u = a.breakSave.resetPart 4 1 ∧ kept u ∧ u.pwr.cause = 4) ∧
    (s.pwr.save = some .none → Answers (.holdupSaveEnd t) s (fun u => u = s.resetPart 2 0 ∧ kept u ∧ u.pwr.cause = 2 ∧ u.pwr.held = true)) ∧
    Answers .powerOnReset s kept

/-- A stop of the plinth, core or REFCLK clock is recorded and resets the part with cause clock loss, also during a
save; a stop of another domain clock is recorded with event source 126 and stalls the crossings of the domain, and
that of the buttress is an island fault. A clock that runs again raises event source 126, and the PCIe clock then
completes a reset of the host interface that waited for it. A request of a stopped crossing without an access is
counted, stalls the crossing and, while frames run, costs an open item its result, and one of a register access ends
the access; a crossing whose clocks both run is reset. 100 µs after the last source a part in reset whose three
clocks run leaves it with the seal code of its straps. (spec/21_clock_domains_and_resets.md R482,
spec/21_clock_domains_and_resets.md R486, spec/21_clock_domains_and_resets.md R488,
spec/21_clock_domains_and_resets.md R489, spec/21_clock_domains_and_resets.md R490,
spec/21_clock_domains_and_resets.md R492, spec/21_clock_domains_and_resets.md R494) -/
def Obligations.ClockRows : Prop :=
  ∀ (t : Nat) (s a : State), a = s.instant t →
    (∀ d b, d < 11 → vget s.glb.clkRun d false = true → b = a.withGlb { s.glb with clkRun := vset s.glb.clkRun d false } →
      (d = 0 ∨ d = 1 ∨ d = 3 → exec (.clockStopped t d) s = .next (b.breakSave.resetPart 4 1)) ∧
      (∀ c, c = (List.range 32).foldl (fun u n => if crossingIn n d = true then u.stall n else u) (b.raise 126 .notice 0 1 d []) →
        (d = 2 → exec (.clockStopped t d) s = .next c.islandFault) ∧
        (d ≠ 0 → d ≠ 1 → d ≠ 2 → d ≠ 3 → exec (.clockStopped t d) s = .next c ∧ vget c.glb.clkRun d true = false ∧
          ∀ n, n < 32 → crossingIn n d = true → vget c.glb.xState n 0 = 2))) ∧
    (∀ d b, d < 11 → vget s.glb.clkRun d true = false →
      b = (a.withGlb { s.glb with clkRun := vset s.glb.clkRun d true }).raise 126 .notice 1 1 d [] →
      (d ≠ 7 ∨ s.hrg.resetDue = none → exec (.clockRunningAgain t d) s = .next b) ∧
      (∀ k, d = 7 → s.hrg.resetDue = some k → exec (.clockRunningAgain t d) s = .next
        (b.resetHost k))) ∧
    (∀ c i b, (crossingRow c).1 = 0 → s.crossingClocks c = false → b = (a.count .xTimeout).stall c →
      exec (.crossingTimeout t c i none) s = .next (if b.runs = true ∧ b.itemOpen i = true then b.missHeld i else b) ∧
      (∀ o, (accessCrossings o).contains c = true → exec (.crossingTimeout t c i (some o)) s = .next
        ((b.count .badAccess).raise 127 .notice 5 0 (o % 65536) [])) ∧
      (∀ o, (accessCrossings o).contains c = false → exec (.crossingTimeout t c i (some o)) s = .next
        (if b.runs = true ∧ b.itemOpen i = true then b.missHeld i else b))) ∧
    (∀ c n, c < 32 → s.crossingClocks c = true → exec (.crossingReset t c n) s = .next (a.resetCrossing c n) ∧
      vget (a.resetCrossing c n).glb.xState c 2 = 0) ∧
    (∀ k, s.pwr.inReset = true → s.pwr.phase = 2 → vget s.glb.clkRun 0 false = true → vget s.glb.clkRun 1 false = true →
      vget s.glb.clkRun 3 false = true → exec (.partResetRelease k) s =
        .next ((s.withPwr { s.pwr with inReset := false }).withSec { s.sec with sealCode := k }))

/-- In reset, with the plinth not held until power-on, a feed in range with REFCLK running begins BOOT, the charger and
the device time from the real-time counter; a good BOOT goes on to BOOT_WAIT, and one with a failed check or bank
goes to FAILED, marks the banks and raises event source 120 in the alarm class; in BOOT_WAIT a keyed GO starts the
fetch at the address and length of its registers, and any other write of PWR_BOOT has no effect; authentication with
result OK goes on to SELFTEST with the firmware running, any other result returns to BOOT_WAIT; good self-tests go
on to RESTORE, with each lane that failed its known-answer test counted and quarantined, and failed ones go to
FAILED with event source 120; RESTORE ends in RUNNING with its cause and the area that it takes, and with both
reserve areas cleared. (spec/22_power_and_startup.md R508, spec/22_power_and_startup.md R510,
spec/22_power_and_startup.md R511, spec/22_power_and_startup.md R512, spec/22_power_and_startup.md R513,
spec/20_on_chip_memory.md R478) -/
def Obligations.StartUpRows : Prop :=
  ∀ (t : Nat) (s a : State), a = s.instant t →
    (∀ va vb rtc b, s.pwr.inReset = true → s.pwr.held = false → s.pwr.phase < 2 → (feedInRange va = true ∨ feedInRange vb = true) →
      vget s.glb.clkRun 3 false = true → b = (s.setFeed 0 (va % 65536)).setFeed 1 (vb % 65536) →
      Answers (.feedQualified va vb rtc) s fun u =>
        u = (b.withPwr { b.pwr with phase := 2, charging := true, rtcValid := rtc.isSome
                                    rtc := rtc.map (fun x => (x.1 : Int) - s.clk.now) }).startTime rtc ∧
        u.pwr.phase = 2 ∧ u.pwr.charging = true ∧ u.pwr.vina = va % 65536 ∧ u.pwr.vinb = vb % 65536) ∧
    (s.pwr.inReset = false →
      (∀ f bs n b, s.pwr.phase = 2 → n = f % 8 ||| (if bs.isEmpty then 0 else 4) → b = a.withMem { s.mem with
          banks := bs.foldl (fun v i => vmod v i (fun k => { k with failed := true })) s.mem.banks, sram := [], mortar := [] } →
        (n = 0 → exec (.bootDone t f bs) s = .next (b.withPwr { s.pwr with phase := 3 })) ∧
        (n ≠ 0 → exec (.bootDone t f bs) s = .next
          ((b.withPwr { s.pwr with phase := 8, selftest := n }).raise 120 .alarm 0 0 noIndex []))) ∧
      (∀ i : FwImage, s.pwr.phase = 4 →
        (s.authResult i = 1 → exec (.fwAuthDone t i) s = .next ((((a.withPwr { s.pwr with
          fwResult := 1, fwRelease := i.release % 65536, fwGo := none, phase := 5 }).withGlb
            { s.glb with fwRunning := true, fwRelease := i.release % 65536 }).withSec
              { s.sec with runVersion := i.secVersion % 256 }).withMem s.mem.firmwareMap)) ∧
        (s.authResult i ≠ 1 → exec (.fwAuthDone t i) s = .next (a.withPwr { s.pwr with
          fwResult := s.authResult i, fwRelease := i.release % 65536, fwGo := none, phase := 3 }))) ∧
      (∀ f ls, s.pwr.phase = 5 →
        (f % 256 = 0 → Answers (.selftestDone t f ls) s fun u => u.pwr.phase = 6 ∧
          ∃ b, b = ls.foldl (fun v l => (v.count .vslKatFail).quarantine l)
            (a.withVsl { s.vsl with lanes := s.vsl.lanes.map (fun x => { x with lastKat := s.crs.courseCnt }) }) ∧
          u = b.withPwr { b.pwr with phase := 6 }) ∧
        (f % 256 ≠ 0 → exec (.selftestDone t f ls) s = .next
          ((a.withPwr { s.pwr with phase := 8, selftest := f % 256 }).raise 120 .alarm 0 0 noIndex []))) ∧
      (s.pwr.phase = 6 → Answers (.restoreDone t) s fun u => u.pwr.phase = 7 ∧ u.pwr.cause = s.causeFound.1 ∧
        u.pwr.kept = s.causeFound.2 ∧ u.mem.rsvRestored = s.causeFound.2.isSome ∧
        u.mem.areaA = { s.mem.areaA with magic := false, mark := false } ∧
        u.mem.areaB = { s.mem.areaB with magic := false, mark := false })) ∧
    (∀ w : Word, s.answers 0xE018 = true → s.accessStalled 0xE018 = false →
      (s.pwr.phase = 3 → w.getLsbD 0 = true → w.extractLsb' 16 16 = 0x4254#16 → exec (.pwrBootGo w) s = .next (s.withPwr
        { s.pwr with phase := 4, fwGo := some ((s.cfgReg .pwrFwAddrLo).toNat + 4294967296 * (s.cfgReg .pwrFwAddrHi).toNat,
                                               (s.cfgReg .pwrFwLen).toNat) })) ∧
      ((s.pwr.phase ≠ 3 ∨ w.getLsbD 0 = false ∨ w.extractLsb' 16 16 ≠ 0x4254#16) → exec (.pwrBootGo w) s = .next s))

/-- Outside a save, a completed charge records the voltage, the ESR from the step of the current and, after a first
charge, the capacitance from its rise, ends charging and judges both; a test of a full supply due after HOLD_TEST
hours records the capacitance from the fall, charges again and judges it. With a feed present a battery below
VBAT_WARN is flagged once with event source 120 and one at or above it is not low; with the counter on VBAT a
battery below 1.8 V makes the counter invalid. With both feeds lost, out of reset and from BOOT on: without running
firmware the part is reset with cause 2; with it, a save of the kind that the voltage allows begins, the array is
aborted, the buttress saves, the rings are disabled and no command waits; the end of a save writes the area that
does not hold the newest valid save, with its mark, and resets the part with the cause of the save.
(spec/22_power_and_startup.md R500, spec/22_power_and_startup.md R501, spec/22_power_and_startup.md R502,
spec/22_power_and_startup.md R503, spec/22_power_and_startup.md R504, spec/22_power_and_startup.md R515,
spec/20_on_chip_memory.md R475) -/
def Obligations.HoldUpRows : Prop :=
  ∀ (t v : Nat) (s a : State), a = s.instant t →
    (∀ d r, s.pwr.save = none → Answers (.holdChargeComplete t v d r) s fun u =>
      u = ((a.withPwr { s.pwr with charging := false, esr := min (d / 100) 1023
                                   cap := min (match r with | some x => x / 400 | none => s.pwr.cap) 2047 }).judgeHold
            (v % 2048)).judgeCap ∧
      u.pwr.charging = false ∧ u.pwr.esr = min (d / 100) 1023 ∧ u.pwr.hold = v % 2048 ∧ u.pwr.full = holdFull (v % 2048) ∧
      u.pwr.holdFault = !capGood u.pwr.cap u.pwr.esr) ∧
    (s.pwr.save = none → s.pwr.full = true → s.pwr.testAt + 3600000000000 * s.effField .pwrCfg 0 8 ≤ a.clk.now →
      Answers (.holdTest t v) s fun u => u = (a.withPwr { s.pwr with
        cap := min (v / 40) 2047, charging := true, testAt := a.clk.now }).judgeCap ∧ u.pwr.cap = min (v / 40) 2047) ∧
    (∀ b, b = a.withPwr { s.pwr with vbat := v % 4096 } →
      (v < 100 * s.effField .pwrCfg 8 6 → exec (.vbatLow t v false) s = .next (if s.pwr.vbatLow = true then b
        else (a.withPwr { s.pwr with vbat := v % 4096, vbatLow := true }).raise 120 .warning 0 0 noIndex [])) ∧
      (100 * s.effField .pwrCfg 8 6 ≤ v → exec (.vbatLow t v false) s = .next
        (a.withPwr { s.pwr with vbat := v % 4096, vbatLow := false })) ∧
      exec (.vbatLow t v true) s = .next (if v < 1800 then a.withPwr { s.pwr with vbat := v % 4096, rtc := none } else b)) ∧
    (s.pwr.inReset = false → 2 ≤ s.pwr.phase → s.pwr.save = none →
      (s.firmwareRuns = false → exec (.holdupSaveStart t v) s = .next (a.resetPart 2 1)) ∧
      (s.firmwareRuns = true → Answers (.holdupSaveStart t v) s fun u =>
        u.pwr.save = some (if 775 ≤ v then .full else if 400 ≤ v then .short else .none) ∧ u.pwr.charging = false ∧
        u.vsl.queue = [] ∧ u.vsl.feed = [] ∧ u.btr.save = true ∧ u.hrg.waiting = [] ∧ u.evt.queue = [] ∧
        ∀ r, r < 22 → (u.ring r).state = .disabled ∧ (u.ring r).outst = [])) ∧
    (∀ k, s.pwr.save = some k → k ≠ .none → Answers (.holdupSaveEnd t) s fun u =>
      u.pwr.inReset = true ∧ u.pwr.latched = (if k = .full then 1 else 2) ∧
      ∃ x : SaveArea, x.magic = true ∧ x.mark = true ∧ x.seq = s.mem.saveInto.2 ∧ x.frame = s.crs.frame ∧
        (k = .short → x.length = 0) ∧ (k = .full → x.hold = s.log.hold ∧ x.staging = s.evt.staging) ∧
        (if s.mem.saveInto.1 then u.mem.areaB = x ∧ u.mem.areaA = s.mem.areaA
          else u.mem.areaA = x ∧ u.mem.areaB = s.mem.areaB))

/-- A write of GLB_OTP_CTRL without its key is ignored, and one during an operation only marks that it was tried. A
keyed one while none is in progress: the reads fill the data window with result OK, or end BAD_DATA for a slot that
does not exist; outside provisioning the writes, revocations and bindings end DENIED; in provisioning an operation
that passes its checks starts, and another one ends with the result of the check it fails: FULL with no identity
record or binding left, BAD_DATA for a key slot that is filled or does not exist or for a key or code that is not
allowed, LAST_KEY where no other key stays unrevoked. OP 8 ends FULL with all 64 steps used, starts while RUNNING in
STANDBY with steps left to raise, and otherwise ends DENIED. The end of an operation is its effect on the fuses, or
what an interrupted one leaves, raises event source 120 with OP and SLOT and ends OK, or WRITE_FAIL when it failed,
but BUSY after a keyed write tried meanwhile; the write that uses the last step raises source 120 once more.
(spec/24_configuration_security.md R535, spec/24_configuration_security.md R536, spec/24_configuration_security.md
R537, spec/24_configuration_security.md R538, spec/24_configuration_security.md R540) -/
def Obligations.OtpRows : Prop :=
  ∀ (n : Nat) (s : State), s.answers 0x214 = true → s.accessStalled 0x214 = false →
    let empty : KeySlot := ⟨false, false, 0, [], []⟩
    let ops : Nat → List Instr := fun k => [.otpReadIdentity n k, .otpReadKey n k, .otpWriteIdentity n k, .otpWriteKey n k,
      .otpRevokeKey n k, .otpRevokeFwKey n k, .otpBindSeal n k, .otpRaiseVersion n k]
    (∀ k, k ≠ 0x4F54 → ∀ i ∈ ops k, exec i s = .next s) ∧
    (s.sec.otpBusy.isSome = true → ∀ i ∈ ops 0x4F54, exec i s = .next (s.withSec { s.sec with otpHit := true })) ∧
    (s.sec.otpBusy = none →
      (n < 8 → exec (.otpReadIdentity n 0x4F54) s = .next (s.withSec { s.sec.setWindow (s.sec.idRecord n) with otpResult := 0 })) ∧
      (8 ≤ n → exec (.otpReadIdentity n 0x4F54) s = .next (s.otpEnd 4)) ∧
      (∀ k, n < 4 → k = vget s.sec.keys n empty → exec (.otpReadKey n 0x4F54) s = .next (s.withSec
        { s.sec.setWindow (wbytes k.keyId ++ padTo 48 k.x ++ padTo 48 k.y) with otpResult := 0 })) ∧
      (4 ≤ n → exec (.otpReadKey n 0x4F54) s = .next (s.otpEnd 4)) ∧
      (s.provisioning = false → ∀ i ∈ [Instr.otpWriteIdentity n 0x4F54, .otpWriteKey n 0x4F54, .otpRevokeKey n 0x4F54,
        .otpRevokeFwKey n 0x4F54, .otpBindSeal n 0x4F54], exec i s = .next (s.otpEnd 2)) ∧
      (s.provisioning = true →
        exec (.otpWriteIdentity n 0x4F54) s = .next (if s.sec.idRecords.length < 8 then s.otpStart 3 n else s.otpEnd 3) ∧
        (∀ k, k = keyIn s.sec.window →
          (n < 4 → (vget s.sec.keys n empty).used = false → k.keyId ≠ 0 →
            (∀ j, j < 4 → (vget s.sec.keys j empty).used = true → (vget s.sec.keys j empty).keyId ≠ k.keyId) →
            onP384 (beNat k.x) (beNat k.y) = true → exec (.otpWriteKey n 0x4F54) s = .next (s.otpStart 4 n)) ∧
          ((4 ≤ n ∨ (vget s.sec.keys n empty).used = true ∨ k.keyId = 0 ∨
            (∃ j, j < 4 ∧ (vget s.sec.keys j empty).used = true ∧ (vget s.sec.keys j empty).keyId = k.keyId) ∨
            onP384 (beNat k.x) (beNat k.y) = false) → exec (.otpWriteKey n 0x4F54) s = .next (s.otpEnd 4))) ∧
        (∀ j, n < 4 → j < 4 → j ≠ n → (vget s.sec.keys j empty).valid = true → vget s.sec.revoked j true = false →
          exec (.otpRevokeKey n 0x4F54) s = .next (s.otpStart 5 n)) ∧
        (n < 4 → (∀ j, j < 4 → j ≠ n → (vget s.sec.keys j empty).valid = true → vget s.sec.revoked j true = true) →
          exec (.otpRevokeKey n 0x4F54) s = .next (s.otpEnd 5)) ∧
        (4 ≤ n → exec (.otpRevokeKey n 0x4F54) s = .next (s.otpEnd 4)) ∧
        exec (.otpRevokeFwKey n 0x4F54) s = .next (if 2 ≤ n then s.otpEnd 4
          else if vget s.sec.fwRevoked (1 - n) true = true then s.otpEnd 5 else s.otpStart 6 n) ∧
        exec (.otpBindSeal n 0x4F54) s = .next (if (s.sec.otpData[0]).setWidth 16 = 0#16 then s.otpEnd 4
          else if s.sec.bindings.length < 32 then s.otpStart 7 n else s.otpEnd 3)) ∧
      exec (.otpRaiseVersion n 0x4F54) s = .next (if 64 ≤ s.sec.steps then s.otpEnd 3
        else if s.pwr.phase = 7 ∧ s.ctl.mode = 0 ∧ s.sec.steps < s.sec.runVersion then s.otpStart 8 n else s.otpEnd 2)) ∧
    (∀ (t : Nat) (o : OtpOp) (g : Bool) (x : Sec) (b : State), s.sec.otpBusy = some o →
      x = (if g then s.sec.program o else s.sec.interrupt s.clk.free) →
      b = ((s.instant t).useFree.withSec { x with
        otpBusy := none, otpHit := false, otpResult := if s.sec.otpHit then 1 else if g then 0 else 6 }).raise
          120 .notice 0 0 noIndex [word o.op, word o.slot] →
      exec (.otpOperationDone t g) s = .next (if x.steps = 64 ∧ s.sec.steps ≠ 64 then b.raise 120 .notice 0 0 noIndex [] else b))

/-- Where the block answers and no crossing is stalled: CRS_TBL_INDEX latches the selected table entry and the
generation, SNI_ENTRY selects the entry shown, GNS_NOTCH_SEL latches the frequency of the notch, VSL_LANE_SEL the
state of the lane, PNT_SEL one point whole, TIM_LATCH device time with the anchor, TIM_CAP_SEL the newest capture,
MEM_BANK_SEL and GLB_XSEL the state of bank and crossing; the next state is the old one with exactly those latches.
(spec/02_courses_and_frames.md R57, spec/04_sensor_intake.md R104, spec/05_gnss_baseband.md R132,
spec/09_voussoir_solver_array.md R260, spec/15_point_image_and_networks.md R390, spec/12_time_base.md R318,
spec/12_time_base.md R320, spec/20_on_chip_memory.md R481, spec/21_clock_domains_and_resets.md R497,
spec/25_register_map.md R550) -/
def Obligations.SelectRegistersLatchInOneStep : Prop :=
  ∀ (t : Nat) (w : Word) (s : State),
    let on : Nat → Prop := fun o => s.answers o = true ∧ s.accessStalled o = false
    (on 0x4030 → exec (.crsTblIndexWrite w) s = .next (s.withCrs { s.crs with
      tblIndex := w.toNat % 1024, tblLatchGen := s.crs.tblGen, tblWord0 := (s.crs.table.getD (w.toNat % 1024) (0, 0)).1
      tblWord1 := (s.crs.table.getD (w.toNat % 1024) (0, 0)).2 })) ∧
    (on 0x8010 → exec (.sniEntryWrite w) s = .next (s.withSni { s.sni with entrySel := w.toNat % 64 })) ∧
    (on 0x7030 → exec (.gnsNotchSelWrite w) s = .next (s.withGns { s.gns with
      sel := w.toNat % 16, freq := if (s.notch (w.toNat % 16)).active then BitVec.ofInt 16 (80 * (s.notch (w.toNat % 16)).bin) else 0 })) ∧
    (∀ x, on 0x904C → x = s.lane (w.toNat % 64) → exec (.vslLaneSelWrite w) s = .next (s.withVsl { s.vsl with
      sel := w.toNat % 64, info := word (x.state + 4 * x.quarCnt + 32 * x.passes) })) ∧
    (on 0xA024 → exec (.pntSelWrite w) s = .next (s.withPnt { s.pnt with
      sel := w.toNat % 131072, latched := s.point (w.toNat % 131072) })) ∧
    ((s.instant t).answers 0x604C = true → (s.instant t).accessStalled 0x604C = false → w.getLsbD 0 = true →
      exec (.timLatchWrite t w) s = .next ((s.instant t).withTim { s.tim with
        latNow := (s.instant t).devTime, latAnchor := s.tim.anchor })) ∧
    (on 0x606C → exec (.timCapSelWrite w) s = .next (s.withTim { s.tim with
      capSel := w.toNat % 4, latCap := (s.capture (w.toNat % 4)).newest })) ∧
    (on 0x5010 → Answers (.memBankSelWrite w) s fun u => u.mem.selBank = w.toNat % 64 ∧
      bits u.mem.info.toNat 0 4 = (s.bank (w.toNat % 64)).owner % 16) ∧
    (on 0x104 → Answers (.glbXselWrite w) s fun u => u.glb.xsel = w.toNat % 32 ∧ u.glb.clkRun = s.glb.clkRun)

/-- From every state, a step that answers a next state leaves every lock that was set still set, unless the part is then
in reset; it leaves every revoked image key and firmware key revoked, and it only adds identity records and seal
bindings behind those that are there. No command of the table, register write or reset does otherwise.
(spec/25_register_map.md R553, spec/25_register_map.md R558, spec/24_configuration_security.md R535,
spec/24_configuration_security.md R543) -/
def Obligations.LocksAndFusesOnlyRise : Prop :=
  ∀ (s u : State), step s = .next u →
    (∀ l, s.locked l = true → u.locked l = true ∨ u.pwr.inReset = true) ∧
    (∀ i, i < 4 → vget s.sec.revoked i false = true → vget u.sec.revoked i false = true) ∧
    (∀ i, i < 2 → vget s.sec.fwRevoked i false = true → vget u.sec.fwRevoked i false = true) ∧
    s.sec.idRecords <+: u.sec.idRecords ∧ s.sec.bindings <+: u.sec.bindings

/-- Where the block answers and no crossing is stalled: LOCK_ALL sets every lock, after which GLB_LOCKMAP reads 0x7FFF;
a write of 1 to a clear LOCK field sets that lock alone, a write to a set one is refused and counted; each of the
three peaks is set to the present level; a whole-word write of any configuration register takes its masked value
where its lock is clear (the firmware address and length only in BOOT_WAIT), and where it is set is refused, counted
in GLB_CFG_DENIED and reported by the source of its block with qualifier 4 and its offset; a write with partial byte
enables is discarded, counted and reported by source 127, outside the reserved offsets. A write to a block that does
not answer, or to an offset that is no whole word, has no effect. (spec/25_register_map.md R548,
spec/25_register_map.md R549, spec/25_register_map.md R553, spec/25_register_map.md R554,
spec/24_configuration_security.md R543, spec/04_sensor_intake.md R103, spec/00_scope.md R7) -/
def Obligations.RegisterWriteRows : Prop :=
  ∀ (t : Nat) (w : Word) (s a : State), a = s.instant t →
    let on : Nat → Prop := fun o => a.answers o = true ∧ a.accessStalled o = false
    (s.answers 0x21C = true → s.accessStalled 0x21C = false → w.getLsbD 0 = true → Answers (.lockAll w) s fun u =>
      u = s.withRegs { s.regs with locks := Vector.replicate 15 true } ∧ (∀ l, u.locked l = true) ∧ u.regValue 0x0018 = 0x7FFF#32) ∧
    (∀ l : LockId, s.answers l.offset = true → s.accessStalled l.offset = false →
      (s.locked l = true → exec (.lockSet l.idx w) s = .next (s.deniedWrite l.offset)) ∧
      (s.locked l = false → w.getLsbD 0 = false → exec (.lockSet l.idx w) s = .next s) ∧
      (s.locked l = false → w.getLsbD 0 = true → Answers (.lockSet l.idx w) s fun u =>
        u = s.withRegs { s.regs with locks := s.regs.locks.set l.idx true } ∧
        u.locked l = true ∧ ∀ m, m ≠ l → u.locked m = s.locked m)) ∧
    (on 0x3030 → w.getLsbD 4 = true → Answers (.peakClear t 0x3030 w) s fun u => u.evt.peak = s.evt.queue.length) ∧
    (on 0x802C → w.getLsbD 4 = true → Answers (.peakClear t 0x802C w) s fun u => u.sni.peak = s.sni.buffer.length) ∧
    (on 0x9048 → w.getLsbD 10 = true → Answers (.peakClear t 0x9048 w) s fun u => u.vsl.peak = s.vsl.queue.length) ∧
    (∀ r : CfgReg,
      (on r.offset →
        (∀ l, r.lock = some l → s.locked l = true → exec (.registerWrite t r.offset 15 w) s =
          .next ((a.raise (accessSource r.offset) .warning 4 0 (r.offset % 65536) []).count .cfgDenied)) ∧
        ((∀ l, r.lock = some l → s.locked l = false) →
          (r.offset < 0xE01C ∨ 0xE024 < r.offset ∨ s.pwr.phase = 3 →
            exec (.registerWrite t r.offset 15 w) s = .next (a.setCfg r (w &&& r.mask))) ∧
          (0xE01C ≤ r.offset → r.offset ≤ 0xE024 → s.pwr.phase ≠ 3 → exec (.registerWrite t r.offset 15 w) s = .next a))) ∧
      (a.answers r.offset = false → exec (.registerWrite t r.offset 15 w) s = .next a)) ∧
    (∀ o be, o % 4 = 0 → o < 0x10000 → be % 16 ≠ 15 → on o → exec (.registerWrite t o be w) s =
      .next (if 0xBC00 ≤ o ∧ o < 0xC000 then a else (a.count .badAccess).raise 127 .notice 5 0 (o % 65536) [])) ∧
    (∀ o be, o % 4 ≠ 0 → exec (.registerWrite t o be w) s = .next s)

/-- A happening raises an occurrence counter that has not reached all-ones by one and changes nothing else; the
happening that brings it to all-ones sets its overflow flag and raises the counter-overflow event of its block;
further happenings leave the counter and everything else as it was. A reader of a stuck counter sees all-ones with
the overflow flag set. (spec/00_scope.md R8) -/
def Obligations.OccurrenceCounterSticks : Prop :=
  (∀ (c : Ctr) (s : State),
    ((s.ctr c).ovf = false → (s.ctr c).count.toNat + 1 < 0xFFFF → s.count c =
      s.withRegs { s.regs with ctrs := s.regs.ctrs.set c.idx { count := (s.ctr c).count + 1, ovf := false } }) ∧
    ((s.ctr c).ovf = false → 0xFFFF ≤ (s.ctr c).count.toNat + 1 →
      s.count c = (s.withRegs { s.regs with ctrs := s.regs.ctrs.set c.idx { count := 0xFFFF, ovf := true } }).raise
        c.source .notice 0 c.cause c.index [] ∧ (s.count c).ctr c = { count := 0xFFFF, ovf := true }) ∧
    ((s.ctr c).ovf = true → s.count c = s) ∧
    (s.ctr c = { count := 0xFFFF, ovf := true } → (s.ctr c).reg = 0x8000FFFF#32)) ∧
  (∀ (o : Occ) (src : Nat) (s : State),
    (o.ovf = false → o.count.toNat + 1 < 0xFFFF → s.countOcc o src = ({ count := o.count + 1, ovf := false }, s)) ∧
    (o.ovf = false → 0xFFFF ≤ o.count.toNat + 1 →
      s.countOcc o src = ({ count := 0xFFFF, ovf := true }, s.raise src .notice 0 0 noIndex [])) ∧
    (o.ovf = true → s.countOcc o src = (o, s)))

/-- Where the block answers and no crossing is stalled, a COUNTER_CLEAR that selects a counter of a clear register
leaves its count and its overflow flag zero, and a happening that coincides, which counts after the clear, leaves
the value 1; a counter that the write does not select is left as it was. The counters of the selected intake entry
clear in the same way. (spec/00_scope.md R9) -/
def Obligations.CounterAndFlagClearTogether : Prop :=
  ∀ (t : Nat) (w : Word) (s : State),
    (∀ c : Ctr, c.clearOffset ∈ clearRegs → (s.instant t).answers c.clearOffset = true →
      (s.instant t).accessStalled c.clearOffset = false → Answers (.counterClear t c.clearOffset w) s fun u =>
        (w.getLsbD c.clearBit = true → u.ctr c = { count := 0, ovf := false } ∧ (u.count c).ctr c = { count := 1, ovf := false }) ∧
        (w.getLsbD c.clearBit = false → u.ctr c = s.ctr c)) ∧
    (∀ e, (s.instant t).answers 0x802C = true → (s.instant t).accessStalled 0x802C = false → e = s.sni.entrySel → e < 40 →
      Answers (.counterClear t 0x802C w) s fun u =>
        (u.entrySt e).err = (if w.getLsbD 0 then { count := 0, ovf := false } else (s.entrySt e).err) ∧
        (u.entrySt e).overdue = (if w.getLsbD 1 then { count := 0, ovf := false } else (s.entrySt e).overdue) ∧
        (u.entrySt e).gap = (if w.getLsbD 2 then { count := 0, ovf := false } else (s.entrySt e).gap) ∧
        ∀ src, w.getLsbD 0 = true → (u.countOcc (u.entrySt e).err src).1 = { count := 1, ovf := false })

/-- Outside a hold-up save, a keyed write of 1 to GLB_RESET.PART resets the part with cause host reset while the DP mode
is STANDBY or the part is not ready to claim; otherwise the write has no effect, is counted in GLB_RST_REFUSED and
raises event source 126. A write without the key is ignored without count. (spec/21_clock_domains_and_resets.md
R493) -/
def Obligations.HostResetIsKeyedAndGuarded : Prop :=
  ∀ (w : Word) (s : State), s.answers 0x114 = true → s.accessStalled 0x114 = false → s.pwr.save = none →
    (w.extractLsb' 16 16 = 0x5253#16 → w.getLsbD 0 = true →
      ((s.ctl.mode = 0 ∨ s.readyToClaim = false) → exec (.glbResetWrite w) s = .next (s.resetPart 6 1) ∧ (s.resetPart 6 1).pwr.inReset = true) ∧
      (¬ (s.ctl.mode = 0 ∨ s.readyToClaim = false) → exec (.glbResetWrite w) s =
        .next ((s.count .rstRefused).raise 126 .notice 0 3 noIndex []))) ∧
    (w.extractLsb' 16 16 ≠ 0x5253#16 → exec (.glbResetWrite w) s = .next s)
end

