-- ==== Sys2Proof/Laws/Blank.lean ====
section
/-! SUPPORT. Leaving parts of the state out: two states that agree once a set of parts is left out agree on every other
part. One lemma for each block update; the lemmas about the named operations follow in the other files. -/

namespace Sys2Proof.Machine
open Sys2Proof

/-- On-chip memory with these bytes. -/
def Mem.withCells (x : Mem) (a b : List Host.Cell) : Mem := { x with sram := a, mortar := b }

/-- The course block at the place of another. -/
def Crs.withPlace (x y : Crs) : Crs :=
  { x with started := y.started, frame := y.frame, course := y.course, courseCnt := y.courseCnt, tickSrc := y.tickSrc }

/-- The state with the parts of `msk` left out. -/
def State.blank (msk : Part → Bool) (s : State) : State where
  clk := { (if msk .clk then Clk.reset else s.clk) with tickAt := if msk .tick then 0 else s.clk.tickAt }
  crs := (if msk .crs then Crs.reset else s.crs).withPlace (if msk .tick then Crs.reset else s.crs)
  evt := if msk .evt then Evt.reset else s.evt
  hrg := if msk .hrg then Hrg.reset else s.hrg
  img := if msk .img then Img.reset else s.img
  gns := if msk .gns then Gns.reset else s.gns
  pnt := if msk .pnt then Pnt.reset else s.pnt
  regs := { cfg := if msk .cfg then cfgReset else s.regs.cfg, eff := if msk .cfg then cfgReset else s.regs.eff,
            locks := if msk .locks then Vector.replicate 15 false else s.regs.locks,
            ctrs := if msk .ctrs then Vector.replicate 86 Occ.zero else s.regs.ctrs }
  sni := if msk .sni then Sni.reset else s.sni
  est := if msk .est then Est.reset else s.est
  ctl := if msk .ctl then Ctl.reset else s.ctl
  alloc := if msk .alloc then Alloc.reset else s.alloc
  csq := if msk .csq then Csq.reset else s.csq
  trim := if msk .trim then Trim.reset else s.trim
  vsl := if msk .vsl then Vsl.reset else s.vsl
  tim := if msk .tim then Tim.reset else s.tim
  rdn := if msk .rdn then Rdn.reset else s.rdn
  btr := if msk .btr then Btr.reset else s.btr
  can := if msk .can then Can.reset else s.can
  ylk := if msk .ylk then Ylk.reset else s.ylk
  log := if msk .log then Log.reset else s.log
  mem := (if msk .mem then Mem.reset else s.mem).withCells (if msk .cells then [] else s.mem.sram)
    (if msk .cells then [] else s.mem.mortar)
  glb := if msk .glb then Glb.reset else s.glb
  sec := if msk .sec then Sec.reset else s.sec
  pwr := if msk .pwr then Pwr.reset else s.pwr
  outbox := if msk .outbox then Outs.reset else s.outbox
  pending := if msk .pending then [] else s.pending

/-! ### What the march engine leaves in memory -/

theorem Mem.endTest_cells (x : Mem) : x.endTest.sram = x.sram ∧ x.endTest.mortar = x.mortar := by
  unfold Mem.endTest; split <;> exact ⟨rfl, rfl⟩
theorem Mem.backSlice_cells (x : Mem) : x.backSlice.sram = x.sram ∧ x.backSlice.mortar = x.mortar := by
  unfold Mem.backSlice; split <;> exact ⟨rfl, rfl⟩
theorem Mem.afterSlice_cells (x : Mem) : x.afterSlice.sram = x.sram ∧ x.afterSlice.mortar = x.mortar := by
  unfold Mem.afterSlice; split
  · exact ⟨rfl, rfl⟩
  · split <;> exact ⟨rfl, rfl⟩
@[simp] theorem Mem.endTest_sram (x : Mem) : x.endTest.sram = x.sram := x.endTest_cells.1
@[simp] theorem Mem.endTest_mortar (x : Mem) : x.endTest.mortar = x.mortar := x.endTest_cells.2
@[simp] theorem Mem.backSlice_sram (x : Mem) : x.backSlice.sram = x.sram := x.backSlice_cells.1
@[simp] theorem Mem.backSlice_mortar (x : Mem) : x.backSlice.mortar = x.mortar := x.backSlice_cells.2
@[simp] theorem Mem.afterSlice_sram (x : Mem) : x.afterSlice.sram = x.sram := x.afterSlice_cells.1
@[simp] theorem Mem.afterSlice_mortar (x : Mem) : x.afterSlice.mortar = x.mortar := x.afterSlice_cells.2

section
variable {msk : Part → Bool}

theorem State.withEvt_blank (h : msk .evt = true) (s : State) (x : Evt) : (s.withEvt x).blank msk = s.blank msk := by
  simp only [State.blank, State.withEvt, h, if_true]
theorem State.withHrg_blank (h : msk .hrg = true) (s : State) (x : Hrg) : (s.withHrg x).blank msk = s.blank msk := by
  simp only [State.blank, State.withHrg, h, if_true]
theorem State.withImg_blank (h : msk .img = true) (s : State) (x : Img) : (s.withImg x).blank msk = s.blank msk := by
  simp only [State.blank, State.withImg, h, if_true]
theorem State.withGns_blank (h : msk .gns = true) (s : State) (x : Gns) : (s.withGns x).blank msk = s.blank msk := by
  simp only [State.blank, State.withGns, h, if_true]
theorem State.withPnt_blank (h : msk .pnt = true) (s : State) (x : Pnt) : (s.withPnt x).blank msk = s.blank msk := by
  simp only [State.blank, State.withPnt, h, if_true]
theorem State.withSni_blank (h : msk .sni = true) (s : State) (x : Sni) : (s.withSni x).blank msk = s.blank msk := by
  simp only [State.blank, State.withSni, h, if_true]
theorem State.withEst_blank (h : msk .est = true) (s : State) (x : Est) : (s.withEst x).blank msk = s.blank msk := by
  simp only [State.blank, State.withEst, h, if_true]
theorem State.withCtl_blank (h : msk .ctl = true) (s : State) (x : Ctl) : (s.withCtl x).blank msk = s.blank msk := by
  simp only [State.blank, State.withCtl, h, if_true]
theorem State.withAlloc_blank (h : msk .alloc = true) (s : State) (x : Alloc) : (s.withAlloc x).blank msk = s.blank msk := by
  simp only [State.blank, State.withAlloc, h, if_true]
theorem State.withCsq_blank (h : msk .csq = true) (s : State) (x : Csq) : (s.withCsq x).blank msk = s.blank msk := by
  simp only [State.blank, State.withCsq, h, if_true]
theorem State.withTrim_blank (h : msk .trim = true) (s : State) (x : Trim) : (s.withTrim x).blank msk = s.blank msk := by
  simp only [State.blank, State.withTrim, h, if_true]
theorem State.withVsl_blank (h : msk .vsl = true) (s : State) (x : Vsl) : (s.withVsl x).blank msk = s.blank msk := by
  simp only [State.blank, State.withVsl, h, if_true]
theorem State.withTim_blank (h : msk .tim = true) (s : State) (x : Tim) : (s.withTim x).blank msk = s.blank msk := by
  simp only [State.blank, State.withTim, h, if_true]
theorem State.withRdn_blank (h : msk .rdn = true) (s : State) (x : Rdn) : (s.withRdn x).blank msk = s.blank msk := by
  simp only [State.blank, State.withRdn, h, if_true]
theorem State.withBtr_blank (h : msk .btr = true) (s : State) (x : Btr) : (s.withBtr x).blank msk = s.blank msk := by
  simp only [State.blank, State.withBtr, h, if_true]
theorem State.withCan_blank (h : msk .can = true) (s : State) (x : Can) : (s.withCan x).blank msk = s.blank msk := by
  simp only [State.blank, State.withCan, h, if_true]
theorem State.withYlk_blank (h : msk .ylk = true) (s : State) (x : Ylk) : (s.withYlk x).blank msk = s.blank msk := by
  simp only [State.blank, State.withYlk, h, if_true]
theorem State.withLog_blank (h : msk .log = true) (s : State) (x : Log) : (s.withLog x).blank msk = s.blank msk := by
  simp only [State.blank, State.withLog, h, if_true]
theorem State.withGlb_blank (h : msk .glb = true) (s : State) (x : Glb) : (s.withGlb x).blank msk = s.blank msk := by
  simp only [State.blank, State.withGlb, h, if_true]
theorem State.withSec_blank (h : msk .sec = true) (s : State) (x : Sec) : (s.withSec x).blank msk = s.blank msk := by
  simp only [State.blank, State.withSec, h, if_true]
theorem State.withPwr_blank (h : msk .pwr = true) (s : State) (x : Pwr) : (s.withPwr x).blank msk = s.blank msk := by
  simp only [State.blank, State.withPwr, h, if_true]
theorem State.withOutbox_blank (h : msk .outbox = true) (s : State) (x : Outs) : (s.withOutbox x).blank msk = s.blank msk := by
  simp only [State.blank, State.withOutbox, h, if_true]
/-- An update of the clock that keeps the latest course tick. -/
theorem State.withClk_blank (h : msk .clk = true) (s : State) (x : Clk) (hx : x.tickAt = s.clk.tickAt) :
    (s.withClk x).blank msk = s.blank msk := by
  simp only [State.blank, State.withClk, h, hx, if_true]
/-- Any update of the clock. -/
theorem State.withClk_blank_tick (h : msk .clk = true) (h' : msk .tick = true) (s : State) (x : Clk) :
    (s.withClk x).blank msk = s.blank msk := by
  simp only [State.blank, State.withClk, h, h', if_true]
/-- An update of the course block that keeps its place. -/
theorem State.withCrs_blank (h : msk .crs = true) (s : State) (x : Crs) (h1 : x.started = s.crs.started)
    (h2 : x.frame = s.crs.frame) (h3 : x.course = s.crs.course) (h4 : x.courseCnt = s.crs.courseCnt)
    (h5 : x.tickSrc = s.crs.tickSrc) : (s.withCrs x).blank msk = s.blank msk := by
  simp only [State.blank, State.withCrs, Crs.withPlace, h, h1, h2, h3, h4, h5, if_true, apply_ite Crs.started, apply_ite Crs.frame, apply_ite Crs.course, apply_ite Crs.courseCnt, apply_ite Crs.tickSrc]
/-- Any update of the course block. -/
theorem State.withCrs_blank_tick (h : msk .crs = true) (h' : msk .tick = true) (s : State) (x : Crs) :
    (s.withCrs x).blank msk = s.blank msk := by
  simp only [State.blank, State.withCrs, h, h', if_true]
/-- A register update that keeps the configuration. -/
theorem State.withRegs_blank_ctrs (h : msk .ctrs = true) (s : State) (x : Regs) (hx : x.cfg = s.regs.cfg)
    (hy : x.eff = s.regs.eff) (hz : x.locks = s.regs.locks) : (s.withRegs x).blank msk = s.blank msk := by
  simp only [State.blank, State.withRegs, h, hx, hy, hz, if_true]
/-- A register update that keeps counters and locks. -/
theorem State.withRegs_blank_cfg (h : msk .cfg = true) (s : State) (x : Regs) (hx : x.ctrs = s.regs.ctrs)
    (hy : x.locks = s.regs.locks) : (s.withRegs x).blank msk = s.blank msk := by
  simp only [State.blank, State.withRegs, h, hx, hy, if_true]
/-- A register update that keeps counters and configuration. -/
theorem State.withRegs_blank_locks (h : msk .locks = true) (s : State) (x : Regs) (hx : x.ctrs = s.regs.ctrs)
    (hy : x.cfg = s.regs.cfg) (hz : x.eff = s.regs.eff) : (s.withRegs x).blank msk = s.blank msk := by
  simp only [State.blank, State.withRegs, h, hx, hy, hz, if_true]
/-- A memory update that keeps the bytes. -/
theorem State.withMem_blank (h : msk .mem = true) (s : State) (x : Mem) (hx : x.sram = s.mem.sram)
    (hy : x.mortar = s.mem.mortar) : (s.withMem x).blank msk = s.blank msk := by
  simp only [State.blank, State.withMem, h, hx, hy, if_true]
/-- Any memory update. -/
theorem State.withMem_blank_cells (h : msk .mem = true) (h' : msk .cells = true) (s : State) (x : Mem) :
    (s.withMem x).blank msk = s.blank msk := by
  simp only [State.blank, State.withMem, h, h', if_true]

/-- A choice between two states. -/
theorem State.ite_blank {c : Prop} [Decidable c] (a b : State) :
    (if c then a else b).blank msk = if c then a.blank msk else b.blank msk := by split <;> rfl

/-- A fold whose steps keep what is left. -/
theorem State.foldl_blank {α : Type} (f : State → α → State) (l : List α) (s : State)
    (h : ∀ s x, (f s x).blank msk = s.blank msk) : (l.foldl f s).blank msk = s.blank msk := by
  induction l generalizing s with
  | nil => rfl
  | cons x l ih => exact (ih (f s x)).trans (h s x)

/-- A choice that answers `x` answers it on one of its sides. -/
theorem eq_of_ite {α : Type} {c : Prop} [Decidable c] {a b x : α} (h : (if c then a else b) = x) : a = x ∨ b = x := by
  split at h
  · exact .inl h
  · exact .inr h

/-- The same for a fold that carries the state first. -/
theorem State.foldl_blank_fst {α β : Type} (f : State × β → α → State × β) (l : List α) (b : State × β)
    (h : ∀ b x, (f b x).1.blank msk = b.1.blank msk) : (l.foldl f b).1.blank msk = b.1.blank msk := by
  induction l generalizing b with
  | nil => rfl
  | cons x l ih => exact (ih (f b x)).trans (h b x)

/-- The same for a fold that carries the state second. -/
theorem State.foldl_blank_snd {α β : Type} (f : β × State → α → β × State) (l : List α) (b : β × State)
    (h : ∀ b x, (f b x).2.blank msk = b.2.blank msk) : (l.foldl f b).2.blank msk = b.2.blank msk := by
  induction l generalizing b with
  | nil => rfl
  | cons x l ih => exact (ih (f b x)).trans (h b x)

/-- Two states that agree once the parts of a list are left out agree on every other part. -/
theorem SameBut.of_blank {ps : List Part} {s t : State}
    (h : t.blank (fun p => ps.contains p) = s.blank (fun p => ps.contains p)) : SameBut ps s t := by
  constructor
  · intro hp
    have e : ps.contains Part.clk = false := by simpa using hp
    simpa only [State.blank, e, Clk.rest, Bool.false_eq_true, if_false] using congrArg (fun s => s.clk.rest) h
  · intro hp
    have e : ps.contains Part.tick = false := by simpa using hp
    simpa only [State.blank, e, Crs.place, Crs.withPlace, Prod.mk.injEq, Bool.false_eq_true, if_false] using congrArg (fun s => (s.crs.place, s.clk.tickAt)) h
  · intro hp
    have e : ps.contains Part.crs = false := by simpa using hp
    simpa only [State.blank, e, Crs.rest, Crs.withPlace, Bool.false_eq_true, if_false] using congrArg (fun s => s.crs.rest) h
  · intro hp
    have e : ps.contains Part.evt = false := by simpa using hp
    simpa only [State.blank, e, Bool.false_eq_true, if_false] using congrArg State.evt h
  · intro hp
    have e : ps.contains Part.hrg = false := by simpa using hp
    simpa only [State.blank, e, Bool.false_eq_true, if_false] using congrArg State.hrg h
  · intro hp
    have e : ps.contains Part.img = false := by simpa using hp
    simpa only [State.blank, e, Bool.false_eq_true, if_false] using congrArg State.img h
  · intro hp
    have e : ps.contains Part.gns = false := by simpa using hp
    simpa only [State.blank, e, Bool.false_eq_true, if_false] using congrArg State.gns h
  · intro hp
    have e : ps.contains Part.pnt = false := by simpa using hp
    simpa only [State.blank, e, Bool.false_eq_true, if_false] using congrArg State.pnt h
  · intro hp
    have e : ps.contains Part.ctrs = false := by simpa using hp
    simpa only [State.blank, e, Bool.false_eq_true, if_false] using congrArg (fun s => s.regs.ctrs) h
  · intro hp
    have e : ps.contains Part.cfg = false := by simpa using hp
    simpa only [State.blank, e, Regs.config, Bool.false_eq_true, if_false] using congrArg (fun s => s.regs.config) h
  · intro hp
    have e : ps.contains Part.locks = false := by simpa using hp
    simpa only [State.blank, e, Bool.false_eq_true, if_false] using congrArg (fun s => s.regs.locks) h
  · intro hp
    have e : ps.contains Part.sni = false := by simpa using hp
    simpa only [State.blank, e, Bool.false_eq_true, if_false] using congrArg State.sni h
  · intro hp
    have e : ps.contains Part.est = false := by simpa using hp
    simpa only [State.blank, e, Bool.false_eq_true, if_false] using congrArg State.est h
  · intro hp
    have e : ps.contains Part.ctl = false := by simpa using hp
    simpa only [State.blank, e, Bool.false_eq_true, if_false] using congrArg State.ctl h
  · intro hp
    have e : ps.contains Part.alloc = false := by simpa using hp
    simpa only [State.blank, e, Bool.false_eq_true, if_false] using congrArg State.alloc h
  · intro hp
    have e : ps.contains Part.csq = false := by simpa using hp
    simpa only [State.blank, e, Bool.false_eq_true, if_false] using congrArg State.csq h
  · intro hp
    have e : ps.contains Part.trim = false := by simpa using hp
    simpa only [State.blank, e, Bool.false_eq_true, if_false] using congrArg State.trim h
  · intro hp
    have e : ps.contains Part.vsl = false := by simpa using hp
    simpa only [State.blank, e, Bool.false_eq_true, if_false] using congrArg State.vsl h
  · intro hp
    have e : ps.contains Part.tim = false := by simpa using hp
    simpa only [State.blank, e, Bool.false_eq_true, if_false] using congrArg State.tim h
  · intro hp
    have e : ps.contains Part.rdn = false := by simpa using hp
    simpa only [State.blank, e, Bool.false_eq_true, if_false] using congrArg State.rdn h
  · intro hp
    have e : ps.contains Part.btr = false := by simpa using hp
    simpa only [State.blank, e, Bool.false_eq_true, if_false] using congrArg State.btr h
  · intro hp
    have e : ps.contains Part.can = false := by simpa using hp
    simpa only [State.blank, e, Bool.false_eq_true, if_false] using congrArg State.can h
  · intro hp
    have e : ps.contains Part.ylk = false := by simpa using hp
    simpa only [State.blank, e, Bool.false_eq_true, if_false] using congrArg State.ylk h
  · intro hp
    have e : ps.contains Part.log = false := by simpa using hp
    simpa only [State.blank, e, Bool.false_eq_true, if_false] using congrArg State.log h
  · intro hp
    have e : ps.contains Part.cells = false := by simpa using hp
    simpa only [State.blank, e, Mem.cells, Mem.withCells, Bool.false_eq_true, if_false] using congrArg (fun s => s.mem.cells) h
  · intro hp
    have e : ps.contains Part.mem = false := by simpa using hp
    simpa only [State.blank, e, Mem.rest, Mem.withCells, Bool.false_eq_true, if_false] using congrArg (fun s => s.mem.rest) h
  · intro hp
    have e : ps.contains Part.glb = false := by simpa using hp
    simpa only [State.blank, e, Bool.false_eq_true, if_false] using congrArg State.glb h
  · intro hp
    have e : ps.contains Part.sec = false := by simpa using hp
    simpa only [State.blank, e, Bool.false_eq_true, if_false] using congrArg State.sec h
  · intro hp
    have e : ps.contains Part.pwr = false := by simpa using hp
    simpa only [State.blank, e, Bool.false_eq_true, if_false] using congrArg State.pwr h
  · intro hp
    have e : ps.contains Part.outbox = false := by simpa using hp
    simpa only [State.blank, e, Bool.false_eq_true, if_false] using congrArg State.outbox h
  · intro hp
    have e : ps.contains Part.pending = false := by simpa using hp
    simpa only [State.blank, e, Bool.false_eq_true, if_false] using congrArg State.pending h

end

end Sys2Proof.Machine
end

