-- ==== Sys2Proof/Laws/KeepOps.lean ====
section
/-! SUPPORT. What the operations and commands of Machine/Ops.lean leave unchanged. -/

set_option linter.unusedSimpArgs false

namespace Sys2Proof.Machine
open Sys2Proof

section
variable {msk : Part → Bool}

theorem State.emit_blank (h_outbox : msk .outbox = true) (o : Out) (s : State) : (State.emit o s).blank msk = s.blank msk := by
  simp only [State.emit, ↓State.withOutbox_blank, ↓State.ite_blank, ite_self, h_outbox]

theorem State.setRing_blank (h_hrg : msk .hrg = true) (i : Nat) (r : Ring) (s : State) : (State.setRing i r s).blank msk = s.blank msk := by
  simp only [State.setRing, ↓State.withHrg_blank, ↓State.ite_blank, ite_self, h_hrg]

theorem State.putEntry_blank (h_hrg : msk .hrg = true) (h_outbox : msk .outbox = true) (i flags : Nat) (body : List Byte) (s : State) : (State.putEntry i flags body s).blank msk = s.blank msk := by
  simp only [State.putEntry, ↓State.emit_blank, ↓State.setRing_blank, ↓State.ite_blank, ite_self, h_hrg, h_outbox]

theorem State.putBehind_blank (h_hrg : msk .hrg = true) (h_outbox : msk .outbox = true) (i flags : Nat) (body : List Byte) (s : State) : (State.putBehind i flags body s).blank msk = s.blank msk := by
  simp only [State.putBehind, ↓State.putEntry_blank, ↓State.setRing_blank, ↓State.ite_blank, ite_self, h_hrg, h_outbox]

theorem State.msix_blank (h_hrg : msk .hrg = true) (h_outbox : msk .outbox = true) (v : Nat) (s : State) : (State.msix v s).blank msk = s.blank msk := by
  simp only [State.msix, ↓State.emit_blank, ↓State.withHrg_blank, ↓State.ite_blank, ite_self, h_hrg, h_outbox]

theorem State.ringMsg_blank (h_hrg : msk .hrg = true) (h_outbox : msk .outbox = true) (i : Nat) (s : State) : (State.ringMsg i s).blank msk = s.blank msk := by
  simp only [State.ringMsg, ↓State.msix_blank, ↓State.setRing_blank, ↓State.ite_blank, ite_self, h_hrg, h_outbox]

theorem State.raiseFuel_blank (h_evt : msk .evt = true) (h_ctrs : msk .ctrs = true) (n : Nat) (ev : Event) (s : State) :
    (State.raiseFuel n ev s).blank msk = s.blank msk := by
  induction n generalizing ev s with
  | zero => rfl
  | succ n ih =>
    unfold State.raiseFuel
    refine (State.foldl_blank _ _ _ ?_).trans (State.withEvt_blank h_evt _ _)
    intro s x
    simp only [↓State.ite_blank, ↓ih, ↓State.withRegs_blank_ctrs, h_ctrs, ite_self]

theorem State.raise_blank (h_evt : msk .evt = true) (h_ctrs : msk .ctrs = true) (src : Nat) (sev : Sev) (qual cause index : Nat) (vals : List Word) (s : State) : (State.raise src sev qual cause index vals s).blank msk = s.blank msk := by
  simp only [State.raise, ↓State.raiseFuel_blank, ↓State.ite_blank, ite_self, h_evt, h_ctrs]

theorem State.countN_blank (h_evt : msk .evt = true) (h_ctrs : msk .ctrs = true) (c : Ctr) (n : Nat) (s : State) : (State.countN c n s).blank msk = s.blank msk := by
  simp only [State.countN, ↓State.raise_blank, ↓State.withRegs_blank_ctrs, ↓State.ite_blank, ite_self, h_evt, h_ctrs]

theorem State.count_blank (h_evt : msk .evt = true) (h_ctrs : msk .ctrs = true) (c : Ctr) (s : State) : (State.count c s).blank msk = s.blank msk := by
  simp only [State.count, ↓State.countN_blank, ↓State.ite_blank, ite_self, h_evt, h_ctrs]

theorem State.streamHold_blank (h_evt : msk .evt = true) (h_pnt : msk .pnt = true) (h_ctrs : msk .ctrs = true) (st : Nat) (n : Nat) (s : State) : (State.streamHold st n s).blank msk = s.blank msk := by
  simp only [State.streamHold, ↓State.count_blank, ↓State.raise_blank, ↓State.withPnt_blank, ↓State.ite_blank, ite_self, h_evt, h_pnt, h_ctrs]

theorem State.streamBatch_blank (h_evt : msk .evt = true) (h_hrg : msk .hrg = true) (h_pnt : msk .pnt = true) (h_ctrs : msk .ctrs = true) (h_outbox : msk .outbox = true) (st : Nat) (ps : List (Nat × Pt)) (s : State) : (State.streamBatch st ps s).blank msk = s.blank msk := by
  simp only [State.streamBatch, ↓State.putBehind_blank, ↓State.ringMsg_blank, ↓State.streamHold_blank, ↓State.withPnt_blank, ↓State.ite_blank, ite_self, h_evt, h_hrg, h_pnt, h_ctrs, h_outbox, ↓State.foldl_blank, implies_true, forall_const]

theorem State.streamPost_blank (h_evt : msk .evt = true) (h_hrg : msk .hrg = true) (h_pnt : msk .pnt = true) (h_ctrs : msk .ctrs = true) (h_outbox : msk .outbox = true) (ps : List (Nat × Pt)) (s : State) : (State.streamPost ps s).blank msk = s.blank msk := by
  unfold State.streamPost
  repeat' (first | with_reducible rfl | assumption | simp only [↓State.streamBatch_blank, ↓State.ite_blank, ite_self, h_evt, h_hrg, h_pnt, h_ctrs, h_outbox, ↓State.foldl_blank, implies_true, forall_const] | split | intro _ | rw [State.foldl_blank])

theorem State.qualBit_blank (h_evt : msk .evt = true) (h_hrg : msk .hrg = true) (h_pnt : msk .pnt = true) (h_ctrs : msk .ctrs = true) (h_outbox : msk .outbox = true) (bit : Nat) (on : Bool) (ns : List Nat) (s : State) : (State.qualBit bit on ns s).blank msk = s.blank msk := by
  simp only [State.qualBit, ↓State.streamPost_blank, ↓State.withPnt_blank, ↓State.ite_blank, ite_self, h_evt, h_hrg, h_pnt, h_ctrs, h_outbox]

theorem State.takeCfg_blank (h_cfg : msk .cfg = true) (s : State) (w : CfgWhen) : (State.takeCfg s w).blank msk = s.blank msk := by
  simp only [State.takeCfg, ↓State.withRegs_blank_cfg, ↓State.ite_blank, ite_self, h_cfg]

theorem State.complete_blank (h_hrg : msk .hrg = true) (ring ref status : Nat) (result : Word) (s : State) : (State.complete ring ref status result s).blank msk = s.blank msk := by
  simp only [State.complete, ↓State.setRing_blank, ↓State.ite_blank, ite_self, h_hrg]

theorem State.refuse_blank (h_hrg : msk .hrg = true) (w : Waiting) (result : Nat) (s : State) : (State.refuse w result s).blank msk = s.blank msk := by
  simp only [State.refuse, ↓State.complete_blank, ↓State.ite_blank, ite_self, h_hrg]

theorem State.done_blank (h_hrg : msk .hrg = true) (w : Waiting) (result : Nat) (s : State) : (State.done w result s).blank msk = s.blank msk := by
  simp only [State.done, ↓State.complete_blank, ↓State.ite_blank, ite_self, h_hrg]

theorem State.writePoints_blank (h_evt : msk .evt = true) (h_hrg : msk .hrg = true) (h_pnt : msk .pnt = true) (h_ctrs : msk .ctrs = true) (h_outbox : msk .outbox = true) (entry : Nat) (time : Int) (frame : Word) (us : List PtUpd) (s : State) : (State.writePoints entry time frame us s).blank msk = s.blank msk := by
  simp only [State.writePoints, ↓State.countN_blank, ↓State.streamPost_blank, ↓State.withPnt_blank, ↓State.ite_blank, ite_self, h_evt, h_hrg, h_pnt, h_ctrs, h_outbox]

theorem State.instant_blank (h_clk : msk .clk = true) (t : Nat) (s : State) : (State.instant t s).blank msk = s.blank msk := by
  simp only [State.instant, ↓State.withClk_blank, ↓State.ite_blank, ite_self, h_clk]

theorem State.useFree_blank (h_clk : msk .clk = true) (s : State) : (State.useFree s).blank msk = s.blank msk := by
  simp only [State.useFree, ↓State.withClk_blank, ↓State.ite_blank, ite_self, h_clk]

theorem State.answer_blank (h_evt : msk .evt = true) (h_hrg : msk .hrg = true) (h_ctrs : msk .ctrs = true) (h_outbox : msk .outbox = true) (w : Waiting) (out : List Byte) (s : State) : (State.answer w out s).blank msk = s.blank msk := by
  unfold State.answer
  repeat' (first | with_reducible rfl | assumption | simp only [↓State.complete_blank, ↓State.count_blank, ↓State.done_blank, ↓State.emit_blank, ↓State.raise_blank, ↓State.ite_blank, ite_self, h_evt, h_hrg, h_ctrs, h_outbox, ↓State.foldl_blank, implies_true, forall_const] | split | intro _)

theorem State.barWrite_blank (h_evt : msk .evt = true) (h_ctrs : msk .ctrs = true) (off : Nat) (go : State → State) (s : State) (k_go : ∀ s, (go s).blank msk = s.blank msk) : (State.barWrite off go s).blank msk = s.blank msk := by
  simp only [State.barWrite, ↓State.count_blank, ↓State.raise_blank, ↓State.ite_blank, ite_self, h_evt, h_ctrs, k_go]

theorem State.countOcc_blank (h_evt : msk .evt = true) (h_ctrs : msk .ctrs = true) (o : Occ) (src : Nat) (s : State) : (State.countOcc o src s).2.blank msk = s.blank msk := by
  simp only [State.countOcc, ↓State.raise_blank, ↓State.ite_blank, ite_self, h_evt, h_ctrs]

theorem State.withBuffer_blank (h_evt : msk .evt = true) (h_hrg : msk .hrg = true) (h_ctrs : msk .ctrs = true) (w : Waiting) (go : State → State) (s : State) (k_go : ∀ s, (go s).blank msk = s.blank msk) : (State.withBuffer w go s).blank msk = s.blank msk := by
  unfold State.withBuffer
  repeat' (first | with_reducible rfl | assumption | simp only [↓State.complete_blank, ↓State.count_blank, ↓State.raise_blank, ↓State.ite_blank, ite_self, h_evt, h_hrg, h_ctrs, k_go, ↓State.foldl_blank, implies_true, forall_const] | split | intro _)

theorem State.holdPiece_blank (h_hrg : msk .hrg = true) (s : State) : (State.holdPiece s).blank msk = s.blank msk := by
  unfold State.holdPiece
  repeat' (first | with_reducible rfl | assumption | simp only [↓State.withHrg_blank, ↓State.ite_blank, ite_self, h_hrg, ↓State.foldl_blank, implies_true, forall_const] | split | intro _)

theorem State.haltRing_blank (h_evt : msk .evt = true) (h_hrg : msk .hrg = true) (h_ctrs : msk .ctrs = true) (i : Nat) (s : State) : (State.haltRing i s).blank msk = s.blank msk := by
  simp only [State.haltRing, ↓State.count_blank, ↓State.holdPiece_blank, ↓State.raise_blank, ↓State.setRing_blank, ↓State.ite_blank, ite_self, h_evt, h_hrg, h_ctrs]

theorem State.setCfg_blank (h_cfg : msk .cfg = true) (s : State) (r : CfgReg) (w : Word) : (State.setCfg s r w).blank msk = s.blank msk := by
  simp only [State.setCfg, ↓State.withRegs_blank_cfg, ↓State.ite_blank, ite_self, h_cfg]

theorem State.clearCtr_blank (h_ctrs : msk .ctrs = true) (c : Ctr) (s : State) : (State.clearCtr c s).blank msk = s.blank msk := by
  simp only [State.clearCtr, ↓State.withRegs_blank_ctrs, ↓State.ite_blank, ite_self, h_ctrs]

theorem State.badFormat_blank (h_hrg : msk .hrg = true) (w : Waiting) (offset : Nat) (s : State) : (State.badFormat w offset s).blank msk = s.blank msk := by
  simp only [State.badFormat, ↓State.complete_blank, ↓State.ite_blank, ite_self, h_hrg]

end

end Sys2Proof.Machine
end

