-- ==== Sys2Proof/Laws/KeepAllocQp.lean ====
section
/-! SUPPORT. What the operations and commands of Machine/AllocQp.lean leave unchanged. -/

set_option linter.unusedSimpArgs false

namespace Sys2Proof.Machine
open Sys2Proof

section
variable {msk : Part → Bool}

theorem State.takeBus_blank (h_evt : msk .evt = true) (h_ctrs : msk .ctrs = true) (h_alloc : msk .alloc = true) (r : List Byte) (s : State) : (State.takeBus r s).blank msk = s.blank msk := by
  simp only [State.takeBus, ↓State.raise_blank, ↓State.withAlloc_blank, ↓State.ite_blank, ite_self, h_evt, h_ctrs, h_alloc]

theorem State.takeTie_blank (h_evt : msk .evt = true) (h_ctrs : msk .ctrs = true) (h_alloc : msk .alloc = true) (r : List Byte) (s : State) : (State.takeTie r s).blank msk = s.blank msk := by
  simp only [State.takeTie, ↓State.raise_blank, ↓State.withAlloc_blank, ↓State.ite_blank, ite_self, h_evt, h_ctrs, h_alloc]

theorem State.takePower_blank (h_evt : msk .evt = true) (h_ctrs : msk .ctrs = true) (h_alloc : msk .alloc = true) (s : State) : (State.takePower s).blank msk = s.blank msk := by
  simp only [State.takePower, ↓State.takeBus_blank, ↓State.takeTie_blank, ↓State.withAlloc_blank, ↓State.ite_blank, ite_self, h_evt, h_ctrs, h_alloc, ↓State.foldl_blank, implies_true, forall_const]

end

end Sys2Proof.Machine
end

