-- ==== Sys2Proof/Laws/KeepReset.lean ====
section
/-! SUPPORT. What the operations and commands of Machine/Reset.lean leave unchanged. -/

set_option linter.unusedSimpArgs false

namespace Sys2Proof.Machine
open Sys2Proof

section
variable {msk : Part → Bool}

theorem State.whileRunning_blank  (f : State → State) (s : State) (k_f : ∀ s, (f s).blank msk = s.blank msk) : (State.whileRunning f s).blank msk = s.blank msk := by
  simp only [State.whileRunning, ↓State.ite_blank, ite_self, k_f]

theorem State.breakSave_blank (h_mem : msk .mem = true) (s : State) : (State.breakSave s).blank msk = s.blank msk := by
  unfold State.breakSave
  repeat' (first | with_reducible rfl | assumption | simp only [↓State.withMem_blank, ↓State.ite_blank, ite_self, h_mem, ↓State.foldl_blank, implies_true, forall_const] | split | intro _)

theorem State.resetPart_blank (h_clk : msk .clk = true) (h_tick : msk .tick = true) (h_crs : msk .crs = true) (h_evt : msk .evt = true) (h_hrg : msk .hrg = true) (h_img : msk .img = true) (h_gns : msk .gns = true) (h_pnt : msk .pnt = true) (h_ctrs : msk .ctrs = true) (h_cfg : msk .cfg = true) (h_locks : msk .locks = true) (h_sni : msk .sni = true) (h_est : msk .est = true) (h_ctl : msk .ctl = true) (h_alloc : msk .alloc = true) (h_csq : msk .csq = true) (h_trim : msk .trim = true) (h_vsl : msk .vsl = true) (h_tim : msk .tim = true) (h_rdn : msk .rdn = true) (h_btr : msk .btr = true) (h_can : msk .can = true) (h_ylk : msk .ylk = true) (h_log : msk .log = true) (h_cells : msk .cells = true) (h_mem : msk .mem = true) (h_glb : msk .glb = true) (h_sec : msk .sec = true) (h_pwr : msk .pwr = true) (h_outbox : msk .outbox = true) (cause phase : Nat) (s : State) :
    (State.resetPart cause phase s).blank msk = s.blank msk := by
  simp only [State.resetPart, State.blank, State.reset, h_clk, h_tick, h_crs, h_evt, h_hrg, h_img, h_gns, h_pnt, h_ctrs, h_cfg, h_locks, h_sni, h_est, h_ctl, h_alloc, h_csq, h_trim, h_vsl, h_tim, h_rdn, h_btr, h_can, h_ylk, h_log, h_cells, h_mem, h_glb, h_sec, h_pwr, h_outbox, if_true]

theorem State.partReset_blank (h_clk : msk .clk = true) (h_tick : msk .tick = true) (h_crs : msk .crs = true) (h_evt : msk .evt = true) (h_hrg : msk .hrg = true) (h_img : msk .img = true) (h_gns : msk .gns = true) (h_pnt : msk .pnt = true) (h_ctrs : msk .ctrs = true) (h_cfg : msk .cfg = true) (h_locks : msk .locks = true) (h_sni : msk .sni = true) (h_est : msk .est = true) (h_ctl : msk .ctl = true) (h_alloc : msk .alloc = true) (h_csq : msk .csq = true) (h_trim : msk .trim = true) (h_vsl : msk .vsl = true) (h_tim : msk .tim = true) (h_rdn : msk .rdn = true) (h_btr : msk .btr = true) (h_can : msk .can = true) (h_ylk : msk .ylk = true) (h_log : msk .log = true) (h_cells : msk .cells = true) (h_mem : msk .mem = true) (h_glb : msk .glb = true) (h_sec : msk .sec = true) (h_pwr : msk .pwr = true) (h_outbox : msk .outbox = true) (cause : Nat) (s : State) : (State.partReset cause s).blank msk = s.blank msk := by
  simp only [State.partReset, ↓State.breakSave_blank, ↓State.resetPart_blank, ↓State.ite_blank, ite_self, h_clk, h_tick, h_crs, h_evt, h_hrg, h_img, h_gns, h_pnt, h_ctrs, h_cfg, h_locks, h_sni, h_est, h_ctl, h_alloc, h_csq, h_trim, h_vsl, h_tim, h_rdn, h_btr, h_can, h_ylk, h_log, h_cells, h_mem, h_glb, h_sec, h_pwr, h_outbox]

end

end Sys2Proof.Machine
end

