-- ==== Sys2Proof/Laws/KeepControl.lean ====
section
/-! SUPPORT. What the operations and commands of Machine/Control.lean leave unchanged. -/

set_option linter.unusedSimpArgs false

namespace Sys2Proof.Machine
open Sys2Proof

section
variable {msk : Part → Bool}

theorem State.useGains_blank (h_evt : msk .evt = true) (h_ctrs : msk .ctrs = true) (h_ctl : msk .ctl = true) (k : Nat) (g : List Byte) (s : State) : (State.useGains k g s).blank msk = s.blank msk := by
  simp only [State.useGains, ↓State.raise_blank, ↓State.withCtl_blank, ↓State.ite_blank, ite_self, h_evt, h_ctrs, h_ctl]

theorem State.activateGains_blank (h_evt : msk .evt = true) (h_ctrs : msk .ctrs = true) (h_ctl : msk .ctl = true) (s : State) : (State.activateGains s).blank msk = s.blank msk := by
  unfold State.activateGains
  repeat' (first | with_reducible rfl | assumption | simp only [↓State.useGains_blank, ↓State.ite_blank, ite_self, h_evt, h_ctrs, h_ctl, ↓State.foldl_blank, implies_true, forall_const] | split | intro _)

theorem State.activateWind_blank (h_ctl : msk .ctl = true) (old : List Byte) (s : State) : (State.activateWind old s).blank msk = s.blank msk := by
  simp only [State.activateWind, ↓State.withCtl_blank, ↓State.ite_blank, ite_self, h_ctl, ↓State.foldl_blank, implies_true, forall_const]

theorem State.advanceLine_blank (h_ctl : msk .ctl = true) (vmax : F64) (s : State) : (State.advanceLine vmax s).blank msk = s.blank msk := by
  simp only [State.advanceLine, ↓State.withCtl_blank, ↓State.ite_blank, ite_self, h_ctl]

theorem State.berthPhase_blank (h_evt : msk .evt = true) (h_ctrs : msk .ctrs = true) (h_ctl : msk .ctl = true) (k : Nat) (s : State) : (State.berthPhase k s).blank msk = s.blank msk := by
  simp only [State.berthPhase, ↓State.raise_blank, ↓State.withCtl_blank, ↓State.ite_blank, ite_self, h_evt, h_ctrs, h_ctl]

theorem State.advanceBerth_blank (h_evt : msk .evt = true) (h_ctrs : msk .ctrs = true) (h_ctl : msk .ctl = true) (v : EstView) (s : State) : (State.advanceBerth v s).blank msk = s.blank msk := by
  unfold State.advanceBerth
  repeat' (first | with_reducible rfl | assumption | simp only [↓State.advanceLine_blank, ↓State.berthPhase_blank, ↓State.withCtl_blank, ↓State.ite_blank, ite_self, h_evt, h_ctrs, h_ctl, ↓State.foldl_blank, implies_true, forall_const] | split | intro _)

theorem State.startLeg_blank (h_ctl : msk .ctl = true) (i : Nat) (s0 v0 : F64) (s : State) : (State.startLeg i s0 v0 s).blank msk = s.blank msk := by
  simp only [State.startLeg, ↓State.withCtl_blank, ↓State.ite_blank, ite_self, h_ctl]

theorem State.advanceTrack_blank (h_evt : msk .evt = true) (h_ctrs : msk .ctrs = true) (h_ctl : msk .ctl = true) (v : EstView) (s : State) : (State.advanceTrack v s).blank msk = s.blank msk := by
  simp only [State.advanceTrack, ↓State.advanceLine_blank, ↓State.raise_blank, ↓State.startLeg_blank, ↓State.withCtl_blank, ↓State.ite_blank, ite_self, h_evt, h_ctrs, h_ctl]

theorem State.advanceTurn_blank (h_ctl : msk .ctl = true) (s : State) : (State.advanceTurn s).blank msk = s.blank msk := by
  simp only [State.advanceTurn, ↓State.withCtl_blank, ↓State.ite_blank, ite_self, h_ctl]

theorem State.advanceModels_blank (h_evt : msk .evt = true) (h_ctrs : msk .ctrs = true) (h_ctl : msk .ctl = true) (v : EstView) (s : State) : (State.advanceModels v s).blank msk = s.blank msk := by
  simp only [State.advanceModels, ↓State.advanceBerth_blank, ↓State.advanceLine_blank, ↓State.advanceTrack_blank, ↓State.advanceTurn_blank, ↓State.ite_blank, ite_self, h_evt, h_ctrs, h_ctl]

theorem State.joyOnEntry_blank (h_evt : msk .evt = true) (h_ctrs : msk .ctrs = true) (h_ctl : msk .ctl = true) (old new : Nat) (s : State) : (State.joyOnEntry old new s).blank msk = s.blank msk := by
  simp only [State.joyOnEntry, ↓State.raise_blank, ↓State.withCtl_blank, ↓State.ite_blank, ite_self, h_evt, h_ctrs, h_ctl]

theorem State.useCandidate_blank (h_evt : msk .evt = true) (h_ctrs : msk .ctrs = true) (h_ctl : msk .ctl = true) (m : Nat) (s : State) : (State.useCandidate m s).blank msk = s.blank msk := by
  simp only [State.useCandidate, ↓State.useGains_blank, ↓State.ite_blank, ite_self, h_evt, h_ctrs, h_ctl]

theorem State.changeMode_blank (h_evt : msk .evt = true) (h_ctrs : msk .ctrs = true) (h_ctl : msk .ctl = true) (new cause : Nat) (s : State) : (State.changeMode new cause s).blank msk = s.blank msk := by
  simp only [State.changeMode, ↓State.joyOnEntry_blank, ↓State.raise_blank, ↓State.useCandidate_blank, ↓State.withCtl_blank, ↓State.ite_blank, ite_self, h_evt, h_ctrs, h_ctl]

theorem State.enterModel_blank (h_ctl : msk .ctl = true) (old new : Nat) (s : State) : (State.enterModel old new s).blank msk = s.blank msk := by
  simp only [State.enterModel, ↓State.startLeg_blank, ↓State.withCtl_blank, ↓State.ite_blank, ite_self, h_ctl]

theorem State.enterDue_blank (h_ctl : msk .ctl = true) (v : EstView) (s : State) : (State.enterDue v s).blank msk = s.blank msk := by
  unfold State.enterDue
  repeat' (first | with_reducible rfl | assumption | simp only [↓State.enterModel_blank, ↓State.withCtl_blank, ↓State.ite_blank, ite_self, h_ctl, ↓State.foldl_blank, implies_true, forall_const] | split | intro _)

theorem State.applyForced_blank (h_evt : msk .evt = true) (h_ctrs : msk .ctrs = true) (h_ctl : msk .ctl = true) (v : EstView) (s : State) : (State.applyForced v s).blank msk = s.blank msk := by
  unfold State.applyForced
  repeat' (first | with_reducible rfl | assumption | simp only [↓State.changeMode_blank, ↓State.enterDue_blank, ↓State.withCtl_blank, ↓State.ite_blank, ite_self, h_evt, h_ctrs, h_ctl, ↓State.foldl_blank, implies_true, forall_const] | split | intro _)

theorem State.checkExcursion_blank (h_evt : msk .evt = true) (h_ctrs : msk .ctrs = true) (h_ctl : msk .ctl = true) (v : EstView) (s : State) : (State.checkExcursion v s).blank msk = s.blank msk := by
  simp only [State.checkExcursion, ↓State.raise_blank, ↓State.withCtl_blank, ↓State.ite_blank, ite_self, h_evt, h_ctrs, h_ctl, ↓State.foldl_blank, implies_true, forall_const]

theorem State.checkJoy_blank (h_evt : msk .evt = true) (h_ctrs : msk .ctrs = true) (h_ctl : msk .ctl = true) (s : State) : (State.checkJoy s).blank msk = s.blank msk := by
  simp only [State.checkJoy, ↓State.raise_blank, ↓State.withCtl_blank, ↓State.ite_blank, ite_self, h_evt, h_ctrs, h_ctl]

theorem State.currentOnce_blank (h_ctl : msk .ctl = true) (v : EstView) (s : State) : (State.currentOnce v s).blank msk = s.blank msk := by
  simp only [State.currentOnce, ↓State.withCtl_blank, ↓State.ite_blank, ite_self, h_ctl]

theorem State.gainSecond_blank (h_evt : msk .evt = true) (h_ctrs : msk .ctrs = true) (h_ctl : msk .ctl = true) (s : State) : (State.gainSecond s).blank msk = s.blank msk := by
  simp only [State.gainSecond, ↓State.useCandidate_blank, ↓State.withCtl_blank, ↓State.ite_blank, ite_self, h_evt, h_ctrs, h_ctl]

theorem State.gainOnce_blank (h_evt : msk .evt = true) (h_ctrs : msk .ctrs = true) (h_ctl : msk .ctl = true) (s : State) : (State.gainOnce s).blank msk = s.blank msk := by
  simp only [State.gainOnce, ↓State.gainSecond_blank, ↓State.withCtl_blank, ↓State.ite_blank, ite_self, h_evt, h_ctrs, h_ctl]

theorem State.everySecond_blank (h_evt : msk .evt = true) (h_ctrs : msk .ctrs = true) (h_ctl : msk .ctl = true) (v : EstView) (s : State) : (State.everySecond v s).blank msk = s.blank msk := by
  simp only [State.everySecond, ↓State.currentOnce_blank, ↓State.gainOnce_blank, ↓State.ite_blank, ite_self, h_evt, h_ctrs, h_ctl]

theorem State.formDemand_blank (h_ctl : msk .ctl = true) (v : EstView) (s : State) : (State.formDemand v s).blank msk = s.blank msk := by
  simp only [State.formDemand, ↓State.withCtl_blank, ↓State.ite_blank, ite_self, h_ctl]

theorem State.applySetpoint_blank (h_hrg : msk .hrg = true) (h_ctl : msk .ctl = true) (v : EstView) (r : SpWait) (s : State) : (State.applySetpoint v r s).blank msk = s.blank msk := by
  simp only [State.applySetpoint, ↓State.done_blank, ↓State.refuse_blank, ↓State.withCtl_blank, ↓State.ite_blank, ite_self, h_hrg, h_ctl]

theorem State.takeSetpoints_blank (h_hrg : msk .hrg = true) (h_ctl : msk .ctl = true) (v : EstView) (s : State) : (State.takeSetpoints v s).blank msk = s.blank msk := by
  simp only [State.takeSetpoints, ↓State.applySetpoint_blank, ↓State.withCtl_blank, ↓State.ite_blank, ite_self, h_hrg, h_ctl, ↓State.foldl_blank, implies_true, forall_const]

theorem State.takeWind_blank (h_ctl : msk .ctl = true) (s : State) : (State.takeWind s).blank msk = s.blank msk := by
  unfold State.takeWind
  repeat' (first | with_reducible rfl | assumption | simp only [↓State.withCtl_blank, ↓State.ite_blank, ite_self, h_ctl, ↓State.foldl_blank, implies_true, forall_const] | split | intro _ | rw [State.foldl_blank])

theorem State.windStep_blank (h_evt : msk .evt = true) (h_ctrs : msk .ctrs = true) (h_ctl : msk .ctl = true) (v : EstView) (s : State) : (State.windStep v s).blank msk = s.blank msk := by
  unfold State.windStep
  repeat' (first | with_reducible rfl | assumption | simp only [↓State.raise_blank, ↓State.takeWind_blank, ↓State.withCtl_blank, ↓State.ite_blank, ite_self, h_evt, h_ctrs, h_ctl, ↓State.foldl_blank, implies_true, forall_const] | split | intro _)

theorem State.law_blank (h_evt : msk .evt = true) (h_hrg : msk .hrg = true) (h_ctrs : msk .ctrs = true) (h_ctl : msk .ctl = true) (s : State) : (State.law s).blank msk = s.blank msk := by
  simp only [State.law, ↓State.advanceModels_blank, ↓State.applyForced_blank, ↓State.checkExcursion_blank, ↓State.checkJoy_blank, ↓State.enterDue_blank, ↓State.everySecond_blank, ↓State.formDemand_blank, ↓State.takeSetpoints_blank, ↓State.windStep_blank, ↓State.withCtl_blank, ↓State.ite_blank, ite_self, h_evt, h_hrg, h_ctrs, h_ctl]

theorem execJoystickLost_blank (h_clk : msk .clk = true) (h_evt : msk .evt = true) (h_ctrs : msk .ctrs = true) (h_ctl : msk .ctl = true) (t : Nat) (s : State) {t' : State} (h : execJoystickLost t s = .next t') : t'.blank msk = s.blank msk := by
  simp only [execJoystickLost, Host.Outcome.next.injEq] at h
  subst h
  simp only [↓State.checkJoy_blank, ↓State.instant_blank, ↓State.whileRunning_blank, ↓State.ite_blank, ite_self, h_clk, h_evt, h_ctrs, h_ctl, ↓State.foldl_blank, implies_true, forall_const]

theorem execGainAutoEvaluation_blank (h_clk : msk .clk = true) (h_evt : msk .evt = true) (h_ctrs : msk .ctrs = true) (h_ctl : msk .ctl = true) (t : Nat) (s : State) {t' : State} (h : execGainAutoEvaluation t s = .next t') : t'.blank msk = s.blank msk := by
  simp only [execGainAutoEvaluation, Host.Outcome.next.injEq] at h
  subst h
  simp only [↓State.gainOnce_blank, ↓State.instant_blank, ↓State.whileRunning_blank, ↓State.ite_blank, ite_self, h_clk, h_evt, h_ctrs, h_ctl, ↓State.foldl_blank, implies_true, forall_const]

theorem execCurrentReport_blank (h_clk : msk .clk = true) (h_ctl : msk .ctl = true) (t : Nat) (s : State) {t' : State} (h : execCurrentReport t s = .next t') : t'.blank msk = s.blank msk := by
  simp only [execCurrentReport, Host.Outcome.next.injEq] at h
  subst h
  simp only [↓State.currentOnce_blank, ↓State.instant_blank, ↓State.whileRunning_blank, ↓State.ite_blank, ite_self, h_clk, h_ctl, ↓State.foldl_blank, implies_true, forall_const]

theorem State.takeDpMode_blank (h_evt : msk .evt = true) (h_hrg : msk .hrg = true) (h_ctrs : msk .ctrs = true) (h_ctl : msk .ctl = true) (w : Waiting) (mode joy : Nat) (s : State) : (State.takeDpMode w mode joy s).blank msk = s.blank msk := by
  simp only [State.takeDpMode, ↓State.changeMode_blank, ↓State.done_blank, ↓State.refuse_blank, ↓State.withCtl_blank, ↓State.ite_blank, ite_self, h_evt, h_hrg, h_ctrs, h_ctl]

theorem State.takeSetpoint_blank (h_hrg : msk .hrg = true) (h_ctl : msk .ctl = true) (w : Waiting) (flags turn : Nat) (n e heading : Word) (s : State) : (State.takeSetpoint w flags turn n e heading s).blank msk = s.blank msk := by
  simp only [State.takeSetpoint, ↓State.applySetpoint_blank, ↓State.refuse_blank, ↓State.withCtl_blank, ↓State.ite_blank, ite_self, h_hrg, h_ctl]

theorem State.takeGainSelect_blank (h_evt : msk .evt = true) (h_hrg : msk .hrg = true) (h_ctrs : msk .ctrs = true) (h_ctl : msk .ctl = true) (w : Waiting) (set : Nat) (s : State) : (State.takeGainSelect w set s).blank msk = s.blank msk := by
  unfold State.takeGainSelect
  repeat' (first | with_reducible rfl | assumption | simp only [↓State.done_blank, ↓State.refuse_blank, ↓State.useGains_blank, ↓State.withCtl_blank, ↓State.ite_blank, ite_self, h_evt, h_hrg, h_ctrs, h_ctl, ↓State.foldl_blank, implies_true, forall_const] | split | intro _)

theorem State.takeTrackLoad_blank (h_hrg : msk .hrg = true) (h_ctl : msk .ctl = true) (w : Waiting) (data : List Byte) (s : State) : (State.takeTrackLoad w data s).blank msk = s.blank msk := by
  simp only [State.takeTrackLoad, ↓State.done_blank, ↓State.refuse_blank, ↓State.withCtl_blank, ↓State.ite_blank, ite_self, h_hrg, h_ctl]

theorem State.takeBerthSet_blank (h_hrg : msk .hrg = true) (h_ctl : msk .ctl = true) (w : Waiting) (n e heading : Word) (side : Nat) (s : State) : (State.takeBerthSet w n e heading side s).blank msk = s.blank msk := by
  simp only [State.takeBerthSet, ↓State.done_blank, ↓State.refuse_blank, ↓State.withCtl_blank, ↓State.ite_blank, ite_self, h_hrg, h_ctl]

theorem State.serveCtrlQuery_blank (h_evt : msk .evt = true) (h_hrg : msk .hrg = true) (h_ctrs : msk .ctrs = true) (h_outbox : msk .outbox = true) (w : Waiting) (s : State) : (State.serveCtrlQuery w s).blank msk = s.blank msk := by
  simp only [State.serveCtrlQuery, ↓State.answer_blank, ↓State.ite_blank, ite_self, h_evt, h_hrg, h_ctrs, h_outbox]

end

end Sys2Proof.Machine
end

