-- ==== Sys2Proof/Laws/KeepLinkBase.lean ====
section
/-! SUPPORT. What the operations and commands of Machine/LinkBase.lean leave unchanged. -/

set_option linter.unusedSimpArgs false

namespace Sys2Proof.Machine
open Sys2Proof

section
variable {msk : Part → Bool}

theorem State.setLinkState_blank (h_evt : msk .evt = true) (h_ctrs : msk .ctrs = true) (h_ylk : msk .ylk = true) (n : Nat) (s : State) : (State.setLinkState n s).blank msk = s.blank msk := by
  simp only [State.setLinkState, ↓State.raise_blank, ↓State.withYlk_blank, ↓State.ite_blank, ite_self, h_evt, h_ctrs, h_ylk]

theorem State.sendLink_blank (h_clk : msk .clk = true) (h_evt : msk .evt = true) (h_ctrs : msk .ctrs = true) (h_ylk : msk .ylk = true) (h_outbox : msk .outbox = true) (typ : Nat) (payload : List Byte) (s : State) : (State.sendLink typ payload s).blank msk = s.blank msk := by
  simp only [State.sendLink, ↓State.count_blank, ↓State.emit_blank, ↓State.useFree_blank, ↓State.withYlk_blank, ↓State.ite_blank, ite_self, h_clk, h_evt, h_ctrs, h_ylk, h_outbox]

theorem State.linkTake_blank (h_evt : msk .evt = true) (h_ctrs : msk .ctrs = true) (h_ylk : msk .ylk = true) (h_outbox : msk .outbox = true) (hd : LinkHdr) (typ : Nat) (payload fwd : List Byte) (act : State → State) (s : State) (k_act : ∀ s, (act s).blank msk = s.blank msk) : (State.linkTake hd typ payload fwd act s).blank msk = s.blank msk := by
  simp only [State.linkTake, ↓State.count_blank, ↓State.emit_blank, ↓State.withYlk_blank, ↓State.ite_blank, ite_self, h_evt, h_ctrs, h_ylk, h_outbox, k_act]

theorem State.setCombined_blank (h_evt : msk .evt = true) (h_ctrs : msk .ctrs = true) (h_ylk : msk .ylk = true) (ccase v : Nat) (s : State) : (State.setCombined ccase v s).blank msk = s.blank msk := by
  simp only [State.setCombined, ↓State.raise_blank, ↓State.withYlk_blank, ↓State.ite_blank, ite_self, h_evt, h_ctrs, h_ylk]

end

end Sys2Proof.Machine
end

