-- ==== Sys2Proof/Laws/KeepCourses.lean ====
section
/-! SUPPORT. What the operations and commands of Machine/Courses.lean leave unchanged. -/

set_option linter.unusedSimpArgs false

namespace Sys2Proof.Machine
open Sys2Proof

section
variable {msk : Part → Bool}

theorem State.buildTable_blank (h_crs : msk .crs = true) (h_evt : msk .evt = true) (h_ctrs : msk .ctrs = true) (l : Nat) (pair : Bool) (trim : Option Nat) (s : State) : (State.buildTable l pair trim s).blank msk = s.blank msk := by
  simp only [State.buildTable, ↓State.raise_blank, ↓State.withCrs_blank, ↓State.ite_blank, ite_self, h_crs, h_evt, h_ctrs]

theorem State.itemDone_blank (h_crs : msk .crs = true) (code : Nat) (s : State) : (State.itemDone code s).blank msk = s.blank msk := by
  simp only [State.itemDone, ↓State.withCrs_blank, ↓State.ite_blank, ite_self, h_crs]

theorem State.runItem_blank (h_clk : msk .clk = true) (h_crs : msk .crs = true) (code t : Nat) (f : State → State) (s : State) (k_f : ∀ s, (f s).blank msk = s.blank msk) : (State.runItem code t f s).blank msk = s.blank msk := by
  simp only [State.runItem, ↓State.instant_blank, ↓State.itemDone_blank, ↓State.whileRunning_blank, ↓State.ite_blank, ite_self, h_clk, h_crs, k_f, ↓State.foldl_blank, implies_true, forall_const]

theorem State.sendYield_blank (h_clk : msk .clk = true) (h_evt : msk .evt = true) (h_ctrs : msk .ctrs = true) (h_ylk : msk .ylk = true) (h_outbox : msk .outbox = true) (s : State) : (State.sendYield s).blank msk = s.blank msk := by
  simp only [State.sendYield, ↓State.sendLink_blank, ↓State.ite_blank, ite_self, h_clk, h_evt, h_ctrs, h_ylk, h_outbox]

theorem State.setRole_blank (h_evt : msk .evt = true) (h_ctrs : msk .ctrs = true) (h_rdn : msk .rdn = true) (r : Nat) (sev : Sev) (s : State) : (State.setRole r sev s).blank msk = s.blank msk := by
  simp only [State.setRole, ↓State.raise_blank, ↓State.withRdn_blank, ↓State.ite_blank, ite_self, h_evt, h_ctrs, h_rdn]

theorem State.loseClaim_blank (h_clk : msk .clk = true) (h_evt : msk .evt = true) (h_ctrs : msk .ctrs = true) (h_rdn : msk .rdn = true) (h_ylk : msk .ylk = true) (h_outbox : msk .outbox = true) (s : State) : (State.loseClaim s).blank msk = s.blank msk := by
  simp only [State.loseClaim, ↓State.sendYield_blank, ↓State.setRole_blank, ↓State.withRdn_blank, ↓State.ite_blank, ite_self, h_clk, h_evt, h_ctrs, h_rdn, h_ylk, h_outbox]

theorem State.raiseStreak_blank (h_clk : msk .clk = true) (h_crs : msk .crs = true) (h_evt : msk .evt = true) (h_ctrs : msk .ctrs = true) (h_rdn : msk .rdn = true) (h_ylk : msk .ylk = true) (h_outbox : msk .outbox = true) (code i : Nat) (s : State) : (State.raiseStreak code i s).blank msk = s.blank msk := by
  simp only [State.raiseStreak, ↓State.loseClaim_blank, ↓State.raise_blank, ↓State.withCrs_blank, ↓State.ite_blank, ite_self, h_clk, h_crs, h_evt, h_ctrs, h_rdn, h_ylk, h_outbox]

theorem State.missItem_blank (h_clk : msk .clk = true) (h_crs : msk .crs = true) (h_evt : msk .evt = true) (h_ctrs : msk .ctrs = true) (h_rdn : msk .rdn = true) (h_ylk : msk .ylk = true) (h_outbox : msk .outbox = true) (code : Nat) (s : State) : (State.missItem code s).blank msk = s.blank msk := by
  unfold State.missItem
  repeat' (first | with_reducible rfl | assumption | simp only [↓State.count_blank, ↓State.raise_blank, ↓State.raiseStreak_blank, ↓State.withCrs_blank, ↓State.ite_blank, ite_self, h_clk, h_crs, h_evt, h_ctrs, h_rdn, h_ylk, h_outbox, ↓State.foldl_blank, implies_true, forall_const] | split | intro _)

theorem State.runService_blank (h_clk : msk .clk = true) (h_crs : msk .crs = true) (code t : Nat) (f : State → State) (s : State) (k_f : ∀ s, (f s).blank msk = s.blank msk) : (State.runService code t f s).blank msk = s.blank msk := by
  simp only [State.runService, ↓State.instant_blank, ↓State.itemDone_blank, ↓State.whileRunning_blank, ↓State.ite_blank, ite_self, h_clk, h_crs, k_f, ↓State.foldl_blank, implies_true, forall_const]

theorem State.comparatorMismatch_blank (h_clk : msk .clk = true) (h_evt : msk .evt = true) (h_ctrs : msk .ctrs = true) (h_rdn : msk .rdn = true) (h_ylk : msk .ylk = true) (h_outbox : msk .outbox = true) (unit : Nat) (s : State) : (State.comparatorMismatch unit s).blank msk = s.blank msk := by
  simp only [State.comparatorMismatch, ↓State.loseClaim_blank, ↓State.raise_blank, ↓State.withRdn_blank, ↓State.ite_blank, ite_self, h_clk, h_evt, h_ctrs, h_rdn, h_ylk, h_outbox]

theorem execCrsTblIndexWrite_blank (h_crs : msk .crs = true) (h_evt : msk .evt = true) (h_ctrs : msk .ctrs = true) (w : Word) (s : State) {t' : State} (h : execCrsTblIndexWrite w s = .next t') : t'.blank msk = s.blank msk := by
  simp only [execCrsTblIndexWrite, Host.Outcome.next.injEq] at h
  subst h
  simp only [↓State.barWrite_blank, ↓State.withCrs_blank, ↓State.ite_blank, ite_self, h_crs, h_evt, h_ctrs, ↓State.foldl_blank, implies_true, forall_const]

theorem execLockstepMismatch_blank (h_clk : msk .clk = true) (h_evt : msk .evt = true) (h_ctrs : msk .ctrs = true) (h_rdn : msk .rdn = true) (h_ylk : msk .ylk = true) (h_outbox : msk .outbox = true) (t pair : Nat) (s : State) {t' : State} (h : execLockstepMismatch t pair s = .next t') : t'.blank msk = s.blank msk := by
  simp only [execLockstepMismatch, Host.Outcome.next.injEq] at h
  subst h
  simp only [↓State.comparatorMismatch_blank, ↓State.instant_blank, ↓State.ite_blank, ite_self, h_clk, h_evt, h_ctrs, h_rdn, h_ylk, h_outbox, ↓State.foldl_blank, implies_true, forall_const]

end

end Sys2Proof.Machine
end

