-- ==== Sys2Proof/Laws/KeepCells.lean ====
section
/-! SUPPORT. What the operations and commands of Machine/Cells.lean leave unchanged. -/

set_option linter.unusedSimpArgs false

namespace Sys2Proof.Machine
open Sys2Proof

section
variable {msk : Part → Bool}

theorem State.wakeBank_blank (h_evt : msk .evt = true) (h_ctrs : msk .ctrs = true) (h_mem : msk .mem = true) (b : Nat) (s : State) : (State.wakeBank b s).blank msk = s.blank msk := by
  simp only [State.wakeBank, ↓State.count_blank, ↓State.withMem_blank, ↓State.ite_blank, ite_self, h_evt, h_ctrs, h_mem]

theorem State.reach_blank (h_evt : msk .evt = true) (h_ctrs : msk .ctrs = true) (h_mem : msk .mem = true) (owner a n : Nat) (s : State) : (State.reach owner a n s).2.blank msk = s.blank msk := by
  unfold State.reach
  repeat' (first | with_reducible rfl | assumption | simp only [↓State.count_blank, ↓State.raise_blank, ↓State.wakeBank_blank, ↓State.ite_blank, ite_self, h_evt, h_ctrs, h_mem, ↓State.foldl_blank, implies_true, forall_const] | split | intro _)

theorem State.wakeSnapshot_blank (h_evt : msk .evt = true) (h_ctrs : msk .ctrs = true) (h_mem : msk .mem = true) (s : State) : (State.wakeSnapshot s).blank msk = s.blank msk := by
  simp only [State.wakeSnapshot, ↓State.wakeBank_blank, ↓State.ite_blank, ite_self, h_evt, h_ctrs, h_mem, ↓State.foldl_blank, implies_true, forall_const]

theorem State.retainSnapshot_blank (h_mem : msk .mem = true) (s : State) : (State.retainSnapshot s).blank msk = s.blank msk := by
  simp only [State.retainSnapshot, ↓State.withMem_blank, ↓State.ite_blank, ite_self, h_mem]

end

end Sys2Proof.Machine
end

