-- ==== Sys2Proof/Laws/KeepVoussoir.lean ====
section
/-! SUPPORT. What the operations and commands of Machine/Voussoir.lean leave unchanged. -/

set_option linter.unusedSimpArgs false

namespace Sys2Proof.Machine
open Sys2Proof

section
variable {msk : Part → Bool}

theorem State.restoreWarm_blank (h_vsl : msk .vsl = true) (ws : List WarmEntry) (s : State) : (State.restoreWarm ws s).blank msk = s.blank msk := by
  simp only [State.restoreWarm, ↓State.withVsl_blank, ↓State.ite_blank, ite_self, h_vsl]

theorem State.newTemplates_blank (h_vsl : msk .vsl = true) (old new : List Byte) (cold : Bool) (s : State) : (State.newTemplates old new cold s).blank msk = s.blank msk := by
  simp only [State.newTemplates, ↓State.withVsl_blank, ↓State.ite_blank, ite_self, h_vsl]

theorem State.problemEnds_blank (h_evt : msk .evt = true) (h_ctrs : msk .ctrs = true) (h_vsl : msk .vsl = true) (p : Problem) (o : Nat) (s : State) : (State.problemEnds p o s).blank msk = s.blank msk := by
  unfold State.problemEnds
  repeat' (first | with_reducible rfl | assumption | simp only [↓State.count_blank, ↓State.raise_blank, ↓State.withVsl_blank, ↓State.ite_blank, ite_self, h_evt, h_ctrs, h_vsl, ↓State.foldl_blank, implies_true, forall_const] | split | intro _)

theorem State.writeResult_blank (h_evt : msk .evt = true) (h_ctrs : msk .ctrs = true) (h_vsl : msk .vsl = true) (h_cells : msk .cells = true) (h_mem : msk .mem = true) (p : Problem) (r : ArrayResult) (s : State) : (State.writeResult p r s).blank msk = s.blank msk := by
  unfold State.writeResult
  repeat' (first | with_reducible rfl | assumption | simp only [↓State.reach_blank, ↓State.withMem_blank_cells, ↓State.withVsl_blank, ↓State.ite_blank, ite_self, h_evt, h_ctrs, h_vsl, h_cells, h_mem, ↓State.foldl_blank, implies_true, forall_const] | split | intro _)

theorem State.writeHeader_blank (h_evt : msk .evt = true) (h_ctrs : msk .ctrs = true) (h_vsl : msk .vsl = true) (h_cells : msk .cells = true) (h_mem : msk .mem = true) (p : Problem) (lane o flags cycles : Nat) (s : State) : (State.writeHeader p lane o flags cycles s).blank msk = s.blank msk := by
  simp only [State.writeHeader, ↓State.writeResult_blank, ↓State.ite_blank, ite_self, h_evt, h_ctrs, h_vsl, h_cells, h_mem]

theorem State.rejectProblem_blank (h_evt : msk .evt = true) (h_ctrs : msk .ctrs = true) (h_vsl : msk .vsl = true) (h_cells : msk .cells = true) (h_mem : msk .mem = true) (p : Problem) (s : State) : (State.rejectProblem p s).blank msk = s.blank msk := by
  simp only [State.rejectProblem, ↓State.problemEnds_blank, ↓State.writeHeader_blank, ↓State.ite_blank, ite_self, h_evt, h_ctrs, h_vsl, h_cells, h_mem]

theorem State.submit_blank (h_evt : msk .evt = true) (h_ctrs : msk .ctrs = true) (h_vsl : msk .vsl = true) (p : Problem) (s : State) : (State.submit p s).blank msk = s.blank msk := by
  unfold State.submit
  repeat' (first | with_reducible rfl | assumption | simp only [↓State.problemEnds_blank, ↓State.withVsl_blank, ↓State.ite_blank, ite_self, h_evt, h_ctrs, h_vsl, ↓State.foldl_blank, implies_true, forall_const] | split | intro _)

theorem State.enterQueue_blank (h_evt : msk .evt = true) (h_ctrs : msk .ctrs = true) (h_vsl : msk .vsl = true) (h_cells : msk .cells = true) (h_mem : msk .mem = true) (p : Problem) (s : State) : (State.enterQueue p s).blank msk = s.blank msk := by
  unfold State.enterQueue
  repeat' (first | with_reducible rfl | assumption | simp only [↓State.rejectProblem_blank, ↓State.submit_blank, ↓State.ite_blank, ite_self, h_evt, h_ctrs, h_vsl, h_cells, h_mem, ↓State.foldl_blank, implies_true, forall_const] | split | intro _)

theorem State.writeData_blank (h_evt : msk .evt = true) (h_ctrs : msk .ctrs = true) (h_cells : msk .cells = true) (h_mem : msk .mem = true) (p : Problem) (s : State) : (State.writeData p s).blank msk = s.blank msk := by
  simp only [State.writeData, ↓State.reach_blank, ↓State.withMem_blank_cells, ↓State.ite_blank, ite_self, h_evt, h_ctrs, h_cells, h_mem]

theorem State.submitOwn_blank (h_evt : msk .evt = true) (h_ctrs : msk .ctrs = true) (h_vsl : msk .vsl = true) (h_cells : msk .cells = true) (h_mem : msk .mem = true) (p : Problem) (s : State) : (State.submitOwn p s).blank msk = s.blank msk := by
  simp only [State.submitOwn, ↓State.enterQueue_blank, ↓State.writeData_blank, ↓State.ite_blank, ite_self, h_evt, h_ctrs, h_vsl, h_cells, h_mem]

theorem State.endHeader_blank (h_evt : msk .evt = true) (h_ctrs : msk .ctrs = true) (h_vsl : msk .vsl = true) (h_cells : msk .cells = true) (h_mem : msk .mem = true) (l : Nat) (p : Problem) (o : Nat) (s : State) : (State.endHeader l p o s).blank msk = s.blank msk := by
  simp only [State.endHeader, ↓State.writeHeader_blank, ↓State.writeResult_blank, ↓State.ite_blank, ite_self, h_evt, h_ctrs, h_vsl, h_cells, h_mem]

theorem State.setLane_blank (h_vsl : msk .vsl = true) (l : Nat) (x : Lane) (s : State) : (State.setLane l x s).blank msk = s.blank msk := by
  simp only [State.setLane, ↓State.withVsl_blank, ↓State.ite_blank, ite_self, h_vsl]

theorem State.laneLate_blank (h_evt : msk .evt = true) (h_ctrs : msk .ctrs = true) (h_vsl : msk .vsl = true) (h_cells : msk .cells = true) (h_mem : msk .mem = true) (l : Nat) (p : Problem) (s : State) : (State.laneLate l p s).blank msk = s.blank msk := by
  simp only [State.laneLate, ↓State.endHeader_blank, ↓State.problemEnds_blank, ↓State.setLane_blank, ↓State.ite_blank, ite_self, h_evt, h_ctrs, h_vsl, h_cells, h_mem]

theorem State.keepWarm_blank (h_vsl : msk .vsl = true) (p : Problem) (r : Sol) (s : State) : (State.keepWarm p r s).blank msk = s.blank msk := by
  unfold State.keepWarm
  repeat' (first | with_reducible rfl | assumption | simp only [↓State.withVsl_blank, ↓State.ite_blank, ite_self, h_vsl, ↓State.foldl_blank, implies_true, forall_const] | split | intro _)

theorem State.laneReleases_blank (h_evt : msk .evt = true) (h_ctrs : msk .ctrs = true) (h_vsl : msk .vsl = true) (h_cells : msk .cells = true) (h_mem : msk .mem = true) (l : Nat) (p : Problem) (s : State) : (State.laneReleases l p s).blank msk = s.blank msk := by
  simp only [State.laneReleases, ↓State.count_blank, ↓State.keepWarm_blank, ↓State.problemEnds_blank, ↓State.setLane_blank, ↓State.writeResult_blank, ↓State.ite_blank, ite_self, h_evt, h_ctrs, h_vsl, h_cells, h_mem]

theorem State.finishLane_blank (h_evt : msk .evt = true) (h_ctrs : msk .ctrs = true) (h_vsl : msk .vsl = true) (h_cells : msk .cells = true) (h_mem : msk .mem = true) (l : Nat) (s : State) : (State.finishLane l s).blank msk = s.blank msk := by
  unfold State.finishLane
  repeat' (first | with_reducible rfl | assumption | simp only [↓State.laneLate_blank, ↓State.laneReleases_blank, ↓State.ite_blank, ite_self, h_evt, h_ctrs, h_vsl, h_cells, h_mem, ↓State.foldl_blank, implies_true, forall_const] | split | intro _)

theorem State.lanesWarn_blank (h_evt : msk .evt = true) (h_ctrs : msk .ctrs = true) (before : Nat) (s : State) : (State.lanesWarn before s).blank msk = s.blank msk := by
  simp only [State.lanesWarn, ↓State.raise_blank, ↓State.ite_blank, ite_self, h_evt, h_ctrs]

theorem State.quarantine_blank (h_evt : msk .evt = true) (h_ctrs : msk .ctrs = true) (h_vsl : msk .vsl = true) (l : Nat) (s : State) : (State.quarantine l s).blank msk = s.blank msk := by
  simp only [State.quarantine, ↓State.lanesWarn_blank, ↓State.raise_blank, ↓State.setLane_blank, ↓State.ite_blank, ite_self, h_evt, h_ctrs, h_vsl]

theorem State.laneFault_blank (h_evt : msk .evt = true) (h_ctrs : msk .ctrs = true) (h_vsl : msk .vsl = true) (h_cells : msk .cells = true) (h_mem : msk .mem = true) (l : Nat) (s : State) : (State.laneFault l s).blank msk = s.blank msk := by
  unfold State.laneFault
  repeat' (first | with_reducible rfl | assumption | simp only [↓State.endHeader_blank, ↓State.problemEnds_blank, ↓State.quarantine_blank, ↓State.setLane_blank, ↓State.ite_blank, ite_self, h_evt, h_ctrs, h_vsl, h_cells, h_mem, ↓State.foldl_blank, implies_true, forall_const] | split | intro _)

theorem State.finishOwn_blank (h_evt : msk .evt = true) (h_ctrs : msk .ctrs = true) (h_vsl : msk .vsl = true) (h_cells : msk .cells = true) (h_mem : msk .mem = true) (e : OwnEnd) (p : Problem) (s : State) : (State.finishOwn e p s).blank msk = s.blank msk := by
  unfold State.finishOwn
  repeat' (first | with_reducible rfl | assumption | simp only [↓State.countN_blank, ↓State.finishLane_blank, ↓State.laneFault_blank, ↓State.laneLate_blank, ↓State.ite_blank, ite_self, h_evt, h_ctrs, h_vsl, h_cells, h_mem, ↓State.foldl_blank, implies_true, forall_const] | split | intro _)

theorem State.laneLoad_blank (h_evt : msk .evt = true) (h_ctrs : msk .ctrs = true) (h_vsl : msk .vsl = true) (h_cells : msk .cells = true) (h_mem : msk .mem = true) (l : Nat) (p : Problem) (s : State) : (State.laneLoad l p s).blank msk = s.blank msk := by
  simp only [State.laneLoad, ↓State.laneFault_blank, ↓State.reach_blank, ↓State.ite_blank, ite_self, h_evt, h_ctrs, h_vsl, h_cells, h_mem]

theorem State.takeHead_blank (h_evt : msk .evt = true) (h_ctrs : msk .ctrs = true) (h_vsl : msk .vsl = true) (h_cells : msk .cells = true) (h_mem : msk .mem = true) (s : State) : (State.takeHead s).blank msk = s.blank msk := by
  unfold State.takeHead
  repeat' (first | with_reducible rfl | assumption | simp only [↓State.laneLoad_blank, ↓State.problemEnds_blank, ↓State.setLane_blank, ↓State.withVsl_blank, ↓State.ite_blank, ite_self, h_evt, h_ctrs, h_vsl, h_cells, h_mem, ↓State.foldl_blank, implies_true, forall_const] | split | intro _)

theorem State.arrayUntil_blank (h_evt : msk .evt = true) (h_ctrs : msk .ctrs = true) (h_vsl : msk .vsl = true) (h_cells : msk .cells = true) (h_mem : msk .mem = true) (ps : List (Problem × OwnEnd)) (f : Nat) (s : State) :
    (State.arrayUntil ps f s).blank msk = s.blank msk := by
  induction f generalizing s with
  | zero => rfl
  | succ f ih =>
    unfold State.arrayUntil
    repeat' split
    all_goals first
      | rfl
      | simp only [↓ih, ↓State.takeHead_blank, ↓State.finishLane_blank, ↓State.finishOwn_blank, h_evt, h_ctrs, h_vsl, h_cells, h_mem]

theorem State.runOwn_blank (h_evt : msk .evt = true) (h_ctrs : msk .ctrs = true) (h_vsl : msk .vsl = true) (h_cells : msk .cells = true) (h_mem : msk .mem = true) (ps : List (Problem × OwnEnd)) (s : State) : (State.runOwn ps s).blank msk = s.blank msk := by
  simp only [State.runOwn, ↓State.arrayUntil_blank, ↓State.finishOwn_blank, ↓State.submitOwn_blank, ↓State.ite_blank, ite_self, h_evt, h_ctrs, h_vsl, h_cells, h_mem, ↓State.foldl_blank, implies_true, forall_const]

theorem State.abortArray_blank (h_evt : msk .evt = true) (h_ctrs : msk .ctrs = true) (h_vsl : msk .vsl = true) (s : State) : (State.abortArray s).blank msk = s.blank msk := by
  simp only [State.abortArray, ↓State.problemEnds_blank, ↓State.withVsl_blank, ↓State.ite_blank, ite_self, h_evt, h_ctrs, h_vsl, ↓State.foldl_blank, implies_true, forall_const]

theorem execVslLaneSelWrite_blank (h_evt : msk .evt = true) (h_ctrs : msk .ctrs = true) (h_vsl : msk .vsl = true) (w : Word) (s : State) {t' : State} (h : execVslLaneSelWrite w s = .next t') : t'.blank msk = s.blank msk := by
  simp only [execVslLaneSelWrite, Host.Outcome.next.injEq] at h
  subst h
  simp only [↓State.barWrite_blank, ↓State.withVsl_blank, ↓State.ite_blank, ite_self, h_evt, h_ctrs, h_vsl, ↓State.foldl_blank, implies_true, forall_const]

theorem execProblemSubmit_blank (h_clk : msk .clk = true) (h_evt : msk .evt = true) (h_ctrs : msk .ctrs = true) (h_vsl : msk .vsl = true) (h_cells : msk .cells = true) (h_mem : msk .mem = true) (t : Nat) (desc : List Byte) (s : State) {t' : State} (h : execProblemSubmit t desc s = .next t') : t'.blank msk = s.blank msk := by
  unfold execProblemSubmit at h
  injection h with h
  subst h
  repeat' (first | with_reducible rfl | assumption | simp only [↓State.enterQueue_blank, ↓State.instant_blank, ↓State.rejectProblem_blank, ↓State.whileRunning_blank, ↓State.ite_blank, ite_self, h_clk, h_evt, h_ctrs, h_vsl, h_cells, h_mem, ↓State.foldl_blank, implies_true, forall_const] | rw [State.whileRunning_blank] | split | intro _)

theorem State.feedMove_blank (h_evt : msk .evt = true) (h_ctrs : msk .ctrs = true) (h_vsl : msk .vsl = true) (h_cells : msk .cells = true) (h_mem : msk .mem = true) (s : State) : (State.feedMove s).blank msk = s.blank msk := by
  unfold State.feedMove
  repeat' (first | with_reducible rfl | assumption | simp only [↓State.enterQueue_blank, ↓State.withVsl_blank, ↓State.ite_blank, ite_self, h_evt, h_ctrs, h_vsl, h_cells, h_mem, ↓State.foldl_blank, implies_true, forall_const] | split | intro _)

theorem execFeedListMove_blank (h_clk : msk .clk = true) (h_evt : msk .evt = true) (h_ctrs : msk .ctrs = true) (h_vsl : msk .vsl = true) (h_cells : msk .cells = true) (h_mem : msk .mem = true) (t : Nat) (s : State) {t' : State} (h : execFeedListMove t s = .next t') : t'.blank msk = s.blank msk := by
  simp only [execFeedListMove, Host.Outcome.next.injEq] at h
  subst h
  simp only [↓State.feedMove_blank, ↓State.instant_blank, ↓State.whileRunning_blank, ↓State.ite_blank, ite_self, h_clk, h_evt, h_ctrs, h_vsl, h_cells, h_mem, ↓State.foldl_blank, implies_true, forall_const]

theorem execLaneTake_blank (h_clk : msk .clk = true) (h_evt : msk .evt = true) (h_ctrs : msk .ctrs = true) (h_vsl : msk .vsl = true) (h_cells : msk .cells = true) (h_mem : msk .mem = true) (t : Nat) (s : State) {t' : State} (h : execLaneTake t s = .next t') : t'.blank msk = s.blank msk := by
  unfold execLaneTake at h
  injection h with h
  subst h
  repeat' (first | with_reducible rfl | assumption | simp only [↓State.instant_blank, ↓State.takeHead_blank, ↓State.whileRunning_blank, ↓State.ite_blank, ite_self, h_clk, h_evt, h_ctrs, h_vsl, h_cells, h_mem, ↓State.foldl_blank, implies_true, forall_const] | rw [State.whileRunning_blank] | split | intro _)

theorem execProblemRelease_blank (h_clk : msk .clk = true) (h_evt : msk .evt = true) (h_ctrs : msk .ctrs = true) (h_vsl : msk .vsl = true) (h_cells : msk .cells = true) (h_mem : msk .mem = true) (t : Nat) (fin : LaneEnd) (s : State) {t' : State} (h : execProblemRelease t fin s = .next t') : t'.blank msk = s.blank msk := by
  unfold execProblemRelease at h
  injection h with h
  subst h
  repeat' (first | with_reducible rfl | assumption | simp only [↓State.countN_blank, ↓State.finishLane_blank, ↓State.instant_blank, ↓State.whileRunning_blank, ↓State.ite_blank, ite_self, h_clk, h_evt, h_ctrs, h_vsl, h_cells, h_mem, ↓State.foldl_blank, implies_true, forall_const] | rw [State.whileRunning_blank] | split | intro _)

theorem execProblemLate_blank (h_clk : msk .clk = true) (h_evt : msk .evt = true) (h_ctrs : msk .ctrs = true) (h_vsl : msk .vsl = true) (h_cells : msk .cells = true) (h_mem : msk .mem = true) (t : Nat) (fin : LaneEnd) (s : State) {t' : State} (h : execProblemLate t fin s = .next t') : t'.blank msk = s.blank msk := by
  unfold execProblemLate at h
  injection h with h
  subst h
  repeat' (first | with_reducible rfl | assumption | simp only [↓State.countN_blank, ↓State.instant_blank, ↓State.laneLate_blank, ↓State.whileRunning_blank, ↓State.ite_blank, ite_self, h_clk, h_evt, h_ctrs, h_vsl, h_cells, h_mem, ↓State.foldl_blank, implies_true, forall_const] | rw [State.whileRunning_blank] | split | intro _)

theorem State.katPass_blank (h_evt : msk .evt = true) (h_ctrs : msk .ctrs = true) (h_vsl : msk .vsl = true) (l : Nat) (s : State) : (State.katPass l s).blank msk = s.blank msk := by
  simp only [State.katPass, ↓State.raise_blank, ↓State.setLane_blank, ↓State.ite_blank, ite_self, h_evt, h_ctrs, h_vsl]

theorem execLaneKat_blank (h_clk : msk .clk = true) (h_evt : msk .evt = true) (h_ctrs : msk .ctrs = true) (h_vsl : msk .vsl = true) (t lane : Nat) (pass : Bool) (s : State) {t' : State} (h : execLaneKat t lane pass s = .next t') : t'.blank msk = s.blank msk := by
  simp only [execLaneKat, Host.Outcome.next.injEq] at h
  subst h
  simp only [↓State.count_blank, ↓State.instant_blank, ↓State.katPass_blank, ↓State.quarantine_blank, ↓State.setLane_blank, ↓State.whileRunning_blank, ↓State.ite_blank, ite_self, h_clk, h_evt, h_ctrs, h_vsl, ↓State.foldl_blank, implies_true, forall_const]

theorem execArrayComparatorMismatch_blank (h_clk : msk .clk = true) (h_evt : msk .evt = true) (h_ctrs : msk .ctrs = true) (h_vsl : msk .vsl = true) (h_rdn : msk .rdn = true) (h_ylk : msk .ylk = true) (h_outbox : msk .outbox = true) (t : Nat) (s : State) {t' : State} (h : execArrayComparatorMismatch t s = .next t') : t'.blank msk = s.blank msk := by
  simp only [execArrayComparatorMismatch, Host.Outcome.next.injEq] at h
  subst h
  simp only [↓State.abortArray_blank, ↓State.comparatorMismatch_blank, ↓State.instant_blank, ↓State.raise_blank, ↓State.whileRunning_blank, ↓State.withVsl_blank, ↓State.ite_blank, ite_self, h_clk, h_evt, h_ctrs, h_vsl, h_rdn, h_ylk, h_outbox, ↓State.foldl_blank, implies_true, forall_const]

end

end Sys2Proof.Machine
end

