-- ==== Sys2Proof/Laws/KeepAlloc.lean ====
section
/-! SUPPORT. What the operations and commands of Machine/Alloc.lean leave unchanged. -/

set_option linter.unusedSimpArgs false

namespace Sys2Proof.Machine
open Sys2Proof

section
variable {msk : Part → Bool}

theorem State.activateUnits_blank (h_alloc : msk .alloc = true) (changed : Bool) (s : State) : (State.activateUnits changed s).blank msk = s.blank msk := by
  simp only [State.activateUnits, ↓State.withAlloc_blank, ↓State.ite_blank, ite_self, h_alloc]

theorem execLaw_blank (h_clk : msk .clk = true) (h_crs : msk .crs = true) (h_evt : msk .evt = true) (h_hrg : msk .hrg = true) (h_ctrs : msk .ctrs = true) (h_ctl : msk .ctl = true) (h_alloc : msk .alloc = true) (t : Nat) (s : State) {t' : State} (h : execLaw t s = .next t') : t'.blank msk = s.blank msk := by
  simp only [execLaw, Host.Outcome.next.injEq] at h
  subst h
  simp only [↓State.law_blank, ↓State.runItem_blank, ↓State.takePower_blank, ↓State.ite_blank, ite_self, h_clk, h_crs, h_evt, h_hrg, h_ctrs, h_ctl, h_alloc, ↓State.foldl_blank, implies_true, forall_const]

theorem execAvailPointStale_blank (h_clk : msk .clk = true) (h_evt : msk .evt = true) (h_ctrs : msk .ctrs = true) (h_alloc : msk .alloc = true) (t bus : Nat) (s : State) {t' : State} (h : execAvailPointStale t bus s = .next t') : t'.blank msk = s.blank msk := by
  unfold execAvailPointStale at h
  injection h with h
  subst h
  repeat' (first | with_reducible rfl | assumption | simp only [↓State.instant_blank, ↓State.takeBus_blank, ↓State.whileRunning_blank, ↓State.ite_blank, ite_self, h_clk, h_evt, h_ctrs, h_alloc, ↓State.foldl_blank, implies_true, forall_const] | rw [State.whileRunning_blank] | split | intro _)

theorem State.putUnit_blank (h_alloc : msk .alloc = true) (u : Nat) (x : UnitSt) (s : State) : (State.putUnit u x s).blank msk = s.blank msk := by
  simp only [State.putUnit, ↓State.withAlloc_blank, ↓State.ite_blank, ite_self, h_alloc]

theorem State.unitChange_blank (h_evt : msk .evt = true) (h_ctrs : msk .ctrs = true) (u old new : Nat) (s : State) : (State.unitChange u old new s).blank msk = s.blank msk := by
  simp only [State.unitChange, ↓State.raise_blank, ↓State.ite_blank, ite_self, h_evt, h_ctrs]

theorem State.countBias_blank (h_alloc : msk .alloc = true) (s : State) : (State.countBias s).blank msk = s.blank msk := by
  simp only [State.countBias, ↓State.withAlloc_blank, ↓State.ite_blank, ite_self, h_alloc]

theorem State.makePlan_blank (h_evt : msk .evt = true) (h_ctrs : msk .ctrs = true) (h_alloc : msk .alloc = true) (s : State) : (State.makePlan s).blank msk = s.blank msk := by
  simp only [State.makePlan, ↓State.putUnit_blank, ↓State.unitChange_blank, ↓State.withAlloc_blank, ↓State.ite_blank, ite_self, h_evt, h_ctrs, h_alloc, ↓State.foldl_blank, implies_true, forall_const]

theorem State.submitNominal_blank (h_evt : msk .evt = true) (h_ctrs : msk .ctrs = true) (h_alloc : msk .alloc = true) (h_vsl : msk .vsl = true) (h_cells : msk .cells = true) (h_mem : msk .mem = true) (s : State) : (State.submitNominal s).blank msk = s.blank msk := by
  unfold State.submitNominal
  repeat' (first | with_reducible rfl | assumption | simp only [↓State.problemEnds_blank, ↓State.submitOwn_blank, ↓State.writeHeader_blank, ↓State.withAlloc_blank, ↓State.ite_blank, ite_self, h_evt, h_ctrs, h_alloc, h_vsl, h_cells, h_mem, ↓State.foldl_blank, implies_true, forall_const] | split | intro _)

theorem State.dispatch_blank (h_evt : msk .evt = true) (h_ctrs : msk .ctrs = true) (h_alloc : msk .alloc = true) (h_vsl : msk .vsl = true) (h_rdn : msk .rdn = true) (h_cells : msk .cells = true) (h_mem : msk .mem = true) (s : State) : (State.dispatch s).blank msk = s.blank msk := by
  simp only [State.dispatch, ↓State.countBias_blank, ↓State.makePlan_blank, ↓State.submitNominal_blank, ↓State.takePower_blank, ↓State.withAlloc_blank, ↓State.withRdn_blank, ↓State.ite_blank, ite_self, h_evt, h_ctrs, h_alloc, h_vsl, h_rdn, h_cells, h_mem]

theorem execDispatch_blank (h_clk : msk .clk = true) (h_crs : msk .crs = true) (h_evt : msk .evt = true) (h_ctrs : msk .ctrs = true) (h_alloc : msk .alloc = true) (h_vsl : msk .vsl = true) (h_rdn : msk .rdn = true) (h_cells : msk .cells = true) (h_mem : msk .mem = true) (t : Nat) (s : State) {t' : State} (h : execDispatch t s = .next t') : t'.blank msk = s.blank msk := by
  simp only [execDispatch, Host.Outcome.next.injEq] at h
  subst h
  simp only [↓State.dispatch_blank, ↓State.runItem_blank, ↓State.ite_blank, ite_self, h_clk, h_crs, h_evt, h_ctrs, h_alloc, h_vsl, h_rdn, h_cells, h_mem, ↓State.foldl_blank, implies_true, forall_const]

theorem State.phaseGroup_blank (h_evt : msk .evt = true) (h_ctrs : msk .ctrs = true) (h_alloc : msk .alloc = true) (g : Nat × List Nat × Int) (s : State) : (State.phaseGroup g s).blank msk = s.blank msk := by
  simp only [State.phaseGroup, ↓State.putUnit_blank, ↓State.raise_blank, ↓State.withAlloc_blank, ↓State.ite_blank, ite_self, h_evt, h_ctrs, h_alloc, ↓State.foldl_blank, implies_true, forall_const]

theorem State.finishAlloc_blank (h_evt : msk .evt = true) (h_ctrs : msk .ctrs = true) (h_alloc : msk .alloc = true) (flags status iter : Nat) (origin : Word) (s : State) : (State.finishAlloc flags status iter origin s).blank msk = s.blank msk := by
  simp only [State.finishAlloc, ↓State.phaseGroup_blank, ↓State.withAlloc_blank, ↓State.ite_blank, ite_self, h_evt, h_ctrs, h_alloc, ↓State.foldl_blank, implies_true, forall_const]

theorem State.countUnmet_blank (h_evt : msk .evt = true) (h_ctrs : msk .ctrs = true) (h_alloc : msk .alloc = true) (unmet : Bool) (s : State) : (State.countUnmet unmet s).blank msk = s.blank msk := by
  simp only [State.countUnmet, ↓State.raise_blank, ↓State.withAlloc_blank, ↓State.ite_blank, ite_self, h_evt, h_ctrs, h_alloc]

theorem State.trackTurn_blank (h_evt : msk .evt = true) (h_ctrs : msk .ctrs = true) (h_alloc : msk .alloc = true) (t : List Byte) (held : Nat → Bool) (u : Nat) (p : UnitPlan) (s : State) : (State.trackTurn t held u p s).blank msk = s.blank msk := by
  simp only [State.trackTurn, ↓State.putUnit_blank, ↓State.raise_blank, ↓State.ite_blank, ite_self, h_evt, h_ctrs, h_alloc]

theorem State.releaseStandby_blank (h_evt : msk .evt = true) (h_ctrs : msk .ctrs = true) (h_alloc : msk .alloc = true) (s : State) : (State.releaseStandby s).blank msk = s.blank msk := by
  simp only [State.releaseStandby, ↓State.finishAlloc_blank, ↓State.putUnit_blank, ↓State.ite_blank, ite_self, h_evt, h_ctrs, h_alloc, ↓State.foldl_blank, implies_true, forall_const]

theorem State.releaseResult_blank (h_evt : msk .evt = true) (h_ctrs : msk .ctrs = true) (h_alloc : msk .alloc = true) (t : List Byte) (r : ArrayResult) (s : State) : (State.releaseResult t r s).blank msk = s.blank msk := by
  simp only [State.releaseResult, ↓State.countUnmet_blank, ↓State.finishAlloc_blank, ↓State.putUnit_blank, ↓State.trackTurn_blank, ↓State.ite_blank, ite_self, h_evt, h_ctrs, h_alloc, ↓State.foldl_blank, implies_true, forall_const]

theorem State.releaseHeld_blank (h_evt : msk .evt = true) (h_ctrs : msk .ctrs = true) (h_alloc : msk .alloc = true) (status iter : Nat) (s : State) : (State.releaseHeld status iter s).blank msk = s.blank msk := by
  simp only [State.releaseHeld, ↓State.finishAlloc_blank, ↓State.putUnit_blank, ↓State.ite_blank, ite_self, h_evt, h_ctrs, h_alloc, ↓State.foldl_blank, implies_true, forall_const]

theorem State.releaseMiss_blank (h_clk : msk .clk = true) (h_crs : msk .crs = true) (h_evt : msk .evt = true) (h_ctrs : msk .ctrs = true) (h_alloc : msk .alloc = true) (h_rdn : msk .rdn = true) (h_ylk : msk .ylk = true) (h_outbox : msk .outbox = true) (status iter : Nat) (s : State) : (State.releaseMiss status iter s).blank msk = s.blank msk := by
  simp only [State.releaseMiss, ↓State.missItem_blank, ↓State.releaseHeld_blank, ↓State.ite_blank, ite_self, h_clk, h_crs, h_evt, h_ctrs, h_alloc, h_rdn, h_ylk, h_outbox]

theorem execRelease_blank (h_clk : msk .clk = true) (h_crs : msk .crs = true) (h_evt : msk .evt = true) (h_ctrs : msk .ctrs = true) (h_alloc : msk .alloc = true) (h_rdn : msk .rdn = true) (h_ylk : msk .ylk = true) (h_outbox : msk .outbox = true) (t : Nat) (s : State) {t' : State} (h : execRelease t s = .next t') : t'.blank msk = s.blank msk := by
  unfold execRelease at h
  injection h with h
  subst h
  repeat' (first | with_reducible rfl | assumption | simp only [↓State.instant_blank, ↓State.itemDone_blank, ↓State.releaseMiss_blank, ↓State.releaseResult_blank, ↓State.releaseStandby_blank, ↓State.whileRunning_blank, ↓State.ite_blank, ite_self, h_clk, h_crs, h_evt, h_ctrs, h_alloc, h_rdn, h_ylk, h_outbox, ↓State.foldl_blank, implies_true, forall_const] | rw [State.whileRunning_blank] | split | intro _)

theorem State.releaseLate_blank (h_clk : msk .clk = true) (h_crs : msk .crs = true) (h_evt : msk .evt = true) (h_ctrs : msk .ctrs = true) (h_alloc : msk .alloc = true) (h_rdn : msk .rdn = true) (h_ylk : msk .ylk = true) (h_outbox : msk .outbox = true) (s : State) : (State.releaseLate s).blank msk = s.blank msk := by
  simp only [State.releaseLate, ↓State.itemDone_blank, ↓State.releaseMiss_blank, ↓State.releaseStandby_blank, ↓State.ite_blank, ite_self, h_clk, h_crs, h_evt, h_ctrs, h_alloc, h_rdn, h_ylk, h_outbox]

theorem State.takeThrusterEnable_blank (h_hrg : msk .hrg = true) (h_alloc : msk .alloc = true) (w : Waiting) (changed on : Half) (s : State) : (State.takeThrusterEnable w changed on s).blank msk = s.blank msk := by
  simp only [State.takeThrusterEnable, ↓State.done_blank, ↓State.withAlloc_blank, ↓State.ite_blank, ite_self, h_hrg, h_alloc]

theorem State.serveAllocQuery_blank (h_evt : msk .evt = true) (h_hrg : msk .hrg = true) (h_ctrs : msk .ctrs = true) (h_outbox : msk .outbox = true) (w : Waiting) (s : State) : (State.serveAllocQuery w s).blank msk = s.blank msk := by
  simp only [State.serveAllocQuery, ↓State.answer_blank, ↓State.ite_blank, ite_self, h_evt, h_hrg, h_ctrs, h_outbox]

end

end Sys2Proof.Machine
end

