-- ==== Sys2Proof/Laws/KeepImageData.lean ====
section
/-! SUPPORT. What the operations and commands of Machine/ImageData.lean leave unchanged. -/

set_option linter.unusedSimpArgs false

namespace Sys2Proof.Machine
open Sys2Proof

section
variable {msk : Part → Bool}

theorem State.abandonActivation_blank (h_evt : msk .evt = true) (h_hrg : msk .hrg = true) (h_img : msk .img = true) (h_ctrs : msk .ctrs = true) (reason : Nat) (s : State) : (State.abandonActivation reason s).blank msk = s.blank msk := by
  unfold State.abandonActivation
  repeat' (first | with_reducible rfl | assumption | simp only [↓State.raise_blank, ↓State.refuse_blank, ↓State.withImg_blank, ↓State.ite_blank, ite_self, h_evt, h_hrg, h_img, h_ctrs, ↓State.foldl_blank, implies_true, forall_const] | split | intro _)

end

end Sys2Proof.Machine
end

