-- ==== Sys2Proof/Laws/KeepHostRings.lean ====
section
/-! SUPPORT. What the operations and commands of Machine/HostRings.lean leave unchanged. -/

set_option linter.unusedSimpArgs false

namespace Sys2Proof.Machine
open Sys2Proof

section
variable {msk : Part → Bool}

theorem State.eventMsg_blank (h_evt : msk .evt = true) (h_hrg : msk .hrg = true) (h_outbox : msk .outbox = true) (c : Sev) (s : State) : (State.eventMsg c s).blank msk = s.blank msk := by
  unfold State.eventMsg
  repeat' (first | with_reducible rfl | assumption | simp only [↓State.msix_blank, ↓State.withEvt_blank, ↓State.ite_blank, ite_self, h_evt, h_hrg, h_outbox, ↓State.foldl_blank, implies_true, forall_const] | split | intro _)

theorem State.hostInterfaceReset_blank (h_evt : msk .evt = true) (h_hrg : msk .hrg = true) (h_img : msk .img = true) (h_gns : msk .gns = true) (h_ctrs : msk .ctrs = true) (h_est : msk .est = true) (h_ctl : msk .ctl = true) (h_trim : msk .trim = true) (h_rdn : msk .rdn = true) (h_btr : msk .btr = true) (h_log : msk .log = true) (h_mem : msk .mem = true) (kind : Nat) (s : State) : (State.hostInterfaceReset kind s).blank msk = s.blank msk := by
  simp only [State.hostInterfaceReset, ↓State.abandonActivation_blank, ↓State.raise_blank, ↓State.retainSnapshot_blank, ↓State.withBtr_blank, ↓State.withCtl_blank, ↓State.withEst_blank, ↓State.withGns_blank, ↓State.withHrg_blank, ↓State.withImg_blank, ↓State.withLog_blank, ↓State.withMem_blank, ↓State.withRdn_blank, ↓State.withTrim_blank, ↓State.ite_blank, ite_self, Mem.endTest_sram, Mem.endTest_mortar, h_evt, h_hrg, h_img, h_gns, h_ctrs, h_est, h_ctl, h_trim, h_rdn, h_btr, h_log, h_mem]

theorem State.fetchLost_blank (h_hrg : msk .hrg = true) (ring : Nat) (s : State) : (State.fetchLost ring s).blank msk = s.blank msk := by
  simp only [State.fetchLost, ↓State.setRing_blank, ↓State.withHrg_blank, ↓State.ite_blank, ite_self, h_hrg]

theorem State.finishReset_blank (h_hrg : msk .hrg = true) (i : Nat) (s : State) : (State.finishReset i s).blank msk = s.blank msk := by
  simp only [State.finishReset, ↓State.setRing_blank, ↓State.ite_blank, ite_self, h_hrg]

theorem State.postCompletion_blank (h_hrg : msk .hrg = true) (h_outbox : msk .outbox = true) (ring : Nat) (s : State) : (State.postCompletion ring s).blank msk = s.blank msk := by
  unfold State.postCompletion
  repeat' (first | with_reducible rfl | assumption | simp only [↓State.finishReset_blank, ↓State.putEntry_blank, ↓State.ringMsg_blank, ↓State.setRing_blank, ↓State.ite_blank, ite_self, h_hrg, h_outbox, ↓State.foldl_blank, implies_true, forall_const] | split | intro _)

theorem State.writePiece_blank (h_hrg : msk .hrg = true) (h_outbox : msk .outbox = true) (s : State) : (State.writePiece s).blank msk = s.blank msk := by
  unfold State.writePiece
  repeat' (first | with_reducible rfl | assumption | simp only [↓State.emit_blank, ↓State.putEntry_blank, ↓State.ringMsg_blank, ↓State.withHrg_blank, ↓State.ite_blank, ite_self, h_hrg, h_outbox, ↓State.foldl_blank, implies_true, forall_const] | split | intro _)

theorem State.haltBound_blank (h_hrg : msk .hrg = true) (i : Nat) (s : State) : (State.haltBound i s).blank msk = s.blank msk := by
  simp only [State.haltBound, ↓State.setRing_blank, ↓State.ite_blank, ite_self, h_hrg, ↓State.foldl_blank, implies_true, forall_const]

theorem State.haltWritten_blank (h_evt : msk .evt = true) (h_hrg : msk .hrg = true) (h_ctrs : msk .ctrs = true) (i : Nat) (s : State) : (State.haltWritten i s).blank msk = s.blank msk := by
  simp only [State.haltWritten, ↓State.haltBound_blank, ↓State.haltRing_blank, ↓State.ite_blank, ite_self, h_evt, h_hrg, h_ctrs]

theorem State.dropRetry_blank (h_hrg : msk .hrg = true) (i : Nat) (gone : HostAccess → Bool) (s : State) : (State.dropRetry i gone s).blank msk = s.blank msk := by
  simp only [State.dropRetry, ↓State.setRing_blank, ↓State.withHrg_blank, ↓State.ite_blank, ite_self, h_hrg]

theorem State.resetCommandRing_blank (h_hrg : msk .hrg = true) (i : Nat) (s : State) : (State.resetCommandRing i s).blank msk = s.blank msk := by
  simp only [State.resetCommandRing, ↓State.dropRetry_blank, ↓State.setRing_blank, ↓State.withHrg_blank, ↓State.ite_blank, ite_self, h_hrg]

theorem State.resetWrittenRing_blank (h_hrg : msk .hrg = true) (i : Nat) (s : State) : (State.resetWrittenRing i s).blank msk = s.blank msk := by
  simp only [State.resetWrittenRing, ↓State.dropRetry_blank, ↓State.holdPiece_blank, ↓State.setRing_blank, ↓State.withHrg_blank, ↓State.ite_blank, ite_self, h_hrg, ↓State.foldl_blank, implies_true, forall_const]

theorem State.releaseBound_blank (h_hrg : msk .hrg = true) (i : Nat) (s : State) : (State.releaseBound i s).blank msk = s.blank msk := by
  simp only [State.releaseBound, ↓State.setRing_blank, ↓State.ite_blank, ite_self, h_hrg, ↓State.foldl_blank, implies_true, forall_const]

theorem State.resetRing_blank (h_evt : msk .evt = true) (h_hrg : msk .hrg = true) (h_ctrs : msk .ctrs = true) (i : Nat) (s : State) : (State.resetRing i s).blank msk = s.blank msk := by
  simp only [State.resetRing, ↓State.raise_blank, ↓State.resetCommandRing_blank, ↓State.resetWrittenRing_blank, ↓State.ite_blank, ite_self, h_evt, h_hrg, h_ctrs]

theorem State.flushGo_blank (h_hrg : msk .hrg = true) (h_outbox : msk .outbox = true) (i f : Nat) (s : State) (m : Option Sev) :
    (State.flushGo i f s m).1.blank msk = s.blank msk := by
  induction f generalizing s m with
  | zero => rfl
  | succ f ih =>
    simp only [State.flushGo]
    repeat' split
    all_goals first
      | rfl
      | simp only [↓ih, ↓State.setRing_blank, ↓State.putEntry_blank, h_hrg, h_outbox]

theorem State.flushHeld_blank (h_evt : msk .evt = true) (h_hrg : msk .hrg = true) (h_outbox : msk .outbox = true) (i : Nat) (s : State) : (State.flushHeld i s).blank msk = s.blank msk := by
  have h := State.flushGo_blank h_hrg h_outbox i (s.ring i).held.length s none
  unfold State.flushHeld
  generalize State.flushGo i (s.ring i).held.length s none = r at h
  obtain ⟨u, c⟩ := r
  cases c with
  | none => exact h
  | some c =>
    dsimp only
    split
    · rw [State.eventMsg_blank h_evt h_hrg h_outbox, h]
    · rw [State.ringMsg_blank h_hrg h_outbox, h]

theorem execDoorbellWrite_blank (h_clk : msk .clk = true) (h_evt : msk .evt = true) (h_hrg : msk .hrg = true) (h_ctrs : msk .ctrs = true) (h_outbox : msk .outbox = true) (t ring : Nat) (w : Word) (s : State) {t' : State} (h : execDoorbellWrite t ring w s = .next t') : t'.blank msk = s.blank msk := by
  simp only [execDoorbellWrite, Host.Outcome.next.injEq] at h
  subst h
  simp only [↓State.barWrite_blank, ↓State.count_blank, ↓State.flushHeld_blank, ↓State.instant_blank, ↓State.raise_blank, ↓State.setRing_blank, ↓State.withHrg_blank, ↓State.ite_blank, ite_self, h_clk, h_evt, h_hrg, h_ctrs, h_outbox, ↓State.foldl_blank, implies_true, forall_const]

theorem State.enableRing_blank (h_evt : msk .evt = true) (h_hrg : msk .hrg = true) (h_ctrs : msk .ctrs = true) (h_outbox : msk .outbox = true) (i : Nat) (s : State) : (State.enableRing i s).blank msk = s.blank msk := by
  simp only [State.enableRing, ↓State.flushHeld_blank, ↓State.raise_blank, ↓State.releaseBound_blank, ↓State.setRing_blank, ↓State.ite_blank, ite_self, h_evt, h_hrg, h_ctrs, h_outbox]

theorem State.disableRing_blank (h_hrg : msk .hrg = true) (i : Nat) (s : State) : (State.disableRing i s).blank msk = s.blank msk := by
  simp only [State.disableRing, ↓State.setRing_blank, ↓State.ite_blank, ite_self, h_hrg]

theorem State.writeRctl_blank (h_evt : msk .evt = true) (h_hrg : msk .hrg = true) (h_ctrs : msk .ctrs = true) (h_outbox : msk .outbox = true) (w : Word) (s : State) : (State.writeRctl w s).blank msk = s.blank msk := by
  simp only [State.writeRctl, ↓State.disableRing_blank, ↓State.enableRing_blank, ↓State.resetRing_blank, ↓State.ite_blank, ite_self, h_evt, h_hrg, h_ctrs, h_outbox]

theorem execRingEnable_blank (h_clk : msk .clk = true) (h_evt : msk .evt = true) (h_hrg : msk .hrg = true) (h_ctrs : msk .ctrs = true) (h_outbox : msk .outbox = true) (t : Nat) (w : Word) (s : State) {t' : State} (h : execRingEnable t w s = .next t') : t'.blank msk = s.blank msk := by
  simp only [execRingEnable, Host.Outcome.next.injEq] at h
  subst h
  simp only [↓State.barWrite_blank, ↓State.instant_blank, ↓State.writeRctl_blank, ↓State.ite_blank, ite_self, h_clk, h_evt, h_hrg, h_ctrs, h_outbox, ↓State.foldl_blank, implies_true, forall_const]

theorem execRingReset_blank (h_clk : msk .clk = true) (h_evt : msk .evt = true) (h_hrg : msk .hrg = true) (h_ctrs : msk .ctrs = true) (h_outbox : msk .outbox = true) (t : Nat) (w : Word) (s : State) {t' : State} (h : execRingReset t w s = .next t') : t'.blank msk = s.blank msk := by
  simp only [execRingReset, Host.Outcome.next.injEq] at h
  subst h
  simp only [↓State.barWrite_blank, ↓State.instant_blank, ↓State.writeRctl_blank, ↓State.ite_blank, ite_self, h_clk, h_evt, h_hrg, h_ctrs, h_outbox, ↓State.foldl_blank, implies_true, forall_const]

theorem execRingResetDone_blank (h_clk : msk .clk = true) (h_hrg : msk .hrg = true) (t ring : Nat) (s : State) {t' : State} (h : execRingResetDone t ring s = .next t') : t'.blank msk = s.blank msk := by
  simp only [execRingResetDone, Host.Outcome.next.injEq] at h
  subst h
  simp only [↓State.finishReset_blank, ↓State.instant_blank, ↓State.ite_blank, ite_self, h_clk, h_hrg]

theorem State.dmaLost_blank (h_hrg : msk .hrg = true) (h_rdn : msk .rdn = true) (write : Bool) (ring n : Nat) (s : State) : (State.dmaLost write ring n s).blank msk = s.blank msk := by
  unfold State.dmaLost
  repeat' (first | with_reducible rfl | assumption | simp only [↓State.complete_blank, ↓State.done_blank, ↓State.withHrg_blank, ↓State.withRdn_blank, ↓State.ite_blank, ite_self, h_hrg, h_rdn, ↓State.foldl_blank, implies_true, forall_const] | split | intro _)

theorem State.endLoad_blank (h_hrg : msk .hrg = true) (h_img : msk .img = true) (slot : Slot) (staged : List Byte) (word : Nat) (s : State) : (State.endLoad slot staged word s).blank msk = s.blank msk := by
  unfold State.endLoad
  repeat' (first | with_reducible rfl | assumption | simp only [↓State.done_blank, ↓State.refuse_blank, ↓State.withImg_blank, ↓State.ite_blank, ite_self, h_hrg, h_img, ↓State.foldl_blank, implies_true, forall_const] | split | intro _)

theorem State.stopLoad_blank (h_hrg : msk .hrg = true) (h_img : msk .img = true) (s : State) : (State.stopLoad s).blank msk = s.blank msk := by
  simp only [State.stopLoad, ↓State.done_blank, ↓State.endLoad_blank, ↓State.withImg_blank, ↓State.ite_blank, ite_self, h_hrg, h_img, ↓State.foldl_blank, implies_true, forall_const]

theorem State.bufferLost_blank (h_hrg : msk .hrg = true) (h_img : msk .img = true) (h_rdn : msk .rdn = true) (ring n : Nat) (s : State) : (State.bufferLost ring n s).blank msk = s.blank msk := by
  unfold State.bufferLost
  repeat' (first | with_reducible rfl | assumption | simp only [↓State.dmaLost_blank, ↓State.endLoad_blank, ↓State.stopLoad_blank, ↓State.ite_blank, ite_self, h_hrg, h_img, h_rdn, ↓State.foldl_blank, implies_true, forall_const] | split | intro _)

theorem execHostAccessFailure_blank (h_clk : msk .clk = true) (h_evt : msk .evt = true) (h_hrg : msk .hrg = true) (h_ctrs : msk .ctrs = true) (t : Nat) (kind : HostAccess) (s : State) {t' : State} (h : execHostAccessFailure t kind s = .next t') : t'.blank msk = s.blank msk := by
  simp only [execHostAccessFailure, Host.Outcome.next.injEq] at h
  subst h
  simp only [↓State.count_blank, ↓State.instant_blank, ↓State.raise_blank, ↓State.setRing_blank, ↓State.withHrg_blank, ↓State.ite_blank, ite_self, h_clk, h_evt, h_hrg, h_ctrs]

theorem execHostAccessRetry_blank (h_clk : msk .clk = true) (h_evt : msk .evt = true) (h_hrg : msk .hrg = true) (h_img : msk .img = true) (h_ctrs : msk .ctrs = true) (h_rdn : msk .rdn = true) (h_outbox : msk .outbox = true) (t : Nat) (kind : HostAccess) (good : Bool) (done : Nat) (s : State) {t' : State} (h : execHostAccessRetry t kind good done s = .next t') : t'.blank msk = s.blank msk := by
  unfold execHostAccessRetry at h
  injection h with h
  subst h
  repeat' (first | with_reducible rfl | assumption | simp only [↓State.bufferLost_blank, ↓State.dmaLost_blank, ↓State.fetchLost_blank, ↓State.flushHeld_blank, ↓State.haltWritten_blank, ↓State.instant_blank, ↓State.setRing_blank, ↓State.withHrg_blank, ↓State.ite_blank, ite_self, h_clk, h_evt, h_hrg, h_img, h_ctrs, h_rdn, h_outbox, ↓State.foldl_blank, implies_true, forall_const] | split | intro _)

theorem execDescriptorPhaseTimeout_blank (h_clk : msk .clk = true) (h_evt : msk .evt = true) (h_hrg : msk .hrg = true) (h_ctrs : msk .ctrs = true) (t ring : Nat) (s : State) {t' : State} (h : execDescriptorPhaseTimeout t ring s = .next t') : t'.blank msk = s.blank msk := by
  simp only [execDescriptorPhaseTimeout, Host.Outcome.next.injEq] at h
  subst h
  simp only [↓State.fetchLost_blank, ↓State.instant_blank, ↓State.raise_blank, ↓State.whileRunning_blank, ↓State.ite_blank, ite_self, h_clk, h_evt, h_hrg, h_ctrs, ↓State.foldl_blank, implies_true, forall_const]

theorem execMsixModerationExpiry_blank (h_clk : msk .clk = true) (h_evt : msk .evt = true) (h_hrg : msk .hrg = true) (h_outbox : msk .outbox = true) (t ring : Nat) (s : State) {t' : State} (h : execMsixModerationExpiry t ring s = .next t') : t'.blank msk = s.blank msk := by
  unfold execMsixModerationExpiry at h
  injection h with h
  subst h
  repeat' (first | with_reducible rfl | assumption | simp only [↓State.instant_blank, ↓State.msix_blank, ↓State.setRing_blank, ↓State.withEvt_blank, ↓State.ite_blank, ite_self, h_clk, h_evt, h_hrg, h_outbox, ↓State.foldl_blank, implies_true, forall_const] | split | intro _)

theorem execPcieLinkUp_blank (h_clk : msk .clk = true) (h_evt : msk .evt = true) (h_hrg : msk .hrg = true) (h_ctrs : msk .ctrs = true) (t : Nat) (s : State) {t' : State} (h : execPcieLinkUp t s = .next t') : t'.blank msk = s.blank msk := by
  simp only [execPcieLinkUp, Host.Outcome.next.injEq] at h
  subst h
  simp only [↓State.instant_blank, ↓State.raise_blank, ↓State.withHrg_blank, ↓State.ite_blank, ite_self, h_clk, h_evt, h_hrg, h_ctrs]

end

end Sys2Proof.Machine
end

