-- ==== Sys2Proof/Laws/KeepEvents.lean ====
section
/-! SUPPORT. What the operations and commands of Machine/Events.lean leave unchanged. -/

set_option linter.unusedSimpArgs false

namespace Sys2Proof.Machine
open Sys2Proof

section
variable {msk : Part → Bool}

theorem State.writeEvent_blank (h_evt : msk .evt = true) (h_hrg : msk .hrg = true) (h_ctrs : msk .ctrs = true) (h_outbox : msk .outbox = true) (q : QEntry) (s : State) : (State.writeEvent q s).blank msk = s.blank msk := by
  simp only [State.writeEvent, ↓State.putEntry_blank, ↓State.withEvt_blank, ↓State.ite_blank, ite_self, h_evt, h_hrg, h_ctrs, h_outbox]

theorem State.writeEventsGo_blank (h_evt : msk .evt = true) (h_hrg : msk .hrg = true) (h_ctrs : msk .ctrs = true) (h_outbox : msk .outbox = true) (f : Nat) (s : State) (x : Option Sev) :
    (State.writeEventsGo f s x).1.blank msk = s.blank msk := by
  induction f generalizing s x with
  | zero => rfl
  | succ f ih =>
    unfold State.writeEventsGo
    split
    · rfl
    · split
      · rfl
      · simp only [↓ih, ↓State.writeEvent_blank, ↓State.withEvt_blank, h_evt, h_hrg, h_ctrs, h_outbox]

theorem State.writeEvents_blank (h_evt : msk .evt = true) (h_hrg : msk .hrg = true) (h_ctrs : msk .ctrs = true) (h_outbox : msk .outbox = true) (s : State) : (State.writeEvents s).blank msk = s.blank msk := by
  unfold State.writeEvents
  repeat' (first | with_reducible rfl | assumption | simp only [↓State.eventMsg_blank, ↓State.writeEventsGo_blank, ↓State.ite_blank, ite_self, h_evt, h_hrg, h_ctrs, h_outbox, ↓State.foldl_blank, implies_true, forall_const] | split | intro _)

end

end Sys2Proof.Machine
end

