-- ==== Sys2Proof/Laws/KeepPoints.lean ====
section
/-! SUPPORT. What the operations and commands of Machine/Points.lean leave unchanged. -/

set_option linter.unusedSimpArgs false

namespace Sys2Proof.Machine
open Sys2Proof

section
variable {msk : Part → Bool}

theorem State.setRouteSt_blank (h_pnt : msk .pnt = true) (e : Nat) (x : RouteSt) (s : State) : (State.setRouteSt e x s).blank msk = s.blank msk := by
  simp only [State.setRouteSt, ↓State.withPnt_blank, ↓State.ite_blank, ite_self, h_pnt]

theorem State.endView_blank (h_pnt : msk .pnt = true) (s : State) : (State.endView s).blank msk = s.blank msk := by
  simp only [State.endView, ↓State.withPnt_blank, ↓State.ite_blank, ite_self, h_pnt]

theorem State.forwardPoints_blank (h_clk : msk .clk = true) (h_evt : msk .evt = true) (h_pnt : msk .pnt = true) (h_ctrs : msk .ctrs = true) (h_ylk : msk .ylk = true) (h_outbox : msk .outbox = true) (time : Int) (ns : List Nat) (s : State) : (State.forwardPoints time ns s).blank msk = s.blank msk := by
  simp only [State.forwardPoints, ↓State.sendLink_blank, ↓State.withPnt_blank, ↓State.ite_blank, ite_self, h_clk, h_evt, h_pnt, h_ctrs, h_ylk, h_outbox, ↓State.foldl_blank, implies_true, forall_const]

theorem State.routeFresh_blank (h_evt : msk .evt = true) (h_pnt : msk .pnt = true) (h_ctrs : msk .ctrs = true) (e : Nat) (s : State) : (State.routeFresh e s).blank msk = s.blank msk := by
  simp only [State.routeFresh, ↓State.raise_blank, ↓State.setRouteSt_blank, ↓State.ite_blank, ite_self, h_evt, h_pnt, h_ctrs]

theorem State.updateRoute_blank (h_clk : msk .clk = true) (h_evt : msk .evt = true) (h_hrg : msk .hrg = true) (h_pnt : msk .pnt = true) (h_ctrs : msk .ctrs = true) (h_ylk : msk .ylk = true) (h_outbox : msk .outbox = true) (r : List Byte) (time : Int) (us : List PtUpd) (s : State) : (State.updateRoute r time us s).blank msk = s.blank msk := by
  simp only [State.updateRoute, ↓State.forwardPoints_blank, ↓State.routeFresh_blank, ↓State.writePoints_blank, ↓State.ite_blank, ite_self, h_clk, h_evt, h_hrg, h_pnt, h_ctrs, h_ylk, h_outbox]

theorem State.writeOwn_blank (h_evt : msk .evt = true) (h_hrg : msk .hrg = true) (h_pnt : msk .pnt = true) (h_ctrs : msk .ctrs = true) (h_outbox : msk .outbox = true) (first : Nat) (ws : List Word) (frame : Word) (qual : Byte) (s : State) : (State.writeOwn first ws frame qual s).blank msk = s.blank msk := by
  simp only [State.writeOwn, ↓State.writePoints_blank, ↓State.ite_blank, ite_self, h_evt, h_hrg, h_pnt, h_ctrs, h_outbox]

theorem State.alignPoints_blank (h_pnt : msk .pnt = true) (s : State) : (State.alignPoints s).blank msk = s.blank msk := by
  simp only [State.alignPoints, ↓State.withPnt_blank, ↓State.ite_blank, ite_self, h_pnt]

theorem State.setStream_blank (h_pnt : msk .pnt = true) (stream : Nat) (ranges : List (Nat × Nat)) (s : State) : (State.setStream stream ranges s).blank msk = s.blank msk := by
  simp only [State.setStream, ↓State.withPnt_blank, ↓State.ite_blank, ite_self, h_pnt]

theorem State.sentenceRoute_blank (h_clk : msk .clk = true) (h_evt : msk .evt = true) (h_hrg : msk .hrg = true) (h_pnt : msk .pnt = true) (h_ctrs : msk .ctrs = true) (h_ylk : msk .ylk = true) (h_outbox : msk .outbox = true) (r : List Byte) (time : Int) (fs : List (List Byte)) (s : State) : (State.sentenceRoute r time fs s).blank msk = s.blank msk := by
  simp only [State.sentenceRoute, ↓State.updateRoute_blank, ↓State.ite_blank, ite_self, h_clk, h_evt, h_hrg, h_pnt, h_ctrs, h_ylk, h_outbox]

theorem State.beginView_blank (h_pnt : msk .pnt = true) (s : State) : (State.beginView s).blank msk = s.blank msk := by
  simp only [State.beginView, ↓State.withPnt_blank, ↓State.ite_blank, ite_self, h_pnt]

theorem State.takeSysRecords_blank (h_pnt : msk .pnt = true) (frame : Word) (s : State) : (State.takeSysRecords frame s).blank msk = s.blank msk := by
  simp only [State.takeSysRecords, ↓State.withPnt_blank, ↓State.ite_blank, ite_self, h_pnt]

theorem State.writeRecords_blank (h_evt : msk .evt = true) (h_hrg : msk .hrg = true) (h_pnt : msk .pnt = true) (h_ctrs : msk .ctrs = true) (h_outbox : msk .outbox = true) (n : Nat) (s : State) : (State.writeRecords n s).blank msk = s.blank msk := by
  simp only [State.writeRecords, ↓State.writeOwn_blank, ↓State.withPnt_blank, ↓State.ite_blank, ite_self, h_evt, h_hrg, h_pnt, h_ctrs, h_outbox, ↓State.foldl_blank, implies_true, forall_const]

theorem State.routeSilent_blank (h_evt : msk .evt = true) (h_hrg : msk .hrg = true) (h_pnt : msk .pnt = true) (h_ctrs : msk .ctrs = true) (h_outbox : msk .outbox = true) (r : List Byte) (s : State) : (State.routeSilent r s).blank msk = s.blank msk := by
  simp only [State.routeSilent, ↓State.qualBit_blank, ↓State.raise_blank, ↓State.setRouteSt_blank, ↓State.ite_blank, ite_self, h_evt, h_hrg, h_pnt, h_ctrs, h_outbox]

theorem execRouteEntryStale_blank (h_clk : msk .clk = true) (h_evt : msk .evt = true) (h_hrg : msk .hrg = true) (h_pnt : msk .pnt = true) (h_ctrs : msk .ctrs = true) (h_outbox : msk .outbox = true) (t entry : Nat) (s : State) {t' : State} (h : execRouteEntryStale t entry s = .next t') : t'.blank msk = s.blank msk := by
  unfold execRouteEntryStale at h
  injection h with h
  subst h
  repeat' (first | with_reducible rfl | assumption | simp only [↓State.instant_blank, ↓State.routeSilent_blank, ↓State.whileRunning_blank, ↓State.ite_blank, ite_self, h_clk, h_evt, h_hrg, h_pnt, h_ctrs, h_outbox, ↓State.foldl_blank, implies_true, forall_const] | rw [State.whileRunning_blank] | split | intro _)

theorem State.streamDrain_blank (h_hrg : msk .hrg = true) (h_pnt : msk .pnt = true) (h_outbox : msk .outbox = true) (st f : Nat) (s : State) :
    (State.streamDrain st f s).blank msk = s.blank msk := by
  induction f generalizing s with
  | zero => rfl
  | succ f ih =>
    simp only [State.streamDrain, ↓State.ite_blank, ↓ih, ↓State.ringMsg_blank, ↓State.putEntry_blank, ↓State.withPnt_blank, h_pnt, h_hrg, h_outbox, ite_self]

theorem State.streamCatchUp_blank (h_hrg : msk .hrg = true) (h_pnt : msk .pnt = true) (h_outbox : msk .outbox = true) (st : Nat) (s : State) : (State.streamCatchUp st s).blank msk = s.blank msk := by
  simp only [State.streamCatchUp, ↓State.streamDrain_blank, ↓State.ite_blank, ite_self, h_hrg, h_pnt, h_outbox]

theorem execStreamPendingPost_blank (h_clk : msk .clk = true) (h_hrg : msk .hrg = true) (h_pnt : msk .pnt = true) (h_outbox : msk .outbox = true) (t stream : Nat) (s : State) {t' : State} (h : execStreamPendingPost t stream s = .next t') : t'.blank msk = s.blank msk := by
  simp only [execStreamPendingPost, Host.Outcome.next.injEq] at h
  subst h
  simp only [↓State.instant_blank, ↓State.streamCatchUp_blank, ↓State.whileRunning_blank, ↓State.ite_blank, ite_self, h_clk, h_hrg, h_pnt, h_outbox, ↓State.foldl_blank, implies_true, forall_const]

theorem execPntSelWrite_blank (h_evt : msk .evt = true) (h_pnt : msk .pnt = true) (h_ctrs : msk .ctrs = true) (w : Word) (s : State) {t' : State} (h : execPntSelWrite w s = .next t') : t'.blank msk = s.blank msk := by
  simp only [execPntSelWrite, Host.Outcome.next.injEq] at h
  subst h
  simp only [↓State.barWrite_blank, ↓State.withPnt_blank, ↓State.ite_blank, ite_self, h_evt, h_pnt, h_ctrs, ↓State.foldl_blank, implies_true, forall_const]

end

end Sys2Proof.Machine
end

