-- ==== Sys2Proof/Laws/KeepNetworks.lean ====
section
/-! SUPPORT. What the operations and commands of Machine/Networks.lean leave unchanged. -/

set_option linter.unusedSimpArgs false

namespace Sys2Proof.Machine
open Sys2Proof

section
variable {msk : Part → Bool}

theorem State.copyNotSent_blank (h_evt : msk .evt = true) (h_ctrs : msk .ctrs = true) (n : Nat) (s : State) : (State.copyNotSent n s).blank msk = s.blank msk := by
  simp only [State.copyNotSent, ↓State.count_blank, ↓State.raise_blank, ↓State.ite_blank, ite_self, h_evt, h_ctrs]

theorem State.sendZx_blank (h_outbox : msk .outbox = true) (p : Port) (dst : Word) (b : List Byte) (s : State) : (State.sendZx p dst b s).blank msk = s.blank msk := by
  simp only [State.sendZx, ↓State.emit_blank, ↓State.ite_blank, ite_self, h_outbox]

theorem State.publish_blank (h_evt : msk .evt = true) (h_pnt : msk .pnt = true) (h_ctrs : msk .ctrs = true) (h_outbox : msk .outbox = true) (full : Nat) (r : List Byte) (s : State) : (State.publish full r s).blank msk = s.blank msk := by
  simp only [State.publish, ↓State.copyNotSent_blank, ↓State.sendZx_blank, ↓State.setRouteSt_blank, ↓State.ite_blank, ite_self, h_evt, h_pnt, h_ctrs, h_outbox, ↓State.foldl_blank, implies_true, forall_const]

theorem State.publishAll_blank (h_evt : msk .evt = true) (h_pnt : msk .pnt = true) (h_ctrs : msk .ctrs = true) (h_outbox : msk .outbox = true) (full : Nat) (s : State) : (State.publishAll full s).blank msk = s.blank msk := by
  simp only [State.publishAll, ↓State.publish_blank, ↓State.withPnt_blank, ↓State.ite_blank, ite_self, h_evt, h_pnt, h_ctrs, h_outbox, ↓State.foldl_blank, implies_true, forall_const]

theorem State.sendFail_blank (h_evt : msk .evt = true) (h_ctrs : msk .ctrs = true) (h_rdn : msk .rdn = true) (n : Nat) (s : State) : (State.sendFail n s).blank msk = s.blank msk := by
  simp only [State.sendFail, ↓State.copyNotSent_blank, ↓State.withRdn_blank, ↓State.ite_blank, ite_self, h_evt, h_ctrs, h_rdn]

theorem State.netReject_blank (h_evt : msk .evt = true) (h_ctrs : msk .ctrs = true) (p : Port) (s : State) : (State.netReject p s).blank msk = s.blank msk := by
  simp only [State.netReject, ↓State.count_blank, ↓State.raise_blank, ↓State.ite_blank, ite_self, h_evt, h_ctrs]

theorem State.applyRecords_blank (h_clk : msk .clk = true) (h_evt : msk .evt = true) (h_hrg : msk .hrg = true) (h_pnt : msk .pnt = true) (h_ctrs : msk .ctrs = true) (h_ylk : msk .ylk = true) (h_outbox : msk .outbox = true) (r b : List Byte) (s : State) : (State.applyRecords r b s).blank msk = s.blank msk := by
  simp only [State.applyRecords, ↓State.countN_blank, ↓State.updateRoute_blank, ↓State.ite_blank, ite_self, h_clk, h_evt, h_hrg, h_pnt, h_ctrs, h_ylk, h_outbox]

theorem State.setSeqIn_blank (h_pnt : msk .pnt = true) (b : List Byte) (status : Option Nat) (s : State) : (State.setSeqIn b status s).blank msk = s.blank msk := by
  simp only [State.setSeqIn, ↓State.withPnt_blank, ↓State.ite_blank, ite_self, h_pnt]

theorem State.sendAck_blank (h_outbox : msk .outbox = true) (p : Port) (src : Word) (b : List Byte) (status : Nat) (s : State) : (State.sendAck p src b status s).blank msk = s.blank msk := by
  simp only [State.sendAck, ↓State.sendZx_blank, ↓State.ite_blank, ite_self, h_outbox]

theorem State.zxCommand_blank (h_clk : msk .clk = true) (h_evt : msk .evt = true) (h_hrg : msk .hrg = true) (h_pnt : msk .pnt = true) (h_ctrs : msk .ctrs = true) (h_ylk : msk .ylk = true) (h_outbox : msk .outbox = true) (p : Port) (src : Word) (b : List Byte) (s : State) : (State.zxCommand p src b s).blank msk = s.blank msk := by
  unfold State.zxCommand
  repeat' (first | with_reducible rfl | assumption | simp only [↓State.applyRecords_blank, ↓State.count_blank, ↓State.raise_blank, ↓State.sendAck_blank, ↓State.setSeqIn_blank, ↓State.ite_blank, ite_self, h_clk, h_evt, h_hrg, h_pnt, h_ctrs, h_ylk, h_outbox, ↓State.foldl_blank, implies_true, forall_const] | split | intro _)

theorem State.zxRead_blank (h_outbox : msk .outbox = true) (p : Port) (src : Word) (b : List Byte) (s : State) : (State.zxRead p src b s).blank msk = s.blank msk := by
  simp only [State.zxRead, ↓State.sendZx_blank, ↓State.ite_blank, ite_self, h_outbox]

theorem State.zxReceive_blank (h_clk : msk .clk = true) (h_evt : msk .evt = true) (h_hrg : msk .hrg = true) (h_pnt : msk .pnt = true) (h_ctrs : msk .ctrs = true) (h_ylk : msk .ylk = true) (h_outbox : msk .outbox = true) (p : Port) (u : UdpHdr) (b : List Byte) (s : State) : (State.zxReceive p u b s).blank msk = s.blank msk := by
  unfold State.zxReceive
  dsimp only
  repeat' split
  all_goals first
    | rfl
    | simp only [↓State.applyRecords_blank, ↓State.netReject_blank, ↓State.sendAck_blank, ↓State.setSeqIn_blank, ↓State.zxCommand_blank, ↓State.zxRead_blank, ↓State.ite_blank, ite_self, h_clk, h_evt, h_hrg, h_pnt, h_ctrs, h_ylk, h_outbox]

theorem execZwiluxDataRx_blank (h_clk : msk .clk = true) (h_evt : msk .evt = true) (h_hrg : msk .hrg = true) (h_pnt : msk .pnt = true) (h_ctrs : msk .ctrs = true) (h_ylk : msk .ylk = true) (h_outbox : msk .outbox = true) (t : Nat) (port : Port) (u : UdpHdr) (bytes : List Byte) (s : State) {t' : State} (h : execZwiluxDataRx t port u bytes s = .next t') : t'.blank msk = s.blank msk := by
  unfold execZwiluxDataRx at h
  injection h with h
  subst h
  repeat' (first | with_reducible rfl | assumption | simp only [↓State.instant_blank, ↓State.whileRunning_blank, ↓State.zxReceive_blank, ↓State.ite_blank, ite_self, h_clk, h_evt, h_hrg, h_pnt, h_ctrs, h_ylk, h_outbox, ↓State.foldl_blank, implies_true, forall_const] | rw [State.whileRunning_blank] | split | dsimp only | intro _ | rw [State.foldl_blank])

theorem execZwiluxCommandRx_blank (h_clk : msk .clk = true) (h_evt : msk .evt = true) (h_hrg : msk .hrg = true) (h_pnt : msk .pnt = true) (h_ctrs : msk .ctrs = true) (h_ylk : msk .ylk = true) (h_outbox : msk .outbox = true) (t : Nat) (port : Port) (u : UdpHdr) (bytes : List Byte) (s : State) {t' : State} (h : execZwiluxCommandRx t port u bytes s = .next t') : t'.blank msk = s.blank msk := by
  unfold execZwiluxCommandRx at h
  injection h with h
  subst h
  repeat' (first | with_reducible rfl | assumption | simp only [↓State.instant_blank, ↓State.whileRunning_blank, ↓State.zxReceive_blank, ↓State.ite_blank, ite_self, h_clk, h_evt, h_hrg, h_pnt, h_ctrs, h_ylk, h_outbox, ↓State.foldl_blank, implies_true, forall_const] | rw [State.whileRunning_blank] | split | dsimp only | intro _ | rw [State.foldl_blank])

theorem execZwiluxReadRx_blank (h_clk : msk .clk = true) (h_evt : msk .evt = true) (h_hrg : msk .hrg = true) (h_pnt : msk .pnt = true) (h_ctrs : msk .ctrs = true) (h_ylk : msk .ylk = true) (h_outbox : msk .outbox = true) (t : Nat) (port : Port) (u : UdpHdr) (bytes : List Byte) (s : State) {t' : State} (h : execZwiluxReadRx t port u bytes s = .next t') : t'.blank msk = s.blank msk := by
  unfold execZwiluxReadRx at h
  injection h with h
  subst h
  repeat' (first | with_reducible rfl | assumption | simp only [↓State.instant_blank, ↓State.whileRunning_blank, ↓State.zxReceive_blank, ↓State.ite_blank, ite_self, h_clk, h_evt, h_hrg, h_pnt, h_ctrs, h_ylk, h_outbox, ↓State.foldl_blank, implies_true, forall_const] | rw [State.whileRunning_blank] | split | dsimp only | intro _ | rw [State.foldl_blank])

theorem execNetLinkChange_blank (h_clk : msk .clk = true) (h_evt : msk .evt = true) (h_pnt : msk .pnt = true) (h_ctrs : msk .ctrs = true) (t : Nat) (port : Port) (speed : Nat) (s : State) {t' : State} (h : execNetLinkChange t port speed s = .next t') : t'.blank msk = s.blank msk := by
  unfold execNetLinkChange at h
  injection h with h
  subst h
  repeat' (first | with_reducible rfl | assumption | simp only [↓State.instant_blank, ↓State.raise_blank, ↓State.withPnt_blank, ↓State.ite_blank, ite_self, h_clk, h_evt, h_pnt, h_ctrs, ↓State.foldl_blank, implies_true, forall_const] | split | intro _)

theorem execIcmpEchoRequest_blank (h_clk : msk .clk = true) (h_outbox : msk .outbox = true) (t : Nat) (port : Port) (src : Word) (bytes : List Byte) (s : State) {t' : State} (h : execIcmpEchoRequest t port src bytes s = .next t') : t'.blank msk = s.blank msk := by
  simp only [execIcmpEchoRequest, Host.Outcome.next.injEq] at h
  subst h
  simp only [↓State.emit_blank, ↓State.instant_blank, ↓State.whileRunning_blank, ↓State.ite_blank, ite_self, h_clk, h_outbox, ↓State.foldl_blank, implies_true, forall_const]

theorem execArpRequest_blank (h_clk : msk .clk = true) (h_outbox : msk .outbox = true) (t : Nat) (port : Port) (sender target : Word) (s : State) {t' : State} (h : execArpRequest t port sender target s = .next t') : t'.blank msk = s.blank msk := by
  simp only [execArpRequest, Host.Outcome.next.injEq] at h
  subst h
  simp only [↓State.emit_blank, ↓State.instant_blank, ↓State.whileRunning_blank, ↓State.ite_blank, ite_self, h_clk, h_outbox, ↓State.foldl_blank, implies_true, forall_const]

theorem execIgmpQueryRx_blank (h_clk : msk .clk = true) (h_outbox : msk .outbox = true) (t : Nat) (port : Port) (version : Nat) (group : Word) (s : State) {t' : State} (h : execIgmpQueryRx t port version group s = .next t') : t'.blank msk = s.blank msk := by
  unfold execIgmpQueryRx at h
  injection h with h
  subst h
  repeat' (first | with_reducible rfl | assumption | simp only [↓State.emit_blank, ↓State.instant_blank, ↓State.whileRunning_blank, ↓State.ite_blank, ite_self, h_clk, h_outbox, ↓State.foldl_blank, implies_true, forall_const] | rw [State.whileRunning_blank] | split | intro _)

end

end Sys2Proof.Machine
end

