-- ==== Sys2Proof/Laws/KeepIntake.lean ====
section
/-! SUPPORT. What the operations and commands of Machine/Intake.lean leave unchanged. -/

set_option linter.unusedSimpArgs false

namespace Sys2Proof.Machine
open Sys2Proof

section
variable {msk : Part → Bool}

theorem State.setEntrySt_blank (h_sni : msk .sni = true) (e : Nat) (x : EntrySt) (s : State) : (State.setEntrySt e x s).blank msk = s.blank msk := by
  simp only [State.setEntrySt, ↓State.withSni_blank, ↓State.ite_blank, ite_self, h_sni]

theorem State.setAna_blank (h_sni : msk .sni = true) (c : Nat) (x : AnaCh) (s : State) : (State.setAna c x s).blank msk = s.blank msk := by
  simp only [State.setAna, ↓State.withSni_blank, ↓State.ite_blank, ite_self, h_sni]

theorem State.startRun_blank (h_sni : msk .sni = true) (channel : Nat) (s : State) : (State.startRun channel s).blank msk = s.blank msk := by
  unfold State.startRun
  repeat' (first | with_reducible rfl | assumption | simp only [↓State.setAna_blank, ↓State.ite_blank, ite_self, h_sni, ↓State.foldl_blank, implies_true, forall_const] | split | intro _)

theorem State.bufferRecord_blank (h_evt : msk .evt = true) (h_ctrs : msk .ctrs = true) (h_sni : msk .sni = true) (r : IntakeRec) (s : State) : (State.bufferRecord r s).blank msk = s.blank msk := by
  simp only [State.bufferRecord, ↓State.count_blank, ↓State.raise_blank, ↓State.withSni_blank, ↓State.ite_blank, ite_self, h_evt, h_ctrs, h_sni]

theorem State.entryHeard_blank (h_evt : msk .evt = true) (h_ctrs : msk .ctrs = true) (h_sni : msk .sni = true) (e : Nat) (s : State) : (State.entryHeard e s).blank msk = s.blank msk := by
  simp only [State.entryHeard, ↓State.raise_blank, ↓State.setEntrySt_blank, ↓State.ite_blank, ite_self, h_evt, h_ctrs, h_sni]

theorem State.sniError_blank (h_evt : msk .evt = true) (h_ctrs : msk .ctrs = true) (h_sni : msk .sni = true) (e : Nat) (s : State) : (State.sniError e s).blank msk = s.blank msk := by
  simp only [State.sniError, ↓State.countOcc_blank, ↓State.raise_blank, ↓State.setEntrySt_blank, ↓State.ite_blank, ite_self, h_evt, h_ctrs, h_sni]

theorem State.sniOverdue_blank (h_evt : msk .evt = true) (h_ctrs : msk .ctrs = true) (h_sni : msk .sni = true) (e : Nat) (s : State) : (State.sniOverdue e s).blank msk = s.blank msk := by
  simp only [State.sniOverdue, ↓State.countOcc_blank, ↓State.raise_blank, ↓State.setEntrySt_blank, ↓State.ite_blank, ite_self, h_evt, h_ctrs, h_sni]

theorem State.arrive_blank (h_clk : msk .clk = true) (h_evt : msk .evt = true) (h_ctrs : msk .ctrs = true) (h_sni : msk .sni = true) (h_ylk : msk .ylk = true) (h_outbox : msk .outbox = true) (q : List Byte) (kind flags unc : Nat) (stamp : Int) (data : List Byte) (s : State) : (State.arrive q kind flags unc stamp data s).blank msk = s.blank msk := by
  simp only [State.arrive, ↓State.bufferRecord_blank, ↓State.entryHeard_blank, ↓State.sendLink_blank, ↓State.setEntrySt_blank, ↓State.sniError_blank, ↓State.sniOverdue_blank, ↓State.ite_blank, ite_self, h_clk, h_evt, h_ctrs, h_sni, h_ylk, h_outbox]

theorem State.alignRecords_blank (h_sni : msk .sni = true) (s : State) : (State.alignRecords s).blank msk = s.blank msk := by
  simp only [State.alignRecords, ↓State.withSni_blank, ↓State.ite_blank, ite_self, h_sni]

theorem State.entrySilence_blank (h_evt : msk .evt = true) (h_ctrs : msk .ctrs = true) (h_sni : msk .sni = true) (q : List Byte) (s : State) : (State.entrySilence q s).blank msk = s.blank msk := by
  simp only [State.entrySilence, ↓State.raise_blank, ↓State.setEntrySt_blank, ↓State.ite_blank, ite_self, h_evt, h_ctrs, h_sni]

theorem State.anaSwitch_blank (h_sni : msk .sni = true) (channel input : Nat) (s : State) : (State.anaSwitch channel input s).blank msk = s.blank msk := by
  simp only [State.anaSwitch, ↓State.setAna_blank, ↓State.startRun_blank, ↓State.ite_blank, ite_self, h_sni]

theorem State.sniGap_blank (h_evt : msk .evt = true) (h_ctrs : msk .ctrs = true) (h_sni : msk .sni = true) (e n : Nat) (s : State) : (State.sniGap e n s).blank msk = s.blank msk := by
  simp only [State.sniGap, ↓State.raise_blank, ↓State.setEntrySt_blank, ↓State.ite_blank, ite_self, h_evt, h_ctrs, h_sni]

theorem execSentenceStartStamp_blank (h_clk : msk .clk = true) (h_sni : msk .sni = true) (t uart : Nat) (s : State) {t' : State} (h : execSentenceStartStamp t uart s = .next t') : t'.blank msk = s.blank msk := by
  unfold execSentenceStartStamp at h
  injection h with h
  subst h
  repeat' (first | with_reducible rfl | assumption | simp only [↓State.instant_blank, ↓State.whileRunning_blank, ↓State.withSni_blank, ↓State.ite_blank, ite_self, h_clk, h_sni, ↓State.foldl_blank, implies_true, forall_const] | rw [State.whileRunning_blank] | split | intro _)

theorem execUartFramingError_blank (h_clk : msk .clk = true) (h_evt : msk .evt = true) (h_ctrs : msk .ctrs = true) (h_sni : msk .sni = true) (t uart : Nat) (s : State) {t' : State} (h : execUartFramingError t uart s = .next t') : t'.blank msk = s.blank msk := by
  unfold execUartFramingError at h
  injection h with h
  subst h
  repeat' (first | with_reducible rfl | assumption | simp only [↓State.instant_blank, ↓State.sniError_blank, ↓State.whileRunning_blank, ↓State.withSni_blank, ↓State.ite_blank, ite_self, h_clk, h_evt, h_ctrs, h_sni, ↓State.foldl_blank, implies_true, forall_const] | rw [State.whileRunning_blank] | split | intro _)

theorem State.uartSentence_blank (h_clk : msk .clk = true) (h_evt : msk .evt = true) (h_hrg : msk .hrg = true) (h_pnt : msk .pnt = true) (h_ctrs : msk .ctrs = true) (h_sni : msk .sni = true) (h_ylk : msk .ylk = true) (h_outbox : msk .outbox = true) (uart : Nat) (q addr : List Byte) (fs : List (List Byte)) (tInt : Int) (s : State) : (State.uartSentence uart q addr fs tInt s).blank msk = s.blank msk := by
  unfold State.uartSentence
  repeat' (first | with_reducible rfl | assumption | simp only [↓State.arrive_blank, ↓State.sentenceRoute_blank, ↓State.sniError_blank, ↓State.ite_blank, ite_self, h_clk, h_evt, h_hrg, h_pnt, h_ctrs, h_sni, h_ylk, h_outbox, ↓State.foldl_blank, implies_true, forall_const] | split | intro _)

theorem execSentenceReceived_blank (h_clk : msk .clk = true) (h_evt : msk .evt = true) (h_hrg : msk .hrg = true) (h_pnt : msk .pnt = true) (h_ctrs : msk .ctrs = true) (h_sni : msk .sni = true) (h_ylk : msk .ylk = true) (h_outbox : msk .outbox = true) (t uart : Nat) (bytes : List Byte) (s : State) {t' : State} (h : execSentenceReceived t uart bytes s = .next t') : t'.blank msk = s.blank msk := by
  unfold execSentenceReceived at h
  injection h with h
  subst h
  repeat' (first | with_reducible rfl | assumption | simp only [↓State.instant_blank, ↓State.sniError_blank, ↓State.uartSentence_blank, ↓State.whileRunning_blank, ↓State.withSni_blank, ↓State.ite_blank, ite_self, h_clk, h_evt, h_hrg, h_pnt, h_ctrs, h_sni, h_ylk, h_outbox, ↓State.foldl_blank, implies_true, forall_const] | rw [State.whileRunning_blank] | split | intro _)

theorem State.busSentence_blank (h_clk : msk .clk = true) (h_evt : msk .evt = true) (h_hrg : msk .hrg = true) (h_pnt : msk .pnt = true) (h_ctrs : msk .ctrs = true) (h_sni : msk .sni = true) (h_ylk : msk .ylk = true) (h_outbox : msk .outbox = true) (rk qk port unc : Nat) (stamp : Int) (line : List Byte) (s : State) : (State.busSentence rk qk port unc stamp line s).blank msk = s.blank msk := by
  unfold State.busSentence
  repeat' (first | with_reducible rfl | assumption | simp only [↓State.arrive_blank, ↓State.sentenceRoute_blank, ↓State.sniError_blank, ↓State.ite_blank, ite_self, h_clk, h_evt, h_hrg, h_pnt, h_ctrs, h_sni, h_ylk, h_outbox, ↓State.foldl_blank, implies_true, forall_const] | split | intro _)

theorem execNetworkSentenceRx_blank (h_clk : msk .clk = true) (h_evt : msk .evt = true) (h_hrg : msk .hrg = true) (h_pnt : msk .pnt = true) (h_ctrs : msk .ctrs = true) (h_sni : msk .sni = true) (h_ylk : msk .ylk = true) (h_outbox : msk .outbox = true) (t : Nat) (port : Port) (group : Nat) (bytes : List Byte) (s : State) {t' : State} (h : execNetworkSentenceRx t port group bytes s = .next t') : t'.blank msk = s.blank msk := by
  unfold execNetworkSentenceRx at h
  injection h with h
  subst h
  repeat' (first | with_reducible rfl | assumption | simp only [↓State.busSentence_blank, ↓State.instant_blank, ↓State.netReject_blank, ↓State.whileRunning_blank, ↓State.ite_blank, ite_self, h_clk, h_evt, h_hrg, h_pnt, h_ctrs, h_sni, h_ylk, h_outbox, ↓State.foldl_blank, implies_true, forall_const] | rw [State.whileRunning_blank] | split | intro _)

theorem State.imuEdge_blank (h_sni : msk .sni = true) (port : Nat) (s : State) : (State.imuEdge port s).blank msk = s.blank msk := by
  simp only [State.imuEdge, ↓State.withSni_blank, ↓State.ite_blank, ite_self, h_sni]

theorem execImuSyncPulse_blank (h_clk : msk .clk = true) (h_sni : msk .sni = true) (h_outbox : msk .outbox = true) (t port : Nat) (s : State) {t' : State} (h : execImuSyncPulse t port s = .next t') : t'.blank msk = s.blank msk := by
  unfold execImuSyncPulse at h
  injection h with h
  subst h
  repeat' (first | with_reducible rfl | assumption | simp only [↓State.emit_blank, ↓State.imuEdge_blank, ↓State.instant_blank, ↓State.whileRunning_blank, ↓State.ite_blank, ite_self, h_clk, h_sni, h_outbox, ↓State.foldl_blank, implies_true, forall_const] | rw [State.whileRunning_blank] | split | intro _)

theorem execImuDrdyEdge_blank (h_clk : msk .clk = true) (h_sni : msk .sni = true) (t port : Nat) (s : State) {t' : State} (h : execImuDrdyEdge t port s = .next t') : t'.blank msk = s.blank msk := by
  unfold execImuDrdyEdge at h
  injection h with h
  subst h
  repeat' (first | with_reducible rfl | assumption | simp only [↓State.imuEdge_blank, ↓State.instant_blank, ↓State.whileRunning_blank, ↓State.ite_blank, ite_self, h_clk, h_sni, ↓State.foldl_blank, implies_true, forall_const] | rw [State.whileRunning_blank] | split | intro _)

theorem State.imuAccept_blank (h_clk : msk .clk = true) (h_evt : msk .evt = true) (h_ctrs : msk .ctrs = true) (h_sni : msk .sni = true) (h_ylk : msk .ylk = true) (h_outbox : msk .outbox = true) (port : Nat) (q b : List Byte) (edge : Int) (s : State) : (State.imuAccept port q b edge s).blank msk = s.blank msk := by
  simp only [State.imuAccept, ↓State.arrive_blank, ↓State.count_blank, ↓State.sniGap_blank, ↓State.withSni_blank, ↓State.ite_blank, ite_self, h_clk, h_evt, h_ctrs, h_sni, h_ylk, h_outbox]

theorem execImuFrameRead_blank (h_clk : msk .clk = true) (h_evt : msk .evt = true) (h_ctrs : msk .ctrs = true) (h_sni : msk .sni = true) (h_ylk : msk .ylk = true) (h_outbox : msk .outbox = true) (t port : Nat) (bytes : List Byte) (s : State) {t' : State} (h : execImuFrameRead t port bytes s = .next t') : t'.blank msk = s.blank msk := by
  unfold execImuFrameRead at h
  injection h with h
  subst h
  repeat' (first | with_reducible rfl | assumption | simp only [↓State.emit_blank, ↓State.imuAccept_blank, ↓State.instant_blank, ↓State.sniError_blank, ↓State.whileRunning_blank, ↓State.withSni_blank, ↓State.ite_blank, ite_self, h_clk, h_evt, h_ctrs, h_sni, h_ylk, h_outbox, ↓State.foldl_blank, implies_true, forall_const] | rw [State.whileRunning_blank] | split | intro _)

theorem execImuDrdyTimeout_blank (h_clk : msk .clk = true) (h_evt : msk .evt = true) (h_ctrs : msk .ctrs = true) (h_sni : msk .sni = true) (t port : Nat) (s : State) {t' : State} (h : execImuDrdyTimeout t port s = .next t') : t'.blank msk = s.blank msk := by
  unfold execImuDrdyTimeout at h
  injection h with h
  subst h
  repeat' (first | with_reducible rfl | assumption | simp only [↓State.instant_blank, ↓State.sniGap_blank, ↓State.whileRunning_blank, ↓State.withSni_blank, ↓State.ite_blank, ite_self, h_clk, h_evt, h_ctrs, h_sni, ↓State.foldl_blank, implies_true, forall_const] | rw [State.whileRunning_blank] | split | intro _)

theorem State.anaTestsDone_blank (h_hrg : msk .hrg = true) (h_sni : msk .sni = true) (c : Nat) (s : State) : (State.anaTestsDone c s).blank msk = s.blank msk := by
  simp only [State.anaTestsDone, ↓State.done_blank, ↓State.setAna_blank, ↓State.ite_blank, ite_self, h_hrg, h_sni, ↓State.foldl_blank, implies_true, forall_const]

theorem execAnalogOutput_blank (h_clk : msk .clk = true) (h_evt : msk .evt = true) (h_hrg : msk .hrg = true) (h_pnt : msk .pnt = true) (h_ctrs : msk .ctrs = true) (h_sni : msk .sni = true) (h_ylk : msk .ylk = true) (h_outbox : msk .outbox = true) (t channel : Nat) (code : Int) (ovrg : Bool) (s : State) {t' : State} (h : execAnalogOutput t channel code ovrg s = .next t') : t'.blank msk = s.blank msk := by
  unfold execAnalogOutput at h
  injection h with h
  subst h
  repeat' (first | with_reducible rfl | assumption | simp only [↓State.anaTestsDone_blank, ↓State.arrive_blank, ↓State.instant_blank, ↓State.raise_blank, ↓State.setAna_blank, ↓State.updateRoute_blank, ↓State.whileRunning_blank, ↓State.ite_blank, ite_self, h_clk, h_evt, h_hrg, h_pnt, h_ctrs, h_sni, h_ylk, h_outbox, ↓State.foldl_blank, implies_true, forall_const] | rw [State.whileRunning_blank] | split | intro _)

theorem execAnalogStepDetected_blank (h_clk : msk .clk = true) (h_sni : msk .sni = true) (t channel : Nat) (s : State) {t' : State} (h : execAnalogStepDetected t channel s = .next t') : t'.blank msk = s.blank msk := by
  unfold execAnalogStepDetected at h
  injection h with h
  subst h
  repeat' (first | with_reducible rfl | assumption | simp only [↓State.instant_blank, ↓State.startRun_blank, ↓State.whileRunning_blank, ↓State.ite_blank, ite_self, h_clk, h_sni, ↓State.foldl_blank, implies_true, forall_const] | rw [State.whileRunning_blank] | split | intro _)

theorem execQuoinEntrySilent_blank (h_clk : msk .clk = true) (h_evt : msk .evt = true) (h_ctrs : msk .ctrs = true) (h_sni : msk .sni = true) (t entry : Nat) (s : State) {t' : State} (h : execQuoinEntrySilent t entry s = .next t') : t'.blank msk = s.blank msk := by
  unfold execQuoinEntrySilent at h
  injection h with h
  subst h
  repeat' (first | with_reducible rfl | assumption | simp only [↓State.entrySilence_blank, ↓State.instant_blank, ↓State.whileRunning_blank, ↓State.ite_blank, ite_self, h_clk, h_evt, h_ctrs, h_sni, ↓State.foldl_blank, implies_true, forall_const] | rw [State.whileRunning_blank] | split | intro _)

theorem State.takeForwarded_blank (h_evt : msk .evt = true) (h_ctrs : msk .ctrs = true) (h_sni : msk .sni = true) (b : List Byte) (s : State) : (State.takeForwarded b s).blank msk = s.blank msk := by
  simp only [State.takeForwarded, ↓State.bufferRecord_blank, ↓State.entryHeard_blank, ↓State.ite_blank, ite_self, h_evt, h_ctrs, h_sni]

theorem execIntakeRecordsRx_blank (h_clk : msk .clk = true) (h_evt : msk .evt = true) (h_ctrs : msk .ctrs = true) (h_sni : msk .sni = true) (h_ylk : msk .ylk = true) (h_outbox : msk .outbox = true) (t : Nat) (hd : LinkHdr) (bytes : List Byte) (s : State) {t' : State} (h : execIntakeRecordsRx t hd bytes s = .next t') : t'.blank msk = s.blank msk := by
  unfold execIntakeRecordsRx at h
  injection h with h
  subst h
  repeat' (first | with_reducible rfl | assumption | simp only [↓State.instant_blank, ↓State.linkTake_blank, ↓State.takeForwarded_blank, ↓State.whileRunning_blank, ↓State.ite_blank, ite_self, h_clk, h_evt, h_ctrs, h_sni, h_ylk, h_outbox, ↓State.foldl_blank, implies_true, forall_const] | rw [State.linkTake_blank] | rw [State.whileRunning_blank] | split | intro _)

theorem execForwardedPointsRx_blank (h_clk : msk .clk = true) (h_evt : msk .evt = true) (h_pnt : msk .pnt = true) (h_ctrs : msk .ctrs = true) (h_ylk : msk .ylk = true) (h_outbox : msk .outbox = true) (t : Nat) (hd : LinkHdr) (bytes : List Byte) (s : State) {t' : State} (h : execForwardedPointsRx t hd bytes s = .next t') : t'.blank msk = s.blank msk := by
  unfold execForwardedPointsRx at h
  injection h with h
  subst h
  repeat' (first | with_reducible rfl | assumption | simp only [↓State.instant_blank, ↓State.linkTake_blank, ↓State.whileRunning_blank, ↓State.withPnt_blank, ↓State.ite_blank, ite_self, h_clk, h_evt, h_pnt, h_ctrs, h_ylk, h_outbox, ↓State.foldl_blank, implies_true, forall_const] | rw [State.linkTake_blank] | rw [State.whileRunning_blank] | split | intro _)

theorem execSniEntryWrite_blank (h_evt : msk .evt = true) (h_ctrs : msk .ctrs = true) (h_sni : msk .sni = true) (w : Word) (s : State) {t' : State} (h : execSniEntryWrite w s = .next t') : t'.blank msk = s.blank msk := by
  simp only [execSniEntryWrite, Host.Outcome.next.injEq] at h
  subst h
  simp only [↓State.barWrite_blank, ↓State.withSni_blank, ↓State.ite_blank, ite_self, h_evt, h_ctrs, h_sni, ↓State.foldl_blank, implies_true, forall_const]

end

end Sys2Proof.Machine
end

