-- ==== Sys2Proof/Laws/KeepCan.lean ====
section
/-! SUPPORT. What the operations and commands of Machine/Can.lean leave unchanged. -/

set_option linter.unusedSimpArgs false

namespace Sys2Proof.Machine
open Sys2Proof

section
variable {msk : Part → Bool}

theorem State.setCan_blank (h_can : msk .can = true) (c : Nat) (x : CanCtl) (s : State) : (State.setCan c x s).blank msk = s.blank msk := by
  simp only [State.setCan, ↓State.withCan_blank, ↓State.ite_blank, ite_self, h_can]

theorem State.canActivate_blank (h_can : msk .can = true) (old : List Byte) (s : State) : (State.canActivate old s).blank msk = s.blank msk := by
  simp only [State.canActivate, ↓State.setCan_blank, ↓State.ite_blank, ite_self, h_can, ↓State.foldl_blank, implies_true, forall_const]

theorem State.canSetState_blank (h_evt : msk .evt = true) (h_ctrs : msk .ctrs = true) (h_can : msk .can = true) (c n : Nat) (s : State) : (State.canSetState c n s).blank msk = s.blank msk := by
  simp only [State.canSetState, ↓State.count_blank, ↓State.raise_blank, ↓State.setCan_blank, ↓State.ite_blank, ite_self, h_evt, h_ctrs, h_can]

theorem State.canLevels_blank (h_evt : msk .evt = true) (h_ctrs : msk .ctrs = true) (h_can : msk .can = true) (c tec rec_ : Nat) (s : State) : (State.canLevels c tec rec_ s).blank msk = s.blank msk := by
  simp only [State.canLevels, ↓State.canSetState_blank, ↓State.setCan_blank, ↓State.ite_blank, ite_self, h_evt, h_ctrs, h_can]

theorem State.canRecover_blank (h_evt : msk .evt = true) (h_ctrs : msk .ctrs = true) (h_can : msk .can = true) (c : Nat) (s : State) : (State.canRecover c s).blank msk = s.blank msk := by
  simp only [State.canRecover, ↓State.canSetState_blank, ↓State.ite_blank, ite_self, h_evt, h_ctrs, h_can]

theorem execCanBusoffWaitExpiry_blank (h_clk : msk .clk = true) (h_evt : msk .evt = true) (h_ctrs : msk .ctrs = true) (h_can : msk .can = true) (t ctl : Nat) (s : State) {t' : State} (h : execCanBusoffWaitExpiry t ctl s = .next t') : t'.blank msk = s.blank msk := by
  simp only [execCanBusoffWaitExpiry, Host.Outcome.next.injEq] at h
  subst h
  simp only [↓State.canRecover_blank, ↓State.instant_blank, ↓State.whileRunning_blank, ↓State.ite_blank, ite_self, h_clk, h_evt, h_ctrs, h_can, ↓State.foldl_blank, implies_true, forall_const]

theorem execCanRecoveryDone_blank (h_clk : msk .clk = true) (h_evt : msk .evt = true) (h_ctrs : msk .ctrs = true) (h_can : msk .can = true) (t ctl : Nat) (s : State) {t' : State} (h : execCanRecoveryDone t ctl s = .next t') : t'.blank msk = s.blank msk := by
  simp only [execCanRecoveryDone, Host.Outcome.next.injEq] at h
  subst h
  simp only [↓State.instant_blank, ↓State.raise_blank, ↓State.setCan_blank, ↓State.whileRunning_blank, ↓State.ite_blank, ite_self, h_clk, h_evt, h_ctrs, h_can, ↓State.foldl_blank, implies_true, forall_const]

theorem State.canEnd_blank (h_evt : msk .evt = true) (h_ctrs : msk .ctrs = true) (h_can : msk .can = true) (c b outcome : Nat) (s : State) : (State.canEnd c b outcome s).blank msk = s.blank msk := by
  simp only [State.canEnd, ↓State.count_blank, ↓State.raise_blank, ↓State.setCan_blank, ↓State.ite_blank, ite_self, h_evt, h_ctrs, h_can]

theorem State.canClash_blank (h_evt : msk .evt = true) (h_ctrs : msk .ctrs = true) (h_can : msk .can = true) (c b : Nat) (s : State) : (State.canClash c b s).blank msk = s.blank msk := by
  simp only [State.canClash, ↓State.count_blank, ↓State.raise_blank, ↓State.setCan_blank, ↓State.ite_blank, ite_self, h_evt, h_ctrs, h_can]

theorem State.canTxError_blank (h_evt : msk .evt = true) (h_ctrs : msk .ctrs = true) (h_can : msk .can = true) (c b : Nat) (e : CanFault) (old : Bool) (s : State) : (State.canTxError c b e old s).blank msk = s.blank msk := by
  simp only [State.canTxError, ↓State.canClash_blank, ↓State.canEnd_blank, ↓State.canLevels_blank, ↓State.count_blank, ↓State.setCan_blank, ↓State.ite_blank, ite_self, h_evt, h_ctrs, h_can]

theorem execCanTxAttemptEnd_blank (h_clk : msk .clk = true) (h_evt : msk .evt = true) (h_ctrs : msk .ctrs = true) (h_can : msk .can = true) (h_outbox : msk .outbox = true) (t ctl buf dur : Nat) (outcome : CanEnd) (s : State) {t' : State} (h : execCanTxAttemptEnd t ctl buf dur outcome s = .next t') : t'.blank msk = s.blank msk := by
  unfold execCanTxAttemptEnd at h
  injection h with h
  subst h
  repeat' (first | with_reducible rfl | assumption | simp only [↓State.canEnd_blank, ↓State.canLevels_blank, ↓State.canTxError_blank, ↓State.emit_blank, ↓State.instant_blank, ↓State.setCan_blank, ↓State.whileRunning_blank, ↓State.ite_blank, ite_self, h_clk, h_evt, h_ctrs, h_can, h_outbox, ↓State.foldl_blank, implies_true, forall_const] | rw [State.whileRunning_blank] | split | intro _)

theorem execCanSingleClear_blank (h_clk : msk .clk = true) (h_evt : msk .evt = true) (h_ctrs : msk .ctrs = true) (h_can : msk .can = true) (t ctl : Nat) (w : Word) (s : State) {t' : State} (h : execCanSingleClear t ctl w s = .next t') : t'.blank msk = s.blank msk := by
  simp only [execCanSingleClear, Host.Outcome.next.injEq] at h
  subst h
  simp only [↓State.barWrite_blank, ↓State.instant_blank, ↓State.setCan_blank, ↓State.ite_blank, ite_self, h_clk, h_evt, h_ctrs, h_can, ↓State.foldl_blank, implies_true, forall_const]

theorem State.takeCanSend_blank (h_hrg : msk .hrg = true) (h_can : msk .can = true) (w : Waiting) (c flags ident : Nat) (data : List Byte) (s : State) : (State.takeCanSend w c flags ident data s).blank msk = s.blank msk := by
  unfold State.takeCanSend
  repeat' (first | with_reducible rfl | assumption | simp only [↓State.done_blank, ↓State.refuse_blank, ↓State.setCan_blank, ↓State.ite_blank, ite_self, h_hrg, h_can, ↓State.foldl_blank, implies_true, forall_const] | split | intro _)

theorem State.takeCanAbort_blank (h_clk : msk .clk = true) (h_evt : msk .evt = true) (h_hrg : msk .hrg = true) (h_ctrs : msk .ctrs = true) (h_can : msk .can = true) (w : Waiting) (c b : Nat) (s : State) : (State.takeCanAbort w c b s).blank msk = s.blank msk := by
  simp only [State.takeCanAbort, ↓State.canEnd_blank, ↓State.done_blank, ↓State.refuse_blank, ↓State.setCan_blank, ↓State.useFree_blank, ↓State.ite_blank, ite_self, h_clk, h_evt, h_hrg, h_ctrs, h_can]

theorem State.takeCanRecover_blank (h_evt : msk .evt = true) (h_hrg : msk .hrg = true) (h_ctrs : msk .ctrs = true) (h_can : msk .can = true) (w : Waiting) (c : Nat) (s : State) : (State.takeCanRecover w c s).blank msk = s.blank msk := by
  simp only [State.takeCanRecover, ↓State.canRecover_blank, ↓State.done_blank, ↓State.refuse_blank, ↓State.ite_blank, ite_self, h_evt, h_hrg, h_ctrs, h_can]

theorem State.takeCanMode_blank (h_hrg : msk .hrg = true) (h_can : msk .can = true) (w : Waiting) (c mode : Nat) (s : State) : (State.takeCanMode w c mode s).blank msk = s.blank msk := by
  simp only [State.takeCanMode, ↓State.done_blank, ↓State.refuse_blank, ↓State.setCan_blank, ↓State.ite_blank, ite_self, h_hrg, h_can]

theorem State.canSegment_blank (h_evt : msk .evt = true) (h_ctrs : msk .ctrs = true) (h_can : msk .can = true) (c u : Nat) (data : List Byte) (s : State) : (State.canSegment c u data s).blank msk = s.blank msk := by
  simp only [State.canSegment, ↓State.count_blank, ↓State.raise_blank, ↓State.setCan_blank, ↓State.ite_blank, ite_self, h_evt, h_ctrs, h_can]

theorem State.canKeystone_blank (h_evt : msk .evt = true) (h_ctrs : msk .ctrs = true) (h_can : msk .can = true) (k : KsFrame) (full : Nat) (s : State) : (State.canKeystone k full s).blank msk = s.blank msk := by
  unfold State.canKeystone
  repeat' (first | with_reducible rfl | assumption | simp only [↓State.canSegment_blank, ↓State.count_blank, ↓State.raise_blank, ↓State.ite_blank, ite_self, h_evt, h_ctrs, h_can, ↓State.foldl_blank, implies_true, forall_const] | split | intro _ | rw [State.foldl_blank])

theorem State.canReference_blank (h_evt : msk .evt = true) (h_ctrs : msk .ctrs = true) (h_can : msk .can = true) (s : State) : (State.canReference s).blank msk = s.blank msk := by
  simp only [State.canReference, ↓State.raise_blank, ↓State.setCan_blank, ↓State.ite_blank, ite_self, h_evt, h_ctrs, h_can, ↓State.foldl_blank, implies_true, forall_const]

theorem State.canQueue_blank (h_evt : msk .evt = true) (h_ctrs : msk .ctrs = true) (h_can : msk .can = true) (c : Nat) (f : CanRx) (s : State) : (State.canQueue c f s).blank msk = s.blank msk := by
  simp only [State.canQueue, ↓State.count_blank, ↓State.raise_blank, ↓State.setCan_blank, ↓State.ite_blank, ite_self, h_evt, h_ctrs, h_can]

theorem execCanFrameRx_blank (h_clk : msk .clk = true) (h_evt : msk .evt = true) (h_ctrs : msk .ctrs = true) (h_can : msk .can = true) (t ctl ident : Nat) (ext remote : Bool) (data : List Byte) (dur : Nat) (s : State) {t' : State} (h : execCanFrameRx t ctl ident ext remote data dur s = .next t') : t'.blank msk = s.blank msk := by
  simp only [execCanFrameRx, Host.Outcome.next.injEq] at h
  subst h
  simp only [↓State.canLevels_blank, ↓State.canQueue_blank, ↓State.instant_blank, ↓State.useFree_blank, ↓State.whileRunning_blank, ↓State.ite_blank, ite_self, h_clk, h_evt, h_ctrs, h_can, ↓State.foldl_blank, implies_true, forall_const]

theorem execCanRxError_blank (h_clk : msk .clk = true) (h_evt : msk .evt = true) (h_ctrs : msk .ctrs = true) (h_can : msk .can = true) (t ctl code : Nat) (data : Bool) (dominant : Nat) (s : State) {t' : State} (h : execCanRxError t ctl code data dominant s = .next t') : t'.blank msk = s.blank msk := by
  simp only [execCanRxError, Host.Outcome.next.injEq] at h
  subst h
  simp only [↓State.canLevels_blank, ↓State.count_blank, ↓State.instant_blank, ↓State.raise_blank, ↓State.setCan_blank, ↓State.whileRunning_blank, ↓State.ite_blank, ite_self, h_clk, h_evt, h_ctrs, h_can, ↓State.foldl_blank, implies_true, forall_const]

theorem State.canDiscard_blank (h_evt : msk .evt = true) (h_ctrs : msk .ctrs = true) (c : Nat) (s : State) : (State.canDiscard c s).blank msk = s.blank msk := by
  simp only [State.canDiscard, ↓State.count_blank, ↓State.raise_blank, ↓State.ite_blank, ite_self, h_evt, h_ctrs]

theorem State.canExpire_blank (h_evt : msk .evt = true) (h_ctrs : msk .ctrs = true) (h_can : msk .can = true) (c : Nat) (dead : CanAsm → Bool) (s : State) : (State.canExpire c dead s).blank msk = s.blank msk := by
  simp only [State.canExpire, ↓State.canDiscard_blank, ↓State.setCan_blank, ↓State.ite_blank, ite_self, h_evt, h_ctrs, h_can, ↓State.foldl_blank, implies_true, forall_const]

theorem execCanReasmTimeout_blank (h_clk : msk .clk = true) (h_evt : msk .evt = true) (h_ctrs : msk .ctrs = true) (h_can : msk .can = true) (t ctl : Nat) (s : State) {t' : State} (h : execCanReasmTimeout t ctl s = .next t') : t'.blank msk = s.blank msk := by
  simp only [execCanReasmTimeout, Host.Outcome.next.injEq] at h
  subst h
  simp only [↓State.canExpire_blank, ↓State.instant_blank, ↓State.whileRunning_blank, ↓State.ite_blank, ite_self, h_clk, h_evt, h_ctrs, h_can, ↓State.foldl_blank, implies_true, forall_const]

theorem State.canIntake_blank (h_clk : msk .clk = true) (h_evt : msk .evt = true) (h_ctrs : msk .ctrs = true) (h_sni : msk .sni = true) (h_ylk : msk .ylk = true) (h_outbox : msk .outbox = true) (r msg : List Byte) (stamp : Int) (unc : Nat) (s : State) : (State.canIntake r msg stamp unc s).blank msk = s.blank msk := by
  unfold State.canIntake
  repeat' (first | with_reducible rfl | assumption | simp only [↓State.arrive_blank, ↓State.sniError_blank, ↓State.ite_blank, ite_self, h_clk, h_evt, h_ctrs, h_sni, h_ylk, h_outbox, ↓State.foldl_blank, implies_true, forall_const] | split | intro _)

theorem State.canMessage_blank (h_clk : msk .clk = true) (h_evt : msk .evt = true) (h_hrg : msk .hrg = true) (h_pnt : msk .pnt = true) (h_ctrs : msk .ctrs = true) (h_sni : msk .sni = true) (h_ylk : msk .ylk = true) (h_outbox : msk .outbox = true) (r msg : List Byte) (stamp : Int) (unc : Nat) (s : State) : (State.canMessage r msg stamp unc s).blank msk = s.blank msk := by
  simp only [State.canMessage, ↓State.canIntake_blank, ↓State.updateRoute_blank, ↓State.ite_blank, ite_self, h_clk, h_evt, h_hrg, h_pnt, h_ctrs, h_sni, h_ylk, h_outbox]

theorem State.canProgress_blank (h_clk : msk .clk = true) (h_evt : msk .evt = true) (h_hrg : msk .hrg = true) (h_pnt : msk .pnt = true) (h_ctrs : msk .ctrs = true) (h_sni : msk .sni = true) (h_can : msk .can = true) (h_ylk : msk .ylk = true) (h_outbox : msk .outbox = true) (c : Nat) (a : CanAsm) (s : State) : (State.canProgress c a s).blank msk = s.blank msk := by
  unfold State.canProgress
  repeat' (first | with_reducible rfl | assumption | simp only [↓State.canMessage_blank, ↓State.setCan_blank, ↓State.ite_blank, ite_self, h_clk, h_evt, h_hrg, h_pnt, h_ctrs, h_sni, h_can, h_ylk, h_outbox, ↓State.foldl_blank, implies_true, forall_const] | split | intro _)

theorem State.canBegin_blank (h_clk : msk .clk = true) (h_evt : msk .evt = true) (h_hrg : msk .hrg = true) (h_pnt : msk .pnt = true) (h_ctrs : msk .ctrs = true) (h_sni : msk .sni = true) (h_can : msk .can = true) (h_ylk : msk .ylk = true) (h_outbox : msk .outbox = true) (c limit : Nat) (a : CanAsm) (s : State) : (State.canBegin c limit a s).blank msk = s.blank msk := by
  simp only [State.canBegin, ↓State.canDiscard_blank, ↓State.canProgress_blank, ↓State.setCan_blank, ↓State.ite_blank, ite_self, h_clk, h_evt, h_hrg, h_pnt, h_ctrs, h_sni, h_can, h_ylk, h_outbox]

theorem State.canNext_blank (h_clk : msk .clk = true) (h_evt : msk .evt = true) (h_hrg : msk .hrg = true) (h_pnt : msk .pnt = true) (h_ctrs : msk .ctrs = true) (h_sni : msk .sni = true) (h_can : msk .can = true) (h_ylk : msk .ylk = true) (h_outbox : msk .outbox = true) (c kind sa pgn : Nat) (ok : CanAsm → Bool) (more : List Byte) (now : Nat) (s : State) : (State.canNext c kind sa pgn ok more now s).blank msk = s.blank msk := by
  unfold State.canNext
  repeat' (first | with_reducible rfl | assumption | simp only [↓State.canDiscard_blank, ↓State.canProgress_blank, ↓State.setCan_blank, ↓State.ite_blank, ite_self, h_clk, h_evt, h_hrg, h_pnt, h_ctrs, h_sni, h_can, h_ylk, h_outbox, ↓State.foldl_blank, implies_true, forall_const] | split | intro _)

theorem State.canFast_blank (h_clk : msk .clk = true) (h_evt : msk .evt = true) (h_hrg : msk .hrg = true) (h_pnt : msk .pnt = true) (h_ctrs : msk .ctrs = true) (h_sni : msk .sni = true) (h_can : msk .can = true) (h_ylk : msk .ylk = true) (h_outbox : msk .outbox = true) (c pgn : Nat) (f : CanRx) (s : State) : (State.canFast c pgn f s).blank msk = s.blank msk := by
  simp only [State.canFast, ↓State.canBegin_blank, ↓State.canNext_blank, ↓State.ite_blank, ite_self, h_clk, h_evt, h_hrg, h_pnt, h_ctrs, h_sni, h_can, h_ylk, h_outbox]

theorem State.canTransport_blank (h_clk : msk .clk = true) (h_evt : msk .evt = true) (h_hrg : msk .hrg = true) (h_pnt : msk .pnt = true) (h_ctrs : msk .ctrs = true) (h_sni : msk .sni = true) (h_can : msk .can = true) (h_ylk : msk .ylk = true) (h_outbox : msk .outbox = true) (c pgn : Nat) (f : CanRx) (s : State) : (State.canTransport c pgn f s).blank msk = s.blank msk := by
  simp only [State.canTransport, ↓State.canBegin_blank, ↓State.canNext_blank, ↓State.ite_blank, ite_self, h_clk, h_evt, h_hrg, h_pnt, h_ctrs, h_sni, h_can, h_ylk, h_outbox]

theorem State.canTake_blank (h_clk : msk .clk = true) (h_evt : msk .evt = true) (h_hrg : msk .hrg = true) (h_pnt : msk .pnt = true) (h_ctrs : msk .ctrs = true) (h_sni : msk .sni = true) (h_can : msk .can = true) (h_ylk : msk .ylk = true) (h_outbox : msk .outbox = true) (c : Nat) (f : CanRx) (s : State) : (State.canTake c f s).blank msk = s.blank msk := by
  unfold State.canTake
  repeat' (first | with_reducible rfl | assumption | simp only [↓State.canExpire_blank, ↓State.canFast_blank, ↓State.canMessage_blank, ↓State.canTransport_blank, ↓State.raise_blank, ↓State.ite_blank, ite_self, h_clk, h_evt, h_hrg, h_pnt, h_ctrs, h_sni, h_can, h_ylk, h_outbox, ↓State.foldl_blank, implies_true, forall_const] | split | intro _)

theorem State.canDrain_blank (h_clk : msk .clk = true) (h_evt : msk .evt = true) (h_hrg : msk .hrg = true) (h_pnt : msk .pnt = true) (h_ctrs : msk .ctrs = true) (h_sni : msk .sni = true) (h_can : msk .can = true) (h_ylk : msk .ylk = true) (h_outbox : msk .outbox = true) (s : State) : (State.canDrain s).blank msk = s.blank msk := by
  unfold State.canDrain
  repeat' (first | with_reducible rfl | assumption | simp only [↓State.canTake_blank, ↓State.setCan_blank, ↓State.ite_blank, ite_self, h_clk, h_evt, h_hrg, h_pnt, h_ctrs, h_sni, h_can, h_ylk, h_outbox, ↓State.foldl_blank, implies_true, forall_const] | split | intro _ | rw [State.foldl_blank])

theorem execNet_blank (h_clk : msk .clk = true) (h_crs : msk .crs = true) (h_evt : msk .evt = true) (h_hrg : msk .hrg = true) (h_pnt : msk .pnt = true) (h_ctrs : msk .ctrs = true) (h_sni : msk .sni = true) (h_can : msk .can = true) (h_ylk : msk .ylk = true) (h_outbox : msk .outbox = true) (t full : Nat) (s : State) {t' : State} (h : execNet t full s = .next t') : t'.blank msk = s.blank msk := by
  simp only [execNet, Host.Outcome.next.injEq] at h
  subst h
  simp only [↓State.canDrain_blank, ↓State.publishAll_blank, ↓State.runService_blank, ↓State.writeEvents_blank, ↓State.ite_blank, ite_self, h_clk, h_crs, h_evt, h_hrg, h_pnt, h_ctrs, h_sni, h_can, h_ylk, h_outbox, ↓State.foldl_blank, implies_true, forall_const]

end

end Sys2Proof.Machine
end

