-- ==== Sys2Proof/Laws/KeepConseq.lean ====
section
/-! SUPPORT. What the operations and commands of Machine/Conseq.lean leave unchanged. -/

set_option linter.unusedSimpArgs false

namespace Sys2Proof.Machine
open Sys2Proof

section
variable {msk : Part → Bool}

theorem State.activateConseq_blank (h_evt : msk .evt = true) (h_ctrs : msk .ctrs = true) (h_csq : msk .csq = true) (clear : Bool) (s : State) : (State.activateConseq clear s).blank msk = s.blank msk := by
  simp only [State.activateConseq, ↓State.raise_blank, ↓State.withCsq_blank, ↓State.ite_blank, ite_self, h_evt, h_ctrs, h_csq]

theorem State.putCase_blank (h_csq : msk .csq = true) (c : Nat) (x : CaseSt) (s : State) : (State.putCase c x s).blank msk = s.blank msk := by
  simp only [State.putCase, ↓State.withCsq_blank, ↓State.ite_blank, ite_self, h_csq]

theorem State.endRuns_blank (h_csq : msk .csq = true) (s : State) : (State.endRuns s).blank msk = s.blank msk := by
  simp only [State.endRuns, ↓State.withCsq_blank, ↓State.ite_blank, ite_self, h_csq]

theorem State.takeBase_blank (h_evt : msk .evt = true) (h_ctrs : msk .ctrs = true) (h_csq : msk .csq = true) (s : State) : (State.takeBase s).blank msk = s.blank msk := by
  simp only [State.takeBase, ↓State.endRuns_blank, ↓State.raise_blank, ↓State.withCsq_blank, ↓State.ite_blank, ite_self, h_evt, h_ctrs, h_csq]

theorem State.startRuns_blank (h_csq : msk .csq = true) (s : State) : (State.startRuns s).blank msk = s.blank msk := by
  simp only [State.startRuns, ↓State.withCsq_blank, ↓State.ite_blank, ite_self, h_csq]

theorem State.feedOne_blank (h_evt : msk .evt = true) (h_ctrs : msk .ctrs = true) (h_vsl : msk .vsl = true) (h_cells : msk .cells = true) (h_mem : msk .mem = true) (t : List Byte) (p : AllocProblem) (pb : Option Problem) (s : State) : (State.feedOne t p pb s).blank msk = s.blank msk := by
  unfold State.feedOne
  repeat' (first | with_reducible rfl | assumption | simp only [↓State.problemEnds_blank, ↓State.writeData_blank, ↓State.writeHeader_blank, ↓State.withVsl_blank, ↓State.ite_blank, ite_self, h_evt, h_ctrs, h_vsl, h_cells, h_mem, ↓State.foldl_blank, implies_true, forall_const] | split | intro _)

theorem State.feedCase_blank (h_evt : msk .evt = true) (h_ctrs : msk .ctrs = true) (h_csq : msk .csq = true) (h_vsl : msk .vsl = true) (h_cells : msk .cells = true) (h_mem : msk .mem = true) (t : List Byte) (c : Nat) (s : State) : (State.feedCase t c s).blank msk = s.blank msk := by
  simp only [State.feedCase, ↓State.feedOne_blank, ↓State.putCase_blank, ↓State.ite_blank, ite_self, h_evt, h_ctrs, h_csq, h_vsl, h_cells, h_mem]

theorem State.feedRun_blank (h_evt : msk .evt = true) (h_ctrs : msk .ctrs = true) (h_csq : msk .csq = true) (h_vsl : msk .vsl = true) (h_cells : msk .cells = true) (h_mem : msk .mem = true) (t : List Byte) (i : Nat) (r : EnvRun) (s : State) : (State.feedRun t i r s).blank msk = s.blank msk := by
  simp only [State.feedRun, ↓State.feedOne_blank, ↓State.withCsq_blank, ↓State.ite_blank, ite_self, h_evt, h_ctrs, h_csq, h_vsl, h_cells, h_mem]

theorem State.skipAnalysis_blank (h_evt : msk .evt = true) (h_ctrs : msk .ctrs = true) (h_csq : msk .csq = true) (s : State) : (State.skipAnalysis s).blank msk = s.blank msk := by
  simp only [State.skipAnalysis, ↓State.endRuns_blank, ↓State.raise_blank, ↓State.withCsq_blank, ↓State.ite_blank, ite_self, h_evt, h_ctrs, h_csq]

theorem State.caseDispatch_blank (h_evt : msk .evt = true) (h_ctrs : msk .ctrs = true) (h_alloc : msk .alloc = true) (h_csq : msk .csq = true) (h_vsl : msk .vsl = true) (h_cells : msk .cells = true) (h_mem : msk .mem = true) (s : State) : (State.caseDispatch s).blank msk = s.blank msk := by
  unfold State.caseDispatch
  repeat' (first | with_reducible rfl | assumption | simp only [↓State.feedCase_blank, ↓State.feedRun_blank, ↓State.skipAnalysis_blank, ↓State.startRuns_blank, ↓State.takeBase_blank, ↓State.takePower_blank, ↓State.withCsq_blank, ↓State.ite_blank, ite_self, h_evt, h_ctrs, h_alloc, h_csq, h_vsl, h_cells, h_mem, ↓State.foldl_blank, implies_true, forall_const] | split | intro _)

theorem State.caseDispatchMissed_blank (h_evt : msk .evt = true) (h_ctrs : msk .ctrs = true) (h_csq : msk .csq = true) (s : State) : (State.caseDispatchMissed s).blank msk = s.blank msk := by
  simp only [State.caseDispatchMissed, ↓State.skipAnalysis_blank, ↓State.ite_blank, ite_self, h_evt, h_ctrs, h_csq]

theorem execCaseDispatch_blank (h_clk : msk .clk = true) (h_crs : msk .crs = true) (h_evt : msk .evt = true) (h_ctrs : msk .ctrs = true) (h_alloc : msk .alloc = true) (h_csq : msk .csq = true) (h_vsl : msk .vsl = true) (h_cells : msk .cells = true) (h_mem : msk .mem = true) (t : Nat) (s : State) {t' : State} (h : execCaseDispatch t s = .next t') : t'.blank msk = s.blank msk := by
  simp only [execCaseDispatch, Host.Outcome.next.injEq] at h
  subst h
  simp only [↓State.caseDispatch_blank, ↓State.runItem_blank, ↓State.ite_blank, ite_self, h_clk, h_crs, h_evt, h_ctrs, h_alloc, h_csq, h_vsl, h_cells, h_mem, ↓State.foldl_blank, implies_true, forall_const]

theorem State.setVerdict_blank (h_evt : msk .evt = true) (h_ctrs : msk .ctrs = true) (h_csq : msk .csq = true) (c : Nat) (x : CaseSt) (s : State) : (State.setVerdict c x s).blank msk = s.blank msk := by
  simp only [State.setVerdict, ↓State.putCase_blank, ↓State.raise_blank, ↓State.ite_blank, ite_self, h_evt, h_ctrs, h_csq]

theorem State.caseHeld_blank (h_evt : msk .evt = true) (h_ctrs : msk .ctrs = true) (h_csq : msk .csq = true) (c status : Nat) (s : State) : (State.caseHeld c status s).blank msk = s.blank msk := by
  simp only [State.caseHeld, ↓State.countOcc_blank, ↓State.setVerdict_blank, ↓State.ite_blank, ite_self, h_evt, h_ctrs, h_csq]

theorem State.caseFresh_blank (h_evt : msk .evt = true) (h_ctrs : msk .ctrs = true) (h_csq : msk .csq = true) (t : List Byte) (c : Nat) (r : ArrayResult) (s : State) : (State.caseFresh t c r s).blank msk = s.blank msk := by
  simp only [State.caseFresh, ↓State.setVerdict_blank, ↓State.ite_blank, ite_self, h_evt, h_ctrs, h_csq]

theorem State.collectCase_blank (h_evt : msk .evt = true) (h_ctrs : msk .ctrs = true) (h_csq : msk .csq = true) (t : List Byte) (c : Nat) (s : State) : (State.collectCase t c s).blank msk = s.blank msk := by
  unfold State.collectCase
  repeat' (first | with_reducible rfl | assumption | simp only [↓State.caseFresh_blank, ↓State.caseHeld_blank, ↓State.setVerdict_blank, ↓State.ite_blank, ite_self, h_evt, h_ctrs, h_csq, ↓State.foldl_blank, implies_true, forall_const] | split | intro _)

theorem State.caseCollect_blank (h_evt : msk .evt = true) (h_ctrs : msk .ctrs = true) (h_csq : msk .csq = true) (s : State) : (State.caseCollect s).blank msk = s.blank msk := by
  unfold State.caseCollect
  repeat' (first | with_reducible rfl | assumption | simp only [↓State.collectCase_blank, ↓State.ite_blank, ite_self, h_evt, h_ctrs, h_csq, ↓State.foldl_blank, implies_true, forall_const] | split | intro _)

theorem State.caseCollectMissed_blank (h_evt : msk .evt = true) (h_ctrs : msk .ctrs = true) (h_csq : msk .csq = true) (s : State) : (State.caseCollectMissed s).blank msk = s.blank msk := by
  simp only [State.caseCollectMissed, ↓State.caseHeld_blank, ↓State.ite_blank, ite_self, h_evt, h_ctrs, h_csq, ↓State.foldl_blank, implies_true, forall_const]

theorem State.collectRun_blank (h_csq : msk .csq = true) (t : List Byte) (i : Nat) (r : EnvRun) (keep : List EnvRun) (s : State) : (State.collectRun t i r keep s).2.blank msk = s.blank msk := by
  unfold State.collectRun
  repeat' (first | with_reducible rfl | assumption | simp only [↓State.withCsq_blank, ↓State.ite_blank, ite_self, h_csq, ↓State.foldl_blank, implies_true, forall_const] | split | intro _)

theorem State.postEnvelopes_blank (h_evt : msk .evt = true) (h_hrg : msk .hrg = true) (h_pnt : msk .pnt = true) (h_ctrs : msk .ctrs = true) (h_outbox : msk .outbox = true) (s : State) : (State.postEnvelopes s).blank msk = s.blank msk := by
  simp only [State.postEnvelopes, ↓State.writeOwn_blank, ↓State.ite_blank, ite_self, h_evt, h_hrg, h_pnt, h_ctrs, h_outbox]

theorem State.publishSet_blank (h_evt : msk .evt = true) (h_hrg : msk .hrg = true) (h_pnt : msk .pnt = true) (h_ctrs : msk .ctrs = true) (h_csq : msk .csq = true) (h_outbox : msk .outbox = true) (runs : List EnvRun) (s : State) : (State.publishSet runs s).blank msk = s.blank msk := by
  simp only [State.publishSet, ↓State.postEnvelopes_blank, ↓State.withCsq_blank, ↓State.ite_blank, ite_self, h_evt, h_hrg, h_pnt, h_ctrs, h_csq, h_outbox]

theorem State.envCollect_blank (h_evt : msk .evt = true) (h_hrg : msk .hrg = true) (h_pnt : msk .pnt = true) (h_ctrs : msk .ctrs = true) (h_csq : msk .csq = true) (h_outbox : msk .outbox = true) (s : State) : (State.envCollect s).blank msk = s.blank msk := by
  unfold State.envCollect
  repeat' (first | with_reducible rfl | assumption | simp only [↓State.collectRun_blank, ↓State.publishSet_blank, ↓State.withCsq_blank, ↓State.ite_blank, ite_self, h_evt, h_hrg, h_pnt, h_ctrs, h_csq, h_outbox, ↓State.foldl_blank, ↓State.foldl_blank_fst, ↓State.foldl_blank_snd, implies_true, forall_const] | split | intro _)

theorem execEnvCollect_blank (h_clk : msk .clk = true) (h_crs : msk .crs = true) (h_evt : msk .evt = true) (h_hrg : msk .hrg = true) (h_pnt : msk .pnt = true) (h_ctrs : msk .ctrs = true) (h_csq : msk .csq = true) (h_outbox : msk .outbox = true) (t : Nat) (s : State) {t' : State} (h : execEnvCollect t s = .next t') : t'.blank msk = s.blank msk := by
  simp only [execEnvCollect, Host.Outcome.next.injEq] at h
  subst h
  simp only [↓State.envCollect_blank, ↓State.runItem_blank, ↓State.ite_blank, ite_self, h_clk, h_crs, h_evt, h_hrg, h_pnt, h_ctrs, h_csq, h_outbox, ↓State.foldl_blank, implies_true, forall_const]

theorem State.sendVerdicts_blank (h_clk : msk .clk = true) (h_evt : msk .evt = true) (h_ctrs : msk .ctrs = true) (h_ylk : msk .ylk = true) (h_outbox : msk .outbox = true) (s : State) : (State.sendVerdicts s).blank msk = s.blank msk := by
  simp only [State.sendVerdicts, ↓State.sendLink_blank, ↓State.ite_blank, ite_self, h_clk, h_evt, h_ctrs, h_ylk, h_outbox]

theorem State.takeCombined_blank (h_evt : msk .evt = true) (h_ctrs : msk .ctrs = true) (h_ylk : msk .ylk = true) (s : State) : (State.takeCombined s).blank msk = s.blank msk := by
  simp only [State.takeCombined, ↓State.setCombined_blank, ↓State.ite_blank, ite_self, h_evt, h_ctrs, h_ylk, ↓State.foldl_blank, implies_true, forall_const]

theorem execCaseCollect_blank (h_clk : msk .clk = true) (h_crs : msk .crs = true) (h_evt : msk .evt = true) (h_ctrs : msk .ctrs = true) (h_csq : msk .csq = true) (h_ylk : msk .ylk = true) (h_outbox : msk .outbox = true) (t : Nat) (s : State) {t' : State} (h : execCaseCollect t s = .next t') : t'.blank msk = s.blank msk := by
  simp only [execCaseCollect, Host.Outcome.next.injEq] at h
  subst h
  simp only [↓State.caseCollect_blank, ↓State.runItem_blank, ↓State.sendVerdicts_blank, ↓State.ite_blank, ite_self, h_clk, h_crs, h_evt, h_ctrs, h_csq, h_ylk, h_outbox, ↓State.foldl_blank, implies_true, forall_const]

theorem State.conseqState_blank (h_evt : msk .evt = true) (h_ctrs : msk .ctrs = true) (h_csq : msk .csq = true) (s : State) : (State.conseqState s).blank msk = s.blank msk := by
  simp only [State.conseqState, ↓State.raise_blank, ↓State.withCsq_blank, ↓State.ite_blank, ite_self, h_evt, h_ctrs, h_csq]

theorem State.conseqReport_blank (h_evt : msk .evt = true) (h_ctrs : msk .ctrs = true) (h_csq : msk .csq = true) (h_ylk : msk .ylk = true) (s : State) : (State.conseqReport s).blank msk = s.blank msk := by
  simp only [State.conseqReport, ↓State.conseqState_blank, ↓State.takeCombined_blank, ↓State.withCsq_blank, ↓State.ite_blank, ite_self, h_evt, h_ctrs, h_csq, h_ylk]

theorem execConseqReport_blank (h_clk : msk .clk = true) (h_crs : msk .crs = true) (h_evt : msk .evt = true) (h_ctrs : msk .ctrs = true) (h_csq : msk .csq = true) (h_ylk : msk .ylk = true) (t : Nat) (s : State) {t' : State} (h : execConseqReport t s = .next t') : t'.blank msk = s.blank msk := by
  simp only [execConseqReport, Host.Outcome.next.injEq] at h
  subst h
  simp only [↓State.conseqReport_blank, ↓State.runItem_blank, ↓State.ite_blank, ite_self, h_clk, h_crs, h_evt, h_ctrs, h_csq, h_ylk, ↓State.foldl_blank, implies_true, forall_const]

theorem State.conseqMissed_blank (h_csq : msk .csq = true) (s : State) : (State.conseqMissed s).blank msk = s.blank msk := by
  simp only [State.conseqMissed, ↓State.withCsq_blank, ↓State.ite_blank, ite_self, h_csq]

theorem State.serveConseqQuery_blank (h_evt : msk .evt = true) (h_hrg : msk .hrg = true) (h_ctrs : msk .ctrs = true) (h_csq : msk .csq = true) (h_outbox : msk .outbox = true) (w : Waiting) (cases clear : Bool) (s : State) : (State.serveConseqQuery w cases clear s).blank msk = s.blank msk := by
  simp only [State.serveConseqQuery, ↓State.answer_blank, ↓State.withCsq_blank, ↓State.ite_blank, ite_self, h_evt, h_hrg, h_ctrs, h_csq, h_outbox]

theorem State.serveEnvelopeQuery_blank (h_evt : msk .evt = true) (h_hrg : msk .hrg = true) (h_ctrs : msk .ctrs = true) (h_outbox : msk .outbox = true) (w : Waiting) (s : State) : (State.serveEnvelopeQuery w s).blank msk = s.blank msk := by
  simp only [State.serveEnvelopeQuery, ↓State.answer_blank, ↓State.ite_blank, ite_self, h_evt, h_hrg, h_ctrs, h_outbox]

end

end Sys2Proof.Machine
end

