-- ==== Sys2Proof/Laws/KeepSteering.lean ====
section
/-! SUPPORT. What the operations and commands of Machine/Steering.lean leave unchanged. -/

set_option linter.unusedSimpArgs false

namespace Sys2Proof.Machine
open Sys2Proof

section
variable {msk : Part → Bool}

theorem State.setTimSrc_blank (h_tim : msk .tim = true) (n : Nat) (x : TimSrc) (s : State) : (State.setTimSrc n x s).blank msk = s.blank msk := by
  simp only [State.setTimSrc, ↓State.withTim_blank, ↓State.ite_blank, ite_self, h_tim]

theorem State.placeAnchor_blank (h_evt : msk .evt = true) (h_ctrs : msk .ctrs = true) (h_tim : msk .tim = true) (frame : Word) (time : Int) (s : State) : (State.placeAnchor frame time s).blank msk = s.blank msk := by
  simp only [State.placeAnchor, ↓State.raise_blank, ↓State.withTim_blank, ↓State.ite_blank, ite_self, h_evt, h_ctrs, h_tim]

theorem State.timAdvance_blank (h_tim : msk .tim = true) (s : State) : (State.timAdvance s).blank msk = s.blank msk := by
  simp only [State.timAdvance, ↓State.withTim_blank, ↓State.ite_blank, ite_self, h_tim]

theorem State.stepTime_blank (h_clk : msk .clk = true) (h_crs : msk .crs = true) (h_evt : msk .evt = true) (h_ctrs : msk .ctrs = true) (h_tim : msk .tim = true) (h_ylk : msk .ylk = true) (d : Int) (seq : Nat) (s : State) : (State.stepTime d seq s).blank msk = s.blank msk := by
  simp only [State.stepTime, ↓State.placeAnchor_blank, ↓State.raise_blank, ↓State.timAdvance_blank, ↓State.withClk_blank, ↓State.withCrs_blank, ↓State.withTim_blank, ↓State.withYlk_blank, ↓State.ite_blank, ite_self, h_clk, h_crs, h_evt, h_ctrs, h_tim, h_ylk]

theorem State.checkExceeded_blank (h_evt : msk .evt = true) (h_ctrs : msk .ctrs = true) (h_tim : msk .tim = true) (s : State) : (State.checkExceeded s).blank msk = s.blank msk := by
  simp only [State.checkExceeded, ↓State.raise_blank, ↓State.withTim_blank, ↓State.ite_blank, ite_self, h_evt, h_ctrs, h_tim]

theorem State.enterHoldover_blank (h_evt : msk .evt = true) (h_ctrs : msk .ctrs = true) (h_tim : msk .tim = true) (u0 at_ : Nat) (s : State) : (State.enterHoldover u0 at_ s).blank msk = s.blank msk := by
  simp only [State.enterHoldover, ↓State.checkExceeded_blank, ↓State.raise_blank, ↓State.timAdvance_blank, ↓State.withTim_blank, ↓State.ite_blank, ite_self, h_evt, h_ctrs, h_tim]

theorem State.startTime_blank (h_clk : msk .clk = true) (h_evt : msk .evt = true) (h_ctrs : msk .ctrs = true) (h_tim : msk .tim = true) (rtc : Option (Nat × Nat)) (s : State) : (State.startTime rtc s).blank msk = s.blank msk := by
  unfold State.startTime
  repeat' (first | with_reducible rfl | assumption | simp only [↓State.checkExceeded_blank, ↓State.enterHoldover_blank, ↓State.withClk_blank, ↓State.ite_blank, ite_self, h_clk, h_evt, h_ctrs, h_tim, ↓State.foldl_blank, implies_true, forall_const] | split | intro _)

end

end Sys2Proof.Machine
end

