-- ==== Sys2Proof/Laws/KeepTimeBase.lean ====
section
/-! SUPPORT. What the operations and commands of Machine/TimeBase.lean leave unchanged. -/

set_option linter.unusedSimpArgs false

namespace Sys2Proof.Machine
open Sys2Proof

section
variable {msk : Part → Bool}

theorem State.announceLeap_blank (h_evt : msk .evt = true) (h_ctrs : msk .ctrs = true) (h_tim : msk .tim = true) (n : Nat) (s : State) : (State.announceLeap n s).blank msk = s.blank msk := by
  simp only [State.announceLeap, ↓State.raise_blank, ↓State.withTim_blank, ↓State.ite_blank, ite_self, h_evt, h_ctrs, h_tim]

theorem State.learnLeap_blank (h_evt : msk .evt = true) (h_ctrs : msk .ctrs = true) (h_tim : msk .tim = true) (src count : Nat) (s : State) : (State.learnLeap src count s).blank msk = s.blank msk := by
  simp only [State.learnLeap, ↓State.raise_blank, ↓State.withTim_blank, ↓State.ite_blank, ite_self, h_evt, h_ctrs, h_tim]

theorem execTimCapSelWrite_blank (h_evt : msk .evt = true) (h_ctrs : msk .ctrs = true) (h_tim : msk .tim = true) (w : Word) (s : State) {t' : State} (h : execTimCapSelWrite w s = .next t') : t'.blank msk = s.blank msk := by
  simp only [execTimCapSelWrite, Host.Outcome.next.injEq] at h
  subst h
  simp only [↓State.barWrite_blank, ↓State.withTim_blank, ↓State.ite_blank, ite_self, h_evt, h_ctrs, h_tim, ↓State.foldl_blank, implies_true, forall_const]

theorem execTimLatchWrite_blank (h_clk : msk .clk = true) (h_evt : msk .evt = true) (h_ctrs : msk .ctrs = true) (h_tim : msk .tim = true) (t : Nat) (w : Word) (s : State) {t' : State} (h : execTimLatchWrite t w s = .next t') : t'.blank msk = s.blank msk := by
  simp only [execTimLatchWrite, Host.Outcome.next.injEq] at h
  subst h
  simp only [↓State.barWrite_blank, ↓State.instant_blank, ↓State.withTim_blank, ↓State.ite_blank, ite_self, h_clk, h_evt, h_ctrs, h_tim, ↓State.foldl_blank, implies_true, forall_const]

theorem State.selectSource_blank (h_evt : msk .evt = true) (h_ctrs : msk .ctrs = true) (h_tim : msk .tim = true) (n : Nat) (s : State) : (State.selectSource n s).blank msk = s.blank msk := by
  simp only [State.selectSource, ↓State.checkExceeded_blank, ↓State.raise_blank, ↓State.timAdvance_blank, ↓State.withTim_blank, ↓State.ite_blank, ite_self, h_evt, h_ctrs, h_tim]

theorem State.takeStepAccept_blank (h_clk : msk .clk = true) (h_crs : msk .crs = true) (h_evt : msk .evt = true) (h_hrg : msk .hrg = true) (h_ctrs : msk .ctrs = true) (h_tim : msk .tim = true) (h_ylk : msk .ylk = true) (w : Waiting) (seq : Nat) (s : State) : (State.takeStepAccept w seq s).blank msk = s.blank msk := by
  simp only [State.takeStepAccept, ↓State.done_blank, ↓State.refuse_blank, ↓State.selectSource_blank, ↓State.setTimSrc_blank, ↓State.stepTime_blank, ↓State.timAdvance_blank, ↓State.withTim_blank, ↓State.ite_blank, ite_self, h_clk, h_crs, h_evt, h_hrg, h_ctrs, h_tim, h_ylk]

theorem State.takeTimeSet_blank (h_clk : msk .clk = true) (h_crs : msk .crs = true) (h_evt : msk .evt = true) (h_hrg : msk .hrg = true) (h_ctrs : msk .ctrs = true) (h_tim : msk .tim = true) (h_ylk : msk .ylk = true) (w : Waiting) (secs ns unc : Nat) (s : State) : (State.takeTimeSet w secs ns unc s).blank msk = s.blank msk := by
  simp only [State.takeTimeSet, ↓State.done_blank, ↓State.enterHoldover_blank, ↓State.refuse_blank, ↓State.stepTime_blank, ↓State.withTim_blank, ↓State.ite_blank, ite_self, h_clk, h_crs, h_evt, h_hrg, h_ctrs, h_tim, h_ylk]

theorem State.drainCaptures_blank (h_tim : msk .tim = true) (s : State) : (State.drainCaptures s).blank msk = s.blank msk := by
  simp only [State.drainCaptures, ↓State.withTim_blank, ↓State.ite_blank, ite_self, h_tim]

theorem State.withdrawStep_blank (h_evt : msk .evt = true) (h_ctrs : msk .ctrs = true) (h_tim : msk .tim = true) (s : State) : (State.withdrawStep s).blank msk = s.blank msk := by
  simp only [State.withdrawStep, ↓State.raise_blank, ↓State.withTim_blank, ↓State.ite_blank, ite_self, h_evt, h_ctrs, h_tim]

theorem State.applyRule1_blank (h_evt : msk .evt = true) (h_ctrs : msk .ctrs = true) (h_tim : msk .tim = true) (s : State) : (State.applyRule1 s).blank msk = s.blank msk := by
  unfold State.applyRule1
  repeat' (first | with_reducible rfl | assumption | simp only [↓State.selectSource_blank, ↓State.withdrawStep_blank, ↓State.ite_blank, ite_self, h_evt, h_ctrs, h_tim, ↓State.foldl_blank, implies_true, forall_const] | split | intro _)

theorem State.dropSource_blank (h_evt : msk .evt = true) (h_ctrs : msk .ctrs = true) (h_tim : msk .tim = true) (s : State) : (State.dropSource s).blank msk = s.blank msk := by
  simp only [State.dropSource, ↓State.enterHoldover_blank, ↓State.raise_blank, ↓State.withTim_blank, ↓State.ite_blank, ite_self, h_evt, h_ctrs, h_tim]

theorem State.followRole_blank (h_evt : msk .evt = true) (h_ctrs : msk .ctrs = true) (h_tim : msk .tim = true) (s : State) : (State.followRole s).blank msk = s.blank msk := by
  simp only [State.followRole, ↓State.applyRule1_blank, ↓State.dropSource_blank, ↓State.ite_blank, ite_self, h_evt, h_ctrs, h_tim]

theorem State.drivePps_blank (h_outbox : msk .outbox = true) (on : Bool) (s : State) : (State.drivePps on s).blank msk = s.blank msk := by
  simp only [State.drivePps, ↓State.emit_blank, ↓State.ite_blank, ite_self, h_outbox]

theorem State.endPulse_blank (h_tim : msk .tim = true) (h_outbox : msk .outbox = true) (s : State) : (State.endPulse s).blank msk = s.blank msk := by
  simp only [State.endPulse, ↓State.drivePps_blank, ↓State.withTim_blank, ↓State.ite_blank, ite_self, h_tim, h_outbox]

theorem State.follow10m_blank (h_tim : msk .tim = true) (was : Bool) (s : State) : (State.follow10m was s).blank msk = s.blank msk := by
  simp only [State.follow10m, ↓State.withTim_blank, ↓State.ite_blank, ite_self, h_tim]

theorem State.setPtp_blank (h_tim : msk .tim = true) (i : Nat) (p : PtpPort) (s : State) : (State.setPtp i p s).blank msk = s.blank msk := by
  simp only [State.setPtp, ↓State.withTim_blank, ↓State.ite_blank, ite_self, h_tim]

theorem State.ptpEnable_blank (h_tim : msk .tim = true) (i : Nat) (s : State) : (State.ptpEnable i s).blank msk = s.blank msk := by
  simp only [State.ptpEnable, ↓State.setPtp_blank, ↓State.ite_blank, ite_self, h_tim]

theorem State.ptpState_blank (h_evt : msk .evt = true) (h_ctrs : msk .ctrs = true) (h_tim : msk .tim = true) (i n : Nat) (s : State) : (State.ptpState i n s).blank msk = s.blank msk := by
  simp only [State.ptpState, ↓State.raise_blank, ↓State.setPtp_blank, ↓State.ite_blank, ite_self, h_evt, h_ctrs, h_tim]

theorem State.ptpUpdate_blank (h_evt : msk .evt = true) (h_ctrs : msk .ctrs = true) (h_tim : msk .tim = true) (s : State) : (State.ptpUpdate s).blank msk = s.blank msk := by
  simp only [State.ptpUpdate, ↓State.ptpEnable_blank, ↓State.ptpState_blank, ↓State.raise_blank, ↓State.withTim_blank, ↓State.ite_blank, ite_self, h_evt, h_ctrs, h_tim, ↓State.foldl_blank, implies_true, forall_const]

theorem State.takeSecond_blank (h_evt : msk .evt = true) (h_ctrs : msk .ctrs = true) (h_cfg : msk .cfg = true) (h_tim : msk .tim = true) (h_outbox : msk .outbox = true) (s : State) : (State.takeSecond s).blank msk = s.blank msk := by
  simp only [State.takeSecond, ↓State.checkExceeded_blank, ↓State.drivePps_blank, ↓State.endPulse_blank, ↓State.follow10m_blank, ↓State.ptpUpdate_blank, ↓State.takeCfg_blank, ↓State.timAdvance_blank, ↓State.ite_blank, ite_self, h_evt, h_ctrs, h_cfg, h_tim, h_outbox]

theorem State.reportPending_blank (h_evt : msk .evt = true) (h_ctrs : msk .ctrs = true) (h_tim : msk .tim = true) (n : Nat) (o : Int) (s : State) : (State.reportPending n o s).blank msk = s.blank msk := by
  simp only [State.reportPending, ↓State.raise_blank, ↓State.withTim_blank, ↓State.ite_blank, ite_self, h_evt, h_ctrs, h_tim]

theorem State.refuseStep_blank (h_evt : msk .evt = true) (h_ctrs : msk .ctrs = true) (h_tim : msk .tim = true) (n : Nat) (s : State) : (State.refuseStep n s).blank msk = s.blank msk := by
  simp only [State.refuseStep, ↓State.count_blank, ↓State.reportPending_blank, ↓State.ite_blank, ite_self, h_evt, h_ctrs, h_tim]

theorem State.considerSource_blank (h_clk : msk .clk = true) (h_crs : msk .crs = true) (h_evt : msk .evt = true) (h_ctrs : msk .ctrs = true) (h_tim : msk .tim = true) (h_ylk : msk .ylk = true) (n : Nat) (s : State) : (State.considerSource n s).blank msk = s.blank msk := by
  unfold State.considerSource
  repeat' (first | with_reducible rfl | assumption | simp only [↓State.applyRule1_blank, ↓State.refuseStep_blank, ↓State.selectSource_blank, ↓State.setTimSrc_blank, ↓State.stepTime_blank, ↓State.ite_blank, ite_self, h_clk, h_crs, h_evt, h_ctrs, h_tim, h_ylk, ↓State.foldl_blank, implies_true, forall_const] | split | intro _)

theorem State.consumeOffset_blank (h_tim : msk .tim = true) (h_ylk : msk .ylk = true) (n : Nat) (s : State) : (State.consumeOffset n s).blank msk = s.blank msk := by
  unfold State.consumeOffset
  repeat' (first | with_reducible rfl | assumption | simp only [↓State.withTim_blank, ↓State.withYlk_blank, ↓State.ite_blank, ite_self, h_tim, h_ylk, ↓State.foldl_blank, implies_true, forall_const] | split | intro _)

theorem State.steerOn_blank (h_evt : msk .evt = true) (h_ctrs : msk .ctrs = true) (h_tim : msk .tim = true) (n : Nat) (o : Int) (us : Nat) (s : State) : (State.steerOn n o us s).blank msk = s.blank msk := by
  simp only [State.steerOn, ↓State.checkExceeded_blank, ↓State.setTimSrc_blank, ↓State.withTim_blank, ↓State.ite_blank, ite_self, h_evt, h_ctrs, h_tim]

theorem State.pendingMoved_blank (h_evt : msk .evt = true) (h_ctrs : msk .ctrs = true) (h_tim : msk .tim = true) (n : Nat) (o : Int) (s : State) : (State.pendingMoved n o s).blank msk = s.blank msk := by
  simp only [State.pendingMoved, ↓State.reportPending_blank, ↓State.withTim_blank, ↓State.ite_blank, ite_self, h_evt, h_ctrs, h_tim]

theorem execSourceOffsetMeasure_blank (h_clk : msk .clk = true) (h_crs : msk .crs = true) (h_evt : msk .evt = true) (h_ctrs : msk .ctrs = true) (h_tim : msk .tim = true) (h_ylk : msk .ylk = true) (t src : Nat) (s : State) {t' : State} (h : execSourceOffsetMeasure t src s = .next t') : t'.blank msk = s.blank msk := by
  unfold execSourceOffsetMeasure at h
  injection h with h
  subst h
  repeat' (first | with_reducible rfl | assumption | simp only [↓State.applyRule1_blank, ↓State.considerSource_blank, ↓State.consumeOffset_blank, ↓State.dropSource_blank, ↓State.followRole_blank, ↓State.instant_blank, ↓State.pendingMoved_blank, ↓State.refuseStep_blank, ↓State.setTimSrc_blank, ↓State.steerOn_blank, ↓State.timAdvance_blank, ↓State.whileRunning_blank, ↓State.ite_blank, ite_self, h_clk, h_crs, h_evt, h_ctrs, h_tim, h_ylk, ↓State.foldl_blank, implies_true, forall_const] | rw [State.whileRunning_blank] | split | intro _)

theorem execSourceQualified_blank (h_clk : msk .clk = true) (h_crs : msk .crs = true) (h_evt : msk .evt = true) (h_ctrs : msk .ctrs = true) (h_tim : msk .tim = true) (h_ylk : msk .ylk = true) (t src : Nat) (s : State) {t' : State} (h : execSourceQualified t src s = .next t') : t'.blank msk = s.blank msk := by
  simp only [execSourceQualified, Host.Outcome.next.injEq] at h
  subst h
  simp only [↓State.considerSource_blank, ↓State.instant_blank, ↓State.raise_blank, ↓State.setTimSrc_blank, ↓State.whileRunning_blank, ↓State.ite_blank, ite_self, h_clk, h_crs, h_evt, h_ctrs, h_tim, h_ylk, ↓State.foldl_blank, implies_true, forall_const]

theorem execSourceLost_blank (h_clk : msk .clk = true) (h_evt : msk .evt = true) (h_ctrs : msk .ctrs = true) (h_tim : msk .tim = true) (t src : Nat) (s : State) {t' : State} (h : execSourceLost t src s = .next t') : t'.blank msk = s.blank msk := by
  simp only [execSourceLost, Host.Outcome.next.injEq] at h
  subst h
  simp only [↓State.applyRule1_blank, ↓State.count_blank, ↓State.dropSource_blank, ↓State.instant_blank, ↓State.raise_blank, ↓State.setTimSrc_blank, ↓State.whileRunning_blank, ↓State.ite_blank, ite_self, h_clk, h_evt, h_ctrs, h_tim, ↓State.foldl_blank, implies_true, forall_const]

theorem execSourceRevert_blank (h_clk : msk .clk = true) (h_evt : msk .evt = true) (h_ctrs : msk .ctrs = true) (h_tim : msk .tim = true) (t src : Nat) (s : State) {t' : State} (h : execSourceRevert t src s = .next t') : t'.blank msk = s.blank msk := by
  unfold execSourceRevert at h
  injection h with h
  subst h
  repeat' (first | with_reducible rfl | assumption | simp only [↓State.instant_blank, ↓State.selectSource_blank, ↓State.whileRunning_blank, ↓State.ite_blank, ite_self, h_clk, h_evt, h_ctrs, h_tim, ↓State.foldl_blank, implies_true, forall_const] | rw [State.whileRunning_blank] | split | intro _)

theorem execHoldoverLimitCrossed_blank (h_clk : msk .clk = true) (h_evt : msk .evt = true) (h_ctrs : msk .ctrs = true) (h_tim : msk .tim = true) (t : Nat) (s : State) {t' : State} (h : execHoldoverLimitCrossed t s = .next t') : t'.blank msk = s.blank msk := by
  simp only [execHoldoverLimitCrossed, Host.Outcome.next.injEq] at h
  subst h
  simp only [↓State.checkExceeded_blank, ↓State.instant_blank, ↓State.ite_blank, ite_self, h_clk, h_evt, h_ctrs, h_tim]

theorem execExtPpsEdge_blank (h_clk : msk .clk = true) (h_tim : msk .tim = true) (edge : PpsEdge) (s : State) {t' : State} (h : execExtPpsEdge edge s = .next t') : t'.blank msk = s.blank msk := by
  simp only [execExtPpsEdge, Host.Outcome.next.injEq] at h
  subst h
  simp only [↓State.instant_blank, ↓State.whileRunning_blank, ↓State.withTim_blank, ↓State.ite_blank, ite_self, h_clk, h_tim, ↓State.foldl_blank, implies_true, forall_const]

theorem execExt10mPresenceChange_blank (h_clk : msk .clk = true) (h_tim : msk .tim = true) (t : Nat) (present : Bool) (s : State) {t' : State} (h : execExt10mPresenceChange t present s = .next t') : t'.blank msk = s.blank msk := by
  simp only [execExt10mPresenceChange, Host.Outcome.next.injEq] at h
  subst h
  simp only [↓State.follow10m_blank, ↓State.instant_blank, ↓State.timAdvance_blank, ↓State.whileRunning_blank, ↓State.withTim_blank, ↓State.ite_blank, ite_self, h_clk, h_tim, ↓State.foldl_blank, implies_true, forall_const]

theorem State.ptpHeard_blank (h_tim : msk .tim = true) (i : Nat) (a : Announce) (s : State) : (State.ptpHeard i a s).2.blank msk = s.blank msk := by
  simp only [State.ptpHeard, ↓State.setPtp_blank, ↓State.ite_blank, ite_self, h_tim]

theorem State.ptpParent_blank (h_evt : msk .evt = true) (h_ctrs : msk .ctrs = true) (h_tim : msk .tim = true) (i : Nat) (s : State) : (State.ptpParent i s).blank msk = s.blank msk := by
  simp only [State.ptpParent, ↓State.raise_blank, ↓State.setPtp_blank, ↓State.ite_blank, ite_self, h_evt, h_ctrs, h_tim]

theorem State.ptpAnnounce_blank (h_evt : msk .evt = true) (h_ctrs : msk .ctrs = true) (h_tim : msk .tim = true) (i seq : Nat) (a : Announce) (s : State) : (State.ptpAnnounce i seq a s).blank msk = s.blank msk := by
  unfold State.ptpAnnounce
  repeat' (first | with_reducible rfl | assumption | simp only [↓State.announceLeap_blank, ↓State.count_blank, ↓State.learnLeap_blank, ↓State.ptpHeard_blank, ↓State.ptpParent_blank, ↓State.ptpUpdate_blank, ↓State.setPtp_blank, ↓State.ite_blank, ite_self, h_evt, h_ctrs, h_tim, ↓State.foldl_blank, implies_true, forall_const] | split | intro _)

theorem State.ptpOffset_blank (h_evt : msk .evt = true) (h_ctrs : msk .ctrs = true) (h_tim : msk .tim = true) (i : Nat) (s : State) : (State.ptpOffset i s).blank msk = s.blank msk := by
  unfold State.ptpOffset
  repeat' (first | with_reducible rfl | assumption | simp only [↓State.raise_blank, ↓State.setPtp_blank, ↓State.ite_blank, ite_self, h_evt, h_ctrs, h_tim, ↓State.foldl_blank, implies_true, forall_const] | split | intro _)

theorem State.ptpSync_blank (h_evt : msk .evt = true) (h_ctrs : msk .ctrs = true) (h_tim : msk .tim = true) (i seq : Nat) (t1 : Option Int) (t2 : Int) (s : State) : (State.ptpSync i seq t1 t2 s).blank msk = s.blank msk := by
  unfold State.ptpSync
  repeat' (first | with_reducible rfl | assumption | simp only [↓State.count_blank, ↓State.ptpOffset_blank, ↓State.setPtp_blank, ↓State.ite_blank, ite_self, h_evt, h_ctrs, h_tim, ↓State.foldl_blank, implies_true, forall_const] | split | intro _)

theorem State.ptpFollowUp_blank (h_evt : msk .evt = true) (h_ctrs : msk .ctrs = true) (h_tim : msk .tim = true) (i seq : Nat) (t1 : Int) (s : State) : (State.ptpFollowUp i seq t1 s).blank msk = s.blank msk := by
  unfold State.ptpFollowUp
  repeat' (first | with_reducible rfl | assumption | simp only [↓State.count_blank, ↓State.ptpOffset_blank, ↓State.setPtp_blank, ↓State.ite_blank, ite_self, h_evt, h_ctrs, h_tim, ↓State.foldl_blank, implies_true, forall_const] | split | intro _)

theorem State.ptpDelay_blank (h_evt : msk .evt = true) (h_ctrs : msk .ctrs = true) (h_tim : msk .tim = true) (i seq : Nat) (d : Int) (s : State) : (State.ptpDelay i seq d s).blank msk = s.blank msk := by
  simp only [State.ptpDelay, ↓State.count_blank, ↓State.setPtp_blank, ↓State.ite_blank, ite_self, h_evt, h_ctrs, h_tim]

theorem State.ptpSend_blank (h_outbox : msk .outbox = true) (i kind seq : Nat) (time : Int) (s : State) : (State.ptpSend i kind seq time s).blank msk = s.blank msk := by
  simp only [State.ptpSend, ↓State.emit_blank, ↓State.ite_blank, ite_self, h_outbox]

theorem State.ptpTake_blank (h_evt : msk .evt = true) (h_ctrs : msk .ctrs = true) (h_tim : msk .tim = true) (h_outbox : msk .outbox = true) (i : Nat) (hd : PtpHdr) (msg : PtpMsg) (s : State) : (State.ptpTake i hd msg s).blank msk = s.blank msk := by
  unfold State.ptpTake
  repeat' (first | with_reducible rfl | assumption | simp only [↓State.count_blank, ↓State.ptpAnnounce_blank, ↓State.ptpDelay_blank, ↓State.ptpFollowUp_blank, ↓State.ptpSend_blank, ↓State.ptpSync_blank, ↓State.setPtp_blank, ↓State.ite_blank, ite_self, h_evt, h_ctrs, h_tim, h_outbox, ↓State.foldl_blank, implies_true, forall_const] | split | intro _)

theorem execPtpMessageRx_blank (h_clk : msk .clk = true) (h_evt : msk .evt = true) (h_ctrs : msk .ctrs = true) (h_tim : msk .tim = true) (h_outbox : msk .outbox = true) (t : Nat) (port : Port) (rx : PtpRx) (s : State) {t' : State} (h : execPtpMessageRx t port rx s = .next t') : t'.blank msk = s.blank msk := by
  unfold execPtpMessageRx at h
  injection h with h
  subst h
  repeat' (first | with_reducible rfl | assumption | simp only [↓State.count_blank, ↓State.instant_blank, ↓State.ptpTake_blank, ↓State.whileRunning_blank, ↓State.ite_blank, ite_self, h_clk, h_evt, h_ctrs, h_tim, h_outbox, ↓State.foldl_blank, implies_true, forall_const] | rw [State.whileRunning_blank] | split | intro _)

theorem State.ptpSyncTx_blank (h_tim : msk .tim = true) (h_outbox : msk .outbox = true) (i : Nat) (s : State) : (State.ptpSyncTx i s).blank msk = s.blank msk := by
  simp only [State.ptpSyncTx, ↓State.ptpSend_blank, ↓State.setPtp_blank, ↓State.ite_blank, ite_self, h_tim, h_outbox]

theorem State.ptpAnnounceTx_blank (h_tim : msk .tim = true) (h_outbox : msk .outbox = true) (i : Nat) (s : State) : (State.ptpAnnounceTx i s).blank msk = s.blank msk := by
  simp only [State.ptpAnnounceTx, ↓State.ptpSend_blank, ↓State.setPtp_blank, ↓State.ite_blank, ite_self, h_tim, h_outbox]

theorem execPtpMasterTx_blank (h_clk : msk .clk = true) (h_tim : msk .tim = true) (h_outbox : msk .outbox = true) (t : Nat) (port : Port) (s : State) {t' : State} (h : execPtpMasterTx t port s = .next t') : t'.blank msk = s.blank msk := by
  simp only [execPtpMasterTx, Host.Outcome.next.injEq] at h
  subst h
  simp only [↓State.instant_blank, ↓State.ptpAnnounceTx_blank, ↓State.ptpSyncTx_blank, ↓State.whileRunning_blank, ↓State.ite_blank, ite_self, h_clk, h_tim, h_outbox, ↓State.foldl_blank, implies_true, forall_const]

theorem execPtpAnnounceTimeout_blank (h_clk : msk .clk = true) (h_evt : msk .evt = true) (h_ctrs : msk .ctrs = true) (h_tim : msk .tim = true) (t : Nat) (port : Port) (s : State) {t' : State} (h : execPtpAnnounceTimeout t port s = .next t') : t'.blank msk = s.blank msk := by
  simp only [execPtpAnnounceTimeout, Host.Outcome.next.injEq] at h
  subst h
  simp only [↓State.instant_blank, ↓State.ptpUpdate_blank, ↓State.setPtp_blank, ↓State.whileRunning_blank, ↓State.ite_blank, ite_self, h_clk, h_evt, h_ctrs, h_tim, ↓State.foldl_blank, implies_true, forall_const]

theorem execPtpDelayRequestTx_blank (h_clk : msk .clk = true) (h_tim : msk .tim = true) (h_outbox : msk .outbox = true) (t : Nat) (port : Port) (s : State) {t' : State} (h : execPtpDelayRequestTx t port s = .next t') : t'.blank msk = s.blank msk := by
  simp only [execPtpDelayRequestTx, Host.Outcome.next.injEq] at h
  subst h
  simp only [↓State.instant_blank, ↓State.ptpSend_blank, ↓State.setPtp_blank, ↓State.whileRunning_blank, ↓State.ite_blank, ite_self, h_clk, h_tim, h_outbox, ↓State.foldl_blank, implies_true, forall_const]

theorem execPpsEdge_blank (h_clk : msk .clk = true) (h_tim : msk .tim = true) (h_outbox : msk .outbox = true) (t : Nat) (s : State) {t' : State} (h : execPpsEdge t s = .next t') : t'.blank msk = s.blank msk := by
  unfold execPpsEdge at h
  injection h with h
  subst h
  repeat' (first | with_reducible rfl | assumption | simp only [↓State.drivePps_blank, ↓State.endPulse_blank, ↓State.instant_blank, ↓State.timAdvance_blank, ↓State.whileRunning_blank, ↓State.withTim_blank, ↓State.ite_blank, ite_self, h_clk, h_tim, h_outbox, ↓State.foldl_blank, implies_true, forall_const] | rw [State.whileRunning_blank] | split | intro _)

theorem execCaptureEdge_blank (h_clk : msk .clk = true) (h_evt : msk .evt = true) (h_ctrs : msk .ctrs = true) (h_tim : msk .tim = true) (t input : Nat) (edge : CapEdge) (s : State) {t' : State} (h : execCaptureEdge t input edge s = .next t') : t'.blank msk = s.blank msk := by
  simp only [execCaptureEdge, Host.Outcome.next.injEq] at h
  subst h
  simp only [↓State.count_blank, ↓State.instant_blank, ↓State.raise_blank, ↓State.whileRunning_blank, ↓State.withTim_blank, ↓State.ite_blank, ite_self, h_clk, h_evt, h_ctrs, h_tim, ↓State.foldl_blank, implies_true, forall_const]

end

end Sys2Proof.Machine
end

