-- ==== Sys2Proof/Laws/KeepGnss.lean ====
section
/-! SUPPORT. What the operations and commands of Machine/Gnss.lean leave unchanged. -/

set_option linter.unusedSimpArgs false

namespace Sys2Proof.Machine
open Sys2Proof

section
variable {msk : Part → Bool}

theorem State.putAnt_blank (h_gns : msk .gns = true) (a : Nat) (x : GnsAnt) (s : State) : (State.putAnt a x s).blank msk = s.blank msk := by
  simp only [State.putAnt, ↓State.withGns_blank, ↓State.ite_blank, ite_self, h_gns]

theorem State.putChan_blank (h_gns : msk .gns = true) (a c : Nat) (x : GnsChan) (s : State) : (State.putChan a c x s).blank msk = s.blank msk := by
  simp only [State.putChan, ↓State.withGns_blank, ↓State.ite_blank, ite_self, h_gns]

theorem State.findSupply_blank (h_evt : msk .evt = true) (h_gns : msk .gns = true) (h_ctrs : msk .ctrs = true) (ant state : Nat) (s : State) : (State.findSupply ant state s).blank msk = s.blank msk := by
  simp only [State.findSupply, ↓State.putAnt_blank, ↓State.raise_blank, ↓State.ite_blank, ite_self, h_evt, h_gns, h_ctrs]

theorem execAntennaSupplyFault_blank (h_clk : msk .clk = true) (h_evt : msk .evt = true) (h_gns : msk .gns = true) (h_ctrs : msk .ctrs = true) (t ant ma : Nat) (s : State) {t' : State} (h : execAntennaSupplyFault t ant ma s = .next t') : t'.blank msk = s.blank msk := by
  simp only [execAntennaSupplyFault, Host.Outcome.next.injEq] at h
  subst h
  simp only [↓State.findSupply_blank, ↓State.instant_blank, ↓State.whileRunning_blank, ↓State.ite_blank, ite_self, h_clk, h_evt, h_gns, h_ctrs, ↓State.foldl_blank, implies_true, forall_const]

theorem execAntennaSupplyRetry_blank (h_clk : msk .clk = true) (h_gns : msk .gns = true) (t ant : Nat) (s : State) {t' : State} (h : execAntennaSupplyRetry t ant s = .next t') : t'.blank msk = s.blank msk := by
  unfold execAntennaSupplyRetry at h
  injection h with h
  subst h
  repeat' (first | with_reducible rfl | assumption | simp only [↓State.instant_blank, ↓State.putAnt_blank, ↓State.whileRunning_blank, ↓State.ite_blank, ite_self, h_clk, h_gns, ↓State.foldl_blank, implies_true, forall_const] | rw [State.whileRunning_blank] | split | intro _)

theorem State.slipAt_blank (h_evt : msk .evt = true) (h_gns : msk .gns = true) (h_ctrs : msk .ctrs = true) (a c : Nat) (at_ : Int) (s : State) : (State.slipAt a c at_ s).blank msk = s.blank msk := by
  simp only [State.slipAt, ↓State.count_blank, ↓State.putChan_blank, ↓State.withGns_blank, ↓State.ite_blank, ite_self, h_evt, h_gns, h_ctrs]

theorem State.slipCarrier_blank (h_evt : msk .evt = true) (h_gns : msk .gns = true) (h_ctrs : msk .ctrs = true) (a c : Nat) (s : State) : (State.slipCarrier a c s).blank msk = s.blank msk := by
  simp only [State.slipCarrier, ↓State.slipAt_blank, ↓State.ite_blank, ite_self, h_evt, h_gns, h_ctrs]

theorem State.loseCarrier_blank (h_evt : msk .evt = true) (h_gns : msk .gns = true) (h_ctrs : msk .ctrs = true) (a c : Nat) (s : State) : (State.loseCarrier a c s).blank msk = s.blank msk := by
  simp only [State.loseCarrier, ↓State.slipCarrier_blank, ↓State.ite_blank, ite_self, h_evt, h_gns, h_ctrs]

theorem execCarrierContinuityLoss_blank (h_clk : msk .clk = true) (h_evt : msk .evt = true) (h_gns : msk .gns = true) (h_ctrs : msk .ctrs = true) (t ant chan : Nat) (s : State) {t' : State} (h : execCarrierContinuityLoss t ant chan s = .next t') : t'.blank msk = s.blank msk := by
  simp only [execCarrierContinuityLoss, Host.Outcome.next.injEq] at h
  subst h
  simp only [↓State.instant_blank, ↓State.slipCarrier_blank, ↓State.whileRunning_blank, ↓State.ite_blank, ite_self, h_clk, h_evt, h_gns, h_ctrs, ↓State.foldl_blank, implies_true, forall_const]

theorem State.tune_blank (h_evt : msk .evt = true) (h_gns : msk .gns = true) (h_ctrs : msk .ctrs = true) (c signal sv : Nat) (s : State) : (State.tune c signal sv s).blank msk = s.blank msk := by
  simp only [State.tune, ↓State.loseCarrier_blank, ↓State.putChan_blank, ↓State.withGns_blank, ↓State.ite_blank, ite_self, h_evt, h_gns, h_ctrs, ↓State.foldl_blank, implies_true, forall_const]

theorem State.serveSat_blank (h_evt : msk .evt = true) (h_gns : msk .gns = true) (h_ctrs : msk .ctrs = true) (i : Nat) (x : Option GnsSat) (s : State) : (State.serveSat i x s).blank msk = s.blank msk := by
  unfold State.serveSat
  repeat' (first | with_reducible rfl | assumption | simp only [↓State.tune_blank, ↓State.withGns_blank, ↓State.ite_blank, ite_self, h_evt, h_gns, h_ctrs, ↓State.foldl_blank, implies_true, forall_const] | split | intro _)

theorem State.reviseChannels_blank (h_evt : msk .evt = true) (h_gns : msk .gns = true) (h_ctrs : msk .ctrs = true) (cands : List SatCand) (s : State) : (State.reviseChannels cands s).blank msk = s.blank msk := by
  unfold State.reviseChannels
  repeat' (first | with_reducible rfl | assumption | simp only [↓State.serveSat_blank, ↓State.ite_blank, ite_self, h_evt, h_gns, h_ctrs, ↓State.foldl_blank, implies_true, forall_const] | split | intro _ | rw [State.foldl_blank])

theorem execChannelAssignRevision_blank (h_clk : msk .clk = true) (h_evt : msk .evt = true) (h_gns : msk .gns = true) (h_ctrs : msk .ctrs = true) (t : Nat) (cands : List SatCand) (s : State) {t' : State} (h : execChannelAssignRevision t cands s = .next t') : t'.blank msk = s.blank msk := by
  simp only [execChannelAssignRevision, Host.Outcome.next.injEq] at h
  subst h
  simp only [↓State.instant_blank, ↓State.reviseChannels_blank, ↓State.whileRunning_blank, ↓State.ite_blank, ite_self, h_clk, h_evt, h_gns, h_ctrs, ↓State.foldl_blank, implies_true, forall_const]

theorem State.markNotch_blank (h_gns : msk .gns = true) (stream : Nat) (s : State) : (State.markNotch stream s).blank msk = s.blank msk := by
  simp only [State.markNotch, ↓State.withGns_blank, ↓State.ite_blank, ite_self, h_gns]

theorem State.placeNotch_blank (h_evt : msk .evt = true) (h_gns : msk .gns = true) (h_ctrs : msk .ctrs = true) (i : Nat) (bin : Int) (s : State) : (State.placeNotch i bin s).blank msk = s.blank msk := by
  simp only [State.placeNotch, ↓State.markNotch_blank, ↓State.raise_blank, ↓State.withGns_blank, ↓State.ite_blank, ite_self, h_evt, h_gns, h_ctrs]

theorem State.dropNotch_blank (h_evt : msk .evt = true) (h_gns : msk .gns = true) (h_ctrs : msk .ctrs = true) (i : Nat) (s : State) : (State.dropNotch i s).blank msk = s.blank msk := by
  simp only [State.dropNotch, ↓State.markNotch_blank, ↓State.raise_blank, ↓State.withGns_blank, ↓State.ite_blank, ite_self, h_evt, h_gns, h_ctrs]

theorem State.dropNotches_blank (h_evt : msk .evt = true) (h_gns : msk .gns = true) (h_ctrs : msk .ctrs = true) (streams : List Nat) (s : State) : (State.dropNotches streams s).blank msk = s.blank msk := by
  unfold State.dropNotches
  repeat' (first | with_reducible rfl | assumption | simp only [↓State.dropNotch_blank, ↓State.withGns_blank, ↓State.ite_blank, ite_self, h_evt, h_gns, h_ctrs, ↓State.foldl_blank, implies_true, forall_const] | split | intro _ | rw [State.foldl_blank])

theorem execNotchRelease_blank (h_clk : msk .clk = true) (h_evt : msk .evt = true) (h_gns : msk .gns = true) (h_ctrs : msk .ctrs = true) (t notch : Nat) (s : State) {t' : State} (h : execNotchRelease t notch s = .next t') : t'.blank msk = s.blank msk := by
  simp only [execNotchRelease, Host.Outcome.next.injEq] at h
  subst h
  simp only [↓State.dropNotch_blank, ↓State.instant_blank, ↓State.whileRunning_blank, ↓State.ite_blank, ite_self, h_clk, h_evt, h_gns, h_ctrs, ↓State.foldl_blank, implies_true, forall_const]

theorem State.setLoops_blank (h_gns : msk .gns = true) (s : State) : (State.setLoops s).blank msk = s.blank msk := by
  simp only [State.setLoops, ↓State.withGns_blank, ↓State.ite_blank, ite_self, h_gns]

theorem State.gnsEpoch_blank (h_evt : msk .evt = true) (h_gns : msk .gns = true) (h_ctrs : msk .ctrs = true) (h_cfg : msk .cfg = true) (s : State) : (State.gnsEpoch s).blank msk = s.blank msk := by
  simp only [State.gnsEpoch, ↓State.dropNotches_blank, ↓State.putAnt_blank, ↓State.setLoops_blank, ↓State.takeCfg_blank, ↓State.withGns_blank, ↓State.ite_blank, ite_self, h_evt, h_gns, h_ctrs, h_cfg, ↓State.foldl_blank, implies_true, forall_const]

theorem State.setJam_blank (h_evt : msk .evt = true) (h_gns : msk .gns = true) (h_ctrs : msk .ctrs = true) (stream j : Nat) (s : State) : (State.setJam stream j s).blank msk = s.blank msk := by
  simp only [State.setJam, ↓State.raise_blank, ↓State.withGns_blank, ↓State.ite_blank, ite_self, h_evt, h_gns, h_ctrs]

theorem State.notchFor_blank (h_evt : msk .evt = true) (h_gns : msk .gns = true) (h_ctrs : msk .ctrs = true) (stream : Nat) (want : List Int) (b : Int) (s : State) : (State.notchFor stream want b s).blank msk = s.blank msk := by
  unfold State.notchFor
  repeat' (first | with_reducible rfl | assumption | simp only [↓State.placeNotch_blank, ↓State.ite_blank, ite_self, h_evt, h_gns, h_ctrs, ↓State.foldl_blank, implies_true, forall_const] | split | intro _)

theorem State.notchCandidates_blank (h_gns : msk .gns = true) (stream : Nat) (levels : List Int) (s : State) : (State.notchCandidates stream levels s).2.blank msk = s.blank msk := by
  simp only [State.notchCandidates, ↓State.withGns_blank, ↓State.ite_blank, ite_self, h_gns]

theorem execNotchAnalysis_blank (h_clk : msk .clk = true) (h_evt : msk .evt = true) (h_gns : msk .gns = true) (h_ctrs : msk .ctrs = true) (t stream : Nat) (power : Int) (levels : List Int) (s : State) {t' : State} (h : execNotchAnalysis t stream power levels s = .next t') : t'.blank msk = s.blank msk := by
  unfold execNotchAnalysis at h
  injection h with h
  subst h
  repeat' (first | with_reducible rfl | assumption | simp only [↓State.dropNotches_blank, ↓State.instant_blank, ↓State.notchCandidates_blank, ↓State.notchFor_blank, ↓State.setJam_blank, ↓State.whileRunning_blank, ↓State.withGns_blank, ↓State.ite_blank, ite_self, h_clk, h_evt, h_gns, h_ctrs, ↓State.foldl_blank, implies_true, forall_const] | rw [State.whileRunning_blank] | split | intro _)

theorem execGnsNotchSelWrite_blank (h_evt : msk .evt = true) (h_gns : msk .gns = true) (h_ctrs : msk .ctrs = true) (w : Word) (s : State) {t' : State} (h : execGnsNotchSelWrite w s = .next t') : t'.blank msk = s.blank msk := by
  simp only [execGnsNotchSelWrite, Host.Outcome.next.injEq] at h
  subst h
  simp only [↓State.barWrite_blank, ↓State.withGns_blank, ↓State.ite_blank, ite_self, h_evt, h_gns, h_ctrs, ↓State.foldl_blank, implies_true, forall_const]

theorem State.takeStation_blank (h_gns : msk .gns = true) (id : Nat) (s x : State) (h : State.takeStation id s = some x) :
    x.blank msk = s.blank msk := by
  unfold State.takeStation at h
  dsimp only at h
  repeat' split at h
  all_goals first
    | (injection h with h; subst h; exact State.withGns_blank h_gns _ _)
    | simp at h

theorem State.corrChange_blank (h_evt : msk .evt = true) (h_gns : msk .gns = true) (h_ctrs : msk .ctrs = true) (s : State) : (State.corrChange s).blank msk = s.blank msk := by
  simp only [State.corrChange, ↓State.raise_blank, ↓State.withGns_blank, ↓State.ite_blank, ite_self, h_evt, h_gns, h_ctrs]

theorem State.noteEph_blank (h_gns : msk .gns = true) (key : Nat) (b : List Byte) (s : State) : (State.noteEph key b s).blank msk = s.blank msk := by
  simp only [State.noteEph, ↓State.withGns_blank, ↓State.ite_blank, ite_self, h_gns]

theorem State.notePosition_blank (h_gns : msk .gns = true) (p : List Int) (s : State) : (State.notePosition p s).blank msk = s.blank msk := by
  simp only [State.notePosition, ↓State.withGns_blank, ↓State.ite_blank, ite_self, h_gns]

theorem State.rtcmMessage_blank (h_evt : msk .evt = true) (h_gns : msk .gns = true) (h_ctrs : msk .ctrs = true) (p : List Byte) (s : State) : (State.rtcmMessage p s).1.blank msk = s.blank msk := by
  unfold State.rtcmMessage
  dsimp only
  repeat' split
  all_goals try simp only [↓State.corrChange_blank, ↓State.withGns_blank, ↓State.noteEph_blank, ↓State.notePosition_blank, h_gns, h_evt, h_ctrs]
  all_goals first | exact State.takeStation_blank h_gns _ _ _ (by assumption) | skip

theorem State.rtcmFrames_blank (h_evt : msk .evt = true) (h_gns : msk .gns = true) (h_ctrs : msk .ctrs = true) (f : Nat) (b : List Byte) (u : Nat) (s : State) :
    (State.rtcmFrames f b u s).1.blank msk = s.blank msk := by
  induction f generalizing b u s with
  | zero => rfl
  | succ f ih =>
    unfold State.rtcmFrames
    dsimp only
    repeat' split
    all_goals simp only [↓ih, ↓State.count_blank, ↓State.rtcmMessage_blank, h_evt, h_gns, h_ctrs]

theorem State.takeCorrection_blank (h_evt : msk .evt = true) (h_hrg : msk .hrg = true) (h_gns : msk .gns = true) (h_ctrs : msk .ctrs = true) (w : Waiting) (data : List Byte) (s : State) : (State.takeCorrection w data s).blank msk = s.blank msk := by
  simp only [State.takeCorrection, ↓State.done_blank, ↓State.rtcmFrames_blank, ↓State.ite_blank, ite_self, h_evt, h_hrg, h_gns, h_ctrs]

theorem execCorrectionLapse_blank (h_clk : msk .clk = true) (h_evt : msk .evt = true) (h_gns : msk .gns = true) (h_ctrs : msk .ctrs = true) (t : Nat) (s : State) {t' : State} (h : execCorrectionLapse t s = .next t') : t'.blank msk = s.blank msk := by
  simp only [execCorrectionLapse, Host.Outcome.next.injEq] at h
  subst h
  simp only [↓State.corrChange_blank, ↓State.instant_blank, ↓State.whileRunning_blank, ↓State.ite_blank, ite_self, h_clk, h_evt, h_gns, h_ctrs, ↓State.foldl_blank, implies_true, forall_const]

theorem State.noteLock_blank (h_evt : msk .evt = true) (h_gns : msk .gns = true) (h_ctrs : msk .ctrs = true) (o : GnsObs) (s : State) : (State.noteLock o s).blank msk = s.blank msk := by
  unfold State.noteLock
  repeat' (first | with_reducible rfl | assumption | simp only [↓State.loseCarrier_blank, ↓State.slipAt_blank, ↓State.ite_blank, ite_self, h_evt, h_gns, h_ctrs, ↓State.foldl_blank, implies_true, forall_const] | split | intro _)

theorem State.navOne_blank (h_evt : msk .evt = true) (h_gns : msk .gns = true) (h_ctrs : msk .ctrs = true) (tk : Int) (o : GnsObs) (s : State) : (State.navOne tk o s).2.blank msk = s.blank msk := by
  simp only [State.navOne, ↓State.loseCarrier_blank, ↓State.noteLock_blank, ↓State.putChan_blank, ↓State.ite_blank, ite_self, h_evt, h_gns, h_ctrs]

theorem State.checkC5_blank (h_gns : msk .gns = true) (tk : Int) (ms : List GnsMeas) (s : State) : (State.checkC5 tk ms s).2.blank msk = s.blank msk := by
  unfold State.checkC5
  repeat' (first | with_reducible rfl | assumption | simp only [↓State.withGns_blank, ↓State.ite_blank, ite_self, h_gns, ↓State.foldl_blank, implies_true, forall_const] | split | intro _)

theorem State.declareSpoofed_blank (h_evt : msk .evt = true) (h_gns : msk .gns = true) (h_ctrs : msk .ctrs = true) (c7 : Bool) (a : Nat) (s : State) : (State.declareSpoofed c7 a s).blank msk = s.blank msk := by
  simp only [State.declareSpoofed, ↓State.putAnt_blank, ↓State.raise_blank, ↓State.ite_blank, ite_self, h_evt, h_gns, h_ctrs]

theorem State.clearSpoofed_blank (h_evt : msk .evt = true) (h_gns : msk .gns = true) (h_ctrs : msk .ctrs = true) (a : Nat) (s : State) : (State.clearSpoofed a s).blank msk = s.blank msk := by
  unfold State.clearSpoofed
  repeat' (first | with_reducible rfl | assumption | simp only [↓State.putAnt_blank, ↓State.raise_blank, ↓State.ite_blank, ite_self, h_evt, h_gns, h_ctrs, ↓State.foldl_blank, implies_true, forall_const] | split | intro _)

theorem execSpoofClear_blank (h_clk : msk .clk = true) (h_evt : msk .evt = true) (h_gns : msk .gns = true) (h_ctrs : msk .ctrs = true) (t ant : Nat) (s : State) {t' : State} (h : execSpoofClear t ant s = .next t') : t'.blank msk = s.blank msk := by
  simp only [execSpoofClear, Host.Outcome.next.injEq] at h
  subst h
  simp only [↓State.clearSpoofed_blank, ↓State.instant_blank, ↓State.whileRunning_blank, ↓State.ite_blank, ite_self, h_clk, h_evt, h_gns, h_ctrs, ↓State.foldl_blank, implies_true, forall_const]

theorem State.setHead_blank (h_evt : msk .evt = true) (h_gns : msk .gns = true) (h_ctrs : msk .ctrs = true) (n : Nat) (amb : List (Nat × Int)) (s : State) : (State.setHead n amb s).blank msk = s.blank msk := by
  simp only [State.setHead, ↓State.raise_blank, ↓State.withGns_blank, ↓State.ite_blank, ite_self, h_evt, h_gns, h_ctrs]

theorem State.placeSignal_blank (h_clk : msk .clk = true) (h_evt : msk .evt = true) (h_ctrs : msk .ctrs = true) (h_sni : msk .sni = true) (h_ylk : msk .ylk = true) (h_outbox : msk .outbox = true) (tk : Int) (m : GnsMeas) (s : State) : (State.placeSignal tk m s).blank msk = s.blank msk := by
  unfold State.placeSignal
  repeat' (first | with_reducible rfl | assumption | simp only [↓State.arrive_blank, ↓State.count_blank, ↓State.ite_blank, ite_self, h_clk, h_evt, h_ctrs, h_sni, h_ylk, h_outbox, ↓State.foldl_blank, implies_true, forall_const] | split | intro _)

theorem State.placeHeading_blank (h_clk : msk .clk = true) (h_evt : msk .evt = true) (h_ctrs : msk .ctrs = true) (h_sni : msk .sni = true) (h_ylk : msk .ylk = true) (h_outbox : msk .outbox = true) (tk : Int) (ms : List GnsMeas) (cs : List Nat) (h : GnsHeading) (s : State) : (State.placeHeading tk ms cs h s).blank msk = s.blank msk := by
  unfold State.placeHeading
  repeat' (first | with_reducible rfl | assumption | simp only [↓State.arrive_blank, ↓State.ite_blank, ite_self, h_clk, h_evt, h_ctrs, h_sni, h_ylk, h_outbox, ↓State.foldl_blank, implies_true, forall_const] | split | intro _)

theorem State.setSats_blank (h_evt : msk .evt = true) (h_gns : msk .gns = true) (h_ctrs : msk .ctrs = true) (a n : Nat) (s : State) : (State.setSats a n s).blank msk = s.blank msk := by
  simp only [State.setSats, ↓State.putAnt_blank, ↓State.raise_blank, ↓State.ite_blank, ite_self, h_evt, h_gns, h_ctrs]

theorem State.checkC6_blank (h_evt : msk .evt = true) (h_gns : msk .gns = true) (h_ctrs : msk .ctrs = true) (a : Nat) (sol : Option GnsSol) (s : State) : (State.checkC6 a sol s).2.blank msk = s.blank msk := by
  unfold State.checkC6
  repeat' (first | with_reducible rfl | assumption | simp only [↓State.declareSpoofed_blank, ↓State.putAnt_blank, ↓State.ite_blank, ite_self, h_evt, h_gns, h_ctrs, ↓State.foldl_blank, implies_true, forall_const] | split | intro _)

theorem State.noteClean_blank (h_gns : msk .gns = true) (tk : Int) (a : Nat) (c6 c7 : Bool) (s : State) : (State.noteClean tk a c6 c7 s).blank msk = s.blank msk := by
  simp only [State.noteClean, ↓State.putAnt_blank, ↓State.ite_blank, ite_self, h_gns, ↓State.foldl_blank, implies_true, forall_const]

theorem State.standalone_blank (h_evt : msk .evt = true) (h_gns : msk .gns = true) (h_ctrs : msk .ctrs = true) (h_tim : msk .tim = true) (a : Nat) (ms : List GnsMeas) (sol : Option GnsSol) (s : State) : (State.standalone a ms sol s).blank msk = s.blank msk := by
  unfold State.standalone
  repeat' (first | with_reducible rfl | assumption | simp only [↓State.announceLeap_blank, ↓State.learnLeap_blank, ↓State.withGns_blank, ↓State.withTim_blank, ↓State.ite_blank, ite_self, h_evt, h_gns, h_ctrs, h_tim, ↓State.foldl_blank, implies_true, forall_const] | split | intro _)

theorem State.navMeasure_blank (h_evt : msk .evt = true) (h_gns : msk .gns = true) (h_ctrs : msk .ctrs = true) (tk : Int) (obs : List GnsObs) (s : State) : (State.navMeasure tk obs s).2.blank msk = s.blank msk := by
  unfold State.navMeasure
  dsimp only
  rw [State.checkC5_blank h_gns]
  refine State.foldl_blank_snd _ _ _ ?_
  intro b x
  exact State.navOne_blank h_evt h_gns h_ctrs _ _ _

theorem State.navHeading_blank (h_evt : msk .evt = true) (h_gns : msk .gns = true) (h_ctrs : msk .ctrs = true) (hs : Nat × List (Nat × Int)) (s : State) : (State.navHeading hs s).blank msk = s.blank msk := by
  simp only [State.navHeading, ↓State.setHead_blank, ↓State.ite_blank, ite_self, h_evt, h_gns, h_ctrs]

theorem State.gnssNav_blank (h_clk : msk .clk = true) (h_evt : msk .evt = true) (h_gns : msk .gns = true) (h_ctrs : msk .ctrs = true) (h_sni : msk .sni = true) (h_tim : msk .tim = true) (h_ylk : msk .ylk = true) (h_outbox : msk .outbox = true) (nav : List (Nat × List Byte)) (iono : List Byte) (obs : List GnsObs) (sols : List (Option GnsSol)) (hd : GnsHeading) (s : State) : (State.gnssNav nav iono obs sols hd s).blank msk = s.blank msk := by
  simp only [State.gnssNav, ↓State.checkC6_blank, ↓State.clearSpoofed_blank, ↓State.declareSpoofed_blank, ↓State.navHeading_blank, ↓State.navMeasure_blank, ↓State.noteClean_blank, ↓State.noteEph_blank, ↓State.placeHeading_blank, ↓State.placeSignal_blank, ↓State.setSats_blank, ↓State.standalone_blank, ↓State.withGns_blank, ↓State.ite_blank, ite_self, h_clk, h_evt, h_gns, h_ctrs, h_sni, h_tim, h_ylk, h_outbox, ↓State.foldl_blank, ↓State.foldl_blank_fst, ↓State.foldl_blank_snd, implies_true, forall_const]

theorem execGnssNav_blank (h_clk : msk .clk = true) (h_crs : msk .crs = true) (h_evt : msk .evt = true) (h_gns : msk .gns = true) (h_ctrs : msk .ctrs = true) (h_sni : msk .sni = true) (h_tim : msk .tim = true) (h_ylk : msk .ylk = true) (h_outbox : msk .outbox = true) (t : Nat) (nav : List (Nat × List Byte)) (iono : List Byte) (obs : List GnsObs) (sols : List (Option GnsSol)) (hd : GnsHeading) (s : State) {t' : State} (h : execGnssNav t nav iono obs sols hd s = .next t') : t'.blank msk = s.blank msk := by
  simp only [execGnssNav, Host.Outcome.next.injEq] at h
  subst h
  simp only [↓State.gnssNav_blank, ↓State.runItem_blank, ↓State.ite_blank, ite_self, h_clk, h_crs, h_evt, h_gns, h_ctrs, h_sni, h_tim, h_ylk, h_outbox, ↓State.foldl_blank, implies_true, forall_const]

theorem State.serveGnssQuery_blank (h_evt : msk .evt = true) (h_hrg : msk .hrg = true) (h_ctrs : msk .ctrs = true) (h_outbox : msk .outbox = true) (w : Waiting) (s : State) : (State.serveGnssQuery w s).blank msk = s.blank msk := by
  simp only [State.serveGnssQuery, ↓State.answer_blank, ↓State.ite_blank, ite_self, h_evt, h_hrg, h_ctrs, h_outbox]

theorem State.takeSnapshot_blank (h_evt : msk .evt = true) (h_hrg : msk .hrg = true) (h_gns : msk .gns = true) (h_ctrs : msk .ctrs = true) (h_mem : msk .mem = true) (w : Waiting) (secs ns dur streams tap : Nat) (s : State) : (State.takeSnapshot w secs ns dur streams tap s).blank msk = s.blank msk := by
  simp only [State.takeSnapshot, ↓State.refuse_blank, ↓State.wakeSnapshot_blank, ↓State.withGns_blank, ↓State.withHrg_blank, ↓State.ite_blank, ite_self, h_evt, h_hrg, h_gns, h_ctrs, h_mem]

theorem execSnapshotCaptureStart_blank (h_clk : msk .clk = true) (h_gns : msk .gns = true) (t : Nat) (s : State) {t' : State} (h : execSnapshotCaptureStart t s = .next t') : t'.blank msk = s.blank msk := by
  simp only [execSnapshotCaptureStart, Host.Outcome.next.injEq] at h
  subst h
  simp only [↓State.instant_blank, ↓State.whileRunning_blank, ↓State.withGns_blank, ↓State.ite_blank, ite_self, h_clk, h_gns, ↓State.foldl_blank, implies_true, forall_const]

theorem execSnapshotCaptureDone_blank (h_clk : msk .clk = true) (h_hrg : msk .hrg = true) (h_gns : msk .gns = true) (t : Nat) (samples : List Byte) (s : State) {t' : State} (h : execSnapshotCaptureDone t samples s = .next t') : t'.blank msk = s.blank msk := by
  unfold execSnapshotCaptureDone at h
  injection h with h
  subst h
  repeat' (first | with_reducible rfl | assumption | simp only [↓State.done_blank, ↓State.instant_blank, ↓State.whileRunning_blank, ↓State.withGns_blank, ↓State.withHrg_blank, ↓State.ite_blank, ite_self, h_clk, h_hrg, h_gns, ↓State.foldl_blank, implies_true, forall_const] | rw [State.whileRunning_blank] | split | intro _)

theorem State.snapExported_blank (h_gns : msk .gns = true) (h_mem : msk .mem = true) (s : State) : (State.snapExported s).blank msk = s.blank msk := by
  simp only [State.snapExported, ↓State.retainSnapshot_blank, ↓State.withGns_blank, ↓State.ite_blank, ite_self, h_gns, h_mem]

end

end Sys2Proof.Machine
end

