-- ==== Sys2Proof/Laws/KeepImage.lean ====
section
/-! SUPPORT. What the operations and commands of Machine/Image.lean leave unchanged. -/

set_option linter.unusedSimpArgs false

namespace Sys2Proof.Machine
open Sys2Proof

section
variable {msk : Part → Bool}

theorem State.serveImageQuery_blank (h_evt : msk .evt = true) (h_hrg : msk .hrg = true) (h_ctrs : msk .ctrs = true) (h_outbox : msk .outbox = true) (w : Waiting) (s : State) : (State.serveImageQuery w s).blank msk = s.blank msk := by
  simp only [State.serveImageQuery, ↓State.answer_blank, ↓State.ite_blank, ite_self, h_evt, h_hrg, h_ctrs, h_outbox]

theorem State.takeImageActivate_blank (h_hrg : msk .hrg = true) (h_img : msk .img = true) (w : Waiting) (n : Word) (s : State) : (State.takeImageActivate w n s).blank msk = s.blank msk := by
  simp only [State.takeImageActivate, ↓State.refuse_blank, ↓State.withImg_blank, ↓State.ite_blank, ite_self, h_hrg, h_img]

theorem State.takeImageDiscard_blank (h_hrg : msk .hrg = true) (h_img : msk .img = true) (w : Waiting) (s : State) : (State.takeImageDiscard w s).blank msk = s.blank msk := by
  unfold State.takeImageDiscard
  generalize s.img.slot = x
  cases x <;> simp only [↓State.refuse_blank, ↓State.done_blank, ↓State.withImg_blank, h_hrg, h_img]

theorem State.takeImageLoad_blank (h_hrg : msk .hrg = true) (h_img : msk .img = true) (w : Waiting) (s : State) : (State.takeImageLoad w s).blank msk = s.blank msk := by
  unfold State.takeImageLoad
  repeat' (first | with_reducible rfl | assumption | simp only [↓State.refuse_blank, ↓State.withImg_blank, ↓State.ite_blank, ite_self, h_hrg, h_img, ↓State.foldl_blank, implies_true, forall_const] | split | intro _)

theorem State.fetchFailed_blank (h_evt : msk .evt = true) (h_hrg : msk .hrg = true) (h_img : msk .img = true) (h_ctrs : msk .ctrs = true) (s : State) : (State.fetchFailed s).blank msk = s.blank msk := by
  unfold State.fetchFailed
  repeat' (first | with_reducible rfl | assumption | simp only [↓State.count_blank, ↓State.endLoad_blank, ↓State.raise_blank, ↓State.ite_blank, ite_self, h_evt, h_hrg, h_img, h_ctrs, ↓State.foldl_blank, implies_true, forall_const] | split | intro _)

theorem execImageVerifyDone_blank (h_clk : msk .clk = true) (h_evt : msk .evt = true) (h_hrg : msk .hrg = true) (h_img : msk .img = true) (h_ctrs : msk .ctrs = true) (t : Nat) (img : Option (List Byte)) (s : State) {t' : State} (h : execImageVerifyDone t img s = .next t') : t'.blank msk = s.blank msk := by
  unfold execImageVerifyDone at h
  injection h with h
  subst h
  repeat' (first | with_reducible rfl | assumption | simp only [↓State.endLoad_blank, ↓State.fetchFailed_blank, ↓State.instant_blank, ↓State.stopLoad_blank, ↓State.ite_blank, ite_self, h_clk, h_evt, h_hrg, h_img, h_ctrs, ↓State.foldl_blank, implies_true, forall_const] | split | intro _)

theorem execImageDiscardStop_blank (h_clk : msk .clk = true) (h_hrg : msk .hrg = true) (h_img : msk .img = true) (t : Nat) (s : State) {t' : State} (h : execImageDiscardStop t s = .next t') : t'.blank msk = s.blank msk := by
  simp only [execImageDiscardStop, Host.Outcome.next.injEq] at h
  subst h
  simp only [↓State.instant_blank, ↓State.stopLoad_blank, ↓State.ite_blank, ite_self, h_clk, h_hrg, h_img]

end

end Sys2Proof.Machine
end

