-- ==== Sys2Proof/Laws/KeepMemory.lean ====
section
/-! SUPPORT. What the operations and commands of Machine/Memory.lean leave unchanged. -/

set_option linter.unusedSimpArgs false

namespace Sys2Proof.Machine
open Sys2Proof

section
variable {msk : Part → Bool}

theorem State.takeMemTest_blank (h_hrg : msk .hrg = true) (h_mem : msk .mem = true) (w : Waiting) (target form : Nat) (s : State) : (State.takeMemTest w target form s).blank msk = s.blank msk := by
  simp only [State.takeMemTest, ↓State.refuse_blank, ↓State.withMem_blank, ↓State.ite_blank, ite_self, h_hrg, h_mem]

theorem State.uncorrectable_blank (h_evt : msk .evt = true) (h_ctrs : msk .ctrs = true) (h_mem : msk .mem = true) (site : EccSite) (s : State) : (State.uncorrectable site s).blank msk = s.blank msk := by
  unfold State.uncorrectable
  repeat' (first | with_reducible rfl | assumption | simp only [↓State.count_blank, ↓State.raise_blank, ↓State.withMem_blank, ↓State.ite_blank, ite_self, h_evt, h_ctrs, h_mem, ↓State.foldl_blank, implies_true, forall_const] | split | intro _)

theorem State.bankFailed_blank (h_evt : msk .evt = true) (h_ctrs : msk .ctrs = true) (h_mem : msk .mem = true) (b : Nat) (s : State) : (State.bankFailed b s).blank msk = s.blank msk := by
  simp only [State.bankFailed, ↓State.raise_blank, ↓State.withMem_blank, ↓State.ite_blank, ite_self, h_evt, h_ctrs, h_mem]

theorem State.abortSlice_blank (h_evt : msk .evt = true) (h_ctrs : msk .ctrs = true) (h_mem : msk .mem = true) (s : State) : (State.abortSlice s).blank msk = s.blank msk := by
  simp only [State.abortSlice, ↓State.count_blank, ↓State.withMem_blank, ↓State.ite_blank, ite_self, Mem.backSlice_sram, Mem.backSlice_mortar, h_evt, h_ctrs, h_mem]

theorem State.endOldDma_blank (h_evt : msk .evt = true) (h_hrg : msk .hrg = true) (h_img : msk .img = true) (h_gns : msk .gns = true) (h_ctrs : msk .ctrs = true) (bs : List Nat) (s : State) : (State.endOldDma bs s).blank msk = s.blank msk := by
  unfold State.endOldDma
  repeat' (first | with_reducible rfl | assumption | simp only [↓State.complete_blank, ↓State.count_blank, ↓State.endLoad_blank, ↓State.raise_blank, ↓State.withGns_blank, ↓State.ite_blank, ite_self, h_evt, h_hrg, h_img, h_gns, h_ctrs, ↓State.foldl_blank, implies_true, forall_const] | split | intro _)

theorem execBankHandover_blank (h_clk : msk .clk = true) (h_evt : msk .evt = true) (h_hrg : msk .hrg = true) (h_img : msk .img = true) (h_gns : msk .gns = true) (h_ctrs : msk .ctrs = true) (h_mem : msk .mem = true) (t writer bank owner : Nat) (s : State) {t' : State} (h : execBankHandover t writer bank owner s = .next t') : t'.blank msk = s.blank msk := by
  simp only [execBankHandover, Host.Outcome.next.injEq] at h
  subst h
  simp only [↓State.abortSlice_blank, ↓State.count_blank, ↓State.endOldDma_blank, ↓State.instant_blank, ↓State.raise_blank, ↓State.wakeBank_blank, ↓State.whileRunning_blank, ↓State.withMem_blank, ↓State.ite_blank, ite_self, h_clk, h_evt, h_hrg, h_img, h_gns, h_ctrs, h_mem, ↓State.foldl_blank, implies_true, forall_const]

theorem execBankWake_blank (h_clk : msk .clk = true) (h_evt : msk .evt = true) (h_ctrs : msk .ctrs = true) (h_mem : msk .mem = true) (t bank : Nat) (s : State) {t' : State} (h : execBankWake t bank s = .next t') : t'.blank msk = s.blank msk := by
  simp only [execBankWake, Host.Outcome.next.injEq] at h
  subst h
  simp only [↓State.instant_blank, ↓State.wakeBank_blank, ↓State.ite_blank, ite_self, h_clk, h_evt, h_ctrs, h_mem]

theorem execMarchSliceAbort_blank (h_clk : msk .clk = true) (h_evt : msk .evt = true) (h_ctrs : msk .ctrs = true) (h_mem : msk .mem = true) (t bank window : Nat) (s : State) {t' : State} (h : execMarchSliceAbort t bank window s = .next t') : t'.blank msk = s.blank msk := by
  simp only [execMarchSliceAbort, Host.Outcome.next.injEq] at h
  subst h
  simp only [↓State.abortSlice_blank, ↓State.instant_blank, ↓State.ite_blank, ite_self, h_clk, h_evt, h_ctrs, h_mem]

theorem execMarchPassOverdue_blank (h_clk : msk .clk = true) (h_evt : msk .evt = true) (h_ctrs : msk .ctrs = true) (t bank : Nat) (s : State) {t' : State} (h : execMarchPassOverdue t bank s = .next t') : t'.blank msk = s.blank msk := by
  simp only [execMarchPassOverdue, Host.Outcome.next.injEq] at h
  subst h
  simp only [↓State.instant_blank, ↓State.raise_blank, ↓State.ite_blank, ite_self, h_clk, h_evt, h_ctrs]

theorem execMarch_blank (h_clk : msk .clk = true) (h_crs : msk .crs = true) (h_evt : msk .evt = true) (h_ctrs : msk .ctrs = true) (h_mem : msk .mem = true) (t : Nat) (failed : Bool) (s : State) {t' : State} (h : execMarch t failed s = .next t') : t'.blank msk = s.blank msk := by
  unfold execMarch at h
  injection h with h
  subst h
  refine State.runService_blank h_clk h_crs 0x2A t _ s ?_
  intro s
  dsimp only
  have keep : ∀ (b : Bool) (k : Nat), (if b then s.bankFailed k else s).blank msk = s.blank msk := by
    intro b k
    split
    · exact State.bankFailed_blank h_evt h_ctrs h_mem _ _
    · rfl
  repeat' split
  all_goals first
    | rfl
    | simp only [↓State.withMem_blank, ↓State.bankFailed_blank, ↓State.wakeBank_blank, Mem.afterSlice_sram, Mem.afterSlice_mortar, State.withMem, h_clk, h_crs, h_evt, h_ctrs, h_mem]

theorem State.corrected_blank (h_evt : msk .evt = true) (h_ctrs : msk .ctrs = true) (h_mem : msk .mem = true) (s : State) : (State.corrected s).blank msk = s.blank msk := by
  unfold State.corrected
  repeat' (first | with_reducible rfl | assumption | simp only [↓State.count_blank, ↓State.raise_blank, ↓State.withMem_blank, ↓State.ite_blank, ite_self, h_evt, h_ctrs, h_mem, ↓State.foldl_blank, implies_true, forall_const] | split | intro _)

theorem execScrubberRead_blank (h_clk : msk .clk = true) (h_evt : msk .evt = true) (h_ctrs : msk .ctrs = true) (h_mem : msk .mem = true) (t : Nat) (site : EccSite) (errors : Nat) (s : State) {t' : State} (h : execScrubberRead t site errors s = .next t') : t'.blank msk = s.blank msk := by
  simp only [execScrubberRead, Host.Outcome.next.injEq] at h
  subst h
  simp only [↓State.corrected_blank, ↓State.instant_blank, ↓State.uncorrectable_blank, ↓State.ite_blank, ite_self, h_clk, h_evt, h_ctrs, h_mem]

theorem State.mortarWrite_blank (h_cells : msk .cells = true) (h_mem : msk .mem = true) (a : Nat) (ws : List (BitVec 64)) (s : State) : (State.mortarWrite a ws s).blank msk = s.blank msk := by
  simp only [State.mortarWrite, ↓State.withMem_blank_cells, ↓State.ite_blank, ite_self, h_cells, h_mem, ↓State.foldl_blank, implies_true, forall_const]

theorem execMortarWriteCollision_blank (h_clk : msk .clk = true) (h_evt : msk .evt = true) (h_hrg : msk .hrg = true) (h_img : msk .img = true) (h_ctrs : msk .ctrs = true) (h_rdn : msk .rdn = true) (h_cells : msk .cells = true) (h_mem : msk .mem = true) (t ring start : Nat) (x : MortarXfer) (v0 : BitVec 64) (again : Bool) (s : State) {t' : State} (h : execMortarWriteCollision t ring start x v0 again s = .next t') : t'.blank msk = s.blank msk := by
  simp only [execMortarWriteCollision, Host.Outcome.next.injEq] at h
  subst h
  simp only [↓State.bufferLost_blank, ↓State.count_blank, ↓State.instant_blank, ↓State.mortarWrite_blank, ↓State.raise_blank, ↓State.ite_blank, ite_self, h_clk, h_evt, h_hrg, h_img, h_ctrs, h_rdn, h_cells, h_mem]

theorem execMemBankSelWrite_blank (h_evt : msk .evt = true) (h_ctrs : msk .ctrs = true) (h_mem : msk .mem = true) (w : Word) (s : State) {t' : State} (h : execMemBankSelWrite w s = .next t') : t'.blank msk = s.blank msk := by
  simp only [execMemBankSelWrite, Host.Outcome.next.injEq] at h
  subst h
  simp only [↓State.barWrite_blank, ↓State.withMem_blank, ↓State.ite_blank, ite_self, h_evt, h_ctrs, h_mem, ↓State.foldl_blank, implies_true, forall_const]

theorem execMemTestDone_blank (h_clk : msk .clk = true) (h_evt : msk .evt = true) (h_hrg : msk .hrg = true) (h_ctrs : msk .ctrs = true) (h_cells : msk .cells = true) (h_mem : msk .mem = true) (t : Nat) (fin : MemTestEnd) (s : State) {t' : State} (h : execMemTestDone t fin s = .next t') : t'.blank msk = s.blank msk := by
  unfold execMemTestDone at h
  injection h with h
  subst h
  repeat' (first | with_reducible rfl | assumption | simp only [↓State.bankFailed_blank, ↓State.complete_blank, ↓State.instant_blank, ↓State.raise_blank, ↓State.whileRunning_blank, ↓State.withMem_blank_cells, ↓State.ite_blank, ite_self, Mem.endTest_sram, Mem.endTest_mortar, h_clk, h_evt, h_hrg, h_ctrs, h_cells, h_mem, ↓State.foldl_blank, implies_true, forall_const] | rw [State.whileRunning_blank] | split | intro _)

end

end Sys2Proof.Machine
end

