-- ==== Sys2Proof/Laws/KeepRecorder.lean ====
section
/-! SUPPORT. What the operations and commands of Machine/Recorder.lean leave unchanged. -/

set_option linter.unusedSimpArgs false

namespace Sys2Proof.Machine
open Sys2Proof

section
variable {msk : Part → Bool}

theorem State.takeLogRead_blank (h_hrg : msk .hrg = true) (h_log : msk .log = true) (w : Waiting) (first : Word) (count : Nat) (s : State) : (State.takeLogRead w first count s).blank msk = s.blank msk := by
  simp only [State.takeLogRead, ↓State.done_blank, ↓State.refuse_blank, ↓State.withHrg_blank, ↓State.withLog_blank, ↓State.ite_blank, ite_self, h_hrg, h_log]

theorem State.foundCheck_blank (h_evt : msk .evt = true) (h_ctrs : msk .ctrs = true) (h_log : msk .log = true) (q : Word) (s : State) : (State.foundCheck q s).blank msk = s.blank msk := by
  simp only [State.foundCheck, ↓State.raise_blank, ↓State.withLog_blank, ↓State.ite_blank, ite_self, h_evt, h_ctrs, h_log]

theorem State.logFails_blank (h_evt : msk .evt = true) (h_ctrs : msk .ctrs = true) (h_log : msk .log = true) (s : State) : (State.logFails s).blank msk = s.blank msk := by
  simp only [State.logFails, ↓State.count_blank, ↓State.foundCheck_blank, ↓State.raise_blank, ↓State.withLog_blank, ↓State.ite_blank, ite_self, h_evt, h_ctrs, h_log, ↓State.foldl_blank, implies_true, forall_const]

theorem State.fillLogRead_blank (h_evt : msk .evt = true) (h_hrg : msk .hrg = true) (h_ctrs : msk .ctrs = true) (h_log : msk .log = true) (how : LogEnd) (s : State) : (State.fillLogRead how s).blank msk = s.blank msk := by
  unfold State.fillLogRead
  repeat' (first | with_reducible rfl | assumption | simp only [↓State.countN_blank, ↓State.logFails_blank, ↓State.withHrg_blank, ↓State.withLog_blank, ↓State.ite_blank, ite_self, h_evt, h_hrg, h_ctrs, h_log, ↓State.foldl_blank, implies_true, forall_const] | split | intro _)

theorem State.formRecords_blank (h_evt : msk .evt = true) (h_log : msk .log = true) (s : State) : (State.formRecords s).blank msk = s.blank msk := by
  simp only [State.formRecords, ↓State.withEvt_blank, ↓State.withLog_blank, ↓State.ite_blank, ite_self, h_evt, h_log]

theorem State.markCount_blank (h_evt : msk .evt = true) (h_ctrs : msk .ctrs = true) (h_log : msk .log = true) (x : Log) (s : State) : (State.markCount x s).blank msk = s.blank msk := by
  simp only [State.markCount, ↓State.raise_blank, ↓State.withLog_blank, ↓State.ite_blank, ite_self, h_evt, h_ctrs, h_log]

theorem State.saveMark_blank (h_mem : msk .mem = true) (s : State) : (State.saveMark s).blank msk = s.blank msk := by
  simp only [State.saveMark, ↓State.withMem_blank, ↓State.ite_blank, ite_self, h_mem]

theorem State.startProgram_blank (h_log : msk .log = true) (s : State) : (State.startProgram s).blank msk = s.blank msk := by
  simp only [State.startProgram, ↓State.withLog_blank, ↓State.ite_blank, ite_self, h_log]

theorem execRecorder_blank (h_clk : msk .clk = true) (h_crs : msk .crs = true) (h_evt : msk .evt = true) (h_log : msk .log = true) (t : Nat) (s : State) {t' : State} (h : execRecorder t s = .next t') : t'.blank msk = s.blank msk := by
  simp only [execRecorder, Host.Outcome.next.injEq] at h
  subst h
  simp only [↓State.formRecords_blank, ↓State.runService_blank, ↓State.startProgram_blank, ↓State.ite_blank, ite_self, h_clk, h_crs, h_evt, h_log, ↓State.foldl_blank, implies_true, forall_const]

theorem execLogProgramDone_blank (h_clk : msk .clk = true) (h_evt : msk .evt = true) (h_ctrs : msk .ctrs = true) (h_log : msk .log = true) (t : Nat) (how : LogEnd) (s : State) {t' : State} (h : execLogProgramDone t how s = .next t') : t'.blank msk = s.blank msk := by
  unfold execLogProgramDone at h
  injection h with h
  subst h
  repeat' (first | with_reducible rfl | assumption | simp only [↓State.count_blank, ↓State.foundCheck_blank, ↓State.instant_blank, ↓State.logFails_blank, ↓State.raise_blank, ↓State.withLog_blank, ↓State.ite_blank, ite_self, h_clk, h_evt, h_ctrs, h_log, ↓State.foldl_blank, implies_true, forall_const] | split | intro _)

theorem execLogEraseDone_blank (h_clk : msk .clk = true) (h_evt : msk .evt = true) (h_ctrs : msk .ctrs = true) (h_log : msk .log = true) (t : Nat) (how : LogEnd) (s : State) {t' : State} (h : execLogEraseDone t how s = .next t') : t'.blank msk = s.blank msk := by
  unfold execLogEraseDone at h
  injection h with h
  subst h
  repeat' (first | with_reducible rfl | assumption | simp only [↓State.instant_blank, ↓State.logFails_blank, ↓State.withLog_blank, ↓State.ite_blank, ite_self, h_clk, h_evt, h_ctrs, h_log, ↓State.foldl_blank, implies_true, forall_const] | split | intro _)

theorem State.startRecord_blank (h_log : msk .log = true) (gaps : List LogRec) (s : State) : (State.startRecord gaps s).blank msk = s.blank msk := by
  simp only [State.startRecord, ↓State.withLog_blank, ↓State.ite_blank, ite_self, h_log]

theorem State.identified_blank (h_evt : msk .evt = true) (h_ctrs : msk .ctrs = true) (h_cfg : msk .cfg = true) (h_log : msk .log = true) (d : LogDev) (s : State) : (State.identified d s).blank msk = s.blank msk := by
  unfold State.identified
  repeat' (first | with_reducible rfl | assumption | simp only [↓State.foundCheck_blank, ↓State.markCount_blank, ↓State.raise_blank, ↓State.startRecord_blank, ↓State.takeCfg_blank, ↓State.withLog_blank, ↓State.ite_blank, ite_self, h_evt, h_ctrs, h_cfg, h_log, ↓State.foldl_blank, implies_true, forall_const] | split | intro _)

theorem execLogIdentify_blank (h_clk : msk .clk = true) (h_evt : msk .evt = true) (h_ctrs : msk .ctrs = true) (h_cfg : msk .cfg = true) (h_log : msk .log = true) (t : Nat) (dev : Option LogDev) (s : State) {t' : State} (h : execLogIdentify t dev s = .next t') : t'.blank msk = s.blank msk := by
  unfold execLogIdentify at h
  injection h with h
  subst h
  repeat' (first | with_reducible rfl | assumption | simp only [↓State.identified_blank, ↓State.instant_blank, ↓State.takeCfg_blank, ↓State.whileRunning_blank, ↓State.withLog_blank, ↓State.ite_blank, ite_self, h_clk, h_evt, h_ctrs, h_cfg, h_log, ↓State.foldl_blank, implies_true, forall_const] | rw [State.whileRunning_blank] | split | intro _)

theorem execLogReidentify_blank (h_clk : msk .clk = true) (h_evt : msk .evt = true) (h_ctrs : msk .ctrs = true) (h_cfg : msk .cfg = true) (h_log : msk .log = true) (t : Nat) (dev : Option LogDev) (s : State) {t' : State} (h : execLogReidentify t dev s = .next t') : t'.blank msk = s.blank msk := by
  unfold execLogReidentify at h
  injection h with h
  subst h
  repeat' (first | with_reducible rfl | assumption | simp only [↓State.identified_blank, ↓State.instant_blank, ↓State.raise_blank, ↓State.takeCfg_blank, ↓State.whileRunning_blank, ↓State.withLog_blank, ↓State.ite_blank, ite_self, h_clk, h_evt, h_ctrs, h_cfg, h_log, ↓State.foldl_blank, implies_true, forall_const] | rw [State.whileRunning_blank] | split | intro _)

theorem execLogFormat_blank (h_clk : msk .clk = true) (h_evt : msk .evt = true) (h_ctrs : msk .ctrs = true) (h_log : msk .log = true) (t : Nat) (w : Word) (s : State) {t' : State} (h : execLogFormat t w s = .next t') : t'.blank msk = s.blank msk := by
  simp only [execLogFormat, Host.Outcome.next.injEq] at h
  subst h
  simp only [↓State.barWrite_blank, ↓State.instant_blank, ↓State.raise_blank, ↓State.startRecord_blank, ↓State.withLog_blank, ↓State.ite_blank, ite_self, h_clk, h_evt, h_ctrs, h_log, ↓State.foldl_blank, implies_true, forall_const]

theorem execMasonMarkSave_blank (h_clk : msk .clk = true) (h_mem : msk .mem = true) (t : Nat) (s : State) {t' : State} (h : execMasonMarkSave t s = .next t') : t'.blank msk = s.blank msk := by
  simp only [execMasonMarkSave, Host.Outcome.next.injEq] at h
  subst h
  simp only [↓State.instant_blank, ↓State.saveMark_blank, ↓State.whileRunning_blank, ↓State.ite_blank, ite_self, h_clk, h_mem, ↓State.foldl_blank, implies_true, forall_const]

theorem State.logPowered_blank (h_evt : msk .evt = true) (h_ctrs : msk .ctrs = true) (h_log : msk .log = true) (ns : Nat) (s : State) : (State.logPowered ns s).blank msk = s.blank msk := by
  simp only [State.logPowered, ↓State.markCount_blank, ↓State.ite_blank, ite_self, h_evt, h_ctrs, h_log]

end

end Sys2Proof.Machine
end

