-- ==== Sys2Proof/Laws/KeepClaims.lean ====
section
/-! SUPPORT. What the operations and commands of Machine/Claims.lean leave unchanged. -/

set_option linter.unusedSimpArgs false

namespace Sys2Proof.Machine
open Sys2Proof

section
variable {msk : Part → Bool}

theorem State.endExchange_blank (h_hrg : msk .hrg = true) (h_rdn : msk .rdn = true) (good : Bool) (s : State) : (State.endExchange good s).blank msk = s.blank msk := by
  simp only [State.endExchange, ↓State.complete_blank, ↓State.withRdn_blank, ↓State.ite_blank, ite_self, h_hrg, h_rdn, ↓State.foldl_blank, implies_true, forall_const]

theorem State.abandonExchange_blank (h_evt : msk .evt = true) (h_hrg : msk .hrg = true) (h_ctrs : msk .ctrs = true) (h_rdn : msk .rdn = true) (s : State) : (State.abandonExchange s).blank msk = s.blank msk := by
  simp only [State.abandonExchange, ↓State.endExchange_blank, ↓State.raise_blank, ↓State.ite_blank, ite_self, h_evt, h_hrg, h_ctrs, h_rdn]

theorem State.checkResume_blank (h_rdn : msk .rdn = true) (s : State) : (State.checkResume s).blank msk = s.blank msk := by
  unfold State.checkResume
  repeat' (first | with_reducible rfl | assumption | simp only [↓State.withRdn_blank, ↓State.ite_blank, ite_self, h_rdn, ↓State.foldl_blank, implies_true, forall_const] | split | intro _)

theorem State.countResume_blank (h_rdn : msk .rdn = true) (s : State) : (State.countResume s).blank msk = s.blank msk := by
  unfold State.countResume
  repeat' (first | with_reducible rfl | assumption | simp only [↓State.withRdn_blank, ↓State.ite_blank, ite_self, h_rdn, ↓State.foldl_blank, implies_true, forall_const] | split | intro _)

theorem State.takeResume_blank (h_hrg : msk .hrg = true) (h_rdn : msk .rdn = true) (w : Waiting) (s : State) : (State.takeResume w s).blank msk = s.blank msk := by
  simp only [State.takeResume, ↓State.done_blank, ↓State.withRdn_blank, ↓State.ite_blank, ite_self, h_hrg, h_rdn]

theorem State.becomeReady_blank (h_crs : msk .crs = true) (h_rdn : msk .rdn = true) (s : State) : (State.becomeReady s).blank msk = s.blank msk := by
  simp only [State.becomeReady, ↓State.withCrs_blank, ↓State.withRdn_blank, ↓State.ite_blank, ite_self, h_crs, h_rdn]

theorem State.noteReady_blank (h_crs : msk .crs = true) (h_rdn : msk .rdn = true) (s : State) : (State.noteReady s).blank msk = s.blank msk := by
  simp only [State.noteReady, ↓State.becomeReady_blank, ↓State.withRdn_blank, ↓State.ite_blank, ite_self, h_crs, h_rdn]

theorem State.evalHealth_blank (h_evt : msk .evt = true) (h_ctrs : msk .ctrs = true) (h_rdn : msk .rdn = true) (s : State) : (State.evalHealth s).blank msk = s.blank msk := by
  simp only [State.evalHealth, ↓State.raise_blank, ↓State.withRdn_blank, ↓State.ite_blank, ite_self, h_evt, h_ctrs, h_rdn]

theorem State.evalClaim_blank (h_crs : msk .crs = true) (h_evt : msk .evt = true) (h_ctrs : msk .ctrs = true) (h_rdn : msk .rdn = true) (s : State) : (State.evalClaim s).blank msk = s.blank msk := by
  simp only [State.evalClaim, ↓State.checkResume_blank, ↓State.evalHealth_blank, ↓State.noteReady_blank, ↓State.setRole_blank, ↓State.withRdn_blank, ↓State.ite_blank, ite_self, h_crs, h_evt, h_ctrs, h_rdn]

theorem State.ksNet_blank (h_evt : msk .evt = true) (h_ctrs : msk .ctrs = true) (h_rdn : msk .rdn = true) (h_outbox : msk .outbox = true) (k : KsFrame) (full n : Nat) (s : State) : (State.ksNet k full n s).blank msk = s.blank msk := by
  simp only [State.ksNet, ↓State.emit_blank, ↓State.sendFail_blank, ↓State.ite_blank, ite_self, h_evt, h_ctrs, h_rdn, h_outbox]

theorem State.sendKeystone_blank (h_evt : msk .evt = true) (h_ctrs : msk .ctrs = true) (h_rdn : msk .rdn = true) (h_can : msk .can = true) (h_outbox : msk .outbox = true) (k : KsFrame) (full : Nat) (s : State) : (State.sendKeystone k full s).blank msk = s.blank msk := by
  simp only [State.sendKeystone, ↓State.canKeystone_blank, ↓State.ksNet_blank, ↓State.withRdn_blank, ↓State.ite_blank, ite_self, h_evt, h_ctrs, h_rdn, h_can, h_outbox]

theorem State.generate_blank (h_evt : msk .evt = true) (h_ctrs : msk .ctrs = true) (h_rdn : msk .rdn = true) (h_can : msk .can = true) (h_outbox : msk .outbox = true) (full : Nat) (s : State) : (State.generate full s).blank msk = s.blank msk := by
  unfold State.generate
  repeat' (first | with_reducible rfl | assumption | simp only [↓State.count_blank, ↓State.raise_blank, ↓State.sendKeystone_blank, ↓State.withRdn_blank, ↓State.ite_blank, ite_self, h_evt, h_ctrs, h_rdn, h_can, h_outbox, ↓State.foldl_blank, implies_true, forall_const] | split | intro _)

theorem State.exchangeRoles_blank (h_evt : msk .evt = true) (h_hrg : msk .hrg = true) (h_ctrs : msk .ctrs = true) (h_rdn : msk .rdn = true) (s : State) : (State.exchangeRoles s).blank msk = s.blank msk := by
  simp only [State.exchangeRoles, ↓State.endExchange_blank, ↓State.raise_blank, ↓State.setRole_blank, ↓State.withRdn_blank, ↓State.ite_blank, ite_self, h_evt, h_hrg, h_ctrs, h_rdn]

theorem State.takeOver_blank (h_evt : msk .evt = true) (h_ctrs : msk .ctrs = true) (h_rdn : msk .rdn = true) (s : State) : (State.takeOver s).blank msk = s.blank msk := by
  simp only [State.takeOver, ↓State.count_blank, ↓State.setRole_blank, ↓State.withRdn_blank, ↓State.ite_blank, ite_self, h_evt, h_ctrs, h_rdn]

theorem State.checkStandby_blank (h_evt : msk .evt = true) (h_ctrs : msk .ctrs = true) (h_rdn : msk .rdn = true) (s : State) : (State.checkStandby s).blank msk = s.blank msk := by
  simp only [State.checkStandby, ↓State.raise_blank, ↓State.withRdn_blank, ↓State.ite_blank, ite_self, h_evt, h_ctrs, h_rdn]

theorem State.keystone_blank (h_crs : msk .crs = true) (h_evt : msk .evt = true) (h_hrg : msk .hrg = true) (h_ctrs : msk .ctrs = true) (h_rdn : msk .rdn = true) (h_can : msk .can = true) (h_outbox : msk .outbox = true) (full : Nat) (s : State) : (State.keystone full s).blank msk = s.blank msk := by
  simp only [State.keystone, ↓State.checkStandby_blank, ↓State.evalClaim_blank, ↓State.exchangeRoles_blank, ↓State.generate_blank, ↓State.sendKeystone_blank, ↓State.takeOver_blank, ↓State.ite_blank, ite_self, h_crs, h_evt, h_hrg, h_ctrs, h_rdn, h_can, h_outbox]

theorem execKeystone_blank (h_clk : msk .clk = true) (h_crs : msk .crs = true) (h_evt : msk .evt = true) (h_hrg : msk .hrg = true) (h_ctrs : msk .ctrs = true) (h_rdn : msk .rdn = true) (h_can : msk .can = true) (h_outbox : msk .outbox = true) (t : Nat) (full : Nat) (s : State) {t' : State} (h : execKeystone t full s = .next t') : t'.blank msk = s.blank msk := by
  simp only [execKeystone, Host.Outcome.next.injEq] at h
  subst h
  simp only [↓State.keystone_blank, ↓State.runItem_blank, ↓State.ite_blank, ite_self, h_clk, h_crs, h_evt, h_hrg, h_ctrs, h_rdn, h_can, h_outbox, ↓State.foldl_blank, implies_true, forall_const]

theorem State.keystoneMissed_blank (h_clk : msk .clk = true) (h_crs : msk .crs = true) (h_evt : msk .evt = true) (h_ctrs : msk .ctrs = true) (h_rdn : msk .rdn = true) (h_can : msk .can = true) (h_ylk : msk .ylk = true) (h_outbox : msk .outbox = true) (s : State) : (State.keystoneMissed s).blank msk = s.blank msk := by
  simp only [State.keystoneMissed, ↓State.generate_blank, ↓State.missItem_blank, ↓State.ite_blank, ite_self, h_clk, h_crs, h_evt, h_ctrs, h_rdn, h_can, h_ylk, h_outbox]

theorem execReadinessRegained_blank (h_clk : msk .clk = true) (h_crs : msk .crs = true) (h_rdn : msk .rdn = true) (t : Nat) (s : State) {t' : State} (h : execReadinessRegained t s = .next t') : t'.blank msk = s.blank msk := by
  simp only [execReadinessRegained, Host.Outcome.next.injEq] at h
  subst h
  simp only [↓State.checkResume_blank, ↓State.instant_blank, ↓State.noteReady_blank, ↓State.whileRunning_blank, ↓State.ite_blank, ite_self, h_clk, h_crs, h_rdn, ↓State.foldl_blank, implies_true, forall_const]

theorem State.setFeed_blank (h_rdn : msk .rdn = true) (h_pwr : msk .pwr = true) (feed mv : Nat) (s : State) : (State.setFeed feed mv s).blank msk = s.blank msk := by
  simp only [State.setFeed, ↓State.withPwr_blank, ↓State.withRdn_blank, ↓State.ite_blank, ite_self, h_rdn, h_pwr]

theorem execFeedOutOfRange_blank (h_clk : msk .clk = true) (h_evt : msk .evt = true) (h_ctrs : msk .ctrs = true) (h_rdn : msk .rdn = true) (h_pwr : msk .pwr = true) (t feed mv : Nat) (s : State) {t' : State} (h : execFeedOutOfRange t feed mv s = .next t') : t'.blank msk = s.blank msk := by
  simp only [execFeedOutOfRange, Host.Outcome.next.injEq] at h
  subst h
  simp only [↓State.instant_blank, ↓State.raise_blank, ↓State.setFeed_blank, ↓State.ite_blank, ite_self, h_clk, h_evt, h_ctrs, h_rdn, h_pwr]

theorem execFeedRestored_blank (h_clk : msk .clk = true) (h_evt : msk .evt = true) (h_ctrs : msk .ctrs = true) (h_rdn : msk .rdn = true) (h_pwr : msk .pwr = true) (t feed mv : Nat) (s : State) {t' : State} (h : execFeedRestored t feed mv s = .next t') : t'.blank msk = s.blank msk := by
  simp only [execFeedRestored, Host.Outcome.next.injEq] at h
  subst h
  simp only [↓State.instant_blank, ↓State.raise_blank, ↓State.setFeed_blank, ↓State.ite_blank, ite_self, h_clk, h_evt, h_ctrs, h_rdn, h_pwr]

end

end Sys2Proof.Machine
end

