-- ==== Sys2Proof/Laws/KeepRedundancy.lean ====
section
/-! SUPPORT. What the operations and commands of Machine/Redundancy.lean leave unchanged. -/

set_option linter.unusedSimpArgs false

namespace Sys2Proof.Machine
open Sys2Proof

section
variable {msk : Part → Bool}

theorem State.leavePaired_blank (h_evt : msk .evt = true) (h_hrg : msk .hrg = true) (h_ctrs : msk .ctrs = true) (h_rdn : msk .rdn = true) (s : State) : (State.leavePaired s).blank msk = s.blank msk := by
  simp only [State.leavePaired, ↓State.abandonExchange_blank, ↓State.refuse_blank, ↓State.withHrg_blank, ↓State.withRdn_blank, ↓State.ite_blank, ite_self, h_evt, h_hrg, h_ctrs, h_rdn, ↓State.foldl_blank, implies_true, forall_const]

theorem State.setPair_blank (h_evt : msk .evt = true) (h_hrg : msk .hrg = true) (h_pnt : msk .pnt = true) (h_ctrs : msk .ctrs = true) (h_rdn : msk .rdn = true) (n : Nat) (s : State) : (State.setPair n s).blank msk = s.blank msk := by
  simp only [State.setPair, ↓State.endView_blank, ↓State.leavePaired_blank, ↓State.raise_blank, ↓State.withRdn_blank, ↓State.ite_blank, ite_self, h_evt, h_hrg, h_pnt, h_ctrs, h_rdn]

theorem State.activatePair_blank (h_evt : msk .evt = true) (h_hrg : msk .hrg = true) (h_pnt : msk .pnt = true) (h_ctrs : msk .ctrs = true) (h_rdn : msk .rdn = true) (s : State) : (State.activatePair s).blank msk = s.blank msk := by
  simp only [State.activatePair, ↓State.setPair_blank, ↓State.ite_blank, ite_self, h_evt, h_hrg, h_pnt, h_ctrs, h_rdn]

theorem State.proposeExchange_blank (h_evt : msk .evt = true) (h_ctrs : msk .ctrs = true) (h_rdn : msk .rdn = true) (s : State) : (State.proposeExchange s).blank msk = s.blank msk := by
  simp only [State.proposeExchange, ↓State.raise_blank, ↓State.withRdn_blank, ↓State.ite_blank, ite_self, h_evt, h_ctrs, h_rdn]

theorem State.takeRoleExchange_blank (h_evt : msk .evt = true) (h_ctrs : msk .ctrs = true) (h_rdn : msk .rdn = true) (w : Waiting) (s : State) : (State.takeRoleExchange w s).blank msk = s.blank msk := by
  simp only [State.takeRoleExchange, ↓State.proposeExchange_blank, ↓State.withRdn_blank, ↓State.ite_blank, ite_self, h_evt, h_ctrs, h_rdn]

theorem State.yieldClaim_blank (h_clk : msk .clk = true) (h_evt : msk .evt = true) (h_hrg : msk .hrg = true) (h_pnt : msk .pnt = true) (h_ctrs : msk .ctrs = true) (h_rdn : msk .rdn = true) (h_ylk : msk .ylk = true) (h_outbox : msk .outbox = true) (s : State) : (State.yieldClaim s).blank msk = s.blank msk := by
  simp only [State.yieldClaim, ↓State.sendYield_blank, ↓State.setPair_blank, ↓State.setRole_blank, ↓State.ite_blank, ite_self, h_clk, h_evt, h_hrg, h_pnt, h_ctrs, h_rdn, h_ylk, h_outbox]

theorem State.notePartner_blank (h_clk : msk .clk = true) (h_evt : msk .evt = true) (h_hrg : msk .hrg = true) (h_pnt : msk .pnt = true) (h_ctrs : msk .ctrs = true) (h_rdn : msk .rdn = true) (h_ylk : msk .ylk = true) (h_outbox : msk .outbox = true) (m : PairMsg) (s : State) : (State.notePartner m s).blank msk = s.blank msk := by
  simp only [State.notePartner, ↓State.raise_blank, ↓State.yieldClaim_blank, ↓State.withRdn_blank, ↓State.ite_blank, ite_self, h_clk, h_evt, h_hrg, h_pnt, h_ctrs, h_rdn, h_ylk, h_outbox]

theorem State.pairCommand_blank (h_clk : msk .clk = true) (h_evt : msk .evt = true) (h_ctrs : msk .ctrs = true) (h_rdn : msk .rdn = true) (h_can : msk .can = true) (b : List Byte) (s : State) : (State.pairCommand b s).blank msk = s.blank msk := by
  unfold State.pairCommand
  repeat' (first | with_reducible rfl | assumption | simp only [↓State.useFree_blank, ↓State.withRdn_blank, ↓State.ite_blank, ite_self, h_clk, h_evt, h_ctrs, h_rdn, h_can, ↓State.foldl_blank, implies_true, forall_const] | split | intro _)

theorem execPairMessageRx_blank (h_clk : msk .clk = true) (h_evt : msk .evt = true) (h_hrg : msk .hrg = true) (h_pnt : msk .pnt = true) (h_ctrs : msk .ctrs = true) (h_rdn : msk .rdn = true) (h_can : msk .can = true) (h_ylk : msk .ylk = true) (h_outbox : msk .outbox = true) (t : Nat) (hd : LinkHdr) (bytes : List Byte) (s : State) {t' : State} (h : execPairMessageRx t hd bytes s = .next t') : t'.blank msk = s.blank msk := by
  unfold execPairMessageRx at h
  injection h with h
  subst h
  repeat' (first | with_reducible rfl | assumption | simp only [↓State.instant_blank, ↓State.linkTake_blank, ↓State.notePartner_blank, ↓State.pairCommand_blank, ↓State.whileRunning_blank, ↓State.withRdn_blank, ↓State.ite_blank, ite_self, h_clk, h_evt, h_hrg, h_pnt, h_ctrs, h_rdn, h_can, h_ylk, h_outbox, ↓State.foldl_blank, implies_true, forall_const] | rw [State.linkTake_blank] | rw [State.whileRunning_blank] | split | intro _)

theorem execHeartbeatRx_blank (h_clk : msk .clk = true) (h_evt : msk .evt = true) (h_hrg : msk .hrg = true) (h_pnt : msk .pnt = true) (h_ctrs : msk .ctrs = true) (h_rdn : msk .rdn = true) (h_ylk : msk .ylk = true) (h_outbox : msk .outbox = true) (t : Nat) (port : Port) (bytes : List Byte) (s : State) {t' : State} (h : execHeartbeatRx t port bytes s = .next t') : t'.blank msk = s.blank msk := by
  simp only [execHeartbeatRx, Host.Outcome.next.injEq] at h
  subst h
  simp only [↓State.instant_blank, ↓State.notePartner_blank, ↓State.whileRunning_blank, ↓State.withRdn_blank, ↓State.ite_blank, ite_self, h_clk, h_evt, h_hrg, h_pnt, h_ctrs, h_rdn, h_ylk, h_outbox, ↓State.foldl_blank, implies_true, forall_const]

theorem execUrgentYieldRx_blank (h_clk : msk .clk = true) (h_evt : msk .evt = true) (h_ctrs : msk .ctrs = true) (h_rdn : msk .rdn = true) (h_ylk : msk .ylk = true) (h_outbox : msk .outbox = true) (t : Nat) (hd : LinkHdr) (bytes : List Byte) (s : State) {t' : State} (h : execUrgentYieldRx t hd bytes s = .next t') : t'.blank msk = s.blank msk := by
  unfold execUrgentYieldRx at h
  injection h with h
  subst h
  repeat' (first | with_reducible rfl | assumption | simp only [↓State.instant_blank, ↓State.linkTake_blank, ↓State.whileRunning_blank, ↓State.withRdn_blank, ↓State.ite_blank, ite_self, h_clk, h_evt, h_ctrs, h_rdn, h_ylk, h_outbox, ↓State.foldl_blank, implies_true, forall_const] | rw [State.linkTake_blank] | rw [State.whileRunning_blank] | split | intro _)

theorem execRemovalMaskRx_blank (h_clk : msk .clk = true) (h_evt : msk .evt = true) (h_ctrs : msk .ctrs = true) (h_rdn : msk .rdn = true) (h_ylk : msk .ylk = true) (h_outbox : msk .outbox = true) (t : Nat) (hd : LinkHdr) (bytes : List Byte) (s : State) {t' : State} (h : execRemovalMaskRx t hd bytes s = .next t') : t'.blank msk = s.blank msk := by
  unfold execRemovalMaskRx at h
  injection h with h
  subst h
  repeat' (first | with_reducible rfl | assumption | simp only [↓State.instant_blank, ↓State.linkTake_blank, ↓State.whileRunning_blank, ↓State.withRdn_blank, ↓State.ite_blank, ite_self, h_clk, h_evt, h_ctrs, h_rdn, h_ylk, h_outbox, ↓State.foldl_blank, implies_true, forall_const] | rw [State.linkTake_blank] | rw [State.whileRunning_blank] | split | intro _)

theorem State.sendCmds_blank (h_rdn : msk .rdn = true) (ws : List Waiting) (s : State) : (State.sendCmds ws s).blank msk = s.blank msk := by
  simp only [State.sendCmds, ↓State.withRdn_blank, ↓State.ite_blank, ite_self, h_rdn]

theorem State.heartbeat_blank (h_outbox : msk .outbox = true) (b : List Byte) (n : Nat) (s : State) : (State.heartbeat b n s).blank msk = s.blank msk := by
  simp only [State.heartbeat, ↓State.emit_blank, ↓State.ite_blank, ite_self, h_outbox]

theorem State.digestItem_blank (h_clk : msk .clk = true) (h_crs : msk .crs = true) (h_evt : msk .evt = true) (h_ctrs : msk .ctrs = true) (h_rdn : msk .rdn = true) (h_ylk : msk .ylk = true) (h_outbox : msk .outbox = true) (s : State) : (State.digestItem s).blank msk = s.blank msk := by
  simp only [State.digestItem, ↓State.evalClaim_blank, ↓State.heartbeat_blank, ↓State.sendCmds_blank, ↓State.sendLink_blank, ↓State.withRdn_blank, ↓State.ite_blank, ite_self, h_clk, h_crs, h_evt, h_ctrs, h_rdn, h_ylk, h_outbox]

theorem execDigest_blank (h_clk : msk .clk = true) (h_crs : msk .crs = true) (h_evt : msk .evt = true) (h_ctrs : msk .ctrs = true) (h_rdn : msk .rdn = true) (h_ylk : msk .ylk = true) (h_outbox : msk .outbox = true) (t : Nat) (s : State) {t' : State} (h : execDigest t s = .next t') : t'.blank msk = s.blank msk := by
  simp only [execDigest, Host.Outcome.next.injEq] at h
  subst h
  simp only [↓State.digestItem_blank, ↓State.instant_blank, ↓State.itemDone_blank, ↓State.whileRunning_blank, ↓State.ite_blank, ite_self, h_clk, h_crs, h_evt, h_ctrs, h_rdn, h_ylk, h_outbox, ↓State.foldl_blank, implies_true, forall_const]

theorem State.pathEvents_blank (h_evt : msk .evt = true) (h_ctrs : msk .ctrs = true) (h_rdn : msk .rdn = true) (s : State) : (State.pathEvents s).blank msk = s.blank msk := by
  simp only [State.pathEvents, ↓State.raise_blank, ↓State.withRdn_blank, ↓State.ite_blank, ite_self, h_evt, h_ctrs, h_rdn, ↓State.foldl_blank, implies_true, forall_const]

theorem State.partnerHeard_blank (h_rdn : msk .rdn = true) (s : State) : (State.partnerHeard s).blank msk = s.blank msk := by
  simp only [State.partnerHeard, ↓State.withRdn_blank, ↓State.ite_blank, ite_self, h_rdn]

theorem State.compareImage_blank (h_evt : msk .evt = true) (h_hrg : msk .hrg = true) (h_img : msk .img = true) (h_ctrs : msk .ctrs = true) (s : State) : (State.compareImage s).blank msk = s.blank msk := by
  unfold State.compareImage
  repeat' (first | with_reducible rfl | assumption | simp only [↓State.abandonActivation_blank, ↓State.ite_blank, ite_self, h_evt, h_hrg, h_img, h_ctrs, ↓State.foldl_blank, implies_true, forall_const] | split | intro _)

theorem State.expireForwarded_blank (h_hrg : msk .hrg = true) (h_rdn : msk .rdn = true) (s : State) : (State.expireForwarded s).blank msk = s.blank msk := by
  simp only [State.expireForwarded, ↓State.refuse_blank, ↓State.withRdn_blank, ↓State.ite_blank, ite_self, h_hrg, h_rdn, ↓State.foldl_blank, implies_true, forall_const]

theorem State.syncFail_blank (h_evt : msk .evt = true) (h_pnt : msk .pnt = true) (h_ctrs : msk .ctrs = true) (h_rdn : msk .rdn = true) (s : State) : (State.syncFail s).blank msk = s.blank msk := by
  simp only [State.syncFail, ↓State.count_blank, ↓State.endView_blank, ↓State.raise_blank, ↓State.withRdn_blank, ↓State.ite_blank, ite_self, h_evt, h_pnt, h_ctrs, h_rdn]

theorem State.syncDone_blank (h_crs : msk .crs = true) (h_evt : msk .evt = true) (h_ctrs : msk .ctrs = true) (h_rdn : msk .rdn = true) (s : State) : (State.syncDone s).blank msk = s.blank msk := by
  simp only [State.syncDone, ↓State.noteReady_blank, ↓State.setRole_blank, ↓State.withRdn_blank, ↓State.ite_blank, ite_self, h_crs, h_evt, h_ctrs, h_rdn]

theorem State.elect_blank (h_rdn : msk .rdn = true) (m : PairMsg) (s : State) : (State.elect m s).blank msk = s.blank msk := by
  simp only [State.elect, ↓State.withRdn_blank, ↓State.ite_blank, ite_self, h_rdn]

theorem State.exchangeStep_blank (h_evt : msk .evt = true) (h_hrg : msk .hrg = true) (h_ctrs : msk .ctrs = true) (h_rdn : msk .rdn = true) (m : PairMsg) (s : State) : (State.exchangeStep m s).blank msk = s.blank msk := by
  unfold State.exchangeStep
  repeat' (first | with_reducible rfl | assumption | simp only [↓State.abandonExchange_blank, ↓State.withRdn_blank, ↓State.ite_blank, ite_self, h_evt, h_hrg, h_ctrs, h_rdn, ↓State.foldl_blank, implies_true, forall_const] | split | intro _)

theorem State.inStep_blank (h_crs : msk .crs = true) (h_evt : msk .evt = true) (h_hrg : msk .hrg = true) (h_ctrs : msk .ctrs = true) (h_rdn : msk .rdn = true) (m : PairMsg) (s : State) : (State.inStep m s).blank msk = s.blank msk := by
  simp only [State.inStep, ↓State.elect_blank, ↓State.exchangeStep_blank, ↓State.syncDone_blank, ↓State.withRdn_blank, ↓State.ite_blank, ite_self, h_crs, h_evt, h_hrg, h_ctrs, h_rdn]

theorem State.outOfStep_blank (h_clk : msk .clk = true) (h_evt : msk .evt = true) (h_hrg : msk .hrg = true) (h_pnt : msk .pnt = true) (h_ctrs : msk .ctrs = true) (h_rdn : msk .rdn = true) (h_ylk : msk .ylk = true) (h_outbox : msk .outbox = true) (m : PairMsg) (s : State) : (State.outOfStep m s).blank msk = s.blank msk := by
  simp only [State.outOfStep, ↓State.count_blank, ↓State.raise_blank, ↓State.setPair_blank, ↓State.syncFail_blank, ↓State.yieldClaim_blank, ↓State.withRdn_blank, ↓State.ite_blank, ite_self, h_clk, h_evt, h_hrg, h_pnt, h_ctrs, h_rdn, h_ylk, h_outbox]

theorem State.messageMissing_blank (h_evt : msk .evt = true) (h_hrg : msk .hrg = true) (h_pnt : msk .pnt = true) (h_ctrs : msk .ctrs = true) (h_rdn : msk .rdn = true) (s : State) : (State.messageMissing s).blank msk = s.blank msk := by
  simp only [State.messageMissing, ↓State.count_blank, ↓State.setPair_blank, ↓State.syncFail_blank, ↓State.ite_blank, ite_self, h_evt, h_hrg, h_pnt, h_ctrs, h_rdn]

theorem State.joinPaired_blank (h_evt : msk .evt = true) (h_hrg : msk .hrg = true) (h_pnt : msk .pnt = true) (h_ctrs : msk .ctrs = true) (h_rdn : msk .rdn = true) (s : State) : (State.joinPaired s).blank msk = s.blank msk := by
  unfold State.joinPaired
  repeat' (first | with_reducible rfl | assumption | simp only [↓State.setPair_blank, ↓State.withRdn_blank, ↓State.ite_blank, ite_self, h_evt, h_hrg, h_pnt, h_ctrs, h_rdn, ↓State.foldl_blank, implies_true, forall_const] | split | intro _)

theorem State.pairCompare_blank (h_clk : msk .clk = true) (h_crs : msk .crs = true) (h_evt : msk .evt = true) (h_hrg : msk .hrg = true) (h_img : msk .img = true) (h_pnt : msk .pnt = true) (h_ctrs : msk .ctrs = true) (h_rdn : msk .rdn = true) (h_ylk : msk .ylk = true) (h_outbox : msk .outbox = true) (s : State) : (State.pairCompare s).blank msk = s.blank msk := by
  unfold State.pairCompare
  repeat' (first | with_reducible rfl | assumption | simp only [↓State.compareImage_blank, ↓State.expireForwarded_blank, ↓State.inStep_blank, ↓State.joinPaired_blank, ↓State.messageMissing_blank, ↓State.outOfStep_blank, ↓State.partnerHeard_blank, ↓State.pathEvents_blank, ↓State.withRdn_blank, ↓State.ite_blank, ite_self, h_clk, h_crs, h_evt, h_hrg, h_img, h_pnt, h_ctrs, h_rdn, h_ylk, h_outbox, ↓State.foldl_blank, implies_true, forall_const] | split | intro _)

theorem execPairCompare_blank (h_clk : msk .clk = true) (h_crs : msk .crs = true) (h_evt : msk .evt = true) (h_hrg : msk .hrg = true) (h_img : msk .img = true) (h_pnt : msk .pnt = true) (h_ctrs : msk .ctrs = true) (h_rdn : msk .rdn = true) (h_ylk : msk .ylk = true) (h_outbox : msk .outbox = true) (t : Nat) (s : State) {t' : State} (h : execPairCompare t s = .next t') : t'.blank msk = s.blank msk := by
  simp only [execPairCompare, Host.Outcome.next.injEq] at h
  subst h
  simp only [↓State.instant_blank, ↓State.pairCompare_blank, ↓State.whileRunning_blank, ↓State.ite_blank, ite_self, h_clk, h_crs, h_evt, h_hrg, h_img, h_pnt, h_ctrs, h_rdn, h_ylk, h_outbox, ↓State.foldl_blank, implies_true, forall_const]

theorem State.sendImage_blank (h_clk : msk .clk = true) (h_evt : msk .evt = true) (h_pnt : msk .pnt = true) (h_ctrs : msk .ctrs = true) (h_ylk : msk .ylk = true) (h_outbox : msk .outbox = true) (s : State) : (State.sendImage s).blank msk = s.blank msk := by
  unfold State.sendImage
  repeat' (first | with_reducible rfl | assumption | simp only [↓State.beginView_blank, ↓State.sendLink_blank, ↓State.useFree_blank, ↓State.ite_blank, ite_self, h_clk, h_evt, h_pnt, h_ctrs, h_ylk, h_outbox, ↓State.foldl_blank, implies_true, forall_const] | split | intro _)

theorem State.pairTick_blank (h_clk : msk .clk = true) (h_evt : msk .evt = true) (h_hrg : msk .hrg = true) (h_pnt : msk .pnt = true) (h_ctrs : msk .ctrs = true) (h_rdn : msk .rdn = true) (h_can : msk .can = true) (h_ylk : msk .ylk = true) (h_outbox : msk .outbox = true) (s : State) : (State.pairTick s).blank msk = s.blank msk := by
  unfold State.pairTick
  repeat' (first | with_reducible rfl | assumption | simp only [↓State.sendImage_blank, ↓State.setPair_blank, ↓State.useFree_blank, ↓State.withRdn_blank, ↓State.ite_blank, ite_self, h_clk, h_evt, h_hrg, h_pnt, h_ctrs, h_rdn, h_can, h_ylk, h_outbox, ↓State.foldl_blank, implies_true, forall_const] | split | intro _ | rw [State.foldl_blank])

theorem State.startJoin_blank (h_evt : msk .evt = true) (h_hrg : msk .hrg = true) (h_pnt : msk .pnt = true) (h_ctrs : msk .ctrs = true) (h_rdn : msk .rdn = true) (s : State) : (State.startJoin s).blank msk = s.blank msk := by
  simp only [State.startJoin, ↓State.setPair_blank, ↓State.setRole_blank, ↓State.withRdn_blank, ↓State.ite_blank, ite_self, h_evt, h_hrg, h_pnt, h_ctrs, h_rdn]

theorem execResyncStart_blank (h_clk : msk .clk = true) (h_evt : msk .evt = true) (h_hrg : msk .hrg = true) (h_pnt : msk .pnt = true) (h_ctrs : msk .ctrs = true) (h_rdn : msk .rdn = true) (t : Nat) (joiner : Bool) (s : State) {t' : State} (h : execResyncStart t joiner s = .next t') : t'.blank msk = s.blank msk := by
  unfold execResyncStart at h
  injection h with h
  subst h
  repeat' (first | with_reducible rfl | assumption | simp only [↓State.instant_blank, ↓State.setPair_blank, ↓State.startJoin_blank, ↓State.whileRunning_blank, ↓State.withRdn_blank, ↓State.ite_blank, ite_self, h_clk, h_evt, h_hrg, h_pnt, h_ctrs, h_rdn, ↓State.foldl_blank, implies_true, forall_const] | rw [State.whileRunning_blank] | split | intro _)

theorem execStateImagePieceRx_blank (h_clk : msk .clk = true) (h_evt : msk .evt = true) (h_ctrs : msk .ctrs = true) (h_rdn : msk .rdn = true) (h_ylk : msk .ylk = true) (h_outbox : msk .outbox = true) (t : Nat) (hd : LinkHdr) (bytes : List Byte) (s : State) {t' : State} (h : execStateImagePieceRx t hd bytes s = .next t') : t'.blank msk = s.blank msk := by
  unfold execStateImagePieceRx at h
  injection h with h
  subst h
  repeat' (first | with_reducible rfl | assumption | simp only [↓State.instant_blank, ↓State.linkTake_blank, ↓State.whileRunning_blank, ↓State.withRdn_blank, ↓State.ite_blank, ite_self, h_clk, h_evt, h_ctrs, h_rdn, h_ylk, h_outbox, ↓State.foldl_blank, implies_true, forall_const] | rw [State.linkTake_blank] | rw [State.whileRunning_blank] | split | intro _)

theorem State.install_blank (h_est : msk .est = true) (h_vsl : msk .vsl = true) (h_sni : msk .sni = true) (h_pnt : msk .pnt = true) (h_ctl : msk .ctl = true) (h_alloc : msk .alloc = true) (h_csq : msk .csq = true) (h_trim : msk .trim = true) (h_rdn : msk .rdn = true) (x : StateImage) (s : State) :
    (State.install x s).blank msk = s.blank msk := by
  simp only [State.install, State.blank, h_est, h_vsl, h_sni, h_pnt, h_ctl, h_alloc, h_csq, h_trim, h_rdn, if_true]

theorem execResyncInstall_blank (h_clk : msk .clk = true) (h_pnt : msk .pnt = true) (h_sni : msk .sni = true) (h_est : msk .est = true) (h_ctl : msk .ctl = true) (h_alloc : msk .alloc = true) (h_csq : msk .csq = true) (h_trim : msk .trim = true) (h_vsl : msk .vsl = true) (h_rdn : msk .rdn = true) (t : Nat) (img : StateImage) (s : State) {t' : State} (h : execResyncInstall t img s = .next t') : t'.blank msk = s.blank msk := by
  unfold execResyncInstall at h
  injection h with h
  subst h
  repeat' (first | with_reducible rfl | assumption | simp only [↓State.install_blank, ↓State.instant_blank, ↓State.whileRunning_blank, ↓State.ite_blank, ite_self, h_clk, h_pnt, h_sni, h_est, h_ctl, h_alloc, h_csq, h_trim, h_vsl, h_rdn, ↓State.foldl_blank, implies_true, forall_const] | rw [State.whileRunning_blank] | split | intro _)

theorem execResyncTimeout_blank (h_clk : msk .clk = true) (h_evt : msk .evt = true) (h_hrg : msk .hrg = true) (h_pnt : msk .pnt = true) (h_ctrs : msk .ctrs = true) (h_rdn : msk .rdn = true) (t : Nat) (s : State) {t' : State} (h : execResyncTimeout t s = .next t') : t'.blank msk = s.blank msk := by
  unfold execResyncTimeout at h
  injection h with h
  subst h
  repeat' (first | with_reducible rfl | assumption | simp only [↓State.instant_blank, ↓State.setPair_blank, ↓State.syncFail_blank, ↓State.whileRunning_blank, ↓State.ite_blank, ite_self, h_clk, h_evt, h_hrg, h_pnt, h_ctrs, h_rdn, ↓State.foldl_blank, implies_true, forall_const] | rw [State.whileRunning_blank] | split | intro _)

theorem execResyncRetry_blank (h_clk : msk .clk = true) (h_evt : msk .evt = true) (h_hrg : msk .hrg = true) (h_pnt : msk .pnt = true) (h_ctrs : msk .ctrs = true) (h_rdn : msk .rdn = true) (t : Nat) (s : State) {t' : State} (h : execResyncRetry t s = .next t') : t'.blank msk = s.blank msk := by
  unfold execResyncRetry at h
  injection h with h
  subst h
  repeat' (first | with_reducible rfl | assumption | simp only [↓State.instant_blank, ↓State.startJoin_blank, ↓State.whileRunning_blank, ↓State.withRdn_blank, ↓State.ite_blank, ite_self, h_clk, h_evt, h_hrg, h_pnt, h_ctrs, h_rdn, ↓State.foldl_blank, implies_true, forall_const] | rw [State.whileRunning_blank] | split | intro _)

theorem execExchangeProposalDue_blank (h_clk : msk .clk = true) (h_evt : msk .evt = true) (h_ctrs : msk .ctrs = true) (h_rdn : msk .rdn = true) (t : Nat) (s : State) {t' : State} (h : execExchangeProposalDue t s = .next t') : t'.blank msk = s.blank msk := by
  simp only [execExchangeProposalDue, Host.Outcome.next.injEq] at h
  subst h
  simp only [↓State.instant_blank, ↓State.proposeExchange_blank, ↓State.whileRunning_blank, ↓State.ite_blank, ite_self, h_clk, h_evt, h_ctrs, h_rdn, ↓State.foldl_blank, implies_true, forall_const]

end

end Sys2Proof.Machine
end

