-- ==== Sys2Proof/Laws/KeepTrimHold.lean ====
section
/-! SUPPORT. What the operations and commands of Machine/TrimHold.lean leave unchanged. -/

set_option linter.unusedSimpArgs false

namespace Sys2Proof.Machine
open Sys2Proof

section
variable {msk : Part → Bool}

theorem State.putPump_blank (h_trim : msk .trim = true) (p : Nat) (x : PumpSt) (s : State) : (State.putPump p x s).blank msk = s.blank msk := by
  simp only [State.putPump, ↓State.withTrim_blank, ↓State.ite_blank, ite_self, h_trim]

theorem State.cmdPump_blank (h_trim : msk .trim = true) (p : Nat) (on : Bool) (s : State) : (State.cmdPump p on s).blank msk = s.blank msk := by
  simp only [State.cmdPump, ↓State.putPump_blank, ↓State.ite_blank, ite_self, h_trim]

theorem State.stopPumps_blank (h_trim : msk .trim = true) (s : State) : (State.stopPumps s).blank msk = s.blank msk := by
  simp only [State.stopPumps, ↓State.cmdPump_blank, ↓State.withTrim_blank, ↓State.ite_blank, ite_self, h_trim, ↓State.foldl_blank, implies_true, forall_const]

theorem State.takeTrim_blank (h_hrg : msk .hrg = true) (h_trim : msk .trim = true) (w : Waiting) (s : State) : (State.takeTrim w s).blank msk = s.blank msk := by
  unfold State.takeTrim
  repeat' (first | with_reducible rfl | assumption | simp only [↓State.done_blank, ↓State.refuse_blank, ↓State.withTrim_blank, ↓State.ite_blank, ite_self, h_hrg, h_trim, ↓State.foldl_blank, implies_true, forall_const] | split | intro _)

theorem State.activateTrim_blank (h_evt : msk .evt = true) (h_hrg : msk .hrg = true) (h_pnt : msk .pnt = true) (h_ctrs : msk .ctrs = true) (h_trim : msk .trim = true) (h_outbox : msk .outbox = true) (old : List Byte) (s : State) : (State.activateTrim old s).blank msk = s.blank msk := by
  simp only [State.activateTrim, ↓State.stopPumps_blank, ↓State.takeTrim_blank, ↓State.writePoints_blank, ↓State.withTrim_blank, ↓State.ite_blank, ite_self, h_evt, h_hrg, h_pnt, h_ctrs, h_trim, h_outbox, ↓State.foldl_blank, implies_true, forall_const]

theorem State.serveTrimQuery_blank (h_evt : msk .evt = true) (h_hrg : msk .hrg = true) (h_ctrs : msk .ctrs = true) (h_outbox : msk .outbox = true) (w : Waiting) (s : State) : (State.serveTrimQuery w s).blank msk = s.blank msk := by
  simp only [State.serveTrimQuery, ↓State.answer_blank, ↓State.ite_blank, ite_self, h_evt, h_hrg, h_ctrs, h_outbox]

theorem State.postTrim_blank (h_evt : msk .evt = true) (h_hrg : msk .hrg = true) (h_pnt : msk .pnt = true) (h_ctrs : msk .ctrs = true) (h_outbox : msk .outbox = true) (s : State) : (State.postTrim s).blank msk = s.blank msk := by
  simp only [State.postTrim, ↓State.writeOwn_blank, ↓State.ite_blank, ite_self, h_evt, h_hrg, h_pnt, h_ctrs, h_outbox]

theorem State.trimHeld_blank (h_trim : msk .trim = true) (s : State) : (State.trimHeld s).blank msk = s.blank msk := by
  simp only [State.trimHeld, ↓State.withTrim_blank, ↓State.ite_blank, ite_self, h_trim]

theorem State.writeTrim_blank (h_evt : msk .evt = true) (h_hrg : msk .hrg = true) (h_pnt : msk .pnt = true) (h_ctrs : msk .ctrs = true) (h_outbox : msk .outbox = true) (s : State) : (State.writeTrim s).blank msk = s.blank msk := by
  simp only [State.writeTrim, ↓State.writePoints_blank, ↓State.ite_blank, ite_self, h_evt, h_hrg, h_pnt, h_ctrs, h_outbox]

theorem State.trimMissed_blank (h_clk : msk .clk = true) (h_crs : msk .crs = true) (h_evt : msk .evt = true) (h_hrg : msk .hrg = true) (h_pnt : msk .pnt = true) (h_ctrs : msk .ctrs = true) (h_trim : msk .trim = true) (h_rdn : msk .rdn = true) (h_ylk : msk .ylk = true) (h_outbox : msk .outbox = true) (s : State) : (State.trimMissed s).blank msk = s.blank msk := by
  simp only [State.trimMissed, ↓State.missItem_blank, ↓State.postTrim_blank, ↓State.stopPumps_blank, ↓State.trimHeld_blank, ↓State.writeTrim_blank, ↓State.ite_blank, ite_self, h_clk, h_crs, h_evt, h_hrg, h_pnt, h_ctrs, h_trim, h_rdn, h_ylk, h_outbox]

theorem State.putValve_blank (h_trim : msk .trim = true) (v : Nat) (x : PumpSt) (s : State) : (State.putValve v x s).blank msk = s.blank msk := by
  simp only [State.putValve, ↓State.withTrim_blank, ↓State.ite_blank, ite_self, h_trim]

theorem State.cmdValve_blank (h_trim : msk .trim = true) (v : Nat) (on : Bool) (s : State) : (State.cmdValve v on s).blank msk = s.blank msk := by
  simp only [State.cmdValve, ↓State.putValve_blank, ↓State.ite_blank, ite_self, h_trim]

theorem State.takeLevels_blank (h_trim : msk .trim = true) (s : State) : (State.takeLevels s).blank msk = s.blank msk := by
  simp only [State.takeLevels, ↓State.withTrim_blank, ↓State.ite_blank, ite_self, h_trim]

theorem State.trimMeans_blank (h_trim : msk .trim = true) (s : State) : (State.trimMeans s).blank msk = s.blank msk := by
  simp only [State.trimMeans, ↓State.withTrim_blank, ↓State.ite_blank, ite_self, h_trim]

theorem State.judgePump_blank (h_trim : msk .trim = true) (p : Nat) (s : State) : (State.judgePump p s).blank msk = s.blank msk := by
  simp only [State.judgePump, ↓State.putPump_blank, ↓State.ite_blank, ite_self, h_trim]

theorem State.judgeValve_blank (h_trim : msk .trim = true) (v : Nat) (s : State) : (State.judgeValve v s).blank msk = s.blank msk := by
  simp only [State.judgeValve, ↓State.putValve_blank, ↓State.ite_blank, ite_self, h_trim]

theorem execBallastValveFault_blank (h_clk : msk .clk = true) (h_trim : msk .trim = true) (t valve : Nat) (s : State) {t' : State} (h : execBallastValveFault t valve s = .next t') : t'.blank msk = s.blank msk := by
  simp only [execBallastValveFault, Host.Outcome.next.injEq] at h
  subst h
  simp only [↓State.instant_blank, ↓State.judgeValve_blank, ↓State.whileRunning_blank, ↓State.ite_blank, ite_self, h_clk, h_trim, ↓State.foldl_blank, implies_true, forall_const]

theorem execBallastPumpFault_blank (h_clk : msk .clk = true) (h_trim : msk .trim = true) (t pump : Nat) (s : State) {t' : State} (h : execBallastPumpFault t pump s = .next t') : t'.blank msk = s.blank msk := by
  simp only [execBallastPumpFault, Host.Outcome.next.injEq] at h
  subst h
  simp only [↓State.instant_blank, ↓State.judgePump_blank, ↓State.whileRunning_blank, ↓State.ite_blank, ite_self, h_clk, h_trim, ↓State.foldl_blank, implies_true, forall_const]

theorem State.noteTrim_blank (h_trim : msk .trim = true) (s : State) : (State.noteTrim s).blank msk = s.blank msk := by
  unfold State.noteTrim
  repeat' (first | with_reducible rfl | assumption | simp only [↓State.withTrim_blank, ↓State.ite_blank, ite_self, h_trim, ↓State.foldl_blank, implies_true, forall_const] | split | intro _)

theorem State.trimSubmit_blank (h_evt : msk .evt = true) (h_ctrs : msk .ctrs = true) (h_vsl : msk .vsl = true) (h_cells : msk .cells = true) (h_mem : msk .mem = true) (s : State) : (State.trimSubmit s).blank msk = s.blank msk := by
  unfold State.trimSubmit
  repeat' (first | with_reducible rfl | assumption | simp only [↓State.problemEnds_blank, ↓State.submitOwn_blank, ↓State.writeHeader_blank, ↓State.ite_blank, ite_self, h_evt, h_ctrs, h_vsl, h_cells, h_mem, ↓State.foldl_blank, implies_true, forall_const] | split | intro _)

theorem State.stopRoutes_blank (h_trim : msk .trim = true) (want : List Nat) (s : State) : (State.stopRoutes want s).blank msk = s.blank msk := by
  simp only [State.stopRoutes, ↓State.cmdPump_blank, ↓State.withTrim_blank, ↓State.ite_blank, ite_self, h_trim, ↓State.foldl_blank, implies_true, forall_const]

theorem State.startRoutes_blank (h_trim : msk .trim = true) (want : List Nat) (stopped : List Nat) (s : State) : (State.startRoutes want stopped s).blank msk = s.blank msk := by
  simp only [State.startRoutes, ↓State.cmdPump_blank, ↓State.cmdValve_blank, ↓State.withTrim_blank, ↓State.ite_blank, ite_self, h_trim, ↓State.foldl_blank, implies_true, forall_const]

theorem State.closeValves_blank (h_trim : msk .trim = true) (s : State) : (State.closeValves s).blank msk = s.blank msk := by
  simp only [State.closeValves, ↓State.cmdValve_blank, ↓State.withTrim_blank, ↓State.ite_blank, ite_self, h_trim, ↓State.foldl_blank, implies_true, forall_const]

theorem State.applyTrim_blank (h_hrg : msk .hrg = true) (h_trim : msk .trim = true) (w : Waiting) (s : State) : (State.applyTrim w s).blank msk = s.blank msk := by
  unfold State.applyTrim
  repeat' (first | with_reducible rfl | assumption | simp only [↓State.done_blank, ↓State.withTrim_blank, ↓State.ite_blank, ite_self, h_hrg, h_trim, ↓State.foldl_blank, implies_true, forall_const] | split | intro _)

theorem State.trimMove_blank (h_trim : msk .trim = true) (want : List Nat) (s : State) : (State.trimMove want s).blank msk = s.blank msk := by
  simp only [State.trimMove, ↓State.closeValves_blank, ↓State.startRoutes_blank, ↓State.stopRoutes_blank, ↓State.ite_blank, ite_self, h_trim]

theorem State.trimPrepare_blank (h_hrg : msk .hrg = true) (h_trim : msk .trim = true) (s : State) : (State.trimPrepare s).blank msk = s.blank msk := by
  simp only [State.trimPrepare, ↓State.applyTrim_blank, ↓State.judgePump_blank, ↓State.judgeValve_blank, ↓State.takeLevels_blank, ↓State.trimMeans_blank, ↓State.withTrim_blank, ↓State.ite_blank, ite_self, h_hrg, h_trim, ↓State.foldl_blank, implies_true, forall_const]

theorem State.trimPose_blank (h_evt : msk .evt = true) (h_hrg : msk .hrg = true) (h_ctrs : msk .ctrs = true) (h_trim : msk .trim = true) (h_vsl : msk .vsl = true) (h_cells : msk .cells = true) (h_mem : msk .mem = true) (s : State) : (State.trimPose s).blank msk = s.blank msk := by
  simp only [State.trimPose, ↓State.trimPrepare_blank, ↓State.trimSubmit_blank, ↓State.withTrim_blank, ↓State.ite_blank, ite_self, h_evt, h_hrg, h_ctrs, h_trim, h_vsl, h_cells, h_mem]

theorem State.trimMoves_blank (h_crs : msk .crs = true) (h_evt : msk .evt = true) (h_hrg : msk .hrg = true) (h_pnt : msk .pnt = true) (h_ctrs : msk .ctrs = true) (h_trim : msk .trim = true) (h_outbox : msk .outbox = true) (vol : Nat → F64) (want : List Nat) (s : State) : (State.trimMoves vol want s).blank msk = s.blank msk := by
  simp only [State.trimMoves, ↓State.itemDone_blank, ↓State.postTrim_blank, ↓State.trimMove_blank, ↓State.writeTrim_blank, ↓State.withTrim_blank, ↓State.ite_blank, ite_self, h_crs, h_evt, h_hrg, h_pnt, h_ctrs, h_trim, h_outbox]

theorem State.trimAwait_blank (h_evt : msk .evt = true) (h_ctrs : msk .ctrs = true) (h_vsl : msk .vsl = true) (h_cells : msk .cells = true) (h_mem : msk .mem = true) (fin : Option OwnEnd) (s : State) : (State.trimAwait fin s).blank msk = s.blank msk := by
  unfold State.trimAwait
  repeat' (first | with_reducible rfl | assumption | simp only [↓State.arrayUntil_blank, ↓State.finishOwn_blank, ↓State.ite_blank, ite_self, h_evt, h_ctrs, h_vsl, h_cells, h_mem, ↓State.foldl_blank, implies_true, forall_const] | split | intro _)

theorem execTrim_blank (h_clk : msk .clk = true) (h_crs : msk .crs = true) (h_evt : msk .evt = true) (h_hrg : msk .hrg = true) (h_pnt : msk .pnt = true) (h_ctrs : msk .ctrs = true) (h_trim : msk .trim = true) (h_vsl : msk .vsl = true) (h_rdn : msk .rdn = true) (h_ylk : msk .ylk = true) (h_cells : msk .cells = true) (h_mem : msk .mem = true) (h_outbox : msk .outbox = true) (t : Nat) (fin : Option OwnEnd) (s : State) {t' : State} (h : execTrim t fin s = .next t') : t'.blank msk = s.blank msk := by
  unfold execTrim at h
  injection h with h
  subst h
  repeat' (first | with_reducible rfl | assumption | simp only [↓State.instant_blank, ↓State.noteTrim_blank, ↓State.trimAwait_blank, ↓State.trimMissed_blank, ↓State.trimMoves_blank, ↓State.trimPose_blank, ↓State.whileRunning_blank, ↓State.ite_blank, ite_self, h_clk, h_crs, h_evt, h_hrg, h_pnt, h_ctrs, h_trim, h_vsl, h_rdn, h_ylk, h_cells, h_mem, h_outbox, ↓State.foldl_blank, implies_true, forall_const] | rw [State.whileRunning_blank] | split | intro _)

end

end Sys2Proof.Machine
end

