-- ==== Sys2Proof/Laws/KeepMeasure.lean ====
section
/-! SUPPORT. What the operations and commands of Machine/Measure.lean leave unchanged. -/

set_option linter.unusedSimpArgs false

namespace Sys2Proof.Machine
open Sys2Proof

section
variable {msk : Part → Bool}

theorem State.putRef_blank (h_est : msk .est = true) (r : Nat) (x : RefSt) (s : State) : (State.putRef r x s).blank msk = s.blank msk := by
  simp only [State.putRef, ↓State.withEst_blank, ↓State.ite_blank, ite_self, h_est]

end

end Sys2Proof.Machine
end

