-- ==== Sys2Proof/Laws/KeepRefState.lean ====
section
/-! SUPPORT. What the operations and commands of Machine/RefState.lean leave unchanged. -/

set_option linter.unusedSimpArgs false

namespace Sys2Proof.Machine
open Sys2Proof

section
variable {msk : Part → Bool}

theorem State.putCls_blank (h_est : msk .est = true) (c : Nat) (x : ClsSt) (s : State) : (State.putCls c x s).blank msk = s.blank msk := by
  simp only [State.putCls, ↓State.withEst_blank, ↓State.ite_blank, ite_self, h_est]

theorem State.endDispute_blank (h_evt : msk .evt = true) (h_ctrs : msk .ctrs = true) (h_est : msk .est = true) (c : Nat) (p : Dispute) (s : State) : (State.endDispute c p s).blank msk = s.blank msk := by
  simp only [State.endDispute, ↓State.putCls_blank, ↓State.raise_blank, ↓State.ite_blank, ite_self, h_evt, h_ctrs, h_est]

theorem State.setRef_blank (h_evt : msk .evt = true) (h_ctrs : msk .ctrs = true) (h_est : msk .est = true) (r st cause : Nat) (s : State) : (State.setRef r st cause s).blank msk = s.blank msk := by
  simp only [State.setRef, ↓State.putRef_blank, ↓State.raise_blank, ↓State.withEst_blank, ↓State.ite_blank, ite_self, h_evt, h_ctrs, h_est]

theorem State.clearHistory_blank (h_est : msk .est = true) (s : State) : (State.clearHistory s).blank msk = s.blank msk := by
  simp only [State.clearHistory, ↓State.withEst_blank, ↓State.ite_blank, ite_self, h_est]

theorem State.startFilters_blank (h_est : msk .est = true) (seed : Option EstSeed) (s : State) : (State.startFilters seed s).blank msk = s.blank msk := by
  simp only [State.startFilters, ↓State.withEst_blank, ↓State.ite_blank, ite_self, h_est]

theorem State.keptRef_blank (h_evt : msk .evt = true) (h_ctrs : msk .ctrs = true) (h_est : msk .est = true) (cause : Nat) (od nd oq nq : List Byte) (s : State) : (State.keptRef cause od nd oq nq s).blank msk = s.blank msk := by
  simp only [State.keptRef, ↓State.putRef_blank, ↓State.setRef_blank, ↓State.ite_blank, ite_self, h_evt, h_ctrs, h_est]

theorem State.newRef_blank (h_evt : msk .evt = true) (h_ctrs : msk .ctrs = true) (h_est : msk .est = true) (cause : Nat) (d : List Byte) (s : State) : (State.newRef cause d s).blank msk = s.blank msk := by
  simp only [State.newRef, ↓State.putRef_blank, ↓State.setRef_blank, ↓State.ite_blank, ite_self, h_evt, h_ctrs, h_est]

theorem State.activateRefs_blank (h_evt : msk .evt = true) (h_ctrs : msk .ctrs = true) (h_est : msk .est = true) (old : List Byte) (start : Bool) (s : State) : (State.activateRefs old start s).blank msk = s.blank msk := by
  unfold State.activateRefs
  repeat' (first | with_reducible rfl | assumption | simp only [↓State.keptRef_blank, ↓State.newRef_blank, ↓State.putRef_blank, ↓State.setRef_blank, ↓State.ite_blank, ite_self, h_evt, h_ctrs, h_est, ↓State.foldl_blank, implies_true, forall_const] | split | intro _ | rw [State.foldl_blank])

theorem State.carryAll_blank (h_est : msk .est = true) (h_ctl : msk .ctl = true) (a b : Tangent) (s : State) : (State.carryAll a b s).blank msk = s.blank msk := by
  simp only [State.carryAll, ↓State.withCtl_blank, ↓State.withEst_blank, ↓State.ite_blank, ite_self, h_est, h_ctl]

theorem State.setOrigin_blank (h_evt : msk .evt = true) (h_ctrs : msk .ctrs = true) (h_est : msk .est = true) (h_ctl : msk .ctl = true) (o : Word × Word × Word) (s : State) : (State.setOrigin o s).blank msk = s.blank msk := by
  unfold State.setOrigin
  repeat' (first | with_reducible rfl | assumption | simp only [↓State.carryAll_blank, ↓State.clearHistory_blank, ↓State.raise_blank, ↓State.withEst_blank, ↓State.ite_blank, ite_self, h_evt, h_ctrs, h_est, h_ctl, ↓State.foldl_blank, implies_true, forall_const] | split | intro _)

theorem State.gridRadius_blank (h_evt : msk .evt = true) (h_ctrs : msk .ctrs = true) (h_est : msk .est = true) (s : State) : (State.gridRadius s).blank msk = s.blank msk := by
  unfold State.gridRadius
  repeat' (first | with_reducible rfl | assumption | simp only [↓State.raise_blank, ↓State.withEst_blank, ↓State.ite_blank, ite_self, h_evt, h_ctrs, h_est, ↓State.foldl_blank, implies_true, forall_const] | split | intro _)

end

end Sys2Proof.Machine
end

