-- ==== Sys2Proof/Laws/KeepEstimate.lean ====
section
/-! SUPPORT. What the operations and commands of Machine/Estimate.lean leave unchanged. -/

set_option linter.unusedSimpArgs false

namespace Sys2Proof.Machine
open Sys2Proof

section
variable {msk : Part → Bool}

theorem State.countDropped_blank (h_evt : msk .evt = true) (h_ctrs : msk .ctrs = true) (h_est : msk .est = true) (r n : Nat) (s : State) : (State.countDropped r n s).blank msk = s.blank msk := by
  simp only [State.countDropped, ↓State.putRef_blank, ↓State.raise_blank, ↓State.ite_blank, ite_self, h_evt, h_ctrs, h_est]

theorem State.countRefN_blank (h_evt : msk .evt = true) (h_ctrs : msk .ctrs = true) (h_est : msk .est = true) (r n : Nat) (get : RefSt → Occ) (put : RefSt → Occ → RefSt) (s : State) : (State.countRefN r n get put s).blank msk = s.blank msk := by
  simp only [State.countRefN, ↓State.countOcc_blank, ↓State.putRef_blank, ↓State.ite_blank, ite_self, h_evt, h_ctrs, h_est, ↓State.foldl_blank, implies_true, forall_const]

theorem State.addWork_blank (h_est : msk .est = true) (w : RefWork) (s : State) : (State.addWork w s).blank msk = s.blank msk := by
  simp only [State.addWork, ↓State.withEst_blank, ↓State.ite_blank, ite_self, h_est]

theorem State.putHistory_blank (h_est : msk .est = true) (k : Word) (priors : List Filt) (phi : FMat) (adm : List Nat) (s : State) : (State.putHistory k priors phi adm s).blank msk = s.blank msk := by
  simp only [State.putHistory, ↓State.withEst_blank, ↓State.ite_blank, ite_self, h_est]

theorem State.bridgeFrame_blank (h_est : msk .est = true) (s : State) : (State.bridgeFrame s).blank msk = s.blank msk := by
  simp only [State.bridgeFrame, ↓State.putHistory_blank, ↓State.withEst_blank, ↓State.ite_blank, ite_self, h_est]

theorem State.bridge_blank (h_est : msk .est = true) (n : Nat) (s : State) : (State.bridge n s).blank msk = s.blank msk := by
  induction n generalizing s with
  | zero => rfl
  | succ n ih => simp only [State.bridge, ih, State.bridgeFrame_blank, h_est]

theorem State.dropLate_blank (h_evt : msk .evt = true) (h_ctrs : msk .ctrs = true) (h_est : msk .est = true) (r n : Nat) (s : State) : (State.dropLate r n s).blank msk = s.blank msk := by
  simp only [State.dropLate, ↓State.countRefN_blank, ↓State.raise_blank, ↓State.ite_blank, ite_self, h_evt, h_ctrs, h_est, ↓State.foldl_blank, implies_true, forall_const]

theorem State.lateRef_blank (h_evt : msk .evt = true) (h_ctrs : msk .ctrs = true) (h_est : msk .est = true) (m : IntakeRec × List IntakeRec) (d : List Byte) (s : State) : (State.lateRef m d s).blank msk = s.blank msk := by
  unfold State.lateRef
  repeat' (first | with_reducible rfl | assumption | simp only [↓State.addWork_blank, ↓State.countDropped_blank, ↓State.countRefN_blank, ↓State.dropLate_blank, ↓State.withEst_blank, ↓State.ite_blank, ite_self, h_evt, h_ctrs, h_est, ↓State.foldl_blank, implies_true, forall_const] | split | intro _)

theorem State.applyLate_blank (h_evt : msk .evt = true) (h_ctrs : msk .ctrs = true) (h_est : msk .est = true) (rs : List IntakeRec) (s : State) : (State.applyLate rs s).blank msk = s.blank msk := by
  unfold State.applyLate
  repeat' (first | with_reducible rfl | assumption | simp only [↓State.lateRef_blank, ↓State.ite_blank, ite_self, h_evt, h_ctrs, h_est, ↓State.foldl_blank, implies_true, forall_const] | split | intro _ | rw [State.foldl_blank])

theorem State.switchImu_blank (h_evt : msk .evt = true) (h_ctrs : msk .ctrs = true) (h_est : msk .est = true) (e cause : Nat) (s : State) : (State.switchImu e cause s).blank msk = s.blank msk := by
  simp only [State.switchImu, ↓State.raise_blank, ↓State.withEst_blank, ↓State.ite_blank, ite_self, h_evt, h_ctrs, h_est]

theorem State.chooseImu_blank (h_evt : msk .evt = true) (h_ctrs : msk .ctrs = true) (h_est : msk .est = true) (rs : List IntakeRec) (t0 tk : Int) (s : State) : (State.chooseImu rs t0 tk s).blank msk = s.blank msk := by
  unfold State.chooseImu
  repeat' (first | with_reducible rfl | assumption | simp only [↓State.switchImu_blank, ↓State.withEst_blank, ↓State.ite_blank, ite_self, h_evt, h_ctrs, h_est, ↓State.foldl_blank, implies_true, forall_const] | split | intro _)

theorem State.inertial_blank (h_est : msk .est = true) (rs : List IntakeRec) (t0 tk : Int) (s : State) : (State.inertial rs t0 tk s).1.blank msk = s.blank msk := by
  unfold State.inertial
  repeat' (first | with_reducible rfl | assumption | simp only [↓State.withEst_blank, ↓State.ite_blank, ite_self, h_est, ↓State.foldl_blank, implies_true, forall_const] | split | intro _)

theorem State.imuHas_blank (h_evt : msk .evt = true) (h_ctrs : msk .ctrs = true) (h_est : msk .est = true) (b : Bool) (s : State) : (State.imuHas b s).blank msk = s.blank msk := by
  simp only [State.imuHas, ↓State.raise_blank, ↓State.withEst_blank, ↓State.ite_blank, ite_self, h_evt, h_ctrs, h_est]

theorem State.setTarget_blank (h_evt : msk .evt = true) (h_ctrs : msk .ctrs = true) (h_est : msk .est = true) (r : Nat) (p : Int × Int) (s : State) : (State.setTarget r p s).blank msk = s.blank msk := by
  simp only [State.setTarget, ↓State.putRef_blank, ↓State.setRef_blank, ↓State.ite_blank, ite_self, h_evt, h_ctrs, h_est]

theorem State.captures_blank (h_evt : msk .evt = true) (h_hrg : msk .hrg = true) (h_ctrs : msk .ctrs = true) (h_est : msk .est = true) (c : RowCtx) (rs : List IntakeRec) (s : State) : (State.captures c rs s).blank msk = s.blank msk := by
  unfold State.captures
  repeat' (first | with_reducible rfl | assumption | simp only [↓State.done_blank, ↓State.putRef_blank, ↓State.refuse_blank, ↓State.setTarget_blank, ↓State.ite_blank, ite_self, h_evt, h_hrg, h_ctrs, h_est, ↓State.foldl_blank, implies_true, forall_const] | split | intro _ | rw [State.foldl_blank])

theorem State.covSteps_blank (h_evt : msk .evt = true) (h_ctrs : msk .ctrs = true) (h_vsl : msk .vsl = true) (h_cells : msk .cells = true) (h_mem : msk .mem = true) (ends : List (Nat × OwnEnd)) (phi : FMat) (q : FVec) (lams : List FMat) (s : State) : (State.covSteps ends phi q lams s).1.blank msk = s.blank msk := by
  unfold State.covSteps
  repeat' (first | with_reducible rfl | assumption | simp only [↓State.runOwn_blank, ↓State.ite_blank, ite_self, h_evt, h_ctrs, h_vsl, h_cells, h_mem, ↓State.foldl_blank, ↓State.foldl_blank_fst, ↓State.foldl_blank_snd, implies_true, forall_const] | split | intro _)

theorem State.frameRows_blank (h_evt : msk .evt = true) (h_ctrs : msk .ctrs = true) (h_est : msk .est = true) (c : RowCtx) (rs : List IntakeRec) (s : State) : (State.frameRows c rs s).1.blank msk = s.blank msk := by
  unfold State.frameRows
  refine State.foldl_blank_fst _ _ _ ?_
  intro b x
  refine State.foldl_blank_fst _ _ _ ?_
  intro b x
  dsimp only
  generalize State.measure _ _ _ _ = r
  obtain ⟨r, y⟩ := r
  cases r <;> simp only [↓State.withEst_blank, h_est]

theorem State.estimateRun_blank (h_evt : msk .evt = true) (h_hrg : msk .hrg = true) (h_ctrs : msk .ctrs = true) (h_est : msk .est = true) (h_vsl : msk .vsl = true) (h_cells : msk .cells = true) (h_mem : msk .mem = true) (ends : List (Nat × OwnEnd)) (rs : List IntakeRec) (s : State) : (State.estimateRun ends rs s).1.blank msk = s.blank msk := by
  unfold State.estimateRun
  repeat' (first | with_reducible rfl | assumption | simp only [↓State.addWork_blank, ↓State.applyLate_blank, ↓State.bridge_blank, ↓State.captures_blank, ↓State.chooseImu_blank, ↓State.countDropped_blank, ↓State.covSteps_blank, ↓State.frameRows_blank, ↓State.imuHas_blank, ↓State.inertial_blank, ↓State.putHistory_blank, ↓State.withEst_blank, ↓State.ite_blank, ite_self, h_evt, h_hrg, h_ctrs, h_est, h_vsl, h_cells, h_mem, ↓State.foldl_blank, implies_true, forall_const] | split | intro _)

theorem execEstimate_blank (h_clk : msk .clk = true) (h_crs : msk .crs = true) (h_evt : msk .evt = true) (h_hrg : msk .hrg = true) (h_ctrs : msk .ctrs = true) (h_est : msk .est = true) (h_vsl : msk .vsl = true) (h_rdn : msk .rdn = true) (h_ylk : msk .ylk = true) (h_cells : msk .cells = true) (h_mem : msk .mem = true) (h_outbox : msk .outbox = true) (t : Nat) (ends : List (Nat × OwnEnd)) (s : State) {t' : State} (h : execEstimate t ends s = .next t') : t'.blank msk = s.blank msk := by
  simp only [execEstimate, Host.Outcome.next.injEq] at h
  subst h
  simp only [↓State.estimateRun_blank, ↓State.instant_blank, ↓State.itemDone_blank, ↓State.missItem_blank, ↓State.whileRunning_blank, ↓State.withEst_blank, ↓State.ite_blank, ite_self, h_clk, h_crs, h_evt, h_hrg, h_ctrs, h_est, h_vsl, h_rdn, h_ylk, h_cells, h_mem, h_outbox, ↓State.foldl_blank, implies_true, forall_const]

theorem State.estimateHands_blank (h_est : msk .est = true) (s : State) : (State.estimateHands s).blank msk = s.blank msk := by
  simp only [State.estimateHands, ↓State.withEst_blank, ↓State.ite_blank, ite_self, h_est]

theorem execAlign_blank (h_clk : msk .clk = true) (h_crs : msk .crs = true) (h_evt : msk .evt = true) (h_pnt : msk .pnt = true) (h_ctrs : msk .ctrs = true) (h_sni : msk .sni = true) (h_est : msk .est = true) (t : Nat) (s : State) {t' : State} (h : execAlign t s = .next t') : t'.blank msk = s.blank msk := by
  unfold execAlign at h
  injection h with h
  subst h
  repeat' (first | with_reducible rfl | assumption | simp only [↓State.alignPoints_blank, ↓State.alignRecords_blank, ↓State.entrySilence_blank, ↓State.estimateHands_blank, ↓State.runItem_blank, ↓State.withEst_blank, ↓State.ite_blank, ite_self, h_clk, h_crs, h_evt, h_pnt, h_ctrs, h_sni, h_est, ↓State.foldl_blank, implies_true, forall_const] | rw [State.runItem_blank] | split | intro _)

end

end Sys2Proof.Machine
end

