-- ==== Sys2Proof/Laws/KeepVoting.lean ====
section
/-! SUPPORT. What the operations and commands of Machine/Voting.lean leave unchanged. -/

set_option linter.unusedSimpArgs false

namespace Sys2Proof.Machine
open Sys2Proof

section
variable {msk : Part → Bool}

theorem State.serveEstQuery_blank (h_evt : msk .evt = true) (h_hrg : msk .hrg = true) (h_ctrs : msk .ctrs = true) (h_outbox : msk .outbox = true) (w : Waiting) (s : State) : (State.serveEstQuery w s).blank msk = s.blank msk := by
  simp only [State.serveEstQuery, ↓State.answer_blank, ↓State.ite_blank, ite_self, h_evt, h_hrg, h_ctrs, h_outbox]

theorem State.serveRefStatus_blank (h_evt : msk .evt = true) (h_hrg : msk .hrg = true) (h_ctrs : msk .ctrs = true) (h_est : msk .est = true) (h_outbox : msk .outbox = true) (w : Waiting) (ref : Nat) (s : State) : (State.serveRefStatus w ref s).blank msk = s.blank msk := by
  simp only [State.serveRefStatus, ↓State.answer_blank, ↓State.putRef_blank, ↓State.refuse_blank, ↓State.ite_blank, ite_self, h_evt, h_hrg, h_ctrs, h_est, h_outbox]

theorem State.takeGridOrigin_blank (h_evt : msk .evt = true) (h_hrg : msk .hrg = true) (h_ctrs : msk .ctrs = true) (h_est : msk .est = true) (h_ctl : msk .ctl = true) (w : Waiting) (lat lon height : Word) (s : State) : (State.takeGridOrigin w lat lon height s).blank msk = s.blank msk := by
  simp only [State.takeGridOrigin, ↓State.done_blank, ↓State.refuse_blank, ↓State.setOrigin_blank, ↓State.ite_blank, ite_self, h_evt, h_hrg, h_ctrs, h_est, h_ctl]

theorem State.takeRefEnable_blank (h_evt : msk .evt = true) (h_hrg : msk .hrg = true) (h_ctrs : msk .ctrs = true) (h_est : msk .est = true) (w : Waiting) (ref on : Nat) (s : State) : (State.takeRefEnable w ref on s).blank msk = s.blank msk := by
  unfold State.takeRefEnable
  repeat' (first | with_reducible rfl | assumption | simp only [↓State.done_blank, ↓State.refuse_blank, ↓State.setRef_blank, ↓State.ite_blank, ite_self, h_evt, h_hrg, h_ctrs, h_est, ↓State.foldl_blank, implies_true, forall_const] | split | intro _)

theorem State.takeRefTarget_blank (h_evt : msk .evt = true) (h_hrg : msk .hrg = true) (h_ctrs : msk .ctrs = true) (h_est : msk .est = true) (w : Waiting) (ref capture : Nat) (n e : Word) (s : State) : (State.takeRefTarget w ref capture n e s).blank msk = s.blank msk := by
  unfold State.takeRefTarget
  repeat' (first | with_reducible rfl | assumption | simp only [↓State.done_blank, ↓State.putRef_blank, ↓State.refuse_blank, ↓State.setTarget_blank, ↓State.ite_blank, ite_self, h_evt, h_hrg, h_ctrs, h_est, ↓State.foldl_blank, implies_true, forall_const] | split | intro _)

theorem State.noteWave_blank (h_ctl : msk .ctl = true) (s : State) : (State.noteWave s).blank msk = s.blank msk := by
  simp only [State.noteWave, ↓State.withCtl_blank, ↓State.ite_blank, ite_self, h_ctl]

theorem State.gateRef_blank (h_evt : msk .evt = true) (h_ctrs : msk .ctrs = true) (h_est : msk .est = true) (d : List Byte) (w : RefWork) (rho : Option F64) (s : State) : (State.gateRef d w rho s).blank msk = s.blank msk := by
  unfold State.gateRef
  repeat' (first | with_reducible rfl | assumption | simp only [↓State.countRefN_blank, ↓State.putRef_blank, ↓State.ite_blank, ite_self, h_evt, h_ctrs, h_est, ↓State.foldl_blank, implies_true, forall_const] | split | intro _)

theorem State.gateAll_blank (h_evt : msk .evt = true) (h_ctrs : msk .ctrs = true) (h_est : msk .est = true) (s : State) : (State.gateAll s).blank msk = s.blank msk := by
  simp only [State.gateAll, ↓State.gateRef_blank, ↓State.ite_blank, ite_self, h_evt, h_ctrs, h_est, ↓State.foldl_blank, implies_true, forall_const]

theorem State.disputeSilent_blank (h_evt : msk .evt = true) (h_ctrs : msk .ctrs = true) (h_est : msk .est = true) (c r : Nat) (s : State) : (State.disputeSilent c r s).blank msk = s.blank msk := by
  simp only [State.disputeSilent, ↓State.endDispute_blank, ↓State.setRef_blank, ↓State.ite_blank, ite_self, h_evt, h_ctrs, h_est, ↓State.foldl_blank, implies_true, forall_const]

theorem State.silenceRef_blank (h_evt : msk .evt = true) (h_ctrs : msk .ctrs = true) (h_est : msk .est = true) (d : List Byte) (s : State) : (State.silenceRef d s).blank msk = s.blank msk := by
  simp only [State.silenceRef, ↓State.disputeSilent_blank, ↓State.putRef_blank, ↓State.setRef_blank, ↓State.ite_blank, ite_self, h_evt, h_ctrs, h_est]

theorem State.silenceAll_blank (h_evt : msk .evt = true) (h_ctrs : msk .ctrs = true) (h_est : msk .est = true) (s : State) : (State.silenceAll s).blank msk = s.blank msk := by
  simp only [State.silenceAll, ↓State.silenceRef_blank, ↓State.ite_blank, ite_self, h_evt, h_ctrs, h_est, ↓State.foldl_blank, implies_true, forall_const]

theorem State.voteClass_blank (h_evt : msk .evt = true) (h_ctrs : msk .ctrs = true) (h_est : msk .est = true) (c : Nat) (s : State) : (State.voteClass c s).blank msk = s.blank msk := by
  unfold State.voteClass
  repeat' (first | with_reducible rfl | assumption | simp only [↓State.putCls_blank, ↓State.raise_blank, ↓State.setRef_blank, ↓State.ite_blank, ite_self, h_evt, h_ctrs, h_est, ↓State.foldl_blank, implies_true, forall_const] | split | intro _)

theorem State.disputePair_blank (h_evt : msk .evt = true) (h_ctrs : msk .ctrs = true) (h_est : msk .est = true) (c : Nat) (s : State) (p : Dispute) : (State.disputePair c s p).blank msk = s.blank msk := by
  unfold State.disputePair
  repeat' (first | with_reducible rfl | assumption | simp only [↓State.endDispute_blank, ↓State.putCls_blank, ↓State.setRef_blank, ↓State.ite_blank, ite_self, h_evt, h_ctrs, h_est, ↓State.foldl_blank, implies_true, forall_const] | split | intro _)

theorem State.disputeClass_blank (h_evt : msk .evt = true) (h_ctrs : msk .ctrs = true) (h_est : msk .est = true) (c : Nat) (s : State) : (State.disputeClass c s).blank msk = s.blank msk := by
  unfold State.disputeClass
  repeat' (first | with_reducible rfl | assumption | simp only [↓State.disputePair_blank, ↓State.ite_blank, ite_self, h_evt, h_ctrs, h_est, ↓State.foldl_blank, implies_true, forall_const] | split | intro _)

theorem State.removeLeft_blank (h_est : msk .est = true) (s : State) : (State.removeLeft s).blank msk = s.blank msk := by
  unfold State.removeLeft
  repeat' (first | with_reducible rfl | assumption | simp only [↓State.withEst_blank, ↓State.ite_blank, ite_self, h_est, ↓State.foldl_blank, implies_true, forall_const] | split | intro _)

theorem State.resetFilters_blank (h_evt : msk .evt = true) (h_ctrs : msk .ctrs = true) (h_est : msk .est = true) (s : State) : (State.resetFilters s).blank msk = s.blank msk := by
  unfold State.resetFilters
  repeat' (first | with_reducible rfl | assumption | simp only [↓State.raise_blank, ↓State.withEst_blank, ↓State.ite_blank, ite_self, h_evt, h_ctrs, h_est, ↓State.foldl_blank, implies_true, forall_const] | split | intro _)

theorem State.endBoot_blank (h_est : msk .est = true) (c : Nat) (s : State) : (State.endBoot c s).blank msk = s.blank msk := by
  simp only [State.endBoot, ↓State.putCls_blank, ↓State.putRef_blank, ↓State.ite_blank, ite_self, h_est, ↓State.foldl_blank, implies_true, forall_const]

theorem State.bootClass_blank (h_evt : msk .evt = true) (h_ctrs : msk .ctrs = true) (h_est : msk .est = true) (c : Nat) (s : State) : (State.bootClass c s).blank msk = s.blank msk := by
  simp only [State.bootClass, ↓State.endBoot_blank, ↓State.setRef_blank, ↓State.withEst_blank, ↓State.ite_blank, ite_self, h_evt, h_ctrs, h_est, ↓State.foldl_blank, implies_true, forall_const]

theorem State.readmitClass_blank (h_evt : msk .evt = true) (h_ctrs : msk .ctrs = true) (h_est : msk .est = true) (c : Nat) (s : State) : (State.readmitClass c s).blank msk = s.blank msk := by
  simp only [State.readmitClass, ↓State.setRef_blank, ↓State.ite_blank, ite_self, h_evt, h_ctrs, h_est, ↓State.foldl_blank, implies_true, forall_const]

theorem State.admitClass_blank (h_evt : msk .evt = true) (h_ctrs : msk .ctrs = true) (h_est : msk .est = true) (c : Nat) (s : State) : (State.admitClass c s).blank msk = s.blank msk := by
  simp only [State.admitClass, ↓State.bootClass_blank, ↓State.readmitClass_blank, ↓State.ite_blank, ite_self, h_evt, h_ctrs, h_est]

theorem State.loseClass_blank (h_evt : msk .evt = true) (h_ctrs : msk .ctrs = true) (h_est : msk .est = true) (c : Nat) (s : State) : (State.loseClass c s).blank msk = s.blank msk := by
  simp only [State.loseClass, ↓State.putCls_blank, ↓State.putRef_blank, ↓State.raise_blank, ↓State.ite_blank, ite_self, h_evt, h_ctrs, h_est, ↓State.foldl_blank, implies_true, forall_const]

theorem State.coastClass_blank (h_evt : msk .evt = true) (h_ctrs : msk .ctrs = true) (h_est : msk .est = true) (c : Nat) (s : State) : (State.coastClass c s).blank msk = s.blank msk := by
  simp only [State.coastClass, ↓State.endBoot_blank, ↓State.loseClass_blank, ↓State.putCls_blank, ↓State.raise_blank, ↓State.ite_blank, ite_self, h_evt, h_ctrs, h_est]

theorem State.seededUntil_blank (h_est : msk .est = true) (s : State) : (State.seededUntil s).blank msk = s.blank msk := by
  simp only [State.seededUntil, ↓State.withEst_blank, ↓State.ite_blank, ite_self, h_est]

theorem State.vote_blank (h_evt : msk .evt = true) (h_ctrs : msk .ctrs = true) (h_est : msk .est = true) (h_ctl : msk .ctl = true) (s : State) : (State.vote s).blank msk = s.blank msk := by
  simp only [State.vote, ↓State.admitClass_blank, ↓State.coastClass_blank, ↓State.disputeClass_blank, ↓State.gateAll_blank, ↓State.gridRadius_blank, ↓State.noteWave_blank, ↓State.removeLeft_blank, ↓State.resetFilters_blank, ↓State.seededUntil_blank, ↓State.silenceAll_blank, ↓State.voteClass_blank, ↓State.withEst_blank, ↓State.ite_blank, ite_self, h_evt, h_ctrs, h_est, h_ctl]

theorem execVote_blank (h_clk : msk .clk = true) (h_crs : msk .crs = true) (h_evt : msk .evt = true) (h_ctrs : msk .ctrs = true) (h_est : msk .est = true) (h_ctl : msk .ctl = true) (t : Nat) (s : State) {t' : State} (h : execVote t s = .next t') : t'.blank msk = s.blank msk := by
  simp only [execVote, Host.Outcome.next.injEq] at h
  subst h
  simp only [↓State.runItem_blank, ↓State.vote_blank, ↓State.ite_blank, ite_self, h_clk, h_crs, h_evt, h_ctrs, h_est, h_ctl, ↓State.foldl_blank, implies_true, forall_const]

theorem execRefSilent_blank (h_clk : msk .clk = true) (h_evt : msk .evt = true) (h_ctrs : msk .ctrs = true) (h_est : msk .est = true) (t ref : Nat) (s : State) {t' : State} (h : execRefSilent t ref s = .next t') : t'.blank msk = s.blank msk := by
  unfold execRefSilent at h
  injection h with h
  subst h
  repeat' (first | with_reducible rfl | assumption | simp only [↓State.instant_blank, ↓State.silenceRef_blank, ↓State.whileRunning_blank, ↓State.ite_blank, ite_self, h_clk, h_evt, h_ctrs, h_est, ↓State.foldl_blank, implies_true, forall_const] | rw [State.whileRunning_blank] | split | intro _)

theorem execRefReadmissionComplete_blank (h_clk : msk .clk = true) (h_evt : msk .evt = true) (h_ctrs : msk .ctrs = true) (h_est : msk .est = true) (t ref : Nat) (s : State) {t' : State} (h : execRefReadmissionComplete t ref s = .next t') : t'.blank msk = s.blank msk := by
  unfold execRefReadmissionComplete at h
  injection h with h
  subst h
  repeat' (first | with_reducible rfl | assumption | simp only [↓State.coastClass_blank, ↓State.instant_blank, ↓State.setRef_blank, ↓State.whileRunning_blank, ↓State.ite_blank, ite_self, h_clk, h_evt, h_ctrs, h_est, ↓State.foldl_blank, implies_true, forall_const] | rw [State.whileRunning_blank] | split | intro _)

theorem execBootstrapAdmission_blank (h_clk : msk .clk = true) (h_evt : msk .evt = true) (h_ctrs : msk .ctrs = true) (h_est : msk .est = true) (t ref : Nat) (s : State) {t' : State} (h : execBootstrapAdmission t ref s = .next t') : t'.blank msk = s.blank msk := by
  unfold execBootstrapAdmission at h
  injection h with h
  subst h
  repeat' (first | with_reducible rfl | assumption | simp only [↓State.bootClass_blank, ↓State.coastClass_blank, ↓State.instant_blank, ↓State.whileRunning_blank, ↓State.ite_blank, ite_self, h_clk, h_evt, h_ctrs, h_est, ↓State.foldl_blank, implies_true, forall_const] | rw [State.whileRunning_blank] | split | intro _)

theorem execClassCoastTimeout_blank (h_clk : msk .clk = true) (h_evt : msk .evt = true) (h_ctrs : msk .ctrs = true) (h_est : msk .est = true) (t cls : Nat) (s : State) {t' : State} (h : execClassCoastTimeout t cls s = .next t') : t'.blank msk = s.blank msk := by
  simp only [execClassCoastTimeout, Host.Outcome.next.injEq] at h
  subst h
  simp only [↓State.instant_blank, ↓State.loseClass_blank, ↓State.whileRunning_blank, ↓State.ite_blank, ite_self, h_clk, h_evt, h_ctrs, h_est, ↓State.foldl_blank, implies_true, forall_const]

end

end Sys2Proof.Machine
end

