-- ==== Sys2Proof/Laws/KeepHostCmd.lean ====
section
/-! SUPPORT. What the operations and commands of Machine/HostCmd.lean leave unchanged. -/

set_option linter.unusedSimpArgs false

namespace Sys2Proof.Machine
open Sys2Proof

section
variable {msk : Part → Bool}

theorem State.takeAnalogTest_blank (h_hrg : msk .hrg = true) (h_sni : msk .sni = true) (w : Waiting) (channel input : Nat) (s : State) : (State.takeAnalogTest w channel input s).blank msk = s.blank msk := by
  simp only [State.takeAnalogTest, ↓State.anaSwitch_blank, ↓State.done_blank, ↓State.refuse_blank, ↓State.setAna_blank, ↓State.ite_blank, ite_self, h_hrg, h_sni]

theorem State.takePointWrite_blank (h_clk : msk .clk = true) (h_evt : msk .evt = true) (h_hrg : msk .hrg = true) (h_pnt : msk .pnt = true) (h_ctrs : msk .ctrs = true) (h_ylk : msk .ylk = true) (h_outbox : msk .outbox = true) (w : Waiting) (n : Nat) (v : Word) (quality typ : Nat) (s : State) : (State.takePointWrite w n v quality typ s).blank msk = s.blank msk := by
  unfold State.takePointWrite
  repeat' (first | with_reducible rfl | assumption | simp only [↓State.count_blank, ↓State.done_blank, ↓State.refuse_blank, ↓State.updateRoute_blank, ↓State.ite_blank, ite_self, h_clk, h_evt, h_hrg, h_pnt, h_ctrs, h_ylk, h_outbox, ↓State.foldl_blank, implies_true, forall_const] | split | intro _)

theorem State.serveNow_blank (h_clk : msk .clk = true) (h_evt : msk .evt = true) (h_hrg : msk .hrg = true) (h_img : msk .img = true) (h_gns : msk .gns = true) (h_pnt : msk .pnt = true) (h_ctrs : msk .ctrs = true) (h_sni : msk .sni = true) (h_est : msk .est = true) (h_csq : msk .csq = true) (h_tim : msk .tim = true) (h_rdn : msk .rdn = true) (h_btr : msk .btr = true) (h_can : msk .can = true) (h_ylk : msk .ylk = true) (h_log : msk .log = true) (h_mem : msk .mem = true) (h_outbox : msk .outbox = true) (w : Waiting) (s : State) : (State.serveNow w s).blank msk = s.blank msk := by
  unfold State.serveNow
  repeat' (first | with_reducible rfl | assumption | simp only [↓State.canRecover_blank, ↓State.done_blank, ↓State.learnLeap_blank, ↓State.serveAllocQuery_blank, ↓State.serveConseqQuery_blank, ↓State.serveCtrlQuery_blank, ↓State.serveEnvelopeQuery_blank, ↓State.serveEstQuery_blank, ↓State.serveGnssQuery_blank, ↓State.serveImageQuery_blank, ↓State.serveRefStatus_blank, ↓State.serveTrimQuery_blank, ↓State.setStream_blank, ↓State.takeAnalogTest_blank, ↓State.takeCanAbort_blank, ↓State.takeCanMode_blank, ↓State.takeCanRecover_blank, ↓State.takeCanSend_blank, ↓State.takeCorrection_blank, ↓State.takeImageActivate_blank, ↓State.takeImageDiscard_blank, ↓State.takeImageLoad_blank, ↓State.takeLogRead_blank, ↓State.takeMemTest_blank, ↓State.takePointWrite_blank, ↓State.takeRoleExchange_blank, ↓State.takeSnapshot_blank, ↓State.withBtr_blank, ↓State.ite_blank, ite_self, h_clk, h_evt, h_hrg, h_img, h_gns, h_pnt, h_ctrs, h_sni, h_est, h_csq, h_tim, h_rdn, h_btr, h_can, h_ylk, h_log, h_mem, h_outbox, ↓State.foldl_blank, implies_true, forall_const] | split | intro _)

theorem State.routeCommand_blank (h_clk : msk .clk = true) (h_evt : msk .evt = true) (h_hrg : msk .hrg = true) (h_img : msk .img = true) (h_gns : msk .gns = true) (h_pnt : msk .pnt = true) (h_ctrs : msk .ctrs = true) (h_sni : msk .sni = true) (h_est : msk .est = true) (h_csq : msk .csq = true) (h_tim : msk .tim = true) (h_rdn : msk .rdn = true) (h_btr : msk .btr = true) (h_can : msk .can = true) (h_ylk : msk .ylk = true) (h_log : msk .log = true) (h_mem : msk .mem = true) (h_outbox : msk .outbox = true) (w : Waiting) (s : State) : (State.routeCommand w s).blank msk = s.blank msk := by
  simp only [State.routeCommand, ↓State.serveNow_blank, ↓State.withHrg_blank, ↓State.withRdn_blank, ↓State.ite_blank, ite_self, h_clk, h_evt, h_hrg, h_img, h_gns, h_pnt, h_ctrs, h_sni, h_est, h_csq, h_tim, h_rdn, h_btr, h_can, h_ylk, h_log, h_mem, h_outbox]

theorem State.markAccepted_blank (h_hrg : msk .hrg = true) (ring ref : Nat) (s : State) : (State.markAccepted ring ref s).blank msk = s.blank msk := by
  simp only [State.markAccepted, ↓State.setRing_blank, ↓State.ite_blank, ite_self, h_hrg]

theorem State.acceptCommand_blank (h_clk : msk .clk = true) (h_evt : msk .evt = true) (h_hrg : msk .hrg = true) (h_img : msk .img = true) (h_gns : msk .gns = true) (h_pnt : msk .pnt = true) (h_ctrs : msk .ctrs = true) (h_sni : msk .sni = true) (h_est : msk .est = true) (h_csq : msk .csq = true) (h_tim : msk .tim = true) (h_rdn : msk .rdn = true) (h_btr : msk .btr = true) (h_can : msk .can = true) (h_ylk : msk .ylk = true) (h_log : msk .log = true) (h_mem : msk .mem = true) (h_outbox : msk .outbox = true) (ref : Nat) (h : CmdHdr) (c : HostCmd) (desc : List Byte) (s : State) : (State.acceptCommand ref h c desc s).blank msk = s.blank msk := by
  simp only [State.acceptCommand, ↓State.markAccepted_blank, ↓State.routeCommand_blank, ↓State.withBuffer_blank, ↓State.ite_blank, ite_self, h_clk, h_evt, h_hrg, h_img, h_gns, h_pnt, h_ctrs, h_sni, h_est, h_csq, h_tim, h_rdn, h_btr, h_can, h_ylk, h_log, h_mem, h_outbox, ↓State.foldl_blank, implies_true, forall_const]

theorem State.releaseFenced_blank (h_clk : msk .clk = true) (h_evt : msk .evt = true) (h_hrg : msk .hrg = true) (h_img : msk .img = true) (h_gns : msk .gns = true) (h_pnt : msk .pnt = true) (h_ctrs : msk .ctrs = true) (h_sni : msk .sni = true) (h_est : msk .est = true) (h_csq : msk .csq = true) (h_tim : msk .tim = true) (h_rdn : msk .rdn = true) (h_btr : msk .btr = true) (h_can : msk .can = true) (h_ylk : msk .ylk = true) (h_log : msk .log = true) (h_mem : msk .mem = true) (h_outbox : msk .outbox = true) (ring : Nat) (s : State) : (State.releaseFenced ring s).blank msk = s.blank msk := by
  unfold State.releaseFenced
  repeat' (first | with_reducible rfl | assumption | simp only [↓State.acceptCommand_blank, ↓State.ite_blank, ite_self, h_clk, h_evt, h_hrg, h_img, h_gns, h_pnt, h_ctrs, h_sni, h_est, h_csq, h_tim, h_rdn, h_btr, h_can, h_ylk, h_log, h_mem, h_outbox, ↓State.foldl_blank, implies_true, forall_const] | split | intro _)

theorem State.pushOutst_blank (h_hrg : msk .hrg = true) (ring code : Nat) (tag : Half) (s : State) : (State.pushOutst ring code tag s).blank msk = s.blank msk := by
  simp only [State.pushOutst, ↓State.setRing_blank, ↓State.withHrg_blank, ↓State.ite_blank, ite_self, h_hrg]

theorem State.setFenced_blank (h_hrg : msk .hrg = true) (ring ref : Nat) (x : CmdHdr × HostCmd × List Byte) (s : State) : (State.setFenced ring ref x s).blank msk = s.blank msk := by
  simp only [State.setFenced, ↓State.setRing_blank, ↓State.ite_blank, ite_self, h_hrg]

theorem State.checkDescriptor_blank (h_clk : msk .clk = true) (h_evt : msk .evt = true) (h_hrg : msk .hrg = true) (h_img : msk .img = true) (h_gns : msk .gns = true) (h_pnt : msk .pnt = true) (h_ctrs : msk .ctrs = true) (h_sni : msk .sni = true) (h_est : msk .est = true) (h_csq : msk .csq = true) (h_tim : msk .tim = true) (h_rdn : msk .rdn = true) (h_btr : msk .btr = true) (h_can : msk .can = true) (h_ylk : msk .ylk = true) (h_log : msk .log = true) (h_mem : msk .mem = true) (h_outbox : msk .outbox = true) (h : CmdHdr) (c : HostCmd) (desc : List Byte) (s : State) : (State.checkDescriptor h c desc s).blank msk = s.blank msk := by
  unfold State.checkDescriptor
  repeat' (first | with_reducible rfl | assumption | simp only [↓State.acceptCommand_blank, ↓State.complete_blank, ↓State.pushOutst_blank, ↓State.setFenced_blank, ↓State.ite_blank, ite_self, h_clk, h_evt, h_hrg, h_img, h_gns, h_pnt, h_ctrs, h_sni, h_est, h_csq, h_tim, h_rdn, h_btr, h_can, h_ylk, h_log, h_mem, h_outbox, ↓State.foldl_blank, implies_true, forall_const] | split | intro _)

theorem State.hostCommand_blank (h_clk : msk .clk = true) (h_evt : msk .evt = true) (h_hrg : msk .hrg = true) (h_img : msk .img = true) (h_gns : msk .gns = true) (h_pnt : msk .pnt = true) (h_ctrs : msk .ctrs = true) (h_sni : msk .sni = true) (h_est : msk .est = true) (h_csq : msk .csq = true) (h_tim : msk .tim = true) (h_rdn : msk .rdn = true) (h_btr : msk .btr = true) (h_can : msk .can = true) (h_ylk : msk .ylk = true) (h_log : msk .log = true) (h_mem : msk .mem = true) (h_outbox : msk .outbox = true) (t : Nat) (h : CmdHdr) (c : HostCmd) (s : State) : (State.hostCommand t h c s).blank msk = s.blank msk := by
  simp only [State.hostCommand, ↓State.checkDescriptor_blank, ↓State.instant_blank, ↓State.whileRunning_blank, ↓State.ite_blank, ite_self, h_clk, h_evt, h_hrg, h_img, h_gns, h_pnt, h_ctrs, h_sni, h_est, h_csq, h_tim, h_rdn, h_btr, h_can, h_ylk, h_log, h_mem, h_outbox, ↓State.foldl_blank, implies_true, forall_const]

end

end Sys2Proof.Machine
end

