-- ==== Sys2Proof/Laws/Commands.lean ====
section
/-! SUPPORT. What taking one descriptor of a host command leaves unchanged, command by command. -/

set_option linter.unusedSimpArgs false
set_option linter.unusedTactic false
set_option linter.unreachableTactic false
set_option linter.unusedVariables false

namespace Sys2Proof.Machine
open Sys2Proof

section
variable {msk : Part → Bool}

/-- Putting the buffer's length right changes no part that a command touches. -/
theorem cmdParts_withLen (h : CmdHdr) (c : HostCmd) : cmdParts (cmdWithLen h c) = cmdParts c := by
  cases c <;> rfl

/-- A synchronised command may join the next pair message. -/
theorem cmdParts_sync (c : HostCmd) (h : syncCmd c = true) : Part.rdn ∈ cmdParts c := by
  cases c <;> first | (simp only [cmdParts, List.mem_cons, reduceCtorEq, true_or, or_true]; done) | cases h

/-- Serving a command at once touches only the command's own parts. -/
theorem State.serveNow_blank_cmd (w : Waiting) (s : State) (h : ∀ p ∈ cmdParts w.cmd, msk p = true) :
    (s.serveNow w).blank msk = s.blank msk := by
  unfold State.serveNow
  generalize w.cmd = c at h ⊢
  cases c
  all_goals simp only [cmdParts, List.mem_cons, List.not_mem_nil, or_false, forall_eq_or_imp, forall_eq] at h
  · obtain ⟨h_clk, h_hrg⟩ := h
    simp only [↓State.done_blank, h_clk, h_hrg]
  · obtain ⟨h_clk, h_hrg, h_img⟩ := h
    simp only [↓State.takeImageLoad_blank, h_clk, h_hrg, h_img]
  · obtain ⟨h_clk, h_hrg, h_img⟩ := h
    simp only [↓State.takeImageActivate_blank, h_clk, h_hrg, h_img]
  · obtain ⟨h_clk, h_hrg, h_img⟩ := h
    simp only [↓State.takeImageDiscard_blank, h_clk, h_hrg, h_img]
  · obtain ⟨h_clk, h_evt, h_hrg, h_ctrs, h_outbox⟩ := h
    simp only [↓State.serveImageQuery_blank, h_clk, h_evt, h_hrg, h_ctrs, h_outbox]
  · obtain ⟨h_clk, h_hrg, h_sni⟩ := h
    simp only [↓State.takeAnalogTest_blank, h_clk, h_hrg, h_sni]
  · obtain ⟨h_clk, h_evt, h_hrg, h_gns, h_ctrs⟩ := h
    simp only [↓State.takeCorrection_blank, h_clk, h_evt, h_hrg, h_gns, h_ctrs]
  · obtain ⟨h_clk, h_evt, h_hrg, h_gns, h_ctrs, h_mem⟩ := h
    simp only [↓State.takeSnapshot_blank, h_clk, h_evt, h_hrg, h_gns, h_ctrs, h_mem]
  · obtain ⟨h_clk, h_evt, h_hrg, h_ctrs, h_outbox⟩ := h
    simp only [↓State.serveGnssQuery_blank, h_clk, h_evt, h_hrg, h_ctrs, h_outbox]
  · rfl
  · rfl
  · rfl
  · obtain ⟨h_clk, h_evt, h_hrg, h_ctrs, h_est, h_outbox⟩ := h
    simp only [↓State.serveRefStatus_blank, h_clk, h_evt, h_hrg, h_ctrs, h_est, h_outbox]
  · obtain ⟨h_clk, h_evt, h_hrg, h_ctrs, h_outbox⟩ := h
    simp only [↓State.serveEstQuery_blank, h_clk, h_evt, h_hrg, h_ctrs, h_outbox]
  · rfl
  · rfl
  · rfl
  · rfl
  · rfl
  · obtain ⟨h_clk, h_evt, h_hrg, h_ctrs, h_outbox⟩ := h
    simp only [↓State.serveCtrlQuery_blank, h_clk, h_evt, h_hrg, h_ctrs, h_outbox]
  · rfl
  · obtain ⟨h_clk, h_evt, h_hrg, h_ctrs, h_outbox⟩ := h
    simp only [↓State.serveAllocQuery_blank, h_clk, h_evt, h_hrg, h_ctrs, h_outbox]
  · obtain ⟨h_clk, h_evt, h_hrg, h_ctrs, h_csq, h_outbox⟩ := h
    simp only [↓State.serveConseqQuery_blank, h_clk, h_evt, h_hrg, h_ctrs, h_csq, h_outbox]
  · obtain ⟨h_clk, h_evt, h_hrg, h_ctrs, h_outbox⟩ := h
    simp only [↓State.serveEnvelopeQuery_blank, h_clk, h_evt, h_hrg, h_ctrs, h_outbox]
  · rfl
  · rfl
  · rfl
  · obtain ⟨h_clk, h_evt, h_hrg, h_ctrs, h_outbox⟩ := h
    simp only [↓State.serveTrimQuery_blank, h_clk, h_evt, h_hrg, h_ctrs, h_outbox]
  · rfl
  · rfl
  · obtain ⟨h_clk, h_evt, h_hrg, h_ctrs, h_tim⟩ := h
    simp only [↓State.learnLeap_blank, ↓State.done_blank, h_clk, h_evt, h_hrg, h_ctrs, h_tim]
  · rfl
  · obtain ⟨h_clk, h_evt, h_hrg, h_ctrs, h_rdn⟩ := h
    simp only [↓State.takeRoleExchange_blank, h_clk, h_evt, h_hrg, h_ctrs, h_rdn]
  · obtain ⟨h_clk, h_hrg, h_btr⟩ := h
    simp only [↓State.withBtr_blank, h_clk, h_hrg, h_btr]
  · obtain ⟨h_clk, h_hrg, h_btr⟩ := h
    simp only [↓State.withBtr_blank, h_clk, h_hrg, h_btr]
  · obtain ⟨h_clk, h_evt, h_hrg, h_pnt, h_ctrs, h_ylk, h_outbox⟩ := h
    simp only [↓State.takePointWrite_blank, h_clk, h_evt, h_hrg, h_pnt, h_ctrs, h_ylk, h_outbox]
  · obtain ⟨h_clk, h_evt, h_hrg, h_pnt, h_ctrs⟩ := h
    simp only [↓State.setStream_blank, ↓State.done_blank, h_clk, h_evt, h_hrg, h_pnt, h_ctrs]
  · obtain ⟨h_clk, h_evt, h_hrg, h_ctrs, h_can⟩ := h
    simp only [↓State.takeCanSend_blank, h_clk, h_evt, h_hrg, h_ctrs, h_can]
  · obtain ⟨h_clk, h_evt, h_hrg, h_ctrs, h_can⟩ := h
    simp only [↓State.takeCanAbort_blank, h_clk, h_evt, h_hrg, h_ctrs, h_can]
  · obtain ⟨h_clk, h_evt, h_hrg, h_ctrs, h_can⟩ := h
    simp only [↓State.takeCanRecover_blank, h_clk, h_evt, h_hrg, h_ctrs, h_can]
  · obtain ⟨h_clk, h_hrg, h_can⟩ := h
    simp only [↓State.takeCanMode_blank, h_clk, h_hrg, h_can]
  · obtain ⟨h_clk, h_hrg, h_log⟩ := h
    simp only [↓State.takeLogRead_blank, h_clk, h_hrg, h_log]
  · obtain ⟨h_clk, h_hrg, h_mem⟩ := h
    simp only [↓State.takeMemTest_blank, h_clk, h_hrg, h_mem]

/-- An accepted command that is routed touches only the command's own parts. -/
theorem State.routeCommand_blank_cmd (w : Waiting) (s : State) (h : ∀ p ∈ cmdParts w.cmd, msk p = true) :
    (s.routeCommand w).blank msk = s.blank msk := by
  have h_hrg : msk .hrg = true := h _ (by generalize w.cmd = c; cases c <;> simp [cmdParts])
  unfold State.routeCommand
  rw [State.ite_blank]
  split
  · rename_i hs
    have h_rdn : msk .rdn = true := by
      exact h _ (cmdParts_sync _ hs.1)
    exact State.withRdn_blank h_rdn _ _
  · rw [State.ite_blank]
    split
    · exact State.withHrg_blank h_hrg _ _
    · exact State.serveNow_blank_cmd w s h

/-- Taking one descriptor of a host command touches only the command's own parts. -/
theorem State.hostCommand_blank_cmd (t : Nat) (hd : CmdHdr) (c : HostCmd) (s : State)
    (h : ∀ p ∈ cmdParts c, msk p = true) : (s.hostCommand t hd c).blank msk = s.blank msk := by
  have h_clk : msk .clk = true := h _ (by cases c <;> simp [cmdParts])
  have h_hrg : msk .hrg = true := h _ (by cases c <;> simp [cmdParts])
  unfold State.hostCommand
  rw [State.whileRunning_blank]
  · exact State.instant_blank h_clk _ _
  intro s
  rw [State.ite_blank]
  split
  · unfold State.checkDescriptor
    dsimp only
    split
    · simp only [↓State.complete_blank, ↓State.pushOutst_blank, h_hrg]
    · rw [State.ite_blank, State.ite_blank]
      split
      · simp only [↓State.complete_blank, ↓State.pushOutst_blank, h_hrg]
      · split
        · simp only [↓State.setFenced_blank, ↓State.pushOutst_blank, h_hrg]
        · unfold State.acceptCommand
          dsimp only
          rw [State.ite_blank]
          split
          · rename_i hr
            have he : msk .evt = true ∧ msk .ctrs = true := by
              constructor <;> refine h _ ?_ <;> cases c <;> first | (simp [cmdParts]; done) | simp [readsBuffer] at hr
            rw [State.withBuffer_blank he.1 h_hrg he.2]
            · simp only [↓State.markAccepted_blank, ↓State.pushOutst_blank, h_hrg]
            · exact fun s => State.routeCommand_blank_cmd _ s (by simpa only [cmdParts_withLen] using h)
          · rw [State.routeCommand_blank_cmd _ _ (by simpa only [cmdParts_withLen] using h)]
            simp only [↓State.markAccepted_blank, ↓State.pushOutst_blank, h_hrg]
  · rfl

end

end Sys2Proof.Machine
end

