-- ==== Sys2Proof/Laws/KeepButtress.lean ====
section
/-! SUPPORT. What the operations and commands of Machine/Buttress.lean leave unchanged. -/

set_option linter.unusedSimpArgs false

namespace Sys2Proof.Machine
open Sys2Proof

section
variable {msk : Part → Bool}

theorem State.btrPublish_blank (h_evt : msk .evt = true) (h_ctrs : msk .ctrs = true) (h_btr : msk .btr = true) (m : Half) (s : State) : (State.btrPublish m s).blank msk = s.blank msk := by
  simp only [State.btrPublish, ↓State.raise_blank, ↓State.withBtr_blank, ↓State.ite_blank, ite_self, h_evt, h_ctrs, h_btr]

theorem State.setBtrOut_blank (h_btr : msk .btr = true) (o : Nat) (x : BtrOut) (s : State) : (State.setBtrOut o x s).blank msk = s.blank msk := by
  simp only [State.setBtrOut, ↓State.withBtr_blank, ↓State.ite_blank, ite_self, h_btr]

theorem State.btrRequest_blank (h_btr : msk .btr = true) (s : State) : (State.btrRequest s).blank msk = s.blank msk := by
  simp only [State.btrRequest, ↓State.setBtrOut_blank, ↓State.withBtr_blank, ↓State.ite_blank, ite_self, h_btr, ↓State.foldl_blank, implies_true, forall_const]

theorem State.btrReady_blank (h_evt : msk .evt = true) (h_ctrs : msk .ctrs = true) (h_btr : msk .btr = true) (s : State) : (State.btrReady s).blank msk = s.blank msk := by
  simp only [State.btrReady, ↓State.btrRequest_blank, ↓State.raise_blank, ↓State.withBtr_blank, ↓State.ite_blank, ite_self, h_evt, h_ctrs, h_btr]

theorem State.btrSwitch_blank (h_evt : msk .evt = true) (h_ctrs : msk .ctrs = true) (h_btr : msk .btr = true) (h_outbox : msk .outbox = true) (o : Nat) (on : Bool) (s : State) : (State.btrSwitch o on s).blank msk = s.blank msk := by
  unfold State.btrSwitch
  repeat' (first | with_reducible rfl | assumption | simp only [↓State.count_blank, ↓State.emit_blank, ↓State.raise_blank, ↓State.setBtrOut_blank, ↓State.ite_blank, ite_self, h_evt, h_ctrs, h_btr, h_outbox, ↓State.foldl_blank, implies_true, forall_const] | split | intro _)

theorem State.endStartTest_blank (h_btr : msk .btr = true) (h_outbox : msk .outbox = true) (o : Nat) (s : State) : (State.endStartTest o s).blank msk = s.blank msk := by
  simp only [State.endStartTest, ↓State.emit_blank, ↓State.setBtrOut_blank, ↓State.ite_blank, ite_self, h_btr, h_outbox]

theorem State.activateButtress_blank (h_evt : msk .evt = true) (h_ctrs : msk .ctrs = true) (h_btr : msk .btr = true) (h_outbox : msk .outbox = true) (old : List Byte) (s : State) : (State.activateButtress old s).blank msk = s.blank msk := by
  simp only [State.activateButtress, ↓State.btrPublish_blank, ↓State.btrReady_blank, ↓State.btrSwitch_blank, ↓State.endStartTest_blank, ↓State.setBtrOut_blank, ↓State.withBtr_blank, ↓State.ite_blank, ite_self, h_evt, h_ctrs, h_btr, h_outbox, ↓State.foldl_blank, implies_true, forall_const]

theorem State.setBtrIn_blank (h_btr : msk .btr = true) (i : Nat) (x : BtrIn) (s : State) : (State.setBtrIn i x s).blank msk = s.blank msk := by
  simp only [State.setBtrIn, ↓State.withBtr_blank, ↓State.ite_blank, ite_self, h_btr]

theorem State.setBtrRem_blank (h_btr : msk .btr = true) (n : Nat) (x : BtrRem) (s : State) : (State.setBtrRem n x s).blank msk = s.blank msk := by
  simp only [State.setBtrRem, ↓State.withBtr_blank, ↓State.ite_blank, ite_self, h_btr]

theorem State.btrLatchOff_blank (h_evt : msk .evt = true) (h_ctrs : msk .ctrs = true) (h_btr : msk .btr = true) (h_outbox : msk .outbox = true) (o : Nat) (s : State) : (State.btrLatchOff o s).blank msk = s.blank msk := by
  simp only [State.btrLatchOff, ↓State.btrSwitch_blank, ↓State.raise_blank, ↓State.setBtrOut_blank, ↓State.ite_blank, ite_self, h_evt, h_ctrs, h_btr, h_outbox]

theorem State.btrTestFail_blank (h_evt : msk .evt = true) (h_ctrs : msk .ctrs = true) (o : Nat) (s : State) : (State.btrTestFail o s).blank msk = s.blank msk := by
  simp only [State.btrTestFail, ↓State.count_blank, ↓State.raise_blank, ↓State.ite_blank, ite_self, h_evt, h_ctrs]

theorem State.sendSafety_blank (h_clk : msk .clk = true) (h_evt : msk .evt = true) (h_ctrs : msk .ctrs = true) (h_btr : msk .btr = true) (h_outbox : msk .outbox = true) (flags : Nat) (s : State) : (State.sendSafety flags s).blank msk = s.blank msk := by
  simp only [State.sendSafety, ↓State.count_blank, ↓State.emit_blank, ↓State.raise_blank, ↓State.useFree_blank, ↓State.withBtr_blank, ↓State.ite_blank, ite_self, h_clk, h_evt, h_ctrs, h_btr, h_outbox, ↓State.foldl_blank, implies_true, forall_const]

theorem State.btrDiscrepancy_blank (h_evt : msk .evt = true) (h_ctrs : msk .ctrs = true) (h_btr : msk .btr = true) (i : Nat) (s : State) : (State.btrDiscrepancy i s).blank msk = s.blank msk := by
  simp only [State.btrDiscrepancy, ↓State.count_blank, ↓State.raise_blank, ↓State.setBtrIn_blank, ↓State.ite_blank, ite_self, h_evt, h_ctrs, h_btr]

theorem State.btrDiscClear_blank (h_evt : msk .evt = true) (h_ctrs : msk .ctrs = true) (h_btr : msk .btr = true) (i : Nat) (da db : Bool) (s : State) : (State.btrDiscClear i da db s).blank msk = s.blank msk := by
  simp only [State.btrDiscClear, ↓State.raise_blank, ↓State.setBtrIn_blank, ↓State.ite_blank, ite_self, h_evt, h_ctrs, h_btr]

theorem State.btrSample_blank (h_evt : msk .evt = true) (h_ctrs : msk .ctrs = true) (h_btr : msk .btr = true) (a b : Bool) (i : Nat) (s : State) : (State.btrSample a b i s).blank msk = s.blank msk := by
  simp only [State.btrSample, ↓State.btrDiscClear_blank, ↓State.btrDiscrepancy_blank, ↓State.setBtrIn_blank, ↓State.ite_blank, ite_self, h_evt, h_ctrs, h_btr]

theorem State.btrDemand_blank (h_evt : msk .evt = true) (h_ctrs : msk .ctrs = true) (h_btr : msk .btr = true) (i : Nat) (s : State) : (State.btrDemand i s).blank msk = s.blank msk := by
  simp only [State.btrDemand, ↓State.raise_blank, ↓State.setBtrIn_blank, ↓State.ite_blank, ite_self, h_evt, h_ctrs, h_btr]

theorem State.btrRemoteLost_blank (h_evt : msk .evt = true) (h_ctrs : msk .ctrs = true) (h_btr : msk .btr = true) (n : Nat) (s : State) : (State.btrRemoteLost n s).blank msk = s.blank msk := by
  simp only [State.btrRemoteLost, ↓State.raise_blank, ↓State.setBtrRem_blank, ↓State.ite_blank, ite_self, h_evt, h_ctrs, h_btr]

theorem State.btrCopyTimeout_blank (h_evt : msk .evt = true) (h_ctrs : msk .ctrs = true) (h_btr : msk .btr = true) (n : Nat) (s : State) : (State.btrCopyTimeout n s).blank msk = s.blank msk := by
  simp only [State.btrCopyTimeout, ↓State.raise_blank, ↓State.setBtrRem_blank, ↓State.ite_blank, ite_self, h_evt, h_ctrs, h_btr]

theorem State.btrRemoteLimit_blank (h_evt : msk .evt = true) (h_ctrs : msk .ctrs = true) (h_btr : msk .btr = true) (n : Nat) (s : State) : (State.btrRemoteLimit n s).blank msk = s.blank msk := by
  unfold State.btrRemoteLimit
  repeat' (first | with_reducible rfl | assumption | simp only [↓State.raise_blank, ↓State.setBtrRem_blank, ↓State.ite_blank, ite_self, h_evt, h_ctrs, h_btr, ↓State.foldl_blank, implies_true, forall_const] | split | intro _)

theorem State.btrOutputLimit_blank (h_evt : msk .evt = true) (h_ctrs : msk .ctrs = true) (h_btr : msk .btr = true) (h_outbox : msk .outbox = true) (o : Nat) (s : State) : (State.btrOutputLimit o s).blank msk = s.blank msk := by
  unfold State.btrOutputLimit
  repeat' (first | with_reducible rfl | assumption | simp only [↓State.btrLatchOff_blank, ↓State.raise_blank, ↓State.ite_blank, ite_self, h_evt, h_ctrs, h_btr, h_outbox, ↓State.foldl_blank, implies_true, forall_const] | split | intro _)

theorem State.btrRemoteTick_blank (h_evt : msk .evt = true) (h_ctrs : msk .ctrs = true) (h_btr : msk .btr = true) (n : Nat) (s : State) : (State.btrRemoteTick n s).blank msk = s.blank msk := by
  simp only [State.btrRemoteTick, ↓State.btrCopyTimeout_blank, ↓State.btrRemoteLimit_blank, ↓State.btrRemoteLost_blank, ↓State.setBtrRem_blank, ↓State.ite_blank, ite_self, h_evt, h_ctrs, h_btr]

theorem State.btrRemoteDemand_blank (h_btr : msk .btr = true) (n : Nat) (s : State) : (State.btrRemoteDemand n s).blank msk = s.blank msk := by
  simp only [State.btrRemoteDemand, ↓State.setBtrRem_blank, ↓State.ite_blank, ite_self, h_btr]

theorem State.btrCopiesGood_blank (h_evt : msk .evt = true) (h_ctrs : msk .ctrs = true) (h_btr : msk .btr = true) (n : Nat) (s : State) : (State.btrCopiesGood n s).blank msk = s.blank msk := by
  simp only [State.btrCopiesGood, ↓State.raise_blank, ↓State.setBtrRem_blank, ↓State.ite_blank, ite_self, h_evt, h_ctrs, h_btr]

theorem State.btrAgree_blank (h_evt : msk .evt = true) (h_ctrs : msk .ctrs = true) (h_btr : msk .btr = true) (n : Nat) (stop : Bool) (s : State) : (State.btrAgree n stop s).blank msk = s.blank msk := by
  simp only [State.btrAgree, ↓State.raise_blank, ↓State.setBtrRem_blank, ↓State.ite_blank, ite_self, h_evt, h_ctrs, h_btr]

theorem State.btrFrame_blank (h_evt : msk .evt = true) (h_ctrs : msk .ctrs = true) (h_btr : msk .btr = true) (port : Port) (n : Nat) (b : List Byte) (s : State) : (State.btrFrame port n b s).blank msk = s.blank msk := by
  unfold State.btrFrame
  repeat' (first | with_reducible rfl | assumption | simp only [↓State.btrAgree_blank, ↓State.btrCopiesGood_blank, ↓State.raise_blank, ↓State.setBtrRem_blank, ↓State.ite_blank, ite_self, h_evt, h_ctrs, h_btr, ↓State.foldl_blank, implies_true, forall_const] | split | intro _)

theorem execSafetyFrameRx_blank (h_clk : msk .clk = true) (h_evt : msk .evt = true) (h_ctrs : msk .ctrs = true) (h_btr : msk .btr = true) (t : Nat) (port : Port) (bytes : List Byte) (s : State) {t' : State} (h : execSafetyFrameRx t port bytes s = .next t') : t'.blank msk = s.blank msk := by
  unfold execSafetyFrameRx at h
  injection h with h
  subst h
  repeat' (first | with_reducible rfl | assumption | simp only [↓State.btrFrame_blank, ↓State.count_blank, ↓State.instant_blank, ↓State.whileRunning_blank, ↓State.ite_blank, ite_self, h_clk, h_evt, h_ctrs, h_btr, ↓State.foldl_blank, implies_true, forall_const] | rw [State.whileRunning_blank] | split | intro _)

theorem State.takeBtrReset_blank (h_evt : msk .evt = true) (h_hrg : msk .hrg = true) (h_ctrs : msk .ctrs = true) (h_btr : msk .btr = true) (w : Waiting) (inputs : Half) (remotes outputs : Byte) (s : State) : (State.takeBtrReset w inputs remotes outputs s).blank msk = s.blank msk := by
  simp only [State.takeBtrReset, ↓State.done_blank, ↓State.raise_blank, ↓State.refuse_blank, ↓State.setBtrIn_blank, ↓State.setBtrOut_blank, ↓State.setBtrRem_blank, ↓State.ite_blank, ite_self, h_evt, h_hrg, h_ctrs, h_btr, ↓State.foldl_blank, implies_true, forall_const]

theorem State.takeBtrOutput_blank (h_hrg : msk .hrg = true) (h_btr : msk .btr = true) (w : Waiting) (changed on : Byte) (s : State) : (State.takeBtrOutput w changed on s).blank msk = s.blank msk := by
  simp only [State.takeBtrOutput, ↓State.done_blank, ↓State.setBtrOut_blank, ↓State.ite_blank, ite_self, h_hrg, h_btr, ↓State.foldl_blank, implies_true, forall_const]

theorem State.btrCommands_blank (h_evt : msk .evt = true) (h_hrg : msk .hrg = true) (h_ctrs : msk .ctrs = true) (h_btr : msk .btr = true) (s : State) : (State.btrCommands s).blank msk = s.blank msk := by
  unfold State.btrCommands
  repeat' (first | with_reducible rfl | assumption | simp only [↓State.takeBtrOutput_blank, ↓State.takeBtrReset_blank, ↓State.withBtr_blank, ↓State.ite_blank, ite_self, h_evt, h_hrg, h_ctrs, h_btr, ↓State.foldl_blank, implies_true, forall_const] | split | intro _ | rw [State.foldl_blank])

theorem State.btrReadback_blank (h_evt : msk .evt = true) (h_ctrs : msk .ctrs = true) (h_btr : msk .btr = true) (h_outbox : msk .outbox = true) (h l : Bool) (o : Nat) (s : State) : (State.btrReadback h l o s).blank msk = s.blank msk := by
  simp only [State.btrReadback, ↓State.btrLatchOff_blank, ↓State.btrTestFail_blank, ↓State.setBtrOut_blank, ↓State.ite_blank, ite_self, h_evt, h_ctrs, h_btr, h_outbox]

theorem State.btrOutputTick_blank (h_evt : msk .evt = true) (h_ctrs : msk .ctrs = true) (h_btr : msk .btr = true) (h_outbox : msk .outbox = true) (forced : Byte) (o : Nat) (s : State) : (State.btrOutputTick forced o s).blank msk = s.blank msk := by
  simp only [State.btrOutputTick, ↓State.btrOutputLimit_blank, ↓State.btrSwitch_blank, ↓State.setBtrOut_blank, ↓State.ite_blank, ite_self, h_evt, h_ctrs, h_btr, h_outbox]

theorem State.forwardMask_blank (h_clk : msk .clk = true) (h_evt : msk .evt = true) (h_ctrs : msk .ctrs = true) (h_btr : msk .btr = true) (h_ylk : msk .ylk = true) (h_outbox : msk .outbox = true) (s : State) : (State.forwardMask s).blank msk = s.blank msk := by
  simp only [State.forwardMask, ↓State.sendLink_blank, ↓State.withBtr_blank, ↓State.ite_blank, ite_self, h_clk, h_evt, h_ctrs, h_btr, h_ylk, h_outbox]

theorem State.buttressCourse_blank (h_clk : msk .clk = true) (h_evt : msk .evt = true) (h_hrg : msk .hrg = true) (h_ctrs : msk .ctrs = true) (h_btr : msk .btr = true) (h_ylk : msk .ylk = true) (h_outbox : msk .outbox = true) (chA chB : Half) (readH readL : Byte) (s : State) : (State.buttressCourse chA chB readH readL s).blank msk = s.blank msk := by
  simp only [State.buttressCourse, ↓State.btrCommands_blank, ↓State.btrDemand_blank, ↓State.btrOutputTick_blank, ↓State.btrPublish_blank, ↓State.btrReadback_blank, ↓State.btrReady_blank, ↓State.btrRemoteDemand_blank, ↓State.btrRemoteTick_blank, ↓State.btrSample_blank, ↓State.forwardMask_blank, ↓State.instant_blank, ↓State.sendSafety_blank, ↓State.withBtr_blank, ↓State.ite_blank, ite_self, h_clk, h_evt, h_hrg, h_ctrs, h_btr, h_ylk, h_outbox, ↓State.foldl_blank, implies_true, forall_const]

theorem execButtressCourse_blank (h_clk : msk .clk = true) (h_evt : msk .evt = true) (h_hrg : msk .hrg = true) (h_ctrs : msk .ctrs = true) (h_btr : msk .btr = true) (h_ylk : msk .ylk = true) (h_outbox : msk .outbox = true) (chA chB : Half) (readH readL : Byte) (s : State) {t' : State} (h : execButtressCourse chA chB readH readL s = .next t') : t'.blank msk = s.blank msk := by
  simp only [execButtressCourse, Host.Outcome.next.injEq] at h
  subst h
  simp only [↓State.buttressCourse_blank, ↓State.instant_blank, ↓State.whileRunning_blank, ↓State.ite_blank, ite_self, h_clk, h_evt, h_hrg, h_ctrs, h_btr, h_ylk, h_outbox, ↓State.foldl_blank, implies_true, forall_const]

theorem execDiscrepancyFault_blank (h_clk : msk .clk = true) (h_evt : msk .evt = true) (h_ctrs : msk .ctrs = true) (h_btr : msk .btr = true) (t input : Nat) (s : State) {t' : State} (h : execDiscrepancyFault t input s = .next t') : t'.blank msk = s.blank msk := by
  simp only [execDiscrepancyFault, Host.Outcome.next.injEq] at h
  subst h
  simp only [↓State.btrDiscrepancy_blank, ↓State.instant_blank, ↓State.whileRunning_blank, ↓State.ite_blank, ite_self, h_clk, h_evt, h_ctrs, h_btr, ↓State.foldl_blank, implies_true, forall_const]

theorem execSafetyCopyTimeout_blank (h_clk : msk .clk = true) (h_evt : msk .evt = true) (h_ctrs : msk .ctrs = true) (h_btr : msk .btr = true) (t number : Nat) (s : State) {t' : State} (h : execSafetyCopyTimeout t number s = .next t') : t'.blank msk = s.blank msk := by
  simp only [execSafetyCopyTimeout, Host.Outcome.next.injEq] at h
  subst h
  simp only [↓State.btrCopyTimeout_blank, ↓State.instant_blank, ↓State.whileRunning_blank, ↓State.ite_blank, ite_self, h_clk, h_evt, h_ctrs, h_btr, ↓State.foldl_blank, implies_true, forall_const]

theorem execRemoteSourceLost_blank (h_clk : msk .clk = true) (h_evt : msk .evt = true) (h_ctrs : msk .ctrs = true) (h_btr : msk .btr = true) (t number : Nat) (s : State) {t' : State} (h : execRemoteSourceLost t number s = .next t') : t'.blank msk = s.blank msk := by
  simp only [execRemoteSourceLost, Host.Outcome.next.injEq] at h
  subst h
  simp only [↓State.btrRemoteLost_blank, ↓State.instant_blank, ↓State.whileRunning_blank, ↓State.ite_blank, ite_self, h_clk, h_evt, h_ctrs, h_btr, ↓State.foldl_blank, implies_true, forall_const]

theorem execDegradedLimit_blank (h_clk : msk .clk = true) (h_evt : msk .evt = true) (h_ctrs : msk .ctrs = true) (h_btr : msk .btr = true) (h_outbox : msk .outbox = true) (t : Nat) (remote : Bool) (number : Nat) (s : State) {t' : State} (h : execDegradedLimit t remote number s = .next t') : t'.blank msk = s.blank msk := by
  simp only [execDegradedLimit, Host.Outcome.next.injEq] at h
  subst h
  simp only [↓State.btrOutputLimit_blank, ↓State.btrRemoteLimit_blank, ↓State.instant_blank, ↓State.whileRunning_blank, ↓State.ite_blank, ite_self, h_clk, h_evt, h_ctrs, h_btr, h_outbox, ↓State.foldl_blank, implies_true, forall_const]

theorem execOutputStartupTest_blank (h_clk : msk .clk = true) (h_evt : msk .evt = true) (h_ctrs : msk .ctrs = true) (h_btr : msk .btr = true) (h_outbox : msk .outbox = true) (t output : Nat) (good : Bool) (s : State) {t' : State} (h : execOutputStartupTest t output good s = .next t') : t'.blank msk = s.blank msk := by
  unfold execOutputStartupTest at h
  injection h with h
  subst h
  repeat' (first | with_reducible rfl | assumption | simp only [↓State.btrTestFail_blank, ↓State.emit_blank, ↓State.instant_blank, ↓State.setBtrOut_blank, ↓State.whileRunning_blank, ↓State.ite_blank, ite_self, h_clk, h_evt, h_ctrs, h_btr, h_outbox, ↓State.foldl_blank, implies_true, forall_const] | rw [State.whileRunning_blank] | split | intro _)

theorem execOutputTestStart_blank (h_clk : msk .clk = true) (h_btr : msk .btr = true) (h_outbox : msk .outbox = true) (output : Nat) (s : State) {t' : State} (h : execOutputTestStart output s = .next t') : t'.blank msk = s.blank msk := by
  simp only [execOutputTestStart, Host.Outcome.next.injEq] at h
  subst h
  simp only [↓State.emit_blank, ↓State.instant_blank, ↓State.setBtrOut_blank, ↓State.whileRunning_blank, ↓State.ite_blank, ite_self, h_clk, h_btr, h_outbox, ↓State.foldl_blank, implies_true, forall_const]

theorem State.btrVerdict_blank (h_evt : msk .evt = true) (h_ctrs : msk .ctrs = true) (h_btr : msk .btr = true) (h_outbox : msk .outbox = true) (o : Nat) (h openRead closedRead : Bool) (s : State) : (State.btrVerdict o h openRead closedRead s).blank msk = s.blank msk := by
  simp only [State.btrVerdict, ↓State.btrLatchOff_blank, ↓State.btrTestFail_blank, ↓State.raise_blank, ↓State.setBtrOut_blank, ↓State.ite_blank, ite_self, h_evt, h_ctrs, h_btr, h_outbox]

theorem execOutputTestEnd_blank (h_clk : msk .clk = true) (h_evt : msk .evt = true) (h_ctrs : msk .ctrs = true) (h_btr : msk .btr = true) (h_outbox : msk .outbox = true) (output : Nat) (openRead closedRead : Bool) (s : State) {t' : State} (h : execOutputTestEnd output openRead closedRead s = .next t') : t'.blank msk = s.blank msk := by
  unfold execOutputTestEnd at h
  injection h with h
  subst h
  repeat' (first | with_reducible rfl | assumption | simp only [↓State.btrVerdict_blank, ↓State.emit_blank, ↓State.instant_blank, ↓State.setBtrOut_blank, ↓State.whileRunning_blank, ↓State.ite_blank, ite_self, h_clk, h_evt, h_ctrs, h_btr, h_outbox, ↓State.foldl_blank, implies_true, forall_const] | rw [State.whileRunning_blank] | split | intro _)

theorem execSafeOutputCurrentLimit_blank (h_clk : msk .clk = true) (h_btr : msk .btr = true) (h_outbox : msk .outbox = true) (t output : Nat) (high : Bool) (s : State) {t' : State} (h : execSafeOutputCurrentLimit t output high s = .next t') : t'.blank msk = s.blank msk := by
  simp only [execSafeOutputCurrentLimit, Host.Outcome.next.injEq] at h
  subst h
  simp only [↓State.emit_blank, ↓State.instant_blank, ↓State.setBtrOut_blank, ↓State.whileRunning_blank, ↓State.ite_blank, ite_self, h_clk, h_btr, h_outbox, ↓State.foldl_blank, implies_true, forall_const]

theorem State.islandFault_blank (h_evt : msk .evt = true) (h_ctrs : msk .ctrs = true) (h_btr : msk .btr = true) (h_outbox : msk .outbox = true) (s : State) : (State.islandFault s).blank msk = s.blank msk := by
  simp only [State.islandFault, ↓State.btrPublish_blank, ↓State.btrReady_blank, ↓State.emit_blank, ↓State.raise_blank, ↓State.setBtrOut_blank, ↓State.withBtr_blank, ↓State.ite_blank, ite_self, h_evt, h_ctrs, h_btr, h_outbox, ↓State.foldl_blank, implies_true, forall_const]

theorem execIslandFault_blank (h_clk : msk .clk = true) (h_evt : msk .evt = true) (h_ctrs : msk .ctrs = true) (h_btr : msk .btr = true) (h_outbox : msk .outbox = true) (t : Nat) (s : State) {t' : State} (h : execIslandFault t s = .next t') : t'.blank msk = s.blank msk := by
  simp only [execIslandFault, Host.Outcome.next.injEq] at h
  subst h
  simp only [↓State.instant_blank, ↓State.islandFault_blank, ↓State.ite_blank, ite_self, h_clk, h_evt, h_ctrs, h_btr, h_outbox]

theorem State.watchBeat_blank (h_btr : msk .btr = true) (s : State) : (State.watchBeat s).blank msk = s.blank msk := by
  simp only [State.watchBeat, ↓State.withBtr_blank, ↓State.ite_blank, ite_self, h_btr]

theorem execButtressBeatLoss_blank (h_clk : msk .clk = true) (h_evt : msk .evt = true) (h_ctrs : msk .ctrs = true) (h_btr : msk .btr = true) (t : Nat) (s : State) {t' : State} (h : execButtressBeatLoss t s = .next t') : t'.blank msk = s.blank msk := by
  simp only [execButtressBeatLoss, Host.Outcome.next.injEq] at h
  subst h
  simp only [↓State.btrPublish_blank, ↓State.instant_blank, ↓State.raise_blank, ↓State.whileRunning_blank, ↓State.withBtr_blank, ↓State.ite_blank, ite_self, h_clk, h_evt, h_ctrs, h_btr, ↓State.foldl_blank, implies_true, forall_const]

theorem State.confirmCheck_blank (h_evt : msk .evt = true) (h_ctrs : msk .ctrs = true) (h_btr : msk .btr = true) (s : State) : (State.confirmCheck s).blank msk = s.blank msk := by
  unfold State.confirmCheck
  repeat' (first | with_reducible rfl | assumption | simp only [↓State.count_blank, ↓State.raise_blank, ↓State.withBtr_blank, ↓State.ite_blank, ite_self, h_evt, h_ctrs, h_btr, ↓State.foldl_blank, implies_true, forall_const] | split | intro _)

theorem execConfirm_blank (h_clk : msk .clk = true) (h_crs : msk .crs = true) (h_evt : msk .evt = true) (h_ctrs : msk .ctrs = true) (h_btr : msk .btr = true) (h_outbox : msk .outbox = true) (t : Nat) (s : State) {t' : State} (h : execConfirm t s = .next t') : t'.blank msk = s.blank msk := by
  simp only [execConfirm, Host.Outcome.next.injEq] at h
  subst h
  simp only [↓State.btrReady_blank, ↓State.confirmCheck_blank, ↓State.runItem_blank, ↓State.sendSafety_blank, ↓State.withBtr_blank, ↓State.ite_blank, ite_self, h_clk, h_crs, h_evt, h_ctrs, h_btr, h_outbox, ↓State.foldl_blank, implies_true, forall_const]

theorem execConfirmMiss_blank (h_clk : msk .clk = true) (h_crs : msk .crs = true) (h_evt : msk .evt = true) (h_ctrs : msk .ctrs = true) (h_btr : msk .btr = true) (h_outbox : msk .outbox = true) (t : Nat) (s : State) {t' : State} (h : execConfirmMiss t s = .next t') : t'.blank msk = s.blank msk := by
  simp only [execConfirmMiss, Host.Outcome.next.injEq] at h
  subst h
  simp only [↓State.btrReady_blank, ↓State.count_blank, ↓State.instant_blank, ↓State.raise_blank, ↓State.sendSafety_blank, ↓State.whileRunning_blank, ↓State.withBtr_blank, ↓State.withCrs_blank, ↓State.ite_blank, ite_self, h_clk, h_crs, h_evt, h_ctrs, h_btr, h_outbox, ↓State.foldl_blank, implies_true, forall_const]

theorem State.buttressSave_blank (h_clk : msk .clk = true) (h_evt : msk .evt = true) (h_ctrs : msk .ctrs = true) (h_btr : msk .btr = true) (h_outbox : msk .outbox = true) (s : State) : (State.buttressSave s).blank msk = s.blank msk := by
  simp only [State.buttressSave, ↓State.sendSafety_blank, ↓State.withBtr_blank, ↓State.ite_blank, ite_self, h_clk, h_evt, h_ctrs, h_btr, h_outbox]

end

end Sys2Proof.Machine
end

