-- ==== Sys2Proof/Laws/KeepCascade.lean ====
section
/-! SUPPORT. What the operations and commands of Machine/Cascade.lean leave unchanged. -/

set_option linter.unusedSimpArgs false

namespace Sys2Proof.Machine
open Sys2Proof

section
variable {msk : Part → Bool}

theorem State.updateTickPort_blank (h_evt : msk .evt = true) (h_ctrs : msk .ctrs = true) (h_ylk : msk .ylk = true) (s : State) : (State.updateTickPort s).blank msk = s.blank msk := by
  simp only [State.updateTickPort, ↓State.raise_blank, ↓State.withYlk_blank, ↓State.ite_blank, ite_self, h_evt, h_ctrs, h_ylk]

theorem State.updateTopo_blank (h_evt : msk .evt = true) (h_ctrs : msk .ctrs = true) (h_ylk : msk .ylk = true) (s : State) : (State.updateTopo s).blank msk = s.blank msk := by
  simp only [State.updateTopo, ↓State.raise_blank, ↓State.withYlk_blank, ↓State.ite_blank, ite_self, h_evt, h_ctrs, h_ylk]

theorem State.linkActivate_blank (h_evt : msk .evt = true) (h_ctrs : msk .ctrs = true) (h_ylk : msk .ylk = true) (old : List Byte) (s : State) : (State.linkActivate old s).blank msk = s.blank msk := by
  simp only [State.linkActivate, ↓State.setLinkState_blank, ↓State.updateTickPort_blank, ↓State.updateTopo_blank, ↓State.withYlk_blank, ↓State.ite_blank, ite_self, h_evt, h_ctrs, h_ylk]

theorem execLinkPortChange_blank (h_clk : msk .clk = true) (h_evt : msk .evt = true) (h_ctrs : msk .ctrs = true) (h_ylk : msk .ylk = true) (t port : Nat) (up : Bool) (s : State) {t' : State} (h : execLinkPortChange t port up s = .next t') : t'.blank msk = s.blank msk := by
  simp only [execLinkPortChange, Host.Outcome.next.injEq] at h
  subst h
  simp only [↓State.count_blank, ↓State.instant_blank, ↓State.raise_blank, ↓State.updateTickPort_blank, ↓State.updateTopo_blank, ↓State.withYlk_blank, ↓State.ite_blank, ite_self, h_clk, h_evt, h_ctrs, h_ylk]

theorem execCableDelayMeasure_blank (h_clk : msk .clk = true) (h_ylk : msk .ylk = true) (t port trip : Nat) (s : State) {t' : State} (h : execCableDelayMeasure t port trip s = .next t') : t'.blank msk = s.blank msk := by
  simp only [execCableDelayMeasure, Host.Outcome.next.injEq] at h
  subst h
  simp only [↓State.instant_blank, ↓State.withYlk_blank, ↓State.ite_blank, ite_self, h_clk, h_ylk]

theorem execTickMarkerRx_blank (h_clk : msk .clk = true) (h_evt : msk .evt = true) (h_ctrs : msk .ctrs = true) (h_ylk : msk .ylk = true) (h_outbox : msk .outbox = true) (t port hops course : Nat) (good : Bool) (s : State) {t' : State} (h : execTickMarkerRx t port hops course good s = .next t') : t'.blank msk = s.blank msk := by
  simp only [execTickMarkerRx, Host.Outcome.next.injEq] at h
  subst h
  simp only [↓State.count_blank, ↓State.emit_blank, ↓State.instant_blank, ↓State.raise_blank, ↓State.whileRunning_blank, ↓State.withYlk_blank, ↓State.ite_blank, ite_self, h_clk, h_evt, h_ctrs, h_ylk, h_outbox, ↓State.foldl_blank, implies_true, forall_const]

theorem State.emitMarkers_blank (h_outbox : msk .outbox = true) (s : State) : (State.emitMarkers s).blank msk = s.blank msk := by
  simp only [State.emitMarkers, ↓State.emit_blank, ↓State.ite_blank, ite_self, h_outbox, ↓State.foldl_blank, implies_true, forall_const]

theorem State.sendBeacon_blank (h_clk : msk .clk = true) (h_evt : msk .evt = true) (h_ctrs : msk .ctrs = true) (h_ylk : msk .ylk = true) (h_outbox : msk .outbox = true) (s : State) : (State.sendBeacon s).blank msk = s.blank msk := by
  simp only [State.sendBeacon, ↓State.sendLink_blank, ↓State.ite_blank, ite_self, h_clk, h_evt, h_ctrs, h_ylk, h_outbox]

theorem State.beaconOffset_blank (h_ylk : msk .ylk = true) (hops : Nat) (b : LinkBeacon) (s : State) : (State.beaconOffset hops b s).blank msk = s.blank msk := by
  unfold State.beaconOffset
  repeat' (first | with_reducible rfl | assumption | simp only [↓State.withYlk_blank, ↓State.ite_blank, ite_self, h_ylk, ↓State.foldl_blank, implies_true, forall_const] | split | intro _)

theorem State.retimeFrom_blank (h_crs : msk .crs = true) (frame : Word) (d : Int) (s : State) : (State.retimeFrom frame d s).blank msk = s.blank msk := by
  simp only [State.retimeFrom, ↓State.withCrs_blank, ↓State.ite_blank, ite_self, h_crs]

theorem State.followStep_blank (h_clk : msk .clk = true) (h_crs : msk .crs = true) (h_evt : msk .evt = true) (h_ctrs : msk .ctrs = true) (h_tim : msk .tim = true) (h_ylk : msk .ylk = true) (b : LinkBeacon) (s : State) : (State.followStep b s).blank msk = s.blank msk := by
  unfold State.followStep
  repeat' (first | with_reducible rfl | assumption | simp only [↓State.retimeFrom_blank, ↓State.setTimSrc_blank, ↓State.stepTime_blank, ↓State.withYlk_blank, ↓State.ite_blank, ite_self, h_clk, h_crs, h_evt, h_ctrs, h_tim, h_ylk, ↓State.foldl_blank, implies_true, forall_const] | split | intro _)

theorem State.takeBeacon_blank (h_clk : msk .clk = true) (h_crs : msk .crs = true) (h_evt : msk .evt = true) (h_ctrs : msk .ctrs = true) (h_tim : msk .tim = true) (h_ylk : msk .ylk = true) (hops : Nat) (b : LinkBeacon) (s : State) : (State.takeBeacon hops b s).blank msk = s.blank msk := by
  unfold State.takeBeacon
  repeat' (first | with_reducible rfl | assumption | simp only [↓State.beaconOffset_blank, ↓State.followStep_blank, ↓State.raise_blank, ↓State.setLinkState_blank, ↓State.withYlk_blank, ↓State.ite_blank, ite_self, h_clk, h_crs, h_evt, h_ctrs, h_tim, h_ylk, ↓State.foldl_blank, implies_true, forall_const] | split | intro _)

theorem execBeaconRx_blank (h_clk : msk .clk = true) (h_crs : msk .crs = true) (h_evt : msk .evt = true) (h_ctrs : msk .ctrs = true) (h_tim : msk .tim = true) (h_ylk : msk .ylk = true) (h_outbox : msk .outbox = true) (t : Nat) (hd : LinkHdr) (bytes : List Byte) (casc : Word) (pair : Bool) (s : State) {t' : State} (h : execBeaconRx t hd bytes casc pair s = .next t') : t'.blank msk = s.blank msk := by
  unfold execBeaconRx at h
  injection h with h
  subst h
  repeat' (first | with_reducible rfl | assumption | simp only [↓State.instant_blank, ↓State.linkTake_blank, ↓State.takeBeacon_blank, ↓State.updateTickPort_blank, ↓State.updateTopo_blank, ↓State.whileRunning_blank, ↓State.withYlk_blank, ↓State.ite_blank, ite_self, h_clk, h_crs, h_evt, h_ctrs, h_tim, h_ylk, h_outbox, ↓State.foldl_blank, implies_true, forall_const] | rw [State.whileRunning_blank] | rw [State.linkTake_blank] | split | intro _)

theorem State.becomeMaster_blank (h_evt : msk .evt = true) (h_ctrs : msk .ctrs = true) (h_ylk : msk .ylk = true) (s : State) : (State.becomeMaster s).blank msk = s.blank msk := by
  simp only [State.becomeMaster, ↓State.raise_blank, ↓State.setLinkState_blank, ↓State.updateTickPort_blank, ↓State.withYlk_blank, ↓State.ite_blank, ite_self, h_evt, h_ctrs, h_ylk]

theorem execMasterLoss_blank (h_clk : msk .clk = true) (h_evt : msk .evt = true) (h_ctrs : msk .ctrs = true) (h_ylk : msk .ylk = true) (t : Nat) (ranks : List (Nat × Nat)) (s : State) {t' : State} (h : execMasterLoss t ranks s = .next t') : t'.blank msk = s.blank msk := by
  simp only [execMasterLoss, Host.Outcome.next.injEq] at h
  subst h
  simp only [↓State.becomeMaster_blank, ↓State.instant_blank, ↓State.raise_blank, ↓State.setLinkState_blank, ↓State.updateTickPort_blank, ↓State.whileRunning_blank, ↓State.ite_blank, ite_self, h_clk, h_evt, h_ctrs, h_ylk, ↓State.foldl_blank, implies_true, forall_const]

theorem State.linkFrame_blank (h_evt : msk .evt = true) (h_ctrs : msk .ctrs = true) (h_ylk : msk .ylk = true) (s : State) : (State.linkFrame s).blank msk = s.blank msk := by
  simp only [State.linkFrame, ↓State.updateTopo_blank, ↓State.withYlk_blank, ↓State.ite_blank, ite_self, h_evt, h_ctrs, h_ylk]

theorem State.sendExports_blank (h_clk : msk .clk = true) (h_evt : msk .evt = true) (h_ctrs : msk .ctrs = true) (h_ylk : msk .ylk = true) (h_outbox : msk .outbox = true) (s : State) : (State.sendExports s).blank msk = s.blank msk := by
  simp only [State.sendExports, ↓State.sendLink_blank, ↓State.ite_blank, ite_self, h_clk, h_evt, h_ctrs, h_ylk, h_outbox, ↓State.foldl_blank, implies_true, forall_const]

theorem State.importRecord_blank (h_evt : msk .evt = true) (h_hrg : msk .hrg = true) (h_pnt : msk .pnt = true) (h_ctrs : msk .ctrs = true) (h_outbox : msk .outbox = true) (num : Nat) (r : List Byte) (s : State) : (State.importRecord num r s).blank msk = s.blank msk := by
  simp only [State.importRecord, ↓State.count_blank, ↓State.writePoints_blank, ↓State.ite_blank, ite_self, h_evt, h_hrg, h_pnt, h_ctrs, h_outbox]

theorem State.takeShared_blank (h_evt : msk .evt = true) (h_hrg : msk .hrg = true) (h_pnt : msk .pnt = true) (h_ctrs : msk .ctrs = true) (h_ylk : msk .ylk = true) (h_outbox : msk .outbox = true) (i : Nat) (bytes : List Byte) (s : State) : (State.takeShared i bytes s).blank msk = s.blank msk := by
  simp only [State.takeShared, ↓State.count_blank, ↓State.importRecord_blank, ↓State.raise_blank, ↓State.withYlk_blank, ↓State.ite_blank, ite_self, h_evt, h_hrg, h_pnt, h_ctrs, h_ylk, h_outbox, ↓State.foldl_blank, implies_true, forall_const]

theorem execSharedPointBlockRx_blank (h_clk : msk .clk = true) (h_evt : msk .evt = true) (h_hrg : msk .hrg = true) (h_pnt : msk .pnt = true) (h_ctrs : msk .ctrs = true) (h_ylk : msk .ylk = true) (h_outbox : msk .outbox = true) (t : Nat) (hd : LinkHdr) (bytes : List Byte) (s : State) {t' : State} (h : execSharedPointBlockRx t hd bytes s = .next t') : t'.blank msk = s.blank msk := by
  unfold execSharedPointBlockRx at h
  injection h with h
  subst h
  repeat' (first | with_reducible rfl | assumption | simp only [↓State.instant_blank, ↓State.linkTake_blank, ↓State.takeShared_blank, ↓State.whileRunning_blank, ↓State.ite_blank, ite_self, h_clk, h_evt, h_hrg, h_pnt, h_ctrs, h_ylk, h_outbox, ↓State.foldl_blank, implies_true, forall_const] | rw [State.linkTake_blank] | rw [State.whileRunning_blank] | split | intro _)

theorem execSharedBlockStale_blank (h_clk : msk .clk = true) (h_evt : msk .evt = true) (h_hrg : msk .hrg = true) (h_pnt : msk .pnt = true) (h_ctrs : msk .ctrs = true) (h_ylk : msk .ylk = true) (h_outbox : msk .outbox = true) (t imp period : Nat) (s : State) {t' : State} (h : execSharedBlockStale t imp period s = .next t') : t'.blank msk = s.blank msk := by
  simp only [execSharedBlockStale, Host.Outcome.next.injEq] at h
  subst h
  simp only [↓State.instant_blank, ↓State.qualBit_blank, ↓State.raise_blank, ↓State.whileRunning_blank, ↓State.withYlk_blank, ↓State.ite_blank, ite_self, h_clk, h_evt, h_hrg, h_pnt, h_ctrs, h_ylk, h_outbox, ↓State.foldl_blank, implies_true, forall_const]

theorem execCaseVerdictsRx_blank (h_clk : msk .clk = true) (h_evt : msk .evt = true) (h_ctrs : msk .ctrs = true) (h_ylk : msk .ylk = true) (h_outbox : msk .outbox = true) (t : Nat) (hd : LinkHdr) (bytes : List Byte) (s : State) {t' : State} (h : execCaseVerdictsRx t hd bytes s = .next t') : t'.blank msk = s.blank msk := by
  unfold execCaseVerdictsRx at h
  injection h with h
  subst h
  repeat' (first | with_reducible rfl | assumption | simp only [↓State.instant_blank, ↓State.linkTake_blank, ↓State.whileRunning_blank, ↓State.withYlk_blank, ↓State.ite_blank, ite_self, h_clk, h_evt, h_ctrs, h_ylk, h_outbox, ↓State.foldl_blank, implies_true, forall_const] | rw [State.linkTake_blank] | rw [State.whileRunning_blank] | split | intro _)

end

end Sys2Proof.Machine
end

