-- ==== Sys2Proof/Laws/KeepSeeds.lean ====
section
/-! SUPPORT. What the operations and commands of Machine/Seeds.lean leave unchanged. -/

set_option linter.unusedSimpArgs false

namespace Sys2Proof.Machine
open Sys2Proof

section
variable {msk : Part → Bool}

theorem State.seedAtActivation_blank (h_vsl : msk .vsl = true) (h_pwr : msk .pwr = true) (s : State) : (State.seedAtActivation s).2.blank msk = s.blank msk := by
  unfold State.seedAtActivation
  repeat' (first | with_reducible rfl | assumption | simp only [↓State.restoreWarm_blank, ↓State.withPwr_blank, ↓State.ite_blank, ite_self, h_vsl, h_pwr, ↓State.foldl_blank, implies_true, forall_const] | split | intro _)

theorem State.seedAfterRestore_blank (h_gns : msk .gns = true) (h_tim : msk .tim = true) (a : SaveArea) (s : State) : (State.seedAfterRestore a s).blank msk = s.blank msk := by
  unfold State.seedAfterRestore
  repeat' (first | with_reducible rfl | assumption | simp only [↓State.withGns_blank, ↓State.withTim_blank, ↓State.ite_blank, ite_self, h_gns, h_tim, ↓State.foldl_blank, implies_true, forall_const] | split | intro _)

end

end Sys2Proof.Machine
end

