-- ==== Sys2Proof/Laws/KeepActivation.lean ====
section
/-! SUPPORT. What the operations and commands of Machine/Activation.lean leave unchanged. -/

set_option linter.unusedSimpArgs false

namespace Sys2Proof.Machine
open Sys2Proof

section
variable {msk : Part → Bool}

theorem State.activateEntry_blank (h_sni : msk .sni = true) (old : List Byte) (first : Bool) (q : List Byte) (s : State) : (State.activateEntry old first q s).blank msk = s.blank msk := by
  unfold State.activateEntry
  repeat' (first | with_reducible rfl | assumption | simp only [↓State.setEntrySt_blank, ↓State.ite_blank, ite_self, h_sni, ↓State.foldl_blank, implies_true, forall_const] | split | intro _)

theorem State.dropEntries_blank (h_sni : msk .sni = true) (s : State) : (State.dropEntries s).blank msk = s.blank msk := by
  simp only [State.dropEntries, ↓State.setEntrySt_blank, ↓State.ite_blank, ite_self, h_sni, ↓State.foldl_blank, implies_true, forall_const]

theorem State.activateChannels_blank (h_sni : msk .sni = true) (old : List Byte) (s : State) : (State.activateChannels old s).blank msk = s.blank msk := by
  unfold State.activateChannels
  repeat' (first | with_reducible rfl | assumption | simp only [↓State.startRun_blank, ↓State.ite_blank, ite_self, h_sni, ↓State.foldl_blank, implies_true, forall_const] | split | intro _ | rw [State.foldl_blank])

theorem State.activateQuoins_blank (h_sni : msk .sni = true) (old : List Byte) (first : Bool) (s : State) : (State.activateQuoins old first s).blank msk = s.blank msk := by
  simp only [State.activateQuoins, ↓State.activateChannels_blank, ↓State.activateEntry_blank, ↓State.dropEntries_blank, ↓State.ite_blank, ite_self, h_sni, ↓State.foldl_blank, implies_true, forall_const]

theorem State.activateRoute_blank (h_evt : msk .evt = true) (h_hrg : msk .hrg = true) (h_pnt : msk .pnt = true) (h_ctrs : msk .ctrs = true) (h_outbox : msk .outbox = true) (old : List Byte) (r : List Byte) (s : State) : (State.activateRoute old r s).blank msk = s.blank msk := by
  unfold State.activateRoute
  repeat' (first | with_reducible rfl | assumption | simp only [↓State.qualBit_blank, ↓State.raise_blank, ↓State.setRouteSt_blank, ↓State.ite_blank, ite_self, h_evt, h_hrg, h_pnt, h_ctrs, h_outbox, ↓State.foldl_blank, implies_true, forall_const] | split | intro _)

theorem State.activateRoutes_blank (h_evt : msk .evt = true) (h_hrg : msk .hrg = true) (h_pnt : msk .pnt = true) (h_ctrs : msk .ctrs = true) (h_outbox : msk .outbox = true) (old : List Byte) (s : State) : (State.activateRoutes old s).blank msk = s.blank msk := by
  simp only [State.activateRoutes, ↓State.activateRoute_blank, ↓State.withPnt_blank, ↓State.ite_blank, ite_self, h_evt, h_hrg, h_pnt, h_ctrs, h_outbox, ↓State.foldl_blank, implies_true, forall_const]

theorem State.activateDispute_blank (h_evt : msk .evt = true) (h_ctrs : msk .ctrs = true) (h_est : msk .est = true) (c : Nat) (s : State) : (State.activateDispute c s).blank msk = s.blank msk := by
  unfold State.activateDispute
  repeat' (first | with_reducible rfl | assumption | simp only [↓State.endDispute_blank, ↓State.setRef_blank, ↓State.ite_blank, ite_self, h_evt, h_ctrs, h_est, ↓State.foldl_blank, implies_true, forall_const] | split | intro _ | rw [State.foldl_blank])

theorem State.activateCold_blank (h_crs : msk .crs = true) (h_evt : msk .evt = true) (h_ctrs : msk .ctrs = true) (h_cfg : msk .cfg = true) (h_tim : msk .tim = true) (h_rdn : msk .rdn = true) (s : State) : (State.activateCold s).blank msk = s.blank msk := by
  simp only [State.activateCold, ↓State.buildTable_blank, ↓State.takeCfg_blank, ↓State.withRdn_blank, ↓State.withTim_blank, ↓State.ite_blank, ite_self, h_crs, h_evt, h_ctrs, h_cfg, h_tim, h_rdn]

theorem State.activateEstimator_blank (h_est : msk .est = true) (h_vsl : msk .vsl = true) (h_pwr : msk .pwr = true) (first cold : Bool) (s : State) : (State.activateEstimator first cold s).blank msk = s.blank msk := by
  simp only [State.activateEstimator, ↓State.clearHistory_blank, ↓State.seedAtActivation_blank, ↓State.startFilters_blank, ↓State.ite_blank, ite_self, h_est, h_vsl, h_pwr]

theorem State.activateImage_blank (h_crs : msk .crs = true) (h_evt : msk .evt = true) (h_hrg : msk .hrg = true) (h_img : msk .img = true) (h_pnt : msk .pnt = true) (h_ctrs : msk .ctrs = true) (h_cfg : msk .cfg = true) (h_sni : msk .sni = true) (h_est : msk .est = true) (h_ctl : msk .ctl = true) (h_alloc : msk .alloc = true) (h_csq : msk .csq = true) (h_trim : msk .trim = true) (h_vsl : msk .vsl = true) (h_tim : msk .tim = true) (h_rdn : msk .rdn = true) (h_btr : msk .btr = true) (h_can : msk .can = true) (h_ylk : msk .ylk = true) (h_pwr : msk .pwr = true) (h_outbox : msk .outbox = true) (s : State) : (State.activateImage s).blank msk = s.blank msk := by
  unfold State.activateImage
  repeat' (first | with_reducible rfl | assumption | simp only [↓State.activateButtress_blank, ↓State.activateCold_blank, ↓State.activateConseq_blank, ↓State.activateDispute_blank, ↓State.activateEstimator_blank, ↓State.activateGains_blank, ↓State.activatePair_blank, ↓State.activateQuoins_blank, ↓State.activateRefs_blank, ↓State.activateRoutes_blank, ↓State.activateTrim_blank, ↓State.activateUnits_blank, ↓State.activateWind_blank, ↓State.canActivate_blank, ↓State.done_blank, ↓State.linkActivate_blank, ↓State.newTemplates_blank, ↓State.raise_blank, ↓State.withImg_blank, ↓State.withRdn_blank, ↓State.ite_blank, ite_self, h_crs, h_evt, h_hrg, h_img, h_pnt, h_ctrs, h_cfg, h_sni, h_est, h_ctl, h_alloc, h_csq, h_trim, h_vsl, h_tim, h_rdn, h_btr, h_can, h_ylk, h_pwr, h_outbox, ↓State.foldl_blank, implies_true, forall_const] | split | intro _)

theorem State.activationTick_blank (h_crs : msk .crs = true) (h_evt : msk .evt = true) (h_hrg : msk .hrg = true) (h_img : msk .img = true) (h_pnt : msk .pnt = true) (h_ctrs : msk .ctrs = true) (h_cfg : msk .cfg = true) (h_sni : msk .sni = true) (h_est : msk .est = true) (h_ctl : msk .ctl = true) (h_alloc : msk .alloc = true) (h_csq : msk .csq = true) (h_trim : msk .trim = true) (h_vsl : msk .vsl = true) (h_tim : msk .tim = true) (h_rdn : msk .rdn = true) (h_btr : msk .btr = true) (h_can : msk .can = true) (h_ylk : msk .ylk = true) (h_pwr : msk .pwr = true) (h_outbox : msk .outbox = true) (s : State) : (State.activationTick s).blank msk = s.blank msk := by
  unfold State.activationTick
  repeat' (first | with_reducible rfl | assumption | simp only [↓State.abandonActivation_blank, ↓State.activateImage_blank, ↓State.ite_blank, ite_self, h_crs, h_evt, h_hrg, h_img, h_pnt, h_ctrs, h_cfg, h_sni, h_est, h_ctl, h_alloc, h_csq, h_trim, h_vsl, h_tim, h_rdn, h_btr, h_can, h_ylk, h_pwr, h_outbox, ↓State.foldl_blank, implies_true, forall_const] | split | intro _)

end

end Sys2Proof.Machine
end

