-- ==== Sys2Proof/Laws/KeepClocks.lean ====
section
/-! SUPPORT. What the operations and commands of Machine/Clocks.lean leave unchanged. -/

set_option linter.unusedSimpArgs false

namespace Sys2Proof.Machine
open Sys2Proof

section
variable {msk : Part → Bool}

theorem State.stall_blank (h_evt : msk .evt = true) (h_ctrs : msk .ctrs = true) (h_glb : msk .glb = true) (c : Nat) (s : State) : (State.stall c s).blank msk = s.blank msk := by
  simp only [State.stall, ↓State.raise_blank, ↓State.withGlb_blank, ↓State.ite_blank, ite_self, h_evt, h_ctrs, h_glb]

theorem State.resetCrossing_blank (h_evt : msk .evt = true) (h_ctrs : msk .ctrs = true) (h_rdn : msk .rdn = true) (h_glb : msk .glb = true) (c discarded : Nat) (s : State) : (State.resetCrossing c discarded s).blank msk = s.blank msk := by
  simp only [State.resetCrossing, ↓State.count_blank, ↓State.countN_blank, ↓State.raise_blank, ↓State.sendFail_blank, ↓State.withGlb_blank, ↓State.ite_blank, ite_self, h_evt, h_ctrs, h_rdn, h_glb]

theorem execClockStopped_blank (h_clk : msk .clk = true) (h_tick : msk .tick = true) (h_crs : msk .crs = true) (h_evt : msk .evt = true) (h_hrg : msk .hrg = true) (h_img : msk .img = true) (h_gns : msk .gns = true) (h_pnt : msk .pnt = true) (h_ctrs : msk .ctrs = true) (h_cfg : msk .cfg = true) (h_locks : msk .locks = true) (h_sni : msk .sni = true) (h_est : msk .est = true) (h_ctl : msk .ctl = true) (h_alloc : msk .alloc = true) (h_csq : msk .csq = true) (h_trim : msk .trim = true) (h_vsl : msk .vsl = true) (h_tim : msk .tim = true) (h_rdn : msk .rdn = true) (h_btr : msk .btr = true) (h_can : msk .can = true) (h_ylk : msk .ylk = true) (h_log : msk .log = true) (h_cells : msk .cells = true) (h_mem : msk .mem = true) (h_glb : msk .glb = true) (h_sec : msk .sec = true) (h_pwr : msk .pwr = true) (h_outbox : msk .outbox = true) (t domain : Nat) (s : State) {t' : State} (h : execClockStopped t domain s = .next t') : t'.blank msk = s.blank msk := by
  simp only [execClockStopped, Host.Outcome.next.injEq] at h
  subst h
  simp only [↓State.instant_blank, ↓State.islandFault_blank, ↓State.partReset_blank, ↓State.raise_blank, ↓State.stall_blank, ↓State.withGlb_blank, ↓State.ite_blank, ite_self, h_clk, h_tick, h_crs, h_evt, h_hrg, h_img, h_gns, h_pnt, h_ctrs, h_cfg, h_locks, h_sni, h_est, h_ctl, h_alloc, h_csq, h_trim, h_vsl, h_tim, h_rdn, h_btr, h_can, h_ylk, h_log, h_cells, h_mem, h_glb, h_sec, h_pwr, h_outbox, ↓State.foldl_blank, implies_true, forall_const]

theorem State.resetHost_blank (h_evt : msk .evt = true) (h_hrg : msk .hrg = true) (h_img : msk .img = true) (h_gns : msk .gns = true) (h_ctrs : msk .ctrs = true) (h_est : msk .est = true) (h_ctl : msk .ctl = true) (h_trim : msk .trim = true) (h_rdn : msk .rdn = true) (h_btr : msk .btr = true) (h_log : msk .log = true) (h_mem : msk .mem = true) (h_glb : msk .glb = true) (kind : Nat) (s : State) : (State.resetHost kind s).blank msk = s.blank msk := by
  simp only [State.resetHost, ↓State.hostInterfaceReset_blank, ↓State.resetCrossing_blank, ↓State.ite_blank, ite_self, h_evt, h_hrg, h_img, h_gns, h_ctrs, h_est, h_ctl, h_trim, h_rdn, h_btr, h_log, h_mem, h_glb, ↓State.foldl_blank, implies_true, forall_const]

theorem execHostInterfaceReset_blank (h_clk : msk .clk = true) (h_evt : msk .evt = true) (h_hrg : msk .hrg = true) (h_img : msk .img = true) (h_gns : msk .gns = true) (h_ctrs : msk .ctrs = true) (h_est : msk .est = true) (h_ctl : msk .ctl = true) (h_trim : msk .trim = true) (h_rdn : msk .rdn = true) (h_btr : msk .btr = true) (h_log : msk .log = true) (h_mem : msk .mem = true) (h_glb : msk .glb = true) (t kind : Nat) (s : State) {t' : State} (h : execHostInterfaceReset t kind s = .next t') : t'.blank msk = s.blank msk := by
  simp only [execHostInterfaceReset, Host.Outcome.next.injEq] at h
  subst h
  simp only [↓State.instant_blank, ↓State.resetHost_blank, ↓State.withHrg_blank, ↓State.ite_blank, ite_self, h_clk, h_evt, h_hrg, h_img, h_gns, h_ctrs, h_est, h_ctl, h_trim, h_rdn, h_btr, h_log, h_mem, h_glb]

theorem execClockRunningAgain_blank (h_clk : msk .clk = true) (h_evt : msk .evt = true) (h_hrg : msk .hrg = true) (h_img : msk .img = true) (h_gns : msk .gns = true) (h_ctrs : msk .ctrs = true) (h_est : msk .est = true) (h_ctl : msk .ctl = true) (h_trim : msk .trim = true) (h_rdn : msk .rdn = true) (h_btr : msk .btr = true) (h_log : msk .log = true) (h_mem : msk .mem = true) (h_glb : msk .glb = true) (t domain : Nat) (s : State) {t' : State} (h : execClockRunningAgain t domain s = .next t') : t'.blank msk = s.blank msk := by
  simp only [execClockRunningAgain, Host.Outcome.next.injEq] at h
  subst h
  simp only [↓State.instant_blank, ↓State.raise_blank, ↓State.resetHost_blank, ↓State.withGlb_blank, ↓State.ite_blank, ite_self, h_clk, h_evt, h_hrg, h_img, h_gns, h_ctrs, h_est, h_ctl, h_trim, h_rdn, h_btr, h_log, h_mem, h_glb, ↓State.foldl_blank, implies_true, forall_const]

theorem execCrossingReset_blank (h_clk : msk .clk = true) (h_evt : msk .evt = true) (h_ctrs : msk .ctrs = true) (h_rdn : msk .rdn = true) (h_glb : msk .glb = true) (t crossing discarded : Nat) (s : State) {t' : State} (h : execCrossingReset t crossing discarded s = .next t') : t'.blank msk = s.blank msk := by
  simp only [execCrossingReset, Host.Outcome.next.injEq] at h
  subst h
  simp only [↓State.instant_blank, ↓State.resetCrossing_blank, ↓State.ite_blank, ite_self, h_clk, h_evt, h_ctrs, h_rdn, h_glb]

theorem execSupervise_blank (h_clk : msk .clk = true) (h_crs : msk .crs = true) (h_evt : msk .evt = true) (h_ctrs : msk .ctrs = true) (h_rdn : msk .rdn = true) (h_glb : msk .glb = true) (t : Nat) (s : State) {t' : State} (h : execSupervise t s = .next t') : t'.blank msk = s.blank msk := by
  unfold execSupervise at h
  injection h with h
  subst h
  repeat' (first | with_reducible rfl | assumption | simp only [↓State.resetCrossing_blank, ↓State.runService_blank, ↓State.withGlb_blank, ↓State.ite_blank, ite_self, h_clk, h_crs, h_evt, h_ctrs, h_rdn, h_glb, ↓State.foldl_blank, implies_true, forall_const] | rw [State.runService_blank] | split | intro _)

theorem execResetNAssert_blank (h_clk : msk .clk = true) (h_tick : msk .tick = true) (h_crs : msk .crs = true) (h_evt : msk .evt = true) (h_hrg : msk .hrg = true) (h_img : msk .img = true) (h_gns : msk .gns = true) (h_pnt : msk .pnt = true) (h_ctrs : msk .ctrs = true) (h_cfg : msk .cfg = true) (h_locks : msk .locks = true) (h_sni : msk .sni = true) (h_est : msk .est = true) (h_ctl : msk .ctl = true) (h_alloc : msk .alloc = true) (h_csq : msk .csq = true) (h_trim : msk .trim = true) (h_vsl : msk .vsl = true) (h_tim : msk .tim = true) (h_rdn : msk .rdn = true) (h_btr : msk .btr = true) (h_can : msk .can = true) (h_ylk : msk .ylk = true) (h_log : msk .log = true) (h_cells : msk .cells = true) (h_mem : msk .mem = true) (h_glb : msk .glb = true) (h_sec : msk .sec = true) (h_pwr : msk .pwr = true) (h_outbox : msk .outbox = true) (t : Nat) (s : State) {t' : State} (h : execResetNAssert t s = .next t') : t'.blank msk = s.blank msk := by
  simp only [execResetNAssert, Host.Outcome.next.injEq] at h
  subst h
  simp only [↓State.instant_blank, ↓State.partReset_blank, ↓State.ite_blank, ite_self, h_clk, h_tick, h_crs, h_evt, h_hrg, h_img, h_gns, h_pnt, h_ctrs, h_cfg, h_locks, h_sni, h_est, h_ctl, h_alloc, h_csq, h_trim, h_vsl, h_tim, h_rdn, h_btr, h_can, h_ylk, h_log, h_cells, h_mem, h_glb, h_sec, h_pwr, h_outbox]

theorem execPlinthWatchdogExpiry_blank (h_clk : msk .clk = true) (h_tick : msk .tick = true) (h_crs : msk .crs = true) (h_evt : msk .evt = true) (h_hrg : msk .hrg = true) (h_img : msk .img = true) (h_gns : msk .gns = true) (h_pnt : msk .pnt = true) (h_ctrs : msk .ctrs = true) (h_cfg : msk .cfg = true) (h_locks : msk .locks = true) (h_sni : msk .sni = true) (h_est : msk .est = true) (h_ctl : msk .ctl = true) (h_alloc : msk .alloc = true) (h_csq : msk .csq = true) (h_trim : msk .trim = true) (h_vsl : msk .vsl = true) (h_tim : msk .tim = true) (h_rdn : msk .rdn = true) (h_btr : msk .btr = true) (h_can : msk .can = true) (h_ylk : msk .ylk = true) (h_log : msk .log = true) (h_cells : msk .cells = true) (h_mem : msk .mem = true) (h_glb : msk .glb = true) (h_sec : msk .sec = true) (h_pwr : msk .pwr = true) (h_outbox : msk .outbox = true) (t : Nat) (s : State) {t' : State} (h : execPlinthWatchdogExpiry t s = .next t') : t'.blank msk = s.blank msk := by
  simp only [execPlinthWatchdogExpiry, Host.Outcome.next.injEq] at h
  subst h
  simp only [↓State.instant_blank, ↓State.partReset_blank, ↓State.ite_blank, ite_self, h_clk, h_tick, h_crs, h_evt, h_hrg, h_img, h_gns, h_pnt, h_ctrs, h_cfg, h_locks, h_sni, h_est, h_ctl, h_alloc, h_csq, h_trim, h_vsl, h_tim, h_rdn, h_btr, h_can, h_ylk, h_log, h_cells, h_mem, h_glb, h_sec, h_pwr, h_outbox]

theorem execCorePllLockLoss_blank (h_clk : msk .clk = true) (h_tick : msk .tick = true) (h_crs : msk .crs = true) (h_evt : msk .evt = true) (h_hrg : msk .hrg = true) (h_img : msk .img = true) (h_gns : msk .gns = true) (h_pnt : msk .pnt = true) (h_ctrs : msk .ctrs = true) (h_cfg : msk .cfg = true) (h_locks : msk .locks = true) (h_sni : msk .sni = true) (h_est : msk .est = true) (h_ctl : msk .ctl = true) (h_alloc : msk .alloc = true) (h_csq : msk .csq = true) (h_trim : msk .trim = true) (h_vsl : msk .vsl = true) (h_tim : msk .tim = true) (h_rdn : msk .rdn = true) (h_btr : msk .btr = true) (h_can : msk .can = true) (h_ylk : msk .ylk = true) (h_log : msk .log = true) (h_cells : msk .cells = true) (h_mem : msk .mem = true) (h_glb : msk .glb = true) (h_sec : msk .sec = true) (h_pwr : msk .pwr = true) (h_outbox : msk .outbox = true) (t : Nat) (s : State) {t' : State} (h : execCorePllLockLoss t s = .next t') : t'.blank msk = s.blank msk := by
  simp only [execCorePllLockLoss, Host.Outcome.next.injEq] at h
  subst h
  simp only [↓State.instant_blank, ↓State.partReset_blank, ↓State.ite_blank, ite_self, h_clk, h_tick, h_crs, h_evt, h_hrg, h_img, h_gns, h_pnt, h_ctrs, h_cfg, h_locks, h_sni, h_est, h_ctl, h_alloc, h_csq, h_trim, h_vsl, h_tim, h_rdn, h_btr, h_can, h_ylk, h_log, h_cells, h_mem, h_glb, h_sec, h_pwr, h_outbox]

theorem execPowerOnReset_blank (h_clk : msk .clk = true) (h_tick : msk .tick = true) (h_crs : msk .crs = true) (h_evt : msk .evt = true) (h_hrg : msk .hrg = true) (h_img : msk .img = true) (h_gns : msk .gns = true) (h_pnt : msk .pnt = true) (h_ctrs : msk .ctrs = true) (h_cfg : msk .cfg = true) (h_locks : msk .locks = true) (h_sni : msk .sni = true) (h_est : msk .est = true) (h_ctl : msk .ctl = true) (h_alloc : msk .alloc = true) (h_csq : msk .csq = true) (h_trim : msk .trim = true) (h_vsl : msk .vsl = true) (h_tim : msk .tim = true) (h_rdn : msk .rdn = true) (h_btr : msk .btr = true) (h_can : msk .can = true) (h_ylk : msk .ylk = true) (h_log : msk .log = true) (h_cells : msk .cells = true) (h_mem : msk .mem = true) (h_glb : msk .glb = true) (h_sec : msk .sec = true) (h_pwr : msk .pwr = true) (h_outbox : msk .outbox = true) (s : State) {t' : State} (h : execPowerOnReset s = .next t') : t'.blank msk = s.blank msk := by
  unfold execPowerOnReset at h
  injection h with h
  subst h
  have hr := State.breakSave_blank (msk := msk) h_mem s
  have hp : (s.breakSave).pending = s.pending := by
    unfold State.breakSave; split <;> rfl
  simp only [State.resetPart, State.blank, State.reset, hp, h_clk, h_tick, h_crs, h_evt, h_hrg, h_img, h_gns, h_pnt, h_ctrs, h_cfg, h_locks, h_sni, h_est, h_ctl, h_alloc, h_csq, h_trim, h_vsl, h_tim, h_rdn, h_btr, h_can, h_ylk, h_log, h_cells, h_mem, h_glb, h_sec, h_pwr, h_outbox, if_true]

theorem execPartReset_blank (h_clk : msk .clk = true) (h_tick : msk .tick = true) (h_crs : msk .crs = true) (h_evt : msk .evt = true) (h_hrg : msk .hrg = true) (h_img : msk .img = true) (h_gns : msk .gns = true) (h_pnt : msk .pnt = true) (h_ctrs : msk .ctrs = true) (h_cfg : msk .cfg = true) (h_locks : msk .locks = true) (h_sni : msk .sni = true) (h_est : msk .est = true) (h_ctl : msk .ctl = true) (h_alloc : msk .alloc = true) (h_csq : msk .csq = true) (h_trim : msk .trim = true) (h_vsl : msk .vsl = true) (h_tim : msk .tim = true) (h_rdn : msk .rdn = true) (h_btr : msk .btr = true) (h_can : msk .can = true) (h_ylk : msk .ylk = true) (h_log : msk .log = true) (h_cells : msk .cells = true) (h_mem : msk .mem = true) (h_glb : msk .glb = true) (h_sec : msk .sec = true) (h_pwr : msk .pwr = true) (h_outbox : msk .outbox = true) (cause : Nat) (s : State) {t' : State} (h : execPartReset cause s = .next t') : t'.blank msk = s.blank msk := by
  simp only [execPartReset, Host.Outcome.next.injEq] at h
  subst h
  simp only [↓State.partReset_blank, ↓State.ite_blank, ite_self, h_clk, h_tick, h_crs, h_evt, h_hrg, h_img, h_gns, h_pnt, h_ctrs, h_cfg, h_locks, h_sni, h_est, h_ctl, h_alloc, h_csq, h_trim, h_vsl, h_tim, h_rdn, h_btr, h_can, h_ylk, h_log, h_cells, h_mem, h_glb, h_sec, h_pwr, h_outbox]

theorem execPartResetRelease_blank (h_sec : msk .sec = true) (h_pwr : msk .pwr = true) (straps : Half) (s : State) {t' : State} (h : execPartResetRelease straps s = .next t') : t'.blank msk = s.blank msk := by
  simp only [execPartResetRelease, Host.Outcome.next.injEq] at h
  subst h
  simp only [↓State.withPwr_blank, ↓State.withSec_blank, ↓State.ite_blank, ite_self, h_sec, h_pwr]

theorem execGlbResetWrite_blank (h_clk : msk .clk = true) (h_tick : msk .tick = true) (h_crs : msk .crs = true) (h_evt : msk .evt = true) (h_hrg : msk .hrg = true) (h_img : msk .img = true) (h_gns : msk .gns = true) (h_pnt : msk .pnt = true) (h_ctrs : msk .ctrs = true) (h_cfg : msk .cfg = true) (h_locks : msk .locks = true) (h_sni : msk .sni = true) (h_est : msk .est = true) (h_ctl : msk .ctl = true) (h_alloc : msk .alloc = true) (h_csq : msk .csq = true) (h_trim : msk .trim = true) (h_vsl : msk .vsl = true) (h_tim : msk .tim = true) (h_rdn : msk .rdn = true) (h_btr : msk .btr = true) (h_can : msk .can = true) (h_ylk : msk .ylk = true) (h_log : msk .log = true) (h_cells : msk .cells = true) (h_mem : msk .mem = true) (h_glb : msk .glb = true) (h_sec : msk .sec = true) (h_pwr : msk .pwr = true) (h_outbox : msk .outbox = true) (w : Word) (s : State) {t' : State} (h : execGlbResetWrite w s = .next t') : t'.blank msk = s.blank msk := by
  simp only [execGlbResetWrite, Host.Outcome.next.injEq] at h
  subst h
  simp only [↓State.barWrite_blank, ↓State.count_blank, ↓State.partReset_blank, ↓State.raise_blank, ↓State.ite_blank, ite_self, h_clk, h_tick, h_crs, h_evt, h_hrg, h_img, h_gns, h_pnt, h_ctrs, h_cfg, h_locks, h_sni, h_est, h_ctl, h_alloc, h_csq, h_trim, h_vsl, h_tim, h_rdn, h_btr, h_can, h_ylk, h_log, h_cells, h_mem, h_glb, h_sec, h_pwr, h_outbox, ↓State.foldl_blank, implies_true, forall_const]

theorem execGlbXselWrite_blank (h_evt : msk .evt = true) (h_ctrs : msk .ctrs = true) (h_glb : msk .glb = true) (w : Word) (s : State) {t' : State} (h : execGlbXselWrite w s = .next t') : t'.blank msk = s.blank msk := by
  simp only [execGlbXselWrite, Host.Outcome.next.injEq] at h
  subst h
  simp only [↓State.barWrite_blank, ↓State.withGlb_blank, ↓State.ite_blank, ite_self, h_evt, h_ctrs, h_glb, ↓State.foldl_blank, implies_true, forall_const]

end

end Sys2Proof.Machine
end

