-- ==== Sys2Proof/Laws/KeepHostIf.lean ====
section
/-! SUPPORT. What the operations and commands of Machine/HostIf.lean leave unchanged. -/

set_option linter.unusedSimpArgs false

namespace Sys2Proof.Machine
open Sys2Proof

section
variable {msk : Part → Bool}

theorem State.hostFetch_blank (h_clk : msk .clk = true) (h_evt : msk .evt = true) (h_hrg : msk .hrg = true) (h_img : msk .img = true) (h_gns : msk .gns = true) (h_pnt : msk .pnt = true) (h_ctrs : msk .ctrs = true) (h_sni : msk .sni = true) (h_est : msk .est = true) (h_csq : msk .csq = true) (h_tim : msk .tim = true) (h_rdn : msk .rdn = true) (h_btr : msk .btr = true) (h_can : msk .can = true) (h_ylk : msk .ylk = true) (h_log : msk .log = true) (h_mem : msk .mem = true) (h_outbox : msk .outbox = true) (f : Fetch) (s : State) : (State.hostFetch f s).blank msk = s.blank msk := by
  unfold State.hostFetch
  repeat' (first | with_reducible rfl | assumption | simp only [↓State.checkDescriptor_blank, ↓State.complete_blank, ↓State.count_blank, ↓State.fetchLost_blank, ↓State.pushOutst_blank, ↓State.raise_blank, ↓State.setRing_blank, ↓State.ite_blank, ite_self, h_clk, h_evt, h_hrg, h_img, h_gns, h_pnt, h_ctrs, h_sni, h_est, h_csq, h_tim, h_rdn, h_btr, h_can, h_ylk, h_log, h_mem, h_outbox, ↓State.foldl_blank, implies_true, forall_const] | split | intro _)

theorem State.hostTurns_blank (h_clk : msk .clk = true) (h_evt : msk .evt = true) (h_hrg : msk .hrg = true) (h_img : msk .img = true) (h_gns : msk .gns = true) (h_pnt : msk .pnt = true) (h_ctrs : msk .ctrs = true) (h_sni : msk .sni = true) (h_est : msk .est = true) (h_csq : msk .csq = true) (h_tim : msk .tim = true) (h_rdn : msk .rdn = true) (h_btr : msk .btr = true) (h_can : msk .can = true) (h_ylk : msk .ylk = true) (h_log : msk .log = true) (h_mem : msk .mem = true) (h_outbox : msk .outbox = true) (f : Nat) (l : List Fetch) (s : State) :
    (State.hostTurns f l s).blank msk = s.blank msk := by
  induction f generalizing l s with
  | zero => rfl
  | succ f ih =>
    simp only [State.hostTurns, ↓State.ite_blank, ↓ih, ↓State.withHrg_blank, ↓State.foldl_blank, ↓State.hostFetch_blank, h_clk, h_evt, h_hrg, h_img, h_gns, h_pnt, h_ctrs, h_sni, h_est, h_csq, h_tim, h_rdn, h_btr, h_can, h_ylk, h_log, h_mem, h_outbox,
      implies_true, ite_self]

theorem execHost_blank (h_clk : msk .clk = true) (h_crs : msk .crs = true) (h_evt : msk .evt = true) (h_hrg : msk .hrg = true) (h_img : msk .img = true) (h_gns : msk .gns = true) (h_pnt : msk .pnt = true) (h_ctrs : msk .ctrs = true) (h_sni : msk .sni = true) (h_est : msk .est = true) (h_csq : msk .csq = true) (h_tim : msk .tim = true) (h_rdn : msk .rdn = true) (h_btr : msk .btr = true) (h_can : msk .can = true) (h_ylk : msk .ylk = true) (h_log : msk .log = true) (h_mem : msk .mem = true) (h_outbox : msk .outbox = true) (t : Nat) (fetches : List Fetch) (s : State) {t' : State} (h : execHost t fetches s = .next t') : t'.blank msk = s.blank msk := by
  unfold execHost at h
  injection h with h
  subst h
  repeat' (first | with_reducible rfl | assumption | simp only [↓State.hostTurns_blank, ↓State.releaseFenced_blank, ↓State.runService_blank, ↓State.writeEvents_blank, ↓State.ite_blank, ite_self, h_clk, h_crs, h_evt, h_hrg, h_img, h_gns, h_pnt, h_ctrs, h_sni, h_est, h_csq, h_tim, h_rdn, h_btr, h_can, h_ylk, h_log, h_mem, h_outbox, ↓State.foldl_blank, implies_true, forall_const] | rw [State.runService_blank] | split | intro _)

theorem execCompletionPost_blank (h_clk : msk .clk = true) (h_evt : msk .evt = true) (h_hrg : msk .hrg = true) (h_img : msk .img = true) (h_gns : msk .gns = true) (h_pnt : msk .pnt = true) (h_ctrs : msk .ctrs = true) (h_sni : msk .sni = true) (h_est : msk .est = true) (h_csq : msk .csq = true) (h_tim : msk .tim = true) (h_rdn : msk .rdn = true) (h_btr : msk .btr = true) (h_can : msk .can = true) (h_ylk : msk .ylk = true) (h_log : msk .log = true) (h_mem : msk .mem = true) (h_outbox : msk .outbox = true) (t ring : Nat) (s : State) {t' : State} (h : execCompletionPost t ring s = .next t') : t'.blank msk = s.blank msk := by
  simp only [execCompletionPost, Host.Outcome.next.injEq] at h
  subst h
  simp only [↓State.instant_blank, ↓State.postCompletion_blank, ↓State.releaseFenced_blank, ↓State.ite_blank, ite_self, h_clk, h_evt, h_hrg, h_img, h_gns, h_pnt, h_ctrs, h_sni, h_est, h_csq, h_tim, h_rdn, h_btr, h_can, h_ylk, h_log, h_mem, h_outbox]

theorem execBulkPieceWrite_blank (h_clk : msk .clk = true) (h_evt : msk .evt = true) (h_hrg : msk .hrg = true) (h_gns : msk .gns = true) (h_ctrs : msk .ctrs = true) (h_log : msk .log = true) (h_mem : msk .mem = true) (h_outbox : msk .outbox = true) (piece : BulkPiece) (s : State) {t' : State} (h : execBulkPieceWrite piece s = .next t') : t'.blank msk = s.blank msk := by
  simp only [execBulkPieceWrite, Host.Outcome.next.injEq] at h
  subst h
  simp only [↓State.fillLogRead_blank, ↓State.instant_blank, ↓State.snapExported_blank, ↓State.writePiece_blank, ↓State.ite_blank, ite_self, h_clk, h_evt, h_hrg, h_gns, h_ctrs, h_log, h_mem, h_outbox]

theorem execNop_blank (h_clk : msk .clk = true) (h_evt : msk .evt = true) (h_hrg : msk .hrg = true) (h_img : msk .img = true) (h_gns : msk .gns = true) (h_pnt : msk .pnt = true) (h_ctrs : msk .ctrs = true) (h_sni : msk .sni = true) (h_est : msk .est = true) (h_csq : msk .csq = true) (h_tim : msk .tim = true) (h_rdn : msk .rdn = true) (h_btr : msk .btr = true) (h_can : msk .can = true) (h_ylk : msk .ylk = true) (h_log : msk .log = true) (h_mem : msk .mem = true) (h_outbox : msk .outbox = true) (t : Nat) (h : CmdHdr) (s : State) {t' : State} (h : execNop t h s = .next t') : t'.blank msk = s.blank msk := by
  simp only [execNop, Host.Outcome.next.injEq] at h
  subst h
  simp only [↓State.hostCommand_blank, ↓State.ite_blank, ite_self, h_clk, h_evt, h_hrg, h_img, h_gns, h_pnt, h_ctrs, h_sni, h_est, h_csq, h_tim, h_rdn, h_btr, h_can, h_ylk, h_log, h_mem, h_outbox]

theorem execImageLoad_blank (h_clk : msk .clk = true) (h_evt : msk .evt = true) (h_hrg : msk .hrg = true) (h_img : msk .img = true) (h_gns : msk .gns = true) (h_pnt : msk .pnt = true) (h_ctrs : msk .ctrs = true) (h_sni : msk .sni = true) (h_est : msk .est = true) (h_csq : msk .csq = true) (h_tim : msk .tim = true) (h_rdn : msk .rdn = true) (h_btr : msk .btr = true) (h_can : msk .can = true) (h_ylk : msk .ylk = true) (h_log : msk .log = true) (h_mem : msk .mem = true) (h_outbox : msk .outbox = true) (t : Nat) (h : CmdHdr) (s : State) {t' : State} (h : execImageLoad t h s = .next t') : t'.blank msk = s.blank msk := by
  simp only [execImageLoad, Host.Outcome.next.injEq] at h
  subst h
  simp only [↓State.hostCommand_blank, ↓State.ite_blank, ite_self, h_clk, h_evt, h_hrg, h_img, h_gns, h_pnt, h_ctrs, h_sni, h_est, h_csq, h_tim, h_rdn, h_btr, h_can, h_ylk, h_log, h_mem, h_outbox]

theorem execImageActivate_blank (h_clk : msk .clk = true) (h_evt : msk .evt = true) (h_hrg : msk .hrg = true) (h_img : msk .img = true) (h_gns : msk .gns = true) (h_pnt : msk .pnt = true) (h_ctrs : msk .ctrs = true) (h_sni : msk .sni = true) (h_est : msk .est = true) (h_csq : msk .csq = true) (h_tim : msk .tim = true) (h_rdn : msk .rdn = true) (h_btr : msk .btr = true) (h_can : msk .can = true) (h_ylk : msk .ylk = true) (h_log : msk .log = true) (h_mem : msk .mem = true) (h_outbox : msk .outbox = true) (t : Nat) (h : CmdHdr) (n : Word) (s : State) {t' : State} (h : execImageActivate t h n s = .next t') : t'.blank msk = s.blank msk := by
  simp only [execImageActivate, Host.Outcome.next.injEq] at h
  subst h
  simp only [↓State.hostCommand_blank, ↓State.ite_blank, ite_self, h_clk, h_evt, h_hrg, h_img, h_gns, h_pnt, h_ctrs, h_sni, h_est, h_csq, h_tim, h_rdn, h_btr, h_can, h_ylk, h_log, h_mem, h_outbox]

theorem execImageDiscard_blank (h_clk : msk .clk = true) (h_evt : msk .evt = true) (h_hrg : msk .hrg = true) (h_img : msk .img = true) (h_gns : msk .gns = true) (h_pnt : msk .pnt = true) (h_ctrs : msk .ctrs = true) (h_sni : msk .sni = true) (h_est : msk .est = true) (h_csq : msk .csq = true) (h_tim : msk .tim = true) (h_rdn : msk .rdn = true) (h_btr : msk .btr = true) (h_can : msk .can = true) (h_ylk : msk .ylk = true) (h_log : msk .log = true) (h_mem : msk .mem = true) (h_outbox : msk .outbox = true) (t : Nat) (h : CmdHdr) (s : State) {t' : State} (h : execImageDiscard t h s = .next t') : t'.blank msk = s.blank msk := by
  simp only [execImageDiscard, Host.Outcome.next.injEq] at h
  subst h
  simp only [↓State.hostCommand_blank, ↓State.ite_blank, ite_self, h_clk, h_evt, h_hrg, h_img, h_gns, h_pnt, h_ctrs, h_sni, h_est, h_csq, h_tim, h_rdn, h_btr, h_can, h_ylk, h_log, h_mem, h_outbox]

theorem execImageQuery_blank (h_clk : msk .clk = true) (h_evt : msk .evt = true) (h_hrg : msk .hrg = true) (h_img : msk .img = true) (h_gns : msk .gns = true) (h_pnt : msk .pnt = true) (h_ctrs : msk .ctrs = true) (h_sni : msk .sni = true) (h_est : msk .est = true) (h_csq : msk .csq = true) (h_tim : msk .tim = true) (h_rdn : msk .rdn = true) (h_btr : msk .btr = true) (h_can : msk .can = true) (h_ylk : msk .ylk = true) (h_log : msk .log = true) (h_mem : msk .mem = true) (h_outbox : msk .outbox = true) (t : Nat) (h : CmdHdr) (s : State) {t' : State} (h : execImageQuery t h s = .next t') : t'.blank msk = s.blank msk := by
  simp only [execImageQuery, Host.Outcome.next.injEq] at h
  subst h
  simp only [↓State.hostCommand_blank, ↓State.ite_blank, ite_self, h_clk, h_evt, h_hrg, h_img, h_gns, h_pnt, h_ctrs, h_sni, h_est, h_csq, h_tim, h_rdn, h_btr, h_can, h_ylk, h_log, h_mem, h_outbox]

theorem execAnalogTest_blank (h_clk : msk .clk = true) (h_evt : msk .evt = true) (h_hrg : msk .hrg = true) (h_img : msk .img = true) (h_gns : msk .gns = true) (h_pnt : msk .pnt = true) (h_ctrs : msk .ctrs = true) (h_sni : msk .sni = true) (h_est : msk .est = true) (h_csq : msk .csq = true) (h_tim : msk .tim = true) (h_rdn : msk .rdn = true) (h_btr : msk .btr = true) (h_can : msk .can = true) (h_ylk : msk .ylk = true) (h_log : msk .log = true) (h_mem : msk .mem = true) (h_outbox : msk .outbox = true) (t : Nat) (h : CmdHdr) (channel input : Nat) (s : State) {t' : State} (h : execAnalogTest t h channel input s = .next t') : t'.blank msk = s.blank msk := by
  simp only [execAnalogTest, Host.Outcome.next.injEq] at h
  subst h
  simp only [↓State.hostCommand_blank, ↓State.ite_blank, ite_self, h_clk, h_evt, h_hrg, h_img, h_gns, h_pnt, h_ctrs, h_sni, h_est, h_csq, h_tim, h_rdn, h_btr, h_can, h_ylk, h_log, h_mem, h_outbox]

theorem execGnssCorrection_blank (h_clk : msk .clk = true) (h_evt : msk .evt = true) (h_hrg : msk .hrg = true) (h_img : msk .img = true) (h_gns : msk .gns = true) (h_pnt : msk .pnt = true) (h_ctrs : msk .ctrs = true) (h_sni : msk .sni = true) (h_est : msk .est = true) (h_csq : msk .csq = true) (h_tim : msk .tim = true) (h_rdn : msk .rdn = true) (h_btr : msk .btr = true) (h_can : msk .can = true) (h_ylk : msk .ylk = true) (h_log : msk .log = true) (h_mem : msk .mem = true) (h_outbox : msk .outbox = true) (t : Nat) (h : CmdHdr) (data : List Byte) (s : State) {t' : State} (h : execGnssCorrection t h data s = .next t') : t'.blank msk = s.blank msk := by
  simp only [execGnssCorrection, Host.Outcome.next.injEq] at h
  subst h
  simp only [↓State.hostCommand_blank, ↓State.ite_blank, ite_self, h_clk, h_evt, h_hrg, h_img, h_gns, h_pnt, h_ctrs, h_sni, h_est, h_csq, h_tim, h_rdn, h_btr, h_can, h_ylk, h_log, h_mem, h_outbox]

theorem execGnssSnapshot_blank (h_clk : msk .clk = true) (h_evt : msk .evt = true) (h_hrg : msk .hrg = true) (h_img : msk .img = true) (h_gns : msk .gns = true) (h_pnt : msk .pnt = true) (h_ctrs : msk .ctrs = true) (h_sni : msk .sni = true) (h_est : msk .est = true) (h_csq : msk .csq = true) (h_tim : msk .tim = true) (h_rdn : msk .rdn = true) (h_btr : msk .btr = true) (h_can : msk .can = true) (h_ylk : msk .ylk = true) (h_log : msk .log = true) (h_mem : msk .mem = true) (h_outbox : msk .outbox = true) (t : Nat) (h : CmdHdr) (secs ns dur streams tap : Nat) (s : State) {t' : State} (h : execGnssSnapshot t h secs ns dur streams tap s = .next t') : t'.blank msk = s.blank msk := by
  simp only [execGnssSnapshot, Host.Outcome.next.injEq] at h
  subst h
  simp only [↓State.hostCommand_blank, ↓State.ite_blank, ite_self, h_clk, h_evt, h_hrg, h_img, h_gns, h_pnt, h_ctrs, h_sni, h_est, h_csq, h_tim, h_rdn, h_btr, h_can, h_ylk, h_log, h_mem, h_outbox]

theorem execGnssQuery_blank (h_clk : msk .clk = true) (h_evt : msk .evt = true) (h_hrg : msk .hrg = true) (h_img : msk .img = true) (h_gns : msk .gns = true) (h_pnt : msk .pnt = true) (h_ctrs : msk .ctrs = true) (h_sni : msk .sni = true) (h_est : msk .est = true) (h_csq : msk .csq = true) (h_tim : msk .tim = true) (h_rdn : msk .rdn = true) (h_btr : msk .btr = true) (h_can : msk .can = true) (h_ylk : msk .ylk = true) (h_log : msk .log = true) (h_mem : msk .mem = true) (h_outbox : msk .outbox = true) (t : Nat) (h : CmdHdr) (s : State) {t' : State} (h : execGnssQuery t h s = .next t') : t'.blank msk = s.blank msk := by
  simp only [execGnssQuery, Host.Outcome.next.injEq] at h
  subst h
  simp only [↓State.hostCommand_blank, ↓State.ite_blank, ite_self, h_clk, h_evt, h_hrg, h_img, h_gns, h_pnt, h_ctrs, h_sni, h_est, h_csq, h_tim, h_rdn, h_btr, h_can, h_ylk, h_log, h_mem, h_outbox]

theorem execGridOrigin_blank (h_clk : msk .clk = true) (h_evt : msk .evt = true) (h_hrg : msk .hrg = true) (h_img : msk .img = true) (h_gns : msk .gns = true) (h_pnt : msk .pnt = true) (h_ctrs : msk .ctrs = true) (h_sni : msk .sni = true) (h_est : msk .est = true) (h_csq : msk .csq = true) (h_tim : msk .tim = true) (h_rdn : msk .rdn = true) (h_btr : msk .btr = true) (h_can : msk .can = true) (h_ylk : msk .ylk = true) (h_log : msk .log = true) (h_mem : msk .mem = true) (h_outbox : msk .outbox = true) (t : Nat) (h : CmdHdr) (lat lon height : Word) (s : State) {t' : State} (h : execGridOrigin t h lat lon height s = .next t') : t'.blank msk = s.blank msk := by
  simp only [execGridOrigin, Host.Outcome.next.injEq] at h
  subst h
  simp only [↓State.hostCommand_blank, ↓State.ite_blank, ite_self, h_clk, h_evt, h_hrg, h_img, h_gns, h_pnt, h_ctrs, h_sni, h_est, h_csq, h_tim, h_rdn, h_btr, h_can, h_ylk, h_log, h_mem, h_outbox]

theorem execRefEnable_blank (h_clk : msk .clk = true) (h_evt : msk .evt = true) (h_hrg : msk .hrg = true) (h_img : msk .img = true) (h_gns : msk .gns = true) (h_pnt : msk .pnt = true) (h_ctrs : msk .ctrs = true) (h_sni : msk .sni = true) (h_est : msk .est = true) (h_csq : msk .csq = true) (h_tim : msk .tim = true) (h_rdn : msk .rdn = true) (h_btr : msk .btr = true) (h_can : msk .can = true) (h_ylk : msk .ylk = true) (h_log : msk .log = true) (h_mem : msk .mem = true) (h_outbox : msk .outbox = true) (t : Nat) (h : CmdHdr) (ref on : Nat) (s : State) {t' : State} (h : execRefEnable t h ref on s = .next t') : t'.blank msk = s.blank msk := by
  simp only [execRefEnable, Host.Outcome.next.injEq] at h
  subst h
  simp only [↓State.hostCommand_blank, ↓State.ite_blank, ite_self, h_clk, h_evt, h_hrg, h_img, h_gns, h_pnt, h_ctrs, h_sni, h_est, h_csq, h_tim, h_rdn, h_btr, h_can, h_ylk, h_log, h_mem, h_outbox]

theorem execRefTarget_blank (h_clk : msk .clk = true) (h_evt : msk .evt = true) (h_hrg : msk .hrg = true) (h_img : msk .img = true) (h_gns : msk .gns = true) (h_pnt : msk .pnt = true) (h_ctrs : msk .ctrs = true) (h_sni : msk .sni = true) (h_est : msk .est = true) (h_csq : msk .csq = true) (h_tim : msk .tim = true) (h_rdn : msk .rdn = true) (h_btr : msk .btr = true) (h_can : msk .can = true) (h_ylk : msk .ylk = true) (h_log : msk .log = true) (h_mem : msk .mem = true) (h_outbox : msk .outbox = true) (t : Nat) (h : CmdHdr) (ref capture : Nat) (n e : Word) (s : State) {t' : State} (h : execRefTarget t h ref capture n e s = .next t') : t'.blank msk = s.blank msk := by
  simp only [execRefTarget, Host.Outcome.next.injEq] at h
  subst h
  simp only [↓State.hostCommand_blank, ↓State.ite_blank, ite_self, h_clk, h_evt, h_hrg, h_img, h_gns, h_pnt, h_ctrs, h_sni, h_est, h_csq, h_tim, h_rdn, h_btr, h_can, h_ylk, h_log, h_mem, h_outbox]

theorem execRefStatus_blank (h_clk : msk .clk = true) (h_evt : msk .evt = true) (h_hrg : msk .hrg = true) (h_img : msk .img = true) (h_gns : msk .gns = true) (h_pnt : msk .pnt = true) (h_ctrs : msk .ctrs = true) (h_sni : msk .sni = true) (h_est : msk .est = true) (h_csq : msk .csq = true) (h_tim : msk .tim = true) (h_rdn : msk .rdn = true) (h_btr : msk .btr = true) (h_can : msk .can = true) (h_ylk : msk .ylk = true) (h_log : msk .log = true) (h_mem : msk .mem = true) (h_outbox : msk .outbox = true) (t : Nat) (h : CmdHdr) (ref : Nat) (s : State) {t' : State} (h : execRefStatus t h ref s = .next t') : t'.blank msk = s.blank msk := by
  simp only [execRefStatus, Host.Outcome.next.injEq] at h
  subst h
  simp only [↓State.hostCommand_blank, ↓State.ite_blank, ite_self, h_clk, h_evt, h_hrg, h_img, h_gns, h_pnt, h_ctrs, h_sni, h_est, h_csq, h_tim, h_rdn, h_btr, h_can, h_ylk, h_log, h_mem, h_outbox]

theorem execEstQuery_blank (h_clk : msk .clk = true) (h_evt : msk .evt = true) (h_hrg : msk .hrg = true) (h_img : msk .img = true) (h_gns : msk .gns = true) (h_pnt : msk .pnt = true) (h_ctrs : msk .ctrs = true) (h_sni : msk .sni = true) (h_est : msk .est = true) (h_csq : msk .csq = true) (h_tim : msk .tim = true) (h_rdn : msk .rdn = true) (h_btr : msk .btr = true) (h_can : msk .can = true) (h_ylk : msk .ylk = true) (h_log : msk .log = true) (h_mem : msk .mem = true) (h_outbox : msk .outbox = true) (t : Nat) (h : CmdHdr) (s : State) {t' : State} (h : execEstQuery t h s = .next t') : t'.blank msk = s.blank msk := by
  simp only [execEstQuery, Host.Outcome.next.injEq] at h
  subst h
  simp only [↓State.hostCommand_blank, ↓State.ite_blank, ite_self, h_clk, h_evt, h_hrg, h_img, h_gns, h_pnt, h_ctrs, h_sni, h_est, h_csq, h_tim, h_rdn, h_btr, h_can, h_ylk, h_log, h_mem, h_outbox]

theorem execDpMode_blank (h_clk : msk .clk = true) (h_evt : msk .evt = true) (h_hrg : msk .hrg = true) (h_img : msk .img = true) (h_gns : msk .gns = true) (h_pnt : msk .pnt = true) (h_ctrs : msk .ctrs = true) (h_sni : msk .sni = true) (h_est : msk .est = true) (h_csq : msk .csq = true) (h_tim : msk .tim = true) (h_rdn : msk .rdn = true) (h_btr : msk .btr = true) (h_can : msk .can = true) (h_ylk : msk .ylk = true) (h_log : msk .log = true) (h_mem : msk .mem = true) (h_outbox : msk .outbox = true) (t : Nat) (h : CmdHdr) (mode joy : Nat) (s : State) {t' : State} (h : execDpMode t h mode joy s = .next t') : t'.blank msk = s.blank msk := by
  simp only [execDpMode, Host.Outcome.next.injEq] at h
  subst h
  simp only [↓State.hostCommand_blank, ↓State.ite_blank, ite_self, h_clk, h_evt, h_hrg, h_img, h_gns, h_pnt, h_ctrs, h_sni, h_est, h_csq, h_tim, h_rdn, h_btr, h_can, h_ylk, h_log, h_mem, h_outbox]

theorem execSetpoint_blank (h_clk : msk .clk = true) (h_evt : msk .evt = true) (h_hrg : msk .hrg = true) (h_img : msk .img = true) (h_gns : msk .gns = true) (h_pnt : msk .pnt = true) (h_ctrs : msk .ctrs = true) (h_sni : msk .sni = true) (h_est : msk .est = true) (h_csq : msk .csq = true) (h_tim : msk .tim = true) (h_rdn : msk .rdn = true) (h_btr : msk .btr = true) (h_can : msk .can = true) (h_ylk : msk .ylk = true) (h_log : msk .log = true) (h_mem : msk .mem = true) (h_outbox : msk .outbox = true) (t : Nat) (h : CmdHdr) (flags turn : Nat) (n e heading : Word) (s : State) {t' : State} (h : execSetpoint t h flags turn n e heading s = .next t') : t'.blank msk = s.blank msk := by
  simp only [execSetpoint, Host.Outcome.next.injEq] at h
  subst h
  simp only [↓State.hostCommand_blank, ↓State.ite_blank, ite_self, h_clk, h_evt, h_hrg, h_img, h_gns, h_pnt, h_ctrs, h_sni, h_est, h_csq, h_tim, h_rdn, h_btr, h_can, h_ylk, h_log, h_mem, h_outbox]

theorem execGainSelect_blank (h_clk : msk .clk = true) (h_evt : msk .evt = true) (h_hrg : msk .hrg = true) (h_img : msk .img = true) (h_gns : msk .gns = true) (h_pnt : msk .pnt = true) (h_ctrs : msk .ctrs = true) (h_sni : msk .sni = true) (h_est : msk .est = true) (h_csq : msk .csq = true) (h_tim : msk .tim = true) (h_rdn : msk .rdn = true) (h_btr : msk .btr = true) (h_can : msk .can = true) (h_ylk : msk .ylk = true) (h_log : msk .log = true) (h_mem : msk .mem = true) (h_outbox : msk .outbox = true) (t : Nat) (h : CmdHdr) (set : Nat) (s : State) {t' : State} (h : execGainSelect t h set s = .next t') : t'.blank msk = s.blank msk := by
  simp only [execGainSelect, Host.Outcome.next.injEq] at h
  subst h
  simp only [↓State.hostCommand_blank, ↓State.ite_blank, ite_self, h_clk, h_evt, h_hrg, h_img, h_gns, h_pnt, h_ctrs, h_sni, h_est, h_csq, h_tim, h_rdn, h_btr, h_can, h_ylk, h_log, h_mem, h_outbox]

theorem execTrackLoad_blank (h_clk : msk .clk = true) (h_evt : msk .evt = true) (h_hrg : msk .hrg = true) (h_img : msk .img = true) (h_gns : msk .gns = true) (h_pnt : msk .pnt = true) (h_ctrs : msk .ctrs = true) (h_sni : msk .sni = true) (h_est : msk .est = true) (h_csq : msk .csq = true) (h_tim : msk .tim = true) (h_rdn : msk .rdn = true) (h_btr : msk .btr = true) (h_can : msk .can = true) (h_ylk : msk .ylk = true) (h_log : msk .log = true) (h_mem : msk .mem = true) (h_outbox : msk .outbox = true) (t : Nat) (h : CmdHdr) (data : List Byte) (s : State) {t' : State} (h : execTrackLoad t h data s = .next t') : t'.blank msk = s.blank msk := by
  simp only [execTrackLoad, Host.Outcome.next.injEq] at h
  subst h
  simp only [↓State.hostCommand_blank, ↓State.ite_blank, ite_self, h_clk, h_evt, h_hrg, h_img, h_gns, h_pnt, h_ctrs, h_sni, h_est, h_csq, h_tim, h_rdn, h_btr, h_can, h_ylk, h_log, h_mem, h_outbox]

theorem execBerthSet_blank (h_clk : msk .clk = true) (h_evt : msk .evt = true) (h_hrg : msk .hrg = true) (h_img : msk .img = true) (h_gns : msk .gns = true) (h_pnt : msk .pnt = true) (h_ctrs : msk .ctrs = true) (h_sni : msk .sni = true) (h_est : msk .est = true) (h_csq : msk .csq = true) (h_tim : msk .tim = true) (h_rdn : msk .rdn = true) (h_btr : msk .btr = true) (h_can : msk .can = true) (h_ylk : msk .ylk = true) (h_log : msk .log = true) (h_mem : msk .mem = true) (h_outbox : msk .outbox = true) (t : Nat) (h : CmdHdr) (n e heading : Word) (side : Nat) (s : State) {t' : State} (h : execBerthSet t h n e heading side s = .next t') : t'.blank msk = s.blank msk := by
  simp only [execBerthSet, Host.Outcome.next.injEq] at h
  subst h
  simp only [↓State.hostCommand_blank, ↓State.ite_blank, ite_self, h_clk, h_evt, h_hrg, h_img, h_gns, h_pnt, h_ctrs, h_sni, h_est, h_csq, h_tim, h_rdn, h_btr, h_can, h_ylk, h_log, h_mem, h_outbox]

theorem execCtrlQuery_blank (h_clk : msk .clk = true) (h_evt : msk .evt = true) (h_hrg : msk .hrg = true) (h_img : msk .img = true) (h_gns : msk .gns = true) (h_pnt : msk .pnt = true) (h_ctrs : msk .ctrs = true) (h_sni : msk .sni = true) (h_est : msk .est = true) (h_csq : msk .csq = true) (h_tim : msk .tim = true) (h_rdn : msk .rdn = true) (h_btr : msk .btr = true) (h_can : msk .can = true) (h_ylk : msk .ylk = true) (h_log : msk .log = true) (h_mem : msk .mem = true) (h_outbox : msk .outbox = true) (t : Nat) (h : CmdHdr) (s : State) {t' : State} (h : execCtrlQuery t h s = .next t') : t'.blank msk = s.blank msk := by
  simp only [execCtrlQuery, Host.Outcome.next.injEq] at h
  subst h
  simp only [↓State.hostCommand_blank, ↓State.ite_blank, ite_self, h_clk, h_evt, h_hrg, h_img, h_gns, h_pnt, h_ctrs, h_sni, h_est, h_csq, h_tim, h_rdn, h_btr, h_can, h_ylk, h_log, h_mem, h_outbox]

theorem execThrusterEnable_blank (h_clk : msk .clk = true) (h_evt : msk .evt = true) (h_hrg : msk .hrg = true) (h_img : msk .img = true) (h_gns : msk .gns = true) (h_pnt : msk .pnt = true) (h_ctrs : msk .ctrs = true) (h_sni : msk .sni = true) (h_est : msk .est = true) (h_csq : msk .csq = true) (h_tim : msk .tim = true) (h_rdn : msk .rdn = true) (h_btr : msk .btr = true) (h_can : msk .can = true) (h_ylk : msk .ylk = true) (h_log : msk .log = true) (h_mem : msk .mem = true) (h_outbox : msk .outbox = true) (t : Nat) (h : CmdHdr) (changed on : Half) (s : State) {t' : State} (h : execThrusterEnable t h changed on s = .next t') : t'.blank msk = s.blank msk := by
  simp only [execThrusterEnable, Host.Outcome.next.injEq] at h
  subst h
  simp only [↓State.hostCommand_blank, ↓State.ite_blank, ite_self, h_clk, h_evt, h_hrg, h_img, h_gns, h_pnt, h_ctrs, h_sni, h_est, h_csq, h_tim, h_rdn, h_btr, h_can, h_ylk, h_log, h_mem, h_outbox]

theorem execAllocQuery_blank (h_clk : msk .clk = true) (h_evt : msk .evt = true) (h_hrg : msk .hrg = true) (h_img : msk .img = true) (h_gns : msk .gns = true) (h_pnt : msk .pnt = true) (h_ctrs : msk .ctrs = true) (h_sni : msk .sni = true) (h_est : msk .est = true) (h_csq : msk .csq = true) (h_tim : msk .tim = true) (h_rdn : msk .rdn = true) (h_btr : msk .btr = true) (h_can : msk .can = true) (h_ylk : msk .ylk = true) (h_log : msk .log = true) (h_mem : msk .mem = true) (h_outbox : msk .outbox = true) (t : Nat) (h : CmdHdr) (s : State) {t' : State} (h : execAllocQuery t h s = .next t') : t'.blank msk = s.blank msk := by
  simp only [execAllocQuery, Host.Outcome.next.injEq] at h
  subst h
  simp only [↓State.hostCommand_blank, ↓State.ite_blank, ite_self, h_clk, h_evt, h_hrg, h_img, h_gns, h_pnt, h_ctrs, h_sni, h_est, h_csq, h_tim, h_rdn, h_btr, h_can, h_ylk, h_log, h_mem, h_outbox]

theorem execConseqQuery_blank (h_clk : msk .clk = true) (h_evt : msk .evt = true) (h_hrg : msk .hrg = true) (h_img : msk .img = true) (h_gns : msk .gns = true) (h_pnt : msk .pnt = true) (h_ctrs : msk .ctrs = true) (h_sni : msk .sni = true) (h_est : msk .est = true) (h_csq : msk .csq = true) (h_tim : msk .tim = true) (h_rdn : msk .rdn = true) (h_btr : msk .btr = true) (h_can : msk .can = true) (h_ylk : msk .ylk = true) (h_log : msk .log = true) (h_mem : msk .mem = true) (h_outbox : msk .outbox = true) (t : Nat) (h : CmdHdr) (s : State) {t' : State} (h : execConseqQuery t h s = .next t') : t'.blank msk = s.blank msk := by
  simp only [execConseqQuery, Host.Outcome.next.injEq] at h
  subst h
  simp only [↓State.hostCommand_blank, ↓State.ite_blank, ite_self, h_clk, h_evt, h_hrg, h_img, h_gns, h_pnt, h_ctrs, h_sni, h_est, h_csq, h_tim, h_rdn, h_btr, h_can, h_ylk, h_log, h_mem, h_outbox]

theorem execEnvelopeQuery_blank (h_clk : msk .clk = true) (h_evt : msk .evt = true) (h_hrg : msk .hrg = true) (h_img : msk .img = true) (h_gns : msk .gns = true) (h_pnt : msk .pnt = true) (h_ctrs : msk .ctrs = true) (h_sni : msk .sni = true) (h_est : msk .est = true) (h_csq : msk .csq = true) (h_tim : msk .tim = true) (h_rdn : msk .rdn = true) (h_btr : msk .btr = true) (h_can : msk .can = true) (h_ylk : msk .ylk = true) (h_log : msk .log = true) (h_mem : msk .mem = true) (h_outbox : msk .outbox = true) (t : Nat) (h : CmdHdr) (s : State) {t' : State} (h : execEnvelopeQuery t h s = .next t') : t'.blank msk = s.blank msk := by
  simp only [execEnvelopeQuery, Host.Outcome.next.injEq] at h
  subst h
  simp only [↓State.hostCommand_blank, ↓State.ite_blank, ite_self, h_clk, h_evt, h_hrg, h_img, h_gns, h_pnt, h_ctrs, h_sni, h_est, h_csq, h_tim, h_rdn, h_btr, h_can, h_ylk, h_log, h_mem, h_outbox]

theorem execTrimStart_blank (h_clk : msk .clk = true) (h_evt : msk .evt = true) (h_hrg : msk .hrg = true) (h_img : msk .img = true) (h_gns : msk .gns = true) (h_pnt : msk .pnt = true) (h_ctrs : msk .ctrs = true) (h_sni : msk .sni = true) (h_est : msk .est = true) (h_csq : msk .csq = true) (h_tim : msk .tim = true) (h_rdn : msk .rdn = true) (h_btr : msk .btr = true) (h_can : msk .can = true) (h_ylk : msk .ylk = true) (h_log : msk .log = true) (h_mem : msk .mem = true) (h_outbox : msk .outbox = true) (t : Nat) (h : CmdHdr) (heel trim : Half) (s : State) {t' : State} (h : execTrimStart t h heel trim s = .next t') : t'.blank msk = s.blank msk := by
  simp only [execTrimStart, Host.Outcome.next.injEq] at h
  subst h
  simp only [↓State.hostCommand_blank, ↓State.ite_blank, ite_self, h_clk, h_evt, h_hrg, h_img, h_gns, h_pnt, h_ctrs, h_sni, h_est, h_csq, h_tim, h_rdn, h_btr, h_can, h_ylk, h_log, h_mem, h_outbox]

theorem execTrimSet_blank (h_clk : msk .clk = true) (h_evt : msk .evt = true) (h_hrg : msk .hrg = true) (h_img : msk .img = true) (h_gns : msk .gns = true) (h_pnt : msk .pnt = true) (h_ctrs : msk .ctrs = true) (h_sni : msk .sni = true) (h_est : msk .est = true) (h_csq : msk .csq = true) (h_tim : msk .tim = true) (h_rdn : msk .rdn = true) (h_btr : msk .btr = true) (h_can : msk .can = true) (h_ylk : msk .ylk = true) (h_log : msk .log = true) (h_mem : msk .mem = true) (h_outbox : msk .outbox = true) (t : Nat) (h : CmdHdr) (heel trim : Half) (s : State) {t' : State} (h : execTrimSet t h heel trim s = .next t') : t'.blank msk = s.blank msk := by
  simp only [execTrimSet, Host.Outcome.next.injEq] at h
  subst h
  simp only [↓State.hostCommand_blank, ↓State.ite_blank, ite_self, h_clk, h_evt, h_hrg, h_img, h_gns, h_pnt, h_ctrs, h_sni, h_est, h_csq, h_tim, h_rdn, h_btr, h_can, h_ylk, h_log, h_mem, h_outbox]

theorem execTrimStop_blank (h_clk : msk .clk = true) (h_evt : msk .evt = true) (h_hrg : msk .hrg = true) (h_img : msk .img = true) (h_gns : msk .gns = true) (h_pnt : msk .pnt = true) (h_ctrs : msk .ctrs = true) (h_sni : msk .sni = true) (h_est : msk .est = true) (h_csq : msk .csq = true) (h_tim : msk .tim = true) (h_rdn : msk .rdn = true) (h_btr : msk .btr = true) (h_can : msk .can = true) (h_ylk : msk .ylk = true) (h_log : msk .log = true) (h_mem : msk .mem = true) (h_outbox : msk .outbox = true) (t : Nat) (h : CmdHdr) (s : State) {t' : State} (h : execTrimStop t h s = .next t') : t'.blank msk = s.blank msk := by
  simp only [execTrimStop, Host.Outcome.next.injEq] at h
  subst h
  simp only [↓State.hostCommand_blank, ↓State.ite_blank, ite_self, h_clk, h_evt, h_hrg, h_img, h_gns, h_pnt, h_ctrs, h_sni, h_est, h_csq, h_tim, h_rdn, h_btr, h_can, h_ylk, h_log, h_mem, h_outbox]

theorem execTrimQuery_blank (h_clk : msk .clk = true) (h_evt : msk .evt = true) (h_hrg : msk .hrg = true) (h_img : msk .img = true) (h_gns : msk .gns = true) (h_pnt : msk .pnt = true) (h_ctrs : msk .ctrs = true) (h_sni : msk .sni = true) (h_est : msk .est = true) (h_csq : msk .csq = true) (h_tim : msk .tim = true) (h_rdn : msk .rdn = true) (h_btr : msk .btr = true) (h_can : msk .can = true) (h_ylk : msk .ylk = true) (h_log : msk .log = true) (h_mem : msk .mem = true) (h_outbox : msk .outbox = true) (t : Nat) (h : CmdHdr) (s : State) {t' : State} (h : execTrimQuery t h s = .next t') : t'.blank msk = s.blank msk := by
  simp only [execTrimQuery, Host.Outcome.next.injEq] at h
  subst h
  simp only [↓State.hostCommand_blank, ↓State.ite_blank, ite_self, h_clk, h_evt, h_hrg, h_img, h_gns, h_pnt, h_ctrs, h_sni, h_est, h_csq, h_tim, h_rdn, h_btr, h_can, h_ylk, h_log, h_mem, h_outbox]

theorem execTimeStepAccept_blank (h_clk : msk .clk = true) (h_evt : msk .evt = true) (h_hrg : msk .hrg = true) (h_img : msk .img = true) (h_gns : msk .gns = true) (h_pnt : msk .pnt = true) (h_ctrs : msk .ctrs = true) (h_sni : msk .sni = true) (h_est : msk .est = true) (h_csq : msk .csq = true) (h_tim : msk .tim = true) (h_rdn : msk .rdn = true) (h_btr : msk .btr = true) (h_can : msk .can = true) (h_ylk : msk .ylk = true) (h_log : msk .log = true) (h_mem : msk .mem = true) (h_outbox : msk .outbox = true) (t : Nat) (h : CmdHdr) (seq : Nat) (s : State) {t' : State} (h : execTimeStepAccept t h seq s = .next t') : t'.blank msk = s.blank msk := by
  simp only [execTimeStepAccept, Host.Outcome.next.injEq] at h
  subst h
  simp only [↓State.hostCommand_blank, ↓State.ite_blank, ite_self, h_clk, h_evt, h_hrg, h_img, h_gns, h_pnt, h_ctrs, h_sni, h_est, h_csq, h_tim, h_rdn, h_btr, h_can, h_ylk, h_log, h_mem, h_outbox]

theorem execTimeSet_blank (h_clk : msk .clk = true) (h_evt : msk .evt = true) (h_hrg : msk .hrg = true) (h_img : msk .img = true) (h_gns : msk .gns = true) (h_pnt : msk .pnt = true) (h_ctrs : msk .ctrs = true) (h_sni : msk .sni = true) (h_est : msk .est = true) (h_csq : msk .csq = true) (h_tim : msk .tim = true) (h_rdn : msk .rdn = true) (h_btr : msk .btr = true) (h_can : msk .can = true) (h_ylk : msk .ylk = true) (h_log : msk .log = true) (h_mem : msk .mem = true) (h_outbox : msk .outbox = true) (t : Nat) (h : CmdHdr) (secs ns unc : Nat) (s : State) {t' : State} (h : execTimeSet t h secs ns unc s = .next t') : t'.blank msk = s.blank msk := by
  simp only [execTimeSet, Host.Outcome.next.injEq] at h
  subst h
  simp only [↓State.hostCommand_blank, ↓State.ite_blank, ite_self, h_clk, h_evt, h_hrg, h_img, h_gns, h_pnt, h_ctrs, h_sni, h_est, h_csq, h_tim, h_rdn, h_btr, h_can, h_ylk, h_log, h_mem, h_outbox]

theorem execTimeLeap_blank (h_clk : msk .clk = true) (h_evt : msk .evt = true) (h_hrg : msk .hrg = true) (h_img : msk .img = true) (h_gns : msk .gns = true) (h_pnt : msk .pnt = true) (h_ctrs : msk .ctrs = true) (h_sni : msk .sni = true) (h_est : msk .est = true) (h_csq : msk .csq = true) (h_tim : msk .tim = true) (h_rdn : msk .rdn = true) (h_btr : msk .btr = true) (h_can : msk .can = true) (h_ylk : msk .ylk = true) (h_log : msk .log = true) (h_mem : msk .mem = true) (h_outbox : msk .outbox = true) (t : Nat) (h : CmdHdr) (count : Nat) (s : State) {t' : State} (h : execTimeLeap t h count s = .next t') : t'.blank msk = s.blank msk := by
  simp only [execTimeLeap, Host.Outcome.next.injEq] at h
  subst h
  simp only [↓State.hostCommand_blank, ↓State.ite_blank, ite_self, h_clk, h_evt, h_hrg, h_img, h_gns, h_pnt, h_ctrs, h_sni, h_est, h_csq, h_tim, h_rdn, h_btr, h_can, h_ylk, h_log, h_mem, h_outbox]

theorem execClaimResume_blank (h_clk : msk .clk = true) (h_evt : msk .evt = true) (h_hrg : msk .hrg = true) (h_img : msk .img = true) (h_gns : msk .gns = true) (h_pnt : msk .pnt = true) (h_ctrs : msk .ctrs = true) (h_sni : msk .sni = true) (h_est : msk .est = true) (h_csq : msk .csq = true) (h_tim : msk .tim = true) (h_rdn : msk .rdn = true) (h_btr : msk .btr = true) (h_can : msk .can = true) (h_ylk : msk .ylk = true) (h_log : msk .log = true) (h_mem : msk .mem = true) (h_outbox : msk .outbox = true) (t : Nat) (h : CmdHdr) (s : State) {t' : State} (h : execClaimResume t h s = .next t') : t'.blank msk = s.blank msk := by
  simp only [execClaimResume, Host.Outcome.next.injEq] at h
  subst h
  simp only [↓State.hostCommand_blank, ↓State.ite_blank, ite_self, h_clk, h_evt, h_hrg, h_img, h_gns, h_pnt, h_ctrs, h_sni, h_est, h_csq, h_tim, h_rdn, h_btr, h_can, h_ylk, h_log, h_mem, h_outbox]

theorem execRoleExchange_blank (h_clk : msk .clk = true) (h_evt : msk .evt = true) (h_hrg : msk .hrg = true) (h_img : msk .img = true) (h_gns : msk .gns = true) (h_pnt : msk .pnt = true) (h_ctrs : msk .ctrs = true) (h_sni : msk .sni = true) (h_est : msk .est = true) (h_csq : msk .csq = true) (h_tim : msk .tim = true) (h_rdn : msk .rdn = true) (h_btr : msk .btr = true) (h_can : msk .can = true) (h_ylk : msk .ylk = true) (h_log : msk .log = true) (h_mem : msk .mem = true) (h_outbox : msk .outbox = true) (t : Nat) (h : CmdHdr) (s : State) {t' : State} (h : execRoleExchange t h s = .next t') : t'.blank msk = s.blank msk := by
  simp only [execRoleExchange, Host.Outcome.next.injEq] at h
  subst h
  simp only [↓State.hostCommand_blank, ↓State.ite_blank, ite_self, h_clk, h_evt, h_hrg, h_img, h_gns, h_pnt, h_ctrs, h_sni, h_est, h_csq, h_tim, h_rdn, h_btr, h_can, h_ylk, h_log, h_mem, h_outbox]

theorem execBtrReset_blank (h_clk : msk .clk = true) (h_evt : msk .evt = true) (h_hrg : msk .hrg = true) (h_img : msk .img = true) (h_gns : msk .gns = true) (h_pnt : msk .pnt = true) (h_ctrs : msk .ctrs = true) (h_sni : msk .sni = true) (h_est : msk .est = true) (h_csq : msk .csq = true) (h_tim : msk .tim = true) (h_rdn : msk .rdn = true) (h_btr : msk .btr = true) (h_can : msk .can = true) (h_ylk : msk .ylk = true) (h_log : msk .log = true) (h_mem : msk .mem = true) (h_outbox : msk .outbox = true) (t : Nat) (h : CmdHdr) (inputs : Half) (remotes outputs : Byte) (s : State) {t' : State} (h : execBtrReset t h inputs remotes outputs s = .next t') : t'.blank msk = s.blank msk := by
  simp only [execBtrReset, Host.Outcome.next.injEq] at h
  subst h
  simp only [↓State.hostCommand_blank, ↓State.ite_blank, ite_self, h_clk, h_evt, h_hrg, h_img, h_gns, h_pnt, h_ctrs, h_sni, h_est, h_csq, h_tim, h_rdn, h_btr, h_can, h_ylk, h_log, h_mem, h_outbox]

theorem execBtrOutput_blank (h_clk : msk .clk = true) (h_evt : msk .evt = true) (h_hrg : msk .hrg = true) (h_img : msk .img = true) (h_gns : msk .gns = true) (h_pnt : msk .pnt = true) (h_ctrs : msk .ctrs = true) (h_sni : msk .sni = true) (h_est : msk .est = true) (h_csq : msk .csq = true) (h_tim : msk .tim = true) (h_rdn : msk .rdn = true) (h_btr : msk .btr = true) (h_can : msk .can = true) (h_ylk : msk .ylk = true) (h_log : msk .log = true) (h_mem : msk .mem = true) (h_outbox : msk .outbox = true) (t : Nat) (h : CmdHdr) (changed on : Byte) (s : State) {t' : State} (h : execBtrOutput t h changed on s = .next t') : t'.blank msk = s.blank msk := by
  simp only [execBtrOutput, Host.Outcome.next.injEq] at h
  subst h
  simp only [↓State.hostCommand_blank, ↓State.ite_blank, ite_self, h_clk, h_evt, h_hrg, h_img, h_gns, h_pnt, h_ctrs, h_sni, h_est, h_csq, h_tim, h_rdn, h_btr, h_can, h_ylk, h_log, h_mem, h_outbox]

theorem execPointWrite_blank (h_clk : msk .clk = true) (h_evt : msk .evt = true) (h_hrg : msk .hrg = true) (h_img : msk .img = true) (h_gns : msk .gns = true) (h_pnt : msk .pnt = true) (h_ctrs : msk .ctrs = true) (h_sni : msk .sni = true) (h_est : msk .est = true) (h_csq : msk .csq = true) (h_tim : msk .tim = true) (h_rdn : msk .rdn = true) (h_btr : msk .btr = true) (h_can : msk .can = true) (h_ylk : msk .ylk = true) (h_log : msk .log = true) (h_mem : msk .mem = true) (h_outbox : msk .outbox = true) (t : Nat) (h : CmdHdr) (point : Nat) (value : Word) (quality typ : Nat) (s : State) {t' : State} (h : execPointWrite t h point value quality typ s = .next t') : t'.blank msk = s.blank msk := by
  simp only [execPointWrite, Host.Outcome.next.injEq] at h
  subst h
  simp only [↓State.hostCommand_blank, ↓State.ite_blank, ite_self, h_clk, h_evt, h_hrg, h_img, h_gns, h_pnt, h_ctrs, h_sni, h_est, h_csq, h_tim, h_rdn, h_btr, h_can, h_ylk, h_log, h_mem, h_outbox]

theorem execStreamSet_blank (h_clk : msk .clk = true) (h_evt : msk .evt = true) (h_hrg : msk .hrg = true) (h_img : msk .img = true) (h_gns : msk .gns = true) (h_pnt : msk .pnt = true) (h_ctrs : msk .ctrs = true) (h_sni : msk .sni = true) (h_est : msk .est = true) (h_csq : msk .csq = true) (h_tim : msk .tim = true) (h_rdn : msk .rdn = true) (h_btr : msk .btr = true) (h_can : msk .can = true) (h_ylk : msk .ylk = true) (h_log : msk .log = true) (h_mem : msk .mem = true) (h_outbox : msk .outbox = true) (t : Nat) (h : CmdHdr) (stream count : Nat) (data : List Byte) (s : State) {t' : State} (h : execStreamSet t h stream count data s = .next t') : t'.blank msk = s.blank msk := by
  simp only [execStreamSet, Host.Outcome.next.injEq] at h
  subst h
  simp only [↓State.hostCommand_blank, ↓State.ite_blank, ite_self, h_clk, h_evt, h_hrg, h_img, h_gns, h_pnt, h_ctrs, h_sni, h_est, h_csq, h_tim, h_rdn, h_btr, h_can, h_ylk, h_log, h_mem, h_outbox]

theorem execCanSend_blank (h_clk : msk .clk = true) (h_evt : msk .evt = true) (h_hrg : msk .hrg = true) (h_img : msk .img = true) (h_gns : msk .gns = true) (h_pnt : msk .pnt = true) (h_ctrs : msk .ctrs = true) (h_sni : msk .sni = true) (h_est : msk .est = true) (h_csq : msk .csq = true) (h_tim : msk .tim = true) (h_rdn : msk .rdn = true) (h_btr : msk .btr = true) (h_can : msk .can = true) (h_ylk : msk .ylk = true) (h_log : msk .log = true) (h_mem : msk .mem = true) (h_outbox : msk .outbox = true) (t : Nat) (h : CmdHdr) (ctl flags ident : Nat) (data : List Byte) (s : State) {t' : State} (h : execCanSend t h ctl flags ident data s = .next t') : t'.blank msk = s.blank msk := by
  simp only [execCanSend, Host.Outcome.next.injEq] at h
  subst h
  simp only [↓State.hostCommand_blank, ↓State.ite_blank, ite_self, h_clk, h_evt, h_hrg, h_img, h_gns, h_pnt, h_ctrs, h_sni, h_est, h_csq, h_tim, h_rdn, h_btr, h_can, h_ylk, h_log, h_mem, h_outbox]

theorem execCanAbort_blank (h_clk : msk .clk = true) (h_evt : msk .evt = true) (h_hrg : msk .hrg = true) (h_img : msk .img = true) (h_gns : msk .gns = true) (h_pnt : msk .pnt = true) (h_ctrs : msk .ctrs = true) (h_sni : msk .sni = true) (h_est : msk .est = true) (h_csq : msk .csq = true) (h_tim : msk .tim = true) (h_rdn : msk .rdn = true) (h_btr : msk .btr = true) (h_can : msk .can = true) (h_ylk : msk .ylk = true) (h_log : msk .log = true) (h_mem : msk .mem = true) (h_outbox : msk .outbox = true) (t : Nat) (h : CmdHdr) (ctl buf : Nat) (s : State) {t' : State} (h : execCanAbort t h ctl buf s = .next t') : t'.blank msk = s.blank msk := by
  simp only [execCanAbort, Host.Outcome.next.injEq] at h
  subst h
  simp only [↓State.hostCommand_blank, ↓State.ite_blank, ite_self, h_clk, h_evt, h_hrg, h_img, h_gns, h_pnt, h_ctrs, h_sni, h_est, h_csq, h_tim, h_rdn, h_btr, h_can, h_ylk, h_log, h_mem, h_outbox]

theorem execCanRecover_blank (h_clk : msk .clk = true) (h_evt : msk .evt = true) (h_hrg : msk .hrg = true) (h_img : msk .img = true) (h_gns : msk .gns = true) (h_pnt : msk .pnt = true) (h_ctrs : msk .ctrs = true) (h_sni : msk .sni = true) (h_est : msk .est = true) (h_csq : msk .csq = true) (h_tim : msk .tim = true) (h_rdn : msk .rdn = true) (h_btr : msk .btr = true) (h_can : msk .can = true) (h_ylk : msk .ylk = true) (h_log : msk .log = true) (h_mem : msk .mem = true) (h_outbox : msk .outbox = true) (t : Nat) (h : CmdHdr) (ctl : Nat) (s : State) {t' : State} (h : execCanRecover t h ctl s = .next t') : t'.blank msk = s.blank msk := by
  simp only [execCanRecover, Host.Outcome.next.injEq] at h
  subst h
  simp only [↓State.canRecover_blank, ↓State.hostCommand_blank, ↓State.ite_blank, ite_self, h_clk, h_evt, h_hrg, h_img, h_gns, h_pnt, h_ctrs, h_sni, h_est, h_csq, h_tim, h_rdn, h_btr, h_can, h_ylk, h_log, h_mem, h_outbox]

theorem execCanMode_blank (h_clk : msk .clk = true) (h_evt : msk .evt = true) (h_hrg : msk .hrg = true) (h_img : msk .img = true) (h_gns : msk .gns = true) (h_pnt : msk .pnt = true) (h_ctrs : msk .ctrs = true) (h_sni : msk .sni = true) (h_est : msk .est = true) (h_csq : msk .csq = true) (h_tim : msk .tim = true) (h_rdn : msk .rdn = true) (h_btr : msk .btr = true) (h_can : msk .can = true) (h_ylk : msk .ylk = true) (h_log : msk .log = true) (h_mem : msk .mem = true) (h_outbox : msk .outbox = true) (t : Nat) (h : CmdHdr) (ctl mode : Nat) (s : State) {t' : State} (h : execCanMode t h ctl mode s = .next t') : t'.blank msk = s.blank msk := by
  simp only [execCanMode, Host.Outcome.next.injEq] at h
  subst h
  simp only [↓State.hostCommand_blank, ↓State.ite_blank, ite_self, h_clk, h_evt, h_hrg, h_img, h_gns, h_pnt, h_ctrs, h_sni, h_est, h_csq, h_tim, h_rdn, h_btr, h_can, h_ylk, h_log, h_mem, h_outbox]

theorem execLogRead_blank (h_clk : msk .clk = true) (h_evt : msk .evt = true) (h_hrg : msk .hrg = true) (h_img : msk .img = true) (h_gns : msk .gns = true) (h_pnt : msk .pnt = true) (h_ctrs : msk .ctrs = true) (h_sni : msk .sni = true) (h_est : msk .est = true) (h_csq : msk .csq = true) (h_tim : msk .tim = true) (h_rdn : msk .rdn = true) (h_btr : msk .btr = true) (h_can : msk .can = true) (h_ylk : msk .ylk = true) (h_log : msk .log = true) (h_mem : msk .mem = true) (h_outbox : msk .outbox = true) (t : Nat) (h : CmdHdr) (first : Word) (count : Nat) (s : State) {t' : State} (h : execLogRead t h first count s = .next t') : t'.blank msk = s.blank msk := by
  simp only [execLogRead, Host.Outcome.next.injEq] at h
  subst h
  simp only [↓State.hostCommand_blank, ↓State.ite_blank, ite_self, h_clk, h_evt, h_hrg, h_img, h_gns, h_pnt, h_ctrs, h_sni, h_est, h_csq, h_tim, h_rdn, h_btr, h_can, h_ylk, h_log, h_mem, h_outbox]

theorem execMemTest_blank (h_clk : msk .clk = true) (h_evt : msk .evt = true) (h_hrg : msk .hrg = true) (h_img : msk .img = true) (h_gns : msk .gns = true) (h_pnt : msk .pnt = true) (h_ctrs : msk .ctrs = true) (h_sni : msk .sni = true) (h_est : msk .est = true) (h_csq : msk .csq = true) (h_tim : msk .tim = true) (h_rdn : msk .rdn = true) (h_btr : msk .btr = true) (h_can : msk .can = true) (h_ylk : msk .ylk = true) (h_log : msk .log = true) (h_mem : msk .mem = true) (h_outbox : msk .outbox = true) (t : Nat) (h : CmdHdr) (target form : Nat) (s : State) {t' : State} (h : execMemTest t h target form s = .next t') : t'.blank msk = s.blank msk := by
  simp only [execMemTest, Host.Outcome.next.injEq] at h
  subst h
  simp only [↓State.hostCommand_blank, ↓State.ite_blank, ite_self, h_clk, h_evt, h_hrg, h_img, h_gns, h_pnt, h_ctrs, h_sni, h_est, h_csq, h_tim, h_rdn, h_btr, h_can, h_ylk, h_log, h_mem, h_outbox]

end

end Sys2Proof.Machine
end

