-- ==== Sys2Proof/Laws/KeepTicks.lean ====
section
/-! SUPPORT. What the operations and commands of Machine/Ticks.lean leave unchanged. -/

set_option linter.unusedSimpArgs false

namespace Sys2Proof.Machine
open Sys2Proof

section
variable {msk : Part → Bool}

theorem State.missHeld_blank (h_clk : msk .clk = true) (h_crs : msk .crs = true) (h_evt : msk .evt = true) (h_hrg : msk .hrg = true) (h_pnt : msk .pnt = true) (h_ctrs : msk .ctrs = true) (h_est : msk .est = true) (h_ctl : msk .ctl = true) (h_alloc : msk .alloc = true) (h_csq : msk .csq = true) (h_trim : msk .trim = true) (h_rdn : msk .rdn = true) (h_can : msk .can = true) (h_ylk : msk .ylk = true) (h_outbox : msk .outbox = true) (code : Nat) (s : State) : (State.missHeld code s).blank msk = s.blank msk := by
  unfold State.missHeld
  repeat' (first | with_reducible rfl | assumption | simp only [↓State.caseCollectMissed_blank, ↓State.caseDispatchMissed_blank, ↓State.conseqMissed_blank, ↓State.endRuns_blank, ↓State.keystoneMissed_blank, ↓State.missItem_blank, ↓State.releaseLate_blank, ↓State.trimMissed_blank, ↓State.withCsq_blank, ↓State.withCtl_blank, ↓State.withEst_blank, ↓State.ite_blank, ite_self, h_clk, h_crs, h_evt, h_hrg, h_pnt, h_ctrs, h_est, h_ctl, h_alloc, h_csq, h_trim, h_rdn, h_can, h_ylk, h_outbox, ↓State.foldl_blank, implies_true, forall_const] | split | intro _)

theorem State.takeEffect_blank (h_clk : msk .clk = true) (h_crs : msk .crs = true) (h_evt : msk .evt = true) (h_hrg : msk .hrg = true) (h_ctrs : msk .ctrs = true) (h_est : msk .est = true) (h_ctl : msk .ctl = true) (h_alloc : msk .alloc = true) (h_trim : msk .trim = true) (h_tim : msk .tim = true) (h_rdn : msk .rdn = true) (h_can : msk .can = true) (h_ylk : msk .ylk = true) (w : Waiting) (s : State) : (State.takeEffect w s).blank msk = s.blank msk := by
  unfold State.takeEffect
  repeat' (first | with_reducible rfl | assumption | simp only [↓State.canRecover_blank, ↓State.takeBerthSet_blank, ↓State.takeDpMode_blank, ↓State.takeGainSelect_blank, ↓State.takeGridOrigin_blank, ↓State.takeRefEnable_blank, ↓State.takeRefTarget_blank, ↓State.takeResume_blank, ↓State.takeSetpoint_blank, ↓State.takeStepAccept_blank, ↓State.takeThrusterEnable_blank, ↓State.takeTimeSet_blank, ↓State.takeTrackLoad_blank, ↓State.takeTrim_blank, ↓State.ite_blank, ite_self, h_clk, h_crs, h_evt, h_hrg, h_ctrs, h_est, h_ctl, h_alloc, h_trim, h_tim, h_rdn, h_can, h_ylk, ↓State.foldl_blank, implies_true, forall_const] | split | intro _)

theorem State.applyBatch_blank (h_clk : msk .clk = true) (h_crs : msk .crs = true) (h_evt : msk .evt = true) (h_hrg : msk .hrg = true) (h_ctrs : msk .ctrs = true) (h_est : msk .est = true) (h_ctl : msk .ctl = true) (h_alloc : msk .alloc = true) (h_trim : msk .trim = true) (h_tim : msk .tim = true) (h_rdn : msk .rdn = true) (h_can : msk .can = true) (h_ylk : msk .ylk = true) (s : State) : (State.applyBatch s).blank msk = s.blank msk := by
  simp only [State.applyBatch, ↓State.takeEffect_blank, ↓State.withRdn_blank, ↓State.ite_blank, ite_self, h_clk, h_crs, h_evt, h_hrg, h_ctrs, h_est, h_ctl, h_alloc, h_trim, h_tim, h_rdn, h_can, h_ylk, ↓State.foldl_blank, implies_true, forall_const]

theorem State.applyWaiting_blank (h_clk : msk .clk = true) (h_crs : msk .crs = true) (h_evt : msk .evt = true) (h_hrg : msk .hrg = true) (h_ctrs : msk .ctrs = true) (h_est : msk .est = true) (h_ctl : msk .ctl = true) (h_alloc : msk .alloc = true) (h_trim : msk .trim = true) (h_tim : msk .tim = true) (h_rdn : msk .rdn = true) (h_can : msk .can = true) (h_ylk : msk .ylk = true) (s : State) : (State.applyWaiting s).blank msk = s.blank msk := by
  simp only [State.applyWaiting, ↓State.takeEffect_blank, ↓State.withHrg_blank, ↓State.ite_blank, ite_self, h_clk, h_crs, h_evt, h_hrg, h_ctrs, h_est, h_ctl, h_alloc, h_trim, h_tim, h_rdn, h_can, h_ylk, ↓State.foldl_blank, implies_true, forall_const]

theorem State.setTickSrc_blank (h_tick : msk .tick = true) (h_crs : msk .crs = true) (h_evt : msk .evt = true) (h_ctrs : msk .ctrs = true) (n : Nat) (s : State) : (State.setTickSrc n s).blank msk = s.blank msk := by
  simp only [State.setTickSrc, ↓State.raise_blank, ↓State.withCrs_blank_tick, ↓State.ite_blank, ite_self, h_tick, h_crs, h_evt, h_ctrs]

theorem State.courseWork_blank (h_crs : msk .crs = true) (h_evt : msk .evt = true) (h_ctrs : msk .ctrs = true) (h_cfg : msk .cfg = true) (h_tim : msk .tim = true) (h_btr : msk .btr = true) (h_ylk : msk .ylk = true) (h_outbox : msk .outbox = true) (newSecond : Bool) (s : State) : (State.courseWork newSecond s).blank msk = s.blank msk := by
  simp only [State.courseWork, ↓State.drainCaptures_blank, ↓State.emitMarkers_blank, ↓State.followRole_blank, ↓State.takeCfg_blank, ↓State.takeSecond_blank, ↓State.watchBeat_blank, ↓State.withCrs_blank, ↓State.withYlk_blank, ↓State.ite_blank, ite_self, h_crs, h_evt, h_ctrs, h_cfg, h_tim, h_btr, h_ylk, h_outbox]

theorem State.pushTick_blank (h_crs : msk .crs = true) (s : State) : (State.pushTick s).blank msk = s.blank msk := by
  simp only [State.pushTick, ↓State.withCrs_blank, ↓State.ite_blank, ite_self, h_crs]

theorem State.pushTau_blank (h_est : msk .est = true) (s : State) : (State.pushTau s).blank msk = s.blank msk := by
  simp only [State.pushTau, ↓State.withEst_blank, ↓State.ite_blank, ite_self, h_est]

theorem State.retimeTick_blank (h_crs : msk .crs = true) (s : State) : (State.retimeTick s).blank msk = s.blank msk := by
  simp only [State.retimeTick, ↓State.withCrs_blank, ↓State.ite_blank, ite_self, h_crs]

theorem State.anchorTick_blank (h_evt : msk .evt = true) (h_ctrs : msk .ctrs = true) (h_tim : msk .tim = true) (s : State) : (State.anchorTick s).blank msk = s.blank msk := by
  simp only [State.anchorTick, ↓State.placeAnchor_blank, ↓State.ite_blank, ite_self, h_evt, h_ctrs, h_tim]

theorem State.frameTick_blank (h_clk : msk .clk = true) (h_crs : msk .crs = true) (h_evt : msk .evt = true) (h_hrg : msk .hrg = true) (h_img : msk .img = true) (h_gns : msk .gns = true) (h_pnt : msk .pnt = true) (h_ctrs : msk .ctrs = true) (h_cfg : msk .cfg = true) (h_sni : msk .sni = true) (h_est : msk .est = true) (h_ctl : msk .ctl = true) (h_alloc : msk .alloc = true) (h_csq : msk .csq = true) (h_trim : msk .trim = true) (h_vsl : msk .vsl = true) (h_tim : msk .tim = true) (h_rdn : msk .rdn = true) (h_btr : msk .btr = true) (h_can : msk .can = true) (h_ylk : msk .ylk = true) (h_pwr : msk .pwr = true) (h_outbox : msk .outbox = true) (s : State) : (State.frameTick s).blank msk = s.blank msk := by
  simp only [State.frameTick, ↓State.activationTick_blank, ↓State.anchorTick_blank, ↓State.applyBatch_blank, ↓State.applyWaiting_blank, ↓State.canReference_blank, ↓State.countResume_blank, ↓State.gnsEpoch_blank, ↓State.linkFrame_blank, ↓State.noteWave_blank, ↓State.pairTick_blank, ↓State.pushTau_blank, ↓State.pushTick_blank, ↓State.retimeTick_blank, ↓State.sendBeacon_blank, ↓State.takeSysRecords_blank, ↓State.withCrs_blank, ↓State.ite_blank, ite_self, h_clk, h_crs, h_evt, h_hrg, h_img, h_gns, h_pnt, h_ctrs, h_cfg, h_sni, h_est, h_ctl, h_alloc, h_csq, h_trim, h_vsl, h_tim, h_rdn, h_btr, h_can, h_ylk, h_pwr, h_outbox]

theorem State.lateEval_blank (h_clk : msk .clk = true) (h_crs : msk .crs = true) (h_evt : msk .evt = true) (h_ctrs : msk .ctrs = true) (h_rdn : msk .rdn = true) (s : State) : (State.lateEval s).blank msk = s.blank msk := by
  simp only [State.lateEval, ↓State.evalClaim_blank, ↓State.instant_blank, ↓State.ite_blank, ite_self, h_clk, h_crs, h_evt, h_ctrs, h_rdn]

theorem State.makeTick_blank (h_clk : msk .clk = true) (h_tick : msk .tick = true) (h_crs : msk .crs = true) (h_evt : msk .evt = true) (h_hrg : msk .hrg = true) (h_img : msk .img = true) (h_gns : msk .gns = true) (h_pnt : msk .pnt = true) (h_ctrs : msk .ctrs = true) (h_cfg : msk .cfg = true) (h_sni : msk .sni = true) (h_est : msk .est = true) (h_ctl : msk .ctl = true) (h_alloc : msk .alloc = true) (h_csq : msk .csq = true) (h_trim : msk .trim = true) (h_vsl : msk .vsl = true) (h_tim : msk .tim = true) (h_rdn : msk .rdn = true) (h_btr : msk .btr = true) (h_can : msk .can = true) (h_ylk : msk .ylk = true) (h_log : msk .log = true) (h_pwr : msk .pwr = true) (h_outbox : msk .outbox = true) (place : Nat) (s : State) : (State.makeTick place s).blank msk = s.blank msk := by
  simp only [State.makeTick, ↓State.courseWork_blank, ↓State.frameTick_blank, ↓State.lateEval_blank, ↓State.logPowered_blank, ↓State.withClk_blank_tick, ↓State.withCrs_blank_tick, ↓State.ite_blank, ite_self, h_clk, h_tick, h_crs, h_evt, h_hrg, h_img, h_gns, h_pnt, h_ctrs, h_cfg, h_sni, h_est, h_ctl, h_alloc, h_csq, h_trim, h_vsl, h_tim, h_rdn, h_btr, h_can, h_ylk, h_log, h_pwr, h_outbox]

theorem State.ownCourse_blank (h_clk : msk .clk = true) (h_tick : msk .tick = true) (h_crs : msk .crs = true) (h_evt : msk .evt = true) (h_hrg : msk .hrg = true) (h_img : msk .img = true) (h_gns : msk .gns = true) (h_pnt : msk .pnt = true) (h_ctrs : msk .ctrs = true) (h_cfg : msk .cfg = true) (h_sni : msk .sni = true) (h_est : msk .est = true) (h_ctl : msk .ctl = true) (h_alloc : msk .alloc = true) (h_csq : msk .csq = true) (h_trim : msk .trim = true) (h_vsl : msk .vsl = true) (h_tim : msk .tim = true) (h_rdn : msk .rdn = true) (h_btr : msk .btr = true) (h_can : msk .can = true) (h_ylk : msk .ylk = true) (h_log : msk .log = true) (h_pwr : msk .pwr = true) (h_outbox : msk .outbox = true) (s : State) : (State.ownCourse s).blank msk = s.blank msk := by
  simp only [State.ownCourse, ↓State.makeTick_blank, ↓State.withCrs_blank, ↓State.ite_blank, ite_self, h_clk, h_tick, h_crs, h_evt, h_hrg, h_img, h_gns, h_pnt, h_ctrs, h_cfg, h_sni, h_est, h_ctl, h_alloc, h_csq, h_trim, h_vsl, h_tim, h_rdn, h_btr, h_can, h_ylk, h_log, h_pwr, h_outbox]

theorem State.memberCourse_blank (h_clk : msk .clk = true) (h_tick : msk .tick = true) (h_crs : msk .crs = true) (h_evt : msk .evt = true) (h_hrg : msk .hrg = true) (h_img : msk .img = true) (h_gns : msk .gns = true) (h_pnt : msk .pnt = true) (h_ctrs : msk .ctrs = true) (h_cfg : msk .cfg = true) (h_sni : msk .sni = true) (h_est : msk .est = true) (h_ctl : msk .ctl = true) (h_alloc : msk .alloc = true) (h_csq : msk .csq = true) (h_trim : msk .trim = true) (h_vsl : msk .vsl = true) (h_tim : msk .tim = true) (h_rdn : msk .rdn = true) (h_btr : msk .btr = true) (h_can : msk .can = true) (h_ylk : msk .ylk = true) (h_log : msk .log = true) (h_pwr : msk .pwr = true) (h_outbox : msk .outbox = true) (m : Nat) (s : State) : (State.memberCourse m s).blank msk = s.blank msk := by
  simp only [State.memberCourse, ↓State.makeTick_blank, ↓State.setTickSrc_blank, ↓State.withCrs_blank, ↓State.ite_blank, ite_self, h_clk, h_tick, h_crs, h_evt, h_hrg, h_img, h_gns, h_pnt, h_ctrs, h_cfg, h_sni, h_est, h_ctl, h_alloc, h_csq, h_trim, h_vsl, h_tim, h_rdn, h_btr, h_can, h_ylk, h_log, h_pwr, h_outbox]

theorem State.dueTick_blank (h_clk : msk .clk = true) (h_tick : msk .tick = true) (h_crs : msk .crs = true) (h_evt : msk .evt = true) (h_hrg : msk .hrg = true) (h_img : msk .img = true) (h_gns : msk .gns = true) (h_pnt : msk .pnt = true) (h_ctrs : msk .ctrs = true) (h_cfg : msk .cfg = true) (h_sni : msk .sni = true) (h_est : msk .est = true) (h_ctl : msk .ctl = true) (h_alloc : msk .alloc = true) (h_csq : msk .csq = true) (h_trim : msk .trim = true) (h_vsl : msk .vsl = true) (h_tim : msk .tim = true) (h_rdn : msk .rdn = true) (h_btr : msk .btr = true) (h_can : msk .can = true) (h_ylk : msk .ylk = true) (h_log : msk .log = true) (h_pwr : msk .pwr = true) (h_outbox : msk .outbox = true) (s : State) : (State.dueTick s).blank msk = s.blank msk := by
  unfold State.dueTick
  repeat' (first | with_reducible rfl | assumption | simp only [↓State.memberCourse_blank, ↓State.ownCourse_blank, ↓State.setTickSrc_blank, ↓State.ite_blank, ite_self, h_clk, h_tick, h_crs, h_evt, h_hrg, h_img, h_gns, h_pnt, h_ctrs, h_cfg, h_sni, h_est, h_ctl, h_alloc, h_csq, h_trim, h_vsl, h_tim, h_rdn, h_btr, h_can, h_ylk, h_log, h_pwr, h_outbox, ↓State.foldl_blank, implies_true, forall_const] | split | intro _)

theorem execCourseTick_blank (h_clk : msk .clk = true) (h_tick : msk .tick = true) (h_crs : msk .crs = true) (h_evt : msk .evt = true) (h_hrg : msk .hrg = true) (h_img : msk .img = true) (h_gns : msk .gns = true) (h_pnt : msk .pnt = true) (h_ctrs : msk .ctrs = true) (h_cfg : msk .cfg = true) (h_sni : msk .sni = true) (h_est : msk .est = true) (h_ctl : msk .ctl = true) (h_alloc : msk .alloc = true) (h_csq : msk .csq = true) (h_trim : msk .trim = true) (h_vsl : msk .vsl = true) (h_tim : msk .tim = true) (h_rdn : msk .rdn = true) (h_btr : msk .btr = true) (h_can : msk .can = true) (h_ylk : msk .ylk = true) (h_log : msk .log = true) (h_pwr : msk .pwr = true) (h_outbox : msk .outbox = true) (s : State) {t' : State} (h : execCourseTick s = .next t') : t'.blank msk = s.blank msk := by
  simp only [execCourseTick, Host.Outcome.next.injEq] at h
  subst h
  simp only [↓State.dueTick_blank, ↓State.whileRunning_blank, ↓State.ite_blank, ite_self, h_clk, h_tick, h_crs, h_evt, h_hrg, h_img, h_gns, h_pnt, h_ctrs, h_cfg, h_sni, h_est, h_ctl, h_alloc, h_csq, h_trim, h_vsl, h_tim, h_rdn, h_btr, h_can, h_ylk, h_log, h_pwr, h_outbox, ↓State.foldl_blank, implies_true, forall_const]

theorem execFrameTick_blank (h_clk : msk .clk = true) (h_tick : msk .tick = true) (h_crs : msk .crs = true) (h_evt : msk .evt = true) (h_hrg : msk .hrg = true) (h_img : msk .img = true) (h_gns : msk .gns = true) (h_pnt : msk .pnt = true) (h_ctrs : msk .ctrs = true) (h_cfg : msk .cfg = true) (h_sni : msk .sni = true) (h_est : msk .est = true) (h_ctl : msk .ctl = true) (h_alloc : msk .alloc = true) (h_csq : msk .csq = true) (h_trim : msk .trim = true) (h_vsl : msk .vsl = true) (h_tim : msk .tim = true) (h_rdn : msk .rdn = true) (h_btr : msk .btr = true) (h_can : msk .can = true) (h_ylk : msk .ylk = true) (h_log : msk .log = true) (h_pwr : msk .pwr = true) (h_outbox : msk .outbox = true) (s : State) {t' : State} (h : execFrameTick s = .next t') : t'.blank msk = s.blank msk := by
  simp only [execFrameTick, Host.Outcome.next.injEq] at h
  subst h
  simp only [↓State.dueTick_blank, ↓State.whileRunning_blank, ↓State.ite_blank, ite_self, h_clk, h_tick, h_crs, h_evt, h_hrg, h_img, h_gns, h_pnt, h_ctrs, h_cfg, h_sni, h_est, h_ctl, h_alloc, h_csq, h_trim, h_vsl, h_tim, h_rdn, h_btr, h_can, h_ylk, h_log, h_pwr, h_outbox, ↓State.foldl_blank, implies_true, forall_const]

theorem execImageActivationTick_blank (h_clk : msk .clk = true) (h_tick : msk .tick = true) (h_crs : msk .crs = true) (h_evt : msk .evt = true) (h_hrg : msk .hrg = true) (h_img : msk .img = true) (h_gns : msk .gns = true) (h_pnt : msk .pnt = true) (h_ctrs : msk .ctrs = true) (h_cfg : msk .cfg = true) (h_sni : msk .sni = true) (h_est : msk .est = true) (h_ctl : msk .ctl = true) (h_alloc : msk .alloc = true) (h_csq : msk .csq = true) (h_trim : msk .trim = true) (h_vsl : msk .vsl = true) (h_tim : msk .tim = true) (h_rdn : msk .rdn = true) (h_btr : msk .btr = true) (h_can : msk .can = true) (h_ylk : msk .ylk = true) (h_log : msk .log = true) (h_pwr : msk .pwr = true) (h_outbox : msk .outbox = true) (s : State) {t' : State} (h : execImageActivationTick s = .next t') : t'.blank msk = s.blank msk := by
  simp only [execImageActivationTick, Host.Outcome.next.injEq] at h
  subst h
  simp only [↓State.dueTick_blank, ↓State.whileRunning_blank, ↓State.ite_blank, ite_self, h_clk, h_tick, h_crs, h_evt, h_hrg, h_img, h_gns, h_pnt, h_ctrs, h_cfg, h_sni, h_est, h_ctl, h_alloc, h_csq, h_trim, h_vsl, h_tim, h_rdn, h_btr, h_can, h_ylk, h_log, h_pwr, h_outbox, ↓State.foldl_blank, implies_true, forall_const]

theorem execSubstituteTick_blank (h_clk : msk .clk = true) (h_tick : msk .tick = true) (h_crs : msk .crs = true) (h_evt : msk .evt = true) (h_hrg : msk .hrg = true) (h_img : msk .img = true) (h_gns : msk .gns = true) (h_pnt : msk .pnt = true) (h_ctrs : msk .ctrs = true) (h_cfg : msk .cfg = true) (h_sni : msk .sni = true) (h_est : msk .est = true) (h_ctl : msk .ctl = true) (h_alloc : msk .alloc = true) (h_csq : msk .csq = true) (h_trim : msk .trim = true) (h_vsl : msk .vsl = true) (h_tim : msk .tim = true) (h_rdn : msk .rdn = true) (h_btr : msk .btr = true) (h_can : msk .can = true) (h_ylk : msk .ylk = true) (h_log : msk .log = true) (h_pwr : msk .pwr = true) (h_outbox : msk .outbox = true) (s : State) {t' : State} (h : execSubstituteTick s = .next t') : t'.blank msk = s.blank msk := by
  simp only [execSubstituteTick, Host.Outcome.next.injEq] at h
  subst h
  simp only [↓State.count_blank, ↓State.ownCourse_blank, ↓State.raise_blank, ↓State.whileRunning_blank, ↓State.withCrs_blank_tick, ↓State.ite_blank, ite_self, h_clk, h_tick, h_crs, h_evt, h_hrg, h_img, h_gns, h_pnt, h_ctrs, h_cfg, h_sni, h_est, h_ctl, h_alloc, h_csq, h_trim, h_vsl, h_tim, h_rdn, h_btr, h_can, h_ylk, h_log, h_pwr, h_outbox, ↓State.foldl_blank, implies_true, forall_const]

theorem execTickPhaseSlewEnd_blank (h_crs : msk .crs = true) (h_evt : msk .evt = true) (h_ctrs : msk .ctrs = true) (h_tim : msk .tim = true) (s : State) {t' : State} (h : execTickPhaseSlewEnd s = .next t') : t'.blank msk = s.blank msk := by
  simp only [execTickPhaseSlewEnd, Host.Outcome.next.injEq] at h
  subst h
  simp only [↓State.raise_blank, ↓State.whileRunning_blank, ↓State.withCrs_blank, ↓State.withTim_blank, ↓State.ite_blank, ite_self, h_crs, h_evt, h_ctrs, h_tim, ↓State.foldl_blank, implies_true, forall_const]

theorem execMemberTickApply_blank (h_clk : msk .clk = true) (h_tick : msk .tick = true) (h_crs : msk .crs = true) (h_evt : msk .evt = true) (h_hrg : msk .hrg = true) (h_img : msk .img = true) (h_gns : msk .gns = true) (h_pnt : msk .pnt = true) (h_ctrs : msk .ctrs = true) (h_cfg : msk .cfg = true) (h_sni : msk .sni = true) (h_est : msk .est = true) (h_ctl : msk .ctl = true) (h_alloc : msk .alloc = true) (h_csq : msk .csq = true) (h_trim : msk .trim = true) (h_vsl : msk .vsl = true) (h_tim : msk .tim = true) (h_rdn : msk .rdn = true) (h_btr : msk .btr = true) (h_can : msk .can = true) (h_ylk : msk .ylk = true) (h_log : msk .log = true) (h_pwr : msk .pwr = true) (h_outbox : msk .outbox = true) (s : State) {t' : State} (h : execMemberTickApply s = .next t') : t'.blank msk = s.blank msk := by
  unfold execMemberTickApply at h
  injection h with h
  subst h
  repeat' (first | with_reducible rfl | assumption | simp only [↓State.memberCourse_blank, ↓State.whileRunning_blank, ↓State.ite_blank, ite_self, h_clk, h_tick, h_crs, h_evt, h_hrg, h_img, h_gns, h_pnt, h_ctrs, h_cfg, h_sni, h_est, h_ctl, h_alloc, h_csq, h_trim, h_vsl, h_tim, h_rdn, h_btr, h_can, h_ylk, h_log, h_pwr, h_outbox, ↓State.foldl_blank, implies_true, forall_const] | rw [State.whileRunning_blank] | split | intro _)

theorem State.joinMaster_blank (h_clk : msk .clk = true) (h_tick : msk .tick = true) (h_crs : msk .crs = true) (h_evt : msk .evt = true) (h_hrg : msk .hrg = true) (h_img : msk .img = true) (h_gns : msk .gns = true) (h_pnt : msk .pnt = true) (h_ctrs : msk .ctrs = true) (h_cfg : msk .cfg = true) (h_sni : msk .sni = true) (h_est : msk .est = true) (h_ctl : msk .ctl = true) (h_alloc : msk .alloc = true) (h_csq : msk .csq = true) (h_trim : msk .trim = true) (h_vsl : msk .vsl = true) (h_tim : msk .tim = true) (h_rdn : msk .rdn = true) (h_btr : msk .btr = true) (h_can : msk .can = true) (h_ylk : msk .ylk = true) (h_log : msk .log = true) (h_pwr : msk .pwr = true) (h_outbox : msk .outbox = true) (b : LinkBeacon) (s : State) : (State.joinMaster b s).blank msk = s.blank msk := by
  unfold State.joinMaster
  repeat' (first | with_reducible rfl | assumption | simp only [↓State.followRole_blank, ↓State.makeTick_blank, ↓State.raise_blank, ↓State.setLinkState_blank, ↓State.setTickSrc_blank, ↓State.updateTickPort_blank, ↓State.withCrs_blank_tick, ↓State.withYlk_blank, ↓State.ite_blank, ite_self, h_clk, h_tick, h_crs, h_evt, h_hrg, h_img, h_gns, h_pnt, h_ctrs, h_cfg, h_sni, h_est, h_ctl, h_alloc, h_csq, h_trim, h_vsl, h_tim, h_rdn, h_btr, h_can, h_ylk, h_log, h_pwr, h_outbox, ↓State.foldl_blank, implies_true, forall_const] | split | intro _)

theorem execLinkJoin_blank (h_clk : msk .clk = true) (h_tick : msk .tick = true) (h_crs : msk .crs = true) (h_evt : msk .evt = true) (h_hrg : msk .hrg = true) (h_img : msk .img = true) (h_gns : msk .gns = true) (h_pnt : msk .pnt = true) (h_ctrs : msk .ctrs = true) (h_cfg : msk .cfg = true) (h_sni : msk .sni = true) (h_est : msk .est = true) (h_ctl : msk .ctl = true) (h_alloc : msk .alloc = true) (h_csq : msk .csq = true) (h_trim : msk .trim = true) (h_vsl : msk .vsl = true) (h_tim : msk .tim = true) (h_rdn : msk .rdn = true) (h_btr : msk .btr = true) (h_can : msk .can = true) (h_ylk : msk .ylk = true) (h_log : msk .log = true) (h_pwr : msk .pwr = true) (h_outbox : msk .outbox = true) (t : Nat) (s : State) {t' : State} (h : execLinkJoin t s = .next t') : t'.blank msk = s.blank msk := by
  unfold execLinkJoin at h
  injection h with h
  subst h
  repeat' (first | with_reducible rfl | assumption | simp only [↓State.instant_blank, ↓State.joinMaster_blank, ↓State.raise_blank, ↓State.whileRunning_blank, ↓State.withYlk_blank, ↓State.ite_blank, ite_self, h_clk, h_tick, h_crs, h_evt, h_hrg, h_img, h_gns, h_pnt, h_ctrs, h_cfg, h_sni, h_est, h_ctl, h_alloc, h_csq, h_trim, h_vsl, h_tim, h_rdn, h_btr, h_can, h_ylk, h_log, h_pwr, h_outbox, ↓State.foldl_blank, implies_true, forall_const] | rw [State.whileRunning_blank] | split | intro _)

theorem execDeadlineMiss_blank (h_clk : msk .clk = true) (h_crs : msk .crs = true) (h_evt : msk .evt = true) (h_hrg : msk .hrg = true) (h_pnt : msk .pnt = true) (h_ctrs : msk .ctrs = true) (h_est : msk .est = true) (h_ctl : msk .ctl = true) (h_alloc : msk .alloc = true) (h_csq : msk .csq = true) (h_trim : msk .trim = true) (h_rdn : msk .rdn = true) (h_can : msk .can = true) (h_ylk : msk .ylk = true) (h_outbox : msk .outbox = true) (t code : Nat) (s : State) {t' : State} (h : execDeadlineMiss t code s = .next t') : t'.blank msk = s.blank msk := by
  simp only [execDeadlineMiss, Host.Outcome.next.injEq] at h
  subst h
  simp only [↓State.instant_blank, ↓State.missHeld_blank, ↓State.whileRunning_blank, ↓State.ite_blank, ite_self, h_clk, h_crs, h_evt, h_hrg, h_pnt, h_ctrs, h_est, h_ctl, h_alloc, h_csq, h_trim, h_rdn, h_can, h_ylk, h_outbox, ↓State.foldl_blank, implies_true, forall_const]

end

end Sys2Proof.Machine
end

