-- ==== Sys2Proof/Laws/KeepLosses.lean ====
section
/-! SUPPORT. What the operations and commands of Machine/Losses.lean leave unchanged. -/

set_option linter.unusedSimpArgs false

namespace Sys2Proof.Machine
open Sys2Proof

section
variable {msk : Part → Bool}

theorem State.loseItem_blank (h_clk : msk .clk = true) (h_crs : msk .crs = true) (h_evt : msk .evt = true) (h_hrg : msk .hrg = true) (h_pnt : msk .pnt = true) (h_ctrs : msk .ctrs = true) (h_est : msk .est = true) (h_ctl : msk .ctl = true) (h_alloc : msk .alloc = true) (h_csq : msk .csq = true) (h_trim : msk .trim = true) (h_rdn : msk .rdn = true) (h_can : msk .can = true) (h_ylk : msk .ylk = true) (h_outbox : msk .outbox = true) (code : Nat) (s : State) : (State.loseItem code s).blank msk = s.blank msk := by
  simp only [State.loseItem, ↓State.missHeld_blank, ↓State.ite_blank, ite_self, h_clk, h_crs, h_evt, h_hrg, h_pnt, h_ctrs, h_est, h_ctl, h_alloc, h_csq, h_trim, h_rdn, h_can, h_ylk, h_outbox]

theorem execEccUncorrectable_blank (h_clk : msk .clk = true) (h_crs : msk .crs = true) (h_evt : msk .evt = true) (h_hrg : msk .hrg = true) (h_pnt : msk .pnt = true) (h_ctrs : msk .ctrs = true) (h_est : msk .est = true) (h_ctl : msk .ctl = true) (h_alloc : msk .alloc = true) (h_csq : msk .csq = true) (h_trim : msk .trim = true) (h_vsl : msk .vsl = true) (h_rdn : msk .rdn = true) (h_can : msk .can = true) (h_ylk : msk .ylk = true) (h_cells : msk .cells = true) (h_mem : msk .mem = true) (h_outbox : msk .outbox = true) (t : Nat) (site : EccSite) (reader : Reader) (s : State) {t' : State} (h : execEccUncorrectable t site reader s = .next t') : t'.blank msk = s.blank msk := by
  unfold execEccUncorrectable at h
  injection h with h
  subst h
  repeat' (first | with_reducible rfl | assumption | simp only [↓State.instant_blank, ↓State.laneFault_blank, ↓State.loseItem_blank, ↓State.uncorrectable_blank, ↓State.ite_blank, ite_self, h_clk, h_crs, h_evt, h_hrg, h_pnt, h_ctrs, h_est, h_ctl, h_alloc, h_csq, h_trim, h_vsl, h_rdn, h_can, h_ylk, h_cells, h_mem, h_outbox, ↓State.foldl_blank, implies_true, forall_const] | split | intro _)

theorem execCrossingTimeout_blank (h_clk : msk .clk = true) (h_crs : msk .crs = true) (h_evt : msk .evt = true) (h_hrg : msk .hrg = true) (h_pnt : msk .pnt = true) (h_ctrs : msk .ctrs = true) (h_est : msk .est = true) (h_ctl : msk .ctl = true) (h_alloc : msk .alloc = true) (h_csq : msk .csq = true) (h_trim : msk .trim = true) (h_rdn : msk .rdn = true) (h_can : msk .can = true) (h_ylk : msk .ylk = true) (h_glb : msk .glb = true) (h_outbox : msk .outbox = true) (t crossing item : Nat) (access : Option Nat) (s : State) {t' : State} (h : execCrossingTimeout t crossing item access s = .next t') : t'.blank msk = s.blank msk := by
  unfold execCrossingTimeout at h
  injection h with h
  subst h
  repeat' (first | with_reducible rfl | assumption | simp only [↓State.count_blank, ↓State.instant_blank, ↓State.loseItem_blank, ↓State.raise_blank, ↓State.stall_blank, ↓State.ite_blank, ite_self, h_clk, h_crs, h_evt, h_hrg, h_pnt, h_ctrs, h_est, h_ctl, h_alloc, h_csq, h_trim, h_rdn, h_can, h_ylk, h_glb, h_outbox, ↓State.foldl_blank, implies_true, forall_const] | split | intro _)

end

end Sys2Proof.Machine
end

