-- ==== Sys2Proof/Laws/KeepPosting.lean ====
section
/-! SUPPORT. What the operations and commands of Machine/Posting.lean leave unchanged. -/

set_option linter.unusedSimpArgs false

namespace Sys2Proof.Machine
open Sys2Proof

section
variable {msk : Part → Bool}

theorem execPostPoints_blank (h_clk : msk .clk = true) (h_crs : msk .crs = true) (h_evt : msk .evt = true) (h_hrg : msk .hrg = true) (h_pnt : msk .pnt = true) (h_ctrs : msk .ctrs = true) (h_ylk : msk .ylk = true) (h_outbox : msk .outbox = true) (run : PostRun) (s : State) {t' : State} (h : execPostPoints run s = .next t') : t'.blank msk = s.blank msk := by
  simp only [execPostPoints, Host.Outcome.next.injEq] at h
  subst h
  simp only [↓State.count_blank, ↓State.instant_blank, ↓State.itemDone_blank, ↓State.sendExports_blank, ↓State.takeSysRecords_blank, ↓State.whileRunning_blank, ↓State.writeEvents_blank, ↓State.writeRecords_blank, ↓State.ite_blank, ite_self, h_clk, h_crs, h_evt, h_hrg, h_pnt, h_ctrs, h_ylk, h_outbox, ↓State.foldl_blank, implies_true, forall_const]

theorem execPostLog_blank (h_clk : msk .clk = true) (h_crs : msk .crs = true) (h_evt : msk .evt = true) (h_log : msk .log = true) (t : Nat) (s : State) {t' : State} (h : execPostLog t s = .next t') : t'.blank msk = s.blank msk := by
  simp only [execPostLog, Host.Outcome.next.injEq] at h
  subst h
  simp only [↓State.formRecords_blank, ↓State.runItem_blank, ↓State.ite_blank, ite_self, h_clk, h_crs, h_evt, h_log, ↓State.foldl_blank, implies_true, forall_const]

end

end Sys2Proof.Machine
end

