-- ==== Sys2Proof/Laws/KeepPower.lean ====
section
/-! SUPPORT. What the operations and commands of Machine/Power.lean leave unchanged. -/

set_option linter.unusedSimpArgs false

namespace Sys2Proof.Machine
open Sys2Proof

section
variable {msk : Part → Bool}

theorem State.judgeHold_blank (h_evt : msk .evt = true) (h_ctrs : msk .ctrs = true) (h_pwr : msk .pwr = true) (volt : Nat) (s : State) : (State.judgeHold volt s).blank msk = s.blank msk := by
  simp only [State.judgeHold, ↓State.raise_blank, ↓State.withPwr_blank, ↓State.ite_blank, ite_self, h_evt, h_ctrs, h_pwr]

theorem State.judgeCap_blank (h_evt : msk .evt = true) (h_ctrs : msk .ctrs = true) (h_pwr : msk .pwr = true) (s : State) : (State.judgeCap s).blank msk = s.blank msk := by
  simp only [State.judgeCap, ↓State.count_blank, ↓State.raise_blank, ↓State.withPwr_blank, ↓State.ite_blank, ite_self, h_evt, h_ctrs, h_pwr]

theorem execHoldChargeComplete_blank (h_clk : msk .clk = true) (h_evt : msk .evt = true) (h_ctrs : msk .ctrs = true) (h_pwr : msk .pwr = true) (t volt step : Nat) (rise : Option Nat) (s : State) {t' : State} (h : execHoldChargeComplete t volt step rise s = .next t') : t'.blank msk = s.blank msk := by
  simp only [execHoldChargeComplete, Host.Outcome.next.injEq] at h
  subst h
  simp only [↓State.instant_blank, ↓State.judgeCap_blank, ↓State.judgeHold_blank, ↓State.withPwr_blank, ↓State.ite_blank, ite_self, h_clk, h_evt, h_ctrs, h_pwr]

theorem execHoldTest_blank (h_clk : msk .clk = true) (h_evt : msk .evt = true) (h_ctrs : msk .ctrs = true) (h_pwr : msk .pwr = true) (t fall : Nat) (s : State) {t' : State} (h : execHoldTest t fall s = .next t') : t'.blank msk = s.blank msk := by
  simp only [execHoldTest, Host.Outcome.next.injEq] at h
  subst h
  simp only [↓State.instant_blank, ↓State.judgeCap_blank, ↓State.withPwr_blank, ↓State.ite_blank, ite_self, h_clk, h_evt, h_ctrs, h_pwr]

theorem execVbatLow_blank (h_clk : msk .clk = true) (h_evt : msk .evt = true) (h_ctrs : msk .ctrs = true) (h_pwr : msk .pwr = true) (t mv : Nat) (counterOnVbat : Bool) (s : State) {t' : State} (h : execVbatLow t mv counterOnVbat s = .next t') : t'.blank msk = s.blank msk := by
  simp only [execVbatLow, Host.Outcome.next.injEq] at h
  subst h
  simp only [↓State.instant_blank, ↓State.raise_blank, ↓State.withPwr_blank, ↓State.ite_blank, ite_self, h_clk, h_evt, h_ctrs, h_pwr]

theorem execFeedQualified_blank (h_clk : msk .clk = true) (h_evt : msk .evt = true) (h_ctrs : msk .ctrs = true) (h_tim : msk .tim = true) (h_rdn : msk .rdn = true) (h_pwr : msk .pwr = true) (vina vinb : Nat) (rtc : Option (Nat × Nat)) (s : State) {t' : State} (h : execFeedQualified vina vinb rtc s = .next t') : t'.blank msk = s.blank msk := by
  simp only [execFeedQualified, Host.Outcome.next.injEq] at h
  subst h
  simp only [↓State.setFeed_blank, ↓State.startTime_blank, ↓State.withPwr_blank, ↓State.ite_blank, ite_self, h_clk, h_evt, h_ctrs, h_tim, h_rdn, h_pwr]

theorem execBootDone_blank (h_clk : msk .clk = true) (h_evt : msk .evt = true) (h_ctrs : msk .ctrs = true) (h_cells : msk .cells = true) (h_mem : msk .mem = true) (h_pwr : msk .pwr = true) (t failed : Nat) (banks : List Nat) (s : State) {t' : State} (h : execBootDone t failed banks s = .next t') : t'.blank msk = s.blank msk := by
  simp only [execBootDone, Host.Outcome.next.injEq] at h
  subst h
  simp only [↓State.instant_blank, ↓State.raise_blank, ↓State.withMem_blank_cells, ↓State.withPwr_blank, ↓State.ite_blank, ite_self, h_clk, h_evt, h_ctrs, h_cells, h_mem, h_pwr]

theorem execPwrBootGo_blank (h_evt : msk .evt = true) (h_ctrs : msk .ctrs = true) (h_pwr : msk .pwr = true) (w : Word) (s : State) {t' : State} (h : execPwrBootGo w s = .next t') : t'.blank msk = s.blank msk := by
  simp only [execPwrBootGo, Host.Outcome.next.injEq] at h
  subst h
  simp only [↓State.barWrite_blank, ↓State.withPwr_blank, ↓State.ite_blank, ite_self, h_evt, h_ctrs, h_pwr, ↓State.foldl_blank, implies_true, forall_const]

theorem execFwAuthDone_blank (h_clk : msk .clk = true) (h_evt : msk .evt = true) (h_hrg : msk .hrg = true) (h_img : msk .img = true) (h_ctrs : msk .ctrs = true) (h_mem : msk .mem = true) (h_glb : msk .glb = true) (h_sec : msk .sec = true) (h_pwr : msk .pwr = true) (t : Nat) (img : FwImage) (s : State) {t' : State} (h : execFwAuthDone t img s = .next t') : t'.blank msk = s.blank msk := by
  have keep : ∀ x : Mem, x.firmwareMap.sram = x.sram ∧ x.firmwareMap.mortar = x.mortar := by
    intro x; constructor <;> simp only [Mem.firmwareMap]
  unfold execFwAuthDone at h
  injection h with h
  subst h
  dsimp only
  split
  · rfl
  · split
    · refine (State.withMem_blank h_mem _ _ (keep _).1 (keep _).2).trans ?_
      simp only [↓State.withSec_blank, ↓State.withGlb_blank, ↓State.withPwr_blank, ↓State.instant_blank, h_sec, h_glb, h_pwr, h_clk]
    · simp only [↓State.withPwr_blank, ↓State.instant_blank, h_pwr, h_clk]

theorem execSelftestDone_blank (h_clk : msk .clk = true) (h_evt : msk .evt = true) (h_ctrs : msk .ctrs = true) (h_vsl : msk .vsl = true) (h_pwr : msk .pwr = true) (t failed : Nat) (lanes : List Nat) (s : State) {t' : State} (h : execSelftestDone t failed lanes s = .next t') : t'.blank msk = s.blank msk := by
  simp only [execSelftestDone, Host.Outcome.next.injEq] at h
  subst h
  simp only [↓State.count_blank, ↓State.instant_blank, ↓State.quarantine_blank, ↓State.raise_blank, ↓State.withPwr_blank, ↓State.withVsl_blank, ↓State.ite_blank, ite_self, h_clk, h_evt, h_ctrs, h_vsl, h_pwr, ↓State.foldl_blank, implies_true, forall_const]

theorem execRestoreDone_blank (h_clk : msk .clk = true) (h_evt : msk .evt = true) (h_gns : msk .gns = true) (h_ctrs : msk .ctrs = true) (h_tim : msk .tim = true) (h_log : msk .log = true) (h_mem : msk .mem = true) (h_pwr : msk .pwr = true) (t : Nat) (s : State) {t' : State} (h : execRestoreDone t s = .next t') : t'.blank msk = s.blank msk := by
  unfold execRestoreDone at h
  injection h with h
  subst h
  repeat' (first | with_reducible rfl | assumption | simp only [↓State.instant_blank, ↓State.markCount_blank, ↓State.raise_blank, ↓State.seedAfterRestore_blank, ↓State.withLog_blank, ↓State.withMem_blank, ↓State.withPwr_blank, ↓State.ite_blank, ite_self, h_clk, h_evt, h_gns, h_ctrs, h_tim, h_log, h_mem, h_pwr, ↓State.foldl_blank, implies_true, forall_const] | split | intro _)

theorem execHoldupSaveStart_blank (h_clk : msk .clk = true) (h_tick : msk .tick = true) (h_crs : msk .crs = true) (h_evt : msk .evt = true) (h_hrg : msk .hrg = true) (h_img : msk .img = true) (h_gns : msk .gns = true) (h_pnt : msk .pnt = true) (h_ctrs : msk .ctrs = true) (h_cfg : msk .cfg = true) (h_locks : msk .locks = true) (h_sni : msk .sni = true) (h_est : msk .est = true) (h_ctl : msk .ctl = true) (h_alloc : msk .alloc = true) (h_csq : msk .csq = true) (h_trim : msk .trim = true) (h_vsl : msk .vsl = true) (h_tim : msk .tim = true) (h_rdn : msk .rdn = true) (h_btr : msk .btr = true) (h_can : msk .can = true) (h_ylk : msk .ylk = true) (h_log : msk .log = true) (h_cells : msk .cells = true) (h_mem : msk .mem = true) (h_glb : msk .glb = true) (h_sec : msk .sec = true) (h_pwr : msk .pwr = true) (h_outbox : msk .outbox = true) (t volt : Nat) (s : State) {t' : State} (h : execHoldupSaveStart t volt s = .next t') : t'.blank msk = s.blank msk := by
  unfold execHoldupSaveStart at h
  injection h with h
  subst h
  repeat' (first | with_reducible rfl | assumption | simp only [↓State.abandonActivation_blank, ↓State.abortArray_blank, ↓State.buttressSave_blank, ↓State.count_blank, ↓State.emit_blank, ↓State.instant_blank, ↓State.judgeHold_blank, ↓State.resetPart_blank, ↓State.withEvt_blank, ↓State.withHrg_blank, ↓State.withPwr_blank, ↓State.withTim_blank, ↓State.ite_blank, ite_self, h_clk, h_tick, h_crs, h_evt, h_hrg, h_img, h_gns, h_pnt, h_ctrs, h_cfg, h_locks, h_sni, h_est, h_ctl, h_alloc, h_csq, h_trim, h_vsl, h_tim, h_rdn, h_btr, h_can, h_ylk, h_log, h_cells, h_mem, h_glb, h_sec, h_pwr, h_outbox, ↓State.foldl_blank, implies_true, forall_const] | split | intro _)

theorem execHoldupSaveEnd_blank (h_clk : msk .clk = true) (h_tick : msk .tick = true) (h_crs : msk .crs = true) (h_evt : msk .evt = true) (h_hrg : msk .hrg = true) (h_img : msk .img = true) (h_gns : msk .gns = true) (h_pnt : msk .pnt = true) (h_ctrs : msk .ctrs = true) (h_cfg : msk .cfg = true) (h_locks : msk .locks = true) (h_sni : msk .sni = true) (h_est : msk .est = true) (h_ctl : msk .ctl = true) (h_alloc : msk .alloc = true) (h_csq : msk .csq = true) (h_trim : msk .trim = true) (h_vsl : msk .vsl = true) (h_tim : msk .tim = true) (h_rdn : msk .rdn = true) (h_btr : msk .btr = true) (h_can : msk .can = true) (h_ylk : msk .ylk = true) (h_log : msk .log = true) (h_cells : msk .cells = true) (h_mem : msk .mem = true) (h_glb : msk .glb = true) (h_sec : msk .sec = true) (h_pwr : msk .pwr = true) (h_outbox : msk .outbox = true) (t : Nat) (s : State) {t' : State} (h : execHoldupSaveEnd t s = .next t') : t'.blank msk = s.blank msk := by
  unfold execHoldupSaveEnd at h
  injection h with h
  subst h
  repeat' (first | with_reducible rfl | assumption | simp only [↓State.instant_blank, ↓State.resetPart_blank, ↓State.saveMark_blank, ↓State.withMem_blank, ↓State.ite_blank, ite_self, h_clk, h_tick, h_crs, h_evt, h_hrg, h_img, h_gns, h_pnt, h_ctrs, h_cfg, h_locks, h_sni, h_est, h_ctl, h_alloc, h_csq, h_trim, h_vsl, h_tim, h_rdn, h_btr, h_can, h_ylk, h_log, h_cells, h_mem, h_glb, h_sec, h_pwr, h_outbox, ↓State.foldl_blank, implies_true, forall_const] | split | intro _)

end

end Sys2Proof.Machine
end

