-- ==== Sys2Proof/Laws/KeepSecurity.lean ====
section
/-! SUPPORT. What the operations and commands of Machine/Security.lean leave unchanged. -/

set_option linter.unusedSimpArgs false

namespace Sys2Proof.Machine
open Sys2Proof

section
variable {msk : Part → Bool}

theorem State.deniedWrite_blank (h_evt : msk .evt = true) (h_ctrs : msk .ctrs = true) (off : Nat) (s : State) : (State.deniedWrite off s).blank msk = s.blank msk := by
  simp only [State.deniedWrite, ↓State.count_blank, ↓State.raise_blank, ↓State.ite_blank, ite_self, h_evt, h_ctrs]

theorem State.otpEnd_blank (h_sec : msk .sec = true) (r : Nat) (s : State) : (State.otpEnd r s).blank msk = s.blank msk := by
  simp only [State.otpEnd, ↓State.withSec_blank, ↓State.ite_blank, ite_self, h_sec]

theorem State.otpStart_blank (h_sec : msk .sec = true) (op slot : Nat) (s : State) : (State.otpStart op slot s).blank msk = s.blank msk := by
  simp only [State.otpStart, ↓State.withSec_blank, ↓State.ite_blank, ite_self, h_sec]

theorem State.otpWrite_blank (h_evt : msk .evt = true) (h_ctrs : msk .ctrs = true) (h_sec : msk .sec = true) (key : Nat) (go : State → State) (s : State) (k_go : ∀ s, (go s).blank msk = s.blank msk) : (State.otpWrite key go s).blank msk = s.blank msk := by
  simp only [State.otpWrite, ↓State.barWrite_blank, ↓State.withSec_blank, ↓State.ite_blank, ite_self, h_evt, h_ctrs, h_sec, k_go, ↓State.foldl_blank, implies_true, forall_const]

theorem execOtpBindSeal_blank (h_evt : msk .evt = true) (h_ctrs : msk .ctrs = true) (h_sec : msk .sec = true) (slot key : Nat) (s : State) {t' : State} (h : execOtpBindSeal slot key s = .next t') : t'.blank msk = s.blank msk := by
  simp only [execOtpBindSeal, Host.Outcome.next.injEq] at h
  subst h
  simp only [↓State.otpEnd_blank, ↓State.otpStart_blank, ↓State.otpWrite_blank, ↓State.ite_blank, ite_self, h_evt, h_ctrs, h_sec, ↓State.foldl_blank, implies_true, forall_const]

theorem execOtpRaiseVersion_blank (h_evt : msk .evt = true) (h_ctrs : msk .ctrs = true) (h_sec : msk .sec = true) (slot key : Nat) (s : State) {t' : State} (h : execOtpRaiseVersion slot key s = .next t') : t'.blank msk = s.blank msk := by
  simp only [execOtpRaiseVersion, Host.Outcome.next.injEq] at h
  subst h
  simp only [↓State.otpEnd_blank, ↓State.otpStart_blank, ↓State.otpWrite_blank, ↓State.ite_blank, ite_self, h_evt, h_ctrs, h_sec, ↓State.foldl_blank, implies_true, forall_const]

theorem execOtpReadIdentity_blank (h_evt : msk .evt = true) (h_ctrs : msk .ctrs = true) (h_sec : msk .sec = true) (slot key : Nat) (s : State) {t' : State} (h : execOtpReadIdentity slot key s = .next t') : t'.blank msk = s.blank msk := by
  simp only [execOtpReadIdentity, Host.Outcome.next.injEq] at h
  subst h
  simp only [↓State.otpEnd_blank, ↓State.otpWrite_blank, ↓State.withSec_blank, ↓State.ite_blank, ite_self, h_evt, h_ctrs, h_sec, ↓State.foldl_blank, implies_true, forall_const]

theorem execOtpReadKey_blank (h_evt : msk .evt = true) (h_ctrs : msk .ctrs = true) (h_sec : msk .sec = true) (slot key : Nat) (s : State) {t' : State} (h : execOtpReadKey slot key s = .next t') : t'.blank msk = s.blank msk := by
  simp only [execOtpReadKey, Host.Outcome.next.injEq] at h
  subst h
  simp only [↓State.otpEnd_blank, ↓State.otpWrite_blank, ↓State.withSec_blank, ↓State.ite_blank, ite_self, h_evt, h_ctrs, h_sec, ↓State.foldl_blank, implies_true, forall_const]

theorem execOtpRevokeFwKey_blank (h_evt : msk .evt = true) (h_ctrs : msk .ctrs = true) (h_sec : msk .sec = true) (slot key : Nat) (s : State) {t' : State} (h : execOtpRevokeFwKey slot key s = .next t') : t'.blank msk = s.blank msk := by
  simp only [execOtpRevokeFwKey, Host.Outcome.next.injEq] at h
  subst h
  simp only [↓State.otpEnd_blank, ↓State.otpStart_blank, ↓State.otpWrite_blank, ↓State.ite_blank, ite_self, h_evt, h_ctrs, h_sec, ↓State.foldl_blank, implies_true, forall_const]

theorem execOtpRevokeKey_blank (h_evt : msk .evt = true) (h_ctrs : msk .ctrs = true) (h_sec : msk .sec = true) (slot key : Nat) (s : State) {t' : State} (h : execOtpRevokeKey slot key s = .next t') : t'.blank msk = s.blank msk := by
  simp only [execOtpRevokeKey, Host.Outcome.next.injEq] at h
  subst h
  simp only [↓State.otpEnd_blank, ↓State.otpStart_blank, ↓State.otpWrite_blank, ↓State.ite_blank, ite_self, h_evt, h_ctrs, h_sec, ↓State.foldl_blank, implies_true, forall_const]

theorem execOtpWriteIdentity_blank (h_evt : msk .evt = true) (h_ctrs : msk .ctrs = true) (h_sec : msk .sec = true) (slot key : Nat) (s : State) {t' : State} (h : execOtpWriteIdentity slot key s = .next t') : t'.blank msk = s.blank msk := by
  simp only [execOtpWriteIdentity, Host.Outcome.next.injEq] at h
  subst h
  simp only [↓State.otpEnd_blank, ↓State.otpStart_blank, ↓State.otpWrite_blank, ↓State.ite_blank, ite_self, h_evt, h_ctrs, h_sec, ↓State.foldl_blank, implies_true, forall_const]

theorem execOtpWriteKey_blank (h_evt : msk .evt = true) (h_ctrs : msk .ctrs = true) (h_sec : msk .sec = true) (slot key : Nat) (s : State) {t' : State} (h : execOtpWriteKey slot key s = .next t') : t'.blank msk = s.blank msk := by
  simp only [execOtpWriteKey, Host.Outcome.next.injEq] at h
  subst h
  simp only [↓State.otpEnd_blank, ↓State.otpStart_blank, ↓State.otpWrite_blank, ↓State.ite_blank, ite_self, h_evt, h_ctrs, h_sec, ↓State.foldl_blank, implies_true, forall_const]

theorem execLockAll_blank (h_evt : msk .evt = true) (h_ctrs : msk .ctrs = true) (h_locks : msk .locks = true) (w : Word) (s : State) {t' : State} (h : execLockAll w s = .next t') : t'.blank msk = s.blank msk := by
  simp only [execLockAll, Host.Outcome.next.injEq] at h
  subst h
  simp only [↓State.barWrite_blank, ↓State.withRegs_blank_locks, ↓State.ite_blank, ite_self, h_evt, h_ctrs, h_locks, ↓State.foldl_blank, implies_true, forall_const]

theorem execLockSet_blank (h_evt : msk .evt = true) (h_ctrs : msk .ctrs = true) (h_locks : msk .locks = true) (lock : Nat) (w : Word) (s : State) {t' : State} (h : execLockSet lock w s = .next t') : t'.blank msk = s.blank msk := by
  unfold execLockSet at h
  injection h with h
  subst h
  repeat' (first | with_reducible rfl | assumption | simp only [↓State.barWrite_blank, ↓State.deniedWrite_blank, ↓State.withRegs_blank_locks, ↓State.ite_blank, ite_self, h_evt, h_ctrs, h_locks, ↓State.foldl_blank, implies_true, forall_const] | rw [State.barWrite_blank] | split | intro _)

theorem execOtpOperationDone_blank (h_clk : msk .clk = true) (h_evt : msk .evt = true) (h_ctrs : msk .ctrs = true) (h_sec : msk .sec = true) (t : Nat) (good : Bool) (s : State) {t' : State} (h : execOtpOperationDone t good s = .next t') : t'.blank msk = s.blank msk := by
  unfold execOtpOperationDone at h
  injection h with h
  subst h
  repeat' (first | with_reducible rfl | assumption | simp only [↓State.instant_blank, ↓State.raise_blank, ↓State.useFree_blank, ↓State.withSec_blank, ↓State.ite_blank, ite_self, h_clk, h_evt, h_ctrs, h_sec, ↓State.foldl_blank, implies_true, forall_const] | split | intro _)

end

end Sys2Proof.Machine
end

