-- ==== Sys2Proof/Laws/KeepRegisters.lean ====
section
/-! SUPPORT. What the operations and commands of Machine/Registers.lean leave unchanged. -/

set_option linter.unusedSimpArgs false

namespace Sys2Proof.Machine
open Sys2Proof

section
variable {msk : Part → Bool}

theorem State.clearEntry_blank (h_sni : msk .sni = true) (w : Word) (s : State) : (State.clearEntry w s).blank msk = s.blank msk := by
  simp only [State.clearEntry, ↓State.withSni_blank, ↓State.ite_blank, ite_self, h_sni]

theorem State.clearCounters_blank (h_ctrs : msk .ctrs = true) (h_sni : msk .sni = true) (off : Nat) (w : Word) (s : State) : (State.clearCounters off w s).blank msk = s.blank msk := by
  simp only [State.clearCounters, ↓State.clearCtr_blank, ↓State.clearEntry_blank, ↓State.ite_blank, ite_self, h_ctrs, h_sni, ↓State.foldl_blank, implies_true, forall_const]

theorem State.clearPeaks_blank (h_evt : msk .evt = true) (h_sni : msk .sni = true) (h_vsl : msk .vsl = true) (off : Nat) (w : Word) (s : State) : (State.clearPeaks off w s).blank msk = s.blank msk := by
  simp only [State.clearPeaks, ↓State.withEvt_blank, ↓State.withSni_blank, ↓State.withVsl_blank, ↓State.ite_blank, ite_self, h_evt, h_sni, h_vsl]

theorem State.writeClear_blank (h_evt : msk .evt = true) (h_ctrs : msk .ctrs = true) (h_sni : msk .sni = true) (h_vsl : msk .vsl = true) (off : Nat) (w : Word) (s : State) : (State.writeClear off w s).blank msk = s.blank msk := by
  simp only [State.writeClear, ↓State.clearCounters_blank, ↓State.clearPeaks_blank, ↓State.ite_blank, ite_self, h_evt, h_ctrs, h_sni, h_vsl]

theorem execCounterClear_blank (h_clk : msk .clk = true) (h_evt : msk .evt = true) (h_ctrs : msk .ctrs = true) (h_sni : msk .sni = true) (h_vsl : msk .vsl = true) (t offset : Nat) (w : Word) (s : State) {t' : State} (h : execCounterClear t offset w s = .next t') : t'.blank msk = s.blank msk := by
  simp only [execCounterClear, Host.Outcome.next.injEq] at h
  subst h
  simp only [↓State.barWrite_blank, ↓State.instant_blank, ↓State.writeClear_blank, ↓State.ite_blank, ite_self, h_clk, h_evt, h_ctrs, h_sni, h_vsl, ↓State.foldl_blank, implies_true, forall_const]

theorem execPeakClear_blank (h_clk : msk .clk = true) (h_evt : msk .evt = true) (h_ctrs : msk .ctrs = true) (h_sni : msk .sni = true) (h_vsl : msk .vsl = true) (t offset : Nat) (w : Word) (s : State) {t' : State} (h : execPeakClear t offset w s = .next t') : t'.blank msk = s.blank msk := by
  simp only [execPeakClear, Host.Outcome.next.injEq] at h
  subst h
  simp only [↓State.barWrite_blank, ↓State.instant_blank, ↓State.writeClear_blank, ↓State.ite_blank, ite_self, h_clk, h_evt, h_ctrs, h_sni, h_vsl, ↓State.foldl_blank, implies_true, forall_const]

theorem State.writeCfg_blank (h_evt : msk .evt = true) (h_ctrs : msk .ctrs = true) (h_cfg : msk .cfg = true) (r : CfgReg) (w : Word) (s : State) : (State.writeCfg r w s).blank msk = s.blank msk := by
  simp only [State.writeCfg, ↓State.deniedWrite_blank, ↓State.setCfg_blank, ↓State.ite_blank, ite_self, h_evt, h_ctrs, h_cfg]

theorem State.writeHrg_blank (h_hrg : msk .hrg = true) (off : Nat) (w : Word) (s : State) : (State.writeHrg off w s).blank msk = s.blank msk := by
  unfold State.writeHrg
  repeat' (first | with_reducible rfl | assumption | simp only [↓State.setRing_blank, ↓State.withHrg_blank, ↓State.ite_blank, ite_self, h_hrg, ↓State.foldl_blank, implies_true, forall_const] | split | intro _)

theorem State.writeMsix_blank (h_hrg : msk .hrg = true) (h_outbox : msk .outbox = true) (off : Nat) (w : Word) (s : State) : (State.writeMsix off w s).blank msk = s.blank msk := by
  unfold State.writeMsix
  repeat' (first | with_reducible rfl | assumption | simp only [↓State.emit_blank, ↓State.msix_blank, ↓State.withHrg_blank, ↓State.ite_blank, ite_self, h_hrg, h_outbox, ↓State.foldl_blank, implies_true, forall_const] | split | intro _)

theorem State.writePlain_blank (h_evt : msk .evt = true) (h_hrg : msk .hrg = true) (h_ctrs : msk .ctrs = true) (h_cfg : msk .cfg = true) (h_sec : msk .sec = true) (h_outbox : msk .outbox = true) (off : Nat) (w : Word) (s : State) : (State.writePlain off w s).blank msk = s.blank msk := by
  unfold State.writePlain
  repeat' (first | with_reducible rfl | assumption | simp only [↓State.writeCfg_blank, ↓State.writeHrg_blank, ↓State.writeMsix_blank, ↓State.withEvt_blank, ↓State.withSec_blank, ↓State.ite_blank, ite_self, h_evt, h_hrg, h_ctrs, h_cfg, h_sec, h_outbox, ↓State.foldl_blank, implies_true, forall_const] | split | intro _)

theorem writeOtpCtrl_blank (h_evt : msk .evt = true) (h_ctrs : msk .ctrs = true) (h_sec : msk .sec = true) (w : Word) (s : State) {t' : State} (h : writeOtpCtrl w s = .next t') : t'.blank msk = s.blank msk := by
  unfold writeOtpCtrl at h
  dsimp only at h
  split at h
  · exact execOtpReadIdentity_blank h_evt h_ctrs h_sec _ _ _ h
  · exact execOtpReadKey_blank h_evt h_ctrs h_sec _ _ _ h
  · exact execOtpWriteIdentity_blank h_evt h_ctrs h_sec _ _ _ h
  · exact execOtpWriteKey_blank h_evt h_ctrs h_sec _ _ _ h
  · exact execOtpRevokeKey_blank h_evt h_ctrs h_sec _ _ _ h
  · exact execOtpRevokeFwKey_blank h_evt h_ctrs h_sec _ _ _ h
  · exact execOtpBindSeal_blank h_evt h_ctrs h_sec _ _ _ h
  · exact execOtpRaiseVersion_blank h_evt h_ctrs h_sec _ _ _ h
  · injection h with h; subst h; rfl

theorem State.partialWrite_blank (h_evt : msk .evt = true) (h_ctrs : msk .ctrs = true) (off : Nat) (s : State) : (State.partialWrite off s).blank msk = s.blank msk := by
  simp only [State.partialWrite, ↓State.barWrite_blank, ↓State.count_blank, ↓State.raise_blank, ↓State.ite_blank, ite_self, h_evt, h_ctrs, ↓State.foldl_blank, implies_true, forall_const]

theorem execRegisterWrite_blank (h_clk : msk .clk = true) (h_tick : msk .tick = true) (h_crs : msk .crs = true) (h_evt : msk .evt = true) (h_hrg : msk .hrg = true) (h_img : msk .img = true) (h_gns : msk .gns = true) (h_pnt : msk .pnt = true) (h_ctrs : msk .ctrs = true) (h_cfg : msk .cfg = true) (h_locks : msk .locks = true) (h_sni : msk .sni = true) (h_est : msk .est = true) (h_ctl : msk .ctl = true) (h_alloc : msk .alloc = true) (h_csq : msk .csq = true) (h_trim : msk .trim = true) (h_vsl : msk .vsl = true) (h_tim : msk .tim = true) (h_rdn : msk .rdn = true) (h_btr : msk .btr = true) (h_can : msk .can = true) (h_ylk : msk .ylk = true) (h_log : msk .log = true) (h_cells : msk .cells = true) (h_mem : msk .mem = true) (h_glb : msk .glb = true) (h_sec : msk .sec = true) (h_pwr : msk .pwr = true) (h_outbox : msk .outbox = true) (t offset be : Nat) (w : Word) (s : State) {t' : State} (h : execRegisterWrite t offset be w s = .next t') : t'.blank msk = s.blank msk := by
  have hi : ∀ t s, (State.instant t s).blank msk = s.blank msk := fun t s => State.instant_blank h_clk t s
  unfold execRegisterWrite at h
  generalize List.findIdx? (fun l : LockId => l.offset == offset) LockId.all = o at h
  generalize clearRegs.contains offset = c at h
  rcases eq_of_ite h with h | h
  · injection h with h; subst h; rfl
  rcases eq_of_ite h with h | h
  · injection h with h; subst h; exact (State.barWrite_blank h_evt h_ctrs _ _ _ (fun _ => State.writePlain_blank h_evt h_hrg h_ctrs h_cfg h_sec h_outbox _ _ _)).trans (hi _ _)
  rcases eq_of_ite h with h | h
  · injection h with h; subst h; exact (State.partialWrite_blank h_evt h_ctrs _ _).trans (hi _ _)
  cases o with
  | some l => dsimp only at h; exact (execLockSet_blank h_evt h_ctrs h_locks _ _ _ h).trans (hi _ _)
  | none =>
  dsimp only at h
  rcases eq_of_ite h with h | h
  · exact execCounterClear_blank h_clk h_evt h_ctrs h_sni h_vsl _ _ _ _ h
  rcases eq_of_ite h with h | h
  · exact execDoorbellWrite_blank h_clk h_evt h_hrg h_ctrs h_outbox _ _ _ _ h
  rcases eq_of_ite h with h | h
  · exact (execGlbXselWrite_blank h_evt h_ctrs h_glb _ _ h).trans (hi _ _)
  rcases eq_of_ite h with h | h
  · exact (execGlbResetWrite_blank h_clk h_tick h_crs h_evt h_hrg h_img h_gns h_pnt h_ctrs h_cfg h_locks h_sni h_est h_ctl h_alloc h_csq h_trim h_vsl h_tim h_rdn h_btr h_can h_ylk h_log h_cells h_mem h_glb h_sec h_pwr h_outbox _ _ h).trans (hi _ _)
  rcases eq_of_ite h with h | h
  · exact (writeOtpCtrl_blank h_evt h_ctrs h_sec _ _ h).trans (hi _ _)
  rcases eq_of_ite h with h | h
  · exact (execLockAll_blank h_evt h_ctrs h_locks _ _ h).trans (hi _ _)
  rcases eq_of_ite h with h | h
  · exact execRingEnable_blank h_clk h_evt h_hrg h_ctrs h_outbox _ _ _ h
  rcases eq_of_ite h with h | h
  · exact (execCrsTblIndexWrite_blank h_crs h_evt h_ctrs _ _ h).trans (hi _ _)
  rcases eq_of_ite h with h | h
  · exact (execMemBankSelWrite_blank h_evt h_ctrs h_mem _ _ h).trans (hi _ _)
  rcases eq_of_ite h with h | h
  · exact execTimLatchWrite_blank h_clk h_evt h_ctrs h_tim _ _ _ h
  rcases eq_of_ite h with h | h
  · exact (execTimCapSelWrite_blank h_evt h_ctrs h_tim _ _ h).trans (hi _ _)
  rcases eq_of_ite h with h | h
  · exact (execGnsNotchSelWrite_blank h_evt h_gns h_ctrs _ _ h).trans (hi _ _)
  rcases eq_of_ite h with h | h
  · exact (execSniEntryWrite_blank h_evt h_ctrs h_sni _ _ h).trans (hi _ _)
  rcases eq_of_ite h with h | h
  · exact (execVslLaneSelWrite_blank h_evt h_ctrs h_vsl _ _ h).trans (hi _ _)
  rcases eq_of_ite h with h | h
  · exact (execPntSelWrite_blank h_evt h_pnt h_ctrs _ _ h).trans (hi _ _)
  rcases eq_of_ite h with h | h
  · exact execCanSingleClear_blank h_clk h_evt h_ctrs h_can _ _ _ _ h
  rcases eq_of_ite h with h | h
  · exact execCanSingleClear_blank h_clk h_evt h_ctrs h_can _ _ _ _ h
  rcases eq_of_ite h with h | h
  · exact execCanSingleClear_blank h_clk h_evt h_ctrs h_can _ _ _ _ h
  rcases eq_of_ite h with h | h
  · exact (execPwrBootGo_blank h_evt h_ctrs h_pwr _ _ h).trans (hi _ _)
  rcases eq_of_ite h with h | h
  · exact execLogFormat_blank h_clk h_evt h_ctrs h_log _ _ _ h
  injection h with h; subst h; exact (State.barWrite_blank h_evt h_ctrs _ _ _ (fun _ => State.writePlain_blank h_evt h_hrg h_ctrs h_cfg h_sec h_outbox _ _ _)).trans (hi _ _)

end

end Sys2Proof.Machine
end

