-- ==== Sys2Proof/Laws/Memory.lean ====
section
/-! SUPPORT. Every operation on a memory keeps its canonical form, and a read after a write. -/

namespace Sys2Proof.Machine
open Sys2Proof

/-- The form of a memory, as a proposition about its first entry and its rest. -/
theorem memWf_cons {a : Nat} {b : Byte} {r : List Host.Cell} :
    memWf ((a, b) :: r) = true ↔ b ≠ 0#8 ∧ (∀ c ∈ r, a < c.1) ∧ memWf r = true := by
  simp only [memWf, Bool.and_eq_true, bne_iff_ne, List.all_eq_true, decide_eq_true_eq, and_assoc]

/-- Every entry that a write leaves was there before, or is the byte written. -/
theorem mem_memSet {a : Nat} {b : Byte} {m : List Host.Cell} {c : Host.Cell} (h : c ∈ memSet a b m) :
    c ∈ m ∨ (c = (a, b) ∧ b ≠ 0#8) := by
  induction m with
  | nil =>
    simp only [memSet] at h
    split at h
    · simp at h
    · exact .inr ⟨by simpa using h, by assumption⟩
  | cons x r ih =>
    obtain ⟨j, y⟩ := x
    simp only [memSet] at h
    split at h
    · rcases List.mem_cons.mp h with h | h
      · exact .inl (h ▸ List.mem_cons_self)
      · exact (ih h).imp_left (List.mem_cons_of_mem _)
    · split at h
      · split at h
        · exact .inl (List.mem_cons_of_mem _ h)
        · rcases List.mem_cons.mp h with h | h
          · exact .inr ⟨h, by assumption⟩
          · exact .inl (List.mem_cons_of_mem _ h)
      · split at h
        · exact .inl h
        · rcases List.mem_cons.mp h with h | h
          · exact .inr ⟨h, by assumption⟩
          · exact .inl h

/-- A write of a byte keeps the form. -/
theorem memSet_wf (a : Nat) (b : Byte) (m : List Host.Cell) (h : memWf m = true) : memWf (memSet a b m) = true := by
  induction m with
  | nil =>
    simp only [memSet]
    split
    · rfl
    · exact memWf_cons.mpr ⟨by assumption, by simp, rfl⟩
  | cons x r ih =>
    obtain ⟨j, y⟩ := x
    obtain ⟨hy, hr, hw⟩ := memWf_cons.mp h
    simp only [memSet]
    split
    · rename_i hj
      refine memWf_cons.mpr ⟨hy, fun c hc => ?_, ih hw⟩
      rcases mem_memSet hc with hc | ⟨hc, -⟩
      · exact hr c hc
      · exact hc ▸ hj
    · split
      · rename_i hj he
        subst he
        split
        · exact hw
        · exact memWf_cons.mpr ⟨by assumption, hr, hw⟩
      · split
        · exact h
        · refine memWf_cons.mpr ⟨by assumption, fun c hc => ?_, h⟩
          rcases List.mem_cons.mp hc with hc | hc
          · subst hc; simp only; omega
          · have := hr c hc; omega

/-- Writes of bytes in turn keep the form. -/
theorem memSet_foldl_wf {α : Type} (f : α → Nat) (g : α → Byte) (l : List α) (m : List Host.Cell) (h : memWf m = true) :
    memWf (l.foldl (fun m x => memSet (f x) (g x) m) m) = true := by
  induction l generalizing m with
  | nil => exact h
  | cons x l ih => exact ih _ (memSet_wf _ _ _ h)

/-- A write of a 64-bit word keeps the form. -/
theorem memSetWord_wf (w : Nat) (v : DWord) (m : List Host.Cell) (h : memWf m = true) :
    memWf (memSetWord w v m) = true :=
  memSet_foldl_wf (fun i => 8 * w + i) (fun i => v.extractLsb' (8 * i) 8) (List.range 8) m h

/-- Taking entries away keeps the form. -/
theorem mem_filter_wf (p : Host.Cell → Bool) (m : List Host.Cell) (h : memWf m = true) :
    memWf (m.filter p) = true := by
  induction m with
  | nil => rfl
  | cons x r ih =>
    obtain ⟨j, y⟩ := x
    obtain ⟨hy, hr, hw⟩ := memWf_cons.mp h
    simp only [List.filter]
    split
    · exact memWf_cons.mpr ⟨hy, fun c hc => hr c (List.mem_filter.mp hc).1, ih hw⟩
    · exact ih hw

/-- No key below every listed one is found. -/
theorem afind_none {α : Type} (a : Nat) (m : List (Nat × α)) (h : ∀ c ∈ m, a < c.1) : afind a m = none := by
  induction m with
  | nil => rfl
  | cons x r ih =>
    obtain ⟨j, y⟩ := x
    have hj : a < j := h (j, y) List.mem_cons_self
    simp only [afind]
    rw [if_neg (by omega)]
    exact ih (fun c hc => h c (List.mem_cons_of_mem _ hc))

/-- A read gives what was written there last. -/
theorem memGet_memSet (a : Nat) (b : Byte) (m : List Host.Cell) (h : memWf m = true) : memGet (memSet a b m) a = b := by
  induction m with
  | nil =>
    simp only [memSet]
    split
    · rename_i hb; simp [memGet, afind, hb]
    · simp [memGet, afind]
  | cons x r ih =>
    obtain ⟨j, y⟩ := x
    obtain ⟨hy, hr, hw⟩ := memWf_cons.mp h
    simp only [memSet]
    split
    · rename_i hj
      have := ih hw
      simp only [memGet, afind] at this ⊢
      rw [if_neg (by omega)]
      exact this
    · split
      · rename_i hj he
        subst he
        split
        · rename_i hb
          rw [memGet, afind_none _ _ hr, hb]
          rfl
        · simp [memGet, afind]
      · split
        · rename_i hb
          rw [memGet, afind_none _ _ (fun c hc => ?_), hb]
          · rfl
          · rcases List.mem_cons.mp hc with hc | hc
            · subst hc; simp only; omega
            · have := hr c hc; omega
        · simp [memGet, afind]

/-- A write leaves every other byte as it was. -/
theorem memGet_memSet_ne (a c : Nat) (b : Byte) (m : List Host.Cell) (hc : c ≠ a) :
    memGet (memSet a b m) c = memGet m c := by
  induction m with
  | nil =>
    simp only [memSet]
    split
    · rfl
    · simp [memGet, afind, Ne.symm hc]
  | cons x r ih =>
    obtain ⟨j, y⟩ := x
    simp only [memSet]
    split
    · simp only [memGet, afind] at ih ⊢
      split
      · rfl
      · exact ih
    · split
      · rename_i hj he
        subst he
        split <;> simp [memGet, afind, Ne.symm hc]
      · split
        · rfl
        · simp [memGet, afind, Ne.symm hc]

end Sys2Proof.Machine
end

