-- ==== Sys2Proof/Laws/Shared.lean ====
section
/-! SUPPORT. What the shared operations do: running an item or a row while frames run, register accesses, counters, and
the parts that a blanked state keeps. -/

namespace Sys2Proof.Machine
open Sys2Proof

/-- The parts that are left out when only the listed ones are kept. -/
def keepOnly (ps : List Part) : Part → Bool := fun p => !ps.contains p

section
variable {m : Part → Bool} {a b : State}

theorem State.crs_of_blank (h : a.blank m = b.blank m) (h1 : m .crs = false) (h2 : m .tick = false) : a.crs = b.crs := by
  have e (x : State) : (x.blank m).crs = x.crs := by simp only [State.blank, h1, h2]; rfl
  rw [← e a, ← e b, h]
theorem State.clk_of_blank (h : a.blank m = b.blank m) (h1 : m .clk = false) (h2 : m .tick = false) : a.clk = b.clk := by
  have e (x : State) : (x.blank m).clk = x.clk := by simp only [State.blank, h1, h2]; rfl
  rw [← e a, ← e b, h]
theorem State.place_of_blank (h : a.blank m = b.blank m) (h2 : m .tick = false) :
    a.crs.frame = b.crs.frame ∧ a.crs.course = b.crs.course ∧ a.crs.courseCnt = b.crs.courseCnt ∧
    a.crs.tickSrc = b.crs.tickSrc ∧ a.crs.started = b.crs.started ∧ a.clk.tickAt = b.clk.tickAt := by
  have e (x : State) : (x.blank m).crs.frame = x.crs.frame ∧ (x.blank m).crs.course = x.crs.course ∧
      (x.blank m).crs.courseCnt = x.crs.courseCnt ∧ (x.blank m).crs.tickSrc = x.crs.tickSrc ∧
      (x.blank m).crs.started = x.crs.started ∧ (x.blank m).clk.tickAt = x.clk.tickAt := by
    simp only [State.blank, Crs.withPlace, h2, Bool.false_eq_true, if_false, and_self]
  have ea := e a
  have eb := e b
  rw [h] at ea
  simp only [ea.1.symm.trans eb.1, ea.2.1.symm.trans eb.2.1, ea.2.2.1.symm.trans eb.2.2.1, ea.2.2.2.1.symm.trans eb.2.2.2.1,
    ea.2.2.2.2.1.symm.trans eb.2.2.2.2.1, ea.2.2.2.2.2.symm.trans eb.2.2.2.2.2, and_self]
theorem State.evt_of_blank (h : a.blank m = b.blank m) (h1 : m .evt = false) : a.evt = b.evt := by
  simpa only [State.blank, h1, Bool.false_eq_true, if_false] using congrArg State.evt h
theorem State.hrg_of_blank (h : a.blank m = b.blank m) (h1 : m .hrg = false) : a.hrg = b.hrg := by
  simpa only [State.blank, h1, Bool.false_eq_true, if_false] using congrArg State.hrg h
theorem State.img_of_blank (h : a.blank m = b.blank m) (h1 : m .img = false) : a.img = b.img := by
  simpa only [State.blank, h1, Bool.false_eq_true, if_false] using congrArg State.img h
theorem State.gns_of_blank (h : a.blank m = b.blank m) (h1 : m .gns = false) : a.gns = b.gns := by
  simpa only [State.blank, h1, Bool.false_eq_true, if_false] using congrArg State.gns h
theorem State.pnt_of_blank (h : a.blank m = b.blank m) (h1 : m .pnt = false) : a.pnt = b.pnt := by
  simpa only [State.blank, h1, Bool.false_eq_true, if_false] using congrArg State.pnt h
theorem State.sni_of_blank (h : a.blank m = b.blank m) (h1 : m .sni = false) : a.sni = b.sni := by
  simpa only [State.blank, h1, Bool.false_eq_true, if_false] using congrArg State.sni h
theorem State.est_of_blank (h : a.blank m = b.blank m) (h1 : m .est = false) : a.est = b.est := by
  simpa only [State.blank, h1, Bool.false_eq_true, if_false] using congrArg State.est h
theorem State.ctl_of_blank (h : a.blank m = b.blank m) (h1 : m .ctl = false) : a.ctl = b.ctl := by
  simpa only [State.blank, h1, Bool.false_eq_true, if_false] using congrArg State.ctl h
theorem State.alloc_of_blank (h : a.blank m = b.blank m) (h1 : m .alloc = false) : a.alloc = b.alloc := by
  simpa only [State.blank, h1, Bool.false_eq_true, if_false] using congrArg State.alloc h
theorem State.csq_of_blank (h : a.blank m = b.blank m) (h1 : m .csq = false) : a.csq = b.csq := by
  simpa only [State.blank, h1, Bool.false_eq_true, if_false] using congrArg State.csq h
theorem State.trim_of_blank (h : a.blank m = b.blank m) (h1 : m .trim = false) : a.trim = b.trim := by
  simpa only [State.blank, h1, Bool.false_eq_true, if_false] using congrArg State.trim h
theorem State.vsl_of_blank (h : a.blank m = b.blank m) (h1 : m .vsl = false) : a.vsl = b.vsl := by
  simpa only [State.blank, h1, Bool.false_eq_true, if_false] using congrArg State.vsl h
theorem State.tim_of_blank (h : a.blank m = b.blank m) (h1 : m .tim = false) : a.tim = b.tim := by
  simpa only [State.blank, h1, Bool.false_eq_true, if_false] using congrArg State.tim h
theorem State.rdn_of_blank (h : a.blank m = b.blank m) (h1 : m .rdn = false) : a.rdn = b.rdn := by
  simpa only [State.blank, h1, Bool.false_eq_true, if_false] using congrArg State.rdn h
theorem State.btr_of_blank (h : a.blank m = b.blank m) (h1 : m .btr = false) : a.btr = b.btr := by
  simpa only [State.blank, h1, Bool.false_eq_true, if_false] using congrArg State.btr h
theorem State.can_of_blank (h : a.blank m = b.blank m) (h1 : m .can = false) : a.can = b.can := by
  simpa only [State.blank, h1, Bool.false_eq_true, if_false] using congrArg State.can h
theorem State.ylk_of_blank (h : a.blank m = b.blank m) (h1 : m .ylk = false) : a.ylk = b.ylk := by
  simpa only [State.blank, h1, Bool.false_eq_true, if_false] using congrArg State.ylk h
theorem State.log_of_blank (h : a.blank m = b.blank m) (h1 : m .log = false) : a.log = b.log := by
  simpa only [State.blank, h1, Bool.false_eq_true, if_false] using congrArg State.log h
theorem State.glb_of_blank (h : a.blank m = b.blank m) (h1 : m .glb = false) : a.glb = b.glb := by
  simpa only [State.blank, h1, Bool.false_eq_true, if_false] using congrArg State.glb h
theorem State.sec_of_blank (h : a.blank m = b.blank m) (h1 : m .sec = false) : a.sec = b.sec := by
  simpa only [State.blank, h1, Bool.false_eq_true, if_false] using congrArg State.sec h
theorem State.pwr_of_blank (h : a.blank m = b.blank m) (h1 : m .pwr = false) : a.pwr = b.pwr := by
  simpa only [State.blank, h1, Bool.false_eq_true, if_false] using congrArg State.pwr h
theorem State.outbox_of_blank (h : a.blank m = b.blank m) (h1 : m .outbox = false) : a.outbox = b.outbox := by
  simpa only [State.blank, h1, Bool.false_eq_true, if_false] using congrArg State.outbox h
theorem State.cells_of_blank (h : a.blank m = b.blank m) (h1 : m .cells = false) :
    a.mem.sram = b.mem.sram ∧ a.mem.mortar = b.mem.mortar := by
  have h2 := congrArg (fun s => (s.mem.sram, s.mem.mortar)) h
  simpa only [State.blank, Mem.withCells, h1, Bool.false_eq_true, if_false, Prod.mk.injEq] using h2

/-- A memory's form stays where its bytes stay. -/
theorem State.memOk_of_blank (h : a.blank m = b.blank m) (h1 : m .cells = false) (hb : b.memOk) : a.memOk := by
  have h2 := State.cells_of_blank h h1
  simpa only [State.memOk, h2.1, h2.2] using hb

end

section
variable (s : State)

@[simp] theorem State.instant_runs (t : Nat) : (s.instant t).runs = s.runs := rfl
@[simp] theorem State.instant_item (t code : Nat) : (s.instant t).item code = s.item code := rfl

/-- A row of the running part has its effect while frames run. -/
theorem State.whileRunning_of_runs {f : State → State} (h : s.runs = true) : s.whileRunning f = f s := by
  simp only [State.whileRunning, h, if_true]
/-- And none otherwise. -/
theorem State.whileRunning_of_not_runs {f : State → State} (h : s.runs = false) : s.whileRunning f = s := by
  simp only [State.whileRunning, h, Bool.false_eq_true, if_false]

/-- An item that can run at its instant does so and has then finished. -/
theorem State.runItem_of_runs {code t : Nat} {f : State → State} (h : s.runs = true)
    (h2 : (s.instant t).itemRuns code = true) : s.runItem code t f = (f (s.instant t)).itemDone code := by
  simp only [State.runItem, State.whileRunning, State.instant_runs, h, h2, if_true]

/-- A service item runs while frames run and the table leaves its slot to service. -/
theorem State.runService_of_runs {code t : Nat} {f : State → State} (h : s.runs = true)
    (h2 : (s.instant t).serviceOpen code = true) : s.runService code t f = (f (s.instant t)).itemDone code := by
  simp only [State.runService, State.whileRunning, State.instant_runs, h, h2, if_true]

/-- A register write goes through where the block answers and no crossing on the way is stalled. -/
theorem State.barWrite_of_answers {off : Nat} {go : State → State} (h : s.answers off = true)
    (h2 : s.accessStalled off = false) : s.barWrite off go = go s := by
  simp only [State.barWrite, h, h2, Bool.true_eq_false, Bool.false_eq_true, if_false]
/-- A register write has no effect while the block does not answer. -/
theorem State.barWrite_of_silent {off : Nat} {go : State → State} (h : s.answers off = false) : s.barWrite off go = s := by
  simp only [State.barWrite, h, if_true]

end

/-- An item that has finished is fresh and done, where the work itself kept the course block. -/
theorem FinishedItem.of_itemDone {code : Nat} (hc : code < 43) {s f : State} (h : f.crs = s.crs) :
    FinishedItem code s (f.itemDone code) := by
  have hi : f.itemHeld = s.itemHeld := by funext c; simp only [State.itemHeld, State.item, h]
  refine ⟨?_, ?_⟩
  · simp [State.item, State.itemDone, State.withCrs, vget, vset, h, hi, hc]
  · simp only [State.itemDone, State.withCrs, h]; split <;> simp_all

/-! ## Host commands -/

theorem State.pushOutst_eq (t ring code : Nat) (tag : Half) (s : State) (h8 : ring < 8) :
    (((s.instant t).pushOutst ring code tag).ring ring).outst.length = (s.ring ring).outst.length + 1 := by
  have h22 : ring < 22 := by omega
  simp [State.pushOutst, State.ring, State.setRing, State.withHrg, vget, vset, h22]
  rfl

/-- An accepted command goes where it takes effect, behind its buffer where it has one. -/
theorem State.hostCommand_of_accepts {t : Nat} {h : CmdHdr} {c : HostCmd} {s : State} (ha : s.Accepts h c) :
    s.hostCommand t h c =
      if readsBuffer c then (s.accepted t h c).withBuffer (s.taken t h c) (fun u => u.routeCommand (s.taken t h c))
      else (s.accepted t h c).routeCommand (s.taken t h c) := by
  obtain ⟨h1, h2, h3, h4, h5, h6⟩ := ha
  have e1 : (s.instant t).canFetch h.ring = true := h2
  have e4 : ((s.instant t).pushOutst h.ring (cmdCode c) h.tag).formatError h c = none := by
    rw [← h4]; cases c <;> rfl
  have e5 : ((s.instant t).pushOutst h.ring (cmdCode c) h.tag).denies c = false := by rw [← h5]; rfl
  have h8 : h.ring < 8 := by
    simp only [State.canFetch, Bool.and_eq_true, decide_eq_true_eq] at h2; exact h2.1.1.1.1.1
  have e6 : ¬(h.fence = true ∧ (((s.instant t).pushOutst h.ring (cmdCode c) h.tag).ring h.ring).outst.length ≠ 1) := by
    rw [State.pushOutst_eq _ _ _ _ _ h8]
    rcases h6 with h6 | h6 <;> simp [h6]
  rw [State.hostCommand, State.whileRunning_of_runs _ (show (s.instant t).runs = true from h1)]
  simp only [e1, h3, Bool.and_self, if_true, State.checkDescriptor, e4, e5, e6, Bool.false_eq_true, if_false]
  rfl

end Sys2Proof.Machine
end

