-- ==== Sys2Proof/Laws/State.lean ====
section
/-! SUPPORT. Reading a field of the state after a record update of one block. -/

namespace Sys2Proof.Machine

@[simp] theorem State.withClk_clk (s : State) (x : Clk) : (s.withClk x).clk = x := rfl
@[simp] theorem State.withClk_crs (s : State) (x : Clk) : (s.withClk x).crs = s.crs := rfl
@[simp] theorem State.withClk_evt (s : State) (x : Clk) : (s.withClk x).evt = s.evt := rfl
@[simp] theorem State.withClk_hrg (s : State) (x : Clk) : (s.withClk x).hrg = s.hrg := rfl
@[simp] theorem State.withClk_img (s : State) (x : Clk) : (s.withClk x).img = s.img := rfl
@[simp] theorem State.withClk_gns (s : State) (x : Clk) : (s.withClk x).gns = s.gns := rfl
@[simp] theorem State.withClk_pnt (s : State) (x : Clk) : (s.withClk x).pnt = s.pnt := rfl
@[simp] theorem State.withClk_regs (s : State) (x : Clk) : (s.withClk x).regs = s.regs := rfl
@[simp] theorem State.withClk_sni (s : State) (x : Clk) : (s.withClk x).sni = s.sni := rfl
@[simp] theorem State.withClk_est (s : State) (x : Clk) : (s.withClk x).est = s.est := rfl
@[simp] theorem State.withClk_ctl (s : State) (x : Clk) : (s.withClk x).ctl = s.ctl := rfl
@[simp] theorem State.withClk_alloc (s : State) (x : Clk) : (s.withClk x).alloc = s.alloc := rfl
@[simp] theorem State.withClk_csq (s : State) (x : Clk) : (s.withClk x).csq = s.csq := rfl
@[simp] theorem State.withClk_trim (s : State) (x : Clk) : (s.withClk x).trim = s.trim := rfl
@[simp] theorem State.withClk_vsl (s : State) (x : Clk) : (s.withClk x).vsl = s.vsl := rfl
@[simp] theorem State.withClk_tim (s : State) (x : Clk) : (s.withClk x).tim = s.tim := rfl
@[simp] theorem State.withClk_rdn (s : State) (x : Clk) : (s.withClk x).rdn = s.rdn := rfl
@[simp] theorem State.withClk_btr (s : State) (x : Clk) : (s.withClk x).btr = s.btr := rfl
@[simp] theorem State.withClk_can (s : State) (x : Clk) : (s.withClk x).can = s.can := rfl
@[simp] theorem State.withClk_ylk (s : State) (x : Clk) : (s.withClk x).ylk = s.ylk := rfl
@[simp] theorem State.withClk_log (s : State) (x : Clk) : (s.withClk x).log = s.log := rfl
@[simp] theorem State.withClk_mem (s : State) (x : Clk) : (s.withClk x).mem = s.mem := rfl
@[simp] theorem State.withClk_glb (s : State) (x : Clk) : (s.withClk x).glb = s.glb := rfl
@[simp] theorem State.withClk_sec (s : State) (x : Clk) : (s.withClk x).sec = s.sec := rfl
@[simp] theorem State.withClk_pwr (s : State) (x : Clk) : (s.withClk x).pwr = s.pwr := rfl
@[simp] theorem State.withClk_outbox (s : State) (x : Clk) : (s.withClk x).outbox = s.outbox := rfl
@[simp] theorem State.withClk_pending (s : State) (x : Clk) : (s.withClk x).pending = s.pending := rfl
@[simp] theorem State.withCrs_crs (s : State) (x : Crs) : (s.withCrs x).crs = x := rfl
@[simp] theorem State.withCrs_clk (s : State) (x : Crs) : (s.withCrs x).clk = s.clk := rfl
@[simp] theorem State.withCrs_evt (s : State) (x : Crs) : (s.withCrs x).evt = s.evt := rfl
@[simp] theorem State.withCrs_hrg (s : State) (x : Crs) : (s.withCrs x).hrg = s.hrg := rfl
@[simp] theorem State.withCrs_img (s : State) (x : Crs) : (s.withCrs x).img = s.img := rfl
@[simp] theorem State.withCrs_gns (s : State) (x : Crs) : (s.withCrs x).gns = s.gns := rfl
@[simp] theorem State.withCrs_pnt (s : State) (x : Crs) : (s.withCrs x).pnt = s.pnt := rfl
@[simp] theorem State.withCrs_regs (s : State) (x : Crs) : (s.withCrs x).regs = s.regs := rfl
@[simp] theorem State.withCrs_sni (s : State) (x : Crs) : (s.withCrs x).sni = s.sni := rfl
@[simp] theorem State.withCrs_est (s : State) (x : Crs) : (s.withCrs x).est = s.est := rfl
@[simp] theorem State.withCrs_ctl (s : State) (x : Crs) : (s.withCrs x).ctl = s.ctl := rfl
@[simp] theorem State.withCrs_alloc (s : State) (x : Crs) : (s.withCrs x).alloc = s.alloc := rfl
@[simp] theorem State.withCrs_csq (s : State) (x : Crs) : (s.withCrs x).csq = s.csq := rfl
@[simp] theorem State.withCrs_trim (s : State) (x : Crs) : (s.withCrs x).trim = s.trim := rfl
@[simp] theorem State.withCrs_vsl (s : State) (x : Crs) : (s.withCrs x).vsl = s.vsl := rfl
@[simp] theorem State.withCrs_tim (s : State) (x : Crs) : (s.withCrs x).tim = s.tim := rfl
@[simp] theorem State.withCrs_rdn (s : State) (x : Crs) : (s.withCrs x).rdn = s.rdn := rfl
@[simp] theorem State.withCrs_btr (s : State) (x : Crs) : (s.withCrs x).btr = s.btr := rfl
@[simp] theorem State.withCrs_can (s : State) (x : Crs) : (s.withCrs x).can = s.can := rfl
@[simp] theorem State.withCrs_ylk (s : State) (x : Crs) : (s.withCrs x).ylk = s.ylk := rfl
@[simp] theorem State.withCrs_log (s : State) (x : Crs) : (s.withCrs x).log = s.log := rfl
@[simp] theorem State.withCrs_mem (s : State) (x : Crs) : (s.withCrs x).mem = s.mem := rfl
@[simp] theorem State.withCrs_glb (s : State) (x : Crs) : (s.withCrs x).glb = s.glb := rfl
@[simp] theorem State.withCrs_sec (s : State) (x : Crs) : (s.withCrs x).sec = s.sec := rfl
@[simp] theorem State.withCrs_pwr (s : State) (x : Crs) : (s.withCrs x).pwr = s.pwr := rfl
@[simp] theorem State.withCrs_outbox (s : State) (x : Crs) : (s.withCrs x).outbox = s.outbox := rfl
@[simp] theorem State.withCrs_pending (s : State) (x : Crs) : (s.withCrs x).pending = s.pending := rfl
@[simp] theorem State.withEvt_evt (s : State) (x : Evt) : (s.withEvt x).evt = x := rfl
@[simp] theorem State.withEvt_clk (s : State) (x : Evt) : (s.withEvt x).clk = s.clk := rfl
@[simp] theorem State.withEvt_crs (s : State) (x : Evt) : (s.withEvt x).crs = s.crs := rfl
@[simp] theorem State.withEvt_hrg (s : State) (x : Evt) : (s.withEvt x).hrg = s.hrg := rfl
@[simp] theorem State.withEvt_img (s : State) (x : Evt) : (s.withEvt x).img = s.img := rfl
@[simp] theorem State.withEvt_gns (s : State) (x : Evt) : (s.withEvt x).gns = s.gns := rfl
@[simp] theorem State.withEvt_pnt (s : State) (x : Evt) : (s.withEvt x).pnt = s.pnt := rfl
@[simp] theorem State.withEvt_regs (s : State) (x : Evt) : (s.withEvt x).regs = s.regs := rfl
@[simp] theorem State.withEvt_sni (s : State) (x : Evt) : (s.withEvt x).sni = s.sni := rfl
@[simp] theorem State.withEvt_est (s : State) (x : Evt) : (s.withEvt x).est = s.est := rfl
@[simp] theorem State.withEvt_ctl (s : State) (x : Evt) : (s.withEvt x).ctl = s.ctl := rfl
@[simp] theorem State.withEvt_alloc (s : State) (x : Evt) : (s.withEvt x).alloc = s.alloc := rfl
@[simp] theorem State.withEvt_csq (s : State) (x : Evt) : (s.withEvt x).csq = s.csq := rfl
@[simp] theorem State.withEvt_trim (s : State) (x : Evt) : (s.withEvt x).trim = s.trim := rfl
@[simp] theorem State.withEvt_vsl (s : State) (x : Evt) : (s.withEvt x).vsl = s.vsl := rfl
@[simp] theorem State.withEvt_tim (s : State) (x : Evt) : (s.withEvt x).tim = s.tim := rfl
@[simp] theorem State.withEvt_rdn (s : State) (x : Evt) : (s.withEvt x).rdn = s.rdn := rfl
@[simp] theorem State.withEvt_btr (s : State) (x : Evt) : (s.withEvt x).btr = s.btr := rfl
@[simp] theorem State.withEvt_can (s : State) (x : Evt) : (s.withEvt x).can = s.can := rfl
@[simp] theorem State.withEvt_ylk (s : State) (x : Evt) : (s.withEvt x).ylk = s.ylk := rfl
@[simp] theorem State.withEvt_log (s : State) (x : Evt) : (s.withEvt x).log = s.log := rfl
@[simp] theorem State.withEvt_mem (s : State) (x : Evt) : (s.withEvt x).mem = s.mem := rfl
@[simp] theorem State.withEvt_glb (s : State) (x : Evt) : (s.withEvt x).glb = s.glb := rfl
@[simp] theorem State.withEvt_sec (s : State) (x : Evt) : (s.withEvt x).sec = s.sec := rfl
@[simp] theorem State.withEvt_pwr (s : State) (x : Evt) : (s.withEvt x).pwr = s.pwr := rfl
@[simp] theorem State.withEvt_outbox (s : State) (x : Evt) : (s.withEvt x).outbox = s.outbox := rfl
@[simp] theorem State.withEvt_pending (s : State) (x : Evt) : (s.withEvt x).pending = s.pending := rfl
@[simp] theorem State.withHrg_hrg (s : State) (x : Hrg) : (s.withHrg x).hrg = x := rfl
@[simp] theorem State.withHrg_clk (s : State) (x : Hrg) : (s.withHrg x).clk = s.clk := rfl
@[simp] theorem State.withHrg_crs (s : State) (x : Hrg) : (s.withHrg x).crs = s.crs := rfl
@[simp] theorem State.withHrg_evt (s : State) (x : Hrg) : (s.withHrg x).evt = s.evt := rfl
@[simp] theorem State.withHrg_img (s : State) (x : Hrg) : (s.withHrg x).img = s.img := rfl
@[simp] theorem State.withHrg_gns (s : State) (x : Hrg) : (s.withHrg x).gns = s.gns := rfl
@[simp] theorem State.withHrg_pnt (s : State) (x : Hrg) : (s.withHrg x).pnt = s.pnt := rfl
@[simp] theorem State.withHrg_regs (s : State) (x : Hrg) : (s.withHrg x).regs = s.regs := rfl
@[simp] theorem State.withHrg_sni (s : State) (x : Hrg) : (s.withHrg x).sni = s.sni := rfl
@[simp] theorem State.withHrg_est (s : State) (x : Hrg) : (s.withHrg x).est = s.est := rfl
@[simp] theorem State.withHrg_ctl (s : State) (x : Hrg) : (s.withHrg x).ctl = s.ctl := rfl
@[simp] theorem State.withHrg_alloc (s : State) (x : Hrg) : (s.withHrg x).alloc = s.alloc := rfl
@[simp] theorem State.withHrg_csq (s : State) (x : Hrg) : (s.withHrg x).csq = s.csq := rfl
@[simp] theorem State.withHrg_trim (s : State) (x : Hrg) : (s.withHrg x).trim = s.trim := rfl
@[simp] theorem State.withHrg_vsl (s : State) (x : Hrg) : (s.withHrg x).vsl = s.vsl := rfl
@[simp] theorem State.withHrg_tim (s : State) (x : Hrg) : (s.withHrg x).tim = s.tim := rfl
@[simp] theorem State.withHrg_rdn (s : State) (x : Hrg) : (s.withHrg x).rdn = s.rdn := rfl
@[simp] theorem State.withHrg_btr (s : State) (x : Hrg) : (s.withHrg x).btr = s.btr := rfl
@[simp] theorem State.withHrg_can (s : State) (x : Hrg) : (s.withHrg x).can = s.can := rfl
@[simp] theorem State.withHrg_ylk (s : State) (x : Hrg) : (s.withHrg x).ylk = s.ylk := rfl
@[simp] theorem State.withHrg_log (s : State) (x : Hrg) : (s.withHrg x).log = s.log := rfl
@[simp] theorem State.withHrg_mem (s : State) (x : Hrg) : (s.withHrg x).mem = s.mem := rfl
@[simp] theorem State.withHrg_glb (s : State) (x : Hrg) : (s.withHrg x).glb = s.glb := rfl
@[simp] theorem State.withHrg_sec (s : State) (x : Hrg) : (s.withHrg x).sec = s.sec := rfl
@[simp] theorem State.withHrg_pwr (s : State) (x : Hrg) : (s.withHrg x).pwr = s.pwr := rfl
@[simp] theorem State.withHrg_outbox (s : State) (x : Hrg) : (s.withHrg x).outbox = s.outbox := rfl
@[simp] theorem State.withHrg_pending (s : State) (x : Hrg) : (s.withHrg x).pending = s.pending := rfl
@[simp] theorem State.withImg_img (s : State) (x : Img) : (s.withImg x).img = x := rfl
@[simp] theorem State.withImg_clk (s : State) (x : Img) : (s.withImg x).clk = s.clk := rfl
@[simp] theorem State.withImg_crs (s : State) (x : Img) : (s.withImg x).crs = s.crs := rfl
@[simp] theorem State.withImg_evt (s : State) (x : Img) : (s.withImg x).evt = s.evt := rfl
@[simp] theorem State.withImg_hrg (s : State) (x : Img) : (s.withImg x).hrg = s.hrg := rfl
@[simp] theorem State.withImg_gns (s : State) (x : Img) : (s.withImg x).gns = s.gns := rfl
@[simp] theorem State.withImg_pnt (s : State) (x : Img) : (s.withImg x).pnt = s.pnt := rfl
@[simp] theorem State.withImg_regs (s : State) (x : Img) : (s.withImg x).regs = s.regs := rfl
@[simp] theorem State.withImg_sni (s : State) (x : Img) : (s.withImg x).sni = s.sni := rfl
@[simp] theorem State.withImg_est (s : State) (x : Img) : (s.withImg x).est = s.est := rfl
@[simp] theorem State.withImg_ctl (s : State) (x : Img) : (s.withImg x).ctl = s.ctl := rfl
@[simp] theorem State.withImg_alloc (s : State) (x : Img) : (s.withImg x).alloc = s.alloc := rfl
@[simp] theorem State.withImg_csq (s : State) (x : Img) : (s.withImg x).csq = s.csq := rfl
@[simp] theorem State.withImg_trim (s : State) (x : Img) : (s.withImg x).trim = s.trim := rfl
@[simp] theorem State.withImg_vsl (s : State) (x : Img) : (s.withImg x).vsl = s.vsl := rfl
@[simp] theorem State.withImg_tim (s : State) (x : Img) : (s.withImg x).tim = s.tim := rfl
@[simp] theorem State.withImg_rdn (s : State) (x : Img) : (s.withImg x).rdn = s.rdn := rfl
@[simp] theorem State.withImg_btr (s : State) (x : Img) : (s.withImg x).btr = s.btr := rfl
@[simp] theorem State.withImg_can (s : State) (x : Img) : (s.withImg x).can = s.can := rfl
@[simp] theorem State.withImg_ylk (s : State) (x : Img) : (s.withImg x).ylk = s.ylk := rfl
@[simp] theorem State.withImg_log (s : State) (x : Img) : (s.withImg x).log = s.log := rfl
@[simp] theorem State.withImg_mem (s : State) (x : Img) : (s.withImg x).mem = s.mem := rfl
@[simp] theorem State.withImg_glb (s : State) (x : Img) : (s.withImg x).glb = s.glb := rfl
@[simp] theorem State.withImg_sec (s : State) (x : Img) : (s.withImg x).sec = s.sec := rfl
@[simp] theorem State.withImg_pwr (s : State) (x : Img) : (s.withImg x).pwr = s.pwr := rfl
@[simp] theorem State.withImg_outbox (s : State) (x : Img) : (s.withImg x).outbox = s.outbox := rfl
@[simp] theorem State.withImg_pending (s : State) (x : Img) : (s.withImg x).pending = s.pending := rfl
@[simp] theorem State.withGns_gns (s : State) (x : Gns) : (s.withGns x).gns = x := rfl
@[simp] theorem State.withGns_clk (s : State) (x : Gns) : (s.withGns x).clk = s.clk := rfl
@[simp] theorem State.withGns_crs (s : State) (x : Gns) : (s.withGns x).crs = s.crs := rfl
@[simp] theorem State.withGns_evt (s : State) (x : Gns) : (s.withGns x).evt = s.evt := rfl
@[simp] theorem State.withGns_hrg (s : State) (x : Gns) : (s.withGns x).hrg = s.hrg := rfl
@[simp] theorem State.withGns_img (s : State) (x : Gns) : (s.withGns x).img = s.img := rfl
@[simp] theorem State.withGns_pnt (s : State) (x : Gns) : (s.withGns x).pnt = s.pnt := rfl
@[simp] theorem State.withGns_regs (s : State) (x : Gns) : (s.withGns x).regs = s.regs := rfl
@[simp] theorem State.withGns_sni (s : State) (x : Gns) : (s.withGns x).sni = s.sni := rfl
@[simp] theorem State.withGns_est (s : State) (x : Gns) : (s.withGns x).est = s.est := rfl
@[simp] theorem State.withGns_ctl (s : State) (x : Gns) : (s.withGns x).ctl = s.ctl := rfl
@[simp] theorem State.withGns_alloc (s : State) (x : Gns) : (s.withGns x).alloc = s.alloc := rfl
@[simp] theorem State.withGns_csq (s : State) (x : Gns) : (s.withGns x).csq = s.csq := rfl
@[simp] theorem State.withGns_trim (s : State) (x : Gns) : (s.withGns x).trim = s.trim := rfl
@[simp] theorem State.withGns_vsl (s : State) (x : Gns) : (s.withGns x).vsl = s.vsl := rfl
@[simp] theorem State.withGns_tim (s : State) (x : Gns) : (s.withGns x).tim = s.tim := rfl
@[simp] theorem State.withGns_rdn (s : State) (x : Gns) : (s.withGns x).rdn = s.rdn := rfl
@[simp] theorem State.withGns_btr (s : State) (x : Gns) : (s.withGns x).btr = s.btr := rfl
@[simp] theorem State.withGns_can (s : State) (x : Gns) : (s.withGns x).can = s.can := rfl
@[simp] theorem State.withGns_ylk (s : State) (x : Gns) : (s.withGns x).ylk = s.ylk := rfl
@[simp] theorem State.withGns_log (s : State) (x : Gns) : (s.withGns x).log = s.log := rfl
@[simp] theorem State.withGns_mem (s : State) (x : Gns) : (s.withGns x).mem = s.mem := rfl
@[simp] theorem State.withGns_glb (s : State) (x : Gns) : (s.withGns x).glb = s.glb := rfl
@[simp] theorem State.withGns_sec (s : State) (x : Gns) : (s.withGns x).sec = s.sec := rfl
@[simp] theorem State.withGns_pwr (s : State) (x : Gns) : (s.withGns x).pwr = s.pwr := rfl
@[simp] theorem State.withGns_outbox (s : State) (x : Gns) : (s.withGns x).outbox = s.outbox := rfl
@[simp] theorem State.withGns_pending (s : State) (x : Gns) : (s.withGns x).pending = s.pending := rfl
@[simp] theorem State.withPnt_pnt (s : State) (x : Pnt) : (s.withPnt x).pnt = x := rfl
@[simp] theorem State.withPnt_clk (s : State) (x : Pnt) : (s.withPnt x).clk = s.clk := rfl
@[simp] theorem State.withPnt_crs (s : State) (x : Pnt) : (s.withPnt x).crs = s.crs := rfl
@[simp] theorem State.withPnt_evt (s : State) (x : Pnt) : (s.withPnt x).evt = s.evt := rfl
@[simp] theorem State.withPnt_hrg (s : State) (x : Pnt) : (s.withPnt x).hrg = s.hrg := rfl
@[simp] theorem State.withPnt_img (s : State) (x : Pnt) : (s.withPnt x).img = s.img := rfl
@[simp] theorem State.withPnt_gns (s : State) (x : Pnt) : (s.withPnt x).gns = s.gns := rfl
@[simp] theorem State.withPnt_regs (s : State) (x : Pnt) : (s.withPnt x).regs = s.regs := rfl
@[simp] theorem State.withPnt_sni (s : State) (x : Pnt) : (s.withPnt x).sni = s.sni := rfl
@[simp] theorem State.withPnt_est (s : State) (x : Pnt) : (s.withPnt x).est = s.est := rfl
@[simp] theorem State.withPnt_ctl (s : State) (x : Pnt) : (s.withPnt x).ctl = s.ctl := rfl
@[simp] theorem State.withPnt_alloc (s : State) (x : Pnt) : (s.withPnt x).alloc = s.alloc := rfl
@[simp] theorem State.withPnt_csq (s : State) (x : Pnt) : (s.withPnt x).csq = s.csq := rfl
@[simp] theorem State.withPnt_trim (s : State) (x : Pnt) : (s.withPnt x).trim = s.trim := rfl
@[simp] theorem State.withPnt_vsl (s : State) (x : Pnt) : (s.withPnt x).vsl = s.vsl := rfl
@[simp] theorem State.withPnt_tim (s : State) (x : Pnt) : (s.withPnt x).tim = s.tim := rfl
@[simp] theorem State.withPnt_rdn (s : State) (x : Pnt) : (s.withPnt x).rdn = s.rdn := rfl
@[simp] theorem State.withPnt_btr (s : State) (x : Pnt) : (s.withPnt x).btr = s.btr := rfl
@[simp] theorem State.withPnt_can (s : State) (x : Pnt) : (s.withPnt x).can = s.can := rfl
@[simp] theorem State.withPnt_ylk (s : State) (x : Pnt) : (s.withPnt x).ylk = s.ylk := rfl
@[simp] theorem State.withPnt_log (s : State) (x : Pnt) : (s.withPnt x).log = s.log := rfl
@[simp] theorem State.withPnt_mem (s : State) (x : Pnt) : (s.withPnt x).mem = s.mem := rfl
@[simp] theorem State.withPnt_glb (s : State) (x : Pnt) : (s.withPnt x).glb = s.glb := rfl
@[simp] theorem State.withPnt_sec (s : State) (x : Pnt) : (s.withPnt x).sec = s.sec := rfl
@[simp] theorem State.withPnt_pwr (s : State) (x : Pnt) : (s.withPnt x).pwr = s.pwr := rfl
@[simp] theorem State.withPnt_outbox (s : State) (x : Pnt) : (s.withPnt x).outbox = s.outbox := rfl
@[simp] theorem State.withPnt_pending (s : State) (x : Pnt) : (s.withPnt x).pending = s.pending := rfl
@[simp] theorem State.withRegs_regs (s : State) (x : Regs) : (s.withRegs x).regs = x := rfl
@[simp] theorem State.withRegs_clk (s : State) (x : Regs) : (s.withRegs x).clk = s.clk := rfl
@[simp] theorem State.withRegs_crs (s : State) (x : Regs) : (s.withRegs x).crs = s.crs := rfl
@[simp] theorem State.withRegs_evt (s : State) (x : Regs) : (s.withRegs x).evt = s.evt := rfl
@[simp] theorem State.withRegs_hrg (s : State) (x : Regs) : (s.withRegs x).hrg = s.hrg := rfl
@[simp] theorem State.withRegs_img (s : State) (x : Regs) : (s.withRegs x).img = s.img := rfl
@[simp] theorem State.withRegs_gns (s : State) (x : Regs) : (s.withRegs x).gns = s.gns := rfl
@[simp] theorem State.withRegs_pnt (s : State) (x : Regs) : (s.withRegs x).pnt = s.pnt := rfl
@[simp] theorem State.withRegs_sni (s : State) (x : Regs) : (s.withRegs x).sni = s.sni := rfl
@[simp] theorem State.withRegs_est (s : State) (x : Regs) : (s.withRegs x).est = s.est := rfl
@[simp] theorem State.withRegs_ctl (s : State) (x : Regs) : (s.withRegs x).ctl = s.ctl := rfl
@[simp] theorem State.withRegs_alloc (s : State) (x : Regs) : (s.withRegs x).alloc = s.alloc := rfl
@[simp] theorem State.withRegs_csq (s : State) (x : Regs) : (s.withRegs x).csq = s.csq := rfl
@[simp] theorem State.withRegs_trim (s : State) (x : Regs) : (s.withRegs x).trim = s.trim := rfl
@[simp] theorem State.withRegs_vsl (s : State) (x : Regs) : (s.withRegs x).vsl = s.vsl := rfl
@[simp] theorem State.withRegs_tim (s : State) (x : Regs) : (s.withRegs x).tim = s.tim := rfl
@[simp] theorem State.withRegs_rdn (s : State) (x : Regs) : (s.withRegs x).rdn = s.rdn := rfl
@[simp] theorem State.withRegs_btr (s : State) (x : Regs) : (s.withRegs x).btr = s.btr := rfl
@[simp] theorem State.withRegs_can (s : State) (x : Regs) : (s.withRegs x).can = s.can := rfl
@[simp] theorem State.withRegs_ylk (s : State) (x : Regs) : (s.withRegs x).ylk = s.ylk := rfl
@[simp] theorem State.withRegs_log (s : State) (x : Regs) : (s.withRegs x).log = s.log := rfl
@[simp] theorem State.withRegs_mem (s : State) (x : Regs) : (s.withRegs x).mem = s.mem := rfl
@[simp] theorem State.withRegs_glb (s : State) (x : Regs) : (s.withRegs x).glb = s.glb := rfl
@[simp] theorem State.withRegs_sec (s : State) (x : Regs) : (s.withRegs x).sec = s.sec := rfl
@[simp] theorem State.withRegs_pwr (s : State) (x : Regs) : (s.withRegs x).pwr = s.pwr := rfl
@[simp] theorem State.withRegs_outbox (s : State) (x : Regs) : (s.withRegs x).outbox = s.outbox := rfl
@[simp] theorem State.withRegs_pending (s : State) (x : Regs) : (s.withRegs x).pending = s.pending := rfl
@[simp] theorem State.withSni_sni (s : State) (x : Sni) : (s.withSni x).sni = x := rfl
@[simp] theorem State.withSni_clk (s : State) (x : Sni) : (s.withSni x).clk = s.clk := rfl
@[simp] theorem State.withSni_crs (s : State) (x : Sni) : (s.withSni x).crs = s.crs := rfl
@[simp] theorem State.withSni_evt (s : State) (x : Sni) : (s.withSni x).evt = s.evt := rfl
@[simp] theorem State.withSni_hrg (s : State) (x : Sni) : (s.withSni x).hrg = s.hrg := rfl
@[simp] theorem State.withSni_img (s : State) (x : Sni) : (s.withSni x).img = s.img := rfl
@[simp] theorem State.withSni_gns (s : State) (x : Sni) : (s.withSni x).gns = s.gns := rfl
@[simp] theorem State.withSni_pnt (s : State) (x : Sni) : (s.withSni x).pnt = s.pnt := rfl
@[simp] theorem State.withSni_regs (s : State) (x : Sni) : (s.withSni x).regs = s.regs := rfl
@[simp] theorem State.withSni_est (s : State) (x : Sni) : (s.withSni x).est = s.est := rfl
@[simp] theorem State.withSni_ctl (s : State) (x : Sni) : (s.withSni x).ctl = s.ctl := rfl
@[simp] theorem State.withSni_alloc (s : State) (x : Sni) : (s.withSni x).alloc = s.alloc := rfl
@[simp] theorem State.withSni_csq (s : State) (x : Sni) : (s.withSni x).csq = s.csq := rfl
@[simp] theorem State.withSni_trim (s : State) (x : Sni) : (s.withSni x).trim = s.trim := rfl
@[simp] theorem State.withSni_vsl (s : State) (x : Sni) : (s.withSni x).vsl = s.vsl := rfl
@[simp] theorem State.withSni_tim (s : State) (x : Sni) : (s.withSni x).tim = s.tim := rfl
@[simp] theorem State.withSni_rdn (s : State) (x : Sni) : (s.withSni x).rdn = s.rdn := rfl
@[simp] theorem State.withSni_btr (s : State) (x : Sni) : (s.withSni x).btr = s.btr := rfl
@[simp] theorem State.withSni_can (s : State) (x : Sni) : (s.withSni x).can = s.can := rfl
@[simp] theorem State.withSni_ylk (s : State) (x : Sni) : (s.withSni x).ylk = s.ylk := rfl
@[simp] theorem State.withSni_log (s : State) (x : Sni) : (s.withSni x).log = s.log := rfl
@[simp] theorem State.withSni_mem (s : State) (x : Sni) : (s.withSni x).mem = s.mem := rfl
@[simp] theorem State.withSni_glb (s : State) (x : Sni) : (s.withSni x).glb = s.glb := rfl
@[simp] theorem State.withSni_sec (s : State) (x : Sni) : (s.withSni x).sec = s.sec := rfl
@[simp] theorem State.withSni_pwr (s : State) (x : Sni) : (s.withSni x).pwr = s.pwr := rfl
@[simp] theorem State.withSni_outbox (s : State) (x : Sni) : (s.withSni x).outbox = s.outbox := rfl
@[simp] theorem State.withSni_pending (s : State) (x : Sni) : (s.withSni x).pending = s.pending := rfl
@[simp] theorem State.withEst_est (s : State) (x : Est) : (s.withEst x).est = x := rfl
@[simp] theorem State.withEst_clk (s : State) (x : Est) : (s.withEst x).clk = s.clk := rfl
@[simp] theorem State.withEst_crs (s : State) (x : Est) : (s.withEst x).crs = s.crs := rfl
@[simp] theorem State.withEst_evt (s : State) (x : Est) : (s.withEst x).evt = s.evt := rfl
@[simp] theorem State.withEst_hrg (s : State) (x : Est) : (s.withEst x).hrg = s.hrg := rfl
@[simp] theorem State.withEst_img (s : State) (x : Est) : (s.withEst x).img = s.img := rfl
@[simp] theorem State.withEst_gns (s : State) (x : Est) : (s.withEst x).gns = s.gns := rfl
@[simp] theorem State.withEst_pnt (s : State) (x : Est) : (s.withEst x).pnt = s.pnt := rfl
@[simp] theorem State.withEst_regs (s : State) (x : Est) : (s.withEst x).regs = s.regs := rfl
@[simp] theorem State.withEst_sni (s : State) (x : Est) : (s.withEst x).sni = s.sni := rfl
@[simp] theorem State.withEst_ctl (s : State) (x : Est) : (s.withEst x).ctl = s.ctl := rfl
@[simp] theorem State.withEst_alloc (s : State) (x : Est) : (s.withEst x).alloc = s.alloc := rfl
@[simp] theorem State.withEst_csq (s : State) (x : Est) : (s.withEst x).csq = s.csq := rfl
@[simp] theorem State.withEst_trim (s : State) (x : Est) : (s.withEst x).trim = s.trim := rfl
@[simp] theorem State.withEst_vsl (s : State) (x : Est) : (s.withEst x).vsl = s.vsl := rfl
@[simp] theorem State.withEst_tim (s : State) (x : Est) : (s.withEst x).tim = s.tim := rfl
@[simp] theorem State.withEst_rdn (s : State) (x : Est) : (s.withEst x).rdn = s.rdn := rfl
@[simp] theorem State.withEst_btr (s : State) (x : Est) : (s.withEst x).btr = s.btr := rfl
@[simp] theorem State.withEst_can (s : State) (x : Est) : (s.withEst x).can = s.can := rfl
@[simp] theorem State.withEst_ylk (s : State) (x : Est) : (s.withEst x).ylk = s.ylk := rfl
@[simp] theorem State.withEst_log (s : State) (x : Est) : (s.withEst x).log = s.log := rfl
@[simp] theorem State.withEst_mem (s : State) (x : Est) : (s.withEst x).mem = s.mem := rfl
@[simp] theorem State.withEst_glb (s : State) (x : Est) : (s.withEst x).glb = s.glb := rfl
@[simp] theorem State.withEst_sec (s : State) (x : Est) : (s.withEst x).sec = s.sec := rfl
@[simp] theorem State.withEst_pwr (s : State) (x : Est) : (s.withEst x).pwr = s.pwr := rfl
@[simp] theorem State.withEst_outbox (s : State) (x : Est) : (s.withEst x).outbox = s.outbox := rfl
@[simp] theorem State.withEst_pending (s : State) (x : Est) : (s.withEst x).pending = s.pending := rfl
@[simp] theorem State.withCtl_ctl (s : State) (x : Ctl) : (s.withCtl x).ctl = x := rfl
@[simp] theorem State.withCtl_clk (s : State) (x : Ctl) : (s.withCtl x).clk = s.clk := rfl
@[simp] theorem State.withCtl_crs (s : State) (x : Ctl) : (s.withCtl x).crs = s.crs := rfl
@[simp] theorem State.withCtl_evt (s : State) (x : Ctl) : (s.withCtl x).evt = s.evt := rfl
@[simp] theorem State.withCtl_hrg (s : State) (x : Ctl) : (s.withCtl x).hrg = s.hrg := rfl
@[simp] theorem State.withCtl_img (s : State) (x : Ctl) : (s.withCtl x).img = s.img := rfl
@[simp] theorem State.withCtl_gns (s : State) (x : Ctl) : (s.withCtl x).gns = s.gns := rfl
@[simp] theorem State.withCtl_pnt (s : State) (x : Ctl) : (s.withCtl x).pnt = s.pnt := rfl
@[simp] theorem State.withCtl_regs (s : State) (x : Ctl) : (s.withCtl x).regs = s.regs := rfl
@[simp] theorem State.withCtl_sni (s : State) (x : Ctl) : (s.withCtl x).sni = s.sni := rfl
@[simp] theorem State.withCtl_est (s : State) (x : Ctl) : (s.withCtl x).est = s.est := rfl
@[simp] theorem State.withCtl_alloc (s : State) (x : Ctl) : (s.withCtl x).alloc = s.alloc := rfl
@[simp] theorem State.withCtl_csq (s : State) (x : Ctl) : (s.withCtl x).csq = s.csq := rfl
@[simp] theorem State.withCtl_trim (s : State) (x : Ctl) : (s.withCtl x).trim = s.trim := rfl
@[simp] theorem State.withCtl_vsl (s : State) (x : Ctl) : (s.withCtl x).vsl = s.vsl := rfl
@[simp] theorem State.withCtl_tim (s : State) (x : Ctl) : (s.withCtl x).tim = s.tim := rfl
@[simp] theorem State.withCtl_rdn (s : State) (x : Ctl) : (s.withCtl x).rdn = s.rdn := rfl
@[simp] theorem State.withCtl_btr (s : State) (x : Ctl) : (s.withCtl x).btr = s.btr := rfl
@[simp] theorem State.withCtl_can (s : State) (x : Ctl) : (s.withCtl x).can = s.can := rfl
@[simp] theorem State.withCtl_ylk (s : State) (x : Ctl) : (s.withCtl x).ylk = s.ylk := rfl
@[simp] theorem State.withCtl_log (s : State) (x : Ctl) : (s.withCtl x).log = s.log := rfl
@[simp] theorem State.withCtl_mem (s : State) (x : Ctl) : (s.withCtl x).mem = s.mem := rfl
@[simp] theorem State.withCtl_glb (s : State) (x : Ctl) : (s.withCtl x).glb = s.glb := rfl
@[simp] theorem State.withCtl_sec (s : State) (x : Ctl) : (s.withCtl x).sec = s.sec := rfl
@[simp] theorem State.withCtl_pwr (s : State) (x : Ctl) : (s.withCtl x).pwr = s.pwr := rfl
@[simp] theorem State.withCtl_outbox (s : State) (x : Ctl) : (s.withCtl x).outbox = s.outbox := rfl
@[simp] theorem State.withCtl_pending (s : State) (x : Ctl) : (s.withCtl x).pending = s.pending := rfl
@[simp] theorem State.withAlloc_alloc (s : State) (x : Alloc) : (s.withAlloc x).alloc = x := rfl
@[simp] theorem State.withAlloc_clk (s : State) (x : Alloc) : (s.withAlloc x).clk = s.clk := rfl
@[simp] theorem State.withAlloc_crs (s : State) (x : Alloc) : (s.withAlloc x).crs = s.crs := rfl
@[simp] theorem State.withAlloc_evt (s : State) (x : Alloc) : (s.withAlloc x).evt = s.evt := rfl
@[simp] theorem State.withAlloc_hrg (s : State) (x : Alloc) : (s.withAlloc x).hrg = s.hrg := rfl
@[simp] theorem State.withAlloc_img (s : State) (x : Alloc) : (s.withAlloc x).img = s.img := rfl
@[simp] theorem State.withAlloc_gns (s : State) (x : Alloc) : (s.withAlloc x).gns = s.gns := rfl
@[simp] theorem State.withAlloc_pnt (s : State) (x : Alloc) : (s.withAlloc x).pnt = s.pnt := rfl
@[simp] theorem State.withAlloc_regs (s : State) (x : Alloc) : (s.withAlloc x).regs = s.regs := rfl
@[simp] theorem State.withAlloc_sni (s : State) (x : Alloc) : (s.withAlloc x).sni = s.sni := rfl
@[simp] theorem State.withAlloc_est (s : State) (x : Alloc) : (s.withAlloc x).est = s.est := rfl
@[simp] theorem State.withAlloc_ctl (s : State) (x : Alloc) : (s.withAlloc x).ctl = s.ctl := rfl
@[simp] theorem State.withAlloc_csq (s : State) (x : Alloc) : (s.withAlloc x).csq = s.csq := rfl
@[simp] theorem State.withAlloc_trim (s : State) (x : Alloc) : (s.withAlloc x).trim = s.trim := rfl
@[simp] theorem State.withAlloc_vsl (s : State) (x : Alloc) : (s.withAlloc x).vsl = s.vsl := rfl
@[simp] theorem State.withAlloc_tim (s : State) (x : Alloc) : (s.withAlloc x).tim = s.tim := rfl
@[simp] theorem State.withAlloc_rdn (s : State) (x : Alloc) : (s.withAlloc x).rdn = s.rdn := rfl
@[simp] theorem State.withAlloc_btr (s : State) (x : Alloc) : (s.withAlloc x).btr = s.btr := rfl
@[simp] theorem State.withAlloc_can (s : State) (x : Alloc) : (s.withAlloc x).can = s.can := rfl
@[simp] theorem State.withAlloc_ylk (s : State) (x : Alloc) : (s.withAlloc x).ylk = s.ylk := rfl
@[simp] theorem State.withAlloc_log (s : State) (x : Alloc) : (s.withAlloc x).log = s.log := rfl
@[simp] theorem State.withAlloc_mem (s : State) (x : Alloc) : (s.withAlloc x).mem = s.mem := rfl
@[simp] theorem State.withAlloc_glb (s : State) (x : Alloc) : (s.withAlloc x).glb = s.glb := rfl
@[simp] theorem State.withAlloc_sec (s : State) (x : Alloc) : (s.withAlloc x).sec = s.sec := rfl
@[simp] theorem State.withAlloc_pwr (s : State) (x : Alloc) : (s.withAlloc x).pwr = s.pwr := rfl
@[simp] theorem State.withAlloc_outbox (s : State) (x : Alloc) : (s.withAlloc x).outbox = s.outbox := rfl
@[simp] theorem State.withAlloc_pending (s : State) (x : Alloc) : (s.withAlloc x).pending = s.pending := rfl
@[simp] theorem State.withCsq_csq (s : State) (x : Csq) : (s.withCsq x).csq = x := rfl
@[simp] theorem State.withCsq_clk (s : State) (x : Csq) : (s.withCsq x).clk = s.clk := rfl
@[simp] theorem State.withCsq_crs (s : State) (x : Csq) : (s.withCsq x).crs = s.crs := rfl
@[simp] theorem State.withCsq_evt (s : State) (x : Csq) : (s.withCsq x).evt = s.evt := rfl
@[simp] theorem State.withCsq_hrg (s : State) (x : Csq) : (s.withCsq x).hrg = s.hrg := rfl
@[simp] theorem State.withCsq_img (s : State) (x : Csq) : (s.withCsq x).img = s.img := rfl
@[simp] theorem State.withCsq_gns (s : State) (x : Csq) : (s.withCsq x).gns = s.gns := rfl
@[simp] theorem State.withCsq_pnt (s : State) (x : Csq) : (s.withCsq x).pnt = s.pnt := rfl
@[simp] theorem State.withCsq_regs (s : State) (x : Csq) : (s.withCsq x).regs = s.regs := rfl
@[simp] theorem State.withCsq_sni (s : State) (x : Csq) : (s.withCsq x).sni = s.sni := rfl
@[simp] theorem State.withCsq_est (s : State) (x : Csq) : (s.withCsq x).est = s.est := rfl
@[simp] theorem State.withCsq_ctl (s : State) (x : Csq) : (s.withCsq x).ctl = s.ctl := rfl
@[simp] theorem State.withCsq_alloc (s : State) (x : Csq) : (s.withCsq x).alloc = s.alloc := rfl
@[simp] theorem State.withCsq_trim (s : State) (x : Csq) : (s.withCsq x).trim = s.trim := rfl
@[simp] theorem State.withCsq_vsl (s : State) (x : Csq) : (s.withCsq x).vsl = s.vsl := rfl
@[simp] theorem State.withCsq_tim (s : State) (x : Csq) : (s.withCsq x).tim = s.tim := rfl
@[simp] theorem State.withCsq_rdn (s : State) (x : Csq) : (s.withCsq x).rdn = s.rdn := rfl
@[simp] theorem State.withCsq_btr (s : State) (x : Csq) : (s.withCsq x).btr = s.btr := rfl
@[simp] theorem State.withCsq_can (s : State) (x : Csq) : (s.withCsq x).can = s.can := rfl
@[simp] theorem State.withCsq_ylk (s : State) (x : Csq) : (s.withCsq x).ylk = s.ylk := rfl
@[simp] theorem State.withCsq_log (s : State) (x : Csq) : (s.withCsq x).log = s.log := rfl
@[simp] theorem State.withCsq_mem (s : State) (x : Csq) : (s.withCsq x).mem = s.mem := rfl
@[simp] theorem State.withCsq_glb (s : State) (x : Csq) : (s.withCsq x).glb = s.glb := rfl
@[simp] theorem State.withCsq_sec (s : State) (x : Csq) : (s.withCsq x).sec = s.sec := rfl
@[simp] theorem State.withCsq_pwr (s : State) (x : Csq) : (s.withCsq x).pwr = s.pwr := rfl
@[simp] theorem State.withCsq_outbox (s : State) (x : Csq) : (s.withCsq x).outbox = s.outbox := rfl
@[simp] theorem State.withCsq_pending (s : State) (x : Csq) : (s.withCsq x).pending = s.pending := rfl
@[simp] theorem State.withTrim_trim (s : State) (x : Trim) : (s.withTrim x).trim = x := rfl
@[simp] theorem State.withTrim_clk (s : State) (x : Trim) : (s.withTrim x).clk = s.clk := rfl
@[simp] theorem State.withTrim_crs (s : State) (x : Trim) : (s.withTrim x).crs = s.crs := rfl
@[simp] theorem State.withTrim_evt (s : State) (x : Trim) : (s.withTrim x).evt = s.evt := rfl
@[simp] theorem State.withTrim_hrg (s : State) (x : Trim) : (s.withTrim x).hrg = s.hrg := rfl
@[simp] theorem State.withTrim_img (s : State) (x : Trim) : (s.withTrim x).img = s.img := rfl
@[simp] theorem State.withTrim_gns (s : State) (x : Trim) : (s.withTrim x).gns = s.gns := rfl
@[simp] theorem State.withTrim_pnt (s : State) (x : Trim) : (s.withTrim x).pnt = s.pnt := rfl
@[simp] theorem State.withTrim_regs (s : State) (x : Trim) : (s.withTrim x).regs = s.regs := rfl
@[simp] theorem State.withTrim_sni (s : State) (x : Trim) : (s.withTrim x).sni = s.sni := rfl
@[simp] theorem State.withTrim_est (s : State) (x : Trim) : (s.withTrim x).est = s.est := rfl
@[simp] theorem State.withTrim_ctl (s : State) (x : Trim) : (s.withTrim x).ctl = s.ctl := rfl
@[simp] theorem State.withTrim_alloc (s : State) (x : Trim) : (s.withTrim x).alloc = s.alloc := rfl
@[simp] theorem State.withTrim_csq (s : State) (x : Trim) : (s.withTrim x).csq = s.csq := rfl
@[simp] theorem State.withTrim_vsl (s : State) (x : Trim) : (s.withTrim x).vsl = s.vsl := rfl
@[simp] theorem State.withTrim_tim (s : State) (x : Trim) : (s.withTrim x).tim = s.tim := rfl
@[simp] theorem State.withTrim_rdn (s : State) (x : Trim) : (s.withTrim x).rdn = s.rdn := rfl
@[simp] theorem State.withTrim_btr (s : State) (x : Trim) : (s.withTrim x).btr = s.btr := rfl
@[simp] theorem State.withTrim_can (s : State) (x : Trim) : (s.withTrim x).can = s.can := rfl
@[simp] theorem State.withTrim_ylk (s : State) (x : Trim) : (s.withTrim x).ylk = s.ylk := rfl
@[simp] theorem State.withTrim_log (s : State) (x : Trim) : (s.withTrim x).log = s.log := rfl
@[simp] theorem State.withTrim_mem (s : State) (x : Trim) : (s.withTrim x).mem = s.mem := rfl
@[simp] theorem State.withTrim_glb (s : State) (x : Trim) : (s.withTrim x).glb = s.glb := rfl
@[simp] theorem State.withTrim_sec (s : State) (x : Trim) : (s.withTrim x).sec = s.sec := rfl
@[simp] theorem State.withTrim_pwr (s : State) (x : Trim) : (s.withTrim x).pwr = s.pwr := rfl
@[simp] theorem State.withTrim_outbox (s : State) (x : Trim) : (s.withTrim x).outbox = s.outbox := rfl
@[simp] theorem State.withTrim_pending (s : State) (x : Trim) : (s.withTrim x).pending = s.pending := rfl
@[simp] theorem State.withVsl_vsl (s : State) (x : Vsl) : (s.withVsl x).vsl = x := rfl
@[simp] theorem State.withVsl_clk (s : State) (x : Vsl) : (s.withVsl x).clk = s.clk := rfl
@[simp] theorem State.withVsl_crs (s : State) (x : Vsl) : (s.withVsl x).crs = s.crs := rfl
@[simp] theorem State.withVsl_evt (s : State) (x : Vsl) : (s.withVsl x).evt = s.evt := rfl
@[simp] theorem State.withVsl_hrg (s : State) (x : Vsl) : (s.withVsl x).hrg = s.hrg := rfl
@[simp] theorem State.withVsl_img (s : State) (x : Vsl) : (s.withVsl x).img = s.img := rfl
@[simp] theorem State.withVsl_gns (s : State) (x : Vsl) : (s.withVsl x).gns = s.gns := rfl
@[simp] theorem State.withVsl_pnt (s : State) (x : Vsl) : (s.withVsl x).pnt = s.pnt := rfl
@[simp] theorem State.withVsl_regs (s : State) (x : Vsl) : (s.withVsl x).regs = s.regs := rfl
@[simp] theorem State.withVsl_sni (s : State) (x : Vsl) : (s.withVsl x).sni = s.sni := rfl
@[simp] theorem State.withVsl_est (s : State) (x : Vsl) : (s.withVsl x).est = s.est := rfl
@[simp] theorem State.withVsl_ctl (s : State) (x : Vsl) : (s.withVsl x).ctl = s.ctl := rfl
@[simp] theorem State.withVsl_alloc (s : State) (x : Vsl) : (s.withVsl x).alloc = s.alloc := rfl
@[simp] theorem State.withVsl_csq (s : State) (x : Vsl) : (s.withVsl x).csq = s.csq := rfl
@[simp] theorem State.withVsl_trim (s : State) (x : Vsl) : (s.withVsl x).trim = s.trim := rfl
@[simp] theorem State.withVsl_tim (s : State) (x : Vsl) : (s.withVsl x).tim = s.tim := rfl
@[simp] theorem State.withVsl_rdn (s : State) (x : Vsl) : (s.withVsl x).rdn = s.rdn := rfl
@[simp] theorem State.withVsl_btr (s : State) (x : Vsl) : (s.withVsl x).btr = s.btr := rfl
@[simp] theorem State.withVsl_can (s : State) (x : Vsl) : (s.withVsl x).can = s.can := rfl
@[simp] theorem State.withVsl_ylk (s : State) (x : Vsl) : (s.withVsl x).ylk = s.ylk := rfl
@[simp] theorem State.withVsl_log (s : State) (x : Vsl) : (s.withVsl x).log = s.log := rfl
@[simp] theorem State.withVsl_mem (s : State) (x : Vsl) : (s.withVsl x).mem = s.mem := rfl
@[simp] theorem State.withVsl_glb (s : State) (x : Vsl) : (s.withVsl x).glb = s.glb := rfl
@[simp] theorem State.withVsl_sec (s : State) (x : Vsl) : (s.withVsl x).sec = s.sec := rfl
@[simp] theorem State.withVsl_pwr (s : State) (x : Vsl) : (s.withVsl x).pwr = s.pwr := rfl
@[simp] theorem State.withVsl_outbox (s : State) (x : Vsl) : (s.withVsl x).outbox = s.outbox := rfl
@[simp] theorem State.withVsl_pending (s : State) (x : Vsl) : (s.withVsl x).pending = s.pending := rfl
@[simp] theorem State.withTim_tim (s : State) (x : Tim) : (s.withTim x).tim = x := rfl
@[simp] theorem State.withTim_clk (s : State) (x : Tim) : (s.withTim x).clk = s.clk := rfl
@[simp] theorem State.withTim_crs (s : State) (x : Tim) : (s.withTim x).crs = s.crs := rfl
@[simp] theorem State.withTim_evt (s : State) (x : Tim) : (s.withTim x).evt = s.evt := rfl
@[simp] theorem State.withTim_hrg (s : State) (x : Tim) : (s.withTim x).hrg = s.hrg := rfl
@[simp] theorem State.withTim_img (s : State) (x : Tim) : (s.withTim x).img = s.img := rfl
@[simp] theorem State.withTim_gns (s : State) (x : Tim) : (s.withTim x).gns = s.gns := rfl
@[simp] theorem State.withTim_pnt (s : State) (x : Tim) : (s.withTim x).pnt = s.pnt := rfl
@[simp] theorem State.withTim_regs (s : State) (x : Tim) : (s.withTim x).regs = s.regs := rfl
@[simp] theorem State.withTim_sni (s : State) (x : Tim) : (s.withTim x).sni = s.sni := rfl
@[simp] theorem State.withTim_est (s : State) (x : Tim) : (s.withTim x).est = s.est := rfl
@[simp] theorem State.withTim_ctl (s : State) (x : Tim) : (s.withTim x).ctl = s.ctl := rfl
@[simp] theorem State.withTim_alloc (s : State) (x : Tim) : (s.withTim x).alloc = s.alloc := rfl
@[simp] theorem State.withTim_csq (s : State) (x : Tim) : (s.withTim x).csq = s.csq := rfl
@[simp] theorem State.withTim_trim (s : State) (x : Tim) : (s.withTim x).trim = s.trim := rfl
@[simp] theorem State.withTim_vsl (s : State) (x : Tim) : (s.withTim x).vsl = s.vsl := rfl
@[simp] theorem State.withTim_rdn (s : State) (x : Tim) : (s.withTim x).rdn = s.rdn := rfl
@[simp] theorem State.withTim_btr (s : State) (x : Tim) : (s.withTim x).btr = s.btr := rfl
@[simp] theorem State.withTim_can (s : State) (x : Tim) : (s.withTim x).can = s.can := rfl
@[simp] theorem State.withTim_ylk (s : State) (x : Tim) : (s.withTim x).ylk = s.ylk := rfl
@[simp] theorem State.withTim_log (s : State) (x : Tim) : (s.withTim x).log = s.log := rfl
@[simp] theorem State.withTim_mem (s : State) (x : Tim) : (s.withTim x).mem = s.mem := rfl
@[simp] theorem State.withTim_glb (s : State) (x : Tim) : (s.withTim x).glb = s.glb := rfl
@[simp] theorem State.withTim_sec (s : State) (x : Tim) : (s.withTim x).sec = s.sec := rfl
@[simp] theorem State.withTim_pwr (s : State) (x : Tim) : (s.withTim x).pwr = s.pwr := rfl
@[simp] theorem State.withTim_outbox (s : State) (x : Tim) : (s.withTim x).outbox = s.outbox := rfl
@[simp] theorem State.withTim_pending (s : State) (x : Tim) : (s.withTim x).pending = s.pending := rfl
@[simp] theorem State.withRdn_rdn (s : State) (x : Rdn) : (s.withRdn x).rdn = x := rfl
@[simp] theorem State.withRdn_clk (s : State) (x : Rdn) : (s.withRdn x).clk = s.clk := rfl
@[simp] theorem State.withRdn_crs (s : State) (x : Rdn) : (s.withRdn x).crs = s.crs := rfl
@[simp] theorem State.withRdn_evt (s : State) (x : Rdn) : (s.withRdn x).evt = s.evt := rfl
@[simp] theorem State.withRdn_hrg (s : State) (x : Rdn) : (s.withRdn x).hrg = s.hrg := rfl
@[simp] theorem State.withRdn_img (s : State) (x : Rdn) : (s.withRdn x).img = s.img := rfl
@[simp] theorem State.withRdn_gns (s : State) (x : Rdn) : (s.withRdn x).gns = s.gns := rfl
@[simp] theorem State.withRdn_pnt (s : State) (x : Rdn) : (s.withRdn x).pnt = s.pnt := rfl
@[simp] theorem State.withRdn_regs (s : State) (x : Rdn) : (s.withRdn x).regs = s.regs := rfl
@[simp] theorem State.withRdn_sni (s : State) (x : Rdn) : (s.withRdn x).sni = s.sni := rfl
@[simp] theorem State.withRdn_est (s : State) (x : Rdn) : (s.withRdn x).est = s.est := rfl
@[simp] theorem State.withRdn_ctl (s : State) (x : Rdn) : (s.withRdn x).ctl = s.ctl := rfl
@[simp] theorem State.withRdn_alloc (s : State) (x : Rdn) : (s.withRdn x).alloc = s.alloc := rfl
@[simp] theorem State.withRdn_csq (s : State) (x : Rdn) : (s.withRdn x).csq = s.csq := rfl
@[simp] theorem State.withRdn_trim (s : State) (x : Rdn) : (s.withRdn x).trim = s.trim := rfl
@[simp] theorem State.withRdn_vsl (s : State) (x : Rdn) : (s.withRdn x).vsl = s.vsl := rfl
@[simp] theorem State.withRdn_tim (s : State) (x : Rdn) : (s.withRdn x).tim = s.tim := rfl
@[simp] theorem State.withRdn_btr (s : State) (x : Rdn) : (s.withRdn x).btr = s.btr := rfl
@[simp] theorem State.withRdn_can (s : State) (x : Rdn) : (s.withRdn x).can = s.can := rfl
@[simp] theorem State.withRdn_ylk (s : State) (x : Rdn) : (s.withRdn x).ylk = s.ylk := rfl
@[simp] theorem State.withRdn_log (s : State) (x : Rdn) : (s.withRdn x).log = s.log := rfl
@[simp] theorem State.withRdn_mem (s : State) (x : Rdn) : (s.withRdn x).mem = s.mem := rfl
@[simp] theorem State.withRdn_glb (s : State) (x : Rdn) : (s.withRdn x).glb = s.glb := rfl
@[simp] theorem State.withRdn_sec (s : State) (x : Rdn) : (s.withRdn x).sec = s.sec := rfl
@[simp] theorem State.withRdn_pwr (s : State) (x : Rdn) : (s.withRdn x).pwr = s.pwr := rfl
@[simp] theorem State.withRdn_outbox (s : State) (x : Rdn) : (s.withRdn x).outbox = s.outbox := rfl
@[simp] theorem State.withRdn_pending (s : State) (x : Rdn) : (s.withRdn x).pending = s.pending := rfl
@[simp] theorem State.withBtr_btr (s : State) (x : Btr) : (s.withBtr x).btr = x := rfl
@[simp] theorem State.withBtr_clk (s : State) (x : Btr) : (s.withBtr x).clk = s.clk := rfl
@[simp] theorem State.withBtr_crs (s : State) (x : Btr) : (s.withBtr x).crs = s.crs := rfl
@[simp] theorem State.withBtr_evt (s : State) (x : Btr) : (s.withBtr x).evt = s.evt := rfl
@[simp] theorem State.withBtr_hrg (s : State) (x : Btr) : (s.withBtr x).hrg = s.hrg := rfl
@[simp] theorem State.withBtr_img (s : State) (x : Btr) : (s.withBtr x).img = s.img := rfl
@[simp] theorem State.withBtr_gns (s : State) (x : Btr) : (s.withBtr x).gns = s.gns := rfl
@[simp] theorem State.withBtr_pnt (s : State) (x : Btr) : (s.withBtr x).pnt = s.pnt := rfl
@[simp] theorem State.withBtr_regs (s : State) (x : Btr) : (s.withBtr x).regs = s.regs := rfl
@[simp] theorem State.withBtr_sni (s : State) (x : Btr) : (s.withBtr x).sni = s.sni := rfl
@[simp] theorem State.withBtr_est (s : State) (x : Btr) : (s.withBtr x).est = s.est := rfl
@[simp] theorem State.withBtr_ctl (s : State) (x : Btr) : (s.withBtr x).ctl = s.ctl := rfl
@[simp] theorem State.withBtr_alloc (s : State) (x : Btr) : (s.withBtr x).alloc = s.alloc := rfl
@[simp] theorem State.withBtr_csq (s : State) (x : Btr) : (s.withBtr x).csq = s.csq := rfl
@[simp] theorem State.withBtr_trim (s : State) (x : Btr) : (s.withBtr x).trim = s.trim := rfl
@[simp] theorem State.withBtr_vsl (s : State) (x : Btr) : (s.withBtr x).vsl = s.vsl := rfl
@[simp] theorem State.withBtr_tim (s : State) (x : Btr) : (s.withBtr x).tim = s.tim := rfl
@[simp] theorem State.withBtr_rdn (s : State) (x : Btr) : (s.withBtr x).rdn = s.rdn := rfl
@[simp] theorem State.withBtr_can (s : State) (x : Btr) : (s.withBtr x).can = s.can := rfl
@[simp] theorem State.withBtr_ylk (s : State) (x : Btr) : (s.withBtr x).ylk = s.ylk := rfl
@[simp] theorem State.withBtr_log (s : State) (x : Btr) : (s.withBtr x).log = s.log := rfl
@[simp] theorem State.withBtr_mem (s : State) (x : Btr) : (s.withBtr x).mem = s.mem := rfl
@[simp] theorem State.withBtr_glb (s : State) (x : Btr) : (s.withBtr x).glb = s.glb := rfl
@[simp] theorem State.withBtr_sec (s : State) (x : Btr) : (s.withBtr x).sec = s.sec := rfl
@[simp] theorem State.withBtr_pwr (s : State) (x : Btr) : (s.withBtr x).pwr = s.pwr := rfl
@[simp] theorem State.withBtr_outbox (s : State) (x : Btr) : (s.withBtr x).outbox = s.outbox := rfl
@[simp] theorem State.withBtr_pending (s : State) (x : Btr) : (s.withBtr x).pending = s.pending := rfl
@[simp] theorem State.withCan_can (s : State) (x : Can) : (s.withCan x).can = x := rfl
@[simp] theorem State.withCan_clk (s : State) (x : Can) : (s.withCan x).clk = s.clk := rfl
@[simp] theorem State.withCan_crs (s : State) (x : Can) : (s.withCan x).crs = s.crs := rfl
@[simp] theorem State.withCan_evt (s : State) (x : Can) : (s.withCan x).evt = s.evt := rfl
@[simp] theorem State.withCan_hrg (s : State) (x : Can) : (s.withCan x).hrg = s.hrg := rfl
@[simp] theorem State.withCan_img (s : State) (x : Can) : (s.withCan x).img = s.img := rfl
@[simp] theorem State.withCan_gns (s : State) (x : Can) : (s.withCan x).gns = s.gns := rfl
@[simp] theorem State.withCan_pnt (s : State) (x : Can) : (s.withCan x).pnt = s.pnt := rfl
@[simp] theorem State.withCan_regs (s : State) (x : Can) : (s.withCan x).regs = s.regs := rfl
@[simp] theorem State.withCan_sni (s : State) (x : Can) : (s.withCan x).sni = s.sni := rfl
@[simp] theorem State.withCan_est (s : State) (x : Can) : (s.withCan x).est = s.est := rfl
@[simp] theorem State.withCan_ctl (s : State) (x : Can) : (s.withCan x).ctl = s.ctl := rfl
@[simp] theorem State.withCan_alloc (s : State) (x : Can) : (s.withCan x).alloc = s.alloc := rfl
@[simp] theorem State.withCan_csq (s : State) (x : Can) : (s.withCan x).csq = s.csq := rfl
@[simp] theorem State.withCan_trim (s : State) (x : Can) : (s.withCan x).trim = s.trim := rfl
@[simp] theorem State.withCan_vsl (s : State) (x : Can) : (s.withCan x).vsl = s.vsl := rfl
@[simp] theorem State.withCan_tim (s : State) (x : Can) : (s.withCan x).tim = s.tim := rfl
@[simp] theorem State.withCan_rdn (s : State) (x : Can) : (s.withCan x).rdn = s.rdn := rfl
@[simp] theorem State.withCan_btr (s : State) (x : Can) : (s.withCan x).btr = s.btr := rfl
@[simp] theorem State.withCan_ylk (s : State) (x : Can) : (s.withCan x).ylk = s.ylk := rfl
@[simp] theorem State.withCan_log (s : State) (x : Can) : (s.withCan x).log = s.log := rfl
@[simp] theorem State.withCan_mem (s : State) (x : Can) : (s.withCan x).mem = s.mem := rfl
@[simp] theorem State.withCan_glb (s : State) (x : Can) : (s.withCan x).glb = s.glb := rfl
@[simp] theorem State.withCan_sec (s : State) (x : Can) : (s.withCan x).sec = s.sec := rfl
@[simp] theorem State.withCan_pwr (s : State) (x : Can) : (s.withCan x).pwr = s.pwr := rfl
@[simp] theorem State.withCan_outbox (s : State) (x : Can) : (s.withCan x).outbox = s.outbox := rfl
@[simp] theorem State.withCan_pending (s : State) (x : Can) : (s.withCan x).pending = s.pending := rfl
@[simp] theorem State.withYlk_ylk (s : State) (x : Ylk) : (s.withYlk x).ylk = x := rfl
@[simp] theorem State.withYlk_clk (s : State) (x : Ylk) : (s.withYlk x).clk = s.clk := rfl
@[simp] theorem State.withYlk_crs (s : State) (x : Ylk) : (s.withYlk x).crs = s.crs := rfl
@[simp] theorem State.withYlk_evt (s : State) (x : Ylk) : (s.withYlk x).evt = s.evt := rfl
@[simp] theorem State.withYlk_hrg (s : State) (x : Ylk) : (s.withYlk x).hrg = s.hrg := rfl
@[simp] theorem State.withYlk_img (s : State) (x : Ylk) : (s.withYlk x).img = s.img := rfl
@[simp] theorem State.withYlk_gns (s : State) (x : Ylk) : (s.withYlk x).gns = s.gns := rfl
@[simp] theorem State.withYlk_pnt (s : State) (x : Ylk) : (s.withYlk x).pnt = s.pnt := rfl
@[simp] theorem State.withYlk_regs (s : State) (x : Ylk) : (s.withYlk x).regs = s.regs := rfl
@[simp] theorem State.withYlk_sni (s : State) (x : Ylk) : (s.withYlk x).sni = s.sni := rfl
@[simp] theorem State.withYlk_est (s : State) (x : Ylk) : (s.withYlk x).est = s.est := rfl
@[simp] theorem State.withYlk_ctl (s : State) (x : Ylk) : (s.withYlk x).ctl = s.ctl := rfl
@[simp] theorem State.withYlk_alloc (s : State) (x : Ylk) : (s.withYlk x).alloc = s.alloc := rfl
@[simp] theorem State.withYlk_csq (s : State) (x : Ylk) : (s.withYlk x).csq = s.csq := rfl
@[simp] theorem State.withYlk_trim (s : State) (x : Ylk) : (s.withYlk x).trim = s.trim := rfl
@[simp] theorem State.withYlk_vsl (s : State) (x : Ylk) : (s.withYlk x).vsl = s.vsl := rfl
@[simp] theorem State.withYlk_tim (s : State) (x : Ylk) : (s.withYlk x).tim = s.tim := rfl
@[simp] theorem State.withYlk_rdn (s : State) (x : Ylk) : (s.withYlk x).rdn = s.rdn := rfl
@[simp] theorem State.withYlk_btr (s : State) (x : Ylk) : (s.withYlk x).btr = s.btr := rfl
@[simp] theorem State.withYlk_can (s : State) (x : Ylk) : (s.withYlk x).can = s.can := rfl
@[simp] theorem State.withYlk_log (s : State) (x : Ylk) : (s.withYlk x).log = s.log := rfl
@[simp] theorem State.withYlk_mem (s : State) (x : Ylk) : (s.withYlk x).mem = s.mem := rfl
@[simp] theorem State.withYlk_glb (s : State) (x : Ylk) : (s.withYlk x).glb = s.glb := rfl
@[simp] theorem State.withYlk_sec (s : State) (x : Ylk) : (s.withYlk x).sec = s.sec := rfl
@[simp] theorem State.withYlk_pwr (s : State) (x : Ylk) : (s.withYlk x).pwr = s.pwr := rfl
@[simp] theorem State.withYlk_outbox (s : State) (x : Ylk) : (s.withYlk x).outbox = s.outbox := rfl
@[simp] theorem State.withYlk_pending (s : State) (x : Ylk) : (s.withYlk x).pending = s.pending := rfl
@[simp] theorem State.withLog_log (s : State) (x : Log) : (s.withLog x).log = x := rfl
@[simp] theorem State.withLog_clk (s : State) (x : Log) : (s.withLog x).clk = s.clk := rfl
@[simp] theorem State.withLog_crs (s : State) (x : Log) : (s.withLog x).crs = s.crs := rfl
@[simp] theorem State.withLog_evt (s : State) (x : Log) : (s.withLog x).evt = s.evt := rfl
@[simp] theorem State.withLog_hrg (s : State) (x : Log) : (s.withLog x).hrg = s.hrg := rfl
@[simp] theorem State.withLog_img (s : State) (x : Log) : (s.withLog x).img = s.img := rfl
@[simp] theorem State.withLog_gns (s : State) (x : Log) : (s.withLog x).gns = s.gns := rfl
@[simp] theorem State.withLog_pnt (s : State) (x : Log) : (s.withLog x).pnt = s.pnt := rfl
@[simp] theorem State.withLog_regs (s : State) (x : Log) : (s.withLog x).regs = s.regs := rfl
@[simp] theorem State.withLog_sni (s : State) (x : Log) : (s.withLog x).sni = s.sni := rfl
@[simp] theorem State.withLog_est (s : State) (x : Log) : (s.withLog x).est = s.est := rfl
@[simp] theorem State.withLog_ctl (s : State) (x : Log) : (s.withLog x).ctl = s.ctl := rfl
@[simp] theorem State.withLog_alloc (s : State) (x : Log) : (s.withLog x).alloc = s.alloc := rfl
@[simp] theorem State.withLog_csq (s : State) (x : Log) : (s.withLog x).csq = s.csq := rfl
@[simp] theorem State.withLog_trim (s : State) (x : Log) : (s.withLog x).trim = s.trim := rfl
@[simp] theorem State.withLog_vsl (s : State) (x : Log) : (s.withLog x).vsl = s.vsl := rfl
@[simp] theorem State.withLog_tim (s : State) (x : Log) : (s.withLog x).tim = s.tim := rfl
@[simp] theorem State.withLog_rdn (s : State) (x : Log) : (s.withLog x).rdn = s.rdn := rfl
@[simp] theorem State.withLog_btr (s : State) (x : Log) : (s.withLog x).btr = s.btr := rfl
@[simp] theorem State.withLog_can (s : State) (x : Log) : (s.withLog x).can = s.can := rfl
@[simp] theorem State.withLog_ylk (s : State) (x : Log) : (s.withLog x).ylk = s.ylk := rfl
@[simp] theorem State.withLog_mem (s : State) (x : Log) : (s.withLog x).mem = s.mem := rfl
@[simp] theorem State.withLog_glb (s : State) (x : Log) : (s.withLog x).glb = s.glb := rfl
@[simp] theorem State.withLog_sec (s : State) (x : Log) : (s.withLog x).sec = s.sec := rfl
@[simp] theorem State.withLog_pwr (s : State) (x : Log) : (s.withLog x).pwr = s.pwr := rfl
@[simp] theorem State.withLog_outbox (s : State) (x : Log) : (s.withLog x).outbox = s.outbox := rfl
@[simp] theorem State.withLog_pending (s : State) (x : Log) : (s.withLog x).pending = s.pending := rfl
@[simp] theorem State.withMem_mem (s : State) (x : Mem) : (s.withMem x).mem = x := rfl
@[simp] theorem State.withMem_clk (s : State) (x : Mem) : (s.withMem x).clk = s.clk := rfl
@[simp] theorem State.withMem_crs (s : State) (x : Mem) : (s.withMem x).crs = s.crs := rfl
@[simp] theorem State.withMem_evt (s : State) (x : Mem) : (s.withMem x).evt = s.evt := rfl
@[simp] theorem State.withMem_hrg (s : State) (x : Mem) : (s.withMem x).hrg = s.hrg := rfl
@[simp] theorem State.withMem_img (s : State) (x : Mem) : (s.withMem x).img = s.img := rfl
@[simp] theorem State.withMem_gns (s : State) (x : Mem) : (s.withMem x).gns = s.gns := rfl
@[simp] theorem State.withMem_pnt (s : State) (x : Mem) : (s.withMem x).pnt = s.pnt := rfl
@[simp] theorem State.withMem_regs (s : State) (x : Mem) : (s.withMem x).regs = s.regs := rfl
@[simp] theorem State.withMem_sni (s : State) (x : Mem) : (s.withMem x).sni = s.sni := rfl
@[simp] theorem State.withMem_est (s : State) (x : Mem) : (s.withMem x).est = s.est := rfl
@[simp] theorem State.withMem_ctl (s : State) (x : Mem) : (s.withMem x).ctl = s.ctl := rfl
@[simp] theorem State.withMem_alloc (s : State) (x : Mem) : (s.withMem x).alloc = s.alloc := rfl
@[simp] theorem State.withMem_csq (s : State) (x : Mem) : (s.withMem x).csq = s.csq := rfl
@[simp] theorem State.withMem_trim (s : State) (x : Mem) : (s.withMem x).trim = s.trim := rfl
@[simp] theorem State.withMem_vsl (s : State) (x : Mem) : (s.withMem x).vsl = s.vsl := rfl
@[simp] theorem State.withMem_tim (s : State) (x : Mem) : (s.withMem x).tim = s.tim := rfl
@[simp] theorem State.withMem_rdn (s : State) (x : Mem) : (s.withMem x).rdn = s.rdn := rfl
@[simp] theorem State.withMem_btr (s : State) (x : Mem) : (s.withMem x).btr = s.btr := rfl
@[simp] theorem State.withMem_can (s : State) (x : Mem) : (s.withMem x).can = s.can := rfl
@[simp] theorem State.withMem_ylk (s : State) (x : Mem) : (s.withMem x).ylk = s.ylk := rfl
@[simp] theorem State.withMem_log (s : State) (x : Mem) : (s.withMem x).log = s.log := rfl
@[simp] theorem State.withMem_glb (s : State) (x : Mem) : (s.withMem x).glb = s.glb := rfl
@[simp] theorem State.withMem_sec (s : State) (x : Mem) : (s.withMem x).sec = s.sec := rfl
@[simp] theorem State.withMem_pwr (s : State) (x : Mem) : (s.withMem x).pwr = s.pwr := rfl
@[simp] theorem State.withMem_outbox (s : State) (x : Mem) : (s.withMem x).outbox = s.outbox := rfl
@[simp] theorem State.withMem_pending (s : State) (x : Mem) : (s.withMem x).pending = s.pending := rfl
@[simp] theorem State.withGlb_glb (s : State) (x : Glb) : (s.withGlb x).glb = x := rfl
@[simp] theorem State.withGlb_clk (s : State) (x : Glb) : (s.withGlb x).clk = s.clk := rfl
@[simp] theorem State.withGlb_crs (s : State) (x : Glb) : (s.withGlb x).crs = s.crs := rfl
@[simp] theorem State.withGlb_evt (s : State) (x : Glb) : (s.withGlb x).evt = s.evt := rfl
@[simp] theorem State.withGlb_hrg (s : State) (x : Glb) : (s.withGlb x).hrg = s.hrg := rfl
@[simp] theorem State.withGlb_img (s : State) (x : Glb) : (s.withGlb x).img = s.img := rfl
@[simp] theorem State.withGlb_gns (s : State) (x : Glb) : (s.withGlb x).gns = s.gns := rfl
@[simp] theorem State.withGlb_pnt (s : State) (x : Glb) : (s.withGlb x).pnt = s.pnt := rfl
@[simp] theorem State.withGlb_regs (s : State) (x : Glb) : (s.withGlb x).regs = s.regs := rfl
@[simp] theorem State.withGlb_sni (s : State) (x : Glb) : (s.withGlb x).sni = s.sni := rfl
@[simp] theorem State.withGlb_est (s : State) (x : Glb) : (s.withGlb x).est = s.est := rfl
@[simp] theorem State.withGlb_ctl (s : State) (x : Glb) : (s.withGlb x).ctl = s.ctl := rfl
@[simp] theorem State.withGlb_alloc (s : State) (x : Glb) : (s.withGlb x).alloc = s.alloc := rfl
@[simp] theorem State.withGlb_csq (s : State) (x : Glb) : (s.withGlb x).csq = s.csq := rfl
@[simp] theorem State.withGlb_trim (s : State) (x : Glb) : (s.withGlb x).trim = s.trim := rfl
@[simp] theorem State.withGlb_vsl (s : State) (x : Glb) : (s.withGlb x).vsl = s.vsl := rfl
@[simp] theorem State.withGlb_tim (s : State) (x : Glb) : (s.withGlb x).tim = s.tim := rfl
@[simp] theorem State.withGlb_rdn (s : State) (x : Glb) : (s.withGlb x).rdn = s.rdn := rfl
@[simp] theorem State.withGlb_btr (s : State) (x : Glb) : (s.withGlb x).btr = s.btr := rfl
@[simp] theorem State.withGlb_can (s : State) (x : Glb) : (s.withGlb x).can = s.can := rfl
@[simp] theorem State.withGlb_ylk (s : State) (x : Glb) : (s.withGlb x).ylk = s.ylk := rfl
@[simp] theorem State.withGlb_log (s : State) (x : Glb) : (s.withGlb x).log = s.log := rfl
@[simp] theorem State.withGlb_mem (s : State) (x : Glb) : (s.withGlb x).mem = s.mem := rfl
@[simp] theorem State.withGlb_sec (s : State) (x : Glb) : (s.withGlb x).sec = s.sec := rfl
@[simp] theorem State.withGlb_pwr (s : State) (x : Glb) : (s.withGlb x).pwr = s.pwr := rfl
@[simp] theorem State.withGlb_outbox (s : State) (x : Glb) : (s.withGlb x).outbox = s.outbox := rfl
@[simp] theorem State.withGlb_pending (s : State) (x : Glb) : (s.withGlb x).pending = s.pending := rfl
@[simp] theorem State.withSec_sec (s : State) (x : Sec) : (s.withSec x).sec = x := rfl
@[simp] theorem State.withSec_clk (s : State) (x : Sec) : (s.withSec x).clk = s.clk := rfl
@[simp] theorem State.withSec_crs (s : State) (x : Sec) : (s.withSec x).crs = s.crs := rfl
@[simp] theorem State.withSec_evt (s : State) (x : Sec) : (s.withSec x).evt = s.evt := rfl
@[simp] theorem State.withSec_hrg (s : State) (x : Sec) : (s.withSec x).hrg = s.hrg := rfl
@[simp] theorem State.withSec_img (s : State) (x : Sec) : (s.withSec x).img = s.img := rfl
@[simp] theorem State.withSec_gns (s : State) (x : Sec) : (s.withSec x).gns = s.gns := rfl
@[simp] theorem State.withSec_pnt (s : State) (x : Sec) : (s.withSec x).pnt = s.pnt := rfl
@[simp] theorem State.withSec_regs (s : State) (x : Sec) : (s.withSec x).regs = s.regs := rfl
@[simp] theorem State.withSec_sni (s : State) (x : Sec) : (s.withSec x).sni = s.sni := rfl
@[simp] theorem State.withSec_est (s : State) (x : Sec) : (s.withSec x).est = s.est := rfl
@[simp] theorem State.withSec_ctl (s : State) (x : Sec) : (s.withSec x).ctl = s.ctl := rfl
@[simp] theorem State.withSec_alloc (s : State) (x : Sec) : (s.withSec x).alloc = s.alloc := rfl
@[simp] theorem State.withSec_csq (s : State) (x : Sec) : (s.withSec x).csq = s.csq := rfl
@[simp] theorem State.withSec_trim (s : State) (x : Sec) : (s.withSec x).trim = s.trim := rfl
@[simp] theorem State.withSec_vsl (s : State) (x : Sec) : (s.withSec x).vsl = s.vsl := rfl
@[simp] theorem State.withSec_tim (s : State) (x : Sec) : (s.withSec x).tim = s.tim := rfl
@[simp] theorem State.withSec_rdn (s : State) (x : Sec) : (s.withSec x).rdn = s.rdn := rfl
@[simp] theorem State.withSec_btr (s : State) (x : Sec) : (s.withSec x).btr = s.btr := rfl
@[simp] theorem State.withSec_can (s : State) (x : Sec) : (s.withSec x).can = s.can := rfl
@[simp] theorem State.withSec_ylk (s : State) (x : Sec) : (s.withSec x).ylk = s.ylk := rfl
@[simp] theorem State.withSec_log (s : State) (x : Sec) : (s.withSec x).log = s.log := rfl
@[simp] theorem State.withSec_mem (s : State) (x : Sec) : (s.withSec x).mem = s.mem := rfl
@[simp] theorem State.withSec_glb (s : State) (x : Sec) : (s.withSec x).glb = s.glb := rfl
@[simp] theorem State.withSec_pwr (s : State) (x : Sec) : (s.withSec x).pwr = s.pwr := rfl
@[simp] theorem State.withSec_outbox (s : State) (x : Sec) : (s.withSec x).outbox = s.outbox := rfl
@[simp] theorem State.withSec_pending (s : State) (x : Sec) : (s.withSec x).pending = s.pending := rfl
@[simp] theorem State.withPwr_pwr (s : State) (x : Pwr) : (s.withPwr x).pwr = x := rfl
@[simp] theorem State.withPwr_clk (s : State) (x : Pwr) : (s.withPwr x).clk = s.clk := rfl
@[simp] theorem State.withPwr_crs (s : State) (x : Pwr) : (s.withPwr x).crs = s.crs := rfl
@[simp] theorem State.withPwr_evt (s : State) (x : Pwr) : (s.withPwr x).evt = s.evt := rfl
@[simp] theorem State.withPwr_hrg (s : State) (x : Pwr) : (s.withPwr x).hrg = s.hrg := rfl
@[simp] theorem State.withPwr_img (s : State) (x : Pwr) : (s.withPwr x).img = s.img := rfl
@[simp] theorem State.withPwr_gns (s : State) (x : Pwr) : (s.withPwr x).gns = s.gns := rfl
@[simp] theorem State.withPwr_pnt (s : State) (x : Pwr) : (s.withPwr x).pnt = s.pnt := rfl
@[simp] theorem State.withPwr_regs (s : State) (x : Pwr) : (s.withPwr x).regs = s.regs := rfl
@[simp] theorem State.withPwr_sni (s : State) (x : Pwr) : (s.withPwr x).sni = s.sni := rfl
@[simp] theorem State.withPwr_est (s : State) (x : Pwr) : (s.withPwr x).est = s.est := rfl
@[simp] theorem State.withPwr_ctl (s : State) (x : Pwr) : (s.withPwr x).ctl = s.ctl := rfl
@[simp] theorem State.withPwr_alloc (s : State) (x : Pwr) : (s.withPwr x).alloc = s.alloc := rfl
@[simp] theorem State.withPwr_csq (s : State) (x : Pwr) : (s.withPwr x).csq = s.csq := rfl
@[simp] theorem State.withPwr_trim (s : State) (x : Pwr) : (s.withPwr x).trim = s.trim := rfl
@[simp] theorem State.withPwr_vsl (s : State) (x : Pwr) : (s.withPwr x).vsl = s.vsl := rfl
@[simp] theorem State.withPwr_tim (s : State) (x : Pwr) : (s.withPwr x).tim = s.tim := rfl
@[simp] theorem State.withPwr_rdn (s : State) (x : Pwr) : (s.withPwr x).rdn = s.rdn := rfl
@[simp] theorem State.withPwr_btr (s : State) (x : Pwr) : (s.withPwr x).btr = s.btr := rfl
@[simp] theorem State.withPwr_can (s : State) (x : Pwr) : (s.withPwr x).can = s.can := rfl
@[simp] theorem State.withPwr_ylk (s : State) (x : Pwr) : (s.withPwr x).ylk = s.ylk := rfl
@[simp] theorem State.withPwr_log (s : State) (x : Pwr) : (s.withPwr x).log = s.log := rfl
@[simp] theorem State.withPwr_mem (s : State) (x : Pwr) : (s.withPwr x).mem = s.mem := rfl
@[simp] theorem State.withPwr_glb (s : State) (x : Pwr) : (s.withPwr x).glb = s.glb := rfl
@[simp] theorem State.withPwr_sec (s : State) (x : Pwr) : (s.withPwr x).sec = s.sec := rfl
@[simp] theorem State.withPwr_outbox (s : State) (x : Pwr) : (s.withPwr x).outbox = s.outbox := rfl
@[simp] theorem State.withPwr_pending (s : State) (x : Pwr) : (s.withPwr x).pending = s.pending := rfl
@[simp] theorem State.withOutbox_outbox (s : State) (x : Outs) : (s.withOutbox x).outbox = x := rfl
@[simp] theorem State.withOutbox_clk (s : State) (x : Outs) : (s.withOutbox x).clk = s.clk := rfl
@[simp] theorem State.withOutbox_crs (s : State) (x : Outs) : (s.withOutbox x).crs = s.crs := rfl
@[simp] theorem State.withOutbox_evt (s : State) (x : Outs) : (s.withOutbox x).evt = s.evt := rfl
@[simp] theorem State.withOutbox_hrg (s : State) (x : Outs) : (s.withOutbox x).hrg = s.hrg := rfl
@[simp] theorem State.withOutbox_img (s : State) (x : Outs) : (s.withOutbox x).img = s.img := rfl
@[simp] theorem State.withOutbox_gns (s : State) (x : Outs) : (s.withOutbox x).gns = s.gns := rfl
@[simp] theorem State.withOutbox_pnt (s : State) (x : Outs) : (s.withOutbox x).pnt = s.pnt := rfl
@[simp] theorem State.withOutbox_regs (s : State) (x : Outs) : (s.withOutbox x).regs = s.regs := rfl
@[simp] theorem State.withOutbox_sni (s : State) (x : Outs) : (s.withOutbox x).sni = s.sni := rfl
@[simp] theorem State.withOutbox_est (s : State) (x : Outs) : (s.withOutbox x).est = s.est := rfl
@[simp] theorem State.withOutbox_ctl (s : State) (x : Outs) : (s.withOutbox x).ctl = s.ctl := rfl
@[simp] theorem State.withOutbox_alloc (s : State) (x : Outs) : (s.withOutbox x).alloc = s.alloc := rfl
@[simp] theorem State.withOutbox_csq (s : State) (x : Outs) : (s.withOutbox x).csq = s.csq := rfl
@[simp] theorem State.withOutbox_trim (s : State) (x : Outs) : (s.withOutbox x).trim = s.trim := rfl
@[simp] theorem State.withOutbox_vsl (s : State) (x : Outs) : (s.withOutbox x).vsl = s.vsl := rfl
@[simp] theorem State.withOutbox_tim (s : State) (x : Outs) : (s.withOutbox x).tim = s.tim := rfl
@[simp] theorem State.withOutbox_rdn (s : State) (x : Outs) : (s.withOutbox x).rdn = s.rdn := rfl
@[simp] theorem State.withOutbox_btr (s : State) (x : Outs) : (s.withOutbox x).btr = s.btr := rfl
@[simp] theorem State.withOutbox_can (s : State) (x : Outs) : (s.withOutbox x).can = s.can := rfl
@[simp] theorem State.withOutbox_ylk (s : State) (x : Outs) : (s.withOutbox x).ylk = s.ylk := rfl
@[simp] theorem State.withOutbox_log (s : State) (x : Outs) : (s.withOutbox x).log = s.log := rfl
@[simp] theorem State.withOutbox_mem (s : State) (x : Outs) : (s.withOutbox x).mem = s.mem := rfl
@[simp] theorem State.withOutbox_glb (s : State) (x : Outs) : (s.withOutbox x).glb = s.glb := rfl
@[simp] theorem State.withOutbox_sec (s : State) (x : Outs) : (s.withOutbox x).sec = s.sec := rfl
@[simp] theorem State.withOutbox_pwr (s : State) (x : Outs) : (s.withOutbox x).pwr = s.pwr := rfl
@[simp] theorem State.withOutbox_pending (s : State) (x : Outs) : (s.withOutbox x).pending = s.pending := rfl
@[simp] theorem State.withPending_pending (s : State) (x : List Instr) : (s.withPending x).pending = x := rfl
@[simp] theorem State.withPending_clk (s : State) (x : List Instr) : (s.withPending x).clk = s.clk := rfl
@[simp] theorem State.withPending_crs (s : State) (x : List Instr) : (s.withPending x).crs = s.crs := rfl
@[simp] theorem State.withPending_evt (s : State) (x : List Instr) : (s.withPending x).evt = s.evt := rfl
@[simp] theorem State.withPending_hrg (s : State) (x : List Instr) : (s.withPending x).hrg = s.hrg := rfl
@[simp] theorem State.withPending_img (s : State) (x : List Instr) : (s.withPending x).img = s.img := rfl
@[simp] theorem State.withPending_gns (s : State) (x : List Instr) : (s.withPending x).gns = s.gns := rfl
@[simp] theorem State.withPending_pnt (s : State) (x : List Instr) : (s.withPending x).pnt = s.pnt := rfl
@[simp] theorem State.withPending_regs (s : State) (x : List Instr) : (s.withPending x).regs = s.regs := rfl
@[simp] theorem State.withPending_sni (s : State) (x : List Instr) : (s.withPending x).sni = s.sni := rfl
@[simp] theorem State.withPending_est (s : State) (x : List Instr) : (s.withPending x).est = s.est := rfl
@[simp] theorem State.withPending_ctl (s : State) (x : List Instr) : (s.withPending x).ctl = s.ctl := rfl
@[simp] theorem State.withPending_alloc (s : State) (x : List Instr) : (s.withPending x).alloc = s.alloc := rfl
@[simp] theorem State.withPending_csq (s : State) (x : List Instr) : (s.withPending x).csq = s.csq := rfl
@[simp] theorem State.withPending_trim (s : State) (x : List Instr) : (s.withPending x).trim = s.trim := rfl
@[simp] theorem State.withPending_vsl (s : State) (x : List Instr) : (s.withPending x).vsl = s.vsl := rfl
@[simp] theorem State.withPending_tim (s : State) (x : List Instr) : (s.withPending x).tim = s.tim := rfl
@[simp] theorem State.withPending_rdn (s : State) (x : List Instr) : (s.withPending x).rdn = s.rdn := rfl
@[simp] theorem State.withPending_btr (s : State) (x : List Instr) : (s.withPending x).btr = s.btr := rfl
@[simp] theorem State.withPending_can (s : State) (x : List Instr) : (s.withPending x).can = s.can := rfl
@[simp] theorem State.withPending_ylk (s : State) (x : List Instr) : (s.withPending x).ylk = s.ylk := rfl
@[simp] theorem State.withPending_log (s : State) (x : List Instr) : (s.withPending x).log = s.log := rfl
@[simp] theorem State.withPending_mem (s : State) (x : List Instr) : (s.withPending x).mem = s.mem := rfl
@[simp] theorem State.withPending_glb (s : State) (x : List Instr) : (s.withPending x).glb = s.glb := rfl
@[simp] theorem State.withPending_sec (s : State) (x : List Instr) : (s.withPending x).sec = s.sec := rfl
@[simp] theorem State.withPending_pwr (s : State) (x : List Instr) : (s.withPending x).pwr = s.pwr := rfl
@[simp] theorem State.withPending_outbox (s : State) (x : List Instr) : (s.withPending x).outbox = s.outbox := rfl

end Sys2Proof.Machine
end

