-- ==== Sys2Proof/WellFormed.lean ====
section
/-! DEFINITION. Well-formed commands: operands within the ranges the spec gives them. A command outside them is one
that nothing can send; exec leaves the state as it is where an operand names nothing. -/

namespace Sys2Proof

/-- An instant lies within its course: ns after the latest course tick (spec/02 R31). -/
def okInstant (x : Nat) : Bool := decide (x < 1000000)

/-- A register offset is a word of BAR0, 128 KiB (spec/17 R411, spec/25 R548). -/
def okOffset (x : Nat) : Bool := decide (x < 0x20000 ∧ x % 4 = 0)

/-- A ring number (spec/17 R413). -/
def okRing (x : Nat) : Bool := decide (x < 22)

/-- A lane of the solver array (spec/09 R227). -/
def okLane (x : Nat) : Bool := decide (x < 64)

/-- A lock of GLB_LOCKMAP (spec/25 R552). -/
def okLock (x : Nat) : Bool := decide (x < 15)

/-- A CAN controller (spec/16 R391). -/
def okCtl (x : Nat) : Bool := decide (x < 3)

/-- A CAN transmit buffer (spec/16 R396). -/
def okBuf (x : Nat) : Bool := decide (x < 32)

/-- A UART (spec/04 R84). -/
def okUart (x : Nat) : Bool := decide (x < 8)

/-- An analog channel (spec/04 R90). -/
def okChannel (x : Nat) : Bool := decide (x < 16)

/-- A GNSS antenna (spec/05 R105). -/
def okAnt (x : Nat) : Bool := decide (x < 2)

/-- A notch, 4s + n (spec/05 R125). -/
def okNotch (x : Nat) : Bool := decide (x < 16)

/-- A GNSS sample stream or a point stream (spec/05 R125, spec/15 R387). -/
def okStream (x : Nat) : Bool := decide (x < 4)

/-- A quoin entry (spec/04 R103). -/
def okEntry (x : Nat) : Bool := decide (x < 40)

/-- A route entry (spec/15 R390). -/
def okRoute (x : Nat) : Bool := decide (x < 4096)

/-- A point number (spec/15 R390). -/
def okPoint (x : Nat) : Bool := decide (x < 131072)

/-- A crossing (spec/21 R485). -/
def okCrossing (x : Nat) : Bool := decide (x < 32)

/-- A clock domain (spec/21 R482). -/
def okDomain (x : Nat) : Bool := decide (x < 11)

/-- One of two ports or feeds (spec/04 R88, spec/23 R518, spec/22 R498). -/
def okTwo (x : Nat) : Bool := decide (x < 2)

/-- A time source code (spec/12 R303). -/
def okSource (x : Nat) : Bool := decide (1 ≤ x ∧ x ≤ 5)

/-- An event input EVT0 to EVT3 (spec/12 R317). -/
def okCapture (x : Nat) : Bool := decide (x < 4)

/-- A safe input (spec/14 R369). -/
def okSafeInput (x : Nat) : Bool := decide (x < 16)

/-- A safe output or a remote record (spec/14 R369). -/
def okEight (x : Nat) : Bool := decide (x < 8)

/-- A memory bank (spec/20 R466). -/
def okBank (x : Nat) : Bool := decide (x < 64)

/-- A bank of the march, 64 for the mortar memory (spec/20 R481). -/
def okMarchBank (x : Nat) : Bool := decide (x ≤ 64)

/-- A field of 4 bits (spec/20 R466, spec/24 R546), or four byte enables (spec/25 R548). -/
def okCode16 (x : Nat) : Bool := decide (x < 16)

/-- A field of 16 bits (spec/24 R546). -/
def okHalf (x : Nat) : Bool := decide (x < 65536)

/-- An item code of the course table (spec/02 R44). -/
def okItem (x : Nat) : Bool := decide (x < 43)

/-- Every operand of the command lies within its range. -/
def Instr.wf : Instr → Bool
  | .courseTick => true
  | .frameTick => true
  | .substituteTick => true
  | .tickPhaseSlewEnd => true
  | .deadlineMiss t code => okInstant t && okItem code
  | .align t => okInstant t
  | .estimate t _ => okInstant t
  | .vote t => okInstant t
  | .refSilent t _ => okInstant t
  | .refReadmissionComplete t _ => okInstant t
  | .bootstrapAdmission t _ => okInstant t
  | .classCoastTimeout t _ => okInstant t
  | .law t => okInstant t
  | .joystickLost t => okInstant t
  | .gainAutoEvaluation t => okInstant t
  | .currentReport t => okInstant t
  | .dispatch t => okInstant t
  | .caseDispatch t => okInstant t
  | .release t => okInstant t
  | .availPointStale t _ => okInstant t
  | .digest t => okInstant t
  | .pairCompare t => okInstant t
  | .keystone t _ => okInstant t
  | .confirm t => okInstant t
  | .confirmMiss t => okInstant t
  | .postPoints run => okInstant run.t
  | .postLog t => okInstant t
  | .caseCollect t => okInstant t
  | .envCollect t => okInstant t
  | .conseqReport t => okInstant t
  | .trim t _ => okInstant t
  | .gnssNav t _ _ _ _ _ => okInstant t
  | .host t _ => okInstant t
  | .descriptorPhaseTimeout t ring => okInstant t && okRing ring
  | .net t _ => okInstant t
  | .supervise t => okInstant t
  | .recorder t => okInstant t
  | .march t _ => okInstant t
  | .completionPost t ring => okInstant t && okRing ring
  | .msixModerationExpiry t ring => okInstant t && okRing ring
  | .nop t _ => okInstant t
  | .imageLoad t _ => okInstant t
  | .imageVerifyDone t _ => okInstant t
  | .imageActivate t _ _ => okInstant t
  | .imageActivationTick => true
  | .imageDiscard t _ => okInstant t
  | .imageDiscardStop t => okInstant t
  | .imageQuery t _ => okInstant t
  | .analogTest t _ channel _ => okInstant t && okChannel channel
  | .gnssCorrection t _ _ => okInstant t
  | .gnssSnapshot t _ _ _ _ _ _ => okInstant t
  | .snapshotCaptureStart t => okInstant t
  | .snapshotCaptureDone t _ => okInstant t
  | .gnssQuery t _ => okInstant t
  | .gridOrigin t _ _ _ _ => okInstant t
  | .refEnable t _ _ _ => okInstant t
  | .refTarget t _ _ _ _ _ => okInstant t
  | .refStatus t _ _ => okInstant t
  | .estQuery t _ => okInstant t
  | .dpMode t _ _ _ => okInstant t
  | .setpoint t _ _ _ _ _ _ => okInstant t
  | .gainSelect t _ _ => okInstant t
  | .trackLoad t _ _ => okInstant t
  | .berthSet t _ _ _ _ _ => okInstant t
  | .ctrlQuery t _ => okInstant t
  | .thrusterEnable t _ _ _ => okInstant t
  | .allocQuery t _ => okInstant t
  | .conseqQuery t _ => okInstant t
  | .envelopeQuery t _ => okInstant t
  | .trimStart t _ _ _ => okInstant t
  | .trimSet t _ _ _ => okInstant t
  | .trimStop t _ => okInstant t
  | .trimQuery t _ => okInstant t
  | .timeStepAccept t _ _ => okInstant t
  | .timeSet t _ _ _ _ => okInstant t
  | .timeLeap t _ _ => okInstant t
  | .claimResume t _ => okInstant t
  | .readinessRegained t => okInstant t
  | .roleExchange t _ => okInstant t
  | .exchangeProposalDue t => okInstant t
  | .btrReset t _ _ _ _ => okInstant t
  | .btrOutput t _ _ _ => okInstant t
  | .pointWrite t _ point _ _ _ => okInstant t && okPoint point
  | .streamSet t _ stream _ _ => okInstant t && okStream stream
  | .canSend t _ ctl _ _ _ => okInstant t && okCtl ctl
  | .canAbort t _ ctl buf => okInstant t && okCtl ctl && okBuf buf
  | .canRecover t _ ctl => okInstant t && okCtl ctl
  | .canMode t _ ctl _ => okInstant t && okCtl ctl
  | .logRead t _ _ _ => okInstant t
  | .memTest t _ _ _ => okInstant t
  | .memTestDone t _ => okInstant t
  | .sentenceStartStamp t uart => okInstant t && okUart uart
  | .sentenceReceived t uart _ => okInstant t && okUart uart
  | .imuSyncPulse t port => okInstant t && okTwo port
  | .imuDrdyEdge t port => okInstant t && okTwo port
  | .imuFrameRead t port _ => okInstant t && okTwo port
  | .imuDrdyTimeout t port => okInstant t && okTwo port
  | .analogOutput t channel _ _ => okInstant t && okChannel channel
  | .analogStepDetected t channel => okInstant t && okChannel channel
  | .quoinEntrySilent t entry => okInstant t && okEntry entry
  | .networkSentenceRx t _ _ _ => okInstant t
  | .canFrameRx t ctl _ _ _ _ _ => okInstant t && okCtl ctl
  | .canReasmTimeout t ctl => okInstant t && okCtl ctl
  | .canTxAttemptEnd t ctl buf _ _ => okInstant t && okCtl ctl && okBuf buf
  | .canBusoffWaitExpiry t ctl => okInstant t && okCtl ctl
  | .canRecoveryDone t ctl => okInstant t && okCtl ctl
  | .antennaSupplyFault t ant _ => okInstant t && okAnt ant
  | .antennaSupplyRetry t ant => okInstant t && okAnt ant
  | .channelAssignRevision t _ => okInstant t
  | .carrierContinuityLoss t ant _ => okInstant t && okAnt ant
  | .notchAnalysis t stream _ _ => okInstant t && okStream stream
  | .notchRelease t notch => okInstant t && okNotch notch
  | .spoofClear t ant => okInstant t && okAnt ant
  | .correctionLapse t => okInstant t
  | .sourceOffsetMeasure t src => okInstant t && okSource src
  | .sourceQualified t src => okInstant t && okSource src
  | .sourceLost t src => okInstant t && okSource src
  | .sourceRevert t src => okInstant t && okSource src
  | .holdoverLimitCrossed _ => true
  | .ppsEdge t => okInstant t
  | .extPpsEdge edge => okInstant edge.t
  | .captureEdge t input _ => okInstant t && okCapture input
  | .ptpMessageRx t _ _ => okInstant t
  | .ptpMasterTx t _ => okInstant t
  | .lockstepMismatch _ _ => true
  | .feedOutOfRange _ feed _ => okTwo feed
  | .pairMessageRx t _ _ => okInstant t
  | .heartbeatRx t _ _ => okInstant t
  | .urgentYieldRx t _ _ => okInstant t
  | .removalMaskRx t _ _ => okInstant t
  | .resyncStart t _ => okInstant t
  | .stateImagePieceRx t _ _ => okInstant t
  | .resyncInstall t _ => okInstant t
  | .resyncTimeout t => okInstant t
  | .resyncRetry t => okInstant t
  | .buttressCourse _ _ _ _ => true
  | .discrepancyFault t input => okInstant t && okSafeInput input
  | .outputStartupTest t output _ => okInstant t && okEight output
  | .outputTestStart output => okEight output
  | .outputTestEnd output _ _ => okEight output
  | .degradedLimit t _ number => okInstant t && okEight number
  | .islandFault _ => true
  | .buttressBeatLoss t => okInstant t
  | .safetyFrameRx t _ _ => okInstant t
  | .safetyCopyTimeout t number => okInstant t && okEight number
  | .remoteSourceLost t number => okInstant t && okEight number
  | .zwiluxDataRx t _ _ _ => okInstant t
  | .zwiluxCommandRx t _ _ _ => okInstant t
  | .zwiluxReadRx t _ _ _ => okInstant t
  | .routeEntryStale t entry => okInstant t && okRoute entry
  | .streamPendingPost t stream => okInstant t && okStream stream
  | .netLinkChange t _ _ => okInstant t
  | .icmpEchoRequest t _ _ _ => okInstant t
  | .arpRequest t _ _ _ => okInstant t
  | .doorbellWrite t ring _ => okInstant t && okRing ring
  | .ringEnable t _ => okInstant t
  | .ringReset t _ => okInstant t
  | .ringResetDone t ring => okInstant t && okRing ring
  | .hostAccessFailure t _ => okInstant t
  | .hostAccessRetry t _ _ _ => okInstant t
  | .bulkPieceWrite piece => okInstant piece.t
  | .hostInterfaceReset t _ => okInstant t
  | .problemSubmit t _ => okInstant t
  | .feedListMove t => okInstant t
  | .laneTake t => okInstant t
  | .problemRelease t fin => okInstant t && okLane fin.lane
  | .problemLate t _ => okInstant t
  | .laneKat t lane _ => okInstant t && okLane lane
  | .arrayComparatorMismatch _ => true
  | .ballastValveFault t _ => okInstant t
  | .ballastPumpFault t _ => okInstant t
  | .logIdentify _ _ => true
  | .logProgramDone t _ => okInstant t
  | .logReidentify t _ => okInstant t
  | .logEraseDone t _ => okInstant t
  | .masonMarkSave _ => true
  | .bankHandover t _ bank owner => okInstant t && okBank bank && okCode16 owner
  | .bankWake _ bank => okBank bank
  | .marchSliceAbort _ bank _ => okMarchBank bank
  | .marchPassOverdue _ bank => okMarchBank bank
  | .eccUncorrectable _ _ _ => true
  | .mortarWriteCollision t ring _ _ _ _ => okInstant t && okRing ring
  | .clockStopped _ domain => okDomain domain
  | .clockRunningAgain _ domain => okDomain domain
  | .crossingTimeout _ crossing _ _ => okCrossing crossing
  | .crossingReset _ crossing _ => okCrossing crossing
  | .resetNAssert _ => true
  | .plinthWatchdogExpiry _ => true
  | .powerOnReset => true
  | .partReset _ => true
  | .partResetRelease _ => true
  | .glbResetWrite _ => true
  | .holdupSaveStart _ _ => true
  | .holdupSaveEnd _ => true
  | .holdChargeComplete _ _ _ _ => true
  | .holdTest _ _ => true
  | .vbatLow _ _ _ => true
  | .feedQualified _ _ _ => true
  | .bootDone _ _ _ => true
  | .pwrBootGo _ => true
  | .fwAuthDone _ _ => true
  | .selftestDone _ _ _ => true
  | .restoreDone _ => true
  | .linkPortChange t port _ => okInstant t && okTwo port
  | .cableDelayMeasure t port _ => okInstant t && okTwo port
  | .tickMarkerRx t port _ _ _ => okInstant t && okTwo port
  | .memberTickApply => true
  | .beaconRx t _ _ _ _ => okInstant t
  | .linkJoin t => okInstant t
  | .masterLoss t _ => okInstant t
  | .caseVerdictsRx t _ _ => okInstant t
  | .intakeRecordsRx t _ _ => okInstant t
  | .forwardedPointsRx t _ _ => okInstant t
  | .sharedPointBlockRx t _ _ => okInstant t
  | .sharedBlockStale t _ _ => okInstant t
  | .otpReadIdentity slot key => okCode16 slot && okHalf key
  | .otpReadKey slot key => okCode16 slot && okHalf key
  | .otpWriteIdentity slot key => okCode16 slot && okHalf key
  | .otpWriteKey slot key => okCode16 slot && okHalf key
  | .otpRevokeKey slot key => okCode16 slot && okHalf key
  | .otpRevokeFwKey slot key => okCode16 slot && okHalf key
  | .otpBindSeal slot key => okCode16 slot && okHalf key
  | .otpRaiseVersion slot key => okCode16 slot && okHalf key
  | .otpOperationDone t _ => okInstant t
  | .lockAll _ => true
  | .lockSet lock _ => okLock lock
  | .logFormat t _ => okInstant t
  | .crsTblIndexWrite _ => true
  | .sniEntryWrite _ => true
  | .gnsNotchSelWrite _ => true
  | .vslLaneSelWrite _ => true
  | .pntSelWrite _ => true
  | .timLatchWrite t _ => okInstant t
  | .timCapSelWrite _ => true
  | .memBankSelWrite _ => true
  | .glbXselWrite _ => true
  | .canSingleClear t ctl _ => okInstant t && okCtl ctl
  | .counterClear t offset _ => okInstant t && okOffset offset
  | .peakClear t offset _ => okInstant t && okOffset offset
  | .registerWrite t offset be _ => okInstant t && okOffset offset && okCode16 be
  | .uartFramingError t uart => okInstant t && okUart uart
  | .feedRestored _ feed _ => okTwo feed
  | .corePllLockLoss _ => true
  | .pcieLinkUp t => okInstant t
  | .ptpAnnounceTimeout t _ => okInstant t
  | .ptpDelayRequestTx t _ => okInstant t
  | .igmpQueryRx t _ _ _ => okInstant t
  | .canRxError t ctl _ _ _ => okInstant t && okCtl ctl
  | .scrubberRead _ _ _ => true
  | .ext10mPresenceChange t _ => okInstant t
  | .safeOutputCurrentLimit t output _ => okInstant t && okEight output

end Sys2Proof
end

