-- ==== Sys2Proof/Tests/Slice0.lean ====
section
/-! SUPPORT. Tests: well-formedness, small steps, and a witness for the hypotheses of each statement. -/

open Sys2Proof Sys2Proof.Machine

namespace Sys2Proof.Tests

set_option Elab.async false

/-- `n` zero bytes with these fields laid over them. -/
def blank (n : Nat) (fs : List (Nat × List Byte)) : List Byte :=
  fs.foldl (fun b f => b.take f.1 ++ f.2 ++ b.drop (f.1 + f.2.length)) (List.replicate n 0)

/-- The directory of an image whose sections begin at `at_`. -/
def dirOf : Nat → List (Nat × List Byte) → List Byte
  | _, [] => []
  | at_, s :: r => lebytes 4 s.1 ++ lebytes 4 at_ ++ lebytes 4 s.2.length ++ lebytes 4 0 ++ dirOf (at_ + s.2.length) r

/-- An image with FLAGS and sections. -/
def imageWith (flags : Nat) (secs : List (Nat × List Byte)) : List Byte :=
  blank 128 [(0x1A, lebytes 2 secs.length), (0x1C, lebytes 4 flags)] ++ dirOf (128 + 16 * secs.length) secs ++ (secs.map (·.2)).flatten

/-- Running, with the firmware running. -/
def live : State := { State.reset with
  pwr := { State.reset.pwr with inReset := false, phase := 7 }
  glb := { State.reset.glb with fwRunning := true } }

/-- With an image in effect. -/
def withImage (flags : Nat) (secs : List (Nat × List Byte)) (s : State) : State :=
  s.withImg { s.img with active := some (imageWith flags secs) }

/-- Running in a course, with these items done. -/
def inCourse (c : Nat) (done : List Nat) (s : State) : State :=
  s.withCrs { s.crs with frameLen := 20, started := true, course := c, doneItems := done }

/-- A command header on ring 0. -/
def cmd : CmdHdr := { ring := 0, tag := 0, fence := false, opts := 0, addr := 0, len := 0, dma := none }

/-! ## A witness for each statement -/

theorem witness_CommandsRunFirstInFirstOut :
    State.reset.pending = [] ∧
    ∃ u, step { live with pending := [.registerWrite 0 1 15 0, .courseTick] } = .next u := ⟨rfl, _, rfl⟩

theorem witness_MemoryFormKeptByEveryStep :
    State.reset.memOk ∧ ∃ u, step { State.reset with pending := [.courseTick] } = .next u :=
  ⟨⟨by decide, by decide⟩, _, rfl⟩

theorem witness_MemoryReadAfterWrite : memWf [] = true ∧ memWf [⟨0, 1⟩, ⟨0xFFFFFF, 0xFF⟩] = true := by decide

theorem witness_FrameItemsOfTheControlPath : Completes (.align 0) live ∧ Completes (.deadlineMiss 999999 42) live :=
  ⟨⟨_, rfl⟩, _, rfl⟩

theorem witness_FrameItemsOfAnalysisAndService :
    Completes (.postPoints ⟨0, 0⟩) live ∧ Completes (.msixModerationExpiry 999999 21) live := ⟨⟨_, rfl⟩, _, rfl⟩

theorem witness_FrameHostCommands : Completes (.nop 0 cmd) live ∧ Completes (.memTest 999999 cmd 64 0) live :=
  ⟨⟨_, rfl⟩, _, rfl⟩

theorem witness_FrameHostInterface :
    Completes (.doorbellWrite 0 21 0) live ∧ Completes (.exchangeProposalDue 999999) live := ⟨⟨_, rfl⟩, _, rfl⟩

theorem witness_FrameIntakeAndGnss :
    Completes (.sentenceStartStamp 0 7) live ∧ Completes (.correctionLapse 999999) live := ⟨⟨_, rfl⟩, _, rfl⟩

theorem witness_FrameTimeAndRedundancy :
    Completes (.sourceOffsetMeasure 0 1) live ∧ Completes (.resyncRetry 999999) live := ⟨⟨_, rfl⟩, _, rfl⟩

theorem witness_FrameButtressNetworksAndCan :
    Completes (.buttressCourse 0 0 0 0) live ∧ Completes (.canRxError 999999 2 7 false 1) live := ⟨⟨_, rfl⟩, _, rfl⟩

theorem witness_FrameSolverMemoryAndRecorder :
    Completes (.problemSubmit 0 []) live ∧ Completes (.marchPassOverdue 999999 64) live := ⟨⟨_, rfl⟩, _, rfl⟩

theorem witness_FrameClocksPowerAndCascade :
    Completes (.clockRunningAgain 0 10) live ∧ Completes (.sharedBlockStale 999999 31 1) live := ⟨⟨_, rfl⟩, _, rfl⟩

theorem witness_FrameSecurityAndRegisterWrites :
    Completes (.otpReadIdentity 0 0x4F54) live ∧ Completes (.peakClear 999999 0x3030 0x10) live := ⟨⟨_, rfl⟩, _, rfl⟩

theorem witness_FrameTicks : Completes .courseTick live ∧ Completes (.linkJoin 999999) live := ⟨⟨_, rfl⟩, _, rfl⟩

/-- A template of the covariance step. -/
def covTemplate : List Byte := blank 112 [(2, [3, 18]), (0x20, lebytes 2 112)]

/-- A result of frame 0 with a status. -/
def resultOf (status : Nat) : ArrayResult :=
  { status := status, iter := 0, lane := 0, mapped := 0, frame := 0, cycles := 0, data := [] }

/-- The main filter stands at frame 0xFFFFFFFF, and the covariance step of frame 0 was released before the array stopped. -/
def estimating : State :=
  let s := withImage 0 [(0x0A, covTemplate)] (inCourse 0 [1] live)
  (s.withEst { s.est with fresh := true, filters := [{ mean := [], cov := [] }], frame := 0xFFFFFFFF#32 }).withVsl
    { s.vsl with stopped := true, results := [(0, resultOf 0)] }

/-- A template of the nominal allocation. -/
def allocTemplate : List Byte := blank 40 [(0x20, lebytes 2 40)]

/-- In course 1 of frame 0, out of STANDBY, with a result of the nominal allocation of the frame. -/
def releasing : State :=
  let s := withImage 0 [(0x0A, allocTemplate)] (inCourse 1 [5, 6] live)
  ((s.withCtl { s.ctl with mode := 3 }).withAlloc { s.alloc with submitted := some (0, 0) }).withVsl
    { s.vsl with results := [(65536, resultOf 1)] }

theorem witness_ControlItemsFinish :
    live.runs = true ∧
    ((inCourse 0 [] live).instant 80).itemRuns 1 = true ∧ ((inCourse 0 [] live).instant 40080).itemRuns 1 = true ∧
    estimating.runs = true ∧ (estimating.instant 40080).itemRuns 2 = true ∧ estimating.est.fresh = true ∧
    (((estimating.instant 40080).withEst { estimating.est with carry := [], consumed := true }).estimateRun []
      (estimating.instant 40080).takeRecords).2 = true ∧
    ((inCourse 0 [2] live).instant 440080).itemRuns 3 = true ∧
    ((inCourse 0 [3] live).instant 520080).itemRuns 4 = true ∧
    ((inCourse 0 [4] live).instant 640080).itemRuns 5 = true ∧
    ((inCourse 0 [5] live).instant 680080).itemRuns 6 = true ∧
    ((inCourse 1 [5, 6] live).instant 680080).itemRuns 7 = true ∧
    1000000 + slotStart 30 ≤ ((inCourse 1 [5, 6] live).instant 680080).framePlace ∧ live.ctl.mode = 0 ∧
    (releasing.runs = true ∧ (releasing.instant 680080).itemRuns 7 = true ∧
      1000000 + slotStart 30 ≤ (releasing.instant 680080).framePlace ∧ releasing.ctl.mode ≠ 0 ∧
      imgTemplate releasing.image 0 = some allocTemplate ∧ releasing.nominalResult = some (resultOf 1)) := by
  decide +kernel

/-- In the course of TRIM, on the frame of a run, with holding off. -/
def trimming : State :=
  let s := withImage 0 [(0x0B, blank 16 [])] (inCourse 19 [0x12] live)
  s.withCrs { s.crs with table := [(0x13, 0)] }

theorem witness_AnalysisItemsFinish :
    (let s := (inCourse 1 [9] live).withBtr { live.btr with taken := true }
     s.runs = true ∧ (s.instant 720080).itemRuns 0x0A = true ∧ s.btr.acts = true) ∧
    (((inCourse 1 [9] live).instant 800080).itemRuns 0x0B = true ∧
      ((inCourse 1 [9] live).instant 800080).sysRecords.length ≤ 200) ∧
    (let s := (inCourse 1 [9] live).withPnt { live.pnt with sysFrame := some 0, sysLeft := [] }
     (s.instant 999899).itemRuns 0x0B = true ∧ s.pnt.sysFrame = some s.crs.frame ∧ s.pnt.sysLeft.length ≤ 0) ∧
    ((inCourse 1 [9] live).instant 999899).itemRuns 0x0C = true ∧
    ((inCourse 10 [6] live).instant 80).itemRuns 0x10 = true ∧
    ((inCourse 18 [0x10] live).instant 100080).itemRuns 0x11 = true ∧
    ((inCourse 18 [0x11] live).instant 999899).itemRuns 0x12 = true ∧
    (trimming.runs = true ∧ (trimming.instant 800080).itemRuns 0x13 = true ∧ trimming.trimDue = true ∧
      (trimming.instant 800080).itemStart 0x13 + 800000 ≤ (trimming.instant 800080).framePlace ∧
      (trimming.instant 800080).trimPose.trim.state ≠ 2 ∧ (trimming.instant 80).itemRuns 0x13 = true ∧
      (trimming.instant 80).framePlace < (trimming.instant 80).itemStart 0x13 + 800000) ∧
    ((inCourse 2 [1] live).instant 80).itemRuns 0x18 = true ∧ ((inCourse 3 [1] live).instant 999899).itemRuns 0x18 = true := by
  decide +kernel

theorem witness_ServiceItemsFinish :
    live.runs = true ∧ (live.instant 0).serviceOpen 0x20 = true ∧ ((inCourse 2 [] live).instant 799999).serviceOpen 0x21 = true ∧
    ((inCourse 2 [] live).instant 0).serviceOpen 0x28 = true ∧ ((inCourse 2 [] live).instant 320080).serviceOpen 0x29 = true ∧
    (live.instant 999899).serviceOpen 0x2A = true ∧ live.mem.retryAfter ≤ (live.instant 999899).clk.now ∧
    (live.instant 999899).sliceNow = none := by
  decide +kernel

/-- In pair mode, in course 1. -/
def paired : State :=
  let s := withImage 1 [] (inCourse 1 [5, 6] live)
  s.withRdn { s.rdn with pairEn := true, unitId := 0 }

theorem witness_PairItemsFinish :
    paired.runs = true ∧ paired.pairMode = true ∧ (paired.instant 600080).itemRuns 8 = true ∧
    (paired.instant 680080).comparesNow = true ∧ paired.rdn.msg = none ∧
    (let s := (inCourse 1 [7] live).withRdn { live.rdn with claimLatch := true }
     s.runs = true ∧ (s.instant 680080).itemRuns 9 = true ∧ ((s.instant 680080).keystone 0).rdn.claimLatch = true) := by
  decide +kernel

/-- A part of the link in a state. -/
def linked (k : Nat) (s : State) : State := s.withYlk { s.ylk with state := k, up := Vector.replicate 2 true }

theorem witness_CourseTicksMoveTheGridOn :
    live.runs = true ∧ live.ylk.state ≠ 2 ∧ live.ylk.state ≠ 4 ∧ live.frameDue = true ∧
    (inCourse 18 [] live).frameDue = false ∧ (inCourse 19 [] live).frameDue = true ∧
    (let s := (inCourse 19 [] live).withImg { live.img with slot := .pending 1 }
     s.runs = true ∧ s.frameDue = true ∧ s.img.slot = .pending 1 ∧ (1 : Word) = if s.crs.started then s.crs.frame + 1 else 0) ∧
    (linked 4 live).ylk.state = 4 ∧ ((linked 2 live).ylk.state = 2 ∧ (linked 2 live).memberTick = none) := by
  decide +kernel

/-- The link part of a NETWORK section: tick delay 1 µs, eight parts, loss after 3 courses, one import. -/
def linkNet : List Byte := blank 0xC0 [(0xA4, lebytes 2 10), (0xA6, lebytes 2 3), (0xA8, [1, 8, 0, 1]), (0xB0, [2, 1, 1, 1, 7, 0, 0, 0])]

/-- In the cascade, in a link state, both ports up and near. -/
def cascaded (k : Nat) (s : State) : State :=
  let s := withImage 2 [(0x0E, linkNet)] s
  s.withYlk { s.ylk with state := k, up := Vector.replicate 2 true, dacc := Vector.replicate 2 200, tickPort := 0 }

/-- A beacon of part 3. -/
def beacon : LinkBeacon :=
  { src := 3, rank := 9, frame := 7, time := 0, len := 20, mask := 0, casc := 0, pair := false, course := 0 }

theorem witness_TicksFollowTheMaster :
    (let s := cascaded 2 live
     let s := s.withYlk { s.ylk with markOk := Vector.replicate 2 true, markAt := Vector.replicate 2 (some 1000000) }
     s.runs = true ∧ s.ylk.state = 2 ∧ s.memberTick = some 1000800) ∧
    (let s := live.withCrs { live.crs with slewing := true }
     s.runs = true ∧ s.crs.slewing = true ∧ s.crs.phase = 0) ∧
    (let s := cascaded 1 live
     let s := s.withYlk { s.ylk with bcn := some beacon }
     s.runs = true ∧ s.ylk.bcn = some beacon ∧ (s.instant 0).joinCause beacon = 0 ∧ (s.instant 0).inPhase beacon = none ∧
       0 < s.frameCourses ∧ (s.instant 0).joinCause { beacon with casc := 1 } ≠ 0) ∧
    (let s := cascaded 4 (inCourse 2 [] live)
     let s := (s.withYlk { s.ylk with markAt := Vector.replicate 2 (some 0) }).withCrs { s.crs with courseCnt := 2, frame := 7 }
     s.ylk.state = 4 ∧ (s.instant 0).joinCause beacon = 0 ∧ (s.instant 0).inPhase beacon = some 800) := by
  decide +kernel

theorem witness_MissedItemIsHeldStale :
    ((inCourse 0 [] live).instant 40080).canMiss 1 = true ∧ ((inCourse 3 [1] live).instant 999899).canMiss 0x18 = true ∧
    ((inCourse 0 [3] live).instant 640080).canMiss 4 = true ∧ (releasing.instant 680080).canMiss 7 = true ∧
    releasing.ctl.mode ≠ 0 ∧ (trimming.instant 999899).canMiss 0x13 = true ∧ trimming.trimDue = true ∧
    ((inCourse 1 [5, 6] live).instant 680080).canMiss 7 = true ∧ live.ctl.mode = 0 ∧
    ((inCourse 2 [] live).instant 999899).canMiss 0x20 = true ∧ ((inCourse 1 [9] live).instant 999899).canMiss 0x0B = true := by
  decide +kernel

/-- References: slot 0 of the position class and slot 15 of the heading class on quoin entry 5, slot 1 with a target. -/
def refImage (s : State) : State :=
  withImage 0 [(2, blank 128 []), (6, [0, 2, 5] ++ blank 29 [] ++ [15, 1, 5] ++ blank 29 [] ++ [1, 3, 6] ++ blank 29 []),
    (7, [5, 0, 0] ++ blank 45 [])] s

theorem witness_ReferenceRowsChangeStates :
    (let s := refImage live
     let s := s.withEst { s.est with fresh := true, refs := vset s.est.refs 0 { RefSt.reset with state := 2 } }
     let s := s.withSni { s.sni with entries := vset s.sni.entries 5 { EntrySt.reset with silent := true } }
     s.runs = true ∧ (s.refDesc 0).any (fun d => s.refSilent d) = true ∧ s.est.fresh = true ∧
       (s.refSt 0).state ≠ 0 ∧ (s.refSt 0).state ≠ 4) ∧
    (let s := refImage live
     let s := s.withEst { s.est with
       classes := vset s.est.classes 1 { ClsSt.reset with boot := false }, refs := vset s.est.refs 15 { RefSt.reset with state := 1 } }
     (s.refSt 15).state = 1 ∧
       (s.refDesc 15).any (fun d => !s.bootstraps (rfClass d) && u16 d 0x14 == (s.refSt 15).readmit) = true) ∧
    (let s := refImage live
     let s := s.withEst { s.est with
       refs := vset s.est.refs 0 { RefSt.reset with state := 1 }, classes := Vector.replicate 2 { ClsSt.reset with boot := true }
       frame := s.crs.frame, work := [{ ref := 0, rows := 1, rho := none, fixZ := [f0], fixV := [] }] }
     (s.refDesc 0).any (fun d => s.bootstraps (rfClass d) && (s.candidates (rfClass d)).any (fun w => w.ref == 0)) = true ∧
       u16 (s.sect 2) 0x4C ≤ (s.refSt 0).readmit) ∧
    (let s := live.withEst { live.est with classes := vset live.est.classes 1 { ClsSt.reset with coasting := true } }
     (s.cls 1).coasting = true ∧ (s.cls 1).lost = false ∧
       1000000000 * u16 (s.sect 2) 0x4E ≤ (s.instant 0).clk.now - (s.cls 1).coastAt) := by
  decide +kernel

/-- One bus, of number 31, on point 9 with no reserve. -/
def oneBus : List Byte := blank 32 [(0x1B, [1])] ++ [31, 0, 0, 0, 9] ++ blank 19 []

theorem witness_ControlRowsAct :
    (let s := live.withCtl { live.ctl with mode := 1 }
     s.runs = true ∧ s.ctl.mode = 1 ∧ (s.instant 0).joyGone = true ∧ s.ctl.joyLost = false ∧
       ¬ (s.ctl.joyLost = true ∧ s.ctl.joyEntry = false)) ∧
    (inCourse 0 [] live).runs = true ∧
    (inCourse 0 [] live).tableRuns = true ∧
    (let s := withImage 0 [(5, oneBus)] live
     (s.busRecs.find? (fun r => u8 r 0 == 31)).isSome = true ∧ (s.busSt 31).fallback = false ∧ s.alloc.powerAt ≠ some s.crs.frame ∧
       (s.viewPoint 9).good = false) ∧
    (let s := withImage 0 [] live
     let s := (s.withRdn { s.rdn with resume := some s.readyFrames }).withCrs { s.crs with gaveUp := true }
     let s := s.withBtr { s.btr with notReady := 0 }
     s.runs = true ∧ s.rdn.resume = some s.readyFrames ∧ s.readyFrames ≤ s.readyFrames ∧ s.crs.gaveUp = true ∧ s.rdn.claimLatch = false ∧
       ((s.instant 0).withRdn { s.rdn with resumed := true }).readyToClaim = true) ∧
    live.pwr.inReset = false ∧ (2699 < 2700 ∨ 5500 < 2699) ∧ (5501 < 2700 ∨ 5500 < 5501) ∧ 2700 ≤ 2700 ∧ 5500 ≤ 5500 := by
  decide +kernel

theorem hears_of {hd : LinkHdr} {typ : Nat} {b : List Byte} {s : State}
    (h : s.ylk.state ≠ 0 ∧ s.linkUp (hd.port % 2) = true ∧ hd.crc = 0 ∧ hd.src ≠ s.linkAddr ∧
      (afind (4 * hd.src + linkClass typ) s.ylk.seqIn).all (fun q => newer hd.seq q) = true ∧
      (hd.dst = 0xFF ∨ hd.dst = s.linkAddr) ∧ b.length ≤ 1028) : s.Hears hd typ b := by
  refine ⟨h.1, h.2.1, h.2.2.1, h.2.2.2.1, ?_, h.2.2.2.2.2⟩
  intro q hq
  have := h.2.2.2.2.1
  rw [hq] at this
  exact this

/-- A frame of part 3 to all on port 1. -/
def frameOf (seq : Word) : LinkHdr := { port := 1, src := 3, dst := 0xFF, hops := 0, seq := seq, frame := 0, crc := 0 }

/-- In pair mode and on the link. -/
def pairLinked : State := linked 2 paired

/-- A pair message of unit 1: TYPE, 80 bytes. -/
def message (typ : Byte) : List Byte := [typ, 1] ++ blank 78 []

theorem witness_PairRowsAct :
    (pairLinked.runs = true ∧ pairLinked.pairMode = true ∧ (pairMsgOf (message 1)).typ = 1 ∧
      (pairMsgOf (message 1)).unit ≠ pairLinked.rdn.unitId ∧ (pairMsgOf (message 2)).typ = 2 ∧
      0x50 ≤ (message 1).length ∧ ({ pairLinked with pnt := { pairLinked.pnt with linkA := 1 } }).portUp .a = true) ∧
    (let s := pairLinked.withRdn { pairLinked.rdn with syncFrame := some 0 }
     s.rdn.syncFrame.isSome = true ∧ s.rdn.syncSource = false) ∧
    (let s := (inCourse 1 [] pairLinked).withRdn { pairLinked.rdn with pstate := 3, role := 1 }
     let b := blank 80 [(0, [1, 1, 0, 0x80])]
     ((s.instant 0).linkTake (frameOf 5) 2 b b id).rdn.pstate = 3 ∧ claimRole (pairMsgOf b).claim = 2 ∧
       (pairMsgOf b).frame = s.crs.frame) ∧
    pairLinked.Hears (frameOf 5) 2 (message 1) ∧ pairLinked.Hears (frameOf 5) 1 (message 2) ∧
    pairLinked.Hears (frameOf 5) 3 [1, 0] ∧
    (let s := pairLinked.withYlk { pairLinked.ylk with seqIn := [(4 * 3 + linkClass 0x0C, 4)] }
     s.Hears (frameOf 5) 0x0C (blank 1028 [])) := by
  refine ⟨?_, ?_, ?_, hears_of ?_, hears_of ?_, hears_of ?_, hears_of ?_⟩ <;> decide +kernel

/-- A standby that joins the partner of the image in effect. -/
def joining : State := paired.withRdn { paired.rdn with
  pAlive := true, linkMsg := true, pRole := 2, role := 1, partnerDig := paired.activeDigest }

/-- The source's message asks for the transfer. -/
def asking : PairMsg := pairMsgOf (blank 80 [(0, [1, 1]), (0x11, [64])])

theorem witness_ResynchronisationRows :
    (joining.runs = true ∧ joining.joins = true ∧ joining.rdn.syncRetry = none) ∧
    (let s := joining.withRdn { joining.rdn with msg := some asking }
     s.rdn.msg = some asking ∧ s.pairMode = true ∧ s.rdn.syncFrame = none ∧ tbit asking.flags 6 = true ∧ s.imageAgrees = true) ∧
    (let s := paired.withRdn { paired.rdn with syncFrame := some 0xFFFFFFFE#32, pstate := 2, pieces := 1 }
     s.rdn.syncSource = false ∧ s.rdn.installed = false ∧ 0 < s.rdn.pieces ∧
       newer (0xFFFFFFFE#32 + 2) s.crs.frame = false) ∧
    (let s := (paired.withRdn { paired.rdn with syncFrame := some 0, pstate := 2 })
     let s := s.withCrs { s.crs with frame := word s.syncLimit }
     s.rdn.pstate = 2 ∧ (s.syncLimit : Int) ≤ wdiff s.crs.frame 0) ∧
    (let s := joining.withRdn { joining.rdn with syncRetry := some 0 }
     s.rdn.syncRetry = some 0 ∧ 0 ≤ (s.instant 0).clk.now ∧ s.joins = true) ∧
    (let s := paired.withRdn { paired.rdn with pstate := 3, role := 2, pairedFrames := 1500, score := 0, exchCmd := [(0, 0)] }
     let s := s.withCsq { s.csq with state := 1 }
     s.rdn.role = 2 ∧ s.rdn.exchRetry = none ∧ s.rdn.exchCmd ≠ [] ∧ s.rdn.exchFrame = none ∧ s.rdn.exchAsk = false ∧
       s.exchAllowed = true) ∧
    (let s := paired.withRdn { paired.rdn with pstate := 3, role := 2, pairedFrames := 1499, exchCmd := [(0, 0)] }
     s.rdn.exchCmd ≠ [] ∧ s.exchAllowed = false) := by
  decide +kernel

/-- Command ring 0 runs and holds one descriptor. -/
def hosted (s : State) : State := s.setRing 0 { s.ring 0 with state := .running, hostPos := 1 }

/-- The checks of R419 as one value. -/
def takes (h : CmdHdr) (c : HostCmd) (s : State) : Bool :=
  s.runs && s.canFetch h.ring && cmdFits h c && (s.formatError h c).isNone && !s.denies c && !h.fence

theorem accepts_of {h : CmdHdr} {c : HostCmd} {s : State} (e : takes h c s = true) : s.Accepts h c := by
  simp only [takes, Bool.and_eq_true, Bool.not_eq_true', Option.isNone_iff_eq_none] at e
  exact ⟨e.1.1.1.1.1, e.1.1.1.1.2, e.1.1.1.2, e.1.1.2, e.1.2, .inl e.2⟩

/-- A header with room for a record, or with the length of a buffer. -/
def sized (n : Nat) : CmdHdr := { cmd with len := n, addr := 0x1000 }

theorem witness_QueriesAnswerFromTheRecords :
    (∀ c ∈ [HostCmd.imageQuery, .gnssQuery, .estQuery, .ctrlQuery, .allocQuery, .conseqQuery, .trimQuery, .refStatus 0],
      (hosted live).Accepts (sized 64) c) ∧
    (hosted live).Accepts (sized 16384) .envelopeQuery ∧ (sized 64).dma = none ∧
    (hosted live).Accepts { sized 64 with dma := some 0 } .trimQuery ∧
    (hosted live).Accepts { sized 4096 with opts := 3 } .conseqQuery ∧
    ((hosted live).refDesc 0).isSome = false ∧
    (hosted (refImage live)).Accepts { sized 32 with opts := 1 } (.refStatus 15) ∧
    ((hosted (refImage live)).refDesc 15).isSome = true := by
  have a : ∀ c ∈ [HostCmd.imageQuery, .gnssQuery, .estQuery, .ctrlQuery, .allocQuery, .conseqQuery, .trimQuery, .refStatus 0],
      takes (sized 64) c (hosted live) = true := by decide +kernel
  refine ⟨fun c h => accepts_of (a c h), accepts_of ?_, rfl, accepts_of ?_, accepts_of ?_, ?_, accepts_of ?_, ?_⟩ <;>
    decide +kernel


theorem witness_ImageAndReceiverCommands :
    (∀ c ∈ [HostCmd.nop, .imageActivate 0, .imageDiscard, .analogTest 15 2, .gnssSnapshot 0 999999999 64 15 1, .timeLeap 37,
      .roleExchange, .btrReset 0xFFFF 0xFF 0xFF, .btrOutput 0xFF 0], (hosted live).Accepts cmd c) ∧
    (∀ c ∈ [HostCmd.imageLoad, .gnssCorrection []], (hosted live).Accepts (sized 4096) c) ∧
    live.img.slot ≠ .loading ∧ (∀ n, live.img.slot ≠ .pending n) ∧ live.activateCheck 0 ≠ 0 ∧ live.gns.snap.state = 0 ∧
    live.channelAdmitted 15 = false ∧ live.ctl.mode = 0 ∧
    (let s := (hosted live).withImg { live.img with slot := .loading }
     s.img.slot = .loading ∧ s.Accepts (sized 64) .imageLoad ∧ s.Accepts cmd .imageDiscard) ∧
    (let s := hosted live
     let s := (s.withImg { s.img with slot := .verified, staged := imageWith 0 [] }).withSec
       { s.sec with keys := vset s.sec.keys 0 ⟨true, true, 1, [], []⟩ }
     s.Accepts cmd (.imageActivate 0) ∧ s.activateCheck 0 = 0) ∧
    (let s := withImage 0 [(6, [0, 2, 5] ++ blank 29 []), (7, [5, 2, 15] ++ blank 45 [])] (hosted live)
     let s := s.withEst { s.est with refs := vset s.est.refs 0 { RefSt.reset with state := 2 } }
     s.Accepts cmd (.analogTest 15 0) ∧ s.channelAdmitted 15 = true) ∧
    (let s := (hosted paired).withRdn { paired.rdn with pstate := 3, role := 2, pairedFrames := 1500, score := 0 }
     let s := s.withCsq { s.csq with state := 1 }
     s.Accepts cmd .roleExchange ∧ s.exchAllowed = true ∧ s.rdn.exchFrame = none ∧ s.rdn.exchAsk = false) := by
  have a : ∀ c ∈ [HostCmd.nop, .imageActivate 0, .imageDiscard, .analogTest 15 2, .gnssSnapshot 0 999999999 64 15 1, .timeLeap 37,
      .roleExchange, .btrReset 0xFFFF 0xFF 0xFF, .btrOutput 0xFF 0], takes cmd c (hosted live) = true := by decide +kernel
  have b : ∀ c ∈ [HostCmd.imageLoad, .gnssCorrection []], takes (sized 4096) c (hosted live) = true := by decide +kernel
  refine ⟨fun c h => accepts_of (a c h), fun c h => accepts_of (b c h), by decide +kernel, (fun n h => nomatch h), ?_, ?_, ?_, ?_,
    ⟨?_, accepts_of ?_, accepts_of ?_⟩, ⟨accepts_of ?_, ?_⟩, ⟨accepts_of ?_, ?_⟩, accepts_of ?_, ?_⟩ <;> decide +kernel

/-- Points 4 and 5 in a host route block of type 1. -/
def hostRoutes : List Byte := blank 24 [(2, [5]), (4, [4]), (8, [2, 1])]

theorem witness_PointCanLogAndMemoryCommands :
    (let s := withImage 0 [(0x0C, hostRoutes)] (hosted live)
     s.Accepts cmd (.pointWrite 5 0 3 1) ∧ (s.hostRoute 5).any (fun r => rtType r == 1) = true ∧ (s.point 5).full = none ∧
       s.Accepts cmd (.pointWrite 6 0 0 1) ∧ s.hostRoute 6 = none) ∧
    (hosted live).Accepts (sized 512) (.streamSet 3 64 []) ∧
    (hosted live).Accepts { sized 512 with dma := some 8 } (.streamSet 3 64 []) ∧
    (let s := hosted live
     let s := s.setCan 2 { s.canCtl 2 with state := 0 }
     s.Accepts (sized 64) (.canSend 2 2 0x7FF []) ∧ s.canFree 2 = some 0) ∧
    (let s := withImage 0 [(0x0E, blank 0xA0 [(0x41, [1])])] (hosted live)
     s.Accepts cmd (.canAbort 0 15) ∧ s.canReserved 0 15 = true ∧ s.Accepts cmd (.canAbort 0 16) ∧ s.canReserved 0 16 = false ∧
       ((s.canCtl 0).buf 16).pending = false) ∧
    (let s := hosted live
     let s := s.setCan 1 ((s.canCtl 1).setBuf 31 { (s.canCtl 1).buf 31 with pending := true })
     s.Accepts cmd (.canAbort 1 31) ∧ ((s.canCtl 1).buf 31).pending = true ∧ (s.canCtl 1).live = false) ∧
    (let s := hosted live
     s.Accepts cmd (.canRecover 0) ∧ (s.canCtl 0).state ≠ 2 ∧ s.Accepts cmd (.canMode 2 1) ∧ s.canUse 2 0 = false ∧
       s.canUse 2 2 = false ∧ s.Accepts cmd (.logRead 0 1) ∧ s.log.state ≠ .running ∧
       (s.setCan 2 { s.canCtl 2 with state := 2 }).Accepts cmd (.canRecover 2) ∧
       (s.withLog { s.log with state := .running }).Accepts { cmd with opts := 3 } (.logRead 0 4194304)) ∧
    (let s := hosted live
     s.Accepts cmd (.memTest 0xFF 0) ∧ s.mem.test = none ∧ s.Accepts cmd (.memTest 63 1) ∧
       (63 < 64 ∧ (s.bank 63).owner = 15 ∨ (s.bank 63).owner ≠ 15)) := by
  refine ⟨⟨accepts_of ?_, ?_, ?_, accepts_of ?_, ?_⟩, accepts_of ?_, accepts_of ?_, ⟨accepts_of ?_, ?_⟩,
    ⟨accepts_of ?_, ?_, accepts_of ?_, ?_, ?_⟩, ⟨accepts_of ?_, ?_, ?_⟩,
    ⟨accepts_of ?_, ?_, accepts_of ?_, ?_, ?_, accepts_of ?_, ?_, accepts_of ?_, accepts_of ?_⟩,
    accepts_of ?_, ?_, accepts_of ?_, ?_⟩ <;> decide +kernel

theorem witness_TickCommandsWaitForTheirTick :
    (∀ c ∈ [HostCmd.gridOrigin 0 0 0, .refEnable 15 1, .refTarget 15 1 0 0, .dpMode 5 2, .setpoint 7 2 0 0 0, .gainSelect 0xFF,
      .berthSet 0 0 0 1, .thrusterEnable 0xFFFF 0, .trimStart 0 0, .trimSet 0 0, .trimStop, .timeStepAccept 255,
      .timeSet 0 999999999 0, .claimResume],
      (hosted live).Accepts cmd c ∧ ((hosted live).withRdn { live.rdn with pstate := 3 }).Accepts cmd c) ∧
    (hosted live).Accepts (sized 32) (.trackLoad []) ∧ live.rdn.pstate ≠ 3 ∧ (sized 32).dma = none := by
  have a : ∀ c ∈ [HostCmd.gridOrigin 0 0 0, .refEnable 15 1, .refTarget 15 1 0 0, .dpMode 5 2, .setpoint 7 2 0 0 0, .gainSelect 0xFF,
      .berthSet 0 0 0 1, .thrusterEnable 0xFFFF 0, .trimStart 0 0, .trimSet 0 0, .trimStop, .timeStepAccept 255,
      .timeSet 0 999999999 0, .claimResume], takes cmd c (hosted live) = true ∧
        takes cmd c ((hosted live).withRdn { live.rdn with pstate := 3 }) = true := by decide +kernel
  exact ⟨fun c h => ⟨accepts_of (a c h).1, accepts_of (a c h).2⟩, accepts_of (by decide +kernel), by decide +kernel⟩

/-- A command that waits for the tick of frame 1. -/
def waiting (c : HostCmd) : Waiting := { ring := 0, ref := 0, cmd := c, hdr := cmd, time := 0, due := 1, desc := [] }

/-- In a DP mode. -/
def inMode (m : Nat) (s : State) : State := s.withCtl { s.ctl with mode := m }

/-- Gain set 3, for modes 2 and 3. -/
def gainImage (s : State) : State := withImage 0 [(8, [3, 12] ++ blank 62 [])] s

theorem witness_WaitingCommandsTakeEffect :
    (let s := live.withHrg { live.hrg with waiting := [waiting .trimStop, waiting .claimResume] }
     let s := s.withCrs { s.crs with frame := 1 }
     s.hrg.waiting = waiting .trimStop :: [waiting .claimResume] ∧
       ∀ x ∈ [waiting .trimStop, waiting .claimResume], newer x.due s.crs.frame = false) ∧
    (live.ctl.mode = 0 ∧ (inMode 5 live).ctl.mode ≠ 0 ∧ live.refDesc 15 = none ∧ ((refImage live).refDesc 15).isSome = true) ∧
    ((refImage live).refDesc 0).any (fun d => !rfNeeds d) = true ∧ ((refImage live).refDesc 1).any rfNeeds = true ∧
    (0 ≠ (inMode 1 live).ctl.mode ∧ (inMode 1 live).entryReason 0 = 0 ∧ live.entryReason 5 ≠ 0 ∧ live.entryReason 255 ≠ 0) ∧
    (tbit 1 0 = true ∧ (inMode 2 live).ctl.mode ≠ 3 ∧ tbit 2 1 = true ∧ (inMode 4 live).ctl.mode ≠ 2 ∧ (inMode 4 live).ctl.mode ≠ 3) ∧
    (tbit 1 1 = false ∧ tbit 1 2 = false ∧ (inMode 3 live).ctl.mode = 3 ∧ live.ctl.cameFrom = none ∧ live.ctl.spWait = []) ∧
    ((0 : Nat) ≠ 0xFF ∧ (gainImage live).gainSetOf 0 = none ∧
      ((gainImage live).gainSetOf 3).any (fun g => tbit (u8 g 1) (inMode 3 live).ctl.mode) = true ∧
      ((gainImage live).gainSetOf 3).any (fun g => !tbit (u8 g 1) (inMode 4 live).ctl.mode) = true) ∧
    ((inMode 4 live).ctl.mode = 4 ∧ live.ctl.mode ≠ 4 ∧
      ∀ b ∈ (List.range 2).map (recAt (blank 32 [(8, [0xD0, 7, 2, 0]), (24, [0, 0, 0, 0])]) 16),
        u8 b 10 ≤ 2 ∧ u8 b 11 = 0 ∧ u16 b 8 ≤ live.trackSpeedMax) ∧
    (live.ballast.isEmpty = true ∧ trimming.ballast.isEmpty = false) ∧
    (let s := live.withTim { live.tim with pending := true, stepSeq := 255, pendSrc := 5 }
     live.tim.pending = false ∧ s.tim.pending = true ∧ 0 ≠ s.tim.stepSeq ∧ 255 = s.tim.stepSeq) ∧
    (live.tim.src = 0 ∧ ({ live.tim with src := 5 } : Tim).src ≠ 0) := by
  decide +kernel

theorem witness_DoorbellAndRingRows :
    live.hostServes = true ∧ (live.ring 8).retry = false ∧
    (∀ r ∈ [0, 7, 8, 21], (live.instant 0).answers (doorbellOffset r) = true ∧
      (live.instant 0).accessStalled (doorbellOffset r) = false) ∧
    ((hosted live).ring 0).rejects true 2 = false ∧ ((hosted live).ring 0).rejects true 0 = true ∧
    ((live.setRing 21 { live.ring 21 with state := .running, partPos := 3 }).ring 21).rejects false 3 = false ∧
    (live.ring 21).rejects false 0 = true ∧
    ((live.instant 0).answers 0x2010 = true ∧ (live.instant 0).accessStalled 0x2010 = false) ∧
    ((1 : Word).getLsbD 1 = false ∧ (1 : Word).getLsbD 0 = true ∧ (live.ring 0).en = false ∧
      4 ≤ bits (live.ring 0).rcfg.toNat 0 4 ∧ bits (live.ring 0).rcfg.toNat 0 4 ≤ 12 ∧
      ({ live.ring 0 with baseLo := 8 } : Ring).baseLo ≠ 0 ∧ (live.ring 0).state = .disabled ∧
      (live.ring 0).baseLo = 0 ∧ (live.ring 0).baseHi = 0) ∧
    ((2 : Word).getLsbD 1 = true ∧ (0 : Word).getLsbD 0 = false) ∧
    (live.setRing 7 { live.ring 7 with state := .resetting }).ring 7 = { live.ring 7 with state := .resetting, outst := [] } := by
  decide +kernel

/-- An accepted NOP that has ended. -/
def ended : Outst :=
  { ref := 0, code := 1, tag := 0, index := 0, acceptFrame := 0, accepted := true, fenced := none
    done := some { status := 0, result := 0, frame := 0 } }

theorem witness_HostAccessRows :
    live.hostServes = true ∧
    (let s := live.withHrg { live.hrg with accessRetry := [.fetch 0, .bufRead 1, .outWrite 7, .entry 21] }
     ∀ k ∈ [HostAccess.fetch 0, .bufRead 1, .outWrite 7, .entry 21], k ∈ s.hrg.accessRetry) ∧
    (let s := live.setRing 7 { live.ring 7 with state := .running, hostPos := 1, phaseWait := some 0 }
     let s := { s with clk := { s.clk with tickAt := 1000000, now := 1000000 } }
     s.runs = true ∧ (s.ring 7).state = .running ∧ s.canFetch 7 = true ∧
       (s.ring 7).phaseWait = some 0 ∧ 0 + 1000000 ≤ (s.instant 0).clk.now) ∧
    (let s := live.setRing 0 { live.ring 0 with state := .running, outst := [ended] }
     let s := s.setRing (s.cplRing 0) { s.ring (s.cplRing 0) with state := .running }
     s.cplReady 0 = some (ended, { status := 0, result := 0, frame := 0 })) ∧
    (let s := live.setRing 21 { live.ring 21 with msgDue := true }
     (s.ring 21).msgDue = true ∧ ((s.ring 21).lastMsg.getD 0) + 1000 * bits (s.ring 21).rcfg.toNat 13 10 ≤ (s.instant 0).clk.now) ∧
    (let s := live.withEvt { live.evt with msgDue := some .alarm, lastMsg := some 0 }
     s.evt.msgDue = some .alarm ∧ s.evt.lastMsg = some 0 ∧
       0 + 1000 * s.effField .evtCfg 15 10 ≤ (s.instant 999899).clk.now) ∧
    (let x : Xfer := { kind := 1, tag := 0, xfer := 0, rest := [0], pos := 0, error := false }
     let s := live.withHrg { live.hrg with xfers := [x], bulkPages := 1 }
     let s := s.setRing 21 { s.ring 21 with state := .running }
     s.log.reads = [] ∧ s.hrg.xfers = [x] ∧ x.error = false ∧ 0 < x.rest.length ∧ s.ringRoom 21 = true ∧
       s.bulkFree (s.bulkPlace 1) 1 = true) := by
  decide +kernel

/-- Quoin entries: 0 on UART 7 with no checksum setting, 1 on IMU port 1 in DRDY timing, 2 on IMU port 0 in SYNC timing,
3 on analog channel 15; silence after 0 courses. -/
def quoinImage (s : State) : State :=
  withImage 0 [(7, [0, 0, 7] ++ blank 45 [] ++ [1, 1, 1] ++ blank 45 [(0x19, [4])] ++ [2, 1, 0] ++ blank 45 [] ++ [3, 2, 15] ++ blank 45 []),
    (0x0E, blank 0xA0 [(0x20, [1, 0, 0, 0x80])])] s

theorem witness_SerialAndNetworkSentences :
    (let s := quoinImage live
     s.runs = true ∧ (s.quoinAt 0 7).isSome = true ∧
       (let s := s.withSni { s.sni with uarts := vset s.sni.uarts 7 (some 0) }
        vget s.sni.uarts 7 none = some 0) ∧
       checkSentence false (ascii "$GPZDA*00" ++ [0x0D, 0x0A]) = .bad ∧
       checkSentence true (ascii "$GPZDA,1" ++ [0x0D, 0x0A]) = .ok (ascii "GPZDA") [ascii "1"]) ∧
    (let s := quoinImage live
     let s := s.withPnt { s.pnt with linkA := 1 }
     Port.a ≠ .m ∧ s.portLive .a = true ∧ tbit (u32 (s.sect 0x0E) 0x20) 0 = true ∧ tbit (u32 (s.sect 0x0E) 0x20) 31 = true ∧
       [0#8].take 6 ≠ ascii "UdPbC" ++ [0#8] ∧ (ascii "UdPbC" ++ [0#8, 0x24]).take 6 = ascii "UdPbC" ++ [0#8]) := by
  decide +kernel

/-- An IMU frame that passes its check. -/
def imuFrame : List Byte := let b := blank 30 [(0, [0xA5])]; b ++ (lebytes 2 (crc16 b).toNat).reverse

theorem witness_ImuAndAnalogRows :
    (let s := quoinImage live
     s.runs = true ∧ (s.quoinAt 1 0).any (fun q => qnSet q 2 1 == 0 && (s.instant 0).devTime % (imuPeriod (qnSet q 0 2) : Int) == 0) = true ∧
       (s.quoinAt 1 1).any (fun q => qnSet q 2 1 == 1) = true) ∧
    (u8 (padTo 32 imuFrame) 0 = 0xA5 ∧ ube (padTo 32 imuFrame) 0x1E 2 = (crc16 ((padTo 32 imuFrame).take 0x1E)).toNat) ∧
    ¬ (u8 (padTo 32 []) 0 = 0xA5 ∧ ube (padTo 32 []) 0x1E 2 = (crc16 ((padTo 32 []).take 0x1E)).toNat) ∧
    (let s := quoinImage live
     let s := s.withSni { s.sni with imus := vset s.sni.imus 1 { ImuPort.reset with edge := some 0, lastEdge := some 0 } }
     (vget s.sni.imus 1 ImuPort.reset).edge = some 0 ∧ (vget s.sni.imus 1 ImuPort.reset).lastEdge = some 0 ∧
       (s.quoinAt 1 1).any (fun q => decide (0 + imuPeriod (qnSet q 0 2) * 3 / 2 ≤ (s.instant 750000).clk.now)) = true) ∧
    ((quoinImage live).quoinAt 2 15).isSome = true ∧
    (let s := quoinImage live
     let s := s.withCrs { s.crs with courseCnt := 1 }
     s.crs.course = 0 ∧ (s.quoin 3).any (fun q => !(s.entrySt (qnEntry q)).silent &&
       decide (qnSilence q < s.crs.courseCnt - (s.entrySt (qnEntry q)).since)) = true) := by
  decide +kernel

theorem witness_LinkFramesAreTaken :
    live.runs = true ∧
    (∀ typ, (linked 2 live).Hears (frameOf 1) typ []) ∧
    (linked 2 paired).forwards = false ∧ ((linked 2 paired).withRdn { paired.rdn with pstate := 3 }).forwards = true ∧
    ((cascaded 2 live).Hears { frameOf 1 with src := 2 } 0x0A [1] ∧ (cascaded 2 live).importOf 2 (u8 [1] 0) = some 0) := by
  refine ⟨?_, fun typ => hears_of ⟨?_, ?_, ?_, ?_, rfl, ?_, ?_⟩, ?_, ?_, hears_of ?_, ?_⟩ <;> decide +kernel

theorem witness_ReceiverRows :
    live.runs = true ∧ live.effField .gnsAnt 0 1 = 1 ∧ live.effField .gnsAnt 2 1 = 1 ∧ (live.gant 1).retryAt = none ∧
    (let s := live.withGns { live.gns with ants := vset live.gns.ants 1 { GnsAnt.reset with retryAt := some 0 } }
     (s.gant 1).retryAt = some 0 ∧ 0 ≤ (s.instant 0).clk.now) ∧
    (let s := live.withGns { live.gns with chans := vset live.gns.chans 127 { GnsChan.reset with signal := 1 } }
     (s.chan 1 63).signal ≠ 0) ∧
    ((live.withRegs { live.regs with eff := live.regs.eff.set CfgReg.gnsNotch.idx 0 }).effField .gnsNotch 0 1 = 0 ∧
      live.effField .gnsNotch 0 1 = 1) ∧
    (let s := live.withGns { live.gns with notches := vset live.gns.notches 15 { Notch.reset with active := true } }
     let s := { s with clk := { s.clk with tickAt := 100000000, now := 100000000 } }
     (s.notch 15).active = true ∧ (s.notch 15).cand + 100000000 ≤ (s.instant 0).clk.now) ∧
    (let s := live.withGns { live.gns with corrOn := true }
     s.gns.corrOn = true ∧ s.gns.stnPos = none) ∧
    (let s := live.withGns { live.gns with ants := vset live.gns.ants 1 { GnsAnt.reset with spoofed := true, cleanFrom := some (-300000000000) } }
     (s.gant 1).spoofed = true ∧ (s.gant 1).cleanFrom = some (-300000000000) ∧
       -300000000000 + 1000000000 * (s.effField .gnsLimits 12 8 : Int) ≤ (s.instant 0).frameTime) ∧
    (let s := live.withGns { live.gns with snap := { live.gns.snap with state := 1, notBefore := live.clk.base } }
     s.gns.snap.state = 1 ∧ s.gns.snap.notBefore ≤ (s.clk.tickAt : Int) + s.clk.base) ∧
    (let s := live.withGns { live.gns with snap := { live.gns.snap with state := 2, cmd := some (waiting (.gnssSnapshot 0 0 2 1 0)) } }
     s.gns.snap.state = 2 ∧ s.gns.snap.startNow + 1000000 * s.gns.snap.dur ≤ (s.instant 0).clk.now ∧
       s.gns.snap.cmd = some (waiting (.gnssSnapshot 0 0 2 1 0))) := by
  decide +kernel

/-- Field `i`, `n` bits wide, of a configuration register in effect. -/
def field (r : CfgReg) (i n v : Nat) (s : State) : State :=
  let w := (s.effReg r).toNat
  s.withRegs { s.regs with eff := s.regs.eff.set r.idx (word (w - bits w i n * 2 ^ i + v * 2 ^ i)) }

theorem witness_TimeSourceRows :
    live.runs = true ∧
    (∀ n ∈ [1, 5], (live.instant 0).followRole.timAdvance.sourceOffset n = none) ∧
    (let s := live.withYlk { live.ylk with srcOffset := some (-7) }
     let b := (s.instant 0).followRole.timAdvance
     b.sourceOffset 5 = some (-7) ∧ b.tim.src ≠ 5 ∧ (b.timSrc 5).qualified = false) ∧
    (let s := (live.withYlk { live.ylk with srcOffset := some (-7) }).setTimSrc 5 { TimSrc.reset with qualified := true }
     let b := (s.instant 0).followRole.timAdvance
     b.sourceOffset 5 = some (-7) ∧ b.tim.src ≠ 5 ∧ (b.timSrc 5).qualified = true ∧ b.tim.state = 0) ∧
    (let s := (live.withYlk { live.ylk with srcOffset := some (-7) }).withTim { live.tim with src := 5, state := 1 }
     let b := (s.instant 0).followRole.timAdvance
     b.sourceOffset 5 = some (-7) ∧ b.tim.src = 5) ∧
    (let s := live.setTimSrc 5 { TimSrc.reset with goodSecs := 65535 }
     (s.timSrc 5).qualified = false ∧ s.effField .timCfg 13 8 ≤ (s.timSrc 5).goodSecs) ∧
    (let s := (live.withTim { live.tim with src := 1 }).setTimSrc 1 { TimSrc.reset with qualified := true, lossSecs := 65535 }
     (s.timSrc 1).qualified = true ∧ s.tim.src = 1 ∧ s.effField .timCfg 21 4 ≤ (s.timSrc 1).lossSecs) ∧
    (let s := field .timCfg 12 1 1 live
     let s := (s.withTim { s.tim with src := 2 }).setTimSrc 1 { TimSrc.reset with qualified := true, offset := some 0, aboveSecs := 65535 }
     s.timRank 1 = some 0 ∧ s.timRank 2 = some 1 ∧ s.effField .timCfg 12 1 = 1 ∧ s.timSelectable 1 = true ∧
       s.effField .timServo 17 8 ≤ (s.timSrc 1).aboveSecs) ∧
    (live.pwr.inReset = false ∧ decide (live.hoLimit < (live.instant 0).timUnc) = true ∧ live.tim.hoExceeded = false) ∧
    (let s := field .timExt 1 1 1 live
     s.effField .timExt 1 1 = 1 ∧ b2n false = s.effField .timExt 2 1) ∧
    (let s := field .timPps 0 1 1 (live.withTim { live.tim with state := 2 })
     s.effField .timPps 0 1 = 1 ∧ s.tim.state ≠ 0 ∧ s.tim.ppsEnd = none ∧ (s.instant 0).ppsBehind ≤ 1 ∧
       ({ s.tim with ppsEnd := some 0 } : Tim).ppsEnd = some 0) ∧
    (∀ i ∈ [0, 3], capFilter (live.effField .timCapCfg (4 * i + 2) 2) ≤ 10000 ∧ live.effField .timCapCfg (4 * i) 2 ∈ [0, 1, 2, 3] ∧
      (field .timCapCfg (4 * i) 2 3 live).effField .timCapCfg (4 * i) 2 = 3) ∧
    ((live.capture 3).lastEdge = none ∧ (live.capture 3).fifo.length < 16) ∧
    (let s := live.withTim { live.tim with caps := vset live.tim.caps 3 { live.capture 3 with lastEdge := some 0 } }
     (s.capture 3).lastEdge = some 0 ∧ (s.instant 0).clk.now < 0 + 1000) ∧
    (let s := withImage 0 [] live
     let s := field .timPtpCfg 0 2 3 (s.withPnt { s.pnt with linkA := 1, linkB := 1 })
     let s := s.withTim { s.tim with ports := vset s.tim.ports 0 { PtpPort.reset with state := 6 } }
     s.portLive .a = true ∧ s.portLive .b = true ∧ s.ptpOn 0 = true ∧ s.ptpOn 1 = true ∧ s.effField .timPtpCfg 4 1 < 2 ∧
       s.effField .timPtpCfg 9 7 < 128 ∧ s.effField .timPtpCfg 2 1 = 0 ∧ (s.ptpPort 0).state = 6 ∧
       (s.instant 0).elapsed (s.ptpPort 0).syncAt (logInterval (s.effField .timPtpRate 0 4)) = true ∧
       (s.instant 0).elapsed (s.ptpPort 0).annSent (logInterval (s.effField .timPtpRate 4 4)) = true ∧
       (s.instant 0).elapsed (s.ptpPort 0).reqAt (logInterval (s.effField .timPtpRate 8 4)) = true ∧
       (field .timPtpCfg 3 1 1 s).effField .timPtpCfg 3 1 = 1 ∧
       (let u := (s.withTim { s.tim with ports := vset s.tim.ports 0 { PtpPort.reset with state := 9 } })
        (u.ptpPort 0).state = 9) ∧
       (let u := { s with clk := { s.clk with tickAt := 1000000000000, now := 1000000000000 } }
        (u.ptpPort 0).annAt + u.effField .timPtpRate 12 4 * logInterval (u.effField .timPtpRate 4 4) ≤ (u.instant 0).clk.now)) := by
  decide +kernel

/-- A template of kind 1 with no variables, and its descriptor. -/
def emptyTemplate : List Byte := blank 40 [(2, [1]), (0x20, lebytes 2 40)]
def descriptor : List Byte := blank 64 [(2, [1]), (0x0C, [0xFF, 0xFF, 0xFF, 0xFF]), (0x2C, lebytes 4 16)]

/-- Bank 0 belongs to pair 0. -/
def solving : State :=
  let s := withImage 0 [(0x0A, emptyTemplate)] live
  s.withMem { s.mem with banks := Vector.replicate 64 { Bank.reset with owner := 0 } }

/-- Two courses on, with the course count past every deadline. -/
def later (s : State) : State := s.withCrs { s.crs with courseCnt := 1 }

/-- The problem of that descriptor. -/
def aProblem : Problem := solving.problemOf descriptor

/-- A ballast system of a pump and a valve, on points 1 and 2. -/
def ballasted (s : State) : State :=
  withImage 0 [(0x0B, blank 64 [(1, [1, 1])] ++ blank 16 [(12, [1])] ++ blank 16 [(12, [2])])] s

theorem witness_ArrayRows :
    (solving.runs = true ∧ descriptor.length = 64 ∧ u8 descriptor 0x0B ≤ 2 ∧ solving.vsl.stopped = false ∧
      descLengths (blank 64 []) = false ∧ imgTemplate live.image (u16 descriptor 0) = none ∧ descLengths descriptor = true ∧
      imgTemplate solving.image (u16 descriptor 0) = some emptyTemplate ∧ solving.vsl.queue.length < 192 ∧
      (solving.instant 0).problemGood ((solving.instant 0).problemOf descriptor) emptyTemplate = true ∧
      (solving.instant 0).problemGood ((solving.instant 0).problemOf (blank 64 [(2, [1]), (4, [1]), (0x2C, lebytes 4 16)])) emptyTemplate = false) ∧
    (let s := solving.withVsl { solving.vsl with queue := List.replicate 192 { aProblem with analysis := true, priority := false } }
     192 ≤ s.vsl.queue.length ∧ (s.instant 0).problemGood ((s.instant 0).problemOf descriptor) emptyTemplate = true ∧
       (takeLast (fun x => x.analysis && !x.priority) s.vsl.queue).isSome = true ∧
       (takeLast (fun x : Problem => x.analysis && !x.priority) (List.replicate 192 { aProblem with priority := true })).isSome = false) ∧
    estimating.vsl.stopped = true ∧
    (let s := live.withVsl { live.vsl with feed := [aProblem] }
     s.vsl.feed = [aProblem] ∧ s.vsl.queue.length < 128 ∧
       128 ≤ ({ live.vsl with queue := List.replicate 128 aProblem } : Vsl).queue.length) ∧
    (let s := live.withVsl { live.vsl with queue := [aProblem] }
     (s.instant 0).deadlinePassed aProblem = false ∧ s.freeLane = some 0 ∧ ((later s).instant 0).deadlinePassed aProblem = true ∧
       (s.withVsl { s.vsl with lanes := Vector.replicate 64 { s.lane 0 with state := 2 } }).freeLane = none) ∧
    (let s := live.setLane 63 { live.lane 63 with job := some aProblem }
     (s.lane 63).job = some aProblem ∧ (s.instant 0).deadlinePassed aProblem = false ∧
       ((later s).instant 0).deadlinePassed aProblem = true) ∧
    (let s := live.withCrs { live.crs with courseCnt := 16384 }
     let q := s.setLane 63 { s.lane 63 with state := 1, passes := 15 }
     (s.lane 63).job = none ∧ (s.lane 63).state = 0 ∧ (q.lane 63).state = 1 ∧ q.katDue (q.lane 63) = true ∧
       (q.withCrs { q.crs with courseCnt := (q.lane 63).lastKat }).katDue (q.lane 63) = false ∧
       16 ≤ (q.lane 63).passes + 1 ∧ 14 + 1 < 16) ∧
    (let s := ballasted live
     let c : PumpSt := { PumpSt.reset with cmd := true }
     let s := s.withTrim { s.trim with valves := vset s.trim.valves 0 c, pumps := vset s.trim.pumps 0 c }
     let z := { s with clk := { s.clk with tickAt := 10000000000, now := 10000000000 } }
     let g := s.withPnt { s.pnt with points := [(1, { (s.point 1) with value := 1, full := some 0, qual := 0 }), (2, { (s.point 2) with value := 1, full := some 0, qual := 0 })] }
     0 < u8 s.ballast 2 ∧ 0 < u8 s.ballast 1 ∧ (z.instant 0).valveFaulty 0 = true ∧ (z.instant 0).pumpFaulty 0 = true ∧
       (g.instant 0).valveFaulty 0 = false ∧ (g.valveSt 0).cmd = true ∧ (g.instant 0).valveOpen 0 = true ∧
       (g.instant 0).pumpFaulty 0 = false ∧ (g.pumpSt 0).cmd = true ∧ (g.instant 0).pumpRuns 0 = true) := by
  decide +kernel

/-- The buttress acts on one input, one output and one remote of unit 9. -/
def acting (s : State) : State :=
  s.withBtr { s.btr with taken := true, fault := false, params := blank 64 [(0, [1, 1, 1]), (48, [9])] }

/-- A safety frame of unit 9 with a sequence number. -/
def safetyFrame (seq : Byte) : List Byte :=
  let b := blank 60 [(0, lebytes 4 0x53465442), (4, [1, 9]), (8, [seq]), (0x16, [0xFF, 0xFF])]
  b ++ lebytes 4 (crc32c b).toNat

theorem witness_ButtressRows :
    (let s := acting live
     s.runs = true ∧ s.btr.fault = false ∧ s.btr.acts = true ∧ s.crs.course = 0) ∧
    (let s := live.withBtr { live.btr with beatLost := 3 }
     3 ≤ s.btr.beatLost ∧ s.btr.lostByBeat = false ∧ s.btr.fault = false) ∧
    (live.setBtrOut 7 { live.btrOut 7 with on := true }).btrOut 7 = { live.btrOut 7 with on := true } ∧
    ((acting (inCourse 1 [9] live)).instant 800080).canMiss 0x0A = true ∧
    (let s := acting live
     let s := s.setBtrIn 0 { s.btrIn 0 with disc := 1 }
     0 < min 16 s.btr.nIn ∧ (s.btrIn 0).fault = false ∧ max 1 (u16 (s.btr.recIn 0) 2) ≤ (s.btrIn 0).disc) ∧
    (let s := acting (live.withPnt { live.pnt with linkB := 3 })
     let c := s.setBtrRem 0 { s.btrRem 0 with seq := some 4, copies := [{ port := .a, bytes := safetyFrame 5, waited := 0 }] }
     Port.b ≠ .m ∧ s.portUp .b = true ∧ s.btr.frameValid [] = false ∧ s.btr.frameValid (safetyFrame 5) = true ∧
       s.btr.rems.filter (fun n => u8 (s.btr.recRem n) 0 == u8 (safetyFrame 5) 5) = [0] ∧
       (s.btrRem 0).other .b (word (u32 (safetyFrame 5) 8)) = none ∧ s.btrOld .b (safetyFrame 5) 0 = false ∧
       (s.btrRem 0).seq = none ∧ newer (word (u32 (safetyFrame 5) 8)) 4 = true ∧
       (c.btrRem 0).other .b (word (u32 (safetyFrame 5) 8)) = some { port := .a, bytes := safetyFrame 5, waited := 0 } ∧
       (let d := s.setBtrRem 0 { s.btrRem 0 with seq := some 5 }
        d.btrOld .b (safetyFrame 5) 0 = true ∧ newer (word (u32 (safetyFrame 5) 8)) 5 = false) ∧
       safetyFrame 5 ≠ (safetyFrame 5).set 0x14 1) ∧
    (let s := acting live
     let x : BtrRem := { s.btrRem 0 with copies := [{ port := .a, bytes := [], waited := 1 }], fresh := true, timeout := 4, silent := 4, degraded := some 0, forced := false }
     0 < min 8 s.btr.nRem ∧ (∃ c ∈ x.copies, u16 s.btr.params 6 < c.waited) ∧ x.fresh = true ∧ x.timeout ≤ x.silent ∧
       x.degraded = some 0 ∧ x.forced = false ∧ s.btr.degLimit ≤ 0 ∧ (s.setBtrRem 0 x).btrRem 0 = x) ∧
    (let s := acting live
     let x := s.btrOut 0
     0 < min 8 s.btr.nOut ∧ x.tested = false ∧ x.on = false ∧ x.latchedOff = false ∧ s.btr.degLimit ≤ 0 ∧
       x.startStep = 0 ∧ (∀ k ∈ [1, 2], ((s.setBtrOut 0 { x with startStep := k }).btrOut 0).startStep = k ∧
         x.pulseAt + 1000 * u16 (s.btr.recOut 0) 2 ≤ (s.instant 0).clk.now) ∧
       (let y : BtrOut := { x with on := true, degraded := some 0, pulse := none, testIn := 0 }
        (s.setBtrOut 0 y).btrOut 0 = y) ∧
       ((s.setBtrOut 0 { x with pulse := some true }).btrOut 0).pulse = some true ∧
       (s.setBtrOut 0 { x with pulse := some true, pulseAt := s.clk.tickAt + 500080 }).pulseEnd 0 ≤ 899899) := by
  decide +kernel

/-- On the networks, with Zwilux port 4000: an inbound entry of node 2 block 3 for points 8 and 9, taking commands and stale
after 4 courses. -/
def networked (s : State) : State :=
  let s := withImage 0 [(0x0C, blank 24 [(3, [8]), (4, [8]), (8, [2, 1, 4]), (16, [2, 0, 3])]),
    (0x0E, blank 0xA0 [(0x16, lebytes 2 4000), (0x26, [1])])] s
  s.withPnt { s.pnt with linkA := 3, linkB := 1, linkM := true }

/-- A Zwilux message of a type with two records of point type t, and a READ. -/
def zwilux (typ t : Byte) : List Byte :=
  let b := blank 36 [(0, lebytes 2 0x585A), (2, [1, typ]), (4, [2, 0, 3]), (8, [5]), (0x10, [2]), (0x12, [40]), (0x18, [t]), (0x20, [t])]
  b ++ lebytes 4 (crc32 b).toNat
def zwiluxRead : List Byte :=
  let b := blank 24 [(0, lebytes 2 0x585A), (2, [1, 4]), (0x10, [32]), (0x12, [28])]
  b ++ lebytes 4 (crc32 b).toNat

/-- A datagram to the part. -/
def datagram (frag : Bool) (dst : Word) (dport : Nat) : UdpHdr := { src := 7, dst := dst, dport := dport, frag := frag }

theorem witness_NetworkAndPointRows :
    (let s := networked live
     s.runs = true ∧ s.firmwareRuns = true ∧ (∀ p ∈ [Port.a, .b, .m], s.portLive p = true) ∧
       (∀ p ∈ [Port.a, .b, .m], s.zxMine p (datagram false (s.portIp p) 4000) = true) ∧
       s.zxMine .m (datagram false 0 4001) = false ∧ zxValid [] = false ∧ zxValid (zwilux 1 1) = true ∧ zxValid (zwilux 2 2) = true ∧
       zxValid zwiluxRead = true ∧ u8 zwiluxRead 3 = 4 ∧ u8 (zwilux 2 1) 3 = 2 ∧
       (field .netCfg 1 1 0 s).effField .netCfg 1 1 = 0 ∧ (field .netCfg 1 1 1 s).effField .netCfg 1 1 ≠ 0 ∧
       s.zxEntry (zwilux 1 1) = some (recAt (s.sect 0x0C) 24 0) ∧ live.zxEntry (zwilux 1 1) = none ∧
       (s.zxEntry (zwilux 2 1)).any (fun r => rtFlag r 3 && u8 (zwilux 2 1) 0x10 == rtCount r &&
         (recordUpd r (zwilux 2 1) 0).isSome && (recordUpd r (zwilux 2 1) 1).isSome) = true ∧
       (s.zxEntry (zwilux 2 2)).any (fun r => (recordUpd r (zwilux 2 2) 1).isNone) = true ∧
       (field .netCfg 0 1 0 s).effField .netCfg 0 1 = 0 ∧ (field .netCfg 0 1 1 s).effField .netCfg 0 1 ≠ 0 ∧
       afind (zxKey (zwilux 1 1)) s.pnt.seqIn = none ∧ newer (word (u32 (zwilux 1 1) 8)) 5 = false ∧
       afind (zxKey (zwilux 2 1)) [(zxKey (zwilux 2 1), (word (u32 (zwilux 2 1) 8), some 3))] = some (5, some 3)) ∧
    (let s := later (networked live)
     let s := s.withCrs { s.crs with courseCnt := 4 }
     (s.routeByEntry 0).any (fun r => rtInbound r && decide (0 < rtStale r) &&
       decide ((s.routeSt (rtEntry r)).since + rtStale r ≤ s.crs.courseCnt) && !(s.routeSt (rtEntry r)).stale) = true) ∧
    (let s := live.withPnt { live.pnt with streams := vset live.pnt.streams 3 { Stream.reset with pend := [1] } }
     let r := s.setRing 20 { s.ring 20 with state := .running }
     (vget live.pnt.streams 3 Stream.reset).pend = [] ∧ s.ringRoom (17 + 3) = false ∧ r.ringRoom (17 + 3) = true ∧
       (vget r.pnt.streams 3 Stream.reset).pend ≠ []) := by
  decide +kernel

/-- Controller 2 takes part in the bus, with this buffer. -/
def busy (b : Nat) (y : CanBuf → CanBuf) (s : State) : State :=
  let x : CanCtl := { s.canCtl 2 with state := 0, off := false, restricted := false }
  s.setCan 2 (x.setBuf b { y (x.buf b) with pending := true })

/-- CAN controller 2 with a MODE byte, a USE byte and a bus-off wait of 0. -/
def canImage (use mode : Byte) (s : State) : State :=
  withImage 0 [(0x0E, blank 0xA0 [(0x81, [use, mode])]), (0x0C, blank 24 [(2, [1]), (8, [1, 1])])] s

theorem witness_CanRows :
    (let s := busy 31 id live
     let x := s.canCtl 2
     s.runs = true ∧ x.live = true ∧ x.restricted = false ∧ (s.instant 0).canFirst 2 ((s.instant 0).clk.now - 0) 31 = true ∧
       (x.buf 31).abort = false ∧ (x.buf 31).once = false ∧ x.single.getLsbD 31 = false) ∧
    (let s := busy 0 (fun y => { y with time := 500, prev := some y.msg, abort := true }) live
     (s.instant 400).canFirst 2 ((s.instant 400).clk.now - 0) 0 = true ∧
       ((s.canCtl 2).buf 0).abort = true ∧ (decide ((s.instant 400).clk.now - 0 < ((s.canCtl 2).buf 0).time) && ((s.canCtl 2).buf 0).prev.isSome) = true) ∧
    (let s := busy 0 (fun y => { y with once := true }) live
     (s.canCtl 2).live = true ∧ (s.instant 0).canFirst 2 ((s.instant 0).clk.now - 0) 0 = true ∧ ((s.canCtl 2).buf 0).once = true ∧
       (decide ((s.instant 0).clk.now - 0 < ((s.canCtl 2).buf 0).time) && ((s.canCtl 2).buf 0).prev.isSome) = false) ∧
    (127 < ({ live.canCtl 2 with rxErr := 128 } : CanCtl).rxErr ∧ ¬ 127 < ({ live.canCtl 2 with rxErr := 127 } : CanCtl).rxErr) ∧
    ((canImage 4 0 live).canUse 2 2 = true ∧ live.canUse 2 2 = false ∧ live.canModeBit 2 4 = false ∧ (canImage 0 16 live).canModeBit 2 4 = true) ∧
    (let s := canImage 0 8 live
     let s := s.setCan 2 { s.canCtl 2 with state := 2 }
     (s.canCtl 2).state = 2 ∧ s.canModeBit 2 3 = true ∧
       (s.canCtl 2).offAt + 1000000 * s.canCfg 2 0x0E 2 ≤ (s.instant 0).clk.now) ∧
    ((live.setCan 0 { live.canCtl 0 with state := 3 }).canCtl 0).state = 3 ∧
    ((live.instant 0).answers (0xB010 + 0x400 * 2) = true ∧ (live.instant 0).accessStalled (0xB010 + 0x400 * 2) = false) := by
  decide +kernel

/-- A record of a type, an answering memory, and a log in a state. -/
def aRecord (typ : Nat) : LogRec :=
  { opSec := 0, cycles := 0, typ := typ, time := 0, src := 0, cls := 0, frame := 0, code := 0, count := 0, flags := 0, data := [] }
def logDevice (h : List Byte) : LogDev :=
  { sfdp := true, density := 2 ^ 20, fourByte := false, fastRead := true, page := 64, erase4k := true, jedec := 7, headers := (h, []), slots := [] }
def logging (k : LogState) (s : State) : State := s.withLog { s.log with state := k, log2 := 20, jedec := 7 }

theorem witness_RecorderRows :
    (let s := logging .running live
     let s := s.withLog { s.log with nextSeq := 4096, prog := some 4095, hold := [aRecord 2, aRecord 1] }
     s.log.prog = some 4095 ∧ s.log.hold = aRecord 2 :: [aRecord 1] ∧ s.log.state = .running ∧ 4095 ≤ s.log.posOf 4095 ∧ ¬ 4095 ≤ s.log.posOf 4094) ∧
    (let s := logging .running live
     let s := s.withLog { s.log with erasing := true, hold := [aRecord 1] }
     s.log.erasing = true ∧ s.log.state = .running ∧ s.log.hold ≠ [] ∧ s.log.prog = none ∧ s.pwr.save = none ∧ live.log.hold = []) ∧
    (live.runs = true ∧ live.log.state = .absent ∧
      (field .logCfg 8 1 1 live).effField .logCfg 8 1 = 1 ∧ tbit (((live.instant 0).takeCfg .ident).cfgReg .logCfg).toNat 8 = true ∧
      logSupported false (logDevice []) = true ∧ logSupported false { logDevice [] with erase4k := false } = false ∧
      headerOf (logDevice []).headers = none ∧
      headerOf (logDevice (logHeader 20 0 0 3 0 0)).headers = some (logHeader 20 0 0 3 0 0)) ∧
    (let s := logging .failed live
     let s := s.withLog { s.log with gen := 3 }
     tbit (((s.instant 0).takeCfg .ident).cfgReg .logCfg).toNat 8 = true ∧
       tbit ((((s.withRegs { s.regs with cfg := s.regs.cfg.set CfgReg.logCfg.idx 25 }).instant 0).takeCfg .ident).cfgReg .logCfg).toNat 8 = false ∧
       s.log.state = .failed ∧ (logDevice []).jedec = s.log.jedec ∧ logDensity (logDevice []).density = some s.log.log2 ∧
       (headerOf (logDevice (logHeader 20 0 0 3 0 0)).headers).map (fun h => ule h 0x0E 2) = some s.log.gen) ∧
    ((live.instant 0).answers 0xF008 = true ∧ (live.instant 0).accessStalled 0xF008 = false ∧
      (0x464D0001#32).getLsbD 0 = true ∧ (0x464D0001#32).extractLsb' 16 16 = 0x464D#16 ∧ (logging .unformatted live).log.state = .unformatted) := by
  decide +kernel

theorem witness_MemoryRows :
    (let s := live.withMem { live.mem with banks := vset live.mem.banks 63 { live.bank 63 with retained := true } }
     (s.bank 63).retained = true) ∧
    (let s := live.withMem { live.mem with locked := some (64, 1023), sliceEnd := 641 }
     (s.instant 640).sliceNow = some (64, 1023)) ∧
    (let s := live.setLane 63 { live.lane 63 with job := some aProblem }
     (s.lane 63).job = some aProblem ∧ (s.bank (s.mem.bankOf 2097151)).retained = false) ∧
    (let x : MortarXfer := { words := [1, 2], reached := 1 }
     131070 + x.words.length ≤ 131072 ∧ x.words[x.reached]? = some 2 ∧ (0 : BitVec 64) ≠ 2) ∧
    (let s := field .memCfg 8 8 0 live
     (s.bank 64).passDone = false ∧ (s.bank 64).retained = false ∧ s.mem.periodStart + 2 * s.marchPeriod ≤ (s.instant 0).clk.now) ∧
    (live.runs = true ∧ (solving.bank 63).owner = 0 ∧ (5 : Nat) ≠ 0 ∧ ¬ (5 = 5 ∧ ((solving.bank 63).owner = 6 ∨ (solving.bank 63).owner = 7)) ∧
      ((live.withMem { live.mem with banks := vset live.mem.banks 63 { live.bank 63 with owner := 6 } }).bank 63).owner = 6) ∧
    (let s := live.withMem { live.mem with test := some { ring := 0, ref := 0, target := 63, form := 1, slices := 0 } }
     s.mem.test.isSome = true) := by
  decide +kernel

theorem witness_CascadeRows :
    (live.firmwareRuns = true ∧ live.linkPortEn 0 = true ∧ live.linkPortEn 1 = true ∧ vget live.ylk.up 1 false ≠ true ∧
      (linked 2 live).linkUp 1 = true ∧ (linked 2 live).ylk.state ≠ 0 ∧ (linked 2 live).ylk.state ≠ 3 ∧ (linked 2 live).ylk.state = 2) ∧
    (true && 1 % 256 == (live.crs.courseCnt + 1) % 256) = true ∧
    (linked 2 live).Hears (frameOf 1) 4 (blank 20 []) ∧
    (let s := field .ylkCfg 5 4 1 ((cascaded 2 live).withCrs { live.crs with courseCnt := 3 })
     s.ylk.masterAt + s.masterLoss ≤ s.crs.courseCnt ∧ s.ranksFirst [] = true ∧ (live.ranksFirst []) = false ∧ (linked 4 live).ylk.state = 4) ∧
    (let s := (cascaded 2 live).withCrs { live.crs with courseCnt := 255 }
     0 < u8 s.linkPart 0x0B ∧ (aget 0 ImportSt.reset s.ylk.imports).stale = false ∧
       (aget 0 ImportSt.reset s.ylk.imports).since + u8 (lkImport s.linkPart 0) 3 * 1 * s.frameCourses ≤ s.crs.courseCnt) := by
  refine ⟨?_, ?_, hears_of ?_, ?_, ?_⟩ <;> decide +kernel

theorem witness_InterfaceAndLoadRows :
    (let w := waiting .imageLoad
     let s := live.withImg { live.img with slot := .loading, load := some w }
     s.hostServes = true ∧ s.img.load = some w ∧ s.img.discard = [] ∧ w.hdr.dma = none ∧
       (s.instant 0).verifyImage w.hdr.len (padTo w.hdr.len []) ≠ 0 ∧ (sized 64).dma = none ∧
       ({ s.img with discard := [w] } : Img).discard ≠ []) ∧
    (vget live.glb.clkRun 7 true = true ∧ (live.withGlb { live.glb with clkRun := vset live.glb.clkRun 7 false }).firmwareRuns = true ∧
      vget (vset live.glb.clkRun 7 false) 7 true = false) ∧
    live.hrg.linkUp = false ∧ live.runs = true := by
  decide +kernel

theorem witness_ResetsKeepWhatTheyMust :
    live.sec.otpBusy = none ∧ live.pwr.save = none ∧ (State.reset.runs = false ∨ State.reset.glb.fedAt + 10000000 ≤ 0) ∧
    live.glb.fedAt + 10000000 ≤ ({ live with clk := { live.clk with tickAt := 10000000, now := 10000000 } }.instant 0).clk.now ∧
    live.answers 0x114 = true ∧ live.accessStalled 0x114 = false ∧ (0x52530001#32).extractLsb' 16 16 = 0x5253#16 ∧
    (0x52530001#32).getLsbD 0 = true ∧ live.ctl.mode = 0 ∧
    (let s := live.withPwr { live.pwr with save := some .full }
     s.pwr.save.isSome = true ∧ ({ s.pwr with save := some .none } : Pwr).save = some .none) := by
  decide +kernel

theorem witness_ClockRows :
    (∀ d ∈ [0, 2, 3, 10], vget live.glb.clkRun d false = true) ∧
    (let s := live.withGlb { live.glb with clkRun := vset live.glb.clkRun 7 false }
     let s := s.withHrg { s.hrg with resetDue := some 0 }
     vget s.glb.clkRun 7 true = false ∧ s.hrg.resetDue = some 0 ∧ live.hrg.resetDue = none) ∧
    (let s := live.withGlb { live.glb with clkRun := Vector.replicate 11 false }
     (crossingRow 0).1 = 0 ∧ s.crossingClocks 0 = false) ∧
    live.crossingClocks 31 = true ∧ (accessCrossings 0xE000).contains 0 = true ∧ (accessCrossings 0x8000).contains 0 = false ∧
    (let s := State.reset.withPwr { State.reset.pwr with inReset := true, phase := 2 }
     s.pwr.inReset = true ∧ s.pwr.phase = 2 ∧ vget s.glb.clkRun 0 false = true ∧ vget s.glb.clkRun 1 false = true ∧
       vget s.glb.clkRun 3 false = true) := by
  decide +kernel

/-- Out of reset in a phase of start-up. -/
def inPhase (k : Nat) : State := State.reset.withPwr { State.reset.pwr with inReset := false, phase := k }

/-- A firmware image that authenticates. -/
def firmware : FwImage :=
  { fetchFailed := false, magic := 0x57465856, format := 1, hdrSize := 64, length := 0, release := 1, silicon := 0xB1
    secVersion := 0, keyIndex := 0, keyIdMatch := true, sigValid := true }

theorem witness_StartUpRows :
    (let s := State.reset.withPwr { State.reset.pwr with inReset := true, phase := 1 }
     s.pwr.inReset = true ∧ s.pwr.held = false ∧ s.pwr.phase < 2 ∧ feedInRange 2700 = true ∧ feedInRange 2699 = false ∧
      vget State.reset.glb.clkRun 3 false = true) ∧
    (∀ k ∈ [2, 4, 5, 6], (inPhase k).pwr.inReset = false ∧ (inPhase k).pwr.phase = k) ∧
    (8 % 8 ||| (if ([] : List Nat).isEmpty then 0 else 4) = 0 ∧ 8 % 8 ||| (if [63].isEmpty then 0 else 4) ≠ 0) ∧
    ((inPhase 4).authResult firmware = 1 ∧ (inPhase 4).authResult { firmware with silicon := 0xA0 } ≠ 1) ∧
    ((inPhase 3).answers 0xE018 = true ∧ (inPhase 3).accessStalled 0xE018 = false ∧ (0x42540001#32).getLsbD 0 = true ∧
      (0x42540001#32).extractLsb' 16 16 = 0x4254#16) := by
  decide +kernel

theorem witness_HoldUpRows :
    live.pwr.save = none ∧
    (let s := live.withPwr { live.pwr with full := true }
     let s := field .pwrCfg 0 8 0 s
     s.pwr.full = true ∧ s.pwr.testAt + 3600000000000 * s.effField .pwrCfg 0 8 ≤ (s.instant 0).clk.now) ∧
    (0 < 100 * live.effField .pwrCfg 8 6 ∧ 100 * live.effField .pwrCfg 8 6 ≤ 6300) ∧
    ((inPhase 2).pwr.inReset = false ∧ 2 ≤ (inPhase 2).pwr.phase ∧ (inPhase 2).pwr.phase ≠ 8 ∧ (inPhase 2).firmwareRuns = false ∧
      live.firmwareRuns = true ∧ live.pwr.phase ≠ 8) ∧
    (let s := live.withPwr { live.pwr with save := some .short }
     s.pwr.save = some .short ∧ SaveKind.short ≠ .none) := by
  decide +kernel

/-- The base point of P-384, a key that an OTP write takes. -/
def keyWindow : List Byte :=
  let be (v : Nat) : List Byte := (List.range 48).map (fun i => byte (v / 256 ^ (47 - i)))
  [1, 0, 0, 0] ++ be 0xaa87ca22be8b05378eb1c71ef320ad746e1d3b628ba79b9859f741e082542a385502f25dbf55296c3a545e3872760ab7
    ++ be 0x3617de4a96262c6f5d9e98bf9292dc29f8f41dbd289a147ce9da3113b5f0b8c00a60b1ce1d7e819d7a431d7c90ea0e5f

/-- In BOOT_WAIT, with that key in the data window. -/
def provisioningState : State :=
  let s := inPhase 3
  s.withSec { s.sec with otpData := Vector.ofFn (fun i => word (u32 keyWindow (4 * i.val))) }

theorem witness_OtpRows :
    (live.answers 0x214 = true ∧ live.accessStalled 0x214 = false ∧ (0 : Nat) ≠ 0x4F54 ∧ live.sec.otpBusy = none) ∧
    (let o : OtpOp := { op := 5, slot := 0, data := [] }
     let s := live.withSec { live.sec with otpBusy := some o }
     s.sec.otpBusy.isSome = true ∧ s.sec.otpBusy = some o) ∧
    live.provisioning = false ∧
    (let s := provisioningState
     let k := keyIn s.sec.window
     let empty : KeySlot := ⟨false, false, 0, [], []⟩
     let two := s.withSec { s.sec with keys := vset (vset s.sec.keys 0 { k with valid := true }) 3 { k with keyId := 2 } }
     s.answers 0x214 = true ∧ s.accessStalled 0x214 = false ∧ s.provisioning = true ∧ s.sec.otpBusy = none ∧
       (vget s.sec.keys 3 empty).used = false ∧ k.keyId ≠ 0 ∧
       (∀ j, j < 4 → (vget s.sec.keys j empty).used = true → (vget s.sec.keys j empty).keyId ≠ k.keyId) ∧
       onP384 (beNat k.x) (beNat k.y) = true ∧ onP384 0 0 = false ∧
       (vget two.sec.keys 0 empty).used = true ∧ (vget two.sec.keys 0 empty).keyId = k.keyId ∧ (vget two.sec.keys 3 empty).valid = true ∧
       vget two.sec.revoked 3 true = false ∧
       (∀ j, j < 4 → j ≠ 3 → (vget s.sec.keys j empty).valid = true → vget s.sec.revoked j true = true)) := by
  decide +kernel

theorem witness_SelectRegistersLatchInOneStep :
    (∀ o ∈ [0x4030, 0x8010, 0x7030, 0x904C, 0xA024, 0x604C, 0x606C, 0x5010, 0x104], live.answers o = true ∧ live.accessStalled o = false) ∧
    (live.instant 999899).answers 0x604C = true ∧ (1 : Word).getLsbD 0 = true := by
  decide +kernel

theorem witness_LocksAndFusesOnlyRise :
    (let s := live.withRegs { live.regs with locks := Vector.replicate 15 true }
     let s := s.withSec { s.sec with revoked := vset s.sec.revoked 3 true, fwRevoked := vset s.sec.fwRevoked 1 true }
     s.locked .log = true ∧ vget s.sec.revoked 3 false = true ∧ vget s.sec.fwRevoked 1 false = true) ∧
    ∃ u, step { live with pending := [.lockAll 1] } = .next u := by
  refine ⟨?_, _, rfl⟩
  decide +kernel

theorem witness_RegisterWriteRows :
    (∀ o ∈ [0x21C, 0x3030, 0x802C, 0x9048, LockId.glb.offset, LockId.log.offset, CfgReg.glbScratch.offset, CfgReg.logCfg.offset],
      live.answers o = true ∧ live.accessStalled o = false) ∧
    (live.locked .glb = false ∧ (live.withRegs { live.regs with locks := Vector.replicate 15 true }).locked .glb = true ∧
      CfgReg.logCfg.lock = some .log) ∧
    ((0x10 : Word).getLsbD 4 = true ∧ (0x400 : Word).getLsbD 10 = true) ∧
    (CfgReg.pwrFwLen.offset = 0xE024 ∧ CfgReg.pwrFwAddrLo.offset = 0xE01C ∧ (inPhase 3).pwr.phase = 3 ∧ live.pwr.phase ≠ 3 ∧
      CfgReg.logCfg.offset > 0xE024 ∧ CfgReg.pwrCfg.offset < 0xE01C) ∧
    ((inPhase 3).answers CfgReg.logCfg.offset = false ∧ 0xFFFC % 4 = 0 ∧ 14 % 16 ≠ 15 ∧ 0xFFFD % 4 ≠ 0 ∧ live.answers 0xFFFC = true ∧
      live.accessStalled 0xFFFC = false) := by
  decide +kernel

theorem witness_OccurrenceCounterSticks :
    (let at_ (n : Half) (f : Bool) := live.withRegs { live.regs with ctrs := live.regs.ctrs.set Ctr.logReadMiss.idx { count := n, ovf := f } }
     (live.ctr .logReadMiss).ovf = false ∧ ((at_ 0xFFFD false).ctr .logReadMiss).count.toNat + 1 < 0xFFFF ∧
       0xFFFF ≤ ((at_ 0xFFFE false).ctr .logReadMiss).count.toNat + 1 ∧ ((at_ 0xFFFF true).ctr .logReadMiss).ovf = true) ∧
    (let o : Occ := { count := 0xFFFE, ovf := false }
     o.ovf = false ∧ 0xFFFF ≤ o.count.toNat + 1 ∧ Occ.zero.count.toNat + 1 < 0xFFFF) := by
  decide +kernel

theorem witness_CounterAndFlagClearTogether :
    (∀ c ∈ [Ctr.cfgDenied, .logReadMiss], c.clearOffset ∈ clearRegs ∧ (live.instant 0).answers c.clearOffset = true ∧
      (live.instant 0).accessStalled c.clearOffset = false) ∧
    ((0xFFFFFFFF : Word).getLsbD Ctr.cfgDenied.clearBit = true ∧ (0 : Word).getLsbD Ctr.cfgDenied.clearBit = false) ∧
    ((live.instant 0).answers 0x802C = true ∧ (live.instant 0).accessStalled 0x802C = false ∧
      ({ live.sni with entrySel := 39 } : Sni).entrySel < 40) := by
  decide +kernel

theorem witness_HostResetIsKeyedAndGuarded :
    (live.answers 0x114 = true ∧ live.accessStalled 0x114 = false ∧ live.pwr.save = none ∧
      (0x52530001#32).extractLsb' 16 16 = 0x5253#16 ∧ (0x52530001#32).getLsbD 0 = true ∧ live.ctl.mode = 0) ∧
    (let s := inMode 3 (withImage 0 [] live)
     let s := s.withBtr { s.btr with notReady := 0 }
     ¬ (s.ctl.mode = 0 ∨ s.readyToClaim = false)) ∧
    (0x52520001#32).extractLsb' 16 16 ≠ 0x5253#16 := by
  decide +kernel

/-! ## Well-formed commands -/

theorem test_wf_refuses :
    (Instr.align 1000000).wf = false ∧ (Instr.counterClear 0 0x20000 0).wf = false ∧ (Instr.counterClear 0 2 0).wf = false ∧
    (Instr.ringResetDone 0 22).wf = false ∧ (Instr.laneKat 0 64 true).wf = false ∧ (Instr.lockSet 15 1).wf = false ∧
    (Instr.canRecoveryDone 0 3).wf = false ∧ (Instr.canAbort 0 cmd 0 32).wf = false ∧ (Instr.sentenceStartStamp 0 8).wf = false ∧
    (Instr.analogStepDetected 0 16).wf = false ∧ (Instr.antennaSupplyRetry 0 2).wf = false ∧ (Instr.notchRelease 0 16).wf = false ∧
    (Instr.streamPendingPost 0 4).wf = false ∧ (Instr.quoinEntrySilent 0 40).wf = false ∧ (Instr.routeEntryStale 0 4096).wf = false ∧
    (Instr.pointWrite 0 cmd 131072 0 0 0).wf = false ∧ (Instr.crossingReset 0 32 0).wf = false ∧ (Instr.clockStopped 0 11).wf = false ∧
    (Instr.imuSyncPulse 0 2).wf = false ∧ (Instr.sourceQualified 0 0).wf = false ∧ (Instr.sourceQualified 0 6).wf = false ∧
    (Instr.captureEdge 0 4 ⟨false, 0⟩).wf = false ∧ (Instr.discrepancyFault 0 16).wf = false ∧ (Instr.outputTestStart 8).wf = false ∧
    (Instr.bankWake 0 64).wf = false ∧ (Instr.marchPassOverdue 0 65).wf = false ∧ (Instr.registerWrite 0 0 16 0).wf = false ∧
    (Instr.otpReadKey 0 65536).wf = false ∧ (Instr.deadlineMiss 0 43).wf = false := by decide

theorem test_wf_takes :
    (Instr.align 999999).wf = true ∧ (Instr.counterClear 0 0x1FFFC 0).wf = true ∧ (Instr.marchPassOverdue 0 64).wf = true ∧
    (Instr.sourceQualified 0 5).wf = true ∧ (Instr.deadlineMiss 0 42).wf = true := by decide

/-! ## Values of the spec's worked examples and of published check words -/

/-- The next state of a command, the state itself where there is none. -/
def after (i : Instr) (s : State) : State :=
  match exec i s with
  | .next t => t
  | _ => s

/-- The check words of "123456789". -/
theorem test_check_words :
    crc32 (ascii "123456789") = 0xCBF43926#32 ∧ crc32c (ascii "123456789") = 0xE3069283#32 ∧
    crc64 (ascii "123456789") = 0x995DC9BBDF1939FA#64 ∧ crc16 (ascii "123456789") = 0x29B1#16 ∧
    crc24q (ascii "123456789") = 0xCDE703#24 := by decide +kernel

/-- The SHA-384 of "abc" (FIPS 180). -/
theorem test_sha384 : beNat (sha384 (ascii "abc")) =
    0xcb00753f45a35e8bb5a03d699ac65007272c32ab0eded1631a8b605a43ff5bed8086072ba1e7cc2358baeca134c825a7 := by decide +kernel

/-- The gyrocompass sentence of spec/04: heading 247.5 degrees is 0xB000_0000. -/
theorem test_heading_sentence :
    checkSentence false (ascii "$HEHDT,247.50,T*1B" ++ [0x0D, 0x0A]) = .ok (ascii "HEHDT") [ascii "247.50", ascii "T"] ∧
    (match parseSentence (ascii "HEHDT") [ascii "247.50", ascii "T"] with
      | some (.record _ d _) => u32 d 0 == 0xB0000000
      | _ => false) = true := by decide +kernel

/-- The first outage of spec/12: 74 ns grow to 14,135 ns in 610 s. -/
theorem test_holdover_uncertainty :
    (let s := { live with clk := { live.clk with now := 610000000000 } }
     s.holdoverUnc 74) = 14135 := by decide +kernel

/-- The claims of spec/13: both parts score 240. -/
theorem test_claim_words : claimOf 2 240 1 = 0x8F01#16 ∧ claimOf 1 240 2 = 0x4F02#16 := by decide

/-- The frame of spec/02 in which ESTIMATE misses: a streak of 1, CRS_MISS_CTRL 1, event source 0. -/
theorem test_estimate_miss :
    (let s := after (.deadlineMiss 440080 2) ((inCourse 0 [1] live).withCrs { (inCourse 0 [1] live).crs with frame := 0x124F80 })
     vget s.crs.streak 1 0 = 1 ∧ (s.ctr .missCtrl).count = 1 ∧ s.crs.lastItem = 2 ∧ s.crs.lastFrame = 0x4F80 ∧ s.crs.gaveUp = false) := by
  decide +kernel

/-- Ticks: course 19 closes a frame of 20, an earlier course does not. -/
theorem test_course_tick :
    (let s := after .courseTick (inCourse 19 [7] live); s.crs.course = 0 ∧ s.crs.frame = 1) ∧
    (let s := after .courseTick (inCourse 18 [7] live); s.crs.course = 19 ∧ s.crs.frame = 0) := by decide +kernel

/-- LOCK_ALL sets fifteen locks; a set lock refuses a write, and the denial is counted. -/
theorem test_locks :
    (after (.lockAll 1) live).regValue 0x0018 = 0x7FFF#32 ∧
    (let s := after (.registerWrite 0 0xF000 15 0) (after (.lockAll 1) live)
     s.cfgReg .logCfg = live.cfgReg .logCfg ∧ (s.ctr .cfgDenied).count = 1) := by decide +kernel

/-- A write with one byte enabled is discarded and counted (R548). -/
theorem test_partial_write :
    (let s := after (.registerWrite 0 0x001C 1 0xFF) live
     s.cfgReg .glbScratch = 0 ∧ (s.ctr .badAccess).count = 1) := by decide +kernel

/-- The scratch register takes its word. -/
theorem test_scratch : (after (.registerWrite 0 0x001C 15 0xA5A5A5A5) live).regValue 0x001C = 0xA5A5A5A5#32 := by decide +kernel

/-- A doorbell of ring 0 sets the host position of that ring alone. -/
theorem test_doorbell :
    (let s := live.setRing 0 { live.ring 0 with state := .running }
     ((after (.doorbellWrite 0 0 3) s).ring 0).hostPos = 3 ∧ ((after (.doorbellWrite 0 0 3) s).ring 1).hostPos = 0) := by decide +kernel

/-- A stopped REFCLK resets the part with cause 4, a keyed host reset with cause 6. -/
theorem test_resets :
    (after (.clockStopped 0 3) live).pwr.cause = 4 ∧ (after (.clockStopped 0 3) live).pwr.inReset = true ∧
    (after (.glbResetWrite 0x52530001) live).pwr.cause = 6 ∧ (after (.glbResetWrite 1) live).pwr.cause = live.pwr.cause := by
  decide +kernel

/-- An antenna short of 120 mA is state 3, an open one below 4 mA state 2 (R105). -/
theorem test_antenna_supply :
    ((after (.antennaSupplyFault 0 1 120) live).gant 1).supply = 3 ∧ ((after (.antennaSupplyFault 0 1 3) live).gant 1).supply = 2 ∧
    ((after (.antennaSupplyFault 0 1 4) live).gant 1).supply = 1 := by decide +kernel

/-- A step of 2 mV is an ESR of 20 mΩ, and 200 ms from 4 V to 14 V are 500 µF (R500). -/
theorem test_first_charge :
    (after (.holdChargeComplete 0 900 2000 (some 200000)) live).pwr.esr = 20 ∧
    (after (.holdChargeComplete 0 900 2000 (some 200000)) live).pwr.cap = 500 := by decide +kernel

/-- CAN: an error while receiving raises REC by 1, and by 9 behind a dominant bit. -/
theorem test_can_receive_error :
    (let s := busy 0 id live
     ((after (.canRxError 0 2 2 false 0) s).canCtl 2).rxErr = 1 ∧ ((after (.canRxError 0 2 2 false 1) s).canCtl 2).rxErr = 9 ∧
     ((after (.canRxError 0 2 2 false 2) s).canCtl 2).rxErr = 17) := by
  decide +kernel

/-- OTP: without the key nothing, in service DENIED, in provisioning the operation runs. -/
theorem test_otp_write :
    (after (.otpWriteKey 0 0) live).sec.otpResult = 0 ∧ (after (.otpWriteKey 0 0x4F54) live).sec.otpResult = 2 ∧
    (after (.otpWriteKey 0 0x4F54) provisioningState).sec.otpBusy.map (·.op) = some 4 := by decide +kernel

/-- The tick of a frame takes a command into effect that an earlier frame accepted. -/
theorem test_thruster_enable :
    (let s := hosted (inCourse 19 [] live)
     let s := after .courseTick (after (.thrusterEnable 0 cmd 0x0005 0x0004) s)
     s.alloc.disabled = 0x0001#16 ∧ ((s.ring 0).outst.map (·.done.isSome)) = [true]) := by decide +kernel

end Sys2Proof.Tests
end

section
/-! The statements of spec/00_scope.md: reads and writes of a memory (R3), occurrence counters that stick (R8), and
counters that clear together with their flags (R9). -/

namespace Sys2Proof.Machine
open Sys2Proof

/-! ## Bytes written in turn (R3) -/

/-- Writes of bytes in turn leave a byte at none of their addresses as it was. -/
theorem memGet_foldl_memSet_of_not_mem {α : Type} (f : α → Nat) (g : α → Byte) (c : Nat) (l : List α) (m : List Host.Cell)
    (hc : ∀ x ∈ l, c ≠ f x) : memGet (l.foldl (fun m x => memSet (f x) (g x) m) m) c = memGet m c := by
  induction l generalizing m with
  | nil => rfl
  | cons x l ih =>
    obtain ⟨hx, hl⟩ := List.forall_mem_cons.mp hc
    exact (ih (memSet (f x) (g x) m) hl).trans (memGet_memSet_ne _ _ _ _ hx)

/-- Each of the bytes written in turn at different addresses reads back. -/
theorem memGet_foldl_memSet_of_mem {α : Type} (f : α → Nat) (g : α → Byte) {l : List α} {m : List Host.Cell}
    (hm : memWf m = true) (hl : l.Pairwise (fun x y => f x ≠ f y)) {x : α} (hx : x ∈ l) :
    memGet (l.foldl (fun m x => memSet (f x) (g x) m) m) (f x) = g x := by
  induction l generalizing m with
  | nil => cases hx
  | cons y l ih =>
    obtain ⟨hy, hl⟩ := List.pairwise_cons.mp hl
    rcases List.mem_cons.mp hx with rfl | hx
    · exact (memGet_foldl_memSet_of_not_mem f g (f x) l _ hy).trans (memGet_memSet _ _ _ hm)
    · exact ih (memSet_wf _ _ _ hm) hl hx

/-- Byte `i` of a 64-bit word that was written. -/
theorem memGet_memSetWord (w : Nat) (v : DWord) (m : List Host.Cell) (hm : memWf m = true) {i : Nat} (hi : i < 8) :
    memGet (memSetWord w v m) (8 * w + i) = v.extractLsb' (8 * i) 8 :=
  memGet_foldl_memSet_of_mem (fun i => 8 * w + i) (fun i => v.extractLsb' (8 * i) 8) hm
    (List.nodup_range.imp fun h => by omega) (List.mem_range.mpr hi)

/-- A write of a 64-bit word leaves the bytes outside it as they were. -/
theorem memGet_memSetWord_outside (w : Nat) (v : DWord) (m : List Host.Cell) {c : Nat} (hc : c < 8 * w ∨ 8 * w + 8 ≤ c) :
    memGet (memSetWord w v m) c = memGet m c :=
  memGet_foldl_memSet_of_not_mem (fun i => 8 * w + i) (fun i => v.extractLsb' (8 * i) 8) c _ m fun i hi => by
    have := List.mem_range.mp hi
    omega

/-- Settles O6: a word write is eight byte writes at different addresses, each of which reads back. -/
theorem memoryReadAfterWrite : Obligations.MemoryReadAfterWrite := by
  unfold Obligations.MemoryReadAfterWrite
  exact ⟨fun m a b hm => ⟨memSet_wf a b m hm, memGet_memSet a b m hm, fun c hc => memGet_memSet_ne a c b m hc⟩,
    fun m w v hm => ⟨memSetWord_wf w v m hm, fun i hi => memGet_memSetWord w v m hm hi,
      fun c hc => memGet_memSetWord_outside w v m hc⟩⟩

/-! ## The counter vector -/

/-- A counter's place in the vector is its place in the list of all counters. -/
theorem Ctr.getElem?_all_idx (c : Ctr) : Ctr.all[c.idx.val]? = some c := by cases c <;> rfl

theorem Ctr.mem_all (c : Ctr) : c ∈ Ctr.all := List.mem_of_getElem? c.getElem?_all_idx

theorem Ctr.idx_ne {c d : Ctr} (h : d ≠ c) : d.idx.val ≠ c.idx.val := fun e =>
  h (Option.some.inj (d.getElem?_all_idx.symm.trans ((congrArg (Ctr.all[·]?) e).trans c.getElem?_all_idx)))

/-- A counter reads what was put at its place. -/
@[simp] theorem State.ctr_set_same (s : State) (c : Ctr) (o : Occ) :
    (s.withRegs { s.regs with ctrs := s.regs.ctrs.set c.idx o }).ctr c = o := by
  simp [State.ctr]

/-- What is put at the place of another counter leaves a counter as it was. -/
theorem State.ctr_set_ne (s : State) {c d : Ctr} (o : Occ) (h : d ≠ c) :
    (s.withRegs { s.regs with ctrs := s.regs.ctrs.set d.idx o }).ctr c = s.ctr c := by
  simp [State.ctr, Ctr.idx_ne h]

/-- Putting a counter's own contents at its place changes nothing. -/
theorem State.set_ctr_self (s : State) (c : Ctr) :
    s.withRegs { s.regs with ctrs := s.regs.ctrs.set c.idx (s.ctr c) } = s := by
  simp [State.ctr, State.withRegs]

/-! ## Counting (R8) -/

/-- A stuck counter takes no further happening. -/
theorem Occ.add_of_ovf {o : Occ} (n : Nat) (h : o.ovf = true) : o.add n = (o, false) := by
  simp only [Occ.add, h, if_true]

/-- A count below all-ones goes up by one. -/
theorem satAdd_one {c : Half} (h : c.toNat + 1 < 0xFFFF) : satAdd c 1 = c + 1 := by
  apply BitVec.eq_of_toNat_eq
  rw [satAdd, Nat.min_eq_right h.le, BitVec.toNat_ofNat, BitVec.toNat_add]
  rfl

/-- One happening below all-ones. -/
theorem Occ.add_one_of_lt {o : Occ} (h : o.ovf = false) (hn : o.count.toNat + 1 < 0xFFFF) :
    o.add 1 = ({ count := o.count + 1, ovf := false }, false) := by
  simp only [Occ.add, h, hn, satAdd_one hn, if_true, Bool.false_eq_true, if_false]

/-- The happening that brings a counter to all-ones sets its flag. -/
theorem Occ.add_one_of_ge {o : Occ} (h : o.ovf = false) (hn : 0xFFFF ≤ o.count.toNat + 1) :
    o.add 1 = ({ count := 0xFFFF, ovf := true }, true) := by
  simp only [Occ.add, h, Nat.not_lt.mpr hn, Bool.false_eq_true, if_false]

/-- Raising an event leaves a stuck counter as it is, although the EVT counters may rise on the way. -/
theorem State.raiseFuel_ctr_of_ovf (n : Nat) (ev : Event) (s : State) {c : Ctr} (h : (s.ctr c).ovf = true) :
    (State.raiseFuel n ev s).ctr c = s.ctr c := by
  induction n generalizing ev s with
  | zero => rfl
  | succ n ih =>
    unfold State.raiseFuel
    refine List.foldlRecOn (motive := fun u : State => u.ctr c = s.ctr c) _ _ rfl fun u hu ⟨d, k⟩ _ => ?_
    have hset : (u.withRegs { u.regs with ctrs := u.regs.ctrs.set d.idx (Occ.add k (u.ctr d)).1 }).ctr c = s.ctr c := by
      obtain rfl | hd := eq_or_ne d c
      · rw [State.ctr_set_same, Occ.add_of_ovf _ (hu ▸ h), hu]
      · rw [State.ctr_set_ne _ _ hd, hu]
    dsimp only
    split
    · exact (ih _ _ (hset ▸ h)).trans hset
    · exact hset

theorem State.raise_ctr_of_ovf (src : Nat) (sev : Sev) (qual cause index : Nat) (vals : List Word) (s : State) {c : Ctr}
    (h : (s.ctr c).ovf = true) : (s.raise src sev qual cause index vals).ctr c = s.ctr c :=
  State.raiseFuel_ctr_of_ovf _ _ s h

section
variable {s : State} {c : Ctr}

theorem State.count_of_ovf (h : (s.ctr c).ovf = true) : s.count c = s := by
  simp only [State.count, State.countN, Occ.add_of_ovf 1 h, State.set_ctr_self, Bool.false_eq_true, if_false]

theorem State.count_of_lt (h : (s.ctr c).ovf = false) (hn : (s.ctr c).count.toNat + 1 < 0xFFFF) : s.count c =
    s.withRegs { s.regs with ctrs := s.regs.ctrs.set c.idx { count := (s.ctr c).count + 1, ovf := false } } := by
  simp only [State.count, State.countN, Occ.add_one_of_lt h hn, Bool.false_eq_true, if_false]

theorem State.count_of_ge (h : (s.ctr c).ovf = false) (hn : 0xFFFF ≤ (s.ctr c).count.toNat + 1) : s.count c =
    (s.withRegs { s.regs with ctrs := s.regs.ctrs.set c.idx { count := 0xFFFF, ovf := true } }).raise
      c.source .notice 0 c.cause c.index [] := by
  simp only [State.count, State.countN, Occ.add_one_of_ge h hn, if_true]

/-- The counter that has just stuck stays so through its own overflow event. -/
theorem State.ctr_count_of_ge (h : (s.ctr c).ovf = false) (hn : 0xFFFF ≤ (s.ctr c).count.toNat + 1) :
    (s.count c).ctr c = { count := 0xFFFF, ovf := true } := by
  rw [State.count_of_ge h hn, State.raise_ctr_of_ovf] <;> simp

end

section
variable {o : Occ} (src : Nat) (s : State)

theorem State.countOcc_of_ovf (h : o.ovf = true) : s.countOcc o src = (o, s) := by
  simp only [State.countOcc, Occ.add_of_ovf 1 h, Bool.false_eq_true, if_false]

theorem State.countOcc_of_lt (h : o.ovf = false) (hn : o.count.toNat + 1 < 0xFFFF) :
    s.countOcc o src = ({ count := o.count + 1, ovf := false }, s) := by
  simp only [State.countOcc, Occ.add_one_of_lt h hn, Bool.false_eq_true, if_false]

theorem State.countOcc_of_ge (h : o.ovf = false) (hn : 0xFFFF ≤ o.count.toNat + 1) :
    s.countOcc o src = ({ count := 0xFFFF, ovf := true }, s.raise src .notice 0 0 noIndex []) := by
  simp only [State.countOcc, Occ.add_one_of_ge h hn, if_true]

end

/-- Settles O58: by whether the counter is stuck, below all-ones or reaches it; the overflow event leaves the stuck
counter alone. -/
theorem occurrenceCounterSticks : Obligations.OccurrenceCounterSticks := by
  unfold Obligations.OccurrenceCounterSticks
  refine ⟨fun c s => ⟨State.count_of_lt, fun h hn => ⟨State.count_of_ge h hn, State.ctr_count_of_ge h hn⟩,
    State.count_of_ovf, fun h => ?_⟩, fun o src s => ⟨State.countOcc_of_lt src s, State.countOcc_of_ge src s, State.countOcc_of_ovf src s⟩⟩
  rw [h]
  decide

/-! ## Clearing (R9) -/

@[simp] theorem State.instant_ctr (t : Nat) (s : State) (c : Ctr) : (s.instant t).ctr c = s.ctr c := rfl
@[simp] theorem State.instant_entrySt (t : Nat) (s : State) (e : Nat) : (s.instant t).entrySt e = s.entrySt e := rfl

/-- Clearing the counters of a list that meet `p` leaves those at zero and every other counter as it was. -/
theorem State.ctr_foldl_clearCtr (p : Ctr → Prop) [DecidablePred p] (l : List Ctr) (s : State) (c : Ctr) :
    (l.foldl (fun s d => if p d then s.clearCtr d else s) s).ctr c = if c ∈ l ∧ p c then Occ.zero else s.ctr c := by
  induction l generalizing s with
  | nil => simp
  | cons d l ih =>
    rw [List.foldl_cons, ih]
    obtain rfl | hc := eq_or_ne d c
    · by_cases hd : p d <;> simp [hd, State.clearCtr]
    · by_cases hd : p d <;> simp [hd, hc.symm, State.clearCtr, State.ctr_set_ne _ _ hc]

@[simp] theorem State.clearEntry_regs (w : Word) (s : State) : (s.clearEntry w).regs = s.regs := rfl

/-- Setting a peak leaves the counters as they were. -/
@[simp] theorem State.clearPeaks_regs (off : Nat) (w : Word) (s : State) : (s.clearPeaks off w).regs = s.regs := by
  unfold State.clearPeaks
  split_ifs <;> rfl

/-- Setting a peak leaves the intake entries as they were. -/
@[simp] theorem State.clearPeaks_entries (off : Nat) (w : Word) (s : State) :
    (s.clearPeaks off w).sni.entries = s.sni.entries := by
  unfold State.clearPeaks
  split_ifs <;> rfl

/-- What a write of a clear register leaves in a counter (R9). -/
theorem State.writeClear_ctr (off : Nat) (w : Word) (s : State) (c : Ctr) : (s.writeClear off w).ctr c =
    if c.clearOffset = off ∧ w.getLsbD c.clearBit = true then Occ.zero else s.ctr c := by
  have hfold := State.ctr_foldl_clearCtr (fun d => d.clearOffset = off ∧ w.getLsbD d.clearBit = true) Ctr.all s c
  simp only [Ctr.mem_all, true_and] at hfold
  rw [← hfold]
  unfold State.writeClear State.clearCounters
  split_ifs <;> simp [State.ctr]

/-- The counters of the bank leave the intake block as it was. -/
theorem State.foldl_clearCtr_sni (p : Ctr → Prop) [DecidablePred p] (l : List Ctr) (s : State) :
    (l.foldl (fun s d => if p d then s.clearCtr d else s) s).sni = s.sni :=
  List.foldlRecOn (motive := fun u : State => u.sni = s.sni) l _ rfl fun u hu d _ => by
    split <;> exact hu

/-- An element of a vector passed through `f`. -/
theorem vget_vmod_same {α : Type} {n : Nat} (v : Vector α n) {i : Nat} (f : α → α) (d : α) (hi : i < n) :
    vget (vmod v i f) i d = f (vget v i d) := by
  simp [vget, vmod, hi]

/-- What a write of SNI_CLEAR leaves in the selected intake entry (R103). -/
theorem State.writeClear_entrySt (w : Word) (s : State) {e : Nat} (he : e = s.sni.entrySel) (h40 : e < 40) :
    (s.writeClear 0x802C w).entrySt e =
      { s.entrySt e with
        err := if w.getLsbD 0 then Occ.zero else (s.entrySt e).err
        overdue := if w.getLsbD 1 then Occ.zero else (s.entrySt e).overdue
        gap := if w.getLsbD 2 then Occ.zero else (s.entrySt e).gap } := by
  subst he
  simp only [State.entrySt, State.writeClear, State.clearPeaks_entries, State.clearCounters, if_true, State.clearEntry,
    State.withSni_sni, State.foldl_clearCtr_sni]
  exact vget_vmod_same _ _ _ h40

/-- COUNTER_CLEAR where the block answers and no crossing is stalled. -/
theorem exec_counterClear_of_answers {t off : Nat} {w : Word} {s : State} (h : (s.instant t).answers off = true)
    (h2 : (s.instant t).accessStalled off = false) :
    exec (.counterClear t off w) s = .next ((s.instant t).writeClear off w) :=
  congrArg Host.Outcome.next (State.barWrite_of_answers _ h h2)

/-- Settles O59: a cleared counter is zero, far from all-ones, so the happening that follows counts 1. -/
theorem counterAndFlagClearTogether : Obligations.CounterAndFlagClearTogether := by
  unfold Obligations.CounterAndFlagClearTogether
  refine fun t w s => ⟨fun c _ h h2 => ⟨_, exec_counterClear_of_answers h h2, fun hw => ?_, fun hw => ?_⟩,
    fun e h h2 he he40 => ⟨_, exec_counterClear_of_answers h h2, ?_⟩⟩
  · have hz : ((s.instant t).writeClear c.clearOffset w).ctr c = Occ.zero := by
      simp only [State.writeClear_ctr, hw, and_self, if_true]
    refine ⟨hz, ?_⟩
    rw [State.count_of_lt (by rw [hz]; rfl) (by rw [hz]; decide), State.ctr_set_same, hz]
    rfl
  · simp only [State.writeClear_ctr, hw, Bool.false_eq_true, and_false, if_false, State.instant_ctr]
  · simp only [State.writeClear_entrySt w (s.instant t) he he40, State.instant_entrySt]
    refine ⟨rfl, rfl, rfl, fun src hw => ?_⟩
    simp only [hw, if_true]
    rw [State.countOcc_of_lt src _ rfl (by decide)]
    rfl

end Sys2Proof.Machine
end

section
/-! The statements of spec/01_architecture.md: one step of the queue of commands, which no command changes, and the
commands that wait for a frame tick (R23). The queue is the model's own (assumption 1). -/

namespace Sys2Proof.Machine
open Sys2Proof

/-! ## No command changes the queue -/

section
variable {i : Instr} {s u : State}

theorem State.pending_of_blank {m : Part → Bool} {a b : State} (h : a.blank m = b.blank m) (h1 : m .pending = false) :
    a.pending = b.pending := by
  simpa only [State.blank, h1, Bool.false_eq_true, if_false] using congrArg State.pending h

theorem pending_not_mem_cmdParts (c : HostCmd) : Part.pending ∉ cmdParts c := by
  cases c <;> simp [cmdParts]

/-- The rows of the host commands share one meaning, which touches no more than the command's parts. -/
theorem blank_keepOnly_pending_of_hostCommand {t : Nat} {hd : CmdHdr} {c : HostCmd}
    (h : (Host.Outcome.next (s.hostCommand t hd c) : Host.Outcome State Fault Refusal) = .next u) :
    u.blank (keepOnly [.pending]) = s.blank (keepOnly [.pending]) := by
  obtain rfl := Host.Outcome.next.inj h
  refine State.hostCommand_blank_cmd t hd c s fun p hp => ?_
  have hne : p ≠ .pending := ne_of_mem_of_not_mem hp (pending_not_mem_cmdParts c)
  simp [keepOnly, hne]

/-- Command by command, what its own law leaves unchanged: no law asks for the queue to be left out. -/
theorem exec_blank_keepOnly_pending (h : exec i s = .next u) :
    u.blank (keepOnly [.pending]) = s.blank (keepOnly [.pending]) := by
  cases i with
  | nop | imageLoad | imageActivate | imageDiscard | imageQuery | analogTest | gnssCorrection | gnssSnapshot
  | gnssQuery | gridOrigin | refEnable | refTarget | refStatus | estQuery | dpMode | setpoint | gainSelect | trackLoad
  | berthSet | ctrlQuery | thrusterEnable | allocQuery | conseqQuery | envelopeQuery | trimStart | trimSet | trimStop
  | trimQuery | timeStepAccept | timeSet | timeLeap | claimResume | roleExchange | btrReset | btrOutput | pointWrite
  | streamSet | canSend | canAbort | canRecover | canMode | logRead | memTest =>
    exact blank_keepOnly_pending_of_hostCommand h
  | courseTick => apply execCourseTick_blank (h := h) <;> rfl
  | frameTick => apply execFrameTick_blank (h := h) <;> rfl
  | substituteTick => apply execSubstituteTick_blank (h := h) <;> rfl
  | tickPhaseSlewEnd => apply execTickPhaseSlewEnd_blank (h := h) <;> rfl
  | deadlineMiss => apply execDeadlineMiss_blank (h := h) <;> rfl
  | align => apply execAlign_blank (h := h) <;> rfl
  | estimate => apply execEstimate_blank (h := h) <;> rfl
  | vote => apply execVote_blank (h := h) <;> rfl
  | refSilent => apply execRefSilent_blank (h := h) <;> rfl
  | refReadmissionComplete => apply execRefReadmissionComplete_blank (h := h) <;> rfl
  | bootstrapAdmission => apply execBootstrapAdmission_blank (h := h) <;> rfl
  | classCoastTimeout => apply execClassCoastTimeout_blank (h := h) <;> rfl
  | law => apply execLaw_blank (h := h) <;> rfl
  | joystickLost => apply execJoystickLost_blank (h := h) <;> rfl
  | gainAutoEvaluation => apply execGainAutoEvaluation_blank (h := h) <;> rfl
  | currentReport => apply execCurrentReport_blank (h := h) <;> rfl
  | dispatch => apply execDispatch_blank (h := h) <;> rfl
  | caseDispatch => apply execCaseDispatch_blank (h := h) <;> rfl
  | release => apply execRelease_blank (h := h) <;> rfl
  | availPointStale => apply execAvailPointStale_blank (h := h) <;> rfl
  | digest => apply execDigest_blank (h := h) <;> rfl
  | pairCompare => apply execPairCompare_blank (h := h) <;> rfl
  | keystone => apply execKeystone_blank (h := h) <;> rfl
  | confirm => apply execConfirm_blank (h := h) <;> rfl
  | confirmMiss => apply execConfirmMiss_blank (h := h) <;> rfl
  | postPoints => apply execPostPoints_blank (h := h) <;> rfl
  | postLog => apply execPostLog_blank (h := h) <;> rfl
  | caseCollect => apply execCaseCollect_blank (h := h) <;> rfl
  | envCollect => apply execEnvCollect_blank (h := h) <;> rfl
  | conseqReport => apply execConseqReport_blank (h := h) <;> rfl
  | trim => apply execTrim_blank (h := h) <;> rfl
  | gnssNav => apply execGnssNav_blank (h := h) <;> rfl
  | host => apply execHost_blank (h := h) <;> rfl
  | descriptorPhaseTimeout => apply execDescriptorPhaseTimeout_blank (h := h) <;> rfl
  | net => apply execNet_blank (h := h) <;> rfl
  | supervise => apply execSupervise_blank (h := h) <;> rfl
  | recorder => apply execRecorder_blank (h := h) <;> rfl
  | march => apply execMarch_blank (h := h) <;> rfl
  | completionPost => apply execCompletionPost_blank (h := h) <;> rfl
  | msixModerationExpiry => apply execMsixModerationExpiry_blank (h := h) <;> rfl
  | imageVerifyDone => apply execImageVerifyDone_blank (h := h) <;> rfl
  | imageActivationTick => apply execImageActivationTick_blank (h := h) <;> rfl
  | imageDiscardStop => apply execImageDiscardStop_blank (h := h) <;> rfl
  | snapshotCaptureStart => apply execSnapshotCaptureStart_blank (h := h) <;> rfl
  | snapshotCaptureDone => apply execSnapshotCaptureDone_blank (h := h) <;> rfl
  | readinessRegained => apply execReadinessRegained_blank (h := h) <;> rfl
  | exchangeProposalDue => apply execExchangeProposalDue_blank (h := h) <;> rfl
  | memTestDone => apply execMemTestDone_blank (h := h) <;> rfl
  | sentenceStartStamp => apply execSentenceStartStamp_blank (h := h) <;> rfl
  | sentenceReceived => apply execSentenceReceived_blank (h := h) <;> rfl
  | imuSyncPulse => apply execImuSyncPulse_blank (h := h) <;> rfl
  | imuDrdyEdge => apply execImuDrdyEdge_blank (h := h) <;> rfl
  | imuFrameRead => apply execImuFrameRead_blank (h := h) <;> rfl
  | imuDrdyTimeout => apply execImuDrdyTimeout_blank (h := h) <;> rfl
  | analogOutput => apply execAnalogOutput_blank (h := h) <;> rfl
  | analogStepDetected => apply execAnalogStepDetected_blank (h := h) <;> rfl
  | quoinEntrySilent => apply execQuoinEntrySilent_blank (h := h) <;> rfl
  | networkSentenceRx => apply execNetworkSentenceRx_blank (h := h) <;> rfl
  | canFrameRx => apply execCanFrameRx_blank (h := h) <;> rfl
  | canReasmTimeout => apply execCanReasmTimeout_blank (h := h) <;> rfl
  | canTxAttemptEnd => apply execCanTxAttemptEnd_blank (h := h) <;> rfl
  | canBusoffWaitExpiry => apply execCanBusoffWaitExpiry_blank (h := h) <;> rfl
  | canRecoveryDone => apply execCanRecoveryDone_blank (h := h) <;> rfl
  | antennaSupplyFault => apply execAntennaSupplyFault_blank (h := h) <;> rfl
  | antennaSupplyRetry => apply execAntennaSupplyRetry_blank (h := h) <;> rfl
  | channelAssignRevision => apply execChannelAssignRevision_blank (h := h) <;> rfl
  | carrierContinuityLoss => apply execCarrierContinuityLoss_blank (h := h) <;> rfl
  | notchAnalysis => apply execNotchAnalysis_blank (h := h) <;> rfl
  | notchRelease => apply execNotchRelease_blank (h := h) <;> rfl
  | spoofClear => apply execSpoofClear_blank (h := h) <;> rfl
  | correctionLapse => apply execCorrectionLapse_blank (h := h) <;> rfl
  | sourceOffsetMeasure => apply execSourceOffsetMeasure_blank (h := h) <;> rfl
  | sourceQualified => apply execSourceQualified_blank (h := h) <;> rfl
  | sourceLost => apply execSourceLost_blank (h := h) <;> rfl
  | sourceRevert => apply execSourceRevert_blank (h := h) <;> rfl
  | holdoverLimitCrossed => apply execHoldoverLimitCrossed_blank (h := h) <;> rfl
  | ppsEdge => apply execPpsEdge_blank (h := h) <;> rfl
  | extPpsEdge => apply execExtPpsEdge_blank (h := h) <;> rfl
  | captureEdge => apply execCaptureEdge_blank (h := h) <;> rfl
  | ptpMessageRx => apply execPtpMessageRx_blank (h := h) <;> rfl
  | ptpMasterTx => apply execPtpMasterTx_blank (h := h) <;> rfl
  | lockstepMismatch => apply execLockstepMismatch_blank (h := h) <;> rfl
  | feedOutOfRange => apply execFeedOutOfRange_blank (h := h) <;> rfl
  | pairMessageRx => apply execPairMessageRx_blank (h := h) <;> rfl
  | heartbeatRx => apply execHeartbeatRx_blank (h := h) <;> rfl
  | urgentYieldRx => apply execUrgentYieldRx_blank (h := h) <;> rfl
  | removalMaskRx => apply execRemovalMaskRx_blank (h := h) <;> rfl
  | resyncStart => apply execResyncStart_blank (h := h) <;> rfl
  | stateImagePieceRx => apply execStateImagePieceRx_blank (h := h) <;> rfl
  | resyncInstall => apply execResyncInstall_blank (h := h) <;> rfl
  | resyncTimeout => apply execResyncTimeout_blank (h := h) <;> rfl
  | resyncRetry => apply execResyncRetry_blank (h := h) <;> rfl
  | buttressCourse => apply execButtressCourse_blank (h := h) <;> rfl
  | discrepancyFault => apply execDiscrepancyFault_blank (h := h) <;> rfl
  | outputStartupTest => apply execOutputStartupTest_blank (h := h) <;> rfl
  | outputTestStart => apply execOutputTestStart_blank (h := h) <;> rfl
  | outputTestEnd => apply execOutputTestEnd_blank (h := h) <;> rfl
  | degradedLimit => apply execDegradedLimit_blank (h := h) <;> rfl
  | islandFault => apply execIslandFault_blank (h := h) <;> rfl
  | buttressBeatLoss => apply execButtressBeatLoss_blank (h := h) <;> rfl
  | safetyFrameRx => apply execSafetyFrameRx_blank (h := h) <;> rfl
  | safetyCopyTimeout => apply execSafetyCopyTimeout_blank (h := h) <;> rfl
  | remoteSourceLost => apply execRemoteSourceLost_blank (h := h) <;> rfl
  | zwiluxDataRx => apply execZwiluxDataRx_blank (h := h) <;> rfl
  | zwiluxCommandRx => apply execZwiluxCommandRx_blank (h := h) <;> rfl
  | zwiluxReadRx => apply execZwiluxReadRx_blank (h := h) <;> rfl
  | routeEntryStale => apply execRouteEntryStale_blank (h := h) <;> rfl
  | streamPendingPost => apply execStreamPendingPost_blank (h := h) <;> rfl
  | netLinkChange => apply execNetLinkChange_blank (h := h) <;> rfl
  | icmpEchoRequest => apply execIcmpEchoRequest_blank (h := h) <;> rfl
  | arpRequest => apply execArpRequest_blank (h := h) <;> rfl
  | doorbellWrite => apply execDoorbellWrite_blank (h := h) <;> rfl
  | ringEnable => apply execRingEnable_blank (h := h) <;> rfl
  | ringReset => apply execRingReset_blank (h := h) <;> rfl
  | ringResetDone => apply execRingResetDone_blank (h := h) <;> rfl
  | hostAccessFailure => apply execHostAccessFailure_blank (h := h) <;> rfl
  | hostAccessRetry => apply execHostAccessRetry_blank (h := h) <;> rfl
  | bulkPieceWrite => apply execBulkPieceWrite_blank (h := h) <;> rfl
  | hostInterfaceReset => apply execHostInterfaceReset_blank (h := h) <;> rfl
  | problemSubmit => apply execProblemSubmit_blank (h := h) <;> rfl
  | feedListMove => apply execFeedListMove_blank (h := h) <;> rfl
  | laneTake => apply execLaneTake_blank (h := h) <;> rfl
  | problemRelease => apply execProblemRelease_blank (h := h) <;> rfl
  | problemLate => apply execProblemLate_blank (h := h) <;> rfl
  | laneKat => apply execLaneKat_blank (h := h) <;> rfl
  | arrayComparatorMismatch => apply execArrayComparatorMismatch_blank (h := h) <;> rfl
  | ballastValveFault => apply execBallastValveFault_blank (h := h) <;> rfl
  | ballastPumpFault => apply execBallastPumpFault_blank (h := h) <;> rfl
  | logIdentify => apply execLogIdentify_blank (h := h) <;> rfl
  | logProgramDone => apply execLogProgramDone_blank (h := h) <;> rfl
  | logReidentify => apply execLogReidentify_blank (h := h) <;> rfl
  | logEraseDone => apply execLogEraseDone_blank (h := h) <;> rfl
  | masonMarkSave => apply execMasonMarkSave_blank (h := h) <;> rfl
  | bankHandover => apply execBankHandover_blank (h := h) <;> rfl
  | bankWake => apply execBankWake_blank (h := h) <;> rfl
  | marchSliceAbort => apply execMarchSliceAbort_blank (h := h) <;> rfl
  | marchPassOverdue => apply execMarchPassOverdue_blank (h := h) <;> rfl
  | eccUncorrectable => apply execEccUncorrectable_blank (h := h) <;> rfl
  | mortarWriteCollision => apply execMortarWriteCollision_blank (h := h) <;> rfl
  | clockStopped => apply execClockStopped_blank (h := h) <;> rfl
  | clockRunningAgain => apply execClockRunningAgain_blank (h := h) <;> rfl
  | crossingTimeout => apply execCrossingTimeout_blank (h := h) <;> rfl
  | crossingReset => apply execCrossingReset_blank (h := h) <;> rfl
  | resetNAssert => apply execResetNAssert_blank (h := h) <;> rfl
  | plinthWatchdogExpiry => apply execPlinthWatchdogExpiry_blank (h := h) <;> rfl
  | powerOnReset => apply execPowerOnReset_blank (h := h) <;> rfl
  | partReset => apply execPartReset_blank (h := h) <;> rfl
  | partResetRelease => apply execPartResetRelease_blank (h := h) <;> rfl
  | glbResetWrite => apply execGlbResetWrite_blank (h := h) <;> rfl
  | holdupSaveStart => apply execHoldupSaveStart_blank (h := h) <;> rfl
  | holdupSaveEnd => apply execHoldupSaveEnd_blank (h := h) <;> rfl
  | holdChargeComplete => apply execHoldChargeComplete_blank (h := h) <;> rfl
  | holdTest => apply execHoldTest_blank (h := h) <;> rfl
  | vbatLow => apply execVbatLow_blank (h := h) <;> rfl
  | feedQualified => apply execFeedQualified_blank (h := h) <;> rfl
  | bootDone => apply execBootDone_blank (h := h) <;> rfl
  | pwrBootGo => apply execPwrBootGo_blank (h := h) <;> rfl
  | fwAuthDone => apply execFwAuthDone_blank (h := h) <;> rfl
  | selftestDone => apply execSelftestDone_blank (h := h) <;> rfl
  | restoreDone => apply execRestoreDone_blank (h := h) <;> rfl
  | linkPortChange => apply execLinkPortChange_blank (h := h) <;> rfl
  | cableDelayMeasure => apply execCableDelayMeasure_blank (h := h) <;> rfl
  | tickMarkerRx => apply execTickMarkerRx_blank (h := h) <;> rfl
  | memberTickApply => apply execMemberTickApply_blank (h := h) <;> rfl
  | beaconRx => apply execBeaconRx_blank (h := h) <;> rfl
  | linkJoin => apply execLinkJoin_blank (h := h) <;> rfl
  | masterLoss => apply execMasterLoss_blank (h := h) <;> rfl
  | caseVerdictsRx => apply execCaseVerdictsRx_blank (h := h) <;> rfl
  | intakeRecordsRx => apply execIntakeRecordsRx_blank (h := h) <;> rfl
  | forwardedPointsRx => apply execForwardedPointsRx_blank (h := h) <;> rfl
  | sharedPointBlockRx => apply execSharedPointBlockRx_blank (h := h) <;> rfl
  | sharedBlockStale => apply execSharedBlockStale_blank (h := h) <;> rfl
  | otpReadIdentity => apply execOtpReadIdentity_blank (h := h) <;> rfl
  | otpReadKey => apply execOtpReadKey_blank (h := h) <;> rfl
  | otpWriteIdentity => apply execOtpWriteIdentity_blank (h := h) <;> rfl
  | otpWriteKey => apply execOtpWriteKey_blank (h := h) <;> rfl
  | otpRevokeKey => apply execOtpRevokeKey_blank (h := h) <;> rfl
  | otpRevokeFwKey => apply execOtpRevokeFwKey_blank (h := h) <;> rfl
  | otpBindSeal => apply execOtpBindSeal_blank (h := h) <;> rfl
  | otpRaiseVersion => apply execOtpRaiseVersion_blank (h := h) <;> rfl
  | otpOperationDone => apply execOtpOperationDone_blank (h := h) <;> rfl
  | lockAll => apply execLockAll_blank (h := h) <;> rfl
  | lockSet => apply execLockSet_blank (h := h) <;> rfl
  | logFormat => apply execLogFormat_blank (h := h) <;> rfl
  | crsTblIndexWrite => apply execCrsTblIndexWrite_blank (h := h) <;> rfl
  | sniEntryWrite => apply execSniEntryWrite_blank (h := h) <;> rfl
  | gnsNotchSelWrite => apply execGnsNotchSelWrite_blank (h := h) <;> rfl
  | vslLaneSelWrite => apply execVslLaneSelWrite_blank (h := h) <;> rfl
  | pntSelWrite => apply execPntSelWrite_blank (h := h) <;> rfl
  | timLatchWrite => apply execTimLatchWrite_blank (h := h) <;> rfl
  | timCapSelWrite => apply execTimCapSelWrite_blank (h := h) <;> rfl
  | memBankSelWrite => apply execMemBankSelWrite_blank (h := h) <;> rfl
  | glbXselWrite => apply execGlbXselWrite_blank (h := h) <;> rfl
  | canSingleClear => apply execCanSingleClear_blank (h := h) <;> rfl
  | counterClear => apply execCounterClear_blank (h := h) <;> rfl
  | peakClear => apply execPeakClear_blank (h := h) <;> rfl
  | registerWrite => apply execRegisterWrite_blank (h := h) <;> rfl
  | uartFramingError => apply execUartFramingError_blank (h := h) <;> rfl
  | feedRestored => apply execFeedRestored_blank (h := h) <;> rfl
  | corePllLockLoss => apply execCorePllLockLoss_blank (h := h) <;> rfl
  | pcieLinkUp => apply execPcieLinkUp_blank (h := h) <;> rfl
  | ptpAnnounceTimeout => apply execPtpAnnounceTimeout_blank (h := h) <;> rfl
  | ptpDelayRequestTx => apply execPtpDelayRequestTx_blank (h := h) <;> rfl
  | igmpQueryRx => apply execIgmpQueryRx_blank (h := h) <;> rfl
  | canRxError => apply execCanRxError_blank (h := h) <;> rfl
  | scrubberRead => apply execScrubberRead_blank (h := h) <;> rfl
  | ext10mPresenceChange => apply execExt10mPresenceChange_blank (h := h) <;> rfl
  | safeOutputCurrentLimit => apply execSafeOutputCurrentLimit_blank (h := h) <;> rfl

theorem exec_pending (h : exec i s = .next u) : u.pending = s.pending :=
  State.pending_of_blank (exec_blank_keepOnly_pending h) rfl

/-! ## One step of the queue -/

theorem step_of_pending_nil (h : s.pending = []) : step s = .next s := by
  simp only [step, h]

theorem step_of_pending_cons {c : Instr} {rest : List Instr} (h : s.pending = c :: rest) :
    step s = exec c (s.withPending rest) := by
  simp only [step, h, State.withPending]

end

/-- Settles O1: the state with the queue put back as it was is the state itself. -/
theorem stepRunsFrontCommand : Obligations.StepRunsFrontCommand := by
  unfold Obligations.StepRunsFrontCommand
  exact fun c s => step_of_pending_cons rfl

/-- Settles O2: a step takes the front command off the queue, and no command changes the queue it runs on. -/
theorem commandsRunFirstInFirstOut : Obligations.CommandsRunFirstInFirstOut := by
  unfold Obligations.CommandsRunFirstInFirstOut
  refine fun s => ⟨step_of_pending_nil, fun c rest u hp hu => ?_⟩
  rw [step_of_pending_cons hp] at hu
  exact exec_pending hu

/-! ## Where an accepted command goes (R23, R335, R420) -/

/-- The buffer's length is no part of what makes a command synchronised. -/
@[simp] theorem syncCmd_cmdWithLen (h : CmdHdr) (c : HostCmd) : syncCmd (cmdWithLen h c) = syncCmd c := by
  cases c <;> rfl

@[simp] theorem effectCmd_cmdWithLen (h : CmdHdr) (c : HostCmd) : effectCmd (cmdWithLen h c) = effectCmd c := by
  cases c <;> rfl

theorem effectCmd_of_syncCmd {c : HostCmd} (h : syncCmd c = true) : effectCmd c = true := by
  simp only [effectCmd, h, Bool.true_or]

section
variable {w : Waiting} {s : State}

theorem State.withBuffer_of_read {go : State → State} (h : w.hdr.dma = none) : s.withBuffer w go = go s := by
  simp only [State.withBuffer, h]

theorem State.routeCommand_of_paired (hc : syncCmd w.cmd = true) (hp : s.rdn.pstate = 3) :
    s.routeCommand w = s.withRdn { s.rdn with batch := s.rdn.batch ++ [w] } := by
  rw [State.routeCommand, if_pos ⟨hc, hp⟩]

theorem State.routeCommand_of_waits (hc : effectCmd w.cmd = true) (hp : ¬(syncCmd w.cmd = true ∧ s.rdn.pstate = 3)) :
    s.routeCommand w = s.withHrg { s.hrg with waiting := s.hrg.waiting ++ [w] } := by
  rw [State.routeCommand, if_neg hp, if_pos hc]

end

section
variable {t : Nat} {h : CmdHdr} {s : State} {i : Instr} {c : HostCmd}

@[simp] theorem State.accepted_rdn : (s.accepted t h c).rdn = s.rdn := rfl
@[simp] theorem State.accepted_waiting : (s.accepted t h c).hrg.waiting = s.hrg.waiting := rfl
@[simp] theorem State.taken_cmd : (s.taken t h c).cmd = cmdWithLen h c := rfl
@[simp] theorem State.taken_due : (s.taken t h c).due = s.crs.frame + 1 := rfl

/-- An accepted command whose buffer, where it has one, was read goes where it takes effect. -/
theorem State.hostCommand_of_read (hb : readsBuffer c = false ∨ h.dma = none) (ha : s.Accepts h c) :
    s.hostCommand t h c = (s.accepted t h c).routeCommand (s.taken t h c) := by
  rw [State.hostCommand_of_accepts ha]
  split
  · exact State.withBuffer_of_read (hb.resolve_left (by simpa using ‹_›))
  · rfl

/-- Accepted, the command of a row goes to the end of those that wait for the next frame tick, due in the next frame. -/
def WaitsForTick (t : Nat) (h : CmdHdr) (s : State) (i : Instr) (c : HostCmd) : Prop :=
  s.Accepts h c →
    exec i s = .next ((s.accepted t h c).withHrg
      { (s.accepted t h c).hrg with waiting := s.hrg.waiting ++ [s.taken t h c] }) ∧
    (s.taken t h c).due = s.crs.frame + 1

/-- Accepted, the command of a row goes to the end of the batch for the next pair message. -/
def JoinsBatch (t : Nat) (h : CmdHdr) (s : State) (i : Instr) (c : HostCmd) : Prop :=
  s.Accepts h c →
    exec i s = .next ((s.accepted t h c).withRdn { s.rdn with batch := s.rdn.batch ++ [s.taken t h c] })

theorem waitsForTick_of_effectCmd (hi : exec i s = .next (s.hostCommand t h c)) (hc : effectCmd c = true)
    (hb : readsBuffer c = false ∨ h.dma = none) (hp : ¬(syncCmd c = true ∧ s.rdn.pstate = 3)) :
    WaitsForTick t h s i c := by
  intro ha
  refine ⟨?_, State.taken_due⟩
  rw [hi, State.hostCommand_of_read hb ha, State.routeCommand_of_waits (by simpa using hc) (by simpa using hp),
    State.accepted_waiting]

theorem joinsBatch_of_syncCmd (hi : exec i s = .next (s.hostCommand t h c)) (hc : syncCmd c = true)
    (hb : readsBuffer c = false ∨ h.dma = none) (hp : s.rdn.pstate = 3) : JoinsBatch t h s i c := by
  intro ha
  rw [hi, State.hostCommand_of_read hb ha, State.routeCommand_of_paired (by simpa using hc) (by simpa using hp),
    State.accepted_rdn]

/-- Where a synchronised command goes, by the pair state. -/
theorem waits_or_joins_of_syncCmd (hi : exec i s = .next (s.hostCommand t h c)) (hc : syncCmd c = true)
    (hb : readsBuffer c = false ∨ h.dma = none) :
    (s.rdn.pstate ≠ 3 → WaitsForTick t h s i c) ∧ (s.rdn.pstate = 3 → JoinsBatch t h s i c) :=
  ⟨fun hp => waitsForTick_of_effectCmd hi (effectCmd_of_syncCmd hc) hb fun hs => hp hs.2, joinsBatch_of_syncCmd hi hc hb⟩

/-- A command that is not synchronised waits for the tick in every pair state. -/
theorem waitsForTick_of_not_syncCmd (hi : exec i s = .next (s.hostCommand t h c)) (hc : effectCmd c = true)
    (hs : syncCmd c = false) (hb : readsBuffer c = false ∨ h.dma = none) : WaitsForTick t h s i c :=
  waitsForTick_of_effectCmd hi hc hb (by simp [hs])

end

/-- Settles O33: twelve of the rows are synchronised commands and the last three are not; TRACK_LOAD alone reads a
buffer. -/
theorem tickCommandsWaitForTheirTick : Obligations.TickCommandsWaitForTheirTick := by
  unfold Obligations.TickCommandsWaitForTheirTick
  exact fun t h s => ⟨fun _ _ _ => waits_or_joins_of_syncCmd rfl rfl (.inl rfl),
    fun _ _ => waits_or_joins_of_syncCmd rfl rfl (.inl rfl),
    fun _ _ _ _ => waits_or_joins_of_syncCmd rfl rfl (.inl rfl),
    fun _ _ => waits_or_joins_of_syncCmd rfl rfl (.inl rfl),
    fun _ _ _ _ _ => waits_or_joins_of_syncCmd rfl rfl (.inl rfl),
    fun _ => waits_or_joins_of_syncCmd rfl rfl (.inl rfl), fun _ hd => waits_or_joins_of_syncCmd rfl rfl (.inr hd),
    fun _ _ _ _ => waits_or_joins_of_syncCmd rfl rfl (.inl rfl),
    fun _ _ => waits_or_joins_of_syncCmd rfl rfl (.inl rfl), fun _ _ => waits_or_joins_of_syncCmd rfl rfl (.inl rfl),
    fun _ _ => waits_or_joins_of_syncCmd rfl rfl (.inl rfl), waits_or_joins_of_syncCmd rfl rfl (.inl rfl),
    fun _ => waitsForTick_of_not_syncCmd rfl rfl rfl (.inl rfl),
    fun _ _ _ => waitsForTick_of_not_syncCmd rfl rfl rfl (.inl rfl),
    waitsForTick_of_not_syncCmd rfl rfl rfl (.inl rfl)⟩

end Sys2Proof.Machine
end

section
/-! The statements of spec/02_courses_and_frames.md: what the items of the course table do and leave unchanged. -/

namespace Sys2Proof.Machine
open Sys2Proof

/-! ## What a raised event and a count leave unchanged -/

/-- A fold whose steps keep what `g` reads of the state keeps it. -/
theorem State.foldl_keeps {α β : Type} (g : State → β) (f : State → α → State) (l : List α) (s : State)
    (h : ∀ s x, g (f s x) = g s) : g (l.foldl f s) = g s := by
  induction l generalizing s with
  | nil => rfl
  | cons x l ih => exact (ih (f s x)).trans (h s x)

section
variable (s : State) (src : Nat) (sev : Sev) (qual cause index : Nat) (vals : List Word) (c : Ctr) (n : Nat)

@[simp] theorem State.raise_btr : (s.raise src sev qual cause index vals).btr = s.btr :=
  State.btr_of_blank (m := keepOnly [.btr]) (State.raise_blank rfl rfl src sev qual cause index vals s) rfl
@[simp] theorem State.raise_pnt : (s.raise src sev qual cause index vals).pnt = s.pnt :=
  State.pnt_of_blank (m := keepOnly [.pnt]) (State.raise_blank rfl rfl src sev qual cause index vals s) rfl
@[simp] theorem State.raise_glb : (s.raise src sev qual cause index vals).glb = s.glb :=
  State.glb_of_blank (m := keepOnly [.glb]) (State.raise_blank rfl rfl src sev qual cause index vals s) rfl
@[simp] theorem State.raise_rdn : (s.raise src sev qual cause index vals).rdn = s.rdn :=
  State.rdn_of_blank (m := keepOnly [.rdn]) (State.raise_blank rfl rfl src sev qual cause index vals s) rfl
@[simp] theorem State.countN_btr : (s.countN c n).btr = s.btr :=
  State.btr_of_blank (m := keepOnly [.btr]) (State.countN_blank rfl rfl c n s) rfl
@[simp] theorem State.countN_pnt : (s.countN c n).pnt = s.pnt :=
  State.pnt_of_blank (m := keepOnly [.pnt]) (State.countN_blank rfl rfl c n s) rfl
@[simp] theorem State.countN_glb : (s.countN c n).glb = s.glb :=
  State.glb_of_blank (m := keepOnly [.glb]) (State.countN_blank rfl rfl c n s) rfl
@[simp] theorem State.countN_rdn : (s.countN c n).rdn = s.rdn :=
  State.rdn_of_blank (m := keepOnly [.rdn]) (State.countN_blank rfl rfl c n s) rfl
@[simp] theorem State.count_btr : (s.count c).btr = s.btr := s.countN_btr c 1
@[simp] theorem State.count_pnt : (s.count c).pnt = s.pnt := s.countN_pnt c 1
@[simp] theorem State.count_glb : (s.count c).glb = s.glb := s.countN_glb c 1
@[simp] theorem State.count_rdn : (s.count c).rdn = s.rdn := s.countN_rdn c 1
end

/-! ## An item that is open runs and finishes (R43, R46) -/

/-- What is left out to compare the course grid of two states. -/
def onlyGrid : Part → Bool := keepOnly [.crs, .tick]

section
variable {s w : State} {i : Instr} {code t : Nat} {f : State → State}

@[simp] theorem State.instant_crs : (s.instant t).crs = s.crs := rfl
@[simp] theorem State.instant_est : (s.instant t).est = s.est := rfl
@[simp] theorem State.instant_ctl : (s.instant t).ctl = s.ctl := rfl
@[simp] theorem State.instant_image : (s.instant t).image = s.image := rfl
@[simp] theorem State.instant_nominalResult : (s.instant t).nominalResult = s.nominalResult := rfl
@[simp] theorem State.itemDone_glb : (s.itemDone code).glb = s.glb := rfl

/-- An item whose work keeps the course grid has finished in time once it is done. -/
theorem FinishedItem.of_keptGrid (hc : code < 43) (h : w.blank onlyGrid = (s.instant t).blank onlyGrid) :
    FinishedItem code s (w.itemDone code) :=
  .of_itemDone hc (State.crs_of_blank h rfl rfl)

theorem exec_of_whileRunning (hi : exec i s = .next ((s.instant t).whileRunning f)) (hr : s.runs = true) :
    exec i s = .next (f (s.instant t)) := by
  rw [hi, State.whileRunning_of_runs (s.instant t) hr]

theorem exec_of_runItem (hi : exec i s = .next (s.runItem code t f)) (hr : s.runs = true)
    (hw : (s.instant t).itemRuns code = true) : exec i s = .next ((f (s.instant t)).itemDone code) := by
  rw [hi, State.runItem_of_runs s hr hw]

theorem exec_of_runService (hi : exec i s = .next (s.runService code t f)) (hr : s.runs = true)
    (hw : (s.instant t).serviceOpen code = true) : exec i s = .next ((f (s.instant t)).itemDone code) := by
  rw [hi, State.runService_of_runs s hr hw]

theorem answers_finished_of_runItem (hi : exec i s = .next (s.runItem code t f)) (hr : s.runs = true)
    (hw : (s.instant t).itemRuns code = true) (hc : code < 43)
    (hf : (f (s.instant t)).blank onlyGrid = (s.instant t).blank onlyGrid) : Answers i s (FinishedItem code s) :=
  ⟨_, exec_of_runItem hi hr hw, .of_keptGrid hc hf⟩

theorem answers_finished_of_runService (hi : exec i s = .next (s.runService code t f)) (hr : s.runs = true)
    (hw : (s.instant t).serviceOpen code = true) (hc : code < 43)
    (hf : (f (s.instant t)).blank onlyGrid = (s.instant t).blank onlyGrid) : Answers i s (FinishedItem code s) :=
  ⟨_, exec_of_runService hi hr hw, .of_keptGrid hc hf⟩

end

/-! ## The frame statements of the course table -/

/-- Settles O8: each row by the law of its operations that says what they can change. -/
theorem frameItemsOfTheControlPath : Obligations.FrameItemsOfTheControlPath := by
  unfold Obligations.FrameItemsOfTheControlPath
  exact ⟨fun _ _ _ h => .of_blank (by apply execAlign_blank (h := h) <;> rfl),
    fun _ _ _ _ h => .of_blank (by apply execEstimate_blank (h := h) <;> rfl),
    fun _ _ _ h => .of_blank (by apply execVote_blank (h := h) <;> rfl),
    fun _ _ _ _ h => .of_blank (by apply execRefSilent_blank (h := h) <;> rfl),
    fun _ _ _ _ h => .of_blank (by apply execRefReadmissionComplete_blank (h := h) <;> rfl),
    fun _ _ _ _ h => .of_blank (by apply execBootstrapAdmission_blank (h := h) <;> rfl),
    fun _ _ _ _ h => .of_blank (by apply execClassCoastTimeout_blank (h := h) <;> rfl),
    fun _ _ _ h => .of_blank (by apply execLaw_blank (h := h) <;> rfl),
    fun _ _ _ h => .of_blank (by apply execJoystickLost_blank (h := h) <;> rfl),
    fun _ _ _ h => .of_blank (by apply execGainAutoEvaluation_blank (h := h) <;> rfl),
    fun _ _ _ h => .of_blank (by apply execCurrentReport_blank (h := h) <;> rfl),
    fun _ _ _ h => .of_blank (by apply execDispatch_blank (h := h) <;> rfl),
    fun _ _ _ h => .of_blank (by apply execCaseDispatch_blank (h := h) <;> rfl),
    fun _ _ _ h => .of_blank (by apply execRelease_blank (h := h) <;> rfl),
    fun _ _ _ _ h => .of_blank (by apply execAvailPointStale_blank (h := h) <;> rfl),
    fun _ _ _ h => .of_blank (by apply execDigest_blank (h := h) <;> rfl),
    fun _ _ _ h => .of_blank (by apply execPairCompare_blank (h := h) <;> rfl),
    fun _ _ _ _ h => .of_blank (by apply execKeystone_blank (h := h) <;> rfl),
    fun _ _ _ h => .of_blank (by apply execConfirm_blank (h := h) <;> rfl),
    fun _ _ _ h => .of_blank (by apply execConfirmMiss_blank (h := h) <;> rfl),
    fun _ _ h => .of_blank (by apply execTickPhaseSlewEnd_blank (h := h) <;> rfl),
    fun _ _ _ _ h => .of_blank (by apply execDeadlineMiss_blank (h := h) <;> rfl)⟩

/-- Settles O9: each row by the law of its operations that says what they can change. -/
theorem frameItemsOfAnalysisAndService : Obligations.FrameItemsOfAnalysisAndService := by
  unfold Obligations.FrameItemsOfAnalysisAndService
  exact ⟨fun _ _ _ h => .of_blank (by apply execPostPoints_blank (h := h) <;> rfl),
    fun _ _ _ h => .of_blank (by apply execPostLog_blank (h := h) <;> rfl),
    fun _ _ _ h => .of_blank (by apply execCaseCollect_blank (h := h) <;> rfl),
    fun _ _ _ h => .of_blank (by apply execEnvCollect_blank (h := h) <;> rfl),
    fun _ _ _ h => .of_blank (by apply execConseqReport_blank (h := h) <;> rfl),
    fun _ _ _ _ h => .of_blank (by apply execTrim_blank (h := h) <;> rfl),
    fun _ _ _ _ _ _ _ _ h => .of_blank (by apply execGnssNav_blank (h := h) <;> rfl),
    fun _ _ _ _ h => .of_blank (by apply execHost_blank (h := h) <;> rfl),
    fun _ _ _ _ h => .of_blank (by apply execDescriptorPhaseTimeout_blank (h := h) <;> rfl),
    fun _ _ _ _ h => .of_blank (by apply execNet_blank (h := h) <;> rfl),
    fun _ _ _ h => .of_blank (by apply execSupervise_blank (h := h) <;> rfl),
    fun _ _ _ h => .of_blank (by apply execRecorder_blank (h := h) <;> rfl),
    fun _ _ _ _ h => .of_blank (by apply execMarch_blank (h := h) <;> rfl),
    fun _ _ _ _ h => .of_blank (by apply execCompletionPost_blank (h := h) <;> rfl),
    fun _ _ _ _ h => .of_blank (by apply execMsixModerationExpiry_blank (h := h) <;> rfl)⟩

/-- Settles O18: each row by the law of its operations that says what they can change. -/
theorem frameTicks : Obligations.FrameTicks := by
  unfold Obligations.FrameTicks
  exact ⟨fun _ _ h => .of_blank (by apply execCourseTick_blank (h := h) <;> rfl),
    fun _ _ h => .of_blank (by apply execFrameTick_blank (h := h) <;> rfl),
    fun _ _ h => .of_blank (by apply execSubstituteTick_blank (h := h) <;> rfl),
    fun _ _ h => .of_blank (by apply execImageActivationTick_blank (h := h) <;> rfl),
    fun _ _ h => .of_blank (by apply execMemberTickApply_blank (h := h) <;> rfl),
    fun _ _ _ h => .of_blank (by apply execLinkJoin_blank (h := h) <;> rfl)⟩

/-! ## The items of the control path finish (R43, R46, R47, R49) -/

section
variable {t : Nat} {s : State} (hr : s.runs = true)
include hr

/-- The records that ALIGN hands over are those that ESTIMATE has still to take. -/
theorem align_finishes (hw : (s.instant t).itemRuns 1 = true) :
    Answers (.align t) s fun u => FinishedItem 1 s u ∧ u.est.consumed = false := by
  refine ⟨_, exec_of_runItem rfl hr hw, .of_keptGrid (t := t) (by decide) ?_, rfl⟩
  simp (disch := decide) only [↓State.withEst_blank, ↓State.alignPoints_blank, ↓State.alignRecords_blank,
    ↓State.estimateHands_blank]
  exact State.foldl_blank _ _ _ fun _ _ => State.entrySilence_blank rfl rfl rfl _ _

theorem estimate_finishes (ends : List (Nat × OwnEnd)) (hw : (s.instant t).itemRuns 2 = true) (hf : s.est.fresh = true)
    (he : (((s.instant t).withEst { s.est with carry := [], consumed := true }).estimateRun ends
      (s.instant t).takeRecords).2 = true) :
    Answers (.estimate t ends) s fun u => FinishedItem 2 s u := by
  refine ⟨_, (exec_of_whileRunning rfl hr).trans (congrArg _ ?_), .of_keptGrid (t := t)
    (w := (((s.instant t).withEst { s.est with carry := [], consumed := true }).estimateRun ends
      (s.instant t).takeRecords).1) (by decide) ?_⟩
  · exact (if_neg (by simp [hw, hf])).trans (if_pos he)
  · simp (disch := decide) only [↓State.estimateRun_blank, ↓State.withEst_blank]

theorem vote_finishes (hw : (s.instant t).itemRuns 3 = true) : Answers (.vote t) s fun u => FinishedItem 3 s u := by
  refine answers_finished_of_runItem rfl hr hw (by decide) ?_
  simp (disch := decide) only [↓State.ite_blank, ↓State.vote_blank, ite_self]

theorem law_finishes (hw : (s.instant t).itemRuns 4 = true) : Answers (.law t) s fun u => FinishedItem 4 s u := by
  refine answers_finished_of_runItem rfl hr hw (by decide) ?_
  simp (disch := decide) only [↓State.law_blank, ↓State.takePower_blank]

theorem dispatch_finishes (hw : (s.instant t).itemRuns 5 = true) :
    Answers (.dispatch t) s fun u => FinishedItem 5 s u := by
  refine answers_finished_of_runItem rfl hr hw (by decide) ?_
  simp (disch := decide) only [↓State.dispatch_blank]

theorem caseDispatch_finishes (hw : (s.instant t).itemRuns 6 = true) :
    Answers (.caseDispatch t) s fun u => FinishedItem 6 s u := by
  refine answers_finished_of_runItem rfl hr hw (by decide) ?_
  simp (disch := decide) only [↓State.caseDispatch_blank]

theorem release_finishes_of_standby (hw : (s.instant t).itemRuns 7 = true)
    (hp : 1000000 + slotStart 30 ≤ (s.instant t).framePlace) (hm : s.ctl.mode = 0) :
    Answers (.release t) s fun u => FinishedItem 7 s u := by
  refine ⟨_, (exec_of_whileRunning rfl hr).trans (congrArg _ ?_),
    .of_keptGrid (t := t) (w := (s.instant t).releaseStandby) (by decide) ?_⟩
  · simp only [hw, hp.not_gt, State.instant_ctl, hm, Bool.true_eq_false, or_self, if_true, if_false]
  · simp (disch := decide) only [↓State.releaseStandby_blank]

theorem release_finishes_of_result {tm : List Byte} {r : ArrayResult} (hw : (s.instant t).itemRuns 7 = true)
    (hp : 1000000 + slotStart 30 ≤ (s.instant t).framePlace) (hm : s.ctl.mode ≠ 0)
    (hi : imgTemplate s.image 0 = some tm)
    (hn : s.nominalResult = some r) (hu : r.status % 16 ≤ 1) :
    Answers (.release t) s fun u => FinishedItem 7 s u := by
  refine ⟨_, (exec_of_whileRunning rfl hr).trans (congrArg _ ?_),
    .of_keptGrid (t := t) (w := (s.instant t).releaseResult tm r) (by decide) ?_⟩
  · simp only [hw, hp.not_gt, State.instant_ctl, hm, State.instant_image, hi, State.instant_nominalResult, hn, hu,
      Bool.true_eq_false, or_self, if_true, if_false]
  · simp (disch := decide) only [↓State.releaseResult_blank]

end

/-- Settles O19: no work of these items changes the course grid, so that the item finishes on the grid it began on. -/
theorem controlItemsFinish : Obligations.ControlItemsFinish := by
  unfold Obligations.ControlItemsFinish
  exact fun t s hr => ⟨align_finishes hr, estimate_finishes hr, vote_finishes hr, law_finishes hr,
    dispatch_finishes hr, caseDispatch_finishes hr,
    release_finishes_of_standby hr, fun _ _ => release_finishes_of_result hr⟩

end Sys2Proof.Machine
end

section
/-! The statements of spec/02_courses_and_frames.md: the items of analysis, safety and posting finish. -/

namespace Sys2Proof.Machine
open Sys2Proof

/-! ## CONFIRM (R359, R360) -/

/-- What the buttress remembers of the confirms it has seen. -/
def State.confirms (s : State) : Nat × Nat × Bool := (s.btr.missStreak, s.btr.goodConfirms, s.btr.missLatched)

theorem State.confirms_of_btr {a b : State} (h : a.btr = b.btr) : a.confirms = b.confirms := by
  simp only [State.confirms, h]

@[simp] theorem State.raise_confirms (s : State) (src : Nat) (sev : Sev) (qual cause index : Nat) (vals : List Word) :
    (s.raise src sev qual cause index vals).confirms = s.confirms := State.confirms_of_btr (by simp)
@[simp] theorem State.count_confirms (s : State) (c : Ctr) : (s.count c).confirms = s.confirms :=
  State.confirms_of_btr (by simp)

theorem State.confirmCheck_confirms (s : State) : s.confirmCheck.confirms = s.confirms := by
  unfold State.confirmCheck
  cases s.rdn.tap with
  | none => rfl
  | some k =>
    have hm : (s.withBtr { s.btr with mismatch := true }).confirms = s.confirms := rfl
    simp only [apply_ite State.confirms, State.raise_confirms, State.count_confirms, hm, ite_self]

theorem State.btrRequest_confirms (s : State) : s.btrRequest.confirms = s.confirms :=
  State.foldl_keeps State.confirms _ _ _ fun _ _ => rfl

theorem State.btrReady_confirms (s : State) : s.btrReady.confirms = s.confirms := by
  have hn (n : Nat) : (s.withBtr { s.btr with notReady := n }).confirms = s.confirms := rfl
  simp only [State.btrReady, apply_ite State.confirms, State.btrRequest_confirms, State.raise_confirms, hn, ite_self]

theorem State.sendSafety_confirms (flags : Nat) (s : State) : (s.sendSafety flags).confirms = s.confirms := by
  unfold State.sendSafety
  split
  · rfl
  · refine State.foldl_keeps State.confirms _ _ _ fun s n => ?_
    simp only [apply_ite State.confirms, State.raise_confirms, State.count_confirms]
    exact ite_self _

/-- The work of CONFIRM of a buttress that acts. -/
def State.confirmWork (s : State) : State :=
  let c := s.confirmCheck
  (c.withBtr { c.btr with
    missStreak := 0, goodConfirms := min 250 (c.btr.goodConfirms + 1)
    missLatched := c.btr.missLatched && decide (c.btr.goodConfirms + 1 < 250) }).btrReady.sendSafety 0

theorem State.confirmWork_confirms (s : State) : s.confirmWork.confirms =
    (0, min 250 (s.btr.goodConfirms + 1), s.btr.missLatched && decide (s.btr.goodConfirms + 1 < 250)) := by
  obtain ⟨-, hg, hl⟩ : _ ∧ _ ∧ _ := by simpa only [State.confirms, Prod.mk.injEq] using s.confirmCheck_confirms
  rw [State.confirmWork, State.sendSafety_confirms, State.btrReady_confirms, ← hg, ← hl]
  rfl

theorem State.confirmWork_blank (s : State) : s.confirmWork.blank onlyGrid = s.blank onlyGrid := by
  simp (disch := decide) only [State.confirmWork, ↓State.sendSafety_blank, ↓State.btrReady_blank, ↓State.withBtr_blank,
    ↓State.confirmCheck_blank]

/-! ## POST_POINTS (R372) -/

theorem State.streamHold_sysLeft (st n : Nat) (s : State) : (s.streamHold st n).pnt.sysLeft = s.pnt.sysLeft := by
  simp only [State.streamHold, apply_ite (fun s : State => s.pnt.sysLeft), State.raise_pnt, State.count_pnt]
  exact ite_self _

theorem State.streamBatch_sysLeft (st : Nat) (ps : List (Nat × Pt)) (s : State) :
    (s.streamBatch st ps).pnt.sysLeft = s.pnt.sysLeft := by
  have hf (l : List (Nat × Pt)) (s : State) :
      (l.foldl (fun s p => s.streamHold st p.1) s).pnt.sysLeft = s.pnt.sysLeft :=
    State.foldl_keeps (fun s => s.pnt.sysLeft) _ l s fun _ p => State.streamHold_sysLeft st p.1 _
  have hp (s : State) (fl : Nat) (b : List Byte) : ((s.putBehind (17 + st) fl b).ringMsg (17 + st)).pnt = s.pnt :=
    State.pnt_of_blank (m := keepOnly [.pnt])
      (by simp (disch := decide) only [↓State.ringMsg_blank, ↓State.putBehind_blank]) rfl
  simp only [State.streamBatch, apply_ite (fun s : State => s.pnt.sysLeft), State.withPnt_pnt, hf, hp, ite_self]

theorem State.streamPost_sysLeft (ps : List (Nat × Pt)) (s : State) : (s.streamPost ps).pnt.sysLeft = s.pnt.sysLeft :=
  State.foldl_keeps (fun s => s.pnt.sysLeft) _ _ _ fun _ st =>
    State.foldl_keeps (fun s => s.pnt.sysLeft) _ _ _ fun _ b => State.streamBatch_sysLeft st b _

theorem State.writePoints_sysLeft (entry : Nat) (time : Int) (frame : Word) (us : List PtUpd) (s : State) :
    (s.writePoints entry time frame us).pnt.sysLeft = s.pnt.sysLeft := by
  simp only [State.writePoints, State.streamPost_sysLeft, apply_ite (fun s : State => s.pnt.sysLeft), State.countN_pnt]
  exact ite_self _

theorem State.writeRecords_sysLeft (n : Nat) (s : State) : (s.writeRecords n).pnt.sysLeft = s.pnt.sysLeft.drop n :=
  State.foldl_keeps (fun s => s.pnt.sysLeft) _ _ _ fun _ _ => State.writePoints_sysLeft _ _ _ _ _

/-- The records of the frame are taken, unless POST_POINTS has taken them before. -/
def State.sysTaken (s : State) : State :=
  if s.pnt.sysFrame = some s.crs.frame then s else (s.takeSysRecords s.crs.frame).sendExports.writeEvents

theorem State.sysTaken_sysLeft (s : State) :
    s.sysTaken.pnt.sysLeft = if s.pnt.sysFrame = some s.crs.frame then s.pnt.sysLeft else s.sysRecords := by
  have hp (s : State) : s.sendExports.writeEvents.pnt = s.pnt :=
    State.pnt_of_blank (m := keepOnly [.pnt])
      (by simp (disch := decide) only [↓State.writeEvents_blank, ↓State.sendExports_blank]) rfl
  rw [State.sysTaken]
  split
  · rfl
  · next h => rw [hp, State.takeSysRecords, if_neg h]; rfl

theorem State.sysTaken_blank (s : State) : s.sysTaken.blank onlyGrid = s.blank onlyGrid := by
  simp (disch := decide) only [State.sysTaken, ↓State.ite_blank, ↓State.writeEvents_blank, ↓State.sendExports_blank,
    ↓State.takeSysRecords_blank, ite_self]

/-! ## TRIM (R291) -/

section
variable (s : State)

theorem State.trimPose_clk : s.trimPose.clk = s.clk :=
  State.clk_of_blank (m := keepOnly [.clk, .tick]) (by simp (disch := decide) only [↓State.trimPose_blank]) rfl rfl
theorem State.trimPose_crs : s.trimPose.crs = s.crs :=
  State.crs_of_blank (m := onlyGrid) (by simp (disch := decide) only [↓State.trimPose_blank]) rfl rfl
theorem State.trimPose_img : s.trimPose.img = s.img :=
  State.img_of_blank (m := keepOnly [.img]) (by simp (disch := decide) only [↓State.trimPose_blank]) rfl
theorem State.trimPose_rdn : s.trimPose.rdn = s.rdn :=
  State.rdn_of_blank (m := keepOnly [.rdn]) (by simp (disch := decide) only [↓State.trimPose_blank]) rfl

theorem State.trimPose_framePlace : s.trimPose.framePlace = s.framePlace := by
  simp only [State.framePlace, State.trimPose_crs, State.trimPose_clk]

theorem State.trimPose_itemStart (code : Nat) : s.trimPose.itemStart code = s.itemStart code := by
  simp only [State.itemStart, State.frameCourses, State.pairMode, State.hasImage, State.imagePair, State.image,
    State.trimPose_crs, State.trimPose_img, State.trimPose_rdn]

/-- What TRIM does from its slot 40 on with the problem posed. -/
def State.trimSecond : State :=
  if s.trim.state ≠ 2 then s.trimMoves (fun _ => f0) []
  else
    let s := s.noteTrim
    match s.trimVolumes with
    | none => s.trimMissed
    | some vol => s.trimMoves vol (s.chosenRoutes vol)

end

theorem FinishedItem.trimMoves {s w : State} {t : Nat} (h : w.blank onlyGrid = (s.instant t).blank onlyGrid)
    (vol : Nat → F64) (want : List Nat) : FinishedItem 0x13 s (w.trimMoves vol want) := by
  refine .of_keptGrid (t := t) (by decide) ?_
  simp (disch := decide) only [↓State.postTrim_blank, ↓State.withTrim_blank, ↓State.writeTrim_blank,
    ↓State.trimMove_blank, h]

theorem FinishedItem.trimSecond {s w : State} {t : Nat} (h : w.blank onlyGrid = (s.instant t).blank onlyGrid)
    (hv : w.trim.state = 2 → w.noteTrim.trimVolumes ≠ none) : FinishedItem 0x13 s w.trimSecond := by
  by_cases h2 : w.trim.state = 2
  · obtain ⟨vol, hvol⟩ := Option.ne_none_iff_exists'.mp (hv h2)
    rw [State.trimSecond, if_neg (not_not.mpr h2)]
    simp only [hvol]
    exact .trimMoves (t := t) (by simp (disch := decide) only [↓State.noteTrim_blank, h]) vol _
  · rw [State.trimSecond, if_pos h2]
    exact .trimMoves h _ _

/-! ## The items finish (R43, R46, R49) -/

section
variable {t : Nat} {s : State} (hr : s.runs = true)
include hr

theorem confirm_finishes (hw : (s.instant t).itemRuns 0x0A = true) (ha : s.btr.acts = true) :
    Answers (.confirm t) s fun u => FinishedItem 0x0A s u ∧
      u.btr.missStreak = 0 ∧ u.btr.goodConfirms = min 250 (s.btr.goodConfirms + 1) ∧
      u.btr.missLatched = (s.btr.missLatched && decide (s.btr.goodConfirms + 1 < 250)) := by
  have he : exec (.confirm t) s = .next ((s.instant t).confirmWork.itemDone 0x0A) :=
    (exec_of_runItem rfl hr hw).trans (by rw [if_neg (by simp [State.instant, ha])]; rfl)
  have hu : ((s.instant t).confirmWork.itemDone 0x0A).confirms =
      (0, min 250 (s.btr.goodConfirms + 1), s.btr.missLatched && decide (s.btr.goodConfirms + 1 < 250)) :=
    (s.instant t).confirmWork_confirms
  refine ⟨_, he, .of_keptGrid (by decide) (State.confirmWork_blank _), ?_⟩
  simpa only [State.confirms, Prod.mk.injEq] using hu

theorem exec_postPoints {n : Nat} (hw : (s.instant t).itemRuns 0x0B = true) :
    exec (.postPoints ⟨t, n⟩) s = .next
      (if ((s.instant t).sysTaken.writeRecords n).pnt.sysLeft.isEmpty
        then ((s.instant t).sysTaken.writeRecords n).itemDone 0x0B else (s.instant t).sysTaken.writeRecords n) :=
  (exec_of_whileRunning (t := t) (i := .postPoints ⟨t, n⟩) rfl hr).trans (congrArg Host.Outcome.next (if_pos hw))

theorem postPoints_finishes (n : Nat) (hw : (s.instant t).itemRuns 0x0B = true)
    (hn : (if s.pnt.sysFrame = some s.crs.frame then s.pnt.sysLeft.length else (s.instant t).sysRecords.length) ≤ n) :
    Answers (.postPoints ⟨t, n⟩) s fun u => FinishedItem 0x0B s u := by
  have he : ((s.instant t).sysTaken.writeRecords n).pnt.sysLeft.isEmpty = true := by
    rw [State.writeRecords_sysLeft, State.sysTaken_sysLeft, List.isEmpty_iff, List.drop_eq_nil_iff,
      apply_ite List.length]
    exact hn
  refine ⟨_, (exec_postPoints hr hw).trans (congrArg _ (if_pos he)), .of_keptGrid (t := t) (by decide) ?_⟩
  simp (disch := decide) only [↓State.writeRecords_blank, ↓State.sysTaken_blank]

theorem postPoints_writes_from_front (n : Nat) (hw : (s.instant t).itemRuns 0x0B = true)
    (hn : s.pnt.sysFrame = some s.crs.frame) :
    Answers (.postPoints ⟨t, n⟩) s fun u => u.pnt.sysLeft = s.pnt.sysLeft.drop n := by
  have hl : ((s.instant t).sysTaken.writeRecords n).pnt.sysLeft = s.pnt.sysLeft.drop n := by
    rw [State.writeRecords_sysLeft, State.sysTaken_sysLeft]
    exact congrArg _ (if_pos hn)
  refine ⟨_, exec_postPoints hr hw, ?_⟩
  split <;> exact hl

theorem postLog_finishes (hw : (s.instant t).itemRuns 0x0C = true) :
    Answers (.postLog t) s fun u => FinishedItem 0x0C s u :=
  answers_finished_of_runItem rfl hr hw (by decide) (State.formRecords_blank rfl rfl _)

theorem caseCollect_finishes (hw : (s.instant t).itemRuns 0x10 = true) :
    Answers (.caseCollect t) s fun u => FinishedItem 0x10 s u := by
  refine answers_finished_of_runItem rfl hr hw (by decide) ?_
  simp (disch := decide) only [↓State.sendVerdicts_blank, ↓State.caseCollect_blank]

theorem envCollect_finishes (hw : (s.instant t).itemRuns 0x11 = true) :
    Answers (.envCollect t) s fun u => FinishedItem 0x11 s u := by
  refine answers_finished_of_runItem rfl hr hw (by decide) ?_
  simp (disch := decide) only [↓State.envCollect_blank]

theorem conseqReport_finishes (hw : (s.instant t).itemRuns 0x12 = true) :
    Answers (.conseqReport t) s fun u => FinishedItem 0x12 s u := by
  refine answers_finished_of_runItem rfl hr hw (by decide) ?_
  simp (disch := decide) only [↓State.conseqReport_blank]

theorem gnssNav_finishes {nav iono obs sols hd} (hw : (s.instant t).itemRuns 0x18 = true) :
    Answers (.gnssNav t nav iono obs sols hd) s fun u => FinishedItem 0x18 s u := by
  refine answers_finished_of_runItem rfl hr hw (by decide) ?_
  simp (disch := decide) only [↓State.ite_blank, ↓State.gnssNav_blank, ite_self]

/-- Posing the problem moves neither the instant nor the slots of TRIM. -/
theorem exec_trim {fin : Option OwnEnd} (hw : (s.instant t).itemRuns 0x13 = true) (hd : s.trimDue = true) :
    exec (.trim t fin) s = .next (
      if (s.instant t).framePlace < (s.instant t).itemStart 0x13 + 800000 then (s.instant t).trimPose.trimAwait fin
      else (s.instant t).trimPose.trimSecond) := by
  have hd' : (s.instant t).trimDue = true := hd
  refine (exec_of_whileRunning (t := t) (i := .trim t fin) rfl hr).trans (congrArg Host.Outcome.next ?_)
  rw [if_neg (by simp [hw, hd']), ← State.trimPose_framePlace, ← State.trimPose_itemStart]
  rfl

theorem trim_finishes (hw : (s.instant t).itemRuns 0x13 = true) (hd : s.trimDue = true)
    (hp : (s.instant t).itemStart 0x13 + 800000 ≤ (s.instant t).framePlace)
    (hv : (s.instant t).trimPose.trim.state = 2 → (s.instant t).trimPose.noteTrim.trimVolumes ≠ none)
    (fin : Option OwnEnd) : Answers (.trim t fin) s fun u => FinishedItem 0x13 s u := by
  refine ⟨_, exec_trim hr hw hd, ?_⟩
  rw [if_neg hp.not_gt]
  exact .trimSecond (t := t) (by simp (disch := decide) only [↓State.trimPose_blank]) hv

theorem trim_poses (hw : (s.instant t).itemRuns 0x13 = true) (hd : s.trimDue = true)
    (hp : (s.instant t).framePlace < (s.instant t).itemStart 0x13 + 800000) :
    exec (.trim t none) s = .next (s.instant t).trimPose ∧
      ∀ fin, exec (.trim t fin) s = .next ((s.instant t).trimPose.trimAwait fin) := by
  have h (fin : Option OwnEnd) : exec (.trim t fin) s = .next ((s.instant t).trimPose.trimAwait fin) :=
    (exec_trim hr hw hd).trans (congrArg _ (if_pos hp))
  exact ⟨h none, h⟩

end

/-- Settles O20: no work of these items changes the course grid. What CONFIRM and POST_POINTS change beside it is read
off the state before their events and messages, which change nothing of it. -/
theorem analysisItemsFinish : Obligations.AnalysisItemsFinish := by
  unfold Obligations.AnalysisItemsFinish
  exact fun t s hr => ⟨confirm_finishes hr, postPoints_finishes hr, postPoints_writes_from_front hr,
    postLog_finishes hr, caseCollect_finishes hr, envCollect_finishes hr, conseqReport_finishes hr,
    trim_finishes hr, trim_poses hr, fun _ _ _ _ _ => gnssNav_finishes hr⟩

end Sys2Proof.Machine
end

section
/-! The statements of spec/02_courses_and_frames.md: the service items finish. -/

namespace Sys2Proof.Machine
open Sys2Proof

/-! ## SUPERVISE (R489, R490) -/

theorem vget_vset {α : Type} {n : Nat} (v : Vector α n) (i j : Nat) (x d : α) :
    vget (vset v i x) j d = if i = j ∧ i < n then x else vget v j d := by
  simp only [vget, vset, Vector.getElem?_setIfInBounds]
  by_cases hij : i = j
  · subst hij
    by_cases hn : i < n <;> simp [hn]
  · simp [hij]

theorem State.sendFail_glb (n : Nat) (s : State) : (s.sendFail n).glb = s.glb :=
  State.glb_of_blank (m := keepOnly [.glb]) (State.sendFail_blank rfl rfl rfl n s) rfl

theorem State.resetCrossing_glb (c discarded : Nat) (s : State) :
    (s.resetCrossing c discarded).glb = { s.glb with xState := vset s.glb.xState c 0 } := by
  simp only [State.resetCrossing, apply_ite State.glb, State.raise_glb, State.sendFail_glb, State.countN_glb,
    State.count_glb, State.withGlb_glb, ite_self]

/-- A stalled crossing whose two clocks run is reset (R489). -/
def State.superviseCrossing (s : State) (c : Nat) : State :=
  if vget s.glb.xState c 0 = 2 ∧ s.crossingClocks c then s.resetCrossing c 0 else s

/-- A crossing is not stalled, or a clock of it has stopped. -/
def State.crossingSettled (s : State) (c : Nat) : Prop := vget s.glb.xState c 0 = 2 → s.crossingClocks c = false

theorem State.superviseCrossing_fedAt (s : State) (c : Nat) : (s.superviseCrossing c).glb.fedAt = s.glb.fedAt := by
  unfold State.superviseCrossing
  split
  · rw [State.resetCrossing_glb]
  · rfl

theorem State.superviseCrossing_settled {s : State} {c d : Nat} (hd : d < 32) (h : c = d ∨ s.crossingSettled d) :
    (s.superviseCrossing c).crossingSettled d := by
  unfold State.superviseCrossing
  split
  · next hc =>
    simp only [State.crossingSettled, State.crossingClocks, State.resetCrossing_glb, vget_vset]
    split
    · simp
    · next hcd => exact h.resolve_left fun e => hcd ⟨e, e ▸ hd⟩
  · next hc =>
    obtain rfl | h := h
    · exact fun h2 => by simpa [h2] using hc
    · exact h

theorem State.foldl_superviseCrossing_settled {d : Nat} (hd : d < 32) (l : List Nat) (s : State)
    (h : d ∈ l ∨ s.crossingSettled d) : (l.foldl State.superviseCrossing s).crossingSettled d := by
  induction l generalizing s with
  | nil => exact h.resolve_left (by simp)
  | cons c l ih =>
    refine ih _ ?_
    rw [List.mem_cons] at h
    obtain (rfl | h) | h := h
    · exact .inr (superviseCrossing_settled hd (.inl rfl))
    · exact .inl h
    · exact .inr (superviseCrossing_settled hd (.inr h))

/-- The work of SUPERVISE. -/
def State.supervise (s : State) : State :=
  (List.range 32).foldl State.superviseCrossing (s.withGlb { s.glb with fedAt := s.clk.now })

theorem State.supervise_blank (s : State) : s.supervise.blank onlyGrid = s.blank onlyGrid := by
  unfold State.supervise
  refine (State.foldl_blank State.superviseCrossing _ _ fun s c => ?_).trans (State.withGlb_blank rfl _ _)
  simp (disch := decide) only [State.superviseCrossing, ↓State.ite_blank, ↓State.resetCrossing_blank, ite_self]

theorem State.supervise_fedAt (s : State) : s.supervise.glb.fedAt = s.clk.now := by
  unfold State.supervise
  exact (State.foldl_keeps (fun s => s.glb.fedAt) _ _ _ State.superviseCrossing_fedAt).trans rfl

theorem State.supervise_settled (s : State) {c : Nat} (hc : c < 32) : s.supervise.crossingSettled c := by
  unfold State.supervise
  exact State.foldl_superviseCrossing_settled hc _ _ (.inl (List.mem_range.mpr hc))

/-! ## MARCH (R477, R478) -/

/-- The banks as a slice finds them: woken for a MEM_TEST, and marked failed by a word that fails. -/
def State.marchBank (failed : Bool) (s : State) : State :=
  let w := if s.mem.test.isSome then s.wakeBank s.mem.slice.1 else s
  if failed then w.bankFailed s.mem.slice.1 else w

/-- The window of a slice is locked while it runs, and the period begins anew where every bank has been passed. -/
def State.lockSlice (slice : Nat × Nat) (s : State) : State :=
  let m := { s.mem.afterSlice with locked := some slice, sliceEnd := s.clk.now + 640 }
  let s := s.withMem m
  if m.periodStart + s.marchPeriod ≤ s.clk.now ∧ m.banks.toList.all (fun k => k.passDone || k.retained)
    then s.withMem { m with
      periodStart := s.clk.now, banks := m.banks.map (fun k => { k with passDone := false }) } else s

/-- The work of MARCH. -/
def State.march (failed : Bool) (s : State) : State :=
  if s.clk.now < s.mem.retryAfter ∨ s.sliceNow.isSome then s else (s.marchBank failed).lockSlice s.mem.slice

theorem State.marchBank_blank {msk : Part → Bool} (h_evt : msk .evt = true) (h_ctrs : msk .ctrs = true)
    (h_mem : msk .mem = true) (failed : Bool) (s : State) : (s.marchBank failed).blank msk = s.blank msk := by
  simp only [State.marchBank, ↓State.ite_blank, ↓State.bankFailed_blank, ↓State.wakeBank_blank, h_evt, h_ctrs, h_mem,
    ite_self]

theorem State.lockSlice_crs (slice : Nat × Nat) (s : State) : (s.lockSlice slice).crs = s.crs := by
  simp only [State.lockSlice, apply_ite State.crs, State.withMem_crs, ite_self]

theorem State.lockSlice_locks (slice : Nat × Nat) (s : State) :
    (s.lockSlice slice).mem.locked = some slice ∧ (s.lockSlice slice).mem.sliceEnd = s.clk.now + 640 := by
  simp only [State.lockSlice, apply_ite State.mem, apply_ite Mem.locked, apply_ite Mem.sliceEnd, State.withMem_mem,
    ite_self, and_self]

theorem State.march_crs (failed : Bool) (s : State) : (s.march failed).crs = s.crs := by
  unfold State.march
  split
  · rfl
  · rw [State.lockSlice_crs]
    exact State.crs_of_blank (m := onlyGrid) (State.marchBank_blank rfl rfl rfl failed s) rfl rfl

theorem State.march_locks (failed : Bool) {s : State} (h1 : s.mem.retryAfter ≤ s.clk.now) (h2 : s.sliceNow = none) :
    (s.march failed).mem.locked = some s.mem.slice ∧ (s.march failed).mem.sliceEnd = s.clk.now + 640 := by
  have hc : (s.marchBank failed).clk = s.clk :=
    State.clk_of_blank (m := keepOnly [.clk, .tick]) (State.marchBank_blank rfl rfl rfl failed s) rfl rfl
  rw [State.march, if_neg (by simp [h1, h2]), ← hc]
  exact State.lockSlice_locks _ _

/-! ## The services finish (R419, R383, R455) -/

section
variable {t : Nat} {s : State} (hr : s.runs = true)
include hr

theorem host_finishes (fetches) (hw : (s.instant t).serviceOpen 0x20 = true) :
    Answers (.host t fetches) s fun u => FinishedItem 0x20 s u := by
  refine answers_finished_of_runService rfl hr hw (by decide) ?_
  simp (disch := decide) only [↓State.writeEvents_blank, ↓State.hostTurns_blank]
  refine (State.foldl_blank _ _ _ fun s r => ?_).trans ?_
  · simp (disch := decide) only [↓State.releaseFenced_blank]
  · simp (disch := decide) only [↓State.writeEvents_blank]

theorem net_finishes (full) (hw : (s.instant t).serviceOpen 0x21 = true) :
    Answers (.net t full) s fun u => FinishedItem 0x21 s u := by
  refine answers_finished_of_runService rfl hr hw (by decide) ?_
  simp (disch := decide) only [↓State.writeEvents_blank, ↓State.publishAll_blank, ↓State.canDrain_blank]

theorem recorder_finishes (hw : (s.instant t).serviceOpen 0x29 = true) :
    Answers (.recorder t) s fun u => FinishedItem 0x29 s u := by
  refine answers_finished_of_runService rfl hr hw (by decide) ?_
  simp (disch := decide) only [↓State.startProgram_blank, ↓State.formRecords_blank]

theorem supervise_finishes (hw : (s.instant t).serviceOpen 0x28 = true) :
    Answers (.supervise t) s fun u => FinishedItem 0x28 s u ∧
      u.glb.fedAt = (s.instant t).clk.now ∧ ∀ c < 32, vget u.glb.xState c 0 = 2 → u.crossingClocks c = false := by
  have he : exec (.supervise t) s = .next ((s.instant t).supervise.itemDone 0x28) := exec_of_runService rfl hr hw
  refine ⟨_, he, .of_keptGrid (t := t) (by decide) (State.supervise_blank _), ?_, fun c hc => ?_⟩
  · rw [State.itemDone_glb, State.supervise_fedAt]
  · simpa only [State.crossingSettled, State.crossingClocks, State.itemDone_glb] using
      (s.instant t).supervise_settled hc

theorem march_finishes (failed : Bool) (hw : (s.instant t).serviceOpen 0x2A = true) :
    Answers (.march t failed) s fun u => FinishedItem 0x2A s u ∧
      (s.mem.retryAfter ≤ (s.instant t).clk.now → (s.instant t).sliceNow = none →
        u.mem.locked = some s.mem.slice ∧ u.mem.sliceEnd = (s.instant t).clk.now + 640) := by
  have he : exec (.march t failed) s = .next (((s.instant t).march failed).itemDone 0x2A) :=
    exec_of_runService rfl hr hw
  refine ⟨_, he, .of_itemDone (by decide) (State.march_crs failed (s.instant t)), fun h1 h2 => ?_⟩
  exact State.march_locks failed h1 h2

end

/-- Settles O21: no service changes the course grid; SUPERVISE settles the crossings one after another, and the reset
of one leaves the settled ones as they are. -/
theorem serviceItemsFinish : Obligations.ServiceItemsFinish := by
  unfold Obligations.ServiceItemsFinish
  exact fun t s hr => ⟨host_finishes hr, net_finishes hr, supervise_finishes hr, recorder_finishes hr,
    march_finishes hr⟩

end Sys2Proof.Machine
end

section
/-! The statements of spec/02_courses_and_frames.md: DIGEST, PAIR_COMPARE and KEYSTONE. -/

namespace Sys2Proof.Machine
open Sys2Proof

section
variable (s : State) (n : Nat)

/-- Two states that agree once all but the redundancy block is left out have the same redundancy block. -/
theorem State.rdn_eq_of_blank {a b : State} (h : a.blank (keepOnly [.rdn]) = b.blank (keepOnly [.rdn])) :
    a.rdn = b.rdn :=
  State.rdn_of_blank h rfl

@[simp] theorem State.complete_rdn (ring ref status : Nat) (result : Word) :
    (s.complete ring ref status result).rdn = s.rdn :=
  State.rdn_eq_of_blank (State.complete_blank rfl ring ref status result s)
@[simp] theorem State.refuse_rdn (w : Waiting) : (s.refuse w n).rdn = s.rdn :=
  State.rdn_eq_of_blank (State.refuse_blank rfl w n s)
@[simp] theorem State.sendLink_rdn (b : List Byte) : (s.sendLink n b).rdn = s.rdn :=
  State.rdn_eq_of_blank (State.sendLink_blank rfl rfl rfl rfl rfl n b s)
@[simp] theorem State.heartbeat_rdn (b : List Byte) : (s.heartbeat b n).rdn = s.rdn :=
  State.rdn_eq_of_blank (State.heartbeat_blank rfl b n s)
@[simp] theorem State.canKeystone_rdn (k : KsFrame) : (s.canKeystone k n).rdn = s.rdn :=
  State.rdn_eq_of_blank (State.canKeystone_blank rfl rfl rfl k n s)
@[simp] theorem State.compareImage_rdn : s.compareImage.rdn = s.rdn :=
  State.rdn_eq_of_blank (State.compareImage_blank rfl rfl rfl rfl s)
end

/-! ## What neither role, nor exchange, nor pair state changes -/

/-- The frame of the latest comparison, and the place in the sequence of keystone frames. -/
def Rdn.steady (x : Rdn) : Option Word × Bool × Word := (x.compFrame, x.sent, x.seq)

section
variable (s : State)

theorem State.foldl_refuse_rdn (l : List Waiting) (r : Nat) :
    (l.foldl (fun s w => s.refuse w r) s).rdn = s.rdn :=
  State.foldl_keeps State.rdn _ l s fun s w => s.refuse_rdn r w

theorem State.setRole_steady (r : Nat) (sev : Sev) : (s.setRole r sev).rdn.steady = s.rdn.steady := by
  unfold State.setRole
  split
  · rfl
  · rw [State.raise_rdn]; rfl

theorem State.evalHealth_steady : s.evalHealth.rdn.steady = s.rdn.steady := by
  unfold State.evalHealth
  dsimp only
  split
  · rfl
  · rw [State.raise_rdn]; rfl

theorem State.checkResume_steady : s.checkResume.rdn.steady = s.rdn.steady := by
  unfold State.checkResume
  split
  · split <;> rfl
  · rfl

theorem State.noteReady_steady : s.noteReady.rdn.steady = s.rdn.steady := by
  unfold State.noteReady
  dsimp only
  split <;> rfl

theorem State.evalClaim_steady : s.evalClaim.rdn.steady = s.rdn.steady := by
  unfold State.evalClaim
  split
  · rfl
  · have hown (u : State) (k : Word) :
        (u.withRdn { u.rdn with own := u.ownClaim, evalFrame := some k, elected := false }).rdn.steady =
          u.rdn.steady := rfl
    dsimp only
    rw [hown, State.setRole_steady, State.noteReady_steady, State.checkResume_steady, State.evalHealth_steady]

theorem State.endExchange_steady (good : Bool) : (s.endExchange good).rdn.steady = s.rdn.steady :=
  State.foldl_keeps (fun s => s.rdn.steady) _ _ _ fun s c => by rw [State.complete_rdn]

theorem State.abandonExchange_steady : s.abandonExchange.rdn.steady = s.rdn.steady := by
  unfold State.abandonExchange
  split
  · rw [State.raise_rdn, State.endExchange_steady]
  · rfl

theorem State.exchangeRoles_steady : s.exchangeRoles.rdn.steady = s.rdn.steady := by
  unfold State.exchangeRoles
  rw [State.raise_rdn, State.endExchange_steady]
  exact State.setRole_steady _ _ _

theorem State.takeOver_steady : s.takeOver.rdn.steady = s.rdn.steady := by
  unfold State.takeOver
  dsimp only
  split
  · rw [State.count_rdn, State.setRole_steady]; rfl
  · rfl

theorem State.checkStandby_steady : s.checkStandby.rdn.steady = s.rdn.steady := by
  unfold State.checkStandby
  dsimp only
  split
  · rfl
  · rw [State.raise_rdn]; rfl

theorem State.leavePaired_steady : s.leavePaired.rdn.steady = s.rdn.steady := by
  unfold State.leavePaired
  rw [State.abandonExchange_steady]
  split
  · rfl
  · rw [State.foldl_refuse_rdn]; rfl

theorem State.setPair_steady (n : Nat) : (s.setPair n).rdn.steady = s.rdn.steady := by
  unfold State.setPair
  split
  · rfl
  · rw [State.raise_rdn]
    split
    · exact s.leavePaired_steady
    · rfl

theorem State.setPair_pstate (n : Nat) : (s.setPair n).rdn.pstate = n := by
  unfold State.setPair
  split
  · assumption
  · rw [State.raise_rdn]; rfl

theorem State.yieldClaim_steady : s.yieldClaim.rdn.steady = s.rdn.steady := by
  rw [State.yieldClaim, State.setPair_steady, State.sendYield]
  split
  · rw [State.sendLink_rdn, State.setRole_steady]
  · exact s.setRole_steady _ _

theorem State.syncFail_steady : s.syncFail.rdn.steady = s.rdn.steady := by
  unfold State.syncFail
  rw [State.raise_rdn, State.count_rdn]
  dsimp only
  split <;> rfl

theorem State.syncDone_steady : s.syncDone.rdn.steady = s.rdn.steady := by
  unfold State.syncDone
  split
  · rfl
  · have hown (u : State) : (u.withRdn { u.rdn with own := u.ownClaim }).rdn.steady = u.rdn.steady := rfl
    dsimp only
    rw [hown, State.setRole_steady]
    exact State.noteReady_steady _

theorem State.exchangeStep_steady (m : PairMsg) : (s.exchangeStep m).rdn.steady = s.rdn.steady := by
  unfold State.exchangeStep
  split
  · split <;> rfl
  · split
    · split
      · rfl
      · exact s.abandonExchange_steady
    · split
      · exact s.abandonExchange_steady
      · rfl

theorem State.inStep_steady (m : PairMsg) : (s.inStep m).rdn.steady = s.rdn.steady :=
  (State.exchangeStep_steady _ m).trans (State.syncDone_steady _)

/-- A missing message of the partner is counted, and ends a synchronisation under way. -/
def State.missCounted : State :=
  if (s.count .rdnMsgMiss).rdn.syncFrame.isSome then (s.count .rdnMsgMiss).syncFail else s.count .rdnMsgMiss

theorem State.missCounted_steady : s.missCounted.rdn.steady = s.rdn.steady := by
  unfold State.missCounted
  split
  · rw [State.syncFail_steady, State.count_rdn]
  · rw [State.count_rdn]

theorem State.messageMissing_eq : s.messageMissing =
    if s.missCounted.linkPorts ≠ 0 ∧ s.missCounted.rdn.hb.isSome then s.missCounted.setPair 2
    else s.missCounted.setPair 1 :=
  rfl

theorem State.messageMissing_steady : s.messageMissing.rdn.steady = s.rdn.steady := by
  rw [State.messageMissing_eq]
  split
  · rw [State.setPair_steady, State.missCounted_steady]
  · rw [State.setPair_steady, State.missCounted_steady]

theorem State.outOfStep_steady (m : PairMsg) : (s.outOfStep m).rdn.steady = s.rdn.steady := by
  have hd (u : State) : ((u.count .rdnDiverge).raise 82 .notice 0 0 noIndex []).rdn = u.rdn := by
    rw [State.raise_rdn, State.count_rdn]
  simp only [State.outOfStep, apply_ite State.rdn, apply_ite Rdn.steady, State.syncFail_steady, State.yieldClaim_steady,
    State.setPair_steady, State.withRdn_rdn, hd]
  simp only [Rdn.steady, ite_self]

theorem State.joinPaired_steady : s.joinPaired.rdn.steady = s.rdn.steady := by
  unfold State.joinPaired
  split
  · split
    · exact State.setPair_steady _ _
    · rfl
  · rfl

theorem State.expireForwarded_steady : s.expireForwarded.rdn.steady = s.rdn.steady :=
  State.foldl_keeps (fun s => s.rdn.steady) _ _ _ fun s c => by rw [State.refuse_rdn]

theorem State.pathEvents_steady : s.pathEvents.rdn.steady = s.rdn.steady := by
  have hp (u : State) (n : Nat) : (u.withRdn { u.rdn with pathMiss := n }).rdn.steady = u.rdn.steady := rfl
  unfold State.pathEvents
  dsimp only
  split
  · rfl
  · rw [hp]
    refine State.foldl_keeps (fun s => s.rdn.steady) _ _ _ fun u p => ?_
    split
    · rfl
    · rw [State.raise_rdn]
end

/-! ## PAIR_COMPARE (R337) -/

/-- The partner's message of the frame. -/
def State.freshMsg (s : State) : Option PairMsg := match s.rdn.msg with
  | some m => if m.frame = s.crs.frame then some m else none
  | none => none

/-- What PAIR_COMPARE does before the digests are compared. -/
def State.compareStart (s : State) : State :=
  (s.withRdn { s.rdn with
    msg := s.freshMsg, compFrame := some s.crs.frame }).pathEvents.partnerHeard.compareImage.expireForwarded.joinPaired

theorem State.compareStart_compFrame (s : State) : s.compareStart.rdn.compFrame = some s.crs.frame := by
  have h (u : State) : u.pathEvents.partnerHeard.compareImage.expireForwarded.joinPaired.rdn.steady = u.rdn.steady := by
    rw [State.joinPaired_steady, State.expireForwarded_steady, State.compareImage_rdn]
    exact u.pathEvents_steady
  exact congrArg Prod.fst (h _)

/-- The pair state after the comparison, of a part that was PAIRED. -/
def State.compareDigests (s : State) (fresh : Option PairMsg) : State :=
  match fresh with
  | none => s.messageMissing
  | some m => if m.digest = s.rdn.digest then s.inStep m else s.outOfStep m

theorem State.pairCompare_eq (s : State) : s.pairCompare =
    if s.compareStart.rdn.pstate ≠ 3 then s.compareStart else s.compareStart.compareDigests s.freshMsg := rfl

theorem State.compareDigests_steady (s : State) (fresh : Option PairMsg) :
    (s.compareDigests fresh).rdn.steady = s.rdn.steady := by
  unfold State.compareDigests
  split
  · exact s.messageMissing_steady
  · split
    · exact s.inStep_steady _
    · exact s.outOfStep_steady _

theorem State.pairCompare_compFrame (s : State) : s.pairCompare.rdn.compFrame = some s.crs.frame := by
  rw [State.pairCompare_eq]
  split
  · exact s.compareStart_compFrame
  · exact (congrArg Prod.fst (s.compareStart.compareDigests_steady _)).trans s.compareStart_compFrame

theorem State.messageMissing_pstate (s : State) : s.messageMissing.rdn.pstate ≠ 3 := by
  rw [State.messageMissing_eq]
  split
  · rw [State.setPair_pstate]; decide
  · rw [State.setPair_pstate]; decide

theorem State.pairCompare_pstate (s : State) (h : s.rdn.msg = none) : s.pairCompare.rdn.pstate ≠ 3 := by
  have hf : s.freshMsg = none := by rw [State.freshMsg, h]
  rw [State.pairCompare_eq, hf]
  split
  · assumption
  · exact s.compareStart.messageMissing_pstate

theorem State.pairCompare_place (s : State) :
    s.pairCompare.crs.frame = s.crs.frame ∧ s.pairCompare.crs.course = s.crs.course := by
  have h := State.place_of_blank (m := keepOnly [.tick]) (a := s.pairCompare) (b := s)
    (by simp (disch := decide) only [↓State.pairCompare_blank]) rfl
  exact ⟨h.1, h.2.1⟩

theorem pairCompare_compares {t : Nat} {s : State} (hr : s.runs = true) (hw : (s.instant t).comparesNow = true) :
    Answers (.pairCompare t) s fun u =>
      u = (s.instant t).pairCompare ∧ u.rdn.compFrame = some s.crs.frame ∧ u.crs.frame = s.crs.frame ∧
      u.crs.course = s.crs.course ∧ (s.rdn.msg = none → u.rdn.pstate ≠ 3) := by
  have he : exec (.pairCompare t) s = .next (s.instant t).pairCompare :=
    (exec_of_whileRunning rfl hr).trans (congrArg Host.Outcome.next (if_pos hw))
  obtain ⟨hf, hc⟩ := (s.instant t).pairCompare_place
  exact ⟨_, he, rfl, (s.instant t).pairCompare_compFrame, hf, hc, (s.instant t).pairCompare_pstate⟩

/-! ## DIGEST (R336) -/

theorem State.itemDone_item {code : Nat} (hc : code < 43) (s : State) : (s.itemDone code).item code =
    { origin := s.crs.frame, stale := false, inputStale := (itemInputs code).any s.itemHeld } :=
  (FinishedItem.of_itemDone (s := s) hc rfl).1

theorem State.mem_doneItems_itemDone {code : Nat} (hc : code < 43) (s : State) :
    code ∈ (s.itemDone code).crs.doneItems :=
  (FinishedItem.of_itemDone (s := s) hc rfl).2

theorem State.digestItem_digest (s : State) : s.digestItem.rdn.digest = crc64 s.evalClaim.digestBytes ∧
    s.digestItem.rdn.localMiss = s.evalClaim.localMissNow := by
  have hs (ws : List Waiting) (u : State) :
      (u.sendCmds ws).rdn.digest = u.rdn.digest ∧ (u.sendCmds ws).rdn.localMiss = u.rdn.localMiss := by
    unfold State.sendCmds
    dsimp only
    split <;> exact ⟨rfl, rfl⟩
  simp only [State.digestItem, State.heartbeat_rdn, State.sendLink_rdn, State.withRdn_rdn]
  exact ⟨(hs _ _).1, (hs _ _).2⟩

theorem State.digestItem_frame (s : State) : s.digestItem.crs.frame = s.crs.frame :=
  (State.place_of_blank (m := keepOnly [.tick]) (by simp (disch := decide) only [↓State.digestItem_blank]) rfl).1

theorem digest_finishes_in_pairMode {t : Nat} {s : State} (hr : s.runs = true) (hp : s.pairMode = true)
    (hw : (s.instant t).itemRuns 8 = true) :
    Answers (.digest t) s fun u =>
      u = (s.instant t).digestItem.itemDone 8 ∧ u.rdn.digest = crc64 (s.instant t).evalClaim.digestBytes ∧
      u.rdn.localMiss = (s.instant t).evalClaim.localMissNow ∧
      (u.item 8).origin = s.crs.frame ∧ (u.item 8).stale = false ∧ 8 ∈ u.crs.doneItems := by
  have he : exec (.digest t) s = .next ((s.instant t).digestItem.itemDone 8) :=
    (exec_of_whileRunning rfl hr).trans (congrArg Host.Outcome.next (if_pos ⟨hp, hw⟩))
  obtain ⟨hd, hm⟩ := (s.instant t).digestItem_digest
  refine ⟨_, he, rfl, hd, hm, ?_, ?_, State.mem_doneItems_itemDone (by decide) _⟩
  · rw [State.itemDone_item (by decide)]
    exact (s.instant t).digestItem_frame
  · rw [State.itemDone_item (by decide)]

/-! ## KEYSTONE (R21, R22, R24) -/

/-- What stands of the keystone frame handed over, and the claim latch. -/
def Rdn.handed (x : Rdn) : Option KsFrame × Word × Bool × Half × Bool := (x.tap, x.seq, x.sent, x.own, x.claimLatch)

theorem State.ksNet_handed (k : KsFrame) (full n : Nat) (s : State) : (s.ksNet k full n).rdn.handed = s.rdn.handed := by
  unfold State.ksNet
  split
  · rfl
  · unfold State.sendFail State.copyNotSent
    rw [State.raise_rdn, State.count_rdn]
    dsimp only
    split <;> rfl

theorem State.sendKeystone_handed (k : KsFrame) (full : Nat) (s : State) :
    (s.sendKeystone k full).rdn.handed = (some k, k.seq, true, k.claim, s.rdn.claimLatch) := by
  unfold State.sendKeystone
  rw [State.canKeystone_rdn, State.ksNet_handed, State.ksNet_handed]
  rfl

theorem State.generate_claimLatch (full : Nat) (s : State) : (s.generate full).rdn.claimLatch = s.rdn.claimLatch := by
  unfold State.generate
  split
  · rfl
  · refine (congrArg (·.2.2.2.2) (State.sendKeystone_handed _ full _)).trans ?_
    split
    · rfl
    · rw [State.raise_rdn, State.count_rdn]; rfl

/-- What KEYSTONE does before it sends: claim, role, standby. -/
def State.keystoneRole (s : State) : State :=
  (if s.evalClaim.exchangeNow then s.evalClaim.exchangeRoles else s.evalClaim.takeOver).checkStandby

theorem State.keystone_eq (full : Nat) (s : State) : s.keystone full =
    if s.keystoneRole.generates then s.keystoneRole.generate full
    else s.keystoneRole.sendKeystone (s.keystoneRole.ownFrame s.evalClaim.exchangeNow) full := rfl

theorem State.keystoneRole_steady (s : State) : s.keystoneRole.rdn.steady = s.rdn.steady := by
  unfold State.keystoneRole
  rw [State.checkStandby_steady]
  split
  · rw [State.exchangeRoles_steady, State.evalClaim_steady]
  · rw [State.takeOver_steady, State.evalClaim_steady]

theorem State.keystoneRole_nextSeq (s : State) : s.keystoneRole.nextSeq = s.nextSeq := by
  obtain ⟨-, hsent, hseq⟩ : _ ∧ s.keystoneRole.rdn.sent = s.rdn.sent ∧ s.keystoneRole.rdn.seq = s.rdn.seq := by
    simpa only [Rdn.steady, Prod.mk.injEq] using s.keystoneRole_steady
  rw [State.nextSeq, State.nextSeq, hsent, hseq]

theorem State.keystoneRole_blank {msk : Part → Bool} (h_crs : msk .crs = true) (h_evt : msk .evt = true)
    (h_hrg : msk .hrg = true) (h_ctrs : msk .ctrs = true) (h_rdn : msk .rdn = true) (s : State) :
    s.keystoneRole.blank msk = s.blank msk := by
  simp only [State.keystoneRole, ↓State.checkStandby_blank, ↓State.ite_blank, ↓State.exchangeRoles_blank,
    ↓State.takeOver_blank, ↓State.evalClaim_blank, h_crs, h_evt, h_hrg, h_ctrs, h_rdn, ite_self]

/-- With the claim latch set KEYSTONE has handed over the own frame of pair 1. -/
theorem State.keystone_handed (full : Nat) (s : State) (h : (s.keystone full).rdn.claimLatch = true) :
    ∃ k : KsFrame, (s.keystone full).rdn.tap = some k ∧ k.frame = s.crs.frame ∧ k.seq = s.nextSeq ∧
      k.entries = s.alloc.entries ∧ (s.keystone full).rdn.seq = k.seq ∧ (s.keystone full).rdn.sent = true ∧
      (s.keystone full).rdn.own = k.claim := by
  rw [State.keystone_eq] at h ⊢
  split at h
  · next hg =>
    rw [State.generate_claimLatch] at h
    simp [State.generates, h] at hg
  · next hg =>
    rw [if_neg hg]
    have hh := State.sendKeystone_handed (s.keystoneRole.ownFrame s.evalClaim.exchangeNow) full s.keystoneRole
    obtain ⟨htap, hseq, hsent, hown, -⟩ : _ ∧ _ ∧ _ ∧ _ ∧ _ := by simpa only [Rdn.handed, Prod.mk.injEq] using hh
    refine ⟨_, htap, ?_, s.keystoneRole_nextSeq, ?_, hseq, hsent, hown⟩
    · exact (State.place_of_blank (m := keepOnly [.tick]) (State.keystoneRole_blank rfl rfl rfl rfl rfl s) rfl).1
    · exact congrArg Alloc.entries
        (State.alloc_of_blank (m := keepOnly [.alloc]) (State.keystoneRole_blank rfl rfl rfl rfl rfl s) rfl)

theorem State.keystone_frame (full : Nat) (s : State) : (s.keystone full).crs.frame = s.crs.frame :=
  (State.place_of_blank (m := keepOnly [.tick]) (by simp (disch := decide) only [↓State.keystone_blank]) rfl).1

theorem keystone_finishes {t : Nat} {s : State} (hr : s.runs = true) (full : Nat)
    (hw : (s.instant t).itemRuns 9 = true) :
    Answers (.keystone t full) s fun u =>
      u = ((s.instant t).keystone full).itemDone 9 ∧
      (u.item 9).origin = s.crs.frame ∧ (u.item 9).stale = false ∧ 9 ∈ u.crs.doneItems ∧
      (u.rdn.claimLatch = true → ∃ k : KsFrame, u.rdn.tap = some k ∧ k.frame = s.crs.frame ∧ k.seq = s.nextSeq ∧
        k.entries = s.alloc.entries ∧ u.rdn.seq = k.seq ∧ u.rdn.sent = true ∧ u.rdn.own = k.claim) := by
  refine ⟨_, exec_of_runItem rfl hr hw, rfl, ?_, ?_, State.mem_doneItems_itemDone (by decide) _,
    (s.instant t).keystone_handed full⟩
  · rw [State.itemDone_item (by decide)]
    exact (s.instant t).keystone_frame full
  · rw [State.itemDone_item (by decide)]

/-- Settles O22: the comparison's frame and the place in the sequence of keystone frames survive every change of role,
health, exchange and pair state; with the claim latch set the frame handed over is the own one. -/
theorem pairItemsFinish : Obligations.PairItemsFinish := by
  unfold Obligations.PairItemsFinish
  exact fun t s hr => ⟨digest_finishes_in_pairMode hr, pairCompare_compares hr, keystone_finishes hr⟩

end Sys2Proof.Machine
end

section
/-! The statements of spec/02_courses_and_frames.md: course, frame and substitute ticks. -/

namespace Sys2Proof.Machine
open Sys2Proof

/-! ## What an event and a count leave unchanged, for the grid -/

section
variable (s : State) (src : Nat) (sev : Sev) (qual cause index : Nat) (vals : List Word) (c : Ctr)

theorem State.crs_of_keptGrid {a b : State} (h : a.blank onlyGrid = b.blank onlyGrid) : a.crs = b.crs :=
  State.crs_of_blank h rfl rfl
theorem State.clk_eq_of_blank {a b : State} (h : a.blank (keepOnly [.clk, .tick]) = b.blank (keepOnly [.clk, .tick])) :
    a.clk = b.clk := State.clk_of_blank h rfl rfl
theorem State.ylk_eq_of_blank {a b : State} (h : a.blank (keepOnly [.ylk]) = b.blank (keepOnly [.ylk])) :
    a.ylk = b.ylk := State.ylk_of_blank h rfl
theorem State.img_eq_of_blank {a b : State} (h : a.blank (keepOnly [.img]) = b.blank (keepOnly [.img])) :
    a.img = b.img := State.img_of_blank h rfl

@[simp] theorem State.raise_crs : (s.raise src sev qual cause index vals).crs = s.crs :=
  State.crs_of_keptGrid (State.raise_blank rfl rfl src sev qual cause index vals s)
@[simp] theorem State.raise_clk : (s.raise src sev qual cause index vals).clk = s.clk :=
  State.clk_eq_of_blank (State.raise_blank rfl rfl src sev qual cause index vals s)
@[simp] theorem State.raise_ylk : (s.raise src sev qual cause index vals).ylk = s.ylk :=
  State.ylk_eq_of_blank (State.raise_blank rfl rfl src sev qual cause index vals s)
@[simp] theorem State.raise_img : (s.raise src sev qual cause index vals).img = s.img :=
  State.img_eq_of_blank (State.raise_blank rfl rfl src sev qual cause index vals s)
@[simp] theorem State.count_crs : (s.count c).crs = s.crs := State.crs_of_keptGrid (State.count_blank rfl rfl c s)
@[simp] theorem State.count_clk : (s.count c).clk = s.clk := State.clk_eq_of_blank (State.count_blank rfl rfl c s)
end

/-! ## The place in the grid -/

theorem State.tick_of_blank {a b : State} (h : a.blank (keepOnly [.tick]) = b.blank (keepOnly [.tick])) :
    a.crs.place = b.crs.place ∧ a.clk.tickAt = b.clk.tickAt := by
  obtain ⟨hf, hc, hn, hs, h0, ht⟩ := State.place_of_blank h rfl
  simp only [Crs.place, hf, hc, hn, hs, h0, ht, and_self]

theorem Crs.nextCourse_place (n : Nat) (x : Crs) : (x.nextCourse n).place =
    if x.started = false then (true, 0, 0, 0, x.tickSrc)
    else if x.course + 1 < n then (x.started, x.frame, x.course + 1, x.courseCnt + 1, x.tickSrc)
    else (x.started, x.frame + 1, 0, x.courseCnt + 1, x.tickSrc) := by
  unfold Crs.nextCourse
  split
  · rfl
  · split <;> rfl

theorem Crs.nextCourse_place_congr (n : Nat) {x y : Crs} (h : x.place = y.place) :
    (x.nextCourse n).place = (y.nextCourse n).place := by
  simp only [Crs.place, Prod.mk.injEq] at h
  obtain ⟨h0, hf, hc, hn, hs⟩ := h
  rw [Crs.nextCourse_place, Crs.nextCourse_place, h0, hf, hc, hn, hs]

/-- A grid whose place is the next one has moved on, and keeps TICK_SRC. -/
theorem MovedOn.of_place {s u : State} (h : u.crs.place = (s.crs.nextCourse s.frameCourses).place) :
    MovedOn s u ∧ u.crs.tickSrc = s.crs.tickSrc := by
  rw [Crs.nextCourse_place] at h
  unfold MovedOn
  split_ifs at h ⊢ <;> simp_all [Crs.place]

/-! ## A course tick -/

section
variable (s : State)

theorem State.noteReady_frameLen : s.noteReady.crs.frameLen = s.crs.frameLen := by
  unfold State.noteReady
  dsimp only
  split <;> rfl

theorem State.evalClaim_frameLen : s.evalClaim.crs.frameLen = s.crs.frameLen := by
  have hr (u : State) (r : Nat) : (u.setRole r .notice).crs = u.crs :=
    State.crs_of_keptGrid (State.setRole_blank rfl rfl rfl r .notice u)
  have hh : s.evalHealth.checkResume.crs = s.crs :=
    State.crs_of_keptGrid (by simp (disch := decide) only [↓State.checkResume_blank, ↓State.evalHealth_blank])
  unfold State.evalClaim
  split
  · rfl
  · dsimp only
    rw [State.withRdn_crs, hr, State.noteReady_frameLen, hh]

theorem State.lateEval_frameLen : s.lateEval.crs.frameLen = s.crs.frameLen := by
  unfold State.lateEval
  split
  · exact State.evalClaim_frameLen _
  · rfl

/-- The state of a course tick at `place` before its work: the frame that ends has been evaluated, and the grid stands
at the new course. -/
def State.tickStart (place : Nat) : State :=
  let w := s.lateEval.logPowered (place - s.clk.tickAt)
  (w.withClk { w.clk with now := place, tickAt := place }).withCrs (w.crs.nextCourse w.frameCourses)

/-- The work of every course tick, at `place`. -/
def State.tickWork (place : Nat) : State :=
  let w := s.lateEval.logPowered (place - s.clk.tickAt)
  (s.tickStart place).courseWork (!w.crs.started ||
    (s.tickStart place).devTime / 1000000000 != ((w.clk.tickAt : Int) + w.clk.base) / 1000000000)

theorem State.makeTick_eq (place : Nat) : s.makeTick place =
    if (s.tickWork place).crs.course = 0 then (s.tickWork place).frameTick else s.tickWork place := by
  unfold State.makeTick State.tickWork State.tickStart
  rfl

theorem State.tickStart_place (place : Nat) :
    (s.tickStart place).crs.place = (s.crs.nextCourse s.frameCourses).place ∧
      (s.tickStart place).clk.tickAt = place := by
  have hp := State.tick_of_blank (a := s.lateEval.logPowered (place - s.clk.tickAt)) (b := s)
    (by simp (disch := decide) only [↓State.logPowered_blank, ↓State.lateEval_blank])
  have hl : (s.lateEval.logPowered (place - s.clk.tickAt)).frameCourses = s.frameCourses := by
    rw [State.frameCourses, State.frameCourses, ← s.lateEval_frameLen,
      State.crs_of_keptGrid (State.logPowered_blank rfl rfl rfl _ s.lateEval)]
  refine ⟨?_, rfl⟩
  rw [State.tickStart, State.withCrs_crs, hl]
  exact Crs.nextCourse_place_congr _ hp.1

theorem State.tickWork_place (place : Nat) :
    (s.tickWork place).crs.place = (s.crs.nextCourse s.frameCourses).place ∧ (s.tickWork place).clk.tickAt = place := by
  obtain ⟨hp, ht⟩ := State.tick_of_blank (a := s.tickWork place) (b := s.tickStart place)
    (by simp (disch := decide) only [State.tickWork, ↓State.courseWork_blank])
  obtain ⟨hp', ht'⟩ := s.tickStart_place place
  exact ⟨hp.trans hp', ht.trans ht'⟩

theorem State.makeTick_place (place : Nat) :
    (s.makeTick place).crs.place = (s.crs.nextCourse s.frameCourses).place ∧ (s.makeTick place).clk.tickAt = place := by
  obtain ⟨hp, ht⟩ := State.tick_of_blank (a := s.makeTick place) (b := s.tickWork place)
    (by simp (disch := decide) only [State.makeTick_eq, ↓State.ite_blank, ↓State.frameTick_blank, ite_self])
  obtain ⟨hp', ht'⟩ := s.tickWork_place place
  exact ⟨hp.trans hp', ht.trans ht'⟩

/-! ## The activation of an image (R70) -/

/-- The staged image is the one in effect. -/
def State.imageTaken : State :=
  s.withImg { s.img with
    active := some s.img.staged, activeClass := s.stagedClass, slot := .empty, staged := [], activate := none }

theorem State.activateImage_slot : s.activateImage.img.slot = .empty := by
  have h : s.activateImage.blank (keepOnly [.img]) = s.imageTaken.blank (keepOnly [.img]) := by
    unfold State.activateImage
    dsimp only
    split
    all_goals
      simp (disch := decide) only [↓State.done_blank, ↓State.raise_blank, ↓State.activateButtress_blank,
        ↓State.canActivate_blank, ↓State.activateTrim_blank, ↓State.activateConseq_blank, ↓State.activateRoutes_blank,
        ↓State.activateUnits_blank, ↓State.activateGains_blank, ↓State.activateWind_blank, ↓State.activateDispute_blank,
        ↓State.activateRefs_blank, ↓State.activateQuoins_blank, ↓State.activateEstimator_blank,
        ↓State.newTemplates_blank, ↓State.linkActivate_blank, ↓State.activatePair_blank, ↓State.ite_blank,
        ↓State.withRdn_blank, ↓State.activateCold_blank, ite_self]
      rfl
  exact congrArg Img.slot (State.img_eq_of_blank h)

theorem State.abandonActivation_slot (reason : Nat) (n : Word) :
    (s.abandonActivation reason).img.slot ≠ .pending n := by
  have hr (u : State) (w : Waiting) : (u.refuse w reason).img = u.img :=
    State.img_eq_of_blank (State.refuse_blank rfl w reason u)
  unfold State.abandonActivation
  dsimp only
  split
  · split
    · rw [hr, State.raise_img]
      simp
    · rw [State.raise_img]
      simp
  · next h => exact fun hn => h _ hn

theorem State.activationTick_slot : s.activationTick.img.slot ≠ .pending s.crs.frame := by
  unfold State.activationTick
  split
  · next n hn =>
    split
    · split
      · rw [State.activateImage_slot]
        simp
      · exact s.abandonActivation_slot _ _
    · next h => simpa [hn] using h
  · next h => exact fun hn => h _ hn

/-- What a frame tick does before the activation that is due. -/
def State.frameOpen : State :=
  let s := if s.crs.missed.contains 0x0B then s.countResume.takeSysRecords (s.crs.frame - 1) else s.countResume
  let s := s.withCrs { s.crs with
    doneItems := [], missed := [], ctrlMiss := false, tableFrames := s.crs.tableFrames + 1 }
  s.pushTick.pushTau.noteWave

theorem State.frameOpen_blank {msk : Part → Bool} (h_crs : msk .crs = true) (h_pnt : msk .pnt = true)
    (h_est : msk .est = true) (h_ctl : msk .ctl = true) (h_rdn : msk .rdn = true) :
    s.frameOpen.blank msk = s.blank msk := by
  simp only [State.frameOpen, ↓State.noteWave_blank, ↓State.pushTau_blank, ↓State.pushTick_blank, ↓State.withCrs_blank,
    ↓State.ite_blank, ↓State.takeSysRecords_blank, ↓State.countResume_blank, ite_self, h_crs, h_pnt, h_est, h_ctl,
    h_rdn]

/-- What a frame tick does after the activation: the link, the commands, the anchor and the beacon. -/
def State.frameServed : State :=
  (s.linkFrame.canReference.gnsEpoch.pairTick.applyBatch.applyWaiting).retimeTick.anchorTick.sendBeacon

theorem State.frameServed_img : s.frameServed.img = s.img :=
  State.img_eq_of_blank (by simp (disch := decide) only [State.frameServed, ↓State.sendBeacon_blank,
    ↓State.anchorTick_blank, ↓State.retimeTick_blank, ↓State.applyWaiting_blank, ↓State.applyBatch_blank,
    ↓State.pairTick_blank, ↓State.gnsEpoch_blank, ↓State.canReference_blank, ↓State.linkFrame_blank])

theorem State.frameTick_eq : s.frameTick = s.frameOpen.activationTick.frameServed := rfl

theorem State.frameTick_slot : s.frameTick.img.slot ≠ .pending s.crs.frame := by
  have hf : s.frameOpen.crs.frame = s.crs.frame :=
    (State.place_of_blank (m := keepOnly [.tick]) (s.frameOpen_blank rfl rfl rfl rfl rfl) rfl).1
  rw [State.frameTick_eq, State.frameServed_img, ← hf]
  exact s.frameOpen.activationTick_slot

/-- No activation of a frame is pending once the tick that opens it is made. -/
theorem State.makeTick_slot (place : Nat) (h : (s.makeTick place).crs.course = 0) :
    (s.makeTick place).img.slot ≠ .pending (s.makeTick place).crs.frame := by
  have hf : (s.tickWork place).frameTick.crs.frame = (s.tickWork place).crs.frame :=
    (State.place_of_blank (m := keepOnly [.tick]) (by simp (disch := decide) only [↓State.frameTick_blank]) rfl).1
  rw [State.makeTick_eq] at h ⊢
  split at h
  · next h0 =>
    rw [if_pos h0, hf]
    exact (s.tickWork place).frameTick_slot
  · contradiction

/-! ## Where the ticks stand (R33, R34) -/

/-- A state that differs in TICK_SRC and CRS_PHASE makes the tick of the other. -/
theorem State.makeTick_moves {s w : State} {n place : Nat} {p : Int}
    (hw : w.crs = { s.crs with tickSrc := n, phase := p }) :
    MovedOn s (w.makeTick place) ∧ (w.makeTick place).clk.tickAt = place ∧ (w.makeTick place).crs.tickSrc = n := by
  obtain ⟨hp, ht⟩ := w.makeTick_place place
  obtain ⟨hm, hs⟩ := MovedOn.of_place hp
  unfold MovedOn State.frameCourses at *
  rw [hw] at hm hs
  exact ⟨hm, ht, hs⟩

/-- The part of a slew that a course removes is taken off CRS_PHASE. -/
def State.phaseStepped : State :=
  if s.crs.started then s.withCrs { s.crs with phase := s.crs.phase - slewStep s.crs.phase } else s

theorem State.ownCourse_moves {s w : State} {n : Nat} (hw : w.crs = { s.crs with tickSrc := n }) (hc : w.clk = s.clk) :
    MovedOn s w.ownCourse ∧ w.ownCourse.clk.tickAt = s.ownTick ∧ w.ownCourse.crs.tickSrc = n := by
  have ht : s.ownTick = w.ownTick := by
    simp only [State.ownTick, State.firstTick, State.devTime, hw, hc]
  have hp : ∃ p, w.phaseStepped.crs = { s.crs with tickSrc := n, phase := p } := by
    unfold State.phaseStepped
    split
    · exact ⟨_, by rw [State.withCrs_crs, hw]⟩
    · exact ⟨_, hw⟩
  rw [ht]
  exact State.makeTick_moves hp.choose_spec

theorem State.setTickSrc_crs (n : Nat) : (s.setTickSrc n).crs = { s.crs with tickSrc := n } := by
  unfold State.setTickSrc
  split
  · next h => rw [← h]
  · rw [State.raise_crs]
    rfl

theorem State.setTickSrc_clk (n : Nat) : (s.setTickSrc n).clk = s.clk := by
  unfold State.setTickSrc
  split
  · rfl
  · rw [State.raise_clk]
    rfl

/-- TICK_SRC names a substitute, which is counted and raises event source 4 (R35). -/
def State.substituted : State :=
  ((s.withCrs { s.crs with tickSrc := 2 }).count .lateTick).raise 4 .notice 0 2 noIndex []

theorem State.substituted_crs : s.substituted.crs = { s.crs with tickSrc := 2 } := by
  rw [State.substituted, State.raise_crs, State.count_crs, State.withCrs_crs]

theorem State.substituted_clk : s.substituted.clk = s.clk := by
  rw [State.substituted, State.raise_clk, State.count_clk, State.withCrs_clk]

theorem MovedOn.of_frameDue {s u : State} (h : MovedOn s u) (hd : s.frameDue = true) :
    u.crs.course = 0 ∧ u.crs.frame = if s.crs.started then s.crs.frame + 1 else 0 := by
  simp only [State.frameDue, Bool.or_eq_true, Bool.not_eq_true', decide_eq_true_eq] at hd
  unfold MovedOn at h
  split_ifs at h ⊢ <;> simp_all
  omega

theorem State.dueTick_of_own (h2 : s.ylk.state ≠ 2) (h4 : s.ylk.state ≠ 4) :
    s.dueTick = (s.setTickSrc 0).ownCourse := by
  unfold State.dueTick
  split <;> simp_all

theorem State.dueTick_moves {s : State} (h2 : s.ylk.state ≠ 2) (h4 : s.ylk.state ≠ 4) :
    MovedOn s s.dueTick ∧ s.dueTick.clk.tickAt = s.ownTick ∧ s.dueTick.crs.tickSrc = 0 := by
  rw [s.dueTick_of_own h2 h4]
  exact State.ownCourse_moves (s.setTickSrc_crs 0) (s.setTickSrc_clk 0)

end

/-! ## The ticks of the own time engine (R31, R33 to R35, R38, R584, R70) -/

section
variable {s : State} (hr : s.runs = true)
include hr

theorem substituteTick_moves (h : s.ylk.state = 4 ∨ (s.ylk.state = 2 ∧ s.memberTick = none)) :
    Answers .substituteTick s fun u => MovedOn s u ∧ u.clk.tickAt = s.ownTick ∧ u.crs.tickSrc = 2 := by
  refine ⟨_, (congrArg Host.Outcome.next ?_ : exec .substituteTick s = _),
    State.ownCourse_moves s.substituted_crs s.substituted_clk⟩
  rw [State.whileRunning_of_runs s hr]
  exact if_pos (by simpa using h)

variable (h2 : s.ylk.state ≠ 2) (h4 : s.ylk.state ≠ 4)
include h2 h4

theorem courseTick_moves : Answers .courseTick s fun u =>
    MovedOn s u ∧ u.clk.tickAt = s.ownTick ∧ u.crs.tickSrc = 0 := by
  refine ⟨_, (congrArg Host.Outcome.next ?_ : exec .courseTick s = _), State.dueTick_moves h2 h4⟩
  rw [State.whileRunning_of_runs s hr]
  exact if_neg h2

theorem frameTick_moves (hd : s.frameDue = true) : Answers .frameTick s fun u =>
    MovedOn s u ∧ u.crs.course = 0 ∧ u.clk.tickAt = s.ownTick ∧ u.crs.tickSrc = 0 := by
  obtain ⟨hm, ht⟩ := State.dueTick_moves h2 h4
  refine ⟨_, (congrArg Host.Outcome.next ?_ : exec .frameTick s = _), hm, (hm.of_frameDue hd).1, ht⟩
  rw [State.whileRunning_of_runs s hr]
  exact if_pos hd

theorem imageActivationTick_moves (n : Word) (hd : s.frameDue = true) (hs : s.img.slot = .pending n)
    (hn : n = if s.crs.started then s.crs.frame + 1 else 0) :
    Answers .imageActivationTick s fun u => MovedOn s u ∧ u.crs.frame = n ∧ u.img.slot ≠ .pending n := by
  obtain ⟨hm, -⟩ := State.dueTick_moves h2 h4
  obtain ⟨hc, hf⟩ := hm.of_frameDue hd
  rw [← hn] at hf
  refine ⟨s.dueTick, (congrArg Host.Outcome.next ?_ : exec .imageActivationTick s = _), hm, hf, ?_⟩
  · rw [State.whileRunning_of_runs s hr]
    exact if_pos ⟨hd, hn ▸ hs⟩
  · rw [← hf]
    rw [s.dueTick_of_own h2 h4] at hc ⊢
    exact State.makeTick_slot _ _ hc

end

/-- Settles O23: a tick's work never changes the place in the grid, so that it stands where the tick has set it; the
activation due in a frame tick takes effect or is abandoned, and nothing after it makes one pending. -/
theorem courseTicksMoveTheGridOn : Obligations.CourseTicksMoveTheGridOn := by
  unfold Obligations.CourseTicksMoveTheGridOn
  exact fun s hr => ⟨fun h2 h4 => ⟨courseTick_moves hr h2 h4, frameTick_moves hr h2 h4,
    imageActivationTick_moves hr h2 h4⟩, substituteTick_moves hr⟩

end Sys2Proof.Machine
end

section
/-! The statements of spec/02_courses_and_frames.md: a member's ticks, and joining a master. -/

namespace Sys2Proof.Machine
open Sys2Proof

/-! ## Following the master (R39, R523, R526) -/

section
variable (s : State) (b : LinkBeacon)

/-- The place of a member's tick: that of the master's, held to within 100 ns of 1 ms after the last. -/
def State.memberPlace (m : Nat) : Nat := max (s.clk.tickAt + 999900) (min (s.clk.tickAt + 1000100) m)

/-- A member makes the master's tick; while it slews, CRS_PHASE is what is left to that tick. -/
def State.memberPhase (m : Nat) : State :=
  let w := s.setTickSrc 1
  if w.crs.slewing then w.withCrs { w.crs with phase := (s.memberPlace m : Int) - m } else w

theorem State.memberCourse_eq (m : Nat) : s.memberCourse m = (s.memberPhase m).makeTick (s.memberPlace m) := by
  unfold State.memberCourse State.memberPhase State.memberPlace
  rfl

theorem State.memberCourse_moves (m : Nat) :
    MovedOn s (s.memberCourse m) ∧ (s.memberCourse m).crs.tickSrc = 1 ∧
      (s.memberCourse m).clk.tickAt = s.memberPlace m := by
  have hp : ∃ p, (s.memberPhase m).crs = { s.crs with tickSrc := 1, phase := p } := by
    unfold State.memberPhase
    dsimp only
    split
    · exact ⟨_, by rw [State.withCrs_crs, State.setTickSrc_crs]⟩
    · exact ⟨_, s.setTickSrc_crs 1⟩
  obtain ⟨hm, ht, hn⟩ := State.makeTick_moves (place := s.memberPlace m) hp.choose_spec
  rw [State.memberCourse_eq]
  exact ⟨hm, hn, ht⟩

theorem State.raise_inPhase (src : Nat) (sev : Sev) (qual cause index : Nat) (vals : List Word) :
    (s.raise src sev qual cause index vals).inPhase b = s.inPhase b := by
  have h (u : State) : (u.blank (fun p => p == .evt || p == .ctrs)).inPhase b = u.inPhase b := rfl
  rw [← h, ← h s, State.raise_blank rfl rfl]

/-- The part has taken the master of the beacon as its own, with its tick. -/
def State.masterTaken : State :=
  ((s.withYlk { s.ylk with master := b.src, refused := 0 }).setLinkState 2).updateTickPort.setTickSrc 1

theorem State.setLinkState_inPhase (n : Nat) : (s.setLinkState n).inPhase b = s.inPhase b := by
  unfold State.setLinkState
  split
  · rfl
  · rw [State.raise_inPhase]; rfl

theorem State.updateTickPort_inPhase : s.updateTickPort.inPhase b = s.inPhase b := by
  unfold State.updateTickPort
  dsimp only
  split
  · rfl
  · rw [State.raise_inPhase]; rfl

theorem State.setTickSrc_inPhase (n : Nat) : (s.setTickSrc n).inPhase b = s.inPhase b := by
  unfold State.setTickSrc
  split
  · rfl
  · rw [State.raise_inPhase]; rfl

theorem State.masterTaken_inPhase : (s.masterTaken b).inPhase b = s.inPhase b := by
  rw [State.masterTaken, State.setTickSrc_inPhase, State.updateTickPort_inPhase, State.setLinkState_inPhase]
  rfl

theorem State.masterTaken_crs : (s.masterTaken b).crs = { s.crs with tickSrc := 1 } := by
  rw [State.masterTaken, State.setTickSrc_crs, State.crs_of_keptGrid (State.updateTickPort_blank rfl rfl rfl _),
    State.crs_of_keptGrid (State.setLinkState_blank rfl rfl rfl 2 _), State.withYlk_crs]

theorem State.setLinkState_ylk (n : Nat) :
    (s.setLinkState n).ylk.state = n ∧ (s.setLinkState n).ylk.master = s.ylk.master := by
  unfold State.setLinkState
  split
  · next h => exact ⟨h, rfl⟩
  · rw [State.raise_ylk]
    exact ⟨rfl, rfl⟩

theorem State.updateTickPort_ylk :
    s.updateTickPort.ylk.state = s.ylk.state ∧ s.updateTickPort.ylk.master = s.ylk.master := by
  unfold State.updateTickPort
  dsimp only
  split
  · exact ⟨rfl, rfl⟩
  · rw [State.raise_ylk]
    exact ⟨rfl, rfl⟩

theorem State.masterTaken_ylk : (s.masterTaken b).ylk.state = 2 ∧ (s.masterTaken b).ylk.master = b.src := by
  have hy (u : State) : (u.setTickSrc 1).ylk = u.ylk :=
    State.ylk_eq_of_blank (State.setTickSrc_blank rfl rfl rfl rfl 1 u)
  rw [State.masterTaken, hy, (State.updateTickPort_ylk _).1, (State.updateTickPort_ylk _).2,
    (State.setLinkState_ylk _ 2).1, (State.setLinkState_ylk _ 2).2]
  exact ⟨rfl, rfl⟩

/-- The part joins in phase, `d` from the master's tick: it keeps its frame and slews (R39). -/
def State.joinInPhase (d : Int) : State :=
  let s1 := s.withCrs { s.crs with
    courseCnt := alignCount s.crs.courseCnt (s.masterCount % 256), phase := -d, slewing := s.crs.slewing || d != 0 }
  if d ≠ 0 ∧ s.crs.slewing = false then (s1.raise 5 .notice 0 0 noIndex []).followRole else s1.followRole

/-- The last course of the beacon's frame. -/
def State.frameEnds : State :=
  s.withCrs { s.crs with
    started := true, frame := b.frame, course := s.frameCourses - 1
    courseCnt := alignCount s.crs.courseCnt ((s.masterCount + 255) % 256), phase := 0 }

/-- The master's next frame opens here (R526). -/
def State.joinFrame : State := (s.frameEnds b).makeTick s.clk.now

theorem State.joinMaster_of_inPhase {d : Int} (h : s.inPhase b = some d) :
    s.joinMaster b = (s.masterTaken b).joinInPhase d := by
  rw [← s.masterTaken_inPhase b] at h
  unfold State.joinMaster
  dsimp only
  split
  · next d' hd =>
    obtain rfl : d = d' := Option.some.inj (h.symm.trans hd)
    unfold State.joinInPhase State.masterTaken
    rfl
  · next hd => exact absurd (h.symm.trans hd) (by simp)

theorem State.joinMaster_of_apart (h : s.inPhase b = none) : s.joinMaster b = (s.masterTaken b).joinFrame b := by
  rw [← s.masterTaken_inPhase b] at h
  unfold State.joinMaster
  dsimp only
  split
  · next hd => exact absurd (h.symm.trans hd) (by simp)
  · unfold State.joinFrame State.frameEnds State.masterTaken
    rfl

theorem State.joinInPhase_crs (d : Int) :
    (s.joinInPhase d).crs.frame = s.crs.frame ∧ (s.joinInPhase d).crs.phase = -d ∧
      (s.joinInPhase d).crs.tickSrc = s.crs.tickSrc := by
  have hf (u : State) : u.followRole.crs = u.crs := State.crs_of_keptGrid (State.followRole_blank rfl rfl rfl u)
  unfold State.joinInPhase
  dsimp only
  split
  · rw [hf, State.raise_crs]; exact ⟨rfl, rfl, rfl⟩
  · rw [hf]; exact ⟨rfl, rfl, rfl⟩

theorem State.joinInPhase_ylk (d : Int) : (s.joinInPhase d).ylk = s.ylk := by
  have hf (u : State) : u.followRole.ylk = u.ylk := State.ylk_eq_of_blank (State.followRole_blank rfl rfl rfl u)
  unfold State.joinInPhase
  dsimp only
  split
  · rw [hf, State.raise_ylk]; rfl
  · rw [hf]; rfl

theorem State.frameCourses_pos : 0 < s.frameCourses := by
  unfold State.frameCourses
  split
  · decide
  · exact Nat.pos_of_ne_zero ‹_›

theorem State.frameEnds_frameCourses : (s.frameEnds b).frameCourses = s.frameCourses := by
  rw [State.frameCourses, State.frameCourses, State.frameEnds, State.withCrs_crs]

theorem State.frameEnds_place :
    ∃ n, (s.frameEnds b).crs.place = (true, b.frame, s.frameCourses - 1, n, s.crs.tickSrc) := by
  rw [State.frameEnds, State.withCrs_crs]
  exact ⟨_, rfl⟩

theorem State.joinFrame_crs : (s.joinFrame b).crs.frame = b.frame + 1 ∧ (s.joinFrame b).crs.course = 0 ∧
    (s.joinFrame b).crs.tickSrc = s.crs.tickSrc := by
  obtain ⟨n, he⟩ := s.frameEnds_place b
  simp only [Crs.place, Prod.mk.injEq] at he
  obtain ⟨h0, hf, hc, -, hs⟩ := he
  have hp := ((s.frameEnds b).makeTick_place s.clk.now).1
  have hl := s.frameCourses_pos
  rw [← State.joinFrame, Crs.nextCourse_place, State.frameEnds_frameCourses, h0, hf, hc, hs, if_neg (by decide),
    if_neg (by omega)] at hp
  simp only [Crs.place, Prod.mk.injEq] at hp
  obtain ⟨-, hf', hc', -, hs'⟩ := hp
  exact ⟨hf', hc', hs'⟩

theorem State.joinMaster_tickSrc : (s.joinMaster b).crs.tickSrc = 1 := by
  have ht : (s.masterTaken b).crs.tickSrc = 1 := by rw [State.masterTaken_crs]
  rw [← ht]
  cases h : s.inPhase b with
  | some d =>
    rw [s.joinMaster_of_inPhase b h]
    exact (State.joinInPhase_crs _ d).2.2
  | none =>
    rw [s.joinMaster_of_apart b h]
    exact (State.joinFrame_crs _ b).2.2

end

section
variable {t : Nat} {s : State} {b : LinkBeacon} (hr : s.runs = true)
include hr

theorem memberTickApply_moves (m : Nat) (h2 : s.ylk.state = 2) (hm : s.memberTick = some m) :
    Answers .memberTickApply s fun u => MovedOn s u ∧ u.crs.tickSrc = 1 ∧
      u.clk.tickAt = max (s.clk.tickAt + 999900) (min (s.clk.tickAt + 1000100) m) := by
  refine ⟨_, (congrArg Host.Outcome.next ?_ : exec .memberTickApply s = _), s.memberCourse_moves m⟩
  rw [State.whileRunning_of_runs s hr]
  simp only [h2, hm]

theorem exec_tickPhaseSlewEnd (hs : s.crs.slewing = true) (hp : s.crs.phase = 0) : exec .tickPhaseSlewEnd s = .next
    (((s.withCrs { s.crs with slewing := false }).withTim { s.tim with anchorDue := true }).raise 5 .notice 1 0 noIndex
      []) := by
  change execTickPhaseSlewEnd s = _
  rw [execTickPhaseSlewEnd, State.whileRunning_of_runs s hr, if_pos ⟨hs, hp⟩]

theorem exec_linkJoin (hb : s.ylk.bcn = some b) (hj : s.ylk.state = 1 ∨ s.ylk.state = 4) :
    exec (.linkJoin t) s = .next (if (s.instant t).joinCause b ≠ 0 then
      ((s.instant t).withYlk { s.ylk with refused := (s.instant t).joinCause b }).raise 90 .notice 0
        ((s.instant t).joinCause b) noIndex [] else (s.instant t).joinMaster b) := by
  have hy : (s.instant t).ylk = s.ylk := rfl
  change execLinkJoin t s = _
  rw [execLinkJoin, State.whileRunning_of_runs (s.instant t) hr]
  dsimp only
  rw [hy]
  split
  · next h => exact absurd (hb.symm.trans h) (by simp)
  · next b' h =>
    obtain rfl : b = b' := Option.some.inj (hb.symm.trans h)
    rw [if_neg fun h => hj.elim h.1 h.2]

theorem linkJoin_refused (hb : s.ylk.bcn = some b) (hj : s.ylk.state = 1 ∨ s.ylk.state = 4)
    (hc : (s.instant t).joinCause b ≠ 0) : exec (.linkJoin t) s = .next
      (((s.instant t).withYlk { s.ylk with refused := (s.instant t).joinCause b }).raise 90 .notice 0
        ((s.instant t).joinCause b) noIndex []) :=
  (exec_linkJoin hr hb hj).trans (congrArg _ (if_pos hc))

theorem linkJoin_joins (hb : s.ylk.bcn = some b) (hj : s.ylk.state = 1 ∨ s.ylk.state = 4)
    (hc : (s.instant t).joinCause b = 0) : Answers (.linkJoin t) s fun u => u.crs.tickSrc = 1 ∧
      (∀ d, (s.instant t).inPhase b = some d →
        u.ylk.master = b.src ∧ u.ylk.state = 2 ∧ u.crs.frame = s.crs.frame ∧ u.crs.phase = -d) ∧
      ((s.instant t).inPhase b = none → 0 < s.frameCourses → u.crs.frame = b.frame + 1 ∧ u.crs.course = 0) := by
  refine ⟨_, (exec_linkJoin hr hb hj).trans (congrArg _ (if_neg (not_not.mpr hc))), State.joinMaster_tickSrc _ b,
    fun d hd => ?_, fun hn _ => ?_⟩
  · obtain ⟨hf, hp, -⟩ := ((s.instant t).masterTaken b).joinInPhase_crs d
    obtain ⟨hs, hm⟩ := (s.instant t).masterTaken_ylk b
    rw [State.joinMaster_of_inPhase _ b hd, State.joinInPhase_ylk, hf, hp, State.masterTaken_crs]
    exact ⟨hm, hs, rfl, rfl⟩
  · obtain ⟨hf, h0, -⟩ := ((s.instant t).masterTaken b).joinFrame_crs b
    rw [State.joinMaster_of_apart _ b hn]
    exact ⟨hf, h0⟩

end

/-- Settles O24: taking the master changes nothing that the phase is read from, and the tick of a part out of phase is
made in the last course of the beacon's frame. -/
theorem ticksFollowTheMaster : Obligations.TicksFollowTheMaster := by
  unfold Obligations.TicksFollowTheMaster
  exact fun s hr => ⟨memberTickApply_moves hr, exec_tickPhaseSlewEnd hr,
    fun _ _ hb hj => ⟨linkJoin_refused hr hb hj, linkJoin_joins hr hb hj⟩⟩

end Sys2Proof.Machine
end

section
/-! The statements of spec/03_vessel_model_image.md: the end of a load, the host interface and its link, lockstep
mismatches. -/

namespace Sys2Proof.Machine
open Sys2Proof

/-! ## The end of a load (R67) -/

section
variable (s : State) (n : Nat)

@[simp] theorem State.count_img (c : Ctr) : (s.count c).img = s.img :=
  State.img_eq_of_blank (State.count_blank rfl rfl c s)
@[simp] theorem State.done_img (w : Waiting) : (s.done w n).img = s.img :=
  State.img_eq_of_blank (State.done_blank rfl w n s)
@[simp] theorem State.refuse_img (w : Waiting) : (s.refuse w n).img = s.img :=
  State.img_eq_of_blank (State.refuse_blank rfl w n s)
end

section
variable {s : State} {w : Waiting}

theorem State.endLoad_done (hl : s.img.load = some w) (slot : Slot) (staged : List Byte) :
    s.endLoad slot staged 0 = (s.withImg { s.img with slot := slot, staged := staged, load := none }).done w 0 := by
  simp only [State.endLoad, hl, if_true]

theorem State.endLoad_refused (hl : s.img.load = some w) (slot : Slot) (staged : List Byte) {n : Nat} (hn : n ≠ 0) :
    s.endLoad slot staged n = (s.withImg { s.img with slot := slot, staged := staged, load := none }).refuse w n := by
  simp only [State.endLoad, hl, if_neg hn]

/-- The load `w` has ended DISCARDED and no discard waits any more. -/
def State.loadDiscarded (s : State) (w : Waiting) : State :=
  let z := (s.withImg { s.img with slot := .empty, staged := [], load := none }).refuse w 0x11
  z.withImg { z.img with discard := [] }

theorem State.stopLoad_of_load (hl : s.img.load = some w) :
    s.stopLoad = s.img.discard.foldl (fun v d => v.done d 0) (s.loadDiscarded w) := by
  simp only [State.stopLoad, State.endLoad_refused hl .empty [] (n := 0x11) (by decide), State.loadDiscarded]

theorem State.stopLoad_img (hl : s.img.load = some w) :
    s.stopLoad.img = { s.img with slot := .empty, staged := [], load := none, discard := [] } := by
  rw [State.stopLoad_of_load hl, State.foldl_keeps State.img _ _ _ fun v d => v.done_img 0 d, State.loadDiscarded,
    State.withImg_img, State.refuse_img, State.withImg_img]

theorem State.fetchFailed_of_load (hl : s.img.load = some w) :
    s.fetchFailed = ((s.count .fetchErr).raise 114 .notice 0 0 w.ring []).endLoad (.refused 0x10) [] 0x10 := by
  simp only [State.fetchFailed, hl]

end

section
variable {t : Nat} {s : State} {w : Waiting} (hs : s.hostServes = true) (hl : s.img.load = some w)
include hs hl

theorem exec_imageDiscardStop (hd : s.img.discard ≠ []) :
    exec (.imageDiscardStop t) s = .next (s.instant t).stopLoad :=
  congrArg Host.Outcome.next (if_neg (by simp [hs, hl, hd]))

theorem exec_imageVerifyDone_of_discard (hd : s.img.discard ≠ []) (b : Option (List Byte)) :
    exec (.imageVerifyDone t b) s = .next (s.instant t).stopLoad := by
  obtain ⟨d, ds, hd⟩ := List.exists_cons_of_ne_nil hd
  change execImageVerifyDone t b s = _
  simp only [execImageVerifyDone, hs, State.instant, State.withClk_img, hl, hd, Bool.true_eq_false, if_false]

/-- A waiting discard stops the load at the next service run and, before any check, at the end of the verification
(assumption 28). -/
theorem discard_stops_load (hd : s.img.discard ≠ []) {c : Instr} {b : Option (List Byte)}
    (hc : c ∈ [Instr.imageDiscardStop t, .imageVerifyDone t b]) :
    Answers c s fun u => u = s.img.discard.foldl (fun v d => v.done d 0) ((s.instant t).loadDiscarded w) ∧
      u.img.slot = .empty ∧ u.img.staged = [] ∧ u.img.load = none ∧ u.img.discard = [] := by
  have hl' : (s.instant t).img.load = some w := hl
  have he : exec c s = .next (s.instant t).stopLoad := by
    simp only [List.mem_cons, List.not_mem_nil, or_false] at hc
    obtain rfl | rfl := hc
    · exact exec_imageDiscardStop hs hl hd
    · exact exec_imageVerifyDone_of_discard hs hl hd b
  refine ⟨_, he, State.stopLoad_of_load hl', ?_⟩
  rw [State.stopLoad_img hl']
  exact ⟨rfl, rfl, rfl, rfl⟩

variable (hd : s.img.discard = [])
include hd

theorem exec_imageVerifyDone_of_fetched (hf : w.hdr.dma = none) {b : List Byte} {n : Nat}
    (hn : n = (s.instant t).verifyImage w.hdr.len (padTo w.hdr.len b)) :
    exec (.imageVerifyDone t (some b)) s = .next (if n = 0
      then (s.instant t).endLoad .verified (padTo w.hdr.len b) 0 else (s.instant t).endLoad (.refused n) [] n) := by
  change execImageVerifyDone t _ s = _
  subst hn
  simp only [execImageVerifyDone, hs, State.instant, State.withClk_img, hl, hd, hf, Bool.true_eq_false, if_false]

theorem exec_imageVerifyDone_of_lost {b : Option (List Byte)} (hb : b = none ∨ w.hdr.dma ≠ none) :
    exec (.imageVerifyDone t b) s = .next (s.instant t).fetchFailed := by
  change execImageVerifyDone t _ s = _
  simp only [execImageVerifyDone, hs, State.instant, State.withClk_img, hl, hd, Bool.true_eq_false, if_false]
  split
  · next hf => exact absurd hf (hb.resolve_left (by simp))
  · rfl

/-- The load ends by the first check that fails, or VERIFIED when none does. -/
theorem verified_or_refused (b : List Byte) (n : Nat) (hf : w.hdr.dma = none)
    (hn : n = (s.instant t).verifyImage w.hdr.len (padTo w.hdr.len b)) :
    (n = 0 → exec (.imageVerifyDone t (some b)) s = .next (((s.instant t).withImg
      { s.img with slot := .verified, staged := padTo w.hdr.len b, load := none }).done w 0)) ∧
    (n ≠ 0 → exec (.imageVerifyDone t (some b)) s = .next (((s.instant t).withImg
      { s.img with slot := .refused n, staged := [], load := none }).refuse w n)) := by
  rw [exec_imageVerifyDone_of_fetched hs hl hd hf hn]
  refine ⟨fun h0 => ?_, fun h0 => ?_⟩
  · rw [if_pos h0, State.endLoad_done (s := s.instant t) hl]
    rfl
  · rw [if_neg h0, State.endLoad_refused (s := s.instant t) hl _ _ h0]
    rfl

theorem fetch_lost (b : Option (List Byte)) (z : State) (hb : b = none ∨ w.hdr.dma ≠ none)
    (hz : z = ((s.instant t).count .fetchErr).raise 114 .notice 0 0 w.ring []) :
    exec (.imageVerifyDone t b) s = .next
      ((z.withImg { z.img with slot := .refused 0x10, staged := [], load := none }).refuse w 0x10) := by
  have hlz : z.img.load = some w := by
    rw [hz, State.raise_img, State.count_img]
    exact hl
  rw [exec_imageVerifyDone_of_lost hs hl hd hb, State.fetchFailed_of_load (s := s.instant t) hl, ← hz,
    State.endLoad_refused hlz _ _ (by decide)]

end

/-! ## The reset of the host interface (R412) -/

theorem State.locks_of_blank {m : Part → Bool} {a b : State} (h : a.blank m = b.blank m) (h1 : m .locks = false) :
    a.regs.locks = b.regs.locks := by
  simpa only [State.blank, h1, Bool.false_eq_true, if_false] using congrArg (fun s => s.regs.locks) h

section
variable (s : State) (k : Nat)

@[simp] theorem State.raise_hrg (src : Nat) (sev : Sev) (qual cause index : Nat) (vals : List Word) :
    (s.raise src sev qual cause index vals).hrg = s.hrg :=
  State.hrg_of_blank (m := keepOnly [.hrg]) (State.raise_blank rfl rfl src sev qual cause index vals s) rfl

@[simp] theorem State.raise_ctl (src : Nat) (sev : Sev) (qual cause index : Nat) (vals : List Word) :
    (s.raise src sev qual cause index vals).ctl = s.ctl :=
  State.ctl_of_blank (m := keepOnly [.ctl]) (State.raise_blank rfl rfl src sev qual cause index vals s) rfl

@[simp] theorem State.abandonActivation_ctl (reason : Nat) : (s.abandonActivation reason).ctl = s.ctl :=
  State.ctl_of_blank (m := keepOnly [.ctl]) (State.abandonActivation_blank rfl rfl rfl rfl reason s) rfl

theorem State.hostInterfaceReset_hrg :
    (s.hostInterfaceReset k).hrg.rings = Hrg.reset.rings ∧ (s.hostInterfaceReset k).hrg.waiting = [] := by
  simp [State.hostInterfaceReset, State.retainSnapshot, apply_ite State.hrg, Hrg.reset]

theorem State.hostInterfaceReset_ctl : { (s.hostInterfaceReset k).ctl with spWait := s.ctl.spWait } = s.ctl := by
  simp [State.hostInterfaceReset, State.retainSnapshot, apply_ite State.ctl]

/-- The crossings of the domain touch neither the host interface nor the DP control. -/
theorem State.resetHost_blank_hostInterfaceReset :
    (s.resetHost k).blank (keepOnly [.hrg, .ctl]) = (s.hostInterfaceReset k).blank (keepOnly [.hrg, .ctl]) :=
  State.foldl_blank _ _ _ fun u c => State.resetCrossing_blank rfl rfl rfl rfl c 0 u

theorem State.resetHost_ring (r : Nat) : (s.resetHost k).ring r = Ring.reset := by
  rw [State.ring, State.hrg_of_blank (s.resetHost_blank_hostInterfaceReset k) rfl, (s.hostInterfaceReset_hrg k).1]
  by_cases hr : r < 22 <;> simp [vget, Hrg.reset, hr]

theorem State.resetHost_waiting : (s.resetHost k).hrg.waiting = [] := by
  rw [State.hrg_of_blank (s.resetHost_blank_hostInterfaceReset k) rfl, (s.hostInterfaceReset_hrg k).2]

theorem State.resetHost_ctl : { (s.resetHost k).ctl with spWait := s.ctl.spWait } = s.ctl := by
  rw [State.ctl_of_blank (s.resetHost_blank_hostInterfaceReset k) rfl, State.hostInterfaceReset_ctl]

theorem State.resetHost_locks : (s.resetHost k).regs.locks = s.regs.locks :=
  State.locks_of_blank (m := keepOnly [.locks]) (by simp (disch := decide) only [↓State.resetHost_blank]) rfl

end

section
variable {t : Nat} {s : State} (hf : s.firmwareRuns = true)
include hf

theorem exec_hostInterfaceReset {k : Nat} (hk : k ≤ 3) : exec (.hostInterfaceReset t k) s = .next
    (if vget s.glb.clkRun 7 true = true then (s.instant t).resetHost k
      else (s.instant t).withHrg { s.hrg with resetDue := some k }) :=
  congrArg Host.Outcome.next (if_neg (by simp [hf, hk]))

theorem hostInterfaceReset_resets {k : Nat} (hk : k ≤ 3) (hc : vget s.glb.clkRun 7 true = true) :
    Answers (.hostInterfaceReset t k) s fun u => u = (s.instant t).resetHost k ∧
      (∀ r, (u.ring r).state = .disabled ∧ (u.ring r).en = false ∧ (u.ring r).outst = []) ∧ u.hrg.waiting = [] ∧
      u.regs.locks = s.regs.locks ∧ { u.ctl with spWait := s.ctl.spWait } = s.ctl := by
  refine ⟨_, (exec_hostInterfaceReset hf hk).trans (congrArg _ (if_pos hc)), rfl, fun r => ?_,
    State.resetHost_waiting _ k, State.resetHost_locks _ k, State.resetHost_ctl (s.instant t) k⟩
  rw [State.resetHost_ring]
  exact ⟨rfl, rfl, rfl⟩

theorem hostInterfaceReset_waits {k : Nat} (hk : k ≤ 3) (hc : vget s.glb.clkRun 7 true = false) :
    exec (.hostInterfaceReset t k) s = .next ((s.instant t).withHrg { s.hrg with resetDue := some k }) :=
  (exec_hostInterfaceReset hf hk).trans (congrArg _ (if_neg (by simp [hc])))

/-! ## The link and the comparators (R14, R53, R433) -/

theorem exec_pcieLinkUp (hu : s.hrg.linkUp = false) : exec (.pcieLinkUp t) s = .next
    (((s.instant t).withHrg { s.hrg with linkUp := true }).raise 114 .notice 1 0 noIndex []) :=
  congrArg Host.Outcome.next (if_neg (by simp [hf, hu]))

theorem exec_lockstepMismatch (p : Nat) (hp : p < 6) : exec (.lockstepMismatch t p) s = .next
    ((((s.instant t).withRdn { s.rdn with mismatch := true, mismatchOf := s.rdn.mismatchOf.or (some p) }).raise 81
      .alarm 0 3 p []).loseClaim) := by
  refine congrArg Host.Outcome.next ((if_pos ⟨hp, hf⟩).trans ?_)
  rw [State.comparatorMismatch, if_pos hp]
  rfl

end

/-- Settles O49: no completion and no event changes the image slot, and the crossings that are reset with the host
interface change neither its rings nor the DP control. -/
theorem interfaceAndLoadRows : Obligations.InterfaceAndLoadRows := by
  unfold Obligations.InterfaceAndLoadRows
  rintro t s _ rfl
  exact ⟨fun w hs hl => ⟨fun hd => ⟨verified_or_refused hs hl hd, fetch_lost hs hl hd⟩,
      fun hd _ _ => discard_stops_load hs hl hd⟩,
    fun _ hk hf => ⟨hostInterfaceReset_resets hf hk, hostInterfaceReset_waits hf hk⟩,
    exec_pcieLinkUp, fun p hp hf => exec_lockstepMismatch hf p hp⟩

end Sys2Proof.Machine
end

section
/-! The statements of spec/04_sensor_intake.md: sentences, IMU ports, analog channels and silence, and what the link
brings to the intake. -/

namespace Sys2Proof.Machine
open Sys2Proof

/-! ## What the instant of a row leaves as it was, for the intake -/

section
variable (s : State) (t : Nat)

@[simp] theorem State.instant_quoin (e : Nat) : (s.instant t).quoin e = s.quoin e := rfl
@[simp] theorem State.instant_quoinAt (kind port : Nat) : (s.instant t).quoinAt kind port = s.quoinAt kind port := rfl
@[simp] theorem State.instant_sni : (s.instant t).sni = s.sni := rfl
@[simp] theorem State.instant_anaCh (c : Nat) : (s.instant t).anaCh c = s.anaCh c := rfl
@[simp] theorem State.instant_forwards : (s.instant t).forwards = s.forwards := rfl
@[simp] theorem State.instant_importOf (src block : Nat) : (s.instant t).importOf src block = s.importOf src block := rfl

end

/-- A row answers what its work leaves of the instant's state, while frames run. -/
theorem next_whileRunning (t : Nat) {s : State} (hr : s.runs = true) {f : State → State} {u : State}
    (h : f (s.instant t) = u) :
    (.next ((s.instant t).whileRunning f) : Host.Outcome State Fault Refusal) = .next u :=
  congrArg _ ((State.whileRunning_of_runs (s.instant t) hr).trans h)

/-! ## Sentences of a UART (R83, R84, R86) -/

section
variable {t uart : Nat} {s : State} {q : List Byte} (hr : s.runs = true) (hq : s.quoinAt 0 uart = some q)
include hr hq

theorem exec_sentenceStartStamp : exec (.sentenceStartStamp t uart) s = .next ((s.instant t).withSni
    { s.sni with uarts := vset s.sni.uarts uart (some (s.instant t).devTime) }) :=
  next_whileRunning t hr (by simp only [State.instant_quoinAt, State.instant_sni, hq])

variable {x : Int} (hx : vget s.sni.uarts uart none = some x)
include hx

theorem exec_uartFramingError : exec (.uartFramingError t uart) s = .next
    (((s.instant t).withSni { s.sni with uarts := vset s.sni.uarts uart none }).sniError (qnEntry q)) :=
  next_whileRunning t hr (by simp only [State.instant_quoinAt, State.instant_sni, hq, hx])

theorem exec_sentenceReceived_of_bad {b : List Byte} (hb : checkSentence (qnSet q 4 1 == 1) b = .bad) :
    exec (.sentenceReceived t uart b) s = .next
      (((s.instant t).withSni { s.sni with uarts := vset s.sni.uarts uart none }).sniError (qnEntry q)) :=
  next_whileRunning t hr (by simp only [State.instant_quoinAt, State.instant_sni, hq, hx, hb])

theorem exec_sentenceReceived_of_ok {b a : List Byte} {fs : List (List Byte)}
    (hb : checkSentence (qnSet q 4 1 == 1) b = .ok a fs) : exec (.sentenceReceived t uart b) s = .next
      (((s.instant t).withSni { s.sni with uarts := vset s.sni.uarts uart none }).uartSentence uart q a fs x) :=
  next_whileRunning t hr (by simp only [State.instant_quoinAt, State.instant_sni, hq, hx, hb])

end

/-! ## Sentences of a network (R386) -/

/-- One line of a datagram, its tags apart, goes the way of its sentence with the stamp of the arrival. -/
def State.datagramLine (stamp : Int) (u : State) (l : List Byte) : State :=
  if (dropTags 4 l).isEmpty then u else u.busSentence 1 4 0xFF 1 stamp (dropTags 4 l)

section
variable {t g : Nat} {s : State} {p : Port} {b : List Byte} (hr : s.runs = true)
  (hg : ¬(p = .m ∨ s.portLive p = false ∨ g = 0 ∨ g > 32 ∨ tbit (u32 (s.sect 0x0E) 0x20) (g - 1) = false))
include hr hg

theorem exec_networkSentenceRx_of_otherHeader (hb : b.take 6 ≠ ascii "UdPbC" ++ [0#8]) :
    exec (.networkSentenceRx t p g b) s = .next ((s.instant t).netReject p) :=
  next_whileRunning t hr ((if_neg hg).trans (if_pos hb))

theorem exec_networkSentenceRx_of_header (hb : b.take 6 = ascii "UdPbC" ++ [0#8]) :
    exec (.networkSentenceRx t p g b) s = .next
      ((textLines (b.drop 6)).foldl (State.datagramLine (s.instant t).devTime) (s.instant t)) :=
  next_whileRunning t hr ((if_neg hg).trans (if_neg (not_not.mpr hb)))

end

/-- Settles O37: each row runs the one branch of its work that the port, the sentence in progress, the check and the
header name. -/
theorem serialAndNetworkSentences : Obligations.SerialAndNetworkSentences := by
  unfold Obligations.SerialAndNetworkSentences
  refine fun t s hr => ⟨fun uart q hq => ⟨exec_sentenceStartStamp hr hq, ?_⟩, fun p g b hp hl h1 h32 hs => ?_⟩
  · rintro x _ hx rfl
    exact ⟨exec_uartFramingError hr hq hx, fun _ => exec_sentenceReceived_of_bad hr hq hx,
      fun _ _ _ => exec_sentenceReceived_of_ok hr hq hx⟩
  · have hg : ¬(p = .m ∨ s.portLive p = false ∨ g = 0 ∨ g > 32 ∨ tbit (u32 (s.sect 0x0E) 0x20) (g - 1) = false) := by
      simp only [hp, hl, hs, Bool.true_eq_false, or_false, false_or]
      omega
    exact ⟨exec_networkSentenceRx_of_otherHeader hr hg, exec_networkSentenceRx_of_header hr hg⟩

/-! ## IMU ports (R88, R89) -/

/-- The first byte and the CRC of an IMU frame are right (R88). -/
def imuFrameGood (b : List Byte) : Prop :=
  u8 (padTo 32 b) 0 = 0xA5 ∧ ube (padTo 32 b) 0x1E 2 = (crc16 ((padTo 32 b).take 0x1E)).toNat

section
variable {t port : Nat} {s : State} {q : List Byte} (hr : s.runs = true) (hq : s.quoinAt 1 port = some q)
include hr hq

theorem exec_imuSyncPulse (h0 : qnSet q 2 1 = 0) (hp : (s.instant t).devTime % (imuPeriod (qnSet q 0 2) : Int) = 0) :
    exec (.imuSyncPulse t port) s = .next
      ((((s.instant t).emit (.pin (ballSync port) true)).imuEdge port).emit (.pin (ballSync port) false)) :=
  next_whileRunning t hr (by simp only [State.instant_quoinAt, hq, h0, hp, and_self, if_true])

theorem exec_imuDrdyEdge (h1 : qnSet q 2 1 = 1) :
    exec (.imuDrdyEdge t port) s = .next ((s.instant t).imuEdge port) :=
  next_whileRunning t hr (by simp only [State.instant_quoinAt, hq, h1, if_true])

section
variable {e : Int} {b : List Byte} (he : (vget s.sni.imus port ImuPort.reset).edge = some e)
include he

theorem exec_imuFrameRead_of_good (hb : imuFrameGood b) : exec (.imuFrameRead t port b) s = .next
    (((s.instant t).emit (.spi port imuQuery)).imuAccept port q (padTo 32 b) e) :=
  next_whileRunning t hr (by
    simp only [State.instant_quoinAt, State.instant_sni, hq, he]
    exact if_pos hb)

theorem exec_imuFrameRead_of_bad (hb : ¬imuFrameGood b) : exec (.imuFrameRead t port b) s = .next
    ((((s.instant t).emit (.spi port imuQuery)).withSni { s.sni with
      imus := vset s.sni.imus port { vget s.sni.imus port ImuPort.reset with edge := none } }).sniError (qnEntry q)) :=
  next_whileRunning t hr (by
    simp only [State.instant_quoinAt, State.instant_sni, hq, he]
    exact if_neg hb)

end

theorem exec_imuDrdyTimeout {l w : Nat} (hw : w = imuPeriod (qnSet q 0 2) * 3 / 2) (h1 : qnSet q 2 1 = 1)
    (hl : (vget s.sni.imus port ImuPort.reset).lastEdge = some l) (hn : l + w ≤ (s.instant t).clk.now) :
    exec (.imuDrdyTimeout t port) s = .next (((s.instant t).withSni { s.sni with
      imus := vmod s.sni.imus port (fun x => { x with lastEdge := some (l + w) }) }).sniGap (qnEntry q) 1) := by
  subst hw
  exact next_whileRunning t hr (by
    simp only [State.instant_quoinAt, State.instant_sni, hq, hl]
    exact if_pos ⟨h1, hn⟩)

end

/-! ## Analog channels (R90 to R95) -/

/-- The code of an output, clamped, and full scale on an overrange (R90, R94). -/
def anaClamp (code : Int) (ovr : Bool) : Int :=
  if ovr then (if code < 0 then -8388607 else 8388607) else max (-8388607) (min 8388607 code)

/-- The stamp of a channel's output that is made at device time `a` (R91). -/
def anaStamp (q : List Byte) (a : Int) : Int :=
  a / (anaPeriod (qnSet q 3 3) : Int) * (anaPeriod (qnSet q 3 3) : Int) - groupDelay q - qnLatency q

/-- An output counts its channel's run down, raises event source 20 on the first overrange, and its record arrives. -/
def State.analogRecord (c : Nat) (q : List Byte) (k stamp : Int) (ovr : Bool) (s : State) : State :=
  let x := s.anaCh c
  let a := s.setAna c { x with run := x.run - 1, ovr := ovr }
  (if ovr = true ∧ x.ovr = false then a.raise 20 .notice 0 0 c [] else a).arrive q 9
    (b2n (decide (0 < x.run)) + 2 * b2n ovr + 32 * b2n (x.input != 0)) 1 stamp (ibytes 4 k ++ ibytes 4 (engValue q k))

/-- The point of a channel's route takes an engineering value (R375). -/
def State.analogPoint (c : Nat) (value stamp : Int) (qual : Byte) (s : State) : State :=
  match s.analogRoute c with
  | some r => s.updateRoute r stamp
      (if rtCount r = 0 then [] else [{ num := rtFirst r, value := some (wordI value), typ := rtType r, qual := qual }])
  | none => s

section
variable {t c : Nat} {s : State} {q : List Byte} (hr : s.runs = true) (hq : s.quoinAt 2 c = some q)
include hr hq

theorem exec_analogStepDetected : exec (.analogStepDetected t c) s = .next
    ((s.instant t).setAna c { s.anaCh c with run := anaSettle (qnSet q 0 3) }) :=
  next_whileRunning t hr (by simp only [State.startRun, State.instant_quoinAt, State.instant_anaCh, hq])

theorem exec_analogOutput {code k stamp : Int} {ovr : Bool} (hk : k = anaClamp code ovr)
    (hs : stamp = anaStamp q (s.instant t).devTime) : exec (.analogOutput t c code ovr) s = .next
      ((((s.instant t).analogRecord c q k stamp ovr).analogPoint c (engValue q k) stamp
        (anaQual (decide (0 < (s.anaCh c).run)) ovr ((s.anaCh c).input != 0))).anaTestsDone c) := by
  subst hk hs
  refine next_whileRunning t hr ?_
  simp only [State.instant_quoinAt, State.instant_anaCh, hq, State.analogRecord, Bool.and_eq_true, Bool.not_eq_true']
  rfl

end

/-! ## Silence (R101) -/

theorem exec_quoinEntrySilent {t e : Nat} {s : State} {q : List Byte} (hr : s.runs = true) (hq : s.quoin e = some q)
    (hc : s.crs.course = 0) (hs : (s.entrySt (qnEntry q)).silent = false)
    (hn : qnSilence q < s.crs.courseCnt - (s.entrySt (qnEntry q)).since) : exec (.quoinEntrySilent t e) s = .next
      (((s.instant t).setEntrySt (qnEntry q) { s.entrySt (qnEntry q) with silent := true }).raise 16 .notice 0 0
        (qnEntry q) []) :=
  next_whileRunning t hr (by
    simp only [State.instant_quoin, State.instant_crs, hq, hc, if_true]
    exact if_pos ⟨hs, hn⟩)

/-- Settles O38: each row runs the one branch of its work that the timing of the port, its latest edge, the check of
the frame, the overrange and the silence of the entry name. -/
theorem imuAndAnalogRows : Obligations.ImuAndAnalogRows := by
  unfold Obligations.ImuAndAnalogRows
  refine fun t s hr => ⟨?_, fun c q hq => ⟨exec_analogStepDetected hr hq, ?_⟩, fun e q => exec_quoinEntrySilent hr⟩
  · rintro port q _ hq rfl
    refine ⟨exec_imuSyncPulse hr hq, exec_imuDrdyEdge hr hq, ?_, fun l w => exec_imuDrdyTimeout hr hq⟩
    rintro e b _ he rfl
    exact ⟨exec_imuFrameRead_of_good hr hq he, exec_imuFrameRead_of_bad hr hq he⟩
  · rintro code k _ stamp ovr _ _ _ _ hk rfl hs rfl rfl rfl rfl
    exact exec_analogOutput hr hq hk hs

/-! ## Frames of the link (R520 to R522) -/

theorem afind_aput_same {α : Type} (k : Nat) (x : α) (l : List (Nat × α)) : afind k (aput k x l) = some x := by
  induction l with
  | nil => exact if_pos rfl
  | cons p l ih =>
    obtain ⟨j, y⟩ := p
    unfold aput
    split
    · next h => exact (if_neg h.ne).trans ih
    · split <;> exact if_pos rfl

/-- A frame that the part takes goes on out of the other port, where that is up and the frame has hops left. -/
def State.passOn (hd : LinkHdr) (typ : Nat) (b : List Byte) (s : State) : State :=
  let f := linkBytes typ hd.src hd.dst (hd.hops + 1) hd.seq hd.frame b
  if hd.hops < 31 ∧ s.linkUp (1 - hd.port % 2) = true then s.emit (.link (2 ^ (1 - hd.port % 2)) (f ++ wbytes (crc32 f)))
  else s

/-- Passed on, it is remembered as the newest of its sender and class, and its sender as heard in this course. -/
def State.linkHeard (hd : LinkHdr) (typ : Nat) (b : List Byte) (s : State) : State :=
  let u := s.passOn hd typ b
  u.withYlk { u.ylk with
    seqIn := aput (4 * hd.src + linkClass typ) hd.seq u.ylk.seqIn, heard := aput hd.src u.crs.courseCnt u.ylk.heard }

section
variable (s : State) (hd : LinkHdr) (typ : Nat) (b : List Byte)

/-- Passing a frame on changes what the part gives out and nothing else. -/
theorem State.passOn_eq : s.passOn hd typ b = s.withOutbox (s.passOn hd typ b).outbox := by
  unfold State.passOn
  split <;> rfl

@[simp] theorem State.linkHeard_seqIn : (s.linkHeard hd typ b).ylk.seqIn =
    aput (4 * hd.src + linkClass typ) hd.seq s.ylk.seqIn := by
  rw [State.linkHeard, State.passOn_eq]; rfl
@[simp] theorem State.linkHeard_crs : (s.linkHeard hd typ b).crs = s.crs := by
  rw [State.linkHeard, State.passOn_eq]; rfl
@[simp] theorem State.linkHeard_pnt : (s.linkHeard hd typ b).pnt = s.pnt := by
  rw [State.linkHeard, State.passOn_eq]; rfl
@[simp] theorem State.linkHeard_rdn : (s.linkHeard hd typ b).rdn = s.rdn := by
  rw [State.linkHeard, State.passOn_eq]; rfl
@[simp] theorem State.linkHeard_linkAddr : (s.linkHeard hd typ b).linkAddr = s.linkAddr := by
  rw [State.linkHeard, State.passOn_eq]; rfl
@[simp] theorem State.linkHeard_importOf (src block : Nat) :
    (s.linkHeard hd typ b).importOf src block = s.importOf src block := by
  rw [State.linkHeard, State.passOn_eq]; rfl
@[simp] theorem State.linkHeard_forwards : (s.linkHeard hd typ b).forwards = s.forwards := by
  simp only [State.forwards, State.linkHeard_crs, State.linkHeard_rdn]

end

section
variable {s : State} {hd : LinkHdr} {typ : Nat} {b : List Byte}

theorem State.Hears.instant (h : s.Hears hd typ b) (t : Nat) : (s.instant t).Hears hd typ b := h

/-- What a part hears, it passes on, remembers and acts on. -/
theorem State.linkTake_of_hears (h : s.Hears hd typ b) (act : State → State) :
    s.linkTake hd typ b b act = act (s.linkHeard hd typ b) := by
  obtain ⟨h0, hup, hcrc, hown, hnew, hdst, hlen⟩ := h
  have hact : (if (hd.dst = 0xFF ∨ hd.dst = (s.linkHeard hd typ b).linkAddr) ∧ b.length ≤ 1028 then
      act (s.linkHeard hd typ b) else s.linkHeard hd typ b) = act (s.linkHeard hd typ b) :=
    if_pos ⟨by rwa [State.linkHeard_linkAddr], hlen⟩
  unfold State.linkTake
  cases hf : afind (4 * hd.src + linkClass typ) s.ylk.seqIn <;>
    simp only [h0, hup, hcrc, beq_iff_eq, hown, hf, hnew, Bool.true_eq_false, or_self, ↓reduceIte, ne_eq,
      not_true_eq_false, zero_ne_one, Bool.and_true, Bool.and_eq_true, Bool.not_eq_eq_eq_not, Bool.not_true,
      beq_eq_false_iff_ne, not_false_eq_true, decide_eq_true_eq, true_and]
  all_goals exact hact

end

/-! ## What the frames bring (R97, R334, R531, R532) -/

/-- The records of an intake frame, behind their count (R97, R521). -/
def intakeRecords (b : List Byte) : List (List Byte) :=
  (List.range (min (u32 b 0) ((b.length - 4) / 64))).map (fun i => slice b (4 + 64 * i) 64)

/-- A member's verdict on a cascade case is kept with the frame `frame` (R532). -/
def State.keepVerdict (src : Nat) (b : List Byte) (frame : Word) (u : State) (i : Nat) : State :=
  u.withYlk { u.ylk with
    verdicts := aput (256 * src + u8 b (1 + 2 * i)) (u8 b (2 + 2 * i), frame) u.ylk.verdicts }

/-- Keeping verdicts leaves the frame as it is, so that all are kept with the one in which they came. -/
theorem State.foldl_keepVerdict (src : Nat) (b : List Byte) (l : List Nat) (s : State) :
    l.foldl (fun u i => u.keepVerdict src b u.crs.frame i) s = l.foldl (State.keepVerdict src b s.crs.frame) s := by
  induction l generalizing s with
  | nil => rfl
  | cons i l ih => exact ih (s.keepVerdict src b s.crs.frame i)

section
variable {t : Nat} {hd : LinkHdr} {b : List Byte} {s : State} (hr : s.runs = true)
include hr

/-- The row of a frame type answers what its work makes of the frame that was heard. -/
theorem next_linkTake_of_hears {typ : Nat} (h : s.Hears hd typ b) {act : State → State} {u : State}
    (hu : act ((s.instant t).linkHeard hd typ b) = u) :
    (.next ((s.instant t).whileRunning (State.linkTake hd typ b b act)) : Host.Outcome State Fault Refusal) = .next u :=
  next_whileRunning t hr ((State.linkTake_of_hears (h.instant t) act).trans hu)

theorem exec_intakeRecordsRx (h : s.Hears hd 8 b) : exec (.intakeRecordsRx t hd b) s = .next (if s.forwards
    then (intakeRecords b).foldl (fun u r => u.takeForwarded r) ((s.instant t).linkHeard hd 8 b)
    else (s.instant t).linkHeard hd 8 b) :=
  next_linkTake_of_hears hr h (by simp only [State.linkHeard_forwards]; rfl)

theorem exec_forwardedPointsRx (h : s.Hears hd 9 b) : exec (.forwardedPointsRx t hd b) s = .next (if s.forwards
    then ((s.instant t).linkHeard hd 9 b).withPnt { s.pnt with
      fwd := s.pnt.fwd ++ (List.range (min (u8 b 1) ((b.length - 4) / 16))).map (fun i =>
        ((s.instant t).linkHeard hd 9 b).fwdRecord (s.rdn.partnerUnit.getD 0) hd.frame (slice b (4 + 16 * i) 16)) }
    else (s.instant t).linkHeard hd 9 b) := by
  have hfw : ((s.instant t).linkHeard hd 9 b).forwards = s.forwards := State.linkHeard_forwards _ _ _ _
  refine next_linkTake_of_hears hr h ?_
  cases hf : s.forwards with
  | false => exact if_pos (hfw.trans hf)
  | true =>
    refine (if_neg (by simp only [hfw, hf, Bool.true_eq_false, not_false_eq_true])).trans ?_
    rw [State.linkHeard_pnt, State.linkHeard_rdn]
    rfl

theorem exec_sharedPointBlockRx (h : s.Hears hd 0x0A b) {i : Nat} (hi : s.importOf hd.src (u8 b 0) = some i) :
    exec (.sharedPointBlockRx t hd b) s = .next (((s.instant t).linkHeard hd 0x0A b).takeShared i b) :=
  next_linkTake_of_hears hr h (by simp only [State.linkHeard_importOf, State.instant_importOf, hi])

theorem exec_caseVerdictsRx (h : s.Hears hd 5 b) : exec (.caseVerdictsRx t hd b) s = .next
    ((List.range (min (u8 b 0) ((b.length - 1) / 2))).foldl (State.keepVerdict hd.src b s.crs.frame)
      ((s.instant t).linkHeard hd 5 b)) :=
  next_linkTake_of_hears hr h ((State.foldl_keepVerdict _ _ _ _).trans (by rw [State.linkHeard_crs]; rfl))

end

/-- Settles O39: what hearing a frame leaves is its sender's newest SEQ and a copy passed on, neither of which the
payload's part reads; no verdict moves the frame with which the next is kept. -/
theorem linkFramesAreTaken : Obligations.LinkFramesAreTaken := by
  unfold Obligations.LinkFramesAreTaken
  intro t hd b s hr
  have htake {typ : Nat} (h : s.Hears hd typ b) :
      (s.instant t).linkTake hd typ b b id = (s.instant t).linkHeard hd typ b := State.linkTake_of_hears (h.instant t) id
  refine ⟨fun typ h => ?_, fun _ h ha => ?_, fun _ h ha => ?_, fun i h hi => ?_, fun h => ?_⟩
  · rw [htake h, State.linkHeard_seqIn, afind_aput_same]
  · rw [ha, htake h]
    exact exec_intakeRecordsRx hr h
  · rw [ha, htake h]
    exact exec_forwardedPointsRx hr h
  · rw [htake h]
    exact exec_sharedPointBlockRx hr h hi
  · rw [htake h]
    exact exec_caseVerdictsRx hr h

end Sys2Proof.Machine
end

section
/-! The statements of spec/05_gnss_baseband.md, and what the host interface and the snapshot leave unchanged. -/

namespace Sys2Proof.Machine
open Sys2Proof

/-! ## The frame statement of the host interface and the snapshot -/

/-- Settles O11: each row by the law of its operations that says what they can change. -/
theorem frameHostInterface : Obligations.FrameHostInterface := by
  unfold Obligations.FrameHostInterface
  exact ⟨fun _ _ _ _ _ h => .of_blank (by apply execDoorbellWrite_blank (h := h) <;> rfl),
    fun _ _ _ _ h => .of_blank (by apply execRingEnable_blank (h := h) <;> rfl),
    fun _ _ _ _ h => .of_blank (by apply execRingReset_blank (h := h) <;> rfl),
    fun _ _ _ _ h => .of_blank (by apply execRingResetDone_blank (h := h) <;> rfl),
    fun _ _ _ _ h => .of_blank (by apply execHostAccessFailure_blank (h := h) <;> rfl),
    fun _ _ _ _ _ _ h => .of_blank (by apply execHostAccessRetry_blank (h := h) <;> rfl),
    fun _ _ _ h => .of_blank (by apply execBulkPieceWrite_blank (h := h) <;> rfl),
    fun _ _ _ _ h => .of_blank (by apply execHostInterfaceReset_blank (h := h) <;> rfl),
    fun _ _ _ h => .of_blank (by apply execPcieLinkUp_blank (h := h) <;> rfl),
    fun _ _ _ _ h => .of_blank (by apply execImageVerifyDone_blank (h := h) <;> rfl),
    fun _ _ _ h => .of_blank (by apply execImageDiscardStop_blank (h := h) <;> rfl),
    fun _ _ _ h => .of_blank (by apply execSnapshotCaptureStart_blank (h := h) <;> rfl),
    fun _ _ _ _ h => .of_blank (by apply execSnapshotCaptureDone_blank (h := h) <;> rfl),
    fun _ _ _ _ h => .of_blank (by apply execMemTestDone_blank (h := h) <;> rfl),
    fun _ _ _ h => .of_blank (by apply execReadinessRegained_blank (h := h) <;> rfl),
    fun _ _ _ h => .of_blank (by apply execExchangeProposalDue_blank (h := h) <;> rfl)⟩

/-! ## Antenna supplies and spoofing (R105, R128) -/

theorem State.clearSpoofed_of_clean {a : Nat} {s : State} {f : Int} (hs : (s.gant a).spoofed = true)
    (hf : (s.gant a).cleanFrom = some f)
    (hd : f + 1000000000 * (s.effField .gnsLimits 12 8 : Int) ≤ s.frameTime) :
    s.clearSpoofed a = (s.putAnt a { s.gant a with spoofed := false, c7 := false }).raise 52 .notice 1 0 a [] := by
  simp only [State.clearSpoofed, hf, hs, hd, and_self, if_true]

section
variable {t a : Nat} {s : State} (hr : s.runs = true) (ha : a < 2)
include hr ha

theorem exec_antennaSupplyFault (ma : Nat) (hon : s.effField .gnsAnt (2 * a) 1 = 1) (hn : (s.gant a).retryAt = none) :
    exec (.antennaSupplyFault t a ma) s = .next ((s.instant t).findSupply a (supplyState ma)) := by
  have hs : s.supplied a = true := by simp [State.supplied, hon, hn]
  exact next_whileRunning t hr (if_pos ⟨Nat.le_of_lt_succ ha, hs⟩)

theorem exec_antennaSupplyRetry {r : Nat} (hx : (s.gant a).retryAt = some r) (hd : r ≤ (s.instant t).clk.now) :
    exec (.antennaSupplyRetry t a) s = .next ((s.instant t).putAnt a { s.gant a with retryAt := none }) := by
  have hx' : ((s.instant t).gant a).retryAt = some r := hx
  refine next_whileRunning t hr ?_
  rw [hx']
  exact if_pos ⟨Nat.le_of_lt_succ ha, hd⟩

theorem exec_spoofClear {f : Int} (hs : (s.gant a).spoofed = true) (hf : (s.gant a).cleanFrom = some f)
    (hd : f + 1000000000 * (s.effField .gnsLimits 12 8 : Int) ≤ (s.instant t).frameTime) : exec (.spoofClear t a) s = .next
      (((s.instant t).putAnt a { s.gant a with spoofed := false, c7 := false }).raise 52 .notice 1 0 a []) :=
  next_whileRunning t hr ((if_pos (Nat.le_of_lt_succ ha)).trans
    (State.clearSpoofed_of_clean (s := s.instant t) hs hf hd))

/-! ## Continuity (R112) -/

theorem exec_carrierContinuityLoss {c : Nat} (hc : c < 64) (hs : (s.chan a c).signal ≠ 0) :
    exec (.carrierContinuityLoss t a c) s = .next ((s.instant t).slipCarrier a c) :=
  have hin : a ≤ 1 ∧ c < 64 ∧ ((s.instant t).chan a c).signal ≠ 0 := ⟨Nat.le_of_lt_succ ha, hc, hs⟩
  next_whileRunning t hr (if_pos hin)

end

/-! ## The jamming indicator (R126) -/

section
variable (s : State) (st j : Nat)

/-- An event changes no part of the receiver. -/
@[simp] theorem State.raise_gns (src : Nat) (sev : Sev) (qual cause index : Nat) (vals : List Word) :
    (s.raise src sev qual cause index vals).gns = s.gns :=
  State.gns_of_blank (m := keepOnly [.gns]) (State.raise_blank rfl rfl src sev qual cause index vals s) rfl

theorem State.eff_of_blank {m : Part → Bool} {a b : State} (h : a.blank m = b.blank m) (h1 : m .cfg = false) :
    a.regs.eff = b.regs.eff := by
  simpa only [State.blank, h1, Bool.false_eq_true, if_false] using congrArg (fun s => s.regs.eff) h

@[simp] theorem State.setJam_effField (r : CfgReg) (i n : Nat) : (s.setJam st j).effField r i n = s.effField r i n := by
  have h : (s.setJam st j).regs.eff = s.regs.eff :=
    State.eff_of_blank (m := keepOnly [.cfg]) (State.setJam_blank rfl rfl rfl st j s) rfl
  simp only [State.effField, State.effReg, h]

@[simp] theorem State.setJam_jam : (s.setJam st j).gns.jam = vset s.gns.jam st j := by
  simp only [State.setJam, apply_ite State.gns, apply_ite Gns.jam, State.raise_gns, State.withGns_gns, ite_self]

end

/-! ## Notches (R125) -/

section
variable {s : State} {i : Nat}

theorem State.dropNotch_of_active (h : (s.notch i).active = true) : s.dropNotch i =
    ((s.withGns { s.gns with notches := vset s.gns.notches i { s.notch i with active := false, bin := 0 } }).markNotch
      (i / 4)).raise 51 .notice 1 0 i [] :=
  if_neg (by simp [h])

theorem State.dropNotch_of_inactive (h : (s.notch i).active = false) : s.dropNotch i = s := if_pos h

theorem State.dropNotch_jam (i : Nat) (s : State) : (s.dropNotch i).gns.jam = s.gns.jam := by
  cases h : (s.notch i).active with
  | false => rw [State.dropNotch_of_inactive h]
  | true =>
    rw [State.dropNotch_of_active h, State.raise_gns]
    rfl

/-- A dropped notch is inactive, and the others stay as they are. -/
theorem State.dropNotch_active (hi : i < 16) (j : Nat) :
    ((s.dropNotch i).notch j).active = (decide (i ≠ j) && (s.notch j).active) := by
  cases h : (s.notch i).active with
  | false =>
    rw [State.dropNotch_of_inactive h]
    by_cases hij : i = j
    · simp [← hij, h]
    · simp [hij]
  | true =>
    have hn : (s.dropNotch i).notch j = if i = j then { s.notch i with active := false, bin := 0 } else s.notch j := by
      rw [State.dropNotch_of_active h, State.notch, State.raise_gns]
      exact (vget_vset s.gns.notches i j _ _).trans (by simp only [hi, and_true]; rfl)
    by_cases hij : i = j
    · rw [hn, if_pos hij]
      simp [hij]
    · simp [hn, hij]

/-- The notches of a stream dropped in turn are inactive, and its others stay as they are. -/
theorem State.foldl_dropNotch_active {st : Nat} (hst : st < 4) (n : Nat) {l : List Nat} (hl : ∀ k ∈ l, k < 4)
    (s : State) :
    ((l.foldl (fun u k => u.dropNotch (4 * st + k)) s).notch (4 * st + n)).active =
      (decide (n ∉ l) && (s.notch (4 * st + n)).active) := by
  induction l generalizing s with
  | nil => rfl
  | cons k l ih =>
    obtain ⟨hk, hl⟩ := List.forall_mem_cons.mp hl
    rw [List.foldl_cons, ih hl, State.dropNotch_active (by omega)]
    by_cases hkn : k = n
    · simp [hkn]
    · simp [hkn, Ne.symm hkn]

theorem State.dropNotches_jam (l : List Nat) (s : State) : (s.dropNotches l).gns.jam = s.gns.jam :=
  State.foldl_keeps (fun u => u.gns.jam) _ l s fun u st =>
    State.foldl_keeps (fun u => u.gns.jam) _ _ u fun u n => u.dropNotch_jam (4 * st + n)

/-- A stream whose notches are dropped has no active notch. -/
theorem State.dropNotches_active {st n : Nat} (hst : st < 4) (hn : n < 4) (s : State) :
    ((s.dropNotches [st]).notch (4 * st + n)).active = false := by
  have hf := State.foldl_dropNotch_active hst n (l := List.range 4) (fun _ => List.mem_range.mp) s
  exact hf.trans (by simp [hn])

end

section
variable {t : Nat} {s : State} (hr : s.runs = true)
include hr

theorem exec_notchRelease {n : Nat} (hn : n < 16) (ha : (s.notch n).active = true)
    (hc : (s.notch n).cand + 100000000 ≤ (s.instant t).clk.now) :
    exec (.notchRelease t n) s = .next ((s.instant t).dropNotch n) :=
  next_whileRunning t hr (if_pos ⟨hn, ha, hc⟩)

/-- Each active notch of a stream whose bin is a candidate has been one up to the present instant. -/
def State.renewNotches (st : Nat) (cands : List Int) (s : State) : State :=
  (List.range 4).foldl (fun u n => if ((u.notch (4 * st + n)).active && cands.contains (u.notch (4 * st + n)).bin) = true
    then u.withGns { u.gns with
      notches := vset u.gns.notches (4 * st + n) { u.notch (4 * st + n) with cand := u.clk.now } } else u) s

variable {st : Nat} (hst : st < 4) (p : Int) (l : List Int)
include hst

theorem exec_notchAnalysis_of_off (h : s.effField .gnsNotch 0 1 = 0) : exec (.notchAnalysis t st p l) s = .next
    (((s.instant t).setJam st (s.jamLevel st p)).dropNotches [st]) :=
  have hoff : ((s.instant t).setJam st (s.jamLevel st p)).effField .gnsNotch 0 1 = 0 := by
    rw [State.setJam_effField]
    exact h
  next_whileRunning t hr ((if_neg (Nat.not_lt.mpr (Nat.le_of_lt_succ hst))).trans (if_pos hoff))

theorem exec_notchAnalysis_of_on (h : s.effField .gnsNotch 0 1 = 1) {a : State} {r : List Int × State}
    (ha : a = (s.instant t).setJam st (s.jamLevel st p)) (hc : r = a.notchCandidates st l) :
    exec (.notchAnalysis t st p l) s = .next
      ((r.1.take 4).foldl (fun u x => u.notchFor st (r.1.take 4) x) (r.2.renewNotches st r.1)) := by
  subst ha hc
  have hon : ((s.instant t).setJam st (s.jamLevel st p)).effField .gnsNotch 0 1 ≠ 0 := by
    rw [State.setJam_effField]
    exact h.trans_ne Nat.one_ne_zero
  exact next_whileRunning t hr ((if_neg (Nat.not_lt.mpr (Nat.le_of_lt_succ hst))).trans (if_neg hon))

end

/-! ## Corrections (R123) -/

theorem State.corrChange_of_lapsed {s : State} (hon : s.gns.corrOn = true)
    (hl : s.gns.stnPos = none ∨ s.corrCurrent s.devTime = false) :
    s.corrChange = (s.withGns { s.gns with corrOn := false }).raise 54 .notice 0 0 noIndex [] := by
  have hf : (s.gns.stnPos.isSome && s.corrCurrent s.devTime) = false := by
    rcases hl with h | h <;> simp [h]
  simp only [State.corrChange, hf, hon, Bool.false_eq_true, if_false]
  rfl

/-! ## Snapshot (R129) -/

section
variable {t : Nat} {s : State} (hr : s.runs = true)
include hr

theorem exec_snapshotCaptureStart (hs : s.gns.snap.state = 1)
    (hb : s.gns.snap.notBefore ≤ (s.clk.tickAt : Int) + s.clk.base) : exec (.snapshotCaptureStart t) s = .next
      ((s.instant t).withGns { s.gns with snap := { s.gns.snap with
        state := 2, startNow := s.clk.tickAt, start := (s.clk.tickAt : Int) + s.clk.base, jam := s.gns.jam.toList
        act := s.notchAct, chg := 0 } }) :=
  next_whileRunning t hr (if_pos ⟨hs, hb⟩)

theorem exec_snapshotCaptureDone {b d : List Byte} {w : Waiting} (hs : s.gns.snap.state = 2)
    (hd : s.gns.snap.startNow + 1000000 * s.gns.snap.dur ≤ (s.instant t).clk.now) (hw : s.gns.snap.cmd = some w)
    (hb : d = padTo (((List.range 4).filter (tbit s.gns.snap.streams)).length * s.gns.snap.dur * 10240) b) :
    exec (.snapshotCaptureDone t b) s = .next ((((s.instant t).withHrg { s.hrg with
        xfers := s.hrg.xfers.map (fun f => if f.kind = 1 ∧ f.xfer = s.gns.snap.xfer
          then { f with rest := s.gns.snap.header d ++ d } else f) }).withGns { s.gns with
            snap := { s.gns.snap with state := 3, cmd := none } }).done w s.gns.snap.xfer.toNat) := by
  subst hb
  have hw' : (s.instant t).gns.snap.cmd = some w := hw
  have hopen : ¬((s.instant t).gns.snap.state ≠ 2 ∨
      (s.instant t).clk.now < (s.instant t).gns.snap.startNow + 1000000 * (s.instant t).gns.snap.dur) :=
    not_or.mpr ⟨not_not.mpr hs, Nat.not_lt.mpr hd⟩
  refine next_whileRunning t hr ((if_neg hopen).trans ?_)
  rw [hw']
  rfl

end

/-- Settles O40: each row runs the one branch of its work that the supply, the channel, the notch setting and the state
of the capture name; no event changes the receiver, and the jamming indicator no configuration. -/
theorem receiverRows : Obligations.ReceiverRows := by
  unfold Obligations.ReceiverRows
  refine fun t s hr => ⟨?_, fun a r ha => exec_antennaSupplyRetry hr ha, fun a c ha => exec_carrierContinuityLoss hr ha,
    fun l => next_whileRunning t hr rfl, ?_, fun n hn ha hc => ?_, fun hon hl => ?_, fun a f ha => exec_spoofClear hr ha,
    exec_snapshotCaptureStart hr, fun b w d => exec_snapshotCaptureDone hr⟩
  · rintro a ma _ _ ha hon hn rfl rfl
    exact exec_antennaSupplyFault hr ha ma hon hn
  · rintro st p l a hst ha
    refine ⟨fun hoff => ⟨_, exec_notchAnalysis_of_off hr hst p l hoff, ha ▸ rfl, ?_, fun n hn => ?_⟩, ?_⟩
    · rw [State.dropNotches_jam, State.setJam_jam, vget_vset, if_pos ⟨rfl, hst⟩]
    · exact State.dropNotches_active hst hn _
    · rintro r _ hon hc rfl
      exact exec_notchAnalysis_of_on hr hst p l hon ha hc
  · exact (exec_notchRelease hr hn ha hc).trans (congrArg _ (State.dropNotch_of_active (s := s.instant t) ha))
  · exact next_whileRunning t hr (State.corrChange_of_lapsed hon hl)

end Sys2Proof.Machine
end

section
/-! The statements of spec/06_position_estimation.md: what the rows of silence, admission and loss change. -/

namespace Sys2Proof.Machine
open Sys2Proof

/-! ## What estimation keeps of the references and classes, read after it is written -/

section
variable (s : State) (t r st cause c j : Nat) (x : RefSt) (k : ClsSt)

@[simp] theorem State.raise_est (src : Nat) (sev : Sev) (qual cause index : Nat) (vals : List Word) :
    (s.raise src sev qual cause index vals).est = s.est :=
  State.est_of_blank (m := keepOnly [.est]) (State.raise_blank rfl rfl src sev qual cause index vals s) rfl

@[simp] theorem State.raise_refSt (src : Nat) (sev : Sev) (qual cause index : Nat) (vals : List Word) :
    (s.raise src sev qual cause index vals).refSt j = s.refSt j :=
  congrArg (fun e : Est => vget e.refs j RefSt.reset) (s.raise_est src sev qual cause index vals)

@[simp] theorem State.raise_cls (src : Nat) (sev : Sev) (qual cause index : Nat) (vals : List Word) :
    (s.raise src sev qual cause index vals).cls j = s.cls j :=
  congrArg (fun e : Est => vget e.classes j ClsSt.reset) (s.raise_est src sev qual cause index vals)

@[simp] theorem State.putCls_refSt : (s.putCls c k).refSt j = s.refSt j := rfl

theorem State.putRef_refSt : (s.putRef r x).refSt j = if r = j ∧ r < 16 then x else s.refSt j :=
  vget_vset s.est.refs r j x RefSt.reset

theorem State.putCls_cls : (s.putCls c k).cls j = if c = j ∧ c < 2 then k else s.cls j :=
  vget_vset s.est.classes c j k ClsSt.reset

@[simp] theorem State.instant_refSt : (s.instant t).refSt r = s.refSt r := rfl
@[simp] theorem State.instant_refDesc : (s.instant t).refDesc r = s.refDesc r := rfl
@[simp] theorem State.instant_cls : (s.instant t).cls c = s.cls c := rfl
@[simp] theorem State.instant_bootstraps : (s.instant t).bootstraps c = s.bootstraps c := rfl
@[simp] theorem State.instant_refSilent (d : List Byte) : (s.instant t).refSilent d = s.refSilent d := rfl

/-- The descriptor found for a slot names that slot. -/
theorem rfRef_of_refDesc {s : State} {ref : Nat} {d : List Byte} (hd : s.refDesc ref = some d) : rfRef d = ref :=
  eq_of_beq (List.find?_some (p := fun d => rfRef d == ref) hd)

/-! ## The standing of a reference (R159) -/

/-- What a reference stands at: STATE, CAUSE and SINCE. Its counts are no part of it. -/
def State.standing : Nat × Nat × Word := ((s.refSt j).state, (s.refSt j).cause, (s.refSt j).since)

@[simp] theorem State.raise_standing (src : Nat) (sev : Sev) (qual cause index : Nat) (vals : List Word) :
    (s.raise src sev qual cause index vals).standing j = s.standing j := by
  simp only [State.standing, State.raise_refSt]

@[simp] theorem State.putCls_standing : (s.putCls c k).standing j = s.standing j := rfl

theorem State.standing_of_refSt {s u : State} {j : Nat} (h : u.refSt j = s.refSt j) : u.standing j = s.standing j := by
  simp only [State.standing, h]

/-- Replacing what is kept of a reference by the same state, cause and frame of entry changes no standing. -/
theorem State.putRef_standing (h : (x.state, x.cause, x.since) = s.standing r) :
    (s.putRef r x).standing j = s.standing j := by
  by_cases hj : r = j ∧ r < 16
  · obtain ⟨rfl, hr⟩ := hj
    rw [← h, State.standing, State.putRef_refSt, if_pos ⟨rfl, hr⟩]
  · exact State.standing_of_refSt ((s.putRef_refSt r j x).trans (if_neg hj))

/-- The references of a list lose their count towards admission and nothing else. -/
theorem State.foldl_clearReadmit_standing (l : List Nat) :
    (l.foldl (fun s r => s.putRef r { s.refSt r with readmit := 0 }) s).standing j = s.standing j :=
  State.foldl_keeps (fun s => s.standing j) _ l s fun s r => s.putRef_standing r j _ rfl

theorem State.setRef_standing_same (hr : r < 16) : (s.setRef r st cause).standing r = (st, cause, s.crs.frame) := by
  rw [State.setRef, State.raise_standing, State.standing, apply_ite (fun u : State => u.refSt r)]
  simp [State.refSt, State.putRef, vget_vset, hr]

theorem State.setRef_standing_of_ne (h : r ≠ j) : (s.setRef r st cause).standing j = s.standing j := by
  rw [State.setRef, State.raise_standing]
  refine State.standing_of_refSt ?_
  rw [apply_ite (fun u : State => u.refSt j)]
  simp [State.refSt, State.putRef, vget_vset, h]

end

/-! ## Silence (R159, R160) -/

section
variable {s : State} {r : Nat}

/-- A reference that is not DISPUTED keeps its standing when its disputes end: only the other of a pair moves. -/
theorem State.disputeSilent_standing (c : Nat) {v : Nat × Nat × Word} (hv : s.standing r = v) (h : v.1 ≠ 3) :
    (s.disputeSilent c r).standing r = v := by
  refine List.foldlRecOn (motive := fun u : State => u.standing r = v) _ _ hv fun u hu p _ => ?_
  have he : (u.endDispute c p).standing r = v := by
    rw [State.endDispute, State.raise_standing, State.putCls_standing, hu]
  by_cases ho : ((u.endDispute c p).refSt (p.other r)).state = 3
  · have hne : p.other r ≠ r := fun hr => h ((congrArg Prod.fst he).symm.trans (hr ▸ ho))
    rw [if_pos ho, State.setRef_standing_of_ne _ _ _ _ _ hne, he]
  · rw [if_neg ho, he]

/-- A reference that is enabled and not yet SILENT becomes SILENT with its entry. -/
theorem State.silenceRef_standing {d : List Byte} (hr : rfRef d < 16) (hq : s.refSilent d = true)
    (h0 : (s.refSt (rfRef d)).state ≠ 0) (h4 : (s.refSt (rfRef d)).state ≠ 4) :
    (s.silenceRef d).standing (rfRef d) = (4, 3, s.crs.frame) := by
  have hset := s.setRef_standing_same (rfRef d) 4 3 hr
  have hput (x : RefSt) (hx : (x.state, x.cause, x.since) = (s.setRef (rfRef d) 4 3).standing (rfRef d)) :
      ((s.setRef (rfRef d) 4 3).putRef (rfRef d) x).standing (rfRef d) = (4, 3, s.crs.frame) :=
    (State.putRef_standing _ _ _ x hx).trans hset
  simp only [State.silenceRef, if_neg h0, if_neg h4, hq, true_or, if_true]
  split
  · exact State.disputeSilent_standing _ (hput _ rfl) (by simp)
  · exact hput _ rfl

end

/-! ## Coasting and loss (R168, R169) -/

section
variable (s : State) (c j : Nat)

theorem State.endBoot_standing : (s.endBoot c).standing j = s.standing j := by
  rw [State.endBoot, apply_ite (fun u : State => u.standing j), State.putCls_standing, State.foldl_clearReadmit_standing,
    ite_self]

theorem State.loseClass_standing : (s.loseClass c).standing j = s.standing j := by
  rw [State.loseClass, apply_ite (fun u : State => u.standing j), State.raise_standing, State.putCls_standing,
    State.foldl_clearReadmit_standing, ite_self]

/-- Whether a class coasts, is lost or has a reference again changes no reference's standing. -/
theorem State.coastClass_standing : (s.coastClass c).standing j = s.standing j := by
  simp only [State.coastClass, apply_ite (fun u : State => u.standing j), State.loseClass_standing, State.raise_standing,
    State.putCls_standing, State.endBoot_standing, ite_self]

/-- A coasting class is lost after DR_TIME, and returns to bootstrap. -/
theorem State.loseClass_cls {s : State} {c : Nat} (hc : c < 2) (hk : (s.cls c).coasting = true)
    (hl : (s.cls c).lost = false) (hd : 1000000000 * u16 (s.sect 2) 0x4E ≤ s.clk.now - (s.cls c).coastAt) :
    (s.loseClass c).cls c = { s.cls c with lost := true, boot := true } := by
  rw [State.loseClass, if_pos ⟨hk, hl, .inl (decide_eq_true hd)⟩, State.raise_cls, State.putCls_cls, if_pos ⟨rfl, hc⟩]

end

/-! ## Admission in bootstrap (R158) -/

section
variable {s : State} {r c : Nat}

/-- A slot that an admission names is ADMITTED afterwards, and so is one that was ADMITTED before. -/
theorem State.foldl_admit_state (hr : r < 16) (l : List RefWork) (s : State)
    (h : (s.refSt r).state = 2 ∨ ∃ w ∈ l, w.ref = r) :
    ((l.foldl (fun s w => s.setRef w.ref 2 0) s).refSt r).state = 2 := by
  induction l generalizing s with
  | nil => simpa using h
  | cons w l ih =>
    refine ih (s.setRef w.ref 2 0) ?_
    by_cases hw : w.ref = r
    · exact .inl (hw ▸ congrArg Prod.fst (s.setRef_standing_same w.ref 2 0 (hw ▸ hr)))
    · have hkeep : ((s.setRef w.ref 2 0).refSt r).state = (s.refSt r).state :=
        congrArg Prod.fst (s.setRef_standing_of_ne _ _ _ _ hw)
      rw [hkeep]
      simpa [hw] using h

/-- A candidate whose count has reached INIT_PERIOD is ADMITTED. -/
theorem State.bootClass_state {w : RefWork} (hr : w.ref < 16) (hw : w ∈ s.candidates c)
    (hn : u16 (s.sect 2) 0x4C ≤ (s.refSt w.ref).readmit) : ((s.bootClass c).refSt w.ref).state = 2 := by
  have hready : w ∈ (s.candidates c).filter fun w => decide (u16 (s.sect 2) 0x4C ≤ (s.refSt w.ref).readmit) :=
    List.mem_filter.mpr ⟨hw, decide_eq_true hn⟩
  rw [State.bootClass, if_neg (by simpa using List.ne_nil_of_mem hready)]
  exact State.foldl_admit_state hr _ _ (.inr ⟨w, hready, rfl⟩)

end

/-! ## The rows -/

section
variable (t : Nat) {s : State} (hr : s.runs = true) {ref : Nat} {d : List Byte}
include hr

theorem exec_refSilent (hd : s.refDesc ref = some d) (hf : s.est.fresh = true) :
    exec (.refSilent t ref) s = .next ((s.instant t).silenceRef d) :=
  next_whileRunning t hr (by simp only [State.instant_refDesc, hd, State.instant_est, hf, if_true])

theorem exec_refReadmissionComplete (hd : s.refDesc ref = some d) (h1 : (s.refSt ref).state = 1)
    (hb : s.bootstraps (rfClass d) = false) (hn : u16 d 0x14 ≤ (s.refSt ref).readmit) :
    exec (.refReadmissionComplete t ref) s = .next (((s.instant t).setRef ref 2 0).coastClass (rfClass d)) :=
  next_whileRunning t hr (by
    simp only [State.instant_refDesc, hd, State.instant_refSt, State.instant_bootstraps, h1, hb, hn, and_self, if_true])

theorem exec_bootstrapAdmission (hd : s.refDesc ref = some d) (hb : s.bootstraps (rfClass d) = true) :
    exec (.bootstrapAdmission t ref) s = .next (((s.instant t).bootClass (rfClass d)).coastClass (rfClass d)) :=
  next_whileRunning t hr (by simp only [State.instant_refDesc, hd, State.instant_bootstraps, hb, if_true])

theorem exec_classCoastTimeout {c : Nat} (hc : c < 2) :
    exec (.classCoastTimeout t c) s = .next ((s.instant t).loseClass c) :=
  next_whileRunning t hr (if_pos hc)

end

/-- Settles O26: a row of a reference sets the standing that its rule names, and neither the end of a dispute, nor the end
of a bootstrap, nor the coasting of its class changes that standing again. -/
theorem referenceRowsChangeStates : Obligations.ReferenceRowsChangeStates := by
  unfold Obligations.ReferenceRowsChangeStates
  refine fun t s hr => ⟨fun ref d hlt hd hf hq h0 h4 => ⟨_, exec_refSilent t hr hd hf, ?_⟩,
    fun ref d hlt hd h1 hb hn => ⟨_, exec_refReadmissionComplete t hr hd h1 hb hn, ?_⟩, ?_,
    fun c hc hk hl hn => ⟨_, exec_classCoastTimeout t hr hc, ?_⟩⟩
  · obtain rfl := rfRef_of_refDesc hd
    have h := State.silenceRef_standing (s := s.instant t) hlt hq h0 h4
    exact ⟨congrArg Prod.fst h, congrArg (·.2.1) h⟩
  · have h := (State.coastClass_standing _ (rfClass d) ref).trans ((s.instant t).setRef_standing_same ref 2 0 hlt)
    exact ⟨congrArg Prod.fst h, congrArg (·.2.2) h⟩
  · rintro _ d w hlt hd hb hw rfl hn
    exact ⟨_, exec_bootstrapAdmission t hr hd hb, (congrArg Prod.fst (State.coastClass_standing _ _ w.ref)).trans
      (State.bootClass_state (s := s.instant t) hlt hw hn)⟩
  · have h := State.loseClass_cls (s := s.instant t) hc hk hl hn
    exact ⟨congrArg ClsSt.lost h, congrArg ClsSt.boot h⟩

end Sys2Proof.Machine
end

section
/-! The statements of spec/07_control_modes.md: the rows of the control path between its items, with readiness and the
supply feeds (spec/13). -/

namespace Sys2Proof.Machine
open Sys2Proof

/-! ## Reading the control path at an instant -/

section
variable (s : State) (t : Nat)

@[simp] theorem State.instant_alloc : (s.instant t).alloc = s.alloc := rfl
@[simp] theorem State.instant_rdn : (s.instant t).rdn = s.rdn := rfl
@[simp] theorem State.instant_tableRuns : (s.instant t).tableRuns = s.tableRuns := rfl
@[simp] theorem State.instant_busRecs : (s.instant t).busRecs = s.busRecs := rfl
@[simp] theorem State.instant_busSt (b : Nat) : (s.instant t).busSt b = s.busSt b := rfl
@[simp] theorem State.instant_viewPoint (n : Nat) : (s.instant t).viewPoint n = s.viewPoint n := rfl
@[simp] theorem State.instant_pow16 (o : Nat) : (s.instant t).pow16 o = s.pow16 o := rfl
@[simp] theorem State.instant_readyFrames : (s.instant t).readyFrames = s.readyFrames := rfl

end

section
variable {s : State}

/-! ## The joystick (R184) -/

/-- A lost joystick gives its alarm unless the loss is known in the mode, where the check changes nothing. -/
theorem State.checkJoy_of_gone (hm : s.ctl.mode = 1 ∨ s.ctl.mode = 2) (hg : s.joyGone = true) :
    s.checkJoy = if s.ctl.joyLost = true ∧ s.ctl.joyEntry = false then s
      else (s.withCtl { s.ctl with joyLost := true, joyEntry := false }).raise 35 .alarm 0 0 noIndex [] := by
  have hmode : ¬ (s.ctl.mode ≠ 1 ∧ s.ctl.mode ≠ 2) := by omega
  simp only [State.checkJoy, if_neg hmode, hg, if_true]
  split
  next hk => simp only [← hk.1, ← hk.2, State.withCtl]
  next => rfl

/-! ## The power points (R215) -/

/-- A bus record that the lookup by bus number finds carries that number. -/
theorem u8_of_find?_busRecs {bus : Nat} {r : List Byte} (h : s.busRecs.find? (fun r => u8 r 0 == bus) = some r) :
    u8 r 0 = bus :=
  eq_of_beq (List.find?_some (p := fun r => u8 r 0 == bus) h)

/-- A bus whose point has become unusable turns to its fallback: the lesser of the last good value and the fallback value,
or the fallback value alone, less the reserve. -/
theorem State.takeBus_of_unusable {r : List Byte} (hf : (s.busSt (u8 r 0)).fallback = false)
    (hp : (s.viewPoint (u32 r 4)).good = false ∨ s.pointStale (s.viewPoint (u32 r 4)) (s.pow16 0x14) = true) :
    s.takeBus r = (s.withAlloc { s.alloc with buses := vset s.alloc.buses (u8 r 0) { s.busSt (u8 r 0) with
      fallback := true
      avail := (s.busSt (u8 r 0)).good.elim (u32 r 0x10 : Int) (min · (u32 r 0x10)) - u32 r 0x0C } }).raise
        39 .notice 0 2 (u8 r 0) [] := by
  have hok : ((s.viewPoint (u32 r 4)).good && !s.pointStale (s.viewPoint (u32 r 4)) (s.pow16 0x14)) = false := by
    rcases hp with h | h <;> simp [h]
  simp only [State.takeBus, hok, hf, Bool.not_false, Bool.false_eq_true, if_false]
  cases (s.busSt (u8 r 0)).good <;> rfl

/-! ## Readiness (R52, R324) -/

/-- Condition 4 is met again once the frames of a resume are counted. -/
theorem State.checkResume_of_counted {n : Nat} (h : s.rdn.resume = some n) (hn : s.readyFrames ≤ n) :
    s.checkResume = s.withRdn { s.rdn with resumed := true } := by
  simp only [State.checkResume, h, hn, if_true]

/-- Readiness noted with the latch clear sets the latch, ends the resume and clears streaks and GAVE_UP. -/
theorem State.noteReady_of_latch_clear (hr : s.readyToClaim = true) (hl : s.rdn.claimLatch = false) :
    s.noteReady = (s.withRdn { s.rdn with
      claimLatch := true, relgen := false, resume := none, resumed := false, wasReady := true }).withCrs
        { s.crs with streak := Vector.replicate 8 0, gaveUp := false } := by
  simp only [State.noteReady, hr, hl, Bool.and_false, Bool.not_false, Bool.and_self, if_true]
  rfl

end

/-! ## The rows of frames that run -/

section
variable (t : Nat) {s : State} (hr : s.runs = true)
include hr

theorem exec_joystickLost (hm : s.ctl.mode = 1 ∨ s.ctl.mode = 2) (hg : (s.instant t).joyGone = true) :
    exec (.joystickLost t) s = .next (if s.ctl.joyLost = true ∧ s.ctl.joyEntry = false then s.instant t
      else ((s.instant t).withCtl { s.ctl with joyLost := true, joyEntry := false }).raise 35 .alarm 0 0 noIndex []) :=
  next_whileRunning t hr ((if_pos hg).trans (State.checkJoy_of_gone (s := s.instant t) hm hg))

theorem exec_gainAutoEvaluation (ht : s.tableRuns = true) :
    exec (.gainAutoEvaluation t) s = .next (s.instant t).gainOnce :=
  next_whileRunning t hr (if_pos ht)

theorem exec_currentReport (ht : s.tableRuns = true) :
    exec (.currentReport t) s = .next ((s.instant t).currentOnce (s.instant t).estView) :=
  next_whileRunning t hr (if_pos ht)

theorem exec_availPointStale {bus : Nat} {r : List Byte} (hb : s.busRecs.find? (fun r => u8 r 0 == bus) = some r)
    (ha : s.alloc.powerAt ≠ some s.crs.frame) (hf : (s.busSt bus).fallback = false)
    (hp : (s.viewPoint (u32 r 4)).good = false ∨
      (s.instant t).pointStale (s.viewPoint (u32 r 4)) (s.pow16 0x14) = true) :
    exec (.availPointStale t bus) s = .next ((s.instant t).takeBus r) :=
  next_whileRunning t hr (by
    simp only [State.instant_busRecs, hb]
    exact if_pos ⟨ha, hf, hp⟩)

theorem exec_readinessRegained (hq : (s.instant t).checkResume.rdn.resumed = true)
    (hg : (s.instant t).checkResume.crs.gaveUp = true) (hc : (s.instant t).checkResume.readyToClaim = true) :
    exec (.readinessRegained t) s = .next (s.instant t).checkResume.noteReady :=
  next_whileRunning t hr (if_pos ⟨hq, hg, hc⟩)

end

/-! ## The supply feeds (R322) -/

section
variable (t : Nat) {s : State} {feed mv : Nat}

/-- A voltage below 2.7 V or above 5.5 V is out of range. -/
theorem feedInRange_eq_false (h : mv < 2700 ∨ 5500 < mv) : feedInRange mv = false :=
  decide_eq_false (by omega)

theorem feedInRange_eq_true (h1 : 2700 ≤ mv) (h2 : mv ≤ 5500) : feedInRange mv = true :=
  decide_eq_true ⟨h1, h2⟩

theorem State.setFeed_zero (s : State) (mv : Nat) : s.setFeed 0 mv =
    (s.withPwr { s.pwr with vina := mv }).withRdn { s.rdn with feedA := feedInRange mv } := rfl

theorem State.setFeed_one (s : State) (mv : Nat) : s.setFeed 1 mv =
    (s.withPwr { s.pwr with vinb := mv }).withRdn { s.rdn with feedB := feedInRange mv } := rfl

variable (hr : s.pwr.inReset = false) (hf : feed ≤ 1)
include hr hf

theorem exec_feedOutOfRange (hv : feedInRange mv = false) : exec (.feedOutOfRange t feed mv) s =
    .next (if (if feed = 0 then s.rdn.feedA else s.rdn.feedB) = true
      then ((s.instant t).setFeed feed mv).raise 85 .notice 0 0 feed [] else (s.instant t).setFeed feed mv) :=
  congrArg Host.Outcome.next (if_neg (by simp [hr, hf, hv]))

theorem exec_feedRestored (hv : feedInRange mv = true) : exec (.feedRestored t feed mv) s =
    .next (if (if feed = 0 then s.rdn.feedA else s.rdn.feedB) = true
      then (s.instant t).setFeed feed mv else ((s.instant t).setFeed feed mv).raise 85 .notice 1 0 feed []) :=
  congrArg Host.Outcome.next (if_neg (by simp [hr, hf, hv]))

end

/-- Settles O27: each row runs the one branch of its work that the mode, the table, the power point, the resume or the
feed's voltage leaves open. -/
theorem controlRowsAct : Obligations.ControlRowsAct := by
  unfold Obligations.ControlRowsAct
  refine fun t s => ⟨exec_joystickLost t, exec_gainAutoEvaluation t, ?_, ?_, ?_, fun mv hr hv => ?_,
    fun mv hr h1 h2 => ?_⟩
  · rintro hr ht _ rfl
    exact exec_currentReport t hr ht
  · rintro bus r hr hb hf ha hp _ rfl
    obtain rfl := u8_of_find?_busRecs hb
    rw [exec_availPointStale t hr hb ha hf hp, State.takeBus_of_unusable (s := s.instant t) hf hp, State.instant_busSt]
    cases (s.busSt (u8 r 0)).good <;> rfl
  · rintro n _ hr hn hle hg hl rfl hc
    have hq : (s.instant t).checkResume = (s.instant t).withRdn { s.rdn with resumed := true } :=
      State.checkResume_of_counted (s := s.instant t) hn hle
    rw [exec_readinessRegained t hr (hq ▸ rfl) (hq ▸ hg) (hq ▸ hc), hq, State.noteReady_of_latch_clear hc hl]
    rfl
  · have hv := feedInRange_eq_false hv
    constructor <;> rintro _ rfl
    · rw [exec_feedOutOfRange t hr zero_le_one hv, State.setFeed_zero, hv]
      rfl
    · rw [exec_feedOutOfRange t hr le_rfl hv, State.setFeed_one, hv]
      rfl
  · have hv := feedInRange_eq_true h1 h2
    constructor <;> rintro _ rfl
    · rw [exec_feedRestored t hr zero_le_one hv, State.setFeed_zero, hv]
      rfl
    · rw [exec_feedRestored t hr le_rfl hv, State.setFeed_one, hv]
      rfl

end Sys2Proof.Machine
end

section
/-! The statements of spec/09_voussoir_solver_array.md: the rows of the array between submission and release, the tests
and the comparators of its lanes, and the ballast faults (spec/11). -/

namespace Sys2Proof.Machine
open Sys2Proof

/-! ## What the operations of the array leave of it -/

section
variable (s : State) (t : Nat) (p : Problem)

@[simp] theorem State.instant_vsl : (s.instant t).vsl = s.vsl := rfl
@[simp] theorem State.instant_lane (l : Nat) : (s.instant t).lane l = s.lane l := rfl
@[simp] theorem State.problemOf_template (d : List Byte) : (s.problemOf d).template = u16 d 0 := rfl

@[simp] theorem State.raise_vsl (src : Nat) (sev : Sev) (qual cause index : Nat) (vals : List Word) :
    (s.raise src sev qual cause index vals).vsl = s.vsl :=
  State.vsl_of_blank (m := keepOnly [.vsl]) (State.raise_blank rfl rfl src sev qual cause index vals s) rfl

@[simp] theorem State.countN_vsl (c : Ctr) (n : Nat) : (s.countN c n).vsl = s.vsl :=
  State.vsl_of_blank (m := keepOnly [.vsl]) (State.countN_blank rfl rfl c n s) rfl

@[simp] theorem State.count_vsl (c : Ctr) : (s.count c).vsl = s.vsl := s.countN_vsl c 1

@[simp] theorem State.reach_vsl (owner b n : Nat) : (s.reach owner b n).2.vsl = s.vsl :=
  State.vsl_of_blank (m := keepOnly [.vsl]) (State.reach_blank rfl rfl rfl owner b n s) rfl

@[simp] theorem State.comparatorMismatch_vsl (unit : Nat) : (s.comparatorMismatch unit).vsl = s.vsl :=
  State.vsl_of_blank (m := keepOnly [.vsl]) (State.comparatorMismatch_blank rfl rfl rfl rfl rfl rfl unit s) rfl

/-- Counting, with its overflow event, moves no time that a deadline is read against. -/
theorem State.countN_deadlinePassed (c : Ctr) (n : Nat) : (s.countN c n).deadlinePassed p = s.deadlinePassed p := by
  have hcrs : (s.countN c n).crs = s.crs :=
    State.crs_of_blank (m := keepOnly [.crs, .tick]) (State.countN_blank rfl rfl c n s) rfl rfl
  have hclk : (s.countN c n).clk = s.clk :=
    State.clk_of_blank (m := keepOnly [.clk, .tick]) (State.countN_blank rfl rfl c n s) rfl rfl
  simp only [State.deadlinePassed, hcrs, hclk]

theorem State.setLane_lane (l k : Nat) (x : Lane) : (s.setLane l x).lane k = if l = k ∧ l < 64 then x else s.lane k :=
  vget_vset s.vsl.lanes l k x Lane.reset

/-- The end of a problem is noted in the release count and in the ends without a result block, and nowhere else in the
array. -/
theorem State.problemEnds_vsl (o : Nat) : (s.problemEnds p o).vsl = { s.vsl with
    released := if o ≤ 1 then s.vsl.released + 1 else s.vsl.released
    ends := if 9 ≤ o then aput p.key (p.frame, o) s.vsl.ends else s.vsl.ends } := by
  simp only [State.problemEnds, apply_ite State.vsl, State.raise_vsl, ite_self]
  cases outcomeCtr o <;> split_ifs <;> simp [Problem.key]

@[simp] theorem State.problemEnds_queue (o : Nat) : (s.problemEnds p o).vsl.queue = s.vsl.queue := by
  rw [State.problemEnds_vsl]

@[simp] theorem State.problemEnds_feed (o : Nat) : (s.problemEnds p o).vsl.feed = s.vsl.feed := by
  rw [State.problemEnds_vsl]

/-- A result block is noted with its key, whether or not the access to its bytes takes place. -/
theorem State.writeResult_vsl (r : ArrayResult) :
    (s.writeResult p r).vsl = { s.vsl with results := aput p.key r s.vsl.results } := by
  unfold State.writeResult
  cases p.resultAddr with
  | none => rfl
  | some a => simp [apply_ite State.vsl]

/-- A descriptor that is turned down leaves the queue as it was. -/
theorem State.rejectProblem_queue : (s.rejectProblem p).vsl.queue = s.vsl.queue := by
  simp only [State.rejectProblem, State.problemEnds_queue, State.writeHeader, State.writeResult_vsl]

/-- An abort leaves the queue and the feed list empty: the ends of their problems put nothing back. -/
theorem State.abortArray_queues : s.abortArray.vsl.queue = [] ∧ s.abortArray.vsl.feed = [] :=
  ⟨State.foldl_keeps (·.vsl.queue) _ _ _ fun u p => u.problemEnds_queue p 12,
    State.foldl_keeps (·.vsl.feed) _ _ _ fun u p => u.problemEnds_feed p 12⟩

end

/-! ## Entry into the queue (R229, R230, R242) -/

section
variable {s : State} {p : Problem} (hs : s.vsl.stopped = false)
include hs

theorem State.submit_of_room (hq : s.vsl.queue.length < 192) : s.submit p = s.withVsl
    { s.vsl with queue := queueAt p s.vsl.queue, peak := max s.vsl.peak (queueAt p s.vsl.queue).length } := by
  simp only [State.submit, hs, hq, Bool.false_eq_true, if_false, if_true]

/-- In a full queue a control or priority problem displaces the last analysis problem. -/
theorem State.submit_displaces (hq : 192 ≤ s.vsl.queue.length) (hp : p.priority = true ∨ p.analysis = false)
    {v : Problem} {r : List Problem} (hv : takeLast (fun x => x.analysis && !x.priority) s.vsl.queue = some (v, r)) :
    s.submit p = (s.withVsl { s.vsl with queue := queueAt p r }).problemEnds v 10 := by
  simp only [State.submit, hs, Nat.not_lt.mpr hq, hp, hv, Bool.false_eq_true, if_false, if_true]

/-- A full queue turns away a problem of the analysis class, and any problem where it holds none of that class. -/
theorem State.submit_turnsAway (hq : 192 ≤ s.vsl.queue.length)
    (hv : p.priority = true ∨ p.analysis = false → takeLast (fun x => x.analysis && !x.priority) s.vsl.queue = none) :
    s.submit p = s.problemEnds p 11 := by
  simp only [State.submit, hs, Nat.not_lt.mpr hq, Bool.false_eq_true, if_false]
  split
  next hp => simp only [hv hp]
  next => rfl

theorem State.enterQueue_of_no_template (ht : imgTemplate s.image p.template = none) :
    s.enterQueue p = s.rejectProblem p := by
  simp only [State.enterQueue, hs, ht, Bool.false_eq_true, if_false]

theorem State.enterQueue_of_template {tm : List Byte} (ht : imgTemplate s.image p.template = some tm) :
    s.enterQueue p = if s.problemGood p tm = true then s.submit (s.copyTemplate p tm) else s.rejectProblem p := by
  simp only [State.enterQueue, hs, ht, Bool.false_eq_true, if_false]

end

/-! ## The feed list (R268) -/

section
variable {s : State} {p : Problem} {r : List Problem} (hf : s.vsl.feed = p :: r)
include hf

theorem State.feedMove_of_room (hq : s.vsl.queue.length < 128) :
    s.feedMove = (s.withVsl { s.vsl with feed := r }).enterQueue p := by
  simp only [State.feedMove, hf, hq, if_true]

theorem State.feedMove_of_full (hq : 128 ≤ s.vsl.queue.length) : s.feedMove = s := by
  simp only [State.feedMove, hf, Nat.not_lt.mpr hq, if_false]

end

/-! ## Taking the head of the queue (R229, R231, R249) -/

section
variable {s : State} {p : Problem} {r : List Problem} (hq : s.vsl.queue = p :: r)
include hq

theorem State.takeHead_of_expired (hd : s.deadlinePassed p = true) :
    s.takeHead = (s.withVsl { s.vsl with queue := r }).problemEnds p 9 := by
  simp only [State.takeHead, hq, hd, if_true]

theorem State.takeHead_of_busy (hd : s.deadlinePassed p = false) (hl : s.freeLane = none) : s.takeHead = s := by
  simp only [State.takeHead, hq, hd, hl, Bool.false_eq_true, if_false]

theorem State.takeHead_of_freeLane (hd : s.deadlinePassed p = false) {l : Nat} (hl : s.freeLane = some l) :
    s.takeHead = ((s.withVsl { s.vsl with queue := r }).setLane l
      { s.lane l with job := some p, warm := s.warmEntry p, started := s.clk.now }).laneLoad l p := by
  simp only [State.takeHead, hq, hd, hl, Bool.false_eq_true, if_false]

end

/-! ## Known-answer tests (R256, R257) -/

section
variable {s : State} {l : Nat}

/-- A pass that comes too early counts nothing for a quarantined lane. -/
theorem State.katPass_of_early (hx : (s.lane l).state = 1) (hd : s.katDue (s.lane l) = false) : s.katPass l = s := by
  simp only [State.katPass, hx, hd, and_self, if_true]

theorem State.katPass_of_not_quarantined (hx : (s.lane l).state ≠ 1) :
    s.katPass l = s.setLane l { s.lane l with testFirst := false, lastKat := s.crs.courseCnt } := by
  simp only [State.katPass, hx, false_and, if_false, ne_eq, not_false_eq_true, if_true]

/-- A due pass of a quarantined lane counts, and the sixteenth returns the lane to service. -/
theorem State.katPass_of_due (hl : l < 64) (hx : (s.lane l).state = 1) (hd : s.katDue (s.lane l) = true) {y : Lane}
    (hy : y = { s.lane l with testFirst := false, lastKat := s.crs.courseCnt }) :
    s.katPass l = if (s.lane l).passes + 1 < 16
      then (s.setLane l y).setLane l { y with passes := (s.lane l).passes + 1 }
      else ((s.setLane l y).setLane l { y with state := 0, passes := 0 }).raise 42 .notice 1 0 l [] := by
  have hk : (s.setLane l y).lane l = y := (s.setLane_lane l l y).trans (if_pos ⟨rfl, hl⟩)
  subst hy
  refine (if_neg (by simp [hd])).trans ((if_neg (not_not.mpr hx)).trans ?_)
  simp only [hk]

end

/-! ## Reports of valves and pumps (R293) -/

section
variable {s : State} {v : Nat}

theorem State.judgeValve_of_faulty (hf : s.valveFaulty v = true) : s.judgeValve v = s.putValve v
    { s.valveSt v with fault := true, cmd := false, since := s.clk.now, seen := false } :=
  if_pos hf

theorem State.judgeValve_of_open (hf : s.valveFaulty v = false) (hc : (s.valveSt v).cmd = true)
    (ho : s.valveOpen v = true) : s.judgeValve v = s.putValve v { s.valveSt v with seen := true } :=
  (if_neg (by simp [hf])).trans (if_pos ⟨hc, ho⟩)

theorem State.judgePump_of_faulty (hf : s.pumpFaulty v = true) : s.judgePump v = s.putPump v
    { s.pumpSt v with fault := true, cmd := false, since := s.clk.now, seen := false } :=
  if_pos hf

theorem State.judgePump_of_running (hf : s.pumpFaulty v = false) (hc : (s.pumpSt v).cmd = true)
    (hr : s.pumpRuns v = true) : s.judgePump v = s.putPump v { s.pumpSt v with seen := true } :=
  (if_neg (by simp [hf])).trans (if_pos ⟨hc, hr⟩)

end

/-! ## The rows while frames run -/

section
variable (t : Nat) {s : State} (hr : s.runs = true)
include hr

theorem exec_problemSubmit_of_stopped (d : List Byte) (hs : s.vsl.stopped = true) :
    exec (.problemSubmit t d) s = .next (s.instant t) :=
  next_whileRunning t hr (if_pos (.inr (.inr hs)))

section
variable {d : List Byte} {p : Problem} (hd : d.length = 64) (ho : u8 d 0x0B ≤ 2) (hs : s.vsl.stopped = false)
  (hp : p = (s.instant t).problemOf d)
include hd ho hs hp

theorem exec_problemSubmit : exec (.problemSubmit t d) s = .next (if descLengths d = true
    then (s.instant t).enterQueue p else (s.instant t).rejectProblem p) := by
  subst hp
  exact next_whileRunning t hr (if_neg (by simp [hd, hs, ho]))

theorem exec_problemSubmit_rejects (h : descLengths d = false ∨ imgTemplate s.image (u16 d 0) = none) :
    exec (.problemSubmit t d) s = .next ((s.instant t).rejectProblem p) := by
  rw [exec_problemSubmit t hr hd ho hs hp]
  split
  next hlen =>
    have ht : imgTemplate s.image p.template = none := by
      rw [hp, State.problemOf_template]
      exact h.resolve_left (by simp [hlen])
    rw [State.enterQueue_of_no_template (s := s.instant t) hs ht]
  next => rfl

/-- A descriptor of the right lengths is judged against its template. -/
theorem exec_problemSubmit_of_template {tm : List Byte} (hlen : descLengths d = true)
    (h : imgTemplate s.image (u16 d 0) = some tm) :
    exec (.problemSubmit t d) s = .next (if (s.instant t).problemGood p tm = true
      then (s.instant t).submit ((s.instant t).copyTemplate p tm) else (s.instant t).rejectProblem p) := by
  have ht : imgTemplate s.image p.template = some tm := by rw [hp, State.problemOf_template, h]
  rw [exec_problemSubmit t hr hd ho hs hp, if_pos hlen, State.enterQueue_of_template (s := s.instant t) hs ht]

end

theorem exec_feedListMove : exec (.feedListMove t) s = .next (s.instant t).feedMove :=
  next_whileRunning t hr rfl

theorem exec_laneTake : exec (.laneTake t) s = .next (s.instant t).takeHead :=
  next_whileRunning t hr rfl

theorem exec_laneKat_of_fail {l : Nat} (hl : l < 64) (hj : (s.lane l).job = none) :
    exec (.laneKat t l false) s = .next ((((s.instant t).setLane l
      { s.lane l with testFirst := false, lastKat := s.crs.courseCnt }).count .vslKatFail).quarantine l) :=
  next_whileRunning t hr ((if_neg (by simp [hl, hj])).trans (if_neg Bool.false_ne_true))

theorem exec_laneKat_of_pass {l : Nat} (hl : l < 64) (hj : (s.lane l).job = none) :
    exec (.laneKat t l true) s = .next ((s.instant t).katPass l) :=
  next_whileRunning t hr ((if_neg (by simp [hl, hj])).trans (if_pos rfl))

theorem exec_ballastValveFault {v : Nat} (hv : v < u8 s.ballast 2) :
    exec (.ballastValveFault t v) s = .next ((s.instant t).judgeValve v) :=
  next_whileRunning t hr (if_pos hv)

theorem exec_ballastPumpFault {p : Nat} (hp : p < u8 s.ballast 1) :
    exec (.ballastPumpFault t p) s = .next ((s.instant t).judgePump p) :=
  next_whileRunning t hr (if_pos hp)

/-- Neither the event nor the loss of control moves the array that the mismatch has emptied and stopped. -/
theorem arrayComparatorMismatch_stops : Answers (.arrayComparatorMismatch t) s fun u =>
    u.vsl.stopped = true ∧ u.vsl.queue = [] ∧ u.vsl.feed = [] ∧
      u = (((s.instant t).abortArray.withVsl { (s.instant t).abortArray.vsl with stopped := true }).raise
        42 .notice 0 0 noIndex []).comparatorMismatch 6 := by
  obtain ⟨hq, hf⟩ := (s.instant t).abortArray_queues
  refine ⟨_, next_whileRunning t hr rfl, ?_, ?_, ?_, rfl⟩ <;>
    simp only [State.comparatorMismatch_vsl, State.raise_vsl, State.withVsl_vsl, hq, hf]

variable {l e : Nat} {p : Problem} (hj : (s.lane l).job = some p)
include hj

/-- A lane that finishes releases its problem before the deadline and is LATE from then on. -/
theorem exec_problemRelease : exec (.problemRelease t ⟨l, e⟩) s = .next (if (s.instant t).deadlinePassed p = true
    then ((s.instant t).countN .vslEcc e).laneLate l p else ((s.instant t).countN .vslEcc e).laneReleases l p) := by
  have hlane : ((s.instant t).countN .vslEcc e).lane l = s.lane l := by
    simp only [State.lane, State.countN_vsl, State.instant_vsl]
  refine next_whileRunning t hr ((if_pos (by simp [hj])).trans ?_)
  simp only [State.finishLane, hlane, hj, State.countN_deadlinePassed]

theorem exec_problemLate (hd : (s.instant t).deadlinePassed p = true) :
    exec (.problemLate t ⟨l, e⟩) s = .next (((s.instant t).countN .vslEcc e).laneLate l p) :=
  next_whileRunning t hr (by simp only [State.instant_lane, hj, hd, if_true])

end

/-- Settles O42: each row runs the one branch of its work that the descriptor, the room in the queue, the deadline, the
lane's state or the valve's and pump's reports leave open; no end of a problem touches the queue or the feed list. -/
theorem arrayRows : Obligations.ArrayRows := by
  unfold Obligations.ArrayRows
  rintro t s _ hr rfl
  refine ⟨?submit, fun d => exec_problemSubmit_of_stopped t hr d, ?feed, ?take, ?finish, ?test,
    arrayComparatorMismatch_stops t hr, ?valve, ?pump⟩
  case submit =>
    intro d p hd ho hs hp
    have hqueue := (s.instant t).rejectProblem_queue p
    refine ⟨fun h => ⟨exec_problemSubmit_rejects t hr hd ho hs hp h, hqueue⟩, fun tm hlen ht => ?_⟩
    rw [exec_problemSubmit_of_template t hr hd ho hs hp hlen ht]
    refine ⟨fun hg => ⟨by rw [if_neg (by simp [hg])], hqueue⟩, fun hg hfull => ?_, fun q hg hroom hq => ?_⟩
    · rw [if_pos hg]
      split
      next hc =>
        split
        next v r hv =>
          exact congrArg _
            (State.submit_displaces (s := s.instant t) (p := (s.instant t).copyTemplate p tm) hs hfull hc hv)
        next hv => exact congrArg _ (State.submit_turnsAway (s := s.instant t) hs hfull fun _ => hv)
      next hc => exact congrArg _ (State.submit_turnsAway (s := s.instant t) hs hfull fun h => absurd h hc)
    · rw [if_pos hg, hq]
      exact congrArg _ (State.submit_of_room (s := s.instant t) hs hroom)
  case feed =>
    intro p r hf
    rw [exec_feedListMove t hr]
    exact ⟨fun hq => congrArg _ (State.feedMove_of_room (s := s.instant t) hf hq),
      fun hq => congrArg _ (State.feedMove_of_full (s := s.instant t) hf hq)⟩
  case take =>
    intro p r hq
    rw [exec_laneTake t hr]
    exact ⟨fun hd => congrArg _ (State.takeHead_of_expired (s := s.instant t) hq hd),
      fun hd => ⟨fun hl => congrArg _ (State.takeHead_of_busy (s := s.instant t) hq hd hl),
        fun l hl => congrArg _ (State.takeHead_of_freeLane (s := s.instant t) hq hd hl)⟩⟩
  case finish =>
    refine fun l p hj => ⟨fun e hd => ?_, fun e hd => ?_, fun e => exec_problemLate t hr hj⟩
    · rw [exec_problemRelease t hr hj, if_neg (by simp [hd])]
    · rw [exec_problemRelease t hr hj, if_pos hd]
  case test =>
    rintro l _ hl rfl hj
    refine ⟨exec_laneKat_of_fail t hr hl hj, ?_⟩
    rw [exec_laneKat_of_pass t hr hl hj]
    refine ⟨fun hx hd => congrArg _ (State.katPass_of_early (s := s.instant t) hx hd),
      fun hx => congrArg _ (State.katPass_of_not_quarantined (s := s.instant t) (l := l) (by simp [hx])),
      fun y hy hx hd => ?_⟩
    rw [State.katPass_of_due (s := s.instant t) hl hx hd hy]
    exact ⟨fun hn => congrArg _ (if_pos hn), fun hn => congrArg _ (if_neg hn.not_gt)⟩
  case valve =>
    rintro v _ hv rfl
    rw [exec_ballastValveFault t hr hv]
    exact ⟨fun hf => congrArg _ (State.judgeValve_of_faulty hf),
      fun hf hc ho => congrArg _ (State.judgeValve_of_open (s := s.instant t) hf hc ho)⟩
  case pump =>
    rintro p _ hp rfl
    rw [exec_ballastPumpFault t hr hp]
    exact ⟨fun hf => congrArg _ (State.judgePump_of_faulty hf),
      fun hf hc ho => congrArg _ (State.judgePump_of_running (s := s.instant t) hf hc ho)⟩

end Sys2Proof.Machine
end

section
/-! The statements of spec/12_time_base.md: the rows of the time sources, of holdover, of the pulse and the captures, and
of PTP. -/

namespace Sys2Proof.Machine
open Sys2Proof

/-! ## Reading the time engine -/

section
variable (s : State) (t : Nat)

@[simp] theorem State.instant_tim : (s.instant t).tim = s.tim := rfl
@[simp] theorem State.instant_timSrc (n : Nat) : (s.instant t).timSrc n = s.timSrc n := rfl
@[simp] theorem State.instant_effField (r : CfgReg) (i n : Nat) : (s.instant t).effField r i n = s.effField r i n := rfl
@[simp] theorem State.instant_timRank (n : Nat) : (s.instant t).timRank n = s.timRank n := rfl
@[simp] theorem State.instant_capture (i : Nat) : (s.instant t).capture i = s.capture i := rfl
@[simp] theorem State.instant_ptpPort (i : Nat) : (s.instant t).ptpPort i = s.ptpPort i := rfl
@[simp] theorem State.instant_ptpOn (i : Nat) : (s.instant t).ptpOn i = s.ptpOn i := rfl
@[simp] theorem State.instant_portLive (p : Port) : (s.instant t).portLive p = s.portLive p := rfl

@[simp] theorem State.raise_tim (src : Nat) (sev : Sev) (qual cause index : Nat) (vals : List Word) :
    (s.raise src sev qual cause index vals).tim = s.tim :=
  State.tim_of_blank (m := keepOnly [.tim]) (State.raise_blank rfl rfl src sev qual cause index vals s) rfl

@[simp] theorem State.setTimSrc_src (n : Nat) (x : TimSrc) : (s.setTimSrc n x).tim.src = s.tim.src := rfl
@[simp] theorem State.setTimSrc_state (n : Nat) (x : TimSrc) : (s.setTimSrc n x).tim.state = s.tim.state := rfl

theorem State.setTimSrc_timSrc_same {n : Nat} (hn : n < 6) (x : TimSrc) : (s.setTimSrc n x).timSrc n = x :=
  (vget_vset s.tim.sources n n x TimSrc.reset).trans (if_pos ⟨rfl, hn⟩)

end

/-! ## Measurement of a source (R303, R304, R306, R307) -/

section
variable (s : State) (n : Nat)

/-- Using up what a source gave leaves the selection, the steering and the state of the engine as they were. -/
theorem State.consumeOffset_keeps : (s.consumeOffset n).tim.src = s.tim.src ∧
    (s.consumeOffset n).tim.steer = s.tim.steer ∧ (s.consumeOffset n).tim.state = s.tim.state ∧
    (s.consumeOffset n).stepThr = s.stepThr := by
  unfold State.consumeOffset
  split <;> exact ⟨rfl, rfl, rfl, rfl⟩

/-- The report of a pending step changes neither a source nor the state of the engine. -/
theorem State.reportPending_keeps (m : Nat) (o : Int) : (s.reportPending n o).timSrc m = s.timSrc m ∧
    (s.reportPending n o).tim.state = s.tim.state := by
  simp only [State.reportPending, State.timSrc, State.raise_tim]
  exact ⟨rfl, rfl⟩

/-- Nor does a new offset of the pending source, reported or not. -/
theorem State.pendingMoved_keeps (m : Nat) (o : Int) : (s.pendingMoved n o).timSrc m = s.timSrc m ∧
    (s.pendingMoved n o).tim.state = s.tim.state := by
  simp only [State.pendingMoved]
  split_ifs
  · exact State.reportPending_keeps _ n m o
  · exact ⟨rfl, rfl⟩
  · exact ⟨rfl, rfl⟩

/-- The source as an offset measured of it leaves it, where `steer` is the steering of device time and `thr` the step
threshold (R303, R304, R305). -/
def TimSrc.measured (x : TimSrc) (o steer : Int) (thr : Nat) : TimSrc :=
  { x with
    offset := some o, steer := steer, lossSecs := 0
    goodSecs := if x.offset.any (fun p => decide ((o - p - (steer - x.steer)).natAbs ≤ 1000)) = true
      then min 65535 (x.goodSecs + 1) else 1
    aboveSecs := if x.qualified = true ∧ o.natAbs < thr then min 65535 (x.aboveSecs + 1) else 0 }

end

section
variable (t : Nat) {s b c : State} {n : Nat} {o : Int} (hr : s.runs = true) (h1 : 1 ≤ n) (h5 : n ≤ 5)
  (hb : b = (s.instant t).followRole.timAdvance)
include hr h1 h5 hb

theorem exec_sourceOffsetMeasure_of_none (ho : b.sourceOffset n = none) : exec (.sourceOffsetMeasure t n) s =
    .next ((b.consumeOffset n).setTimSrc n { b.timSrc n with
      goodSecs := 0, aboveSecs := 0, lossSecs := min 65535 ((b.timSrc n).lossSecs + 1) }) :=
  next_whileRunning t hr ((if_neg (by omega)).trans (by simp only [← hb, ho]))

/-- A measured offset: the source in use steers or is dropped; of another one the pending step is moved, and the
selection rules see it once it is qualified. -/
theorem exec_sourceOffsetMeasure_of_some (ho : b.sourceOffset n = some o)
    (hc : c = (b.consumeOffset n).setTimSrc n ((b.timSrc n).measured o b.tim.steer b.stepThr)) :
    exec (.sourceOffsetMeasure t n) s = .next (
      if b.tim.src = n then (if o.natAbs < b.stepThr then c.steerOn n o (b.baseUnc n) else (c.refuseStep n).dropSource)
      else if (b.timSrc n).qualified = false then c.pendingMoved n o
      else if b.tim.state = 0 then (c.pendingMoved n o).considerSource n else (c.pendingMoved n o).applyRule1) := by
  obtain ⟨hsrc, hsteer, hstate, hthr⟩ := b.consumeOffset_keeps n
  obtain ⟨hpsrc, hpstate⟩ := c.pendingMoved_keeps n n o
  have hq : ((c.pendingMoved n o).timSrc n).qualified = (b.timSrc n).qualified := by
    rw [hpsrc, hc, State.setTimSrc_timSrc_same _ (by omega)]
    rfl
  have hs : (c.pendingMoved n o).tim.state = b.tim.state := by rw [hpstate, hc, State.setTimSrc_state, hstate]
  rw [← hq, ← hs]
  refine next_whileRunning t hr ((if_neg (by omega)).trans ?_)
  cases hp : (b.timSrc n).offset <;>
    simp only [← hb, ho, hc, TimSrc.measured, hp, hsteer, hthr, State.setTimSrc_src, hsrc, decide_eq_true_eq,
      Bool.and_eq_true, Option.any]

end

/-! ## The standing of a source, and holdover (R304, R305, R310) -/

section
variable (s : State) (n : Nat)

@[simp] theorem State.checkExceeded_src : s.checkExceeded.tim.src = s.tim.src := by
  simp only [State.checkExceeded, apply_ite State.tim, apply_ite Tim.src, State.raise_tim, State.withTim_tim, ite_self]

/-- Neither the events of a selection nor the holdover limit move the choice. -/
theorem State.selectSource_src : (s.selectSource n).tim.src = n := by
  simp only [State.selectSource, State.checkExceeded_src, apply_ite State.tim, State.raise_tim,
    State.withTim_tim, ite_self]

end

section
variable (t : Nat) {s : State} {n : Nat} (hr : s.runs = true)
include hr

theorem exec_sourceQualified (h1 : 1 ≤ n) (h5 : n ≤ 5) (hq : (s.timSrc n).qualified = false)
    (hg : s.effField .timCfg 13 8 ≤ (s.timSrc n).goodSecs) : exec (.sourceQualified t n) s =
    .next ((((s.instant t).setTimSrc n { s.timSrc n with qualified := true, aboveSecs := 0 }).raise
      56 .notice 1 0 n []).considerSource n) :=
  next_whileRunning t hr (if_neg (by
    simp only [State.instant_timSrc, State.instant_effField, hq, not_lt.mpr hg, Bool.false_eq_true, or_false]
    omega))

theorem exec_sourceLost {a : State} (h1 : 1 ≤ n) (h5 : n ≤ 5) (hq : (s.timSrc n).qualified = true ∨ s.tim.src = n)
    (hl : s.effField .timCfg 21 4 ≤ (s.timSrc n).lossSecs)
    (ha : a = ((s.instant t).setTimSrc n { s.timSrc n with qualified := false, goodSecs := 0, aboveSecs := 0 }).raise
      56 .notice 0 0 n []) :
    exec (.sourceLost t n) s = .next (if s.tim.src = n then ((a.count .srcLoss).dropSource).applyRule1 else a) := by
  have hsrc : a.tim.src = s.tim.src := by rw [ha, State.raise_tim]; rfl
  have hstay : ¬((s.timSrc n).qualified = false ∧ s.tim.src ≠ n) := fun ⟨hf, hn⟩ => hq.elim (by simp [hf]) hn
  rw [← hsrc, ha]
  exact next_whileRunning t hr (if_neg (by
    simp only [State.instant_timSrc, State.instant_effField, State.instant_tim, hstay, not_lt.mpr hl, or_false]
    omega))

theorem exec_sourceRevert {r q : Nat} (hn : s.timRank n = some r) (hu : s.timRank s.tim.src = some q) (hrq : r < q)
    (he : s.effField .timCfg 12 1 = 1) (hs : s.timSelectable n = true)
    (hb : s.effField .timServo 17 8 ≤ (s.timSrc n).aboveSecs) :
    exec (.sourceRevert t n) s = .next ((s.instant t).selectSource n) :=
  next_whileRunning t hr (by
    simp only [State.instant_timRank, State.instant_tim, hn, hu]
    exact if_pos ⟨he, hrq, hs, hb⟩)

end

theorem exec_holdoverLimitCrossed (t : Nat) {s : State} {on : Bool} (hp : s.pwr.inReset = false)
    (hon : on = decide (s.hoLimit < (s.instant t).timUnc)) : exec (.holdoverLimitCrossed t) s = .next (
      if s.tim.hoExceeded = on then s.instant t else ((s.instant t).withTim { s.tim with hoExceeded := on }).raise
        58 (if on then .alarm else .notice) (b2n (!on)) 2 noIndex [word (s.instant t).timUnc]) := by
  subst hon
  refine congrArg _ ((if_neg (by simp [hp])).trans ?_)
  exact if_congr eq_comm rfl rfl

/-! ## EXT_PPS and EXT_10M (R303) -/

section
variable (t : Nat) {s : State} (hr : s.runs = true)
include hr

/-- An edge of the polarity chosen gives an offset where it comes 1 s within 1 ms after the last one (assumption 12). -/
theorem exec_extPpsEdge (f : Bool) {o : Int} (ho : o = ((s.instant t).devTime - s.effField .timExt 3 16) % 1000000000) :
    exec (.extPpsEdge ⟨t, f⟩) s = .next (
      if s.effField .timExt 1 1 = 0 ∨ b2n f ≠ s.effField .timExt 2 1 then s.instant t
      else (s.instant t).withTim { s.tim with
        extAt := some (s.instant t).clk.now
        extOffset := if s.tim.extAt.any (fun l => decide (l + 999000000 ≤ (s.instant t).clk.now ∧
            (s.instant t).clk.now ≤ l + 1001000000)) = true
          then some (if o < 500000000 then o else o - 1000000000) else none }) := by
  refine next_whileRunning t hr (if_congr Iff.rfl rfl ?_)
  subst ho
  refine congrArg (fun o => (s.instant t).withTim { s.tim with extAt := some (s.instant t).clk.now, extOffset := o })
    (if_congr ?_ rfl rfl)
  simp only [State.instant_tim]
  cases s.tim.extAt with
  | none => exact Iff.rfl
  | some l => rw [Option.any_some]

theorem exec_ext10mPresenceChange (on : Bool) : exec (.ext10mPresenceChange t on) s =
    .next (((s.instant t).timAdvance.withTim { (s.instant t).timAdvance.tim with ext10m := on }).follow10m s.follows10m) :=
  next_whileRunning t hr rfl

end

/-! ## The time pulse (R315) -/

section
variable (s : State)

theorem State.drivePps_true : s.drivePps true = s.emit (.pin ballPps (s.effField .timPps 1 1 == 0)) := by
  unfold State.drivePps
  split_ifs with h
  · simp [h]
  · rw [beq_false_of_ne h]
    rfl

theorem State.drivePps_false : s.drivePps false = s.emit (.pin ballPps (s.effField .timPps 1 1 != 0)) := by
  unfold State.drivePps
  split_ifs with h
  · simp [h]
  · rw [bne_iff_ne.mpr h]
    rfl

end

section
variable (t : Nat) {s : State} (hr : s.runs = true) (hen : s.effField .timPps 0 1 = 1) (hset : s.tim.state ≠ 0)
include hr hen hset

theorem exec_ppsEdge_leading (he : s.tim.ppsEnd = none) (hb : (s.instant t).ppsBehind ≤ 1) : exec (.ppsEdge t) s =
    .next (((s.instant t).timAdvance.withTim { (s.instant t).timAdvance.tim with
      ppsEnd := some ((s.instant t).clk.now + 1000000 * s.effField .timPps 2 9) }).emit
        (.pin ballPps (s.effField .timPps 1 1 == 0))) :=
  next_whileRunning t hr ((if_neg (by simp [hen, hset])).trans (by
    simp only [State.instant_tim, he, if_neg hb.not_gt, State.drivePps_true]
    rfl))

theorem exec_ppsEdge_trailing {e : Nat} (he : s.tim.ppsEnd = some e) (hn : e ≤ (s.instant t).clk.now) :
    exec (.ppsEdge t) s = .next (((s.instant t).withTim { s.tim with ppsEnd := none }).emit
      (.pin ballPps (s.effField .timPps 1 1 != 0))) :=
  next_whileRunning t hr ((if_neg (by simp [hen, hset])).trans (by
    simp only [State.instant_tim, he, if_pos hn, State.endPulse, State.drivePps_false]
    rfl))

end

/-! ## Captures (R317, R318) -/

section
variable (t : Nat) {s : State} {i h : Nat} {f : Bool} {x y : Capture} (hr : s.runs = true) (hi : i < 4)
  (hf : capFilter (s.effField .timCapCfg (4 * i + 2) 2) ≤ h)
  (hd : s.effField .timCapCfg (4 * i) 2 = 3 ∨ s.effField .timCapCfg (4 * i) 2 = if f then 2 else 1)
  (hx : x = s.capture i) (hy : y = { x with lastEdge := some (s.instant t).clk.now })
include hr hi hf hd hx hy

theorem exec_captureEdge_stored {e : CapEntry} (hl : ∀ l, x.lastEdge = some l → l + 1000 ≤ (s.instant t).clk.now)
    (hroom : x.fifo.length < 16) (he : e = { time := (s.instant t).devTime, falling := f, seq := x.nextSeq }) :
    exec (.captureEdge t i ⟨f, h⟩) s = .next (((s.instant t).withTim { s.tim with caps := vset s.tim.caps i { y with
      fifo := x.fifo ++ [e], newest := some e, nextSeq := (x.nextSeq + 1) % 256 } }).raise
        61 .notice 0 0 i (word (b2n f) :: word x.nextSeq :: words64 ((s.instant t).devTime / 1000000000))) := by
  subst hx hy he
  refine next_whileRunning t hr ((if_neg hi.not_ge).trans ((if_neg hf.not_gt).trans
    ((if_neg fun ⟨h3, hn⟩ => hd.elim h3 hn).trans (if_neg ?_))))
  rintro (hc | hc)
  · cases hle : (s.capture i).lastEdge with
    | none => simp [hle] at hc
    | some l =>
      simp only [State.instant_capture, hle, decide_eq_true_eq] at hc
      exact absurd hc (hl l hle).not_gt
  · exact absurd hc hroom.not_ge

theorem exec_captureEdge_lost (hl : 16 ≤ x.fifo.length ∨ ∃ l, x.lastEdge = some l ∧ (s.instant t).clk.now < l + 1000) :
    exec (.captureEdge t i ⟨f, h⟩) s = .next ((((s.instant t).withTim { s.tim with
      caps := vset s.tim.caps i y }).count .capLost).raise 62 .notice 0 0 i []) := by
  subst hx hy
  refine next_whileRunning t hr ((if_neg hi.not_ge).trans ((if_neg hf.not_gt).trans
    ((if_neg fun ⟨h3, hn⟩ => hd.elim h3 hn).trans (if_pos ?_))))
  obtain hfull | ⟨l, hle, hnear⟩ := hl
  · exact .inr hfull
  · refine .inl ?_
    simp only [State.instant_capture, hle, decide_eq_true_eq]
    exact hnear

end

/-! ## PTP on networks A and B (R312, R313, R314) -/

section
variable (s : State) {i : Nat} (hi : i < 2)
include hi

theorem State.setPtp_ptpPort_same (p : PtpPort) : (s.setPtp i p).ptpPort i = p :=
  (vget_vset s.tim.ports i i p PtpPort.reset).trans (if_pos ⟨rfl, hi⟩)

/-- Sending Sync and Follow_Up leaves the clock and the configuration, and of the port what Announce is sent by. -/
theorem State.ptpSyncTx_keeps : (s.ptpSyncTx i).clk = s.clk ∧
    (∀ r j n, (s.ptpSyncTx i).effField r j n = s.effField r j n) ∧
    ((s.ptpSyncTx i).ptpPort i).annSent = (s.ptpPort i).annSent ∧
    ((s.ptpSyncTx i).ptpPort i).annSeq = (s.ptpPort i).annSeq := by
  simp only [State.ptpSyncTx]
  split_ifs
  · rw [State.setPtp_ptpPort_same _ hi]
    exact ⟨rfl, fun _ _ _ => rfl, rfl, rfl⟩
  · exact ⟨rfl, fun _ _ _ => rfl, rfl, rfl⟩

/-- So Announce follows by the interval and the sequence number that the port had before. -/
theorem State.ptpAnnounceTx_of_ptpSyncTx {a : State} (ha : a = s.ptpSyncTx i) : a.ptpAnnounceTx i =
    if s.elapsed (s.ptpPort i).annSent (logInterval (s.effField .timPtpRate 4 4)) = true
    then (a.ptpSend i 11 (s.ptpPort i).annSeq s.devTime).setPtp i { a.ptpPort i with
      annSeq := ((s.ptpPort i).annSeq + 1) % 65536, annSent := some s.clk.now }
    else a := by
  obtain ⟨hclk, hfield, hsent, hseq⟩ := s.ptpSyncTx_keeps hi
  have helapsed (q : Option Nat) (d : Nat) : (s.ptpSyncTx i).elapsed q d = s.elapsed q d := by
    simp only [State.elapsed, hclk]
  subst ha
  simp only [State.ptpAnnounceTx, helapsed, State.devTime, hclk, hfield, hsent, hseq]

end

section
variable (t : Nat) {s : State} {p : Port} {i : Nat} (hr : s.runs = true)
  (hp : (p = .a ∧ i = 0) ∨ (p = .b ∧ i = 1))
include hr hp

/-- A message that came by the other transport does not reach the port (assumption 12). -/
theorem exec_ptpMessageRx_of_other_transport {hd : PtpHdr} {m : PtpMsg}
    (ht : hd.trans ≠ s.effField .timPtpCfg (4 + i) 1) :
    exec (.ptpMessageRx t p ⟨hd, m⟩) s = .next (s.instant t) := by
  obtain ⟨rfl, rfl⟩ | ⟨rfl, rfl⟩ := hp <;> exact next_whileRunning t hr (if_pos (.inr (.inr (.inr ht))))

section
variable (hl : s.portLive p = true)
include hl

theorem exec_ptpMessageRx {hd : PtpHdr} {m : PtpMsg} (hon : s.ptpOn i = true)
    (ht : hd.trans = s.effField .timPtpCfg (4 + i) 1) : exec (.ptpMessageRx t p ⟨hd, m⟩) s = .next (
      if hd.domain ≠ s.effField .timPtpCfg 9 7 then (s.instant t).count .ptpErr
      else (s.instant t).ptpTake i hd m) := by
  obtain ⟨rfl, rfl⟩ | ⟨rfl, rfl⟩ := hp <;>
    exact next_whileRunning t hr (if_neg (by simp [hon, hl, ht]))

theorem exec_ptpMasterTx (h6 : (s.ptpPort i).state = 6) :
    exec (.ptpMasterTx t p) s = .next (((s.instant t).ptpSyncTx i).ptpAnnounceTx i) := by
  obtain ⟨rfl, rfl⟩ | ⟨rfl, rfl⟩ := hp <;> exact next_whileRunning t hr (if_neg (by simp [h6, hl]))

/-- The request is a Delay_Req, 1, or a Pdelay_Req, 2, by the mechanism of the port. -/
theorem exec_ptpDelayRequestTx {k : Nat} (hon : s.ptpOn i = true)
    (hk : (k = 2 ∧ s.effField .timPtpCfg (2 + i) 1 = 1) ∨
      (k = 1 ∧ s.effField .timPtpCfg (2 + i) 1 = 0 ∧ 8 ≤ (s.ptpPort i).state))
    (he : (s.instant t).elapsed (s.ptpPort i).reqAt (logInterval (s.effField .timPtpRate 8 4)) = true) :
    exec (.ptpDelayRequestTx t p) s = .next (((s.instant t).ptpSend i k (s.ptpPort i).delaySeq
      (s.instant t).devTime).setPtp i { s.ptpPort i with
        delaySeq := ((s.ptpPort i).delaySeq + 1) % 65536, reqSeq := some (s.ptpPort i).delaySeq
        reqAt := some (s.instant t).clk.now }) := by
  have hkind : (if s.effField .timPtpCfg (2 + i) 1 == 1 then 2 else 1) = k := by
    obtain ⟨rfl, h1⟩ | ⟨rfl, h0, -⟩ := hk
    · simp [h1]
    · simp [h0]
  have hasks (h : ¬s.effField .timPtpCfg (2 + i) 1 = 1) : 8 ≤ (s.ptpPort i).state := by
    obtain ⟨-, h1⟩ | ⟨-, -, h8⟩ := hk
    · exact absurd h1 h
    · exact h8
  rw [← hkind]
  obtain ⟨rfl, rfl⟩ | ⟨rfl, rfl⟩ := hp <;>
    exact next_whileRunning t hr (if_neg (by simpa [hon, hl, he] using hasks))

end

theorem exec_ptpAnnounceTimeout (hon : s.ptpOn i = true) (hn : (s.ptpPort i).annAt +
      s.effField .timPtpRate 12 4 * logInterval (s.effField .timPtpRate 4 4) ≤ (s.instant t).clk.now) :
    exec (.ptpAnnounceTimeout t p) s = .next ((((s.instant t).setPtp i { s.ptpPort i with
      best := none, quiet := true, annIn := none, syncIn := none, syncWait := none, sync := none,
      offset := none }).ptpUpdate)) := by
  obtain ⟨rfl, rfl⟩ | ⟨rfl, rfl⟩ := hp <;>
    exact next_whileRunning t hr (if_neg (by simp [hon, State.elapsed, hn]))

end

/-- Settles O41: each row runs the one branch of its work that the source's standing, the configuration in effect, the
edge or the message leaves open; using up an offset, reporting a pending step and sending Sync leave what the next
decision of the same row reads. -/
theorem timeSourceRows : Obligations.TimeSourceRows := by
  unfold Obligations.TimeSourceRows
  intro t s hr
  refine ⟨?measure, fun n h1 h5 => exec_sourceQualified t hr h1 h5, fun n a h1 h5 => exec_sourceLost t hr h1 h5,
    fun n r q hn hu hrq he hs hb => ⟨exec_sourceRevert t hr hn hu hrq he hs hb, State.selectSource_src _ n⟩,
    fun on => exec_holdoverLimitCrossed t, fun f o => exec_extPpsEdge t hr f, exec_ext10mPresenceChange t hr,
    fun hen hset => ⟨exec_ppsEdge_leading t hr hen hset, fun e => exec_ppsEdge_trailing t hr hen hset⟩,
    fun i f h x y hi hf hd hx hy => ⟨fun hl hroom e => exec_captureEdge_stored t hr hi hf hd hx hy hl hroom,
      exec_captureEdge_lost t hr hi hf hd hx hy⟩, ?ptp⟩
  case measure =>
    rintro n b _ c h1 h5 hb rfl
    refine ⟨exec_sourceOffsetMeasure_of_none t hr h1 h5 hb, fun o ho hc => ?_⟩
    rw [exec_sourceOffsetMeasure_of_some t hr h1 h5 hb ho hc]
    exact ⟨fun hsrc => congrArg _ (if_pos hsrc), fun hsrc => congrArg _ (if_neg hsrc)⟩
  case ptp =>
    intro p i hp hl
    refine ⟨fun hd m hon => ⟨exec_ptpMessageRx_of_other_transport t hr hp, fun ht => ?receive⟩, ?send,
      fun k hon hk he => exec_ptpDelayRequestTx t hr hp hl hon hk he, exec_ptpAnnounceTimeout t hr hp⟩
    case receive =>
      have hrx (m : PtpMsg) := exec_ptpMessageRx t hr hp hl (m := m) hon ht
      refine ⟨fun hdom => (hrx m).trans (congrArg _ (if_pos hdom)), fun hdom => ?_⟩
      have htake (m : PtpMsg) := (hrx m).trans (congrArg _ (if_neg (not_not.mpr hdom)))
      refine ⟨htake .bad, htake .ignored, fun t4 h6 he2e => (htake (.delayReq t4)).trans (congrArg _ ?_), htake m⟩
      exact if_pos ⟨h6, by simp [he2e]⟩
    case send =>
      rintro _ a h6 rfl ha
      have hi : i < 2 := by omega
      have hsync : a = (s.instant t).ptpSyncTx i := ha
      rw [exec_ptpMasterTx t hr hp hl h6, ← hsync]
      exact congrArg _ (State.ptpAnnounceTx_of_ptpSyncTx (s.instant t) hi hsync)

end Sys2Proof.Machine
end

section
/-! The statements of spec/13_redundancy_and_claims.md: what a partner sends, resynchronisation and the proposal of a role
exchange. -/

namespace Sys2Proof.Machine
open Sys2Proof

/-! ## What the instant and a frame of the link leave as they were, for pair mode -/

section
variable (s : State)

@[simp] theorem State.instant_pairMode (t : Nat) : (s.instant t).pairMode = s.pairMode := rfl
@[simp] theorem State.instant_portUp (t : Nat) (p : Port) : (s.instant t).portUp p = s.portUp p := rfl

@[simp] theorem State.linkHeard_pairMode (hd : LinkHdr) (typ : Nat) (b : List Byte) :
    (s.linkHeard hd typ b).pairMode = s.pairMode := by
  rw [State.linkHeard, State.passOn_eq]; rfl

/-! ## The unit id of a part, which no change of role or pair state touches (R325) -/

/-- A role that is set is the only change in the redundancy block. -/
theorem State.setRole_rdn (r : Nat) (sev : Sev) : (s.setRole r sev).rdn = { s.rdn with role := r } := by
  unfold State.setRole
  split
  next h => rw [← h]
  next => rw [State.raise_rdn, State.withRdn_rdn]

@[simp] theorem State.sendYield_rdn : s.sendYield.rdn = s.rdn := by
  unfold State.sendYield
  split
  · exact State.sendLink_rdn _ _ _
  · rfl

theorem State.abandonExchange_unitId : s.abandonExchange.rdn.unitId = s.rdn.unitId := by
  unfold State.abandonExchange
  split
  · rw [State.raise_rdn]
    exact State.foldl_keeps (fun s => s.rdn.unitId) _ _ _ fun s c => by rw [State.complete_rdn]
  · rfl

theorem State.leavePaired_unitId : s.leavePaired.rdn.unitId = s.rdn.unitId := by
  unfold State.leavePaired
  rw [State.abandonExchange_unitId]
  split
  · rfl
  · rw [State.foldl_refuse_rdn]; rfl

theorem State.setPair_unitId (n : Nat) : (s.setPair n).rdn.unitId = s.rdn.unitId := by
  unfold State.setPair
  split
  · rfl
  · rw [State.raise_rdn]
    split
    · exact s.leavePaired_unitId
    · rfl

theorem State.yieldClaim_unitId : s.yieldClaim.rdn.unitId = s.rdn.unitId := by
  rw [State.yieldClaim, State.setPair_unitId, State.sendYield_rdn, State.setRole_rdn]

theorem State.yieldsIf_unitId (p : Prop) [Decidable p] :
    (if p then s.yieldClaim else s).rdn.unitId = s.rdn.unitId := by
  split
  · exact s.yieldClaim_unitId
  · rfl

/-- Noting what a partner says can make this part yield its claim, but never give it another unit id. -/
theorem State.notePartner_unitId (m : PairMsg) : (s.notePartner m).rdn.unitId = s.rdn.unitId := by
  unfold State.notePartner
  split
  · split
    · rfl
    · rw [State.raise_rdn]; rfl
  · exact State.yieldsIf_unitId _ _

theorem State.notePartner_crs (m : PairMsg) : (s.notePartner m).crs = s.crs :=
  State.crs_of_keptGrid (State.notePartner_blank rfl rfl rfl rfl rfl rfl rfl rfl m s)

/-! ## What a partner sends (R335, R336, R338, R340) -/

/-- The partner's message over the link: what it says of the partner is noted, and it is kept as that of the frame. -/
def State.keepMessage (m : PairMsg) : State := (s.notePartner m).withRdn { (s.notePartner m).rdn with msg := some m }

end

section
variable {t : Nat} {hd : LinkHdr} {b : List Byte} {s : State} (hr : s.runs = true)
include hr

theorem exec_stateImagePieceRx (h : s.Hears hd 0x0C b) (hf : s.rdn.syncFrame.isSome = true)
    (hj : s.rdn.syncSource = false) : exec (.stateImagePieceRx t hd b) s = .next
      (((s.instant t).linkHeard hd 0x0C b).withRdn { s.rdn with pieces := s.rdn.pieces + (b.length - 4) }) :=
  next_linkTake_of_hears hr h (by simp only [State.linkHeard_rdn, State.instant_rdn, hf, hj, and_self, if_true])

variable (hp : s.pairMode = true)
include hp

theorem exec_removalMaskRx (h : s.Hears hd 3 b) : exec (.removalMaskRx t hd b) s = .next
    (((s.instant t).linkHeard hd 3 b).withRdn
      { s.rdn with pMask := some (hd.frame, BitVec.ofNat 16 (u16 b 0)) }) :=
  next_linkTake_of_hears hr h (by
    simp only [State.linkHeard_pairMode, State.linkHeard_rdn, State.instant_pairMode, State.instant_rdn, hp, if_true])

variable (hu : (pairMsgOf b).unit ≠ s.rdn.unitId)
include hu

theorem exec_urgentYieldRx (h : s.Hears hd 1 b) (hy : (pairMsgOf b).typ = 2) :
    exec (.urgentYieldRx t hd b) s = .next (((s.instant t).linkHeard hd 1 b).withRdn { s.rdn with
      partner := (pairMsgOf b).claim, pRole := claimRole (pairMsgOf b).claim, yieldIn := true }) :=
  next_linkTake_of_hears hr h (by
    simp only [State.linkHeard_pairMode, State.linkHeard_rdn, State.instant_pairMode, State.instant_rdn]
    exact if_neg (by simp [hp, hy, hu]))

variable (hm : (pairMsgOf b).typ = 1)
include hm

theorem exec_pairMessageRx (h : s.Hears hd 2 b) {m : PairMsg} (hb : pairMsgOf b = m) {u : State}
    (hk : ((s.instant t).linkHeard hd 2 b).keepMessage m = u) : exec (.pairMessageRx t hd b) s = .next
      (if u.rdn.pstate = 3 ∧ u.rdn.role ≠ 2 ∧ claimRole m.claim = 2 ∧ m.frame = s.crs.frame
        then m.cmds.foldl (fun u d => u.pairCommand d) u else u) := by
  subst hb hk
  have hcrs : (((s.instant t).linkHeard hd 2 b).keepMessage (pairMsgOf b)).crs = s.crs :=
    (State.notePartner_crs _ _).trans (State.linkHeard_crs _ _ _ _)
  refine next_linkTake_of_hears hr h ((if_neg (by simp [hp, hm])).trans ((if_neg ?_).trans (by rw [← hcrs]; rfl)))
  rwa [State.notePartner_unitId, State.linkHeard_rdn]

theorem exec_heartbeatRx {port : Port} (hn : port ≠ .m) (hl : s.portUp port = true) (hb : 0x50 ≤ b.length) {a : State}
    (ha : (s.instant t).notePartner (pairMsgOf b) = a) : exec (.heartbeatRx t port b) s = .next (a.withRdn { a.rdn with
      hb := some (pairMsgOf b), hbPaths := a.rdn.hbPaths ||| (if port = .a then 1 else 2) }) := by
  subst ha
  refine next_whileRunning t hr ((if_neg ?_).trans (if_neg ?_))
  · simp [hp, hm, hb, hn, hl]
  · rwa [State.notePartner_unitId]

end

/-- Settles O28: what hearing a frame leaves is neither the pair mode nor the redundancy block nor the frame number, and
noting what the message says keeps the unit id, by which the message is another unit's to the end. -/
theorem pairRowsAct : Obligations.PairRowsAct := by
  unfold Obligations.PairRowsAct
  intro t hd bytes s hr hp
  have htake {typ : Nat} (h : s.Hears hd typ bytes) :
      (s.instant t).linkTake hd typ bytes bytes id = (s.instant t).linkHeard hd typ bytes :=
    State.linkTake_of_hears (h.instant t) id
  refine ⟨?message, fun port a hn hl hm hb hu ha => exec_heartbeatRx hr hp hu hm hn hl hb ha.symm, fun h hy hu => ?_,
    fun h => ?_, fun h hf hj => ?_⟩
  case message =>
    rintro _ b h hm hu rfl hb
    rw [htake h] at hb
    exact exec_pairMessageRx hr hp hu hm h rfl hb.symm
  · rw [htake h]
    exact exec_urgentYieldRx hr hp hu h hy
  · rw [htake h]
    exact exec_removalMaskRx hr hp h
  · rw [htake h]
    exact exec_stateImagePieceRx hr h hf hj

/-! ## Resynchronisation (R340) -/

section
variable (s : State)

/-- An attempt that fails is no attempt any more, and the pair state is left to the caller. -/
theorem State.syncFail_attempt : s.syncFail.rdn.syncFrame = none ∧ s.syncFail.rdn.pstate = s.rdn.pstate := by
  simp only [State.syncFail, State.raise_rdn, State.count_rdn, State.withRdn_rdn, true_and]
  split <;> rfl

/-- A part that was not PAIRED only takes its new pair state. -/
theorem State.setPair_rdn {n : Nat} (h : s.rdn.pstate ≠ 3) : (s.setPair n).rdn = { s.rdn with pstate := n } := by
  unfold State.setPair
  split
  next hn => rw [← hn]
  next => simp only [State.raise_rdn, State.withRdn_rdn]

/-! ## The proposal of a role exchange (R341) -/

theorem State.proposeExchange_of_allowed (hf : s.rdn.exchFrame = none) (ha : s.rdn.exchAsk = false)
    (h : s.exchAllowed = true) :
    s.proposeExchange = s.withRdn { s.rdn with exchAsk := true, exchRetry := none } := by
  simp [State.proposeExchange, hf, ha, h]

/-- A proposal that the conditions do not allow asks for nothing and is tried again 60 s later, whether or not it is
overdue. -/
theorem State.proposeExchange_of_not_allowed (hf : s.rdn.exchFrame = none) (ha : s.rdn.exchAsk = false)
    (h : s.exchAllowed = false) : s.proposeExchange.rdn.exchAsk = false ∧
      s.proposeExchange.rdn.exchRetry = some (s.clk.now + 60000000000) := by
  simp only [State.proposeExchange, hf, ha, h, Option.isSome_none, Bool.false_eq_true, or_self, if_false]
  split
  · rw [State.raise_rdn]
    exact ⟨rfl, rfl⟩
  · exact ⟨rfl, rfl⟩

end

section
variable (t : Nat) {s : State} (hr : s.runs = true)
include hr

theorem exec_resyncStart_of_joiner (hj : s.joins = true) (hn : s.rdn.syncRetry = none) :
    exec (.resyncStart t true) s = .next (s.instant t).startJoin :=
  next_whileRunning t hr ((if_pos rfl).trans (if_pos ⟨hj, hn⟩))

theorem exec_resyncStart_of_source {m : PairMsg} (hm : s.rdn.msg = some m) (hp : s.pairMode = true)
    (hf : s.rdn.syncFrame = none) (h6 : tbit m.flags 6 = true) (hi : s.imageAgrees = true) :
    exec (.resyncStart t false) s = .next (((s.instant t).setPair 2).withRdn { ((s.instant t).setPair 2).rdn with
      syncFrame := some m.frame, syncSource := true }) :=
  next_whileRunning t hr (by
    simp only [Bool.false_eq_true, if_false, State.instant_rdn, hm]
    exact if_pos ⟨hp, hf, h6, hi⟩)

theorem exec_resyncInstall {img : StateImage} {i : Word} (hf : s.rdn.syncFrame = some i) (hs : s.rdn.pstate = 2)
    (hj : s.rdn.syncSource = false) (hi : s.rdn.installed = false) (hp : 0 < s.rdn.pieces)
    (hg : img.frame = s.crs.frame) (hn : newer (i + 2) s.crs.frame = false) :
    exec (.resyncInstall t img) s = .next ((s.instant t).install img) :=
  next_whileRunning t hr (by
    simp only [State.instant_rdn, hf]
    exact if_pos ⟨hs, hj, hi, hp, hg, hn⟩)

theorem exec_resyncTimeout {i : Word} (hf : s.rdn.syncFrame = some i) (hs : s.rdn.pstate = 2)
    (hl : (s.syncLimit : Int) ≤ wdiff s.crs.frame i) :
    exec (.resyncTimeout t) s = .next ((s.instant t).syncFail.setPair 1) :=
  next_whileRunning t hr (by
    simp only [State.instant_rdn, hf]
    exact if_pos ⟨hl, hs⟩)

theorem exec_resyncRetry {i : Nat} (hy : s.rdn.syncRetry = some i) (hn : i ≤ (s.instant t).clk.now)
    (hj : s.joins = true) : exec (.resyncRetry t) s = .next
      ((s.instant t).withRdn { s.rdn with syncRetry := none }).startJoin :=
  next_whileRunning t hr (by
    simp only [State.instant_rdn, hy, if_pos hn]
    exact if_pos hj)

theorem exec_exchangeProposalDue (hp : s.pairMode = true) (h2 : s.rdn.role = 2)
    (hw : ∀ r, s.rdn.exchRetry = some r → r ≤ (s.instant t).clk.now)
    (hd : (s.instant t).exchDue = true ∨ s.rdn.exchCmd ≠ []) :
    exec (.exchangeProposalDue t) s = .next (s.instant t).proposeExchange := by
  have hc : (s.instant t).exchDue = true ∨ s.rdn.exchCmd.isEmpty = false := by simpa using hd
  refine next_whileRunning t hr (if_pos ⟨hp, h2, ?_, hc⟩)
  rw [State.instant_rdn]
  cases hx : s.rdn.exchRetry with
  | none => rfl
  | some r => exact decide_eq_true (hw r hx)

end

/-- Settles O29: each row runs the one branch of its work that the partner's message, the attempt, its image and the
time leave open; a failed attempt is still SYNCING when it ends, so that nothing but the pair state changes at its end. -/
theorem resynchronisationRows : Obligations.ResynchronisationRows := by
  unfold Obligations.ResynchronisationRows
  intro t s hr
  refine ⟨?_, ?_, fun img i hf hs hj hi hp => exec_resyncInstall t hr hf hs hj hi hp, fun i hf hs hl => ?timeout, ?_,
    fun hp h2 hw hd hf ha => ?exchange⟩
  · rintro _ hj hn rfl
    exact exec_resyncStart_of_joiner t hr hj hn
  · rintro m _ hm hp hf h6 hi rfl
    exact exec_resyncStart_of_source t hr hm hp hf h6 hi
  case timeout =>
    obtain ⟨hnone, hstate⟩ := (s.instant t).syncFail_attempt
    have hsync : (s.instant t).syncFail.rdn.pstate ≠ 3 := by
      rw [hstate, State.instant_rdn, hs]
      decide
    refine ⟨exec_resyncTimeout t hr hf hs hl, ?_, State.setPair_pstate _ 1⟩
    rw [State.setPair_rdn _ hsync, hnone]
  · rintro i _ hy hn hj rfl
    exact exec_resyncRetry t hr hy hn hj
  case exchange =>
    have hdue := exec_exchangeProposalDue t hr hp h2 hw hd
    refine ⟨fun h => ?_, fun h => ⟨_, hdue, ?_⟩⟩
    · rw [hdue, State.proposeExchange_of_allowed (s.instant t) hf ha h, State.instant_rdn]
    · exact State.proposeExchange_of_not_allowed (s.instant t) hf ha h

end Sys2Proof.Machine
end

section
/-! What each command leaves unchanged (spec/04_sensor_intake.md, spec/05, spec/09, spec/12 to spec/17, spec/19 to
spec/25): host commands by the meaning that they share, every other row by its own law. Every command answers. -/

namespace Sys2Proof.Machine
open Sys2Proof

/-- The rows of the host commands share one meaning, which touches the command's parts alone (R419, R420, R423). -/
theorem touchesOnly_of_hostCommand {t : Nat} {h : CmdHdr} {c : HostCmd} {i : Instr} {ps : List Part}
    (hi : ∀ s, exec i s = .next (s.hostCommand t h c)) (hp : cmdParts c = ps) : TouchesOnly ps i := by
  subst hp
  intro s u hu
  rw [hi] at hu
  obtain rfl := Host.Outcome.next.inj hu
  exact .of_blank (State.hostCommand_blank_cmd t h c s fun p hm => List.contains_iff_mem.mpr hm)

/-- Settles O10: each row is the shared meaning of a host command, at its own parameters. -/
theorem frameHostCommands : Obligations.FrameHostCommands := by
  unfold Obligations.FrameHostCommands
  exact ⟨fun _ _ => touchesOnly_of_hostCommand (fun _ => rfl) rfl,
    fun _ _ => touchesOnly_of_hostCommand (fun _ => rfl) rfl,
    fun _ _ _ => touchesOnly_of_hostCommand (fun _ => rfl) rfl,
    fun _ _ => touchesOnly_of_hostCommand (fun _ => rfl) rfl,
    fun _ _ => touchesOnly_of_hostCommand (fun _ => rfl) rfl,
    fun _ _ _ _ => touchesOnly_of_hostCommand (fun _ => rfl) rfl,
    fun _ _ _ => touchesOnly_of_hostCommand (fun _ => rfl) rfl,
    fun _ _ _ _ _ _ _ => touchesOnly_of_hostCommand (fun _ => rfl) rfl,
    fun _ _ => touchesOnly_of_hostCommand (fun _ => rfl) rfl,
    fun _ _ _ _ _ => touchesOnly_of_hostCommand (fun _ => rfl) rfl,
    fun _ _ _ _ => touchesOnly_of_hostCommand (fun _ => rfl) rfl,
    fun _ _ _ _ _ _ => touchesOnly_of_hostCommand (fun _ => rfl) rfl,
    fun _ _ _ => touchesOnly_of_hostCommand (fun _ => rfl) rfl,
    fun _ _ => touchesOnly_of_hostCommand (fun _ => rfl) rfl,
    fun _ _ _ _ => touchesOnly_of_hostCommand (fun _ => rfl) rfl,
    fun _ _ _ _ _ _ _ => touchesOnly_of_hostCommand (fun _ => rfl) rfl,
    fun _ _ _ => touchesOnly_of_hostCommand (fun _ => rfl) rfl,
    fun _ _ _ => touchesOnly_of_hostCommand (fun _ => rfl) rfl,
    fun _ _ _ _ _ _ => touchesOnly_of_hostCommand (fun _ => rfl) rfl,
    fun _ _ => touchesOnly_of_hostCommand (fun _ => rfl) rfl,
    fun _ _ _ _ => touchesOnly_of_hostCommand (fun _ => rfl) rfl,
    fun _ _ => touchesOnly_of_hostCommand (fun _ => rfl) rfl,
    fun _ _ => touchesOnly_of_hostCommand (fun _ => rfl) rfl,
    fun _ _ => touchesOnly_of_hostCommand (fun _ => rfl) rfl,
    fun _ _ _ _ => touchesOnly_of_hostCommand (fun _ => rfl) rfl,
    fun _ _ _ _ => touchesOnly_of_hostCommand (fun _ => rfl) rfl,
    fun _ _ => touchesOnly_of_hostCommand (fun _ => rfl) rfl,
    fun _ _ => touchesOnly_of_hostCommand (fun _ => rfl) rfl,
    fun _ _ _ => touchesOnly_of_hostCommand (fun _ => rfl) rfl,
    fun _ _ _ _ _ => touchesOnly_of_hostCommand (fun _ => rfl) rfl,
    fun _ _ _ => touchesOnly_of_hostCommand (fun _ => rfl) rfl,
    fun _ _ => touchesOnly_of_hostCommand (fun _ => rfl) rfl,
    fun _ _ => touchesOnly_of_hostCommand (fun _ => rfl) rfl,
    fun _ _ _ _ _ => touchesOnly_of_hostCommand (fun _ => rfl) rfl,
    fun _ _ _ _ => touchesOnly_of_hostCommand (fun _ => rfl) rfl,
    fun _ _ _ _ _ _ => touchesOnly_of_hostCommand (fun _ => rfl) rfl,
    fun _ _ _ _ _ => touchesOnly_of_hostCommand (fun _ => rfl) rfl,
    fun _ _ _ _ _ _ => touchesOnly_of_hostCommand (fun _ => rfl) rfl,
    fun _ _ _ _ => touchesOnly_of_hostCommand (fun _ => rfl) rfl,
    fun _ _ _ => touchesOnly_of_hostCommand (fun _ => rfl) rfl,
    fun _ _ _ _ => touchesOnly_of_hostCommand (fun _ => rfl) rfl,
    fun _ _ _ _ => touchesOnly_of_hostCommand (fun _ => rfl) rfl,
    fun _ _ _ _ => touchesOnly_of_hostCommand (fun _ => rfl) rfl⟩

/-- Settles O12: each row by the law of its operations that says what they can change. -/
theorem frameIntakeAndGnss : Obligations.FrameIntakeAndGnss := by
  unfold Obligations.FrameIntakeAndGnss
  exact ⟨fun _ _ _ _ h => .of_blank (by apply execSentenceStartStamp_blank (h := h) <;> rfl),
    fun _ _ _ _ _ h => .of_blank (by apply execSentenceReceived_blank (h := h) <;> rfl),
    fun _ _ _ _ h => .of_blank (by apply execUartFramingError_blank (h := h) <;> rfl),
    fun _ _ _ _ _ _ h => .of_blank (by apply execNetworkSentenceRx_blank (h := h) <;> rfl),
    fun _ _ _ _ h => .of_blank (by apply execImuSyncPulse_blank (h := h) <;> rfl),
    fun _ _ _ _ h => .of_blank (by apply execImuDrdyEdge_blank (h := h) <;> rfl),
    fun _ _ _ _ _ h => .of_blank (by apply execImuFrameRead_blank (h := h) <;> rfl),
    fun _ _ _ _ h => .of_blank (by apply execImuDrdyTimeout_blank (h := h) <;> rfl),
    fun _ _ _ _ _ _ h => .of_blank (by apply execAnalogOutput_blank (h := h) <;> rfl),
    fun _ _ _ _ h => .of_blank (by apply execAnalogStepDetected_blank (h := h) <;> rfl),
    fun _ _ _ _ h => .of_blank (by apply execQuoinEntrySilent_blank (h := h) <;> rfl),
    fun _ _ _ _ _ h => .of_blank (by apply execIntakeRecordsRx_blank (h := h) <;> rfl),
    fun _ _ _ _ _ h => .of_blank (by apply execForwardedPointsRx_blank (h := h) <;> rfl),
    fun _ _ _ _ _ h => .of_blank (by apply execAntennaSupplyFault_blank (h := h) <;> rfl),
    fun _ _ _ _ h => .of_blank (by apply execAntennaSupplyRetry_blank (h := h) <;> rfl),
    fun _ _ _ _ h => .of_blank (by apply execChannelAssignRevision_blank (h := h) <;> rfl),
    fun _ _ _ _ _ h => .of_blank (by apply execCarrierContinuityLoss_blank (h := h) <;> rfl),
    fun _ _ _ _ _ _ h => .of_blank (by apply execNotchAnalysis_blank (h := h) <;> rfl),
    fun _ _ _ _ h => .of_blank (by apply execNotchRelease_blank (h := h) <;> rfl),
    fun _ _ _ _ h => .of_blank (by apply execSpoofClear_blank (h := h) <;> rfl),
    fun _ _ _ h => .of_blank (by apply execCorrectionLapse_blank (h := h) <;> rfl)⟩

/-- Settles O13: each row by the law of its operations that says what they can change. -/
theorem frameTimeAndRedundancy : Obligations.FrameTimeAndRedundancy := by
  unfold Obligations.FrameTimeAndRedundancy
  exact ⟨fun _ _ _ _ h => .of_blank (by apply execSourceOffsetMeasure_blank (h := h) <;> rfl),
    fun _ _ _ _ h => .of_blank (by apply execSourceQualified_blank (h := h) <;> rfl),
    fun _ _ _ _ h => .of_blank (by apply execSourceLost_blank (h := h) <;> rfl),
    fun _ _ _ _ h => .of_blank (by apply execSourceRevert_blank (h := h) <;> rfl),
    fun _ _ _ h => .of_blank (by apply execHoldoverLimitCrossed_blank (h := h) <;> rfl),
    fun _ _ _ h => .of_blank (by apply execPpsEdge_blank (h := h) <;> rfl),
    fun _ _ _ h => .of_blank (by apply execExtPpsEdge_blank (h := h) <;> rfl),
    fun _ _ _ _ _ h => .of_blank (by apply execCaptureEdge_blank (h := h) <;> rfl),
    fun _ _ _ _ _ h => .of_blank (by apply execPtpMessageRx_blank (h := h) <;> rfl),
    fun _ _ _ _ h => .of_blank (by apply execPtpMasterTx_blank (h := h) <;> rfl),
    fun _ _ _ _ h => .of_blank (by apply execPtpAnnounceTimeout_blank (h := h) <;> rfl),
    fun _ _ _ _ h => .of_blank (by apply execPtpDelayRequestTx_blank (h := h) <;> rfl),
    fun _ _ _ _ h => .of_blank (by apply execExt10mPresenceChange_blank (h := h) <;> rfl),
    fun _ _ _ _ h => .of_blank (by apply execLockstepMismatch_blank (h := h) <;> rfl),
    fun _ _ _ _ _ h => .of_blank (by apply execFeedOutOfRange_blank (h := h) <;> rfl),
    fun _ _ _ _ _ h => .of_blank (by apply execFeedRestored_blank (h := h) <;> rfl),
    fun _ _ _ _ _ h => .of_blank (by apply execPairMessageRx_blank (h := h) <;> rfl),
    fun _ _ _ _ _ h => .of_blank (by apply execHeartbeatRx_blank (h := h) <;> rfl),
    fun _ _ _ _ _ h => .of_blank (by apply execUrgentYieldRx_blank (h := h) <;> rfl),
    fun _ _ _ _ _ h => .of_blank (by apply execRemovalMaskRx_blank (h := h) <;> rfl),
    fun _ _ _ _ h => .of_blank (by apply execResyncStart_blank (h := h) <;> rfl),
    fun _ _ _ _ _ h => .of_blank (by apply execStateImagePieceRx_blank (h := h) <;> rfl),
    fun _ _ _ _ h => .of_blank (by apply execResyncInstall_blank (h := h) <;> rfl),
    fun _ _ _ h => .of_blank (by apply execResyncTimeout_blank (h := h) <;> rfl),
    fun _ _ _ h => .of_blank (by apply execResyncRetry_blank (h := h) <;> rfl)⟩

/-- Settles O14: each row by the law of its operations that says what they can change. -/
theorem frameButtressNetworksAndCan : Obligations.FrameButtressNetworksAndCan := by
  unfold Obligations.FrameButtressNetworksAndCan
  exact ⟨fun _ _ _ _ _ _ h => .of_blank (by apply execButtressCourse_blank (h := h) <;> rfl),
    fun _ _ _ _ h => .of_blank (by apply execDiscrepancyFault_blank (h := h) <;> rfl),
    fun _ _ _ _ _ h => .of_blank (by apply execOutputStartupTest_blank (h := h) <;> rfl),
    fun _ _ _ h => .of_blank (by apply execOutputTestStart_blank (h := h) <;> rfl),
    fun _ _ _ _ _ h => .of_blank (by apply execOutputTestEnd_blank (h := h) <;> rfl),
    fun _ _ _ _ _ h => .of_blank (by apply execDegradedLimit_blank (h := h) <;> rfl),
    fun _ _ _ h => .of_blank (by apply execIslandFault_blank (h := h) <;> rfl),
    fun _ _ _ h => .of_blank (by apply execButtressBeatLoss_blank (h := h) <;> rfl),
    fun _ _ _ _ _ h => .of_blank (by apply execSafetyFrameRx_blank (h := h) <;> rfl),
    fun _ _ _ _ h => .of_blank (by apply execSafetyCopyTimeout_blank (h := h) <;> rfl),
    fun _ _ _ _ h => .of_blank (by apply execRemoteSourceLost_blank (h := h) <;> rfl),
    fun _ _ _ _ _ h => .of_blank (by apply execSafeOutputCurrentLimit_blank (h := h) <;> rfl),
    fun _ _ _ _ _ _ h => .of_blank (by apply execZwiluxDataRx_blank (h := h) <;> rfl),
    fun _ _ _ _ _ _ h => .of_blank (by apply execZwiluxCommandRx_blank (h := h) <;> rfl),
    fun _ _ _ _ _ _ h => .of_blank (by apply execZwiluxReadRx_blank (h := h) <;> rfl),
    fun _ _ _ _ h => .of_blank (by apply execRouteEntryStale_blank (h := h) <;> rfl),
    fun _ _ _ _ h => .of_blank (by apply execStreamPendingPost_blank (h := h) <;> rfl),
    fun _ _ _ _ _ h => .of_blank (by apply execNetLinkChange_blank (h := h) <;> rfl),
    fun _ _ _ _ _ _ h => .of_blank (by apply execIcmpEchoRequest_blank (h := h) <;> rfl),
    fun _ _ _ _ _ _ h => .of_blank (by apply execArpRequest_blank (h := h) <;> rfl),
    fun _ _ _ _ _ _ h => .of_blank (by apply execIgmpQueryRx_blank (h := h) <;> rfl),
    fun _ _ _ _ _ _ _ _ _ h => .of_blank (by apply execCanFrameRx_blank (h := h) <;> rfl),
    fun _ _ _ _ h => .of_blank (by apply execCanReasmTimeout_blank (h := h) <;> rfl),
    fun _ _ _ _ _ _ _ h => .of_blank (by apply execCanTxAttemptEnd_blank (h := h) <;> rfl),
    fun _ _ _ _ h => .of_blank (by apply execCanBusoffWaitExpiry_blank (h := h) <;> rfl),
    fun _ _ _ _ h => .of_blank (by apply execCanRecoveryDone_blank (h := h) <;> rfl),
    fun _ _ _ _ _ _ _ h => .of_blank (by apply execCanRxError_blank (h := h) <;> rfl)⟩

/-- Settles O15: each row by the law of its operations that says what they can change. -/
theorem frameSolverMemoryAndRecorder : Obligations.FrameSolverMemoryAndRecorder := by
  unfold Obligations.FrameSolverMemoryAndRecorder
  exact ⟨fun _ _ _ _ h => .of_blank (by apply execProblemSubmit_blank (h := h) <;> rfl),
    fun _ _ _ h => .of_blank (by apply execFeedListMove_blank (h := h) <;> rfl),
    fun _ _ _ h => .of_blank (by apply execLaneTake_blank (h := h) <;> rfl),
    fun _ _ _ _ h => .of_blank (by apply execProblemRelease_blank (h := h) <;> rfl),
    fun _ _ _ _ h => .of_blank (by apply execProblemLate_blank (h := h) <;> rfl),
    fun _ _ _ _ _ h => .of_blank (by apply execLaneKat_blank (h := h) <;> rfl),
    fun _ _ _ h => .of_blank (by apply execArrayComparatorMismatch_blank (h := h) <;> rfl),
    fun _ _ _ _ h => .of_blank (by apply execBallastValveFault_blank (h := h) <;> rfl),
    fun _ _ _ _ h => .of_blank (by apply execBallastPumpFault_blank (h := h) <;> rfl),
    fun _ _ _ _ h => .of_blank (by apply execLogIdentify_blank (h := h) <;> rfl),
    fun _ _ _ _ h => .of_blank (by apply execLogProgramDone_blank (h := h) <;> rfl),
    fun _ _ _ _ h => .of_blank (by apply execLogReidentify_blank (h := h) <;> rfl),
    fun _ _ _ _ h => .of_blank (by apply execLogEraseDone_blank (h := h) <;> rfl),
    fun _ _ _ h => .of_blank (by apply execMasonMarkSave_blank (h := h) <;> rfl),
    fun _ _ _ _ _ _ h => .of_blank (by apply execBankHandover_blank (h := h) <;> rfl),
    fun _ _ _ _ h => .of_blank (by apply execBankWake_blank (h := h) <;> rfl),
    fun _ _ _ _ _ h => .of_blank (by apply execMarchSliceAbort_blank (h := h) <;> rfl),
    fun _ _ _ _ h => .of_blank (by apply execMarchPassOverdue_blank (h := h) <;> rfl),
    fun _ _ _ _ _ h => .of_blank (by apply execEccUncorrectable_blank (h := h) <;> rfl),
    fun _ _ _ _ _ _ _ _ h => .of_blank (by apply execMortarWriteCollision_blank (h := h) <;> rfl),
    fun _ _ _ _ _ h => .of_blank (by apply execScrubberRead_blank (h := h) <;> rfl)⟩

/-- Settles O16: each row by the law of its operations that says what they can change. -/
theorem frameClocksPowerAndCascade : Obligations.FrameClocksPowerAndCascade := by
  unfold Obligations.FrameClocksPowerAndCascade
  exact ⟨fun _ _ _ _ h => .of_blank (by apply execClockRunningAgain_blank (h := h) <;> rfl),
    fun _ _ _ _ _ _ h => .of_blank (by apply execCrossingTimeout_blank (h := h) <;> rfl),
    fun _ _ _ _ _ h => .of_blank (by apply execCrossingReset_blank (h := h) <;> rfl),
    fun _ _ _ h => .of_blank (by apply execPartResetRelease_blank (h := h) <;> rfl),
    fun _ _ _ _ _ _ h => .of_blank (by apply execHoldChargeComplete_blank (h := h) <;> rfl),
    fun _ _ _ _ h => .of_blank (by apply execHoldTest_blank (h := h) <;> rfl),
    fun _ _ _ _ _ h => .of_blank (by apply execVbatLow_blank (h := h) <;> rfl),
    fun _ _ _ _ _ h => .of_blank (by apply execFeedQualified_blank (h := h) <;> rfl),
    fun _ _ _ _ _ h => .of_blank (by apply execBootDone_blank (h := h) <;> rfl),
    fun _ _ _ h => .of_blank (by apply execPwrBootGo_blank (h := h) <;> rfl),
    fun _ _ _ _ h => .of_blank (by apply execFwAuthDone_blank (h := h) <;> rfl),
    fun _ _ _ _ _ h => .of_blank (by apply execSelftestDone_blank (h := h) <;> rfl),
    fun _ _ _ h => .of_blank (by apply execRestoreDone_blank (h := h) <;> rfl),
    fun _ _ _ _ _ h => .of_blank (by apply execLinkPortChange_blank (h := h) <;> rfl),
    fun _ _ _ _ _ h => .of_blank (by apply execCableDelayMeasure_blank (h := h) <;> rfl),
    fun _ _ _ _ _ _ _ h => .of_blank (by apply execTickMarkerRx_blank (h := h) <;> rfl),
    fun _ _ _ _ _ _ _ h => .of_blank (by apply execBeaconRx_blank (h := h) <;> rfl),
    fun _ _ _ _ h => .of_blank (by apply execMasterLoss_blank (h := h) <;> rfl),
    fun _ _ _ _ _ h => .of_blank (by apply execCaseVerdictsRx_blank (h := h) <;> rfl),
    fun _ _ _ _ _ h => .of_blank (by apply execSharedPointBlockRx_blank (h := h) <;> rfl),
    fun _ _ _ _ _ h => .of_blank (by apply execSharedBlockStale_blank (h := h) <;> rfl)⟩

/-- Settles O17: each row by the law of its operations that says what they can change. -/
theorem frameSecurityAndRegisterWrites : Obligations.FrameSecurityAndRegisterWrites := by
  unfold Obligations.FrameSecurityAndRegisterWrites
  exact ⟨fun _ _ _ _ h => .of_blank (by apply execOtpReadIdentity_blank (h := h) <;> rfl),
    fun _ _ _ _ h => .of_blank (by apply execOtpReadKey_blank (h := h) <;> rfl),
    fun _ _ _ _ h => .of_blank (by apply execOtpWriteIdentity_blank (h := h) <;> rfl),
    fun _ _ _ _ h => .of_blank (by apply execOtpWriteKey_blank (h := h) <;> rfl),
    fun _ _ _ _ h => .of_blank (by apply execOtpRevokeKey_blank (h := h) <;> rfl),
    fun _ _ _ _ h => .of_blank (by apply execOtpRevokeFwKey_blank (h := h) <;> rfl),
    fun _ _ _ _ h => .of_blank (by apply execOtpBindSeal_blank (h := h) <;> rfl),
    fun _ _ _ _ h => .of_blank (by apply execOtpRaiseVersion_blank (h := h) <;> rfl),
    fun _ _ _ _ h => .of_blank (by apply execOtpOperationDone_blank (h := h) <;> rfl),
    fun _ _ _ h => .of_blank (by apply execLockAll_blank (h := h) <;> rfl),
    fun _ _ _ _ h => .of_blank (by apply execLockSet_blank (h := h) <;> rfl),
    fun _ _ _ _ h => .of_blank (by apply execLogFormat_blank (h := h) <;> rfl),
    fun _ _ _ h => .of_blank (by apply execCrsTblIndexWrite_blank (h := h) <;> rfl),
    fun _ _ _ h => .of_blank (by apply execSniEntryWrite_blank (h := h) <;> rfl),
    fun _ _ _ h => .of_blank (by apply execGnsNotchSelWrite_blank (h := h) <;> rfl),
    fun _ _ _ h => .of_blank (by apply execVslLaneSelWrite_blank (h := h) <;> rfl),
    fun _ _ _ h => .of_blank (by apply execPntSelWrite_blank (h := h) <;> rfl),
    fun _ _ _ _ h => .of_blank (by apply execTimLatchWrite_blank (h := h) <;> rfl),
    fun _ _ _ h => .of_blank (by apply execTimCapSelWrite_blank (h := h) <;> rfl),
    fun _ _ _ h => .of_blank (by apply execMemBankSelWrite_blank (h := h) <;> rfl),
    fun _ _ _ h => .of_blank (by apply execGlbXselWrite_blank (h := h) <;> rfl),
    fun _ _ _ _ _ h => .of_blank (by apply execCanSingleClear_blank (h := h) <;> rfl),
    fun _ _ _ _ _ h => .of_blank (by apply execCounterClear_blank (h := h) <;> rfl),
    fun _ _ _ _ _ h => .of_blank (by apply execPeakClear_blank (h := h) <;> rfl)⟩

/-- The row that writes any register, by its offset. -/
def isRegisterWrite : Instr → Bool
  | .registerWrite _ _ _ _ => true
  | _ => false

/-- REGISTER_WRITE has no effect, is the write of a register without a row of its own or one with partial byte enables,
or has the meaning of the row that its offset names (R548, R549). -/
theorem exec_registerWrite_elim {P : Host.Outcome State Fault Refusal → Prop} (t offset be : Nat) (w : Word) (s : State)
    (h_none : ∀ u, u = s ∨ u = s.instant t → P (.next u))
    (h_plain : ∀ v : State → Word, P (.next ((s.instant t).barWrite offset fun s => s.writePlain offset (v s))))
    (h_partial : P (.next ((s.instant t).partialWrite offset)))
    (h_row : ∀ i u, isRegisterWrite i = false → u = s ∨ u = s.instant t → P (exec i u)) :
    P (exec (.registerWrite t offset be w) s) := by
  unfold exec execRegisterWrite
  refine iteInduction (fun _ => h_none _ (.inl rfl)) fun _ => iteInduction (fun _ => h_plain _) fun _ =>
    iteInduction (fun _ => h_partial) fun _ => ?_
  split
  · exact h_row (.lockSet _ w) _ rfl (.inr rfl)
  refine iteInduction (fun _ => h_row (.counterClear t offset w) _ rfl (.inl rfl)) fun _ =>
    iteInduction (fun _ => h_row (.doorbellWrite t _ w) _ rfl (.inl rfl)) fun _ =>
    iteInduction (fun _ => h_row (.glbXselWrite w) _ rfl (.inr rfl)) fun _ =>
    iteInduction (fun _ => h_row (.glbResetWrite w) _ rfl (.inr rfl)) fun _ =>
    iteInduction (fun _ => ?otp) fun _ =>
    iteInduction (fun _ => h_row (.lockAll w) _ rfl (.inr rfl)) fun _ =>
    iteInduction (fun _ => h_row (.ringEnable t w) _ rfl (.inl rfl)) fun _ =>
    iteInduction (fun _ => h_row (.crsTblIndexWrite w) _ rfl (.inr rfl)) fun _ =>
    iteInduction (fun _ => h_row (.memBankSelWrite w) _ rfl (.inr rfl)) fun _ =>
    iteInduction (fun _ => h_row (.timLatchWrite t w) _ rfl (.inl rfl)) fun _ =>
    iteInduction (fun _ => h_row (.timCapSelWrite w) _ rfl (.inr rfl)) fun _ =>
    iteInduction (fun _ => h_row (.gnsNotchSelWrite w) _ rfl (.inr rfl)) fun _ =>
    iteInduction (fun _ => h_row (.sniEntryWrite w) _ rfl (.inr rfl)) fun _ =>
    iteInduction (fun _ => h_row (.vslLaneSelWrite w) _ rfl (.inr rfl)) fun _ =>
    iteInduction (fun _ => h_row (.pntSelWrite w) _ rfl (.inr rfl)) fun _ =>
    iteInduction (fun _ => h_row (.canSingleClear t 0 w) _ rfl (.inl rfl)) fun _ =>
    iteInduction (fun _ => h_row (.canSingleClear t 1 w) _ rfl (.inl rfl)) fun _ =>
    iteInduction (fun _ => h_row (.canSingleClear t 2 w) _ rfl (.inl rfl)) fun _ =>
    iteInduction (fun _ => h_row (.pwrBootGo w) _ rfl (.inr rfl)) fun _ =>
    iteInduction (fun _ => h_row (.logFormat t w) _ rfl (.inl rfl)) fun _ => h_plain fun _ => w
  case otp =>
    unfold writeOtpCtrl
    dsimp only
    split
    · exact h_row (.otpReadIdentity _ _) _ rfl (.inr rfl)
    · exact h_row (.otpReadKey _ _) _ rfl (.inr rfl)
    · exact h_row (.otpWriteIdentity _ _) _ rfl (.inr rfl)
    · exact h_row (.otpWriteKey _ _) _ rfl (.inr rfl)
    · exact h_row (.otpRevokeKey _ _) _ rfl (.inr rfl)
    · exact h_row (.otpRevokeFwKey _ _) _ rfl (.inr rfl)
    · exact h_row (.otpBindSeal _ _) _ rfl (.inr rfl)
    · exact h_row (.otpRaiseVersion _ _) _ rfl (.inr rfl)
    · exact h_none _ (.inr rfl)

theorem completes_of_not_registerWrite {i : Instr} (h : isRegisterWrite i = false) (s : State) : Completes i s := by
  cases i with
  | registerWrite => cases h
  | _ => exact ⟨_, rfl⟩

/-- Every meaning ends in a next state. -/
theorem completes (i : Instr) (s : State) : Completes i s := by
  cases i with
  | registerWrite t offset be w =>
    exact exec_registerWrite_elim (P := fun o => ∃ u, o = .next u) t offset be w s (fun u _ => ⟨u, rfl⟩)
      (fun _ => ⟨_, rfl⟩) ⟨_, rfl⟩ fun i u hi _ => completes_of_not_registerWrite hi u
  | _ => exact completes_of_not_registerWrite rfl s

theorem step_next (s : State) : ∃ u, step s = .next u := by
  unfold step
  split
  · exact ⟨_, rfl⟩
  · exact completes _ _

theorem safeFor (n : Nat) (s : State) : SafeFor n s := by
  induction n generalizing s with
  | zero => trivial
  | succ n ih =>
    obtain ⟨u, hu⟩ := step_next s
    exact ⟨u, hu, ih u⟩

/-- Settles O3: no meaning faults or refuses, and a run is a sequence of meanings. -/
theorem noRunStops : Obligations.NoRunStops := by
  unfold Obligations.NoRunStops
  exact ⟨completes, safeFor⟩

end Sys2Proof.Machine
end

section
/-! What only some commands change: the bytes of the memories (spec/20_on_chip_memory.md), the locks
(spec/25_register_map.md R553) and the OTP objects (spec/24_configuration_security.md R535). -/

namespace Sys2Proof.Machine
open Sys2Proof

/-- The parts among the bytes of the memories, the locks and the security state that a command may change. -/
def guardedParts : Instr → List Part
  | .dispatch .. | .caseDispatch .. | .estimate .. | .eccUncorrectable .. | .mortarWriteCollision .. | .memTestDone .. | .bootDone .. | .trim .. | .problemSubmit .. | .feedListMove .. | .laneTake .. | .problemRelease .. | .problemLate .. => [.cells]
  | .lockAll .. | .lockSet .. => [.locks]
  | .partResetRelease .. | .fwAuthDone .. | .otpBindSeal .. | .otpRaiseVersion .. | .otpReadIdentity .. | .otpReadKey .. | .otpRevokeFwKey .. | .otpRevokeKey .. | .otpWriteIdentity .. | .otpWriteKey .. | .otpOperationDone .. => [.sec]
  | .clockStopped .. | .resetNAssert .. | .plinthWatchdogExpiry .. | .corePllLockLoss .. | .powerOnReset .. | .partReset .. | .glbResetWrite .. | .holdupSaveStart .. | .holdupSaveEnd .. | .registerWrite .. => [.cells, .locks, .sec]
  | _ => []

/-- What is left out to compare the bytes, the locks and the security state, but for these parts. -/
def guardedBut (ps : List Part) : Part → Bool := fun p => ps.contains p || keepOnly [.cells, .locks, .sec] p

theorem guarded_not_mem_cmdParts (c : HostCmd) : .cells ∉ cmdParts c ∧ .locks ∉ cmdParts c ∧ .sec ∉ cmdParts c := by
  cases c <;> simp [cmdParts]

theorem guardedBut_of_mem_cmdParts {c : HostCmd} {p : Part} (h : p ∈ cmdParts c) : guardedBut [] p = true := by
  obtain ⟨hcells, hlocks, hsec⟩ := guarded_not_mem_cmdParts c
  cases p with
  | cells => exact absurd h hcells
  | locks => exact absurd h hlocks
  | sec => exact absurd h hsec
  | _ => rfl

section
variable {i : Instr} {s u : State}

/-- Command by command, what its own law leaves unchanged of the bytes, the locks and the security state. -/
theorem exec_blank_guardedBut (h : exec i s = .next u) :
    u.blank (guardedBut (guardedParts i)) = s.blank (guardedBut (guardedParts i)) := by
  cases i with
  | nop | imageLoad | imageActivate | imageDiscard | imageQuery | analogTest | gnssCorrection | gnssSnapshot
  | gnssQuery | gridOrigin | refEnable | refTarget | refStatus | estQuery | dpMode | setpoint | gainSelect | trackLoad
  | berthSet | ctrlQuery | thrusterEnable | allocQuery | conseqQuery | envelopeQuery | trimStart | trimSet | trimStop
  | trimQuery | timeStepAccept | timeSet | timeLeap | claimResume | roleExchange | btrReset | btrOutput | pointWrite
  | streamSet | canSend | canAbort | canRecover | canMode | logRead | memTest =>
    obtain rfl := Host.Outcome.next.inj h
    exact State.hostCommand_blank_cmd _ _ _ _ fun _ => guardedBut_of_mem_cmdParts
  | courseTick => apply execCourseTick_blank (h := h) <;> rfl
  | frameTick => apply execFrameTick_blank (h := h) <;> rfl
  | substituteTick => apply execSubstituteTick_blank (h := h) <;> rfl
  | tickPhaseSlewEnd => apply execTickPhaseSlewEnd_blank (h := h) <;> rfl
  | deadlineMiss => apply execDeadlineMiss_blank (h := h) <;> rfl
  | align => apply execAlign_blank (h := h) <;> rfl
  | estimate => apply execEstimate_blank (h := h) <;> rfl
  | vote => apply execVote_blank (h := h) <;> rfl
  | refSilent => apply execRefSilent_blank (h := h) <;> rfl
  | refReadmissionComplete => apply execRefReadmissionComplete_blank (h := h) <;> rfl
  | bootstrapAdmission => apply execBootstrapAdmission_blank (h := h) <;> rfl
  | classCoastTimeout => apply execClassCoastTimeout_blank (h := h) <;> rfl
  | law => apply execLaw_blank (h := h) <;> rfl
  | joystickLost => apply execJoystickLost_blank (h := h) <;> rfl
  | gainAutoEvaluation => apply execGainAutoEvaluation_blank (h := h) <;> rfl
  | currentReport => apply execCurrentReport_blank (h := h) <;> rfl
  | dispatch => apply execDispatch_blank (h := h) <;> rfl
  | caseDispatch => apply execCaseDispatch_blank (h := h) <;> rfl
  | release => apply execRelease_blank (h := h) <;> rfl
  | availPointStale => apply execAvailPointStale_blank (h := h) <;> rfl
  | digest => apply execDigest_blank (h := h) <;> rfl
  | pairCompare => apply execPairCompare_blank (h := h) <;> rfl
  | keystone => apply execKeystone_blank (h := h) <;> rfl
  | confirm => apply execConfirm_blank (h := h) <;> rfl
  | confirmMiss => apply execConfirmMiss_blank (h := h) <;> rfl
  | postPoints => apply execPostPoints_blank (h := h) <;> rfl
  | postLog => apply execPostLog_blank (h := h) <;> rfl
  | caseCollect => apply execCaseCollect_blank (h := h) <;> rfl
  | envCollect => apply execEnvCollect_blank (h := h) <;> rfl
  | conseqReport => apply execConseqReport_blank (h := h) <;> rfl
  | trim => apply execTrim_blank (h := h) <;> rfl
  | gnssNav => apply execGnssNav_blank (h := h) <;> rfl
  | host => apply execHost_blank (h := h) <;> rfl
  | descriptorPhaseTimeout => apply execDescriptorPhaseTimeout_blank (h := h) <;> rfl
  | net => apply execNet_blank (h := h) <;> rfl
  | supervise => apply execSupervise_blank (h := h) <;> rfl
  | recorder => apply execRecorder_blank (h := h) <;> rfl
  | march => apply execMarch_blank (h := h) <;> rfl
  | completionPost => apply execCompletionPost_blank (h := h) <;> rfl
  | msixModerationExpiry => apply execMsixModerationExpiry_blank (h := h) <;> rfl
  | imageVerifyDone => apply execImageVerifyDone_blank (h := h) <;> rfl
  | imageActivationTick => apply execImageActivationTick_blank (h := h) <;> rfl
  | imageDiscardStop => apply execImageDiscardStop_blank (h := h) <;> rfl
  | snapshotCaptureStart => apply execSnapshotCaptureStart_blank (h := h) <;> rfl
  | snapshotCaptureDone => apply execSnapshotCaptureDone_blank (h := h) <;> rfl
  | readinessRegained => apply execReadinessRegained_blank (h := h) <;> rfl
  | exchangeProposalDue => apply execExchangeProposalDue_blank (h := h) <;> rfl
  | memTestDone => apply execMemTestDone_blank (h := h) <;> rfl
  | sentenceStartStamp => apply execSentenceStartStamp_blank (h := h) <;> rfl
  | sentenceReceived => apply execSentenceReceived_blank (h := h) <;> rfl
  | imuSyncPulse => apply execImuSyncPulse_blank (h := h) <;> rfl
  | imuDrdyEdge => apply execImuDrdyEdge_blank (h := h) <;> rfl
  | imuFrameRead => apply execImuFrameRead_blank (h := h) <;> rfl
  | imuDrdyTimeout => apply execImuDrdyTimeout_blank (h := h) <;> rfl
  | analogOutput => apply execAnalogOutput_blank (h := h) <;> rfl
  | analogStepDetected => apply execAnalogStepDetected_blank (h := h) <;> rfl
  | quoinEntrySilent => apply execQuoinEntrySilent_blank (h := h) <;> rfl
  | networkSentenceRx => apply execNetworkSentenceRx_blank (h := h) <;> rfl
  | canFrameRx => apply execCanFrameRx_blank (h := h) <;> rfl
  | canReasmTimeout => apply execCanReasmTimeout_blank (h := h) <;> rfl
  | canTxAttemptEnd => apply execCanTxAttemptEnd_blank (h := h) <;> rfl
  | canBusoffWaitExpiry => apply execCanBusoffWaitExpiry_blank (h := h) <;> rfl
  | canRecoveryDone => apply execCanRecoveryDone_blank (h := h) <;> rfl
  | antennaSupplyFault => apply execAntennaSupplyFault_blank (h := h) <;> rfl
  | antennaSupplyRetry => apply execAntennaSupplyRetry_blank (h := h) <;> rfl
  | channelAssignRevision => apply execChannelAssignRevision_blank (h := h) <;> rfl
  | carrierContinuityLoss => apply execCarrierContinuityLoss_blank (h := h) <;> rfl
  | notchAnalysis => apply execNotchAnalysis_blank (h := h) <;> rfl
  | notchRelease => apply execNotchRelease_blank (h := h) <;> rfl
  | spoofClear => apply execSpoofClear_blank (h := h) <;> rfl
  | correctionLapse => apply execCorrectionLapse_blank (h := h) <;> rfl
  | sourceOffsetMeasure => apply execSourceOffsetMeasure_blank (h := h) <;> rfl
  | sourceQualified => apply execSourceQualified_blank (h := h) <;> rfl
  | sourceLost => apply execSourceLost_blank (h := h) <;> rfl
  | sourceRevert => apply execSourceRevert_blank (h := h) <;> rfl
  | holdoverLimitCrossed => apply execHoldoverLimitCrossed_blank (h := h) <;> rfl
  | ppsEdge => apply execPpsEdge_blank (h := h) <;> rfl
  | extPpsEdge => apply execExtPpsEdge_blank (h := h) <;> rfl
  | captureEdge => apply execCaptureEdge_blank (h := h) <;> rfl
  | ptpMessageRx => apply execPtpMessageRx_blank (h := h) <;> rfl
  | ptpMasterTx => apply execPtpMasterTx_blank (h := h) <;> rfl
  | lockstepMismatch => apply execLockstepMismatch_blank (h := h) <;> rfl
  | feedOutOfRange => apply execFeedOutOfRange_blank (h := h) <;> rfl
  | pairMessageRx => apply execPairMessageRx_blank (h := h) <;> rfl
  | heartbeatRx => apply execHeartbeatRx_blank (h := h) <;> rfl
  | urgentYieldRx => apply execUrgentYieldRx_blank (h := h) <;> rfl
  | removalMaskRx => apply execRemovalMaskRx_blank (h := h) <;> rfl
  | resyncStart => apply execResyncStart_blank (h := h) <;> rfl
  | stateImagePieceRx => apply execStateImagePieceRx_blank (h := h) <;> rfl
  | resyncInstall => apply execResyncInstall_blank (h := h) <;> rfl
  | resyncTimeout => apply execResyncTimeout_blank (h := h) <;> rfl
  | resyncRetry => apply execResyncRetry_blank (h := h) <;> rfl
  | buttressCourse => apply execButtressCourse_blank (h := h) <;> rfl
  | discrepancyFault => apply execDiscrepancyFault_blank (h := h) <;> rfl
  | outputStartupTest => apply execOutputStartupTest_blank (h := h) <;> rfl
  | outputTestStart => apply execOutputTestStart_blank (h := h) <;> rfl
  | outputTestEnd => apply execOutputTestEnd_blank (h := h) <;> rfl
  | degradedLimit => apply execDegradedLimit_blank (h := h) <;> rfl
  | islandFault => apply execIslandFault_blank (h := h) <;> rfl
  | buttressBeatLoss => apply execButtressBeatLoss_blank (h := h) <;> rfl
  | safetyFrameRx => apply execSafetyFrameRx_blank (h := h) <;> rfl
  | safetyCopyTimeout => apply execSafetyCopyTimeout_blank (h := h) <;> rfl
  | remoteSourceLost => apply execRemoteSourceLost_blank (h := h) <;> rfl
  | zwiluxDataRx => apply execZwiluxDataRx_blank (h := h) <;> rfl
  | zwiluxCommandRx => apply execZwiluxCommandRx_blank (h := h) <;> rfl
  | zwiluxReadRx => apply execZwiluxReadRx_blank (h := h) <;> rfl
  | routeEntryStale => apply execRouteEntryStale_blank (h := h) <;> rfl
  | streamPendingPost => apply execStreamPendingPost_blank (h := h) <;> rfl
  | netLinkChange => apply execNetLinkChange_blank (h := h) <;> rfl
  | icmpEchoRequest => apply execIcmpEchoRequest_blank (h := h) <;> rfl
  | arpRequest => apply execArpRequest_blank (h := h) <;> rfl
  | doorbellWrite => apply execDoorbellWrite_blank (h := h) <;> rfl
  | ringEnable => apply execRingEnable_blank (h := h) <;> rfl
  | ringReset => apply execRingReset_blank (h := h) <;> rfl
  | ringResetDone => apply execRingResetDone_blank (h := h) <;> rfl
  | hostAccessFailure => apply execHostAccessFailure_blank (h := h) <;> rfl
  | hostAccessRetry => apply execHostAccessRetry_blank (h := h) <;> rfl
  | bulkPieceWrite => apply execBulkPieceWrite_blank (h := h) <;> rfl
  | hostInterfaceReset => apply execHostInterfaceReset_blank (h := h) <;> rfl
  | problemSubmit => apply execProblemSubmit_blank (h := h) <;> rfl
  | feedListMove => apply execFeedListMove_blank (h := h) <;> rfl
  | laneTake => apply execLaneTake_blank (h := h) <;> rfl
  | problemRelease => apply execProblemRelease_blank (h := h) <;> rfl
  | problemLate => apply execProblemLate_blank (h := h) <;> rfl
  | laneKat => apply execLaneKat_blank (h := h) <;> rfl
  | arrayComparatorMismatch => apply execArrayComparatorMismatch_blank (h := h) <;> rfl
  | ballastValveFault => apply execBallastValveFault_blank (h := h) <;> rfl
  | ballastPumpFault => apply execBallastPumpFault_blank (h := h) <;> rfl
  | logIdentify => apply execLogIdentify_blank (h := h) <;> rfl
  | logProgramDone => apply execLogProgramDone_blank (h := h) <;> rfl
  | logReidentify => apply execLogReidentify_blank (h := h) <;> rfl
  | logEraseDone => apply execLogEraseDone_blank (h := h) <;> rfl
  | masonMarkSave => apply execMasonMarkSave_blank (h := h) <;> rfl
  | bankHandover => apply execBankHandover_blank (h := h) <;> rfl
  | bankWake => apply execBankWake_blank (h := h) <;> rfl
  | marchSliceAbort => apply execMarchSliceAbort_blank (h := h) <;> rfl
  | marchPassOverdue => apply execMarchPassOverdue_blank (h := h) <;> rfl
  | eccUncorrectable => apply execEccUncorrectable_blank (h := h) <;> rfl
  | mortarWriteCollision => apply execMortarWriteCollision_blank (h := h) <;> rfl
  | clockStopped => apply execClockStopped_blank (h := h) <;> rfl
  | clockRunningAgain => apply execClockRunningAgain_blank (h := h) <;> rfl
  | crossingTimeout => apply execCrossingTimeout_blank (h := h) <;> rfl
  | crossingReset => apply execCrossingReset_blank (h := h) <;> rfl
  | resetNAssert => apply execResetNAssert_blank (h := h) <;> rfl
  | plinthWatchdogExpiry => apply execPlinthWatchdogExpiry_blank (h := h) <;> rfl
  | powerOnReset => apply execPowerOnReset_blank (h := h) <;> rfl
  | partReset => apply execPartReset_blank (h := h) <;> rfl
  | partResetRelease => apply execPartResetRelease_blank (h := h) <;> rfl
  | glbResetWrite => apply execGlbResetWrite_blank (h := h) <;> rfl
  | holdupSaveStart => apply execHoldupSaveStart_blank (h := h) <;> rfl
  | holdupSaveEnd => apply execHoldupSaveEnd_blank (h := h) <;> rfl
  | holdChargeComplete => apply execHoldChargeComplete_blank (h := h) <;> rfl
  | holdTest => apply execHoldTest_blank (h := h) <;> rfl
  | vbatLow => apply execVbatLow_blank (h := h) <;> rfl
  | feedQualified => apply execFeedQualified_blank (h := h) <;> rfl
  | bootDone => apply execBootDone_blank (h := h) <;> rfl
  | pwrBootGo => apply execPwrBootGo_blank (h := h) <;> rfl
  | fwAuthDone => apply execFwAuthDone_blank (h := h) <;> rfl
  | selftestDone => apply execSelftestDone_blank (h := h) <;> rfl
  | restoreDone => apply execRestoreDone_blank (h := h) <;> rfl
  | linkPortChange => apply execLinkPortChange_blank (h := h) <;> rfl
  | cableDelayMeasure => apply execCableDelayMeasure_blank (h := h) <;> rfl
  | tickMarkerRx => apply execTickMarkerRx_blank (h := h) <;> rfl
  | memberTickApply => apply execMemberTickApply_blank (h := h) <;> rfl
  | beaconRx => apply execBeaconRx_blank (h := h) <;> rfl
  | linkJoin => apply execLinkJoin_blank (h := h) <;> rfl
  | masterLoss => apply execMasterLoss_blank (h := h) <;> rfl
  | caseVerdictsRx => apply execCaseVerdictsRx_blank (h := h) <;> rfl
  | intakeRecordsRx => apply execIntakeRecordsRx_blank (h := h) <;> rfl
  | forwardedPointsRx => apply execForwardedPointsRx_blank (h := h) <;> rfl
  | sharedPointBlockRx => apply execSharedPointBlockRx_blank (h := h) <;> rfl
  | sharedBlockStale => apply execSharedBlockStale_blank (h := h) <;> rfl
  | otpReadIdentity => apply execOtpReadIdentity_blank (h := h) <;> rfl
  | otpReadKey => apply execOtpReadKey_blank (h := h) <;> rfl
  | otpWriteIdentity => apply execOtpWriteIdentity_blank (h := h) <;> rfl
  | otpWriteKey => apply execOtpWriteKey_blank (h := h) <;> rfl
  | otpRevokeKey => apply execOtpRevokeKey_blank (h := h) <;> rfl
  | otpRevokeFwKey => apply execOtpRevokeFwKey_blank (h := h) <;> rfl
  | otpBindSeal => apply execOtpBindSeal_blank (h := h) <;> rfl
  | otpRaiseVersion => apply execOtpRaiseVersion_blank (h := h) <;> rfl
  | otpOperationDone => apply execOtpOperationDone_blank (h := h) <;> rfl
  | lockAll => apply execLockAll_blank (h := h) <;> rfl
  | lockSet => apply execLockSet_blank (h := h) <;> rfl
  | logFormat => apply execLogFormat_blank (h := h) <;> rfl
  | crsTblIndexWrite => apply execCrsTblIndexWrite_blank (h := h) <;> rfl
  | sniEntryWrite => apply execSniEntryWrite_blank (h := h) <;> rfl
  | gnsNotchSelWrite => apply execGnsNotchSelWrite_blank (h := h) <;> rfl
  | vslLaneSelWrite => apply execVslLaneSelWrite_blank (h := h) <;> rfl
  | pntSelWrite => apply execPntSelWrite_blank (h := h) <;> rfl
  | timLatchWrite => apply execTimLatchWrite_blank (h := h) <;> rfl
  | timCapSelWrite => apply execTimCapSelWrite_blank (h := h) <;> rfl
  | memBankSelWrite => apply execMemBankSelWrite_blank (h := h) <;> rfl
  | glbXselWrite => apply execGlbXselWrite_blank (h := h) <;> rfl
  | canSingleClear => apply execCanSingleClear_blank (h := h) <;> rfl
  | counterClear => apply execCounterClear_blank (h := h) <;> rfl
  | peakClear => apply execPeakClear_blank (h := h) <;> rfl
  | registerWrite => apply execRegisterWrite_blank (h := h) <;> rfl
  | uartFramingError => apply execUartFramingError_blank (h := h) <;> rfl
  | feedRestored => apply execFeedRestored_blank (h := h) <;> rfl
  | corePllLockLoss => apply execCorePllLockLoss_blank (h := h) <;> rfl
  | pcieLinkUp => apply execPcieLinkUp_blank (h := h) <;> rfl
  | ptpAnnounceTimeout => apply execPtpAnnounceTimeout_blank (h := h) <;> rfl
  | ptpDelayRequestTx => apply execPtpDelayRequestTx_blank (h := h) <;> rfl
  | igmpQueryRx => apply execIgmpQueryRx_blank (h := h) <;> rfl
  | canRxError => apply execCanRxError_blank (h := h) <;> rfl
  | scrubberRead => apply execScrubberRead_blank (h := h) <;> rfl
  | ext10mPresenceChange => apply execExt10mPresenceChange_blank (h := h) <;> rfl
  | safeOutputCurrentLimit => apply execSafeOutputCurrentLimit_blank (h := h) <;> rfl

end

end Sys2Proof.Machine
end

section
/-! The start of a hold-up save (spec/22_power_and_startup.md R502 to R504), in its steps. -/

namespace Sys2Proof.Machine
open Sys2Proof

/-- The kind of save that a HOLD voltage allows, in 20 mV counts (R502, R503). -/
def saveKind (volt : Nat) : SaveKind := if 775 ≤ volt then .full else if 400 ≤ volt then .short else .none

section
variable (s : State)

/-- A save of the kind that the voltage allows begins, HOLD is judged and the save counted (R502, R503). -/
def State.saveBegun (volt : Nat) : State :=
  let u := (s.withPwr { s.pwr with save := some (saveKind volt), hold := volt % 2048, charging := false }).judgeHold (volt % 2048)
  match saveKind volt with
  | .full => u.count .pwrSaves
  | .short => u.count .pwrShort
  | .none => u

/-- What a save stops first: an activation, the array, the buttress and the time pulse (R504, R363, R315). -/
def State.saveStops : State :=
  let u := (s.abandonActivation 0x0F).abortArray.buttressSave
  if u.tim.ppsEnd.isSome then (u.withTim { u.tim with ppsEnd := none }).emit (.pin ballPps false) else u

/-- A save takes the rings and the events out of service (R504). -/
def State.saveQuiets : State :=
  let u := s.withHrg { s.hrg with
    waiting := [], xfers := []
    rings := s.hrg.rings.map (fun r => { r with state := .disabled, en := false, outst := [] }) }
  u.withEvt { u.evt with queue := [], pendDrops := 0, seq := 0 }

/-- A save begins while the firmware runs. -/
def State.enterSave (volt : Nat) : State := (s.saveBegun volt).saveStops.saveQuiets

theorem exec_holdupSaveStart (t volt : Nat) : exec (.holdupSaveStart t volt) s = .next
    (if s.pwr.inReset = true ∨ s.pwr.phase < 2 ∨ s.pwr.save.isSome = true then s
      else if s.firmwareRuns = false then (s.instant t).resetPart 2 1 else (s.instant t).enterSave volt) := rfl

variable {s} {m : Part → Bool}

theorem State.saveBegun_blank (h_evt : m .evt = true) (h_ctrs : m .ctrs = true) (h_pwr : m .pwr = true) (volt : Nat) :
    (s.saveBegun volt).blank m = s.blank m := by
  unfold State.saveBegun
  dsimp only
  split <;> simp only [↓State.count_blank, ↓State.judgeHold_blank, ↓State.withPwr_blank, h_evt, h_ctrs, h_pwr]

theorem State.saveStops_blank (h_clk : m .clk = true) (h_evt : m .evt = true) (h_hrg : m .hrg = true)
    (h_img : m .img = true) (h_ctrs : m .ctrs = true) (h_vsl : m .vsl = true) (h_tim : m .tim = true)
    (h_btr : m .btr = true) (h_outbox : m .outbox = true) : s.saveStops.blank m = s.blank m := by
  simp (disch := assumption) only [State.saveStops, ↓State.ite_blank, ↓State.emit_blank, ↓State.withTim_blank,
    ↓State.buttressSave_blank, ↓State.abortArray_blank, ↓State.abandonActivation_blank, ite_self]

theorem State.saveQuiets_blank (h_evt : m .evt = true) (h_hrg : m .hrg = true) : s.saveQuiets.blank m = s.blank m := by
  simp only [State.saveQuiets, ↓State.withEvt_blank, ↓State.withHrg_blank, h_evt, h_hrg]

/-- A save that begins stores no byte and changes neither a lock nor the security state. -/
theorem State.enterSave_guarded (volt : Nat) :
    (s.enterSave volt).blank (keepOnly [.cells, .locks, .sec]) = s.blank (keepOnly [.cells, .locks, .sec]) := by
  simp (disch := decide) only [State.enterSave, ↓State.saveQuiets_blank, ↓State.saveStops_blank, ↓State.saveBegun_blank]

end

end Sys2Proof.Machine
end

section
/-! The statements of spec/20_on_chip_memory.md: the canonical form of the SRAM and of the mortar memory, at reset and
after every step (R465, R470, R473, R477, R478). -/

namespace Sys2Proof.Machine
open Sys2Proof

/-- Settles O4: the memories of the reset state list nothing. -/
theorem memoryFormAtReset : Obligations.MemoryFormAtReset := by
  unfold Obligations.MemoryFormAtReset
  exact ⟨⟨rfl, rfl⟩, fun _ => ⟨rfl, rfl⟩⟩

/-! ## What keeps the bytes keeps the form -/

section
variable {s u : State}

/-- Two states with the same bytes are both in canonical form or both not. -/
theorem State.memOk_congr (h : u.blank (keepOnly [.cells]) = s.blank (keepOnly [.cells])) : u.memOk ↔ s.memOk :=
  ⟨State.memOk_of_blank h.symm rfl, State.memOk_of_blank h rfl⟩

variable (s)

@[simp] theorem State.instant_memOk (t : Nat) : (s.instant t).memOk ↔ s.memOk := .rfl
@[simp] theorem State.useFree_memOk : s.useFree.memOk ↔ s.memOk := .rfl
@[simp] theorem State.withVsl_memOk (x : Vsl) : (s.withVsl x).memOk ↔ s.memOk := .rfl
@[simp] theorem State.withAlloc_memOk (x : Alloc) : (s.withAlloc x).memOk ↔ s.memOk := .rfl
@[simp] theorem State.withCsq_memOk (x : Csq) : (s.withCsq x).memOk ↔ s.memOk := .rfl
@[simp] theorem State.withRdn_memOk (x : Rdn) : (s.withRdn x).memOk ↔ s.memOk := .rfl
@[simp] theorem State.withTrim_memOk (x : Trim) : (s.withTrim x).memOk ↔ s.memOk := .rfl
@[simp] theorem State.withEst_memOk (x : Est) : (s.withEst x).memOk ↔ s.memOk := .rfl
@[simp] theorem State.withPwr_memOk (x : Pwr) : (s.withPwr x).memOk ↔ s.memOk := .rfl
@[simp] theorem State.setLane_memOk (l : Nat) (x : Lane) : (s.setLane l x).memOk ↔ s.memOk := .rfl
@[simp] theorem State.itemDone_memOk (code : Nat) : (s.itemDone code).memOk ↔ s.memOk := .rfl
@[simp] theorem State.raise_memOk (src : Nat) (sev : Sev) (qual cause index : Nat) (vals : List Word) :
    (s.raise src sev qual cause index vals).memOk ↔ s.memOk :=
  State.memOk_congr (State.raise_blank rfl rfl src sev qual cause index vals s)
@[simp] theorem State.countN_memOk (c : Ctr) (n : Nat) : (s.countN c n).memOk ↔ s.memOk :=
  State.memOk_congr (State.countN_blank rfl rfl c n s)
@[simp] theorem State.count_memOk (c : Ctr) : (s.count c).memOk ↔ s.memOk := s.countN_memOk c 1
@[simp] theorem State.problemEnds_memOk (p : Problem) (o : Nat) : (s.problemEnds p o).memOk ↔ s.memOk :=
  State.memOk_congr (State.problemEnds_blank rfl rfl rfl p o s)
@[simp] theorem State.submit_memOk (p : Problem) : (s.submit p).memOk ↔ s.memOk :=
  State.memOk_congr (State.submit_blank rfl rfl rfl p s)
@[simp] theorem State.keepWarm_memOk (p : Problem) (r : Sol) : (s.keepWarm p r).memOk ↔ s.memOk :=
  State.memOk_congr (State.keepWarm_blank rfl p r s)
@[simp] theorem State.quarantine_memOk (l : Nat) : (s.quarantine l).memOk ↔ s.memOk :=
  State.memOk_congr (State.quarantine_blank rfl rfl rfl l s)
@[simp] theorem State.reach_memOk (owner a n : Nat) : (s.reach owner a n).2.memOk ↔ s.memOk :=
  State.memOk_congr (State.reach_blank rfl rfl rfl owner a n s)

theorem State.bridge_memOk (n : Nat) : (s.bridge n).memOk ↔ s.memOk := State.memOk_congr (State.bridge_blank rfl n s)
theorem State.applyLate_memOk (rs : List IntakeRec) : (s.applyLate rs).memOk ↔ s.memOk :=
  State.memOk_congr (State.applyLate_blank rfl rfl rfl rs s)
theorem State.chooseImu_memOk (rs : List IntakeRec) (t0 tk : Int) : (s.chooseImu rs t0 tk).memOk ↔ s.memOk :=
  State.memOk_congr (State.chooseImu_blank rfl rfl rfl rs t0 tk s)
theorem State.inertial_memOk (rs : List IntakeRec) (t0 tk : Int) : (s.inertial rs t0 tk).1.memOk ↔ s.memOk :=
  State.memOk_congr (by apply State.inertial_blank; rfl)
theorem State.imuHas_memOk (b : Bool) : (s.imuHas b).memOk ↔ s.memOk :=
  State.memOk_congr (State.imuHas_blank rfl rfl rfl b s)
theorem State.captures_memOk (c : RowCtx) (rs : List IntakeRec) : (s.captures c rs).memOk ↔ s.memOk :=
  State.memOk_congr (State.captures_blank rfl rfl rfl rfl c rs s)
theorem State.frameRows_memOk (c : RowCtx) (rs : List IntakeRec) : (s.frameRows c rs).1.memOk ↔ s.memOk :=
  State.memOk_congr (State.frameRows_blank rfl rfl rfl c rs s)
theorem State.putHistory_memOk (k : Word) (priors : List Filt) (phi : FMat) (adm : List Nat) :
    (s.putHistory k priors phi adm).memOk ↔ s.memOk :=
  State.memOk_congr (State.putHistory_blank rfl k priors phi adm s)
theorem State.countDropped_memOk (r n : Nat) : (s.countDropped r n).memOk ↔ s.memOk :=
  State.memOk_congr (State.countDropped_blank rfl rfl rfl r n s)
theorem State.addWork_memOk (w : RefWork) : (s.addWork w).memOk ↔ s.memOk :=
  State.memOk_congr (State.addWork_blank rfl w s)

end

/-! ## The writes (R465, R470, R473, R477) -/

section
variable {s : State}

/-- Bytes stored to the SRAM one after another keep its form, and leave the mortar memory (R465, R470). -/
theorem State.store_memOk (h : s.memOk) (a : Nat) (bs : List Byte) : (s.withMem (s.mem.store a bs)).memOk :=
  ⟨memSet_foldl_wf (fun b : Byte × Nat => a + b.2) Prod.fst bs.zipIdx s.mem.sram h.1, h.2⟩

/-- A bank that is zeroed loses its entries and no other (R477). -/
theorem State.zeroBank_memOk (h : s.memOk) (b : Nat) : (s.withMem (s.mem.zeroBank b)).memOk :=
  ⟨mem_filter_wf _ _ h.1, h.2⟩

/-- Words written to the mortar memory keep its form, and leave the SRAM (R473). -/
theorem State.mortarWrite_memOk (h : s.memOk) (a : Nat) (ws : List (BitVec 64)) : (s.mortarWrite a ws).memOk := by
  unfold State.mortarWrite
  generalize ws.zipIdx = l
  induction l generalizing s with
  | nil => exact h
  | cons w l ih => exact ih ⟨h.1, memSetWord_wf _ _ _ h.2⟩

/-! ## The array (R233, R242, R254, R269) -/

theorem State.foldl_memOk {α : Type} {f : State → α → State} (hf : ∀ s x, s.memOk → (f s x).memOk) (h : s.memOk)
    (l : List α) : (l.foldl f s).memOk := by
  induction l generalizing s with
  | nil => exact h
  | cons x l ih => exact ih (hf s x h)

variable (h : s.memOk)
include h

theorem State.writeResult_memOk (p : Problem) (r : ArrayResult) : (s.writeResult p r).memOk := by
  unfold State.writeResult
  dsimp only
  split
  · split
    · exact State.store_memOk (by simpa using h) _ _
    · simpa using h
  · simpa using h

theorem State.writeHeader_memOk (p : Problem) (lane o flags cycles : Nat) :
    (s.writeHeader p lane o flags cycles).memOk :=
  State.writeResult_memOk h _ _

theorem State.rejectProblem_memOk (p : Problem) : (s.rejectProblem p).memOk :=
  (State.problemEnds_memOk _ _ _).mpr (State.writeHeader_memOk h _ _ _ _ _)

theorem State.enterQueue_memOk (p : Problem) : (s.enterQueue p).memOk := by
  unfold State.enterQueue
  split
  · exact h
  split
  · split
    · simpa using h
    · exact State.rejectProblem_memOk h p
  · exact State.rejectProblem_memOk h p

theorem State.writeData_memOk (p : Problem) : (s.writeData p).memOk := by
  unfold State.writeData
  dsimp only
  split
  · exact State.store_memOk (by simpa using h) _ _
  · simpa using h

theorem State.submitOwn_memOk (p : Problem) : (s.submitOwn p).memOk :=
  State.enterQueue_memOk (State.writeData_memOk h p) p

theorem State.endHeader_memOk (l : Nat) (p : Problem) (o : Nat) : (s.endHeader l p o).memOk := by
  unfold State.endHeader
  split
  · exact State.writeResult_memOk h _ _
  · exact State.writeHeader_memOk h _ _ _ _ _

theorem State.laneLate_memOk (l : Nat) (p : Problem) : (s.laneLate l p).memOk := by
  simpa [State.laneLate] using State.endHeader_memOk h l p 8

theorem State.laneReleases_memOk (l : Nat) (p : Problem) : (s.laneReleases l p).memOk := by
  unfold State.laneReleases
  refine (State.problemEnds_memOk _ _ _).mpr (State.writeResult_memOk ?_ _ _)
  split <;> split <;> simpa using h

theorem State.finishLane_memOk (l : Nat) : (s.finishLane l).memOk := by
  unfold State.finishLane
  split
  · split
    · exact State.laneLate_memOk h _ _
    · exact State.laneReleases_memOk h _ _
  · exact h

theorem State.laneFault_memOk (l : Nat) : (s.laneFault l).memOk := by
  unfold State.laneFault
  split
  · exact h
  split
  · simpa using State.endHeader_memOk h l _ 7
  · exact h

theorem State.laneLoad_memOk (l : Nat) (p : Problem) : (s.laneLoad l p).memOk := by
  unfold State.laneLoad
  dsimp only
  split
  · exact State.laneFault_memOk (by simpa using h) l
  · simpa using h

theorem State.takeHead_memOk : s.takeHead.memOk := by
  unfold State.takeHead
  split
  · exact h
  split
  · simpa using h
  split
  · exact h
  · exact State.laneLoad_memOk (by simpa using h) _ _

theorem State.feedMove_memOk : s.feedMove.memOk := by
  unfold State.feedMove
  split
  · split
    · exact State.enterQueue_memOk (by simpa using h) _
    · exact h
  · exact h

theorem State.finishOwn_memOk (e : OwnEnd) (p : Problem) : (s.finishOwn e p).memOk := by
  unfold State.finishOwn
  split
  · dsimp only
    have hc := (s.countN_memOk .vslEcc e.ecc).mpr h
    split
    · exact State.laneFault_memOk hc _
    split
    · exact State.laneLate_memOk hc _ _
    · exact State.finishLane_memOk hc _
  · exact h

theorem State.arrayUntil_memOk (ps : List (Problem × OwnEnd)) (n : Nat) : (s.arrayUntil ps n).memOk := by
  induction n generalizing s with
  | zero => exact h
  | succ n ih =>
    unfold State.arrayUntil
    split
    · exact h
    split
    · exact ih (State.takeHead_memOk h)
    split
    · exact ih (State.finishLane_memOk h _)
    · exact ih (State.finishOwn_memOk h _ _)
    · exact h

theorem State.runOwn_memOk (ps : List (Problem × OwnEnd)) : (s.runOwn ps).memOk :=
  State.foldl_memOk (fun _ _ h => State.finishOwn_memOk h _ _)
    (State.arrayUntil_memOk (State.foldl_memOk (fun _ _ h => State.submitOwn_memOk h _) h ps) ps 512) ps

/-! ## The items that pose problems (R150, R225, R269, R291) -/

theorem State.submitNominal_memOk : s.submitNominal.memOk := by
  unfold State.submitNominal
  dsimp only
  split
  · exact h
  split
  · exact h
  split
  · exact State.submitOwn_memOk (by simpa using h) _
  · exact (State.problemEnds_memOk _ _ _).mpr (State.writeHeader_memOk (by simpa using h) _ _ _ _ _)

theorem State.dispatch_memOk : s.dispatch.memOk := by
  unfold State.dispatch
  dsimp only
  have hplan (u : State) : u.takePower.countBias.makePlan.memOk ↔ u.memOk :=
    (State.memOk_congr (State.makePlan_blank rfl rfl rfl _)).trans
      ((State.memOk_congr (State.countBias_blank rfl _)).trans (State.memOk_congr (State.takePower_blank rfl rfl rfl _)))
  split
  · simpa [hplan] using h
  · exact State.submitNominal_memOk (by simpa [hplan] using h)

theorem State.feedOne_memOk (t : List Byte) (p : AllocProblem) (pb : Option Problem) : (s.feedOne t p pb).memOk := by
  unfold State.feedOne
  split
  · exact h
  split
  · exact (State.withVsl_memOk _ _).mpr (State.writeData_memOk h _)
  · exact (State.problemEnds_memOk _ _ _).mpr (State.writeHeader_memOk h _ _ _ _ _)

theorem State.feedCase_memOk (t : List Byte) (c : Nat) : (s.feedCase t c).memOk := by
  unfold State.feedCase
  split
  · exact h
  · exact State.feedOne_memOk (by exact h) _ _ _

theorem State.feedRun_memOk (t : List Byte) (i : Nat) (r : EnvRun) : (s.feedRun t i r).memOk :=
  State.feedOne_memOk ((State.withCsq_memOk _ _).mpr h) _ _ _

theorem State.caseDispatch_memOk : s.caseDispatch.memOk := by
  unfold State.caseDispatch
  split
  · exact (State.memOk_congr (State.skipAnalysis_blank rfl rfl rfl _)).mpr h
  have hb : s.takePower.takeBase.startRuns.memOk :=
    (State.memOk_congr (State.startRuns_blank rfl _)).mpr ((State.memOk_congr (State.takeBase_blank rfl rfl rfl _)).mpr
      ((State.memOk_congr (State.takePower_blank rfl rfl rfl _)).mpr h))
  dsimp only
  split
  · exact State.foldl_memOk (fun _ _ h => State.feedRun_memOk h _ _ _)
      (State.foldl_memOk (fun _ _ h => State.feedCase_memOk h _ _) (by simpa using hb) _) _
  · simpa using hb

theorem State.covSteps_memOk (ends : List (Nat × OwnEnd)) (phi : FMat) (q : FVec) (lams : List FMat) :
    (s.covSteps ends phi q lams).1.memOk := by
  unfold State.covSteps
  dsimp only
  split
  · exact h
  · exact State.runOwn_memOk h _

theorem State.trimSubmit_memOk : s.trimSubmit.memOk := by
  unfold State.trimSubmit
  dsimp only
  split
  · exact h
  split
  · exact (State.problemEnds_memOk _ _ _).mpr (State.writeHeader_memOk h _ _ _ _ _)
  · exact State.submitOwn_memOk h _

theorem State.trimPose_memOk : s.trimPose.memOk := by
  unfold State.trimPose
  split
  · exact h
  have hp : s.trimPrepare.memOk := (State.memOk_congr (by apply State.trimPrepare_blank <;> rfl)).mpr h
  dsimp only
  split
  · simpa using hp
  · exact State.trimSubmit_memOk (by simpa using hp)

theorem State.trimAwait_memOk (fin : Option OwnEnd) : (s.trimAwait fin).memOk := by
  unfold State.trimAwait
  split
  · exact State.finishOwn_memOk (State.arrayUntil_memOk h _ _) _ _
  · exact h

/-- The covariance problems of a frame are the one part of its work that stores (R252). -/
theorem State.estimateRun_memOk (ends : List (Nat × OwnEnd)) (rs : List IntakeRec) :
    (s.estimateRun ends rs).1.memOk := by
  unfold State.estimateRun
  extract_lets k e a₁ a₂ t0? tk t0 a₃ now a₄ im a₅ main f phi q tau means x0 c a₆ hatch fr a₇ adm iRows infos li ei sets
    lams st a₈ ok
  have h₁ : a₁.memOk := (State.withEst_memOk _ _).mpr h
  have h₂ : a₂.memOk := (State.bridge_memOk _ _).mpr h₁
  have h₃ : a₃.memOk := (State.applyLate_memOk _ _).mpr h₂
  have h₄ : a₄.memOk := (State.chooseImu_memOk _ _ _ _).mpr h₃
  have h₅ : a₅.memOk := (State.imuHas_memOk _ _).mpr ((State.inertial_memOk _ _ _ _).mpr h₄)
  have h₆ : a₆.memOk := (State.captures_memOk _ _ _).mpr h₅
  have h₇ : a₇.memOk := (State.frameRows_memOk _ _ _).mpr h₆
  have h₈ : a₈.memOk := State.covSteps_memOk h₇ _ _ _ _
  refine iteInduction (motive := fun r : State × Bool => r.1.memOk) (fun _ => (State.withEst_memOk _ _).mpr h₈) fun _ => ?_
  refine (State.withEst_memOk _ _).mpr (State.foldl_memOk (fun u p hu => ?_) ((State.putHistory_memOk _ _ _ _ _).mpr h₈) _)
  refine iteInduction (motive := State.memOk) (fun _ => ?_) fun _ => ?_
  · exact (State.countDropped_memOk _ _ _).mpr hu
  · exact (State.addWork_memOk _ _).mpr ((State.countDropped_memOk _ _ _).mpr hu)

end

/-! ## The commands that write bytes -/

section
variable {i : Instr} {s u : State}

theorem State.whileRunning_memOk {f : State → State} (h : s.memOk) (hf : s.memOk → (f s).memOk) :
    (s.whileRunning f).memOk := by
  unfold State.whileRunning
  split
  · exact hf h
  · exact h

theorem State.runItem_memOk {code t : Nat} {f : State → State} (h : s.memOk) (hf : (f (s.instant t)).memOk) :
    (s.runItem code t f).memOk := by
  refine State.whileRunning_memOk h fun _ => ?_
  split
  · exact hf
  · exact h

/-- A part reset leaves both memories empty, and one that a save holds off leaves them as they are (R492, R502). -/
theorem State.partReset_memOk (h : s.memOk) (cause : Nat) : (s.partReset cause).memOk := by
  unfold State.partReset
  split
  · exact h
  · exact ⟨rfl, rfl⟩

theorem State.barWrite_memOk {off : Nat} {f : State → State} (h : s.memOk) (hf : (f s).memOk) : (s.barWrite off f).memOk := by
  unfold State.barWrite
  split
  · exact h
  split
  · simpa using h
  · exact hf

theorem estimate_memOk {t : Nat} {ends : List (Nat × OwnEnd)} (h : s.memOk) (hu : exec (.estimate t ends) s = .next u) :
    u.memOk := by
  obtain rfl := Host.Outcome.next.inj hu
  refine State.whileRunning_memOk h fun _ => ?_
  split
  · exact h
  have hr (rs : List IntakeRec) := State.estimateRun_memOk
    (s := (s.instant t).withEst { s.est with carry := [], consumed := true }) (by simpa using h) ends rs
  dsimp only
  split
  · exact (State.itemDone_memOk _ _).mpr (hr _)
  · exact (State.memOk_congr (by apply State.missItem_blank <;> rfl)).mpr (hr _)

theorem trim_memOk {t : Nat} {fin : Option OwnEnd} (h : s.memOk) (hu : exec (.trim t fin) s = .next u) : u.memOk := by
  obtain rfl := Host.Outcome.next.inj hu
  refine State.whileRunning_memOk h fun _ => ?_
  have hp := State.trimPose_memOk (s := s.instant t) h
  have hm (v : State) (vol : Nat → F64) (want : List Nat) (hv : v.memOk) : (v.trimMoves vol want).memOk :=
    (State.memOk_congr (by apply State.trimMoves_blank <;> rfl)).mpr hv
  have hn : (s.instant t).trimPose.noteTrim.memOk := (State.memOk_congr (State.noteTrim_blank rfl _)).mpr hp
  refine iteInduction (motive := State.memOk) (fun _ => h) fun _ =>
    iteInduction (motive := State.memOk) (fun _ => State.trimAwait_memOk hp fin) fun _ =>
    iteInduction (motive := State.memOk) (fun _ => hm _ _ _ hp) fun _ => ?_
  dsimp only
  split
  · exact (State.memOk_congr (by apply State.trimMissed_blank <;> rfl)).mpr hn
  · exact hm _ _ _ hn

theorem eccUncorrectable_memOk {t : Nat} {site : EccSite} {reader : Reader} (h : s.memOk)
    (hu : exec (.eccUncorrectable t site reader) s = .next u) : u.memOk := by
  obtain rfl := Host.Outcome.next.inj hu
  have hs : ((s.instant t).uncorrectable site).memOk :=
    (State.memOk_congr (State.uncorrectable_blank rfl rfl rfl _ _)).mpr h
  cases reader with
  | item code => exact (State.memOk_congr (by apply State.loseItem_blank <;> rfl)).mpr hs
  | lane n => exact State.laneFault_memOk hs n
  | other => exact hs

theorem mortarWriteCollision_memOk {t ring start : Nat} {x : MortarXfer} {v0 : BitVec 64} {again : Bool} (h : s.memOk)
    (hu : exec (.mortarWriteCollision t ring start x v0 again) s = .next u) : u.memOk := by
  obtain rfl := Host.Outcome.next.inj hu
  refine iteInduction (motive := State.memOk) (fun _ => h) fun _ => ?_
  have hw (v : BitVec 64) : (((s.instant t).mortarWrite start (x.words.take x.reached)).mortarWrite
      (start + x.reached) [v]).memOk := State.mortarWrite_memOk (State.mortarWrite_memOk (by exact h) _ _) _ _
  refine iteInduction (motive := State.memOk) (fun _ => State.mortarWrite_memOk (hw _) _ _) fun _ => ?_
  refine iteInduction (motive := State.memOk) (fun _ => ?_) fun _ => State.mortarWrite_memOk (by simpa using hw _) _ _
  exact (State.memOk_congr (by apply State.bufferLost_blank <;> rfl)).mpr (by simpa using hw _)

theorem memTestDone_memOk {t : Nat} {fin : MemTestEnd} (h : s.memOk) (hu : exec (.memTestDone t fin) s = .next u) :
    u.memOk := by
  obtain rfl := Host.Outcome.next.inj hu
  refine State.whileRunning_memOk h fun _ => ?_
  split
  · exact h
  next x _ =>
    refine (State.memOk_congr (State.complete_blank rfl ..)).mpr ((State.raise_memOk ..).mpr
      (State.foldl_memOk (fun _ _ hv => (State.memOk_congr (State.bankFailed_blank rfl rfl rfl _ _)).mpr hv) ?_ _))
    have hz : ((s.instant t).withMem (if (x.form == 1 && decide (x.target < 64)) = true
        then (s.instant t).mem.zeroBank x.target else (s.instant t).mem)).memOk := by
      split
      · exact State.zeroBank_memOk h _
      · exact h
    simpa only [State.memOk, State.withMem_mem, Mem.endTest_sram, Mem.endTest_mortar] using hz

theorem bootDone_memOk {t failed : Nat} {banks : List Nat} (h : s.memOk) (hu : exec (.bootDone t failed banks) s = .next u) :
    u.memOk := by
  obtain rfl := Host.Outcome.next.inj hu
  refine iteInduction (motive := State.memOk) (fun _ => h) fun _ =>
    iteInduction (motive := State.memOk) (fun _ => ⟨rfl, rfl⟩) fun _ => (State.raise_memOk ..).mpr ⟨rfl, rfl⟩

theorem clockStopped_memOk {t d : Nat} (h : s.memOk) (hu : exec (.clockStopped t d) s = .next u) : u.memOk := by
  obtain rfl := Host.Outcome.next.inj hu
  refine iteInduction (motive := State.memOk) (fun _ => h) fun _ =>
    iteInduction (motive := State.memOk) (fun _ => State.partReset_memOk (by exact h) 4) fun _ => ?_
  have hs : ((List.range 32).foldl (fun v c => if crossingIn c d then v.stall c else v)
      ((((s.instant t).withGlb { s.glb with clkRun := vset s.glb.clkRun d false }).raise 126 .notice 0 1 d []))).memOk := by
    refine State.foldl_memOk (fun v c hv => ?_) ((State.raise_memOk ..).mpr (by exact h)) _
    refine iteInduction (motive := State.memOk) (fun _ => ?_) fun _ => hv
    exact (State.memOk_congr (State.stall_blank rfl rfl rfl _ _)).mpr hv
  refine iteInduction (motive := State.memOk) (fun _ => ?_) fun _ => hs
  exact (State.memOk_congr (State.islandFault_blank rfl rfl rfl rfl _)).mpr hs

theorem holdupSaveStart_memOk {t volt : Nat} (h : s.memOk) (hu : exec (.holdupSaveStart t volt) s = .next u) :
    u.memOk := by
  rw [exec_holdupSaveStart] at hu
  obtain rfl := Host.Outcome.next.inj hu
  exact iteInduction (motive := State.memOk) (fun _ => h) fun _ =>
    iteInduction (motive := State.memOk) (fun _ => ⟨rfl, rfl⟩) fun _ =>
    State.memOk_of_blank ((s.instant t).enterSave_guarded volt) rfl h

theorem holdupSaveEnd_memOk {t : Nat} (h : s.memOk) (hu : exec (.holdupSaveEnd t) s = .next u) : u.memOk := by
  obtain rfl := Host.Outcome.next.inj hu
  split
  · exact h
  · exact ⟨rfl, rfl⟩
  · exact ⟨rfl, rfl⟩

/-- Every command but REGISTER_WRITE, by what it writes. -/
theorem exec_memOk_of_not_registerWrite (hi : isRegisterWrite i = false) (h : s.memOk) (hu : exec i s = .next u) :
    u.memOk := by
  have keep (hc : guardedBut (guardedParts i) .cells = false) : u.memOk :=
    State.memOk_of_blank (exec_blank_guardedBut hu) hc h
  cases i with
  | estimate => exact estimate_memOk h hu
  | dispatch =>
    obtain rfl := Host.Outcome.next.inj hu
    exact State.runItem_memOk h (State.dispatch_memOk h)
  | caseDispatch =>
    obtain rfl := Host.Outcome.next.inj hu
    exact State.runItem_memOk h (State.caseDispatch_memOk h)
  | trim => exact trim_memOk h hu
  | problemSubmit t desc =>
    obtain rfl := Host.Outcome.next.inj hu
    exact State.whileRunning_memOk h fun h => iteInduction (motive := State.memOk) (fun _ => h) fun _ =>
      iteInduction (motive := State.memOk) (fun _ => State.enterQueue_memOk h _) fun _ => State.rejectProblem_memOk h _
  | feedListMove =>
    obtain rfl := Host.Outcome.next.inj hu
    exact State.whileRunning_memOk h State.feedMove_memOk
  | laneTake =>
    obtain rfl := Host.Outcome.next.inj hu
    exact State.whileRunning_memOk h State.takeHead_memOk
  | problemRelease =>
    obtain rfl := Host.Outcome.next.inj hu
    exact State.whileRunning_memOk h fun h => iteInduction (motive := State.memOk)
      (fun _ => State.finishLane_memOk ((State.countN_memOk ..).mpr h) _) fun _ => h
  | problemLate =>
    obtain rfl := Host.Outcome.next.inj hu
    refine State.whileRunning_memOk h fun h => ?_
    split
    · exact iteInduction (motive := State.memOk)
        (fun _ => State.laneLate_memOk ((State.countN_memOk ..).mpr h) _ _) fun _ => h
    · exact h
  | eccUncorrectable => exact eccUncorrectable_memOk h hu
  | mortarWriteCollision => exact mortarWriteCollision_memOk h hu
  | memTestDone => exact memTestDone_memOk h hu
  | bootDone => exact bootDone_memOk h hu
  | clockStopped => exact clockStopped_memOk h hu
  | resetNAssert | corePllLockLoss =>
    obtain rfl := Host.Outcome.next.inj hu
    exact State.partReset_memOk (by exact h) _
  | plinthWatchdogExpiry =>
    obtain rfl := Host.Outcome.next.inj hu
    exact iteInduction (motive := State.memOk) (fun _ => h) fun _ => State.partReset_memOk (by exact h) _
  | powerOnReset =>
    obtain rfl := Host.Outcome.next.inj hu
    exact ⟨rfl, rfl⟩
  | partReset =>
    obtain rfl := Host.Outcome.next.inj hu
    exact iteInduction (motive := State.memOk) (fun _ => State.partReset_memOk h _) fun _ => h
  | glbResetWrite =>
    obtain rfl := Host.Outcome.next.inj hu
    refine State.barWrite_memOk h (iteInduction (motive := State.memOk) (fun _ => h) fun _ =>
      iteInduction (motive := State.memOk) (fun _ => h) fun _ =>
      iteInduction (motive := State.memOk) (fun _ => State.partReset_memOk h 6) fun _ => by simpa using h)
  | holdupSaveStart => exact holdupSaveStart_memOk h hu
  | holdupSaveEnd => exact holdupSaveEnd_memOk h hu
  | registerWrite => cases hi
  | _ => exact keep rfl

theorem exec_memOk (h : s.memOk) (hu : exec i s = .next u) : u.memOk := by
  cases i with
  | registerWrite t offset be w =>
    refine exec_registerWrite_elim (P := fun o => o = .next u → u.memOk) t offset be w s ?_ ?_ ?_ ?_ hu
    · rintro v (rfl | rfl) ⟨⟩ <;> exact h
    · rintro v ⟨⟩
      exact State.barWrite_memOk h ((State.memOk_congr (by apply State.writePlain_blank <;> rfl)).mpr h)
    · rintro ⟨⟩
      exact (State.memOk_congr (State.partialWrite_blank rfl rfl _ _)).mpr h
    · rintro i v hi (rfl | rfl)
      · exact exec_memOk_of_not_registerWrite hi h
      · exact exec_memOk_of_not_registerWrite hi ((State.instant_memOk _ _).mpr h)
  | _ => exact exec_memOk_of_not_registerWrite rfl h hu

theorem step_memOk (h : s.memOk) (hu : step s = .next u) : u.memOk := by
  cases hp : s.pending with
  | nil =>
    rw [step_of_pending_nil hp] at hu
    exact Host.Outcome.next.inj hu ▸ h
  | cons c rest =>
    rw [step_of_pending_cons hp] at hu
    exact exec_memOk (s := s.withPending rest) h hu

end

/-- Settles O5: every byte is written by a store to the SRAM, by a word written to the mortar memory or by clearing, each
of which keeps the form. -/
theorem memoryFormKeptByEveryStep : Obligations.MemoryFormKeptByEveryStep := by
  unfold Obligations.MemoryFormKeptByEveryStep
  exact fun _ _ => step_memOk

end Sys2Proof.Machine
end

section
/-! The statement of spec/25_register_map.md R553 and spec/24_configuration_security.md R535 over every step: no lock is
cleared but into reset, and no fuse is undone. -/

namespace Sys2Proof.Machine
open Sys2Proof

/-! ## Fuses (R535) -/

/-- Every revocation of `x` stands in `y`, and `y` has the identity records and bindings of `x` before any others. -/
structure FusesKept (x y : Sec) : Prop where
  revoked : ∀ i, i < 4 → vget x.revoked i false = true → vget y.revoked i false = true
  fwRevoked : ∀ i, i < 2 → vget x.fwRevoked i false = true → vget y.fwRevoked i false = true
  idRecords : x.idRecords <+: y.idRecords
  bindings : x.bindings <+: y.bindings

/-- The objects of the OTP memory that only ever grow. -/
def fusesOf (x : Sec) : Vector Bool 4 × Vector Bool 2 × List (Bool × List Byte) × List (Bool × Half) :=
  (x.revoked, x.fwRevoked, x.idRecords, x.bindings)

theorem FusesKept.of_fusesOf {x y : Sec} (h : fusesOf y = fusesOf x) : FusesKept x y := by
  simp only [fusesOf, Prod.mk.injEq] at h
  obtain ⟨hr, hf, hi, hb⟩ := h
  exact ⟨fun _ _ => hr ▸ id, fun _ _ => hf ▸ id, hi ▸ List.prefix_refl _, hb ▸ List.prefix_refl _⟩

theorem FusesKept.refl (x : Sec) : FusesKept x x := .of_fusesOf rfl

theorem vget_vset_true {n : Nat} {v : Vector Bool n} {i : Nat} (j : Nat) (h : vget v i false = true) :
    vget (vset v j true) i false = true := by
  rw [vget_vset]
  split
  · rfl
  · exact h

/-- A programming that was cut short leaves an invalid record at most (R535). -/
theorem FusesKept.interrupt (free : Nat) (x : Sec) : FusesKept x (x.interrupt free) := by
  unfold Sec.interrupt
  split
  · exact .refl x
  split
  · exact ⟨fun _ _ => id, fun _ _ => id, List.prefix_append _ _, List.prefix_refl _⟩
  · exact .of_fusesOf rfl
  · exact ⟨fun _ _ => id, fun _ _ => id, List.prefix_refl _, List.prefix_append _ _⟩
  · exact .of_fusesOf rfl
  · exact .refl x

/-- A programming that ends well adds a record or sets a revocation (R535, R538). -/
theorem FusesKept.program (o : OtpOp) (x : Sec) : FusesKept x (x.program o) := by
  unfold Sec.program
  split
  · exact ⟨fun _ _ => id, fun _ _ => id, List.prefix_append _ _, List.prefix_refl _⟩
  · exact .of_fusesOf rfl
  · exact ⟨fun _ _ => vget_vset_true _, fun _ _ => id, List.prefix_refl _, List.prefix_refl _⟩
  · exact ⟨fun _ _ => id, fun _ _ => vget_vset_true _, List.prefix_refl _, List.prefix_refl _⟩
  · exact ⟨fun _ _ => id, fun _ _ => id, List.prefix_refl _, List.prefix_append _ _⟩
  · exact .of_fusesOf rfl
  · exact .refl x

/-! ## Steps that only rise -/

/-- From `s` to `u` no lock is cleared but into reset, and no fuse is undone. -/
structure OnlyRises (s u : State) : Prop where
  locks : ∀ l, s.locked l = true → u.locked l = true ∨ u.pwr.inReset = true
  fuses : FusesKept s.sec u.sec

section
variable {s u v : State} {i : Instr}

theorem OnlyRises.of_eq (hl : u.regs.locks = s.regs.locks) (hf : FusesKept s.sec u.sec) : OnlyRises s u :=
  ⟨fun l h => .inl (by rwa [State.locked, hl]), hf⟩

theorem OnlyRises.refl (s : State) : OnlyRises s s := .of_eq rfl (.refl _)

theorem OnlyRises.of_blank {m : Part → Bool} (h : u.blank m = s.blank m) (hl : m .locks = false)
    (hs : m .sec = false) : OnlyRises s u :=
  .of_eq (State.locks_of_blank h hl) (State.sec_of_blank h hs ▸ .refl _)

theorem OnlyRises.ite {c : Prop} [Decidable c] (hu : OnlyRises s u) (hv : OnlyRises s v) :
    OnlyRises s (if c then u else v) :=
  iteInduction (motive := OnlyRises s) (fun _ => hu) fun _ => hv

/-- What comes before may differ in the clock alone. -/
theorem OnlyRises.after (h : OnlyRises v u) (hl : v.regs.locks = s.regs.locks) (hs : v.sec = s.sec) : OnlyRises s u :=
  ⟨fun l hs => h.locks l (by rwa [State.locked, hl]), hs ▸ h.fuses⟩

/-- A reset ends with the part in reset, and keeps the fuses as an interrupted programming leaves them (R535, R558). -/
theorem OnlyRises.resetPart (s : State) (cause phase : Nat) : OnlyRises s (s.resetPart cause phase) :=
  ⟨fun _ _ => .inr rfl, ⟨(FusesKept.interrupt _ s.sec).revoked, (FusesKept.interrupt _ s.sec).fwRevoked,
    (FusesKept.interrupt _ s.sec).idRecords, (FusesKept.interrupt _ s.sec).bindings⟩⟩

theorem State.breakSave_locks (s : State) : s.breakSave.regs.locks = s.regs.locks :=
  State.locks_of_blank (m := keepOnly [.locks]) (State.breakSave_blank rfl s) rfl

theorem State.breakSave_sec (s : State) : s.breakSave.sec = s.sec :=
  State.sec_of_blank (m := keepOnly [.sec]) (State.breakSave_blank rfl s) rfl

theorem OnlyRises.partReset (s : State) (cause : Nat) : OnlyRises s (s.partReset cause) := by
  unfold State.partReset
  split
  · exact .refl s
  · exact (OnlyRises.resetPart _ cause 1).after s.breakSave_locks s.breakSave_sec

theorem OnlyRises.raise (h : OnlyRises s u) (src : Nat) (sev : Sev) (qual cause index : Nat) (vals : List Word) :
    OnlyRises s (u.raise src sev qual cause index vals) := by
  have hb := State.raise_blank (msk := keepOnly [.locks, .sec, .pwr]) rfl rfl src sev qual cause index vals u
  refine ⟨fun l hl => ?_, State.sec_of_blank hb rfl ▸ h.fuses⟩
  rw [State.locked, State.locks_of_blank hb rfl, State.pwr_of_blank hb rfl]
  exact h.locks l hl

theorem OnlyRises.barWrite {off : Nat} {f : State → State} (hf : OnlyRises s (f s)) : OnlyRises s (s.barWrite off f) := by
  unfold State.barWrite
  split
  · exact .refl s
  split
  · exact .of_blank (m := keepOnly [.locks, .sec])
      (by simp (disch := decide) only [↓State.raise_blank, ↓State.count_blank]) rfl rfl
  · exact hf

/-! ## The commands that reset the part -/

theorem powerOnReset_onlyRises (h : exec .powerOnReset s = .next u) : OnlyRises s u := by
  obtain rfl := Host.Outcome.next.inj h
  exact ⟨fun _ _ => .inr rfl, s.breakSave_sec ▸ (OnlyRises.resetPart s.breakSave 0 0).fuses⟩

theorem clockStopped_onlyRises {t d : Nat} (h : exec (.clockStopped t d) s = .next u) : OnlyRises s u := by
  obtain rfl := Host.Outcome.next.inj h
  refine .ite (.refl s) (.ite ((OnlyRises.partReset _ 4).after rfl rfl)
    (.of_blank (m := keepOnly [.locks, .sec]) ?_ rfl rfl))
  rw [State.ite_blank, State.islandFault_blank rfl rfl rfl rfl, ite_self]
  refine (State.foldl_blank _ _ _ fun v c => ?_).trans (State.raise_blank rfl rfl _ _ _ _ _ _ _)
  rw [State.ite_blank, State.stall_blank rfl rfl rfl, ite_self]

theorem glbResetWrite_onlyRises {w : Word} (h : exec (.glbResetWrite w) s = .next u) : OnlyRises s u := by
  obtain rfl := Host.Outcome.next.inj h
  refine .barWrite (.ite (.refl s) (.ite (.refl s) (.ite (.partReset s 6)
    (.of_blank (m := keepOnly [.locks, .sec]) ?_ rfl rfl))))
  simp (disch := decide) only [↓State.raise_blank, ↓State.count_blank]

theorem holdupSaveStart_onlyRises {t volt : Nat} (h : exec (.holdupSaveStart t volt) s = .next u) : OnlyRises s u := by
  rw [exec_holdupSaveStart] at h
  obtain rfl := Host.Outcome.next.inj h
  exact .ite (.refl s) (.ite ((OnlyRises.resetPart _ 2 1).after rfl rfl)
    (.of_blank ((s.instant t).enterSave_guarded volt) rfl rfl))

theorem State.saveMark_locks (s : State) : s.saveMark.regs.locks = s.regs.locks :=
  State.locks_of_blank (m := keepOnly [.locks]) (State.saveMark_blank rfl s) rfl

theorem State.saveMark_sec (s : State) : s.saveMark.sec = s.sec :=
  State.sec_of_blank (m := keepOnly [.sec]) (State.saveMark_blank rfl s) rfl

theorem holdupSaveEnd_onlyRises {t : Nat} (h : exec (.holdupSaveEnd t) s = .next u) : OnlyRises s u := by
  obtain rfl := Host.Outcome.next.inj h
  split
  · exact .refl s
  · exact .resetPart s 2 0
  · exact (OnlyRises.resetPart _ _ 1).after (s.instant t).saveMark_locks (s.instant t).saveMark_sec

/-! ## The commands of the locks and of the OTP memory -/

theorem lockAll_onlyRises {w : Word} (h : exec (.lockAll w) s = .next u) : OnlyRises s u := by
  obtain rfl := Host.Outcome.next.inj h
  exact .barWrite (.ite (.refl s) ⟨fun l _ => .inl (Vector.getElem_replicate _), .refl _⟩)

theorem lockSet_onlyRises {l : Nat} {w : Word} (h : exec (.lockSet l w) s = .next u) : OnlyRises s u := by
  obtain rfl := Host.Outcome.next.inj h
  split
  · exact .refl s
  next l _ =>
    refine .barWrite (.ite (.of_blank (m := keepOnly [.locks, .sec]) ?_ rfl rfl)
      (.ite ⟨fun k hk => .inl ?_, .refl _⟩ (.refl s)))
    · simp (disch := decide) only [State.deniedWrite, ↓State.raise_blank, ↓State.count_blank]
    · simp only [State.locked, State.withRegs_regs, Fin.getElem_fin, Vector.getElem_set]
      split
      · rfl
      · exact hk

theorem OnlyRises.otpEnd (s : State) (r : Nat) : OnlyRises s (s.otpEnd r) := .of_eq rfl (.of_fusesOf rfl)

theorem OnlyRises.otpStart (s : State) (op slot : Nat) : OnlyRises s (s.otpStart op slot) :=
  .of_eq rfl (.of_fusesOf rfl)

theorem OnlyRises.otpRead (s : State) (b : List Byte) : OnlyRises s ((s.withSec (s.sec.setWindow b)).otpEnd 0) := by
  refine .of_eq rfl (.of_fusesOf ?_)
  simp only [fusesOf, State.otpEnd, State.withSec_sec, Sec.setWindow]

/-- A write of GLB_OTP_CTRL without its key, or while an operation runs, burns no fuse (R538). -/
theorem OnlyRises.otpWrite (key : Nat) {go : State → State} (h : OnlyRises s (go s)) : OnlyRises s (s.otpWrite key go) :=
  .barWrite (.ite (.refl s) (.ite (.of_eq rfl (.of_fusesOf rfl)) h))

theorem otpOperationDone_onlyRises {t : Nat} {good : Bool} (h : exec (.otpOperationDone t good) s = .next u) :
    OnlyRises s u := by
  obtain rfl := Host.Outcome.next.inj h
  split
  · exact .refl s
  next o _ =>
    obtain ⟨hr, hf, hi, hb⟩ : FusesKept s.sec (if good = true then s.sec.program o else s.sec.interrupt s.clk.free) := by
      split
      · exact .program o _
      · exact .interrupt _ _
    have hw (n : Nat) : OnlyRises s ((s.instant t).useFree.withSec
        { (if good = true then s.sec.program o else s.sec.interrupt s.clk.free) with
          otpBusy := none, otpHit := false, otpResult := n }) := .of_eq rfl ⟨hr, hf, hi, hb⟩
    exact .ite (((hw _).raise ..).raise ..) ((hw _).raise ..)

/-! ## Every command -/

/-- Every command but REGISTER_WRITE, by what it does to the locks and the fuses. -/
theorem exec_onlyRises_of_not_registerWrite (hi : isRegisterWrite i = false) (h : exec i s = .next u) : OnlyRises s u := by
  have keep (hl : guardedBut (guardedParts i) .locks = false) (hs : guardedBut (guardedParts i) .sec = false) :
      OnlyRises s u := .of_blank (exec_blank_guardedBut h) hl hs
  have locks (hl : guardedBut (guardedParts i) .locks = false) : u.regs.locks = s.regs.locks :=
    State.locks_of_blank (exec_blank_guardedBut h) hl
  cases i with
  | lockAll => exact lockAll_onlyRises h
  | lockSet => exact lockSet_onlyRises h
  | partResetRelease =>
    refine .of_eq (locks rfl) ?_
    obtain rfl := Host.Outcome.next.inj h
    exact iteInduction (motive := fun v : State => FusesKept s.sec v.sec) (fun _ => .of_fusesOf rfl) fun _ => .refl _
  | fwAuthDone =>
    refine .of_eq (locks rfl) ?_
    obtain rfl := Host.Outcome.next.inj h
    exact iteInduction (motive := fun v : State => FusesKept s.sec v.sec) (fun _ => .refl _) fun _ =>
      iteInduction (motive := fun v : State => FusesKept s.sec v.sec) (fun _ => .of_fusesOf rfl) fun _ => .refl _
  | otpReadIdentity | otpReadKey =>
    obtain rfl := Host.Outcome.next.inj h
    exact .otpWrite _ (.ite (.otpEnd s 4) (.otpRead s _))
  | otpWriteIdentity | otpWriteKey =>
    obtain rfl := Host.Outcome.next.inj h
    exact .otpWrite _ (.ite (.otpEnd s 2) (.ite (.otpEnd s _) (.otpStart s _ _)))
  | otpRevokeKey | otpRevokeFwKey | otpBindSeal =>
    obtain rfl := Host.Outcome.next.inj h
    exact .otpWrite _ (.ite (.otpEnd s 2) (.ite (.otpEnd s 4) (.ite (.otpEnd s _) (.otpStart s _ _))))
  | otpRaiseVersion =>
    obtain rfl := Host.Outcome.next.inj h
    exact .otpWrite _ (.ite (.otpEnd s 3) (.ite (.otpStart s 8 _) (.otpEnd s 2)))
  | otpOperationDone => exact otpOperationDone_onlyRises h
  | clockStopped => exact clockStopped_onlyRises h
  | resetNAssert | corePllLockLoss =>
    obtain rfl := Host.Outcome.next.inj h
    exact (OnlyRises.partReset _ _).after rfl rfl
  | plinthWatchdogExpiry =>
    obtain rfl := Host.Outcome.next.inj h
    exact .ite (.refl s) ((OnlyRises.partReset _ 5).after rfl rfl)
  | powerOnReset => exact powerOnReset_onlyRises h
  | partReset =>
    obtain rfl := Host.Outcome.next.inj h
    exact .ite (.partReset s _) (.refl s)
  | glbResetWrite => exact glbResetWrite_onlyRises h
  | holdupSaveStart => exact holdupSaveStart_onlyRises h
  | holdupSaveEnd => exact holdupSaveEnd_onlyRises h
  | registerWrite => cases hi
  | _ => exact keep rfl rfl

/-- A register without a row of its own is no lock and no fuse: of the security state it may change the data window. -/
theorem State.writePlain_onlyRises (off : Nat) (w : Word) : OnlyRises s (s.writePlain off w) := by
  unfold State.writePlain
  split
  · exact .of_blank (m := keepOnly [.locks, .sec]) (by apply State.writeCfg_blank <;> rfl) rfl rfl
  · have hwindow (x : Vector Word 32) : OnlyRises s (s.withSec { s.sec with otpData := x }) :=
      .of_eq rfl (.of_fusesOf rfl)
    exact .ite (hwindow _) (.ite
      (.of_blank (m := keepOnly [.locks, .sec]) (State.writeHrg_blank rfl _ _ _) rfl rfl)
      (.ite (.of_blank (m := keepOnly [.locks, .sec]) (State.withEvt_blank rfl _ _) rfl rfl) (.ite
        (.of_blank (m := keepOnly [.locks, .sec]) (State.writeMsix_blank rfl rfl _ _ _) rfl rfl) (.refl s))))

theorem exec_onlyRises (h : exec i s = .next u) : OnlyRises s u := by
  cases i with
  | registerWrite t offset be w =>
    refine exec_registerWrite_elim (P := fun o => o = .next u → OnlyRises s u) t offset be w s ?_ ?_ ?_ ?_ h
    · rintro v (rfl | rfl) ⟨⟩
      · exact .refl _
      · exact .of_eq rfl (.refl _)
    · rintro v ⟨⟩
      exact (OnlyRises.barWrite (State.writePlain_onlyRises _ _)).after rfl rfl
    · rintro ⟨⟩
      exact .of_blank (m := keepOnly [.locks, .sec]) (State.partialWrite_blank rfl rfl _ _) rfl rfl
    · rintro i v hi (rfl | rfl) hv
      · exact exec_onlyRises_of_not_registerWrite hi hv
      · exact (exec_onlyRises_of_not_registerWrite hi hv).after rfl rfl
  | _ => exact exec_onlyRises_of_not_registerWrite rfl h

theorem step_onlyRises (h : step s = .next u) : OnlyRises s u := by
  cases hp : s.pending with
  | nil =>
    rw [step_of_pending_nil hp] at h
    exact Host.Outcome.next.inj h ▸ .refl s
  | cons c rest =>
    rw [step_of_pending_cons hp] at h
    exact (exec_onlyRises h).after rfl rfl

end

/-- Settles O56: locks fall in a reset alone, and every meaning that changes an OTP object adds to it. -/
theorem locksAndFusesOnlyRise : Obligations.LocksAndFusesOnlyRise := by
  unfold Obligations.LocksAndFusesOnlyRise
  intro s u h
  obtain ⟨hl, hf⟩ := step_onlyRises h
  exact ⟨hl, hf.revoked, hf.fwRevoked, hf.idRecords, hf.bindings⟩

end Sys2Proof.Machine
end

section
/-! The statement of spec/25_register_map.md R559: what the registers read after reset. -/

namespace Sys2Proof.Machine
open Sys2Proof

/-- Every ring is configured with the smallest size (R434, R559). -/
theorem State.reset_ring_rcfg {i : Nat} (hi : i < 22) : (State.reset.ring i).rcfg = 0x00000004#32 := by
  simp [State.ring, State.reset, Hrg.reset, Ring.reset, vget, hi]

/-- An occurrence counter reads its count and its overflow flag, both clear (R8, R559). -/
theorem State.reset_ctr_reg (c : Ctr) : (State.reset.ctr c).reg = 0#32 := by
  have hc : State.reset.ctr c = Occ.zero := by simp [State.ctr, State.reset, Regs.reset]
  rw [hc]
  rfl

theorem State.reset_locked (l : LockId) : State.reset.locked l = false := by
  simp [State.locked, State.reset, Regs.reset]

/-- Settles O7: a small table of closed values, and the vectors that reset fills with one value. -/
theorem resetRegisterValues : Obligations.ResetRegisterValues := by
  unfold Obligations.ResetRegisterValues
  exact ⟨by decide, fun _ => State.reset_ring_rcfg, State.reset_ctr_reg, State.reset_locked,
    fun r => ⟨rfl, by cases r <;> decide⟩⟩

end Sys2Proof.Machine
end

section
/-! What raising an event and counting an occurrence leave unchanged, for the parts that the earlier rules do not name. -/

namespace Sys2Proof.Machine
open Sys2Proof

theorem State.mem_of_blank {m : Part → Bool} {a b : State} (h : a.blank m = b.blank m) (hm : m .mem = false)
    (hc : m .cells = false) : a.mem = b.mem := by
  have h' := congrArg State.mem h
  simp only [State.blank, hm, hc, Bool.false_eq_true, if_false] at h'
  exact h'

section
variable (s : State) (src : Nat) (sev : Sev) (qual cause index : Nat) (vals : List Word) (c : Ctr) (n : Nat)

@[simp] theorem State.raise_pwr : (s.raise src sev qual cause index vals).pwr = s.pwr :=
  State.pwr_of_blank (m := keepOnly [.pwr]) (State.raise_blank rfl rfl src sev qual cause index vals s) rfl
@[simp] theorem State.raise_sec : (s.raise src sev qual cause index vals).sec = s.sec :=
  State.sec_of_blank (m := keepOnly [.sec]) (State.raise_blank rfl rfl src sev qual cause index vals s) rfl
@[simp] theorem State.raise_log : (s.raise src sev qual cause index vals).log = s.log :=
  State.log_of_blank (m := keepOnly [.log]) (State.raise_blank rfl rfl src sev qual cause index vals s) rfl
@[simp] theorem State.raise_can : (s.raise src sev qual cause index vals).can = s.can :=
  State.can_of_blank (m := keepOnly [.can]) (State.raise_blank rfl rfl src sev qual cause index vals s) rfl
@[simp] theorem State.raise_mem : (s.raise src sev qual cause index vals).mem = s.mem :=
  State.mem_of_blank (m := keepOnly [.mem, .cells]) (State.raise_blank rfl rfl src sev qual cause index vals s) rfl rfl

@[simp] theorem State.countN_pwr : (s.countN c n).pwr = s.pwr :=
  State.pwr_of_blank (m := keepOnly [.pwr]) (State.countN_blank rfl rfl c n s) rfl
@[simp] theorem State.countN_log : (s.countN c n).log = s.log :=
  State.log_of_blank (m := keepOnly [.log]) (State.countN_blank rfl rfl c n s) rfl
@[simp] theorem State.countN_can : (s.countN c n).can = s.can :=
  State.can_of_blank (m := keepOnly [.can]) (State.countN_blank rfl rfl c n s) rfl
@[simp] theorem State.countN_mem : (s.countN c n).mem = s.mem :=
  State.mem_of_blank (m := keepOnly [.mem, .cells]) (State.countN_blank rfl rfl c n s) rfl rfl
@[simp] theorem State.countN_ylk : (s.countN c n).ylk = s.ylk :=
  State.ylk_of_blank (m := keepOnly [.ylk]) (State.countN_blank rfl rfl c n s) rfl
@[simp] theorem State.count_ylk : (s.count c).ylk = s.ylk := s.countN_ylk c 1
@[simp] theorem State.count_pwr : (s.count c).pwr = s.pwr := s.countN_pwr c 1
@[simp] theorem State.count_log : (s.count c).log = s.log := s.countN_log c 1
@[simp] theorem State.count_can : (s.count c).can = s.can := s.countN_can c 1
@[simp] theorem State.count_mem : (s.count c).mem = s.mem := s.countN_mem c 1

end

end Sys2Proof.Machine
end

section
/-! The statements of spec/21_clock_domains_and_resets.md: stopped and running clocks, crossings, the resets of the part
and what they keep. -/

namespace Sys2Proof.Machine
open Sys2Proof

/-! ## A part reset (R491, R492, R502, R558) -/

section
variable (s : State)

theorem State.breakSave_of_noSave {s : State} (h : s.pwr.save = none) : s.breakSave = s := by
  unfold State.breakSave
  rw [h]

theorem State.partReset_of_noSave {s : State} (h : s.pwr.save = none) (cause : Nat) :
    s.partReset cause = s.resetPart cause 1 := by
  simp [State.partReset, State.breakSave_of_noSave h, h]

/-- During a save only power-on and clock loss act (R502). -/
theorem State.partReset_of_save {s : State} (h : s.pwr.save.isSome = true) {cause : Nat} (h4 : cause ≠ 4)
    (h0 : cause ≠ 0) : s.partReset cause = s := if_pos ⟨h, h4, h0⟩

/-- Clock loss resets the part even during a save, which is then cut short (R490, R502). -/
theorem State.partReset_clockLoss : s.partReset 4 = s.breakSave.resetPart 4 1 := if_neg (by simp)

/-- What every reset of the part from `s` leaves: the part in reset, locks clear, STANDBY, no image, the switches of the
safe outputs open; the OTP objects, the log memory and the waiting commands kept (R492, R535, R558). -/
structure KeptByReset (s u : State) : Prop where
  inReset : u.pwr.inReset = true
  locks : ∀ l, u.locked l = false
  mode : u.ctl.mode = 0
  image : u.hasImage = false
  otp : ∀ k, k = s.sec.interrupt s.clk.free → u.sec.idRecords = k.idRecords ∧ u.sec.keys = k.keys ∧
    u.sec.revoked = k.revoked ∧ u.sec.fwRevoked = k.fwRevoked ∧ u.sec.bindings = k.bindings ∧ u.sec.steps = k.steps
  slots : u.log.slots = s.log.slots
  pending : u.pending = s.pending
  outbox : u.outbox = s.outbox ++ s.openPins

theorem keptByReset_resetPart (cause phase : Nat) : KeptByReset s (s.resetPart cause phase) where
  inReset := rfl
  locks := State.reset_locked
  mode := rfl
  image := rfl
  otp := fun _ h => h ▸ ⟨rfl, rfl, rfl, rfl, rfl, rfl⟩
  slots := rfl
  pending := rfl
  outbox := rfl

variable {s} {u v : State}

/-- A save that is cut short changes nothing that a reset keeps. -/
theorem KeptByReset.of_breakSave (h : KeptByReset s.breakSave u) : KeptByReset s u := by
  have hb := State.breakSave_blank (msk := keepOnly [.clk, .tick, .sec, .log, .btr, .tim, .outbox, .pending]) rfl s
  have hclk : s.breakSave.clk = s.clk := by
    unfold State.breakSave
    split <;> rfl
  obtain ⟨hr, hl, hm, hi, ho, hs, hp, hx⟩ := h
  rw [State.sec_of_blank hb rfl, hclk] at ho
  rw [State.log_of_blank hb rfl] at hs
  rw [State.pending_of_blank hb rfl] at hp
  rw [State.outbox_of_blank hb rfl, State.openPins, State.btr_of_blank hb rfl, State.tim_of_blank hb rfl] at hx
  exact ⟨hr, hl, hm, hi, ho, hs, hp, hx⟩

/-- Power-on resets the plinth as well, and keeps no less (R491). -/
theorem keptByReset_powerOnReset (h : exec .powerOnReset s = .next u) : KeptByReset s u := by
  have hk := (keptByReset_resetPart s.breakSave 0 0).of_breakSave
  obtain rfl := Host.Outcome.next.inj h
  exact ⟨rfl, State.reset_locked, rfl, rfl, hk.otp, rfl, hk.pending, hk.outbox⟩

end

section
variable {t : Nat} {s : State}

theorem exec_resetNAssert : exec (.resetNAssert t) s = .next ((s.instant t).partReset 3) := rfl

theorem exec_corePllLockLoss : exec (.corePllLockLoss t) s = .next ((s.instant t).breakSave.resetPart 4 1) :=
  congrArg _ (State.partReset_clockLoss _)

theorem exec_plinthWatchdogExpiry (h : s.runs = false ∨ s.glb.fedAt + 10000000 ≤ (s.instant t).clk.now) :
    exec (.plinthWatchdogExpiry t) s = .next ((s.instant t).partReset 5) := by
  refine congrArg _ (if_neg fun hn => ?_)
  obtain ⟨hr, hl⟩ := hn
  obtain h | h := h
  · simp [hr] at h
  · omega

theorem exec_partReset {c : Nat} (h3 : 3 ≤ c) (h6 : c ≤ 6) : exec (.partReset c) s = .next (s.partReset c) :=
  congrArg _ (if_pos ⟨h3, h6⟩)

variable {w : Word}

theorem exec_glbResetWrite_of_answers (ha : s.answers 0x114 = true) (hx : s.accessStalled 0x114 = false) :
    exec (.glbResetWrite w) s = .next (if w.extractLsb' 16 16 ≠ 0x5253#16 ∨ w.getLsbD 0 = false then s
      else if s.pwr.save.isSome = true then s
      else if s.ctl.mode = 0 ∨ s.readyToClaim = false then s.partReset 6
      else (s.count .rstRefused).raise 126 .notice 0 3 noIndex []) :=
  congrArg _ (State.barWrite_of_answers s ha hx)

variable (hs : s.pwr.save = none) (ha : s.answers 0x114 = true) (hx : s.accessStalled 0x114 = false)
  (hk : w.extractLsb' 16 16 = 0x5253#16) (hw : w.getLsbD 0 = true)
include hs ha hx hk hw

/-- The key, PART and STANDBY or a part that is not ready reset the part (R493). -/
theorem exec_glbResetWrite_of_allowed (hm : s.ctl.mode = 0 ∨ s.readyToClaim = false) :
    exec (.glbResetWrite w) s = .next (s.resetPart 6 1) := by
  simp [exec_glbResetWrite_of_answers ha hx, hk, hw, hs, hm, State.partReset_of_noSave hs]

/-- Otherwise the write is counted and reported (R493). -/
theorem exec_glbResetWrite_of_refused (hm : ¬(s.ctl.mode = 0 ∨ s.readyToClaim = false)) :
    exec (.glbResetWrite w) s = .next ((s.count .rstRefused).raise 126 .notice 0 3 noIndex []) := by
  simp [exec_glbResetWrite_of_answers ha hx, hk, hw, hs, hm]

end

/-- Settles O60: the key and PART are judged first, then the mode and the readiness. -/
theorem hostResetIsKeyedAndGuarded : Obligations.HostResetIsKeyedAndGuarded := by
  unfold Obligations.HostResetIsKeyedAndGuarded
  refine fun w s ha hx hs => ⟨fun hk hw => ⟨fun hm => ⟨exec_glbResetWrite_of_allowed hs ha hx hk hw hm, rfl⟩,
    exec_glbResetWrite_of_refused hs ha hx hk hw⟩, fun hk => ?_⟩
  rw [exec_glbResetWrite_of_answers ha hx, if_pos (.inl hk)]

/-- Taking the instant changes nothing that a reset keeps. -/
theorem KeptByReset.of_instant {t : Nat} {s u : State} (h : KeptByReset (s.instant t) u) : KeptByReset s u := by
  obtain ⟨hr, hl, hm, hi, ho, hs, hp, hx⟩ := h
  exact ⟨hr, hl, hm, hi, ho, hs, hp, hx⟩

/-- The end of a save that kept nothing holds the plinth in reset (R503, R507). -/
theorem exec_holdupSaveEnd_of_nothingKept {t : Nat} {s : State} (hs : s.pwr.save = some .none) :
    exec (.holdupSaveEnd t) s = .next (s.resetPart 2 0) := by
  rw [show exec (.holdupSaveEnd t) s = execHoldupSaveEnd t s from rfl, execHoldupSaveEnd, hs]

/-- Settles O50: each source is a part reset, and a part reset keeps what it must whatever the state. -/
theorem resetsKeepWhatTheyMust : Obligations.ResetsKeepWhatTheyMust := by
  unfold Obligations.ResetsKeepWhatTheyMust
  intro t s a k kept
  have hkept {u : State} (h : KeptByReset s u) : kept u := by
    obtain ⟨hi, hk, hr, hf, hb, hst⟩ := h.otp k rfl
    exact ⟨h.inReset, h.locks, h.mode, h.image, hi, hk, hr, hf, hb, hst, h.slots, h.pending, h.outbox⟩
  have hreset (c p : Nat) : kept (s.resetPart c p) := hkept (keptByReset_resetPart s c p)
  have hinstant (c p : Nat) : kept (a.resetPart c p) := hkept (keptByReset_resetPart a c p).of_instant
  refine ⟨fun h => ?_, fun hs => ⟨?_, fun hw => ?_, fun c h3 h6 => ?_, fun w ha hx hk hw hm => ?_⟩,
    fun hs => ⟨?_, fun c h3 h6 h4 => ?_⟩, ?_, fun hs => ?_, ?_⟩
  · simp only [k, Sec.interrupt, h]
  · exact ⟨_, exec_resetNAssert.trans (congrArg _ (State.partReset_of_noSave (s := a) hs 3)), rfl, hinstant 3 1, rfl⟩
  · exact ⟨_, (exec_plinthWatchdogExpiry hw).trans (congrArg _ (State.partReset_of_noSave (s := a) hs 5)), rfl,
      hinstant 5 1, rfl⟩
  · exact ⟨_, (exec_partReset h3 h6).trans (congrArg _ (State.partReset_of_noSave hs c)), rfl, hreset c 1, rfl⟩
  · exact ⟨_, exec_glbResetWrite_of_allowed hs ha hx hk hw (.inl hm), rfl, hreset 6 1, rfl⟩
  · exact exec_resetNAssert.trans (congrArg _ (State.partReset_of_save (s := a) hs (by simp) (by simp)))
  · exact (exec_partReset h3 h6).trans (congrArg _ (State.partReset_of_save hs h4 (by omega)))
  · exact ⟨_, exec_corePllLockLoss, rfl, hkept (keptByReset_resetPart a.breakSave 4 1).of_breakSave.of_instant, rfl⟩
  · exact ⟨_, exec_holdupSaveEnd_of_nothingKept hs, rfl, hreset 2 0, by simp [State.resetPart, hs]⟩
  · exact ⟨_, rfl, hkept (keptByReset_powerOnReset rfl)⟩

/-! ## Stopped and running clocks, crossings (R486 to R490, R494) -/

section
variable {s : State} {n : Nat}

/-- A crossing that is stalled reads STALLED, whether it was before or not (R488). -/
theorem State.stall_xState (hn : n < 32) (c : Nat) :
    vget (s.stall c).glb.xState n 0 = if c = n then 2 else vget s.glb.xState n 0 := by
  by_cases hstalled : vget s.glb.xState c 2 = 2
  · rw [show s.stall c = s from if_pos hstalled]
    split
    case isTrue h => subst h; simpa [vget, hn] using hstalled
    case isFalse => rfl
  · rw [show s.stall c = _ from if_neg hstalled, State.raise_glb]
    refine (vget_vset s.glb.xState c n 2 0).trans (if_congr ?_ rfl rfl)
    exact ⟨And.left, fun h => ⟨h, h ▸ hn⟩⟩

theorem State.stall_clkRun (c : Nat) : (s.stall c).glb.clkRun = s.glb.clkRun := by
  unfold State.stall
  split
  · rfl
  · rw [State.raise_glb, State.withGlb_glb]

/-- Stalling the crossings that `p` chooses leaves exactly those stalled and the others as they were. -/
theorem State.foldl_stall_xState (hn : n < 32) (p : Nat → Bool) (l : List Nat) :
    vget (l.foldl (fun u k => if p k = true then u.stall k else u) s).glb.xState n 0 =
      if n ∈ l ∧ p n = true then 2 else vget s.glb.xState n 0 := by
  induction l generalizing s with
  | nil => simp
  | cons k l ih =>
    rw [List.foldl_cons, ih]
    by_cases hk : p k = true
    · simp only [if_pos hk, State.stall_xState hn, List.mem_cons]
      by_cases hkn : k = n
      · subst hkn; simp [hk]
      · simp [hkn, Ne.symm hkn]
    · simp only [if_neg hk, List.mem_cons]
      by_cases hkn : n = k
      · subst hkn; simp [hk]
      · simp [hkn]

theorem State.foldl_stall_clkRun (p : Nat → Bool) (l : List Nat) :
    (l.foldl (fun u k => if p k = true then u.stall k else u) s).glb.clkRun = s.glb.clkRun :=
  State.foldl_keeps (fun u => u.glb.clkRun) _ l s fun u k => by
    split
    · exact State.stall_clkRun k
    · rfl

end

section
variable {t d : Nat} {s : State}

theorem exec_clockStopped (hd : d < 11) (hr : vget s.glb.clkRun d false = true) {b : State}
    (hb : b = (s.instant t).withGlb { s.glb with clkRun := vset s.glb.clkRun d false }) :
    exec (.clockStopped t d) s = .next (if d = 0 ∨ d = 1 ∨ d = 3 then b.partReset 4 else
      let c := (List.range 32).foldl (fun u n => if crossingIn n d = true then u.stall n else u)
        (b.raise 126 .notice 0 1 d [])
      if d = 2 then c.islandFault else c) := by
  subst hb
  exact congrArg _ (if_neg (by simp [hr]; omega))

theorem exec_clockRunningAgain (hd : d < 11) (hr : vget s.glb.clkRun d true = false) {b : State}
    (hb : b = ((s.instant t).withGlb { s.glb with clkRun := vset s.glb.clkRun d true }).raise 126 .notice 1 1 d []) :
    exec (.clockRunningAgain t d) s =
      .next (if d = 7 ∧ s.hrg.resetDue.isSome = true then b.resetHost (s.hrg.resetDue.getD 0) else b) := by
  subst hb
  refine congrArg _ ((if_neg (by simp [hr]; omega)).trans ?_)
  simp only [State.raise_hrg]
  rfl

/-- A request of a stopped crossing is counted and stalls the crossing; an access ends, an item is lost (R488). -/
theorem exec_crossingTimeout {c i : Nat} (hc : (crossingRow c).1 = 0) (hx : s.crossingClocks c = false) {b : State}
    (hb : b = ((s.instant t).count .xTimeout).stall c) (access : Option Nat) :
    exec (.crossingTimeout t c i access) s = .next (match access with
      | some o => if (accessCrossings o).contains c then (b.count .badAccess).raise 127 .notice 5 0 (o % 65536) []
        else b.loseItem i
      | none => b.loseItem i) := by
  subst hb
  exact congrArg _ (if_neg (by simp [hc, hx]))

theorem State.loseItem_eq (i : Nat) :
    s.loseItem i = if s.runs = true ∧ s.itemOpen i = true then s.missHeld i else s :=
  if_congr (by simp) rfl rfl

theorem exec_crossingReset {c n : Nat} (hc : c < 32) (hx : s.crossingClocks c = true) :
    exec (.crossingReset t c n) s = .next ((s.instant t).resetCrossing c n) :=
  congrArg _ (if_neg (by simp [hx]; omega))

end

/-- Settles O51: a stopped clock stalls the crossings of its domain one by one; the rest are the rows as they stand. -/
theorem clockRows : Obligations.ClockRows := by
  unfold Obligations.ClockRows
  rintro t s a rfl
  refine ⟨fun d b hd hr hb => ⟨fun h013 => ?_, fun c hc => ⟨fun h2 => ?_, fun h0 h1 h2 h3 => ⟨?_, ?_, fun n hn hin => ?_⟩⟩⟩,
    fun d b hd hr hb => ⟨fun h => ?_, fun k h7 hk => ?_⟩, fun c i b hc hx hb => ⟨?_, fun o ho => ?_, fun o ho => ?_⟩,
    fun c n hc hx => ⟨exec_crossingReset hc hx, ?_⟩, fun k hi hp h0 h1 h3 => ?_⟩
  · rw [exec_clockStopped hd hr hb, if_pos h013, State.partReset_clockLoss]
  · rw [exec_clockStopped hd hr hb, if_neg (by omega), ← hc]
    exact congrArg _ (if_pos h2)
  · rw [exec_clockStopped hd hr hb, if_neg (by omega), ← hc]
    exact congrArg _ (if_neg h2)
  · rw [hc, State.foldl_stall_clkRun, State.raise_glb, hb, State.withGlb_glb, vget_vset, if_pos ⟨rfl, hd⟩]
  · rw [hc, State.foldl_stall_xState hn, if_pos ⟨List.mem_range.mpr hn, hin⟩]
  · rw [exec_clockRunningAgain hd hr hb, if_neg]
    rintro ⟨h7, hdue⟩
    obtain h | h := h
    · exact h h7
    · simp [h] at hdue
  · rw [exec_clockRunningAgain hd hr hb, if_pos ⟨h7, by simp [hk]⟩, hk]
    rfl
  · rw [exec_crossingTimeout hc hx hb none, State.loseItem_eq]
  · rw [exec_crossingTimeout hc hx hb (some o)]
    exact congrArg _ (if_pos ho)
  · rw [exec_crossingTimeout hc hx hb (some o), ← State.loseItem_eq]
    exact congrArg _ (if_neg (Bool.eq_false_iff.mp ho))
  · rw [State.resetCrossing_glb, vget_vset, if_pos ⟨rfl, hc⟩]
  · exact congrArg _ (if_pos ⟨hi, hp, by simp [h0, h1, h3]⟩)

end Sys2Proof.Machine
end

section
/-! The statements of spec/22_power_and_startup.md: start-up, the hold-up supply, the save and its end. -/

namespace Sys2Proof.Machine
open Sys2Proof

/-! ## Start-up (R508 to R513) -/

section
variable {t : Nat} {s : State}

theorem State.startTime_pwr (rtc : Option (Nat × Nat)) : (s.startTime rtc).pwr = s.pwr :=
  State.pwr_of_blank (m := keepOnly [.pwr]) (State.startTime_blank rfl rfl rfl rfl rtc s) rfl

theorem State.setFeed_pwr (va vb : Nat) :
    ((s.setFeed 0 va).setFeed 1 vb).pwr = { s.pwr with vina := va, vinb := vb } := rfl

/-- Restoring writes both areas off, takes the area found into the reserve, and touches no other memory record. -/
theorem exec_restoreDone (hr : s.pwr.inReset = false) (hp : s.pwr.phase = 6) : ∃ (m : Mem) (b : State),
    (m.rsvRestored = s.causeFound.2.isSome ∧ m.areaA = { s.mem.areaA with magic := false, mark := false } ∧
      m.areaB = { s.mem.areaB with magic := false, mark := false }) ∧
    b.blank (keepOnly [.mem, .cells]) = (s.withMem m).blank (keepOnly [.mem, .cells]) ∧
    exec (.restoreDone t) s = .next ((b.withPwr { b.pwr with
      phase := 7, cause := s.causeFound.1, kept := s.causeFound.2, startTime := b.clk.now / 1000 % 4294967296 }).raise
        120 .notice 0 s.causeFound.1 noIndex []) := by
  rw [show exec (.restoreDone t) s = execRestoreDone t s from rfl, execRestoreDone, if_neg (by simp [hr, hp])]
  extract_lets _ _ v found va vb nb _ _ _ wiped mark _ marks cycle counted told restored blank4 w3 start _ held seeded
  refine ⟨wiped.mem, seeded, ⟨rfl, rfl, rfl⟩, ?_, rfl⟩
  have htold : told.blank (keepOnly [.mem, .cells]) = counted.blank (keepOnly [.mem, .cells]) := by
    simp only [told]
    split <;> apply State.raise_blank <;> rfl
  have hseeded : seeded.blank (keepOnly [.mem, .cells]) = held.blank (keepOnly [.mem, .cells]) := by
    simp only [seeded]
    split
    · apply State.seedAfterRestore_blank <;> rfl
    · rfl
  calc seeded.blank (keepOnly [.mem, .cells]) = told.blank (keepOnly [.mem, .cells]) := hseeded.trans (State.withLog_blank rfl _ _)
    _ = (wiped.withLog marks).blank (keepOnly [.mem, .cells]) := htold.trans (by apply State.markCount_blank <;> rfl)

theorem exec_feedQualified {va vb : Nat} {rtc : Option (Nat × Nat)} (hi : s.pwr.inReset = true)
    (hh : s.pwr.held = false) (hp : s.pwr.phase < 2) (hf : feedInRange va = true ∨ feedInRange vb = true)
    (hc : vget s.glb.clkRun 3 false = true) {b : State} (hb : b = (s.setFeed 0 (va % 65536)).setFeed 1 (vb % 65536)) :
    exec (.feedQualified va vb rtc) s = .next ((b.withPwr { b.pwr with
      phase := 2, charging := true, rtcValid := rtc.isSome
      rtc := rtc.map (fun x => (x.1 : Int) - s.clk.now) }).startTime rtc) := by
  subst hb
  refine congrArg _ ((if_neg ?_).trans rfl)
  rw [← Bool.or_eq_true] at hf
  simp [hi, hh, hf, hc]
  omega

theorem exec_bootDone (hr : s.pwr.inReset = false) (hp : s.pwr.phase = 2) {f : Nat} {bs : List Nat} {n : Nat}
    (hn : n = f % 8 ||| (if bs.isEmpty then 0 else 4)) {b : State} (hb : b = (s.instant t).withMem { s.mem with
      banks := bs.foldl (fun v i => vmod v i (fun k => { k with failed := true })) s.mem.banks, sram := [], mortar := [] }) :
    exec (.bootDone t f bs) s = .next (if n = 0 then b.withPwr { s.pwr with phase := 3 }
      else (b.withPwr { s.pwr with phase := 8, selftest := n }).raise 120 .alarm 0 0 noIndex []) := by
  subst hn hb
  exact congrArg _ (if_neg (by simp [hr, hp]))

theorem exec_fwAuthDone (hr : s.pwr.inReset = false) (hp : s.pwr.phase = 4) (i : FwImage) :
    exec (.fwAuthDone t i) s = .next (
      let b := (s.instant t).withPwr { s.pwr with
        fwResult := s.authResult i, fwRelease := i.release % 65536, fwGo := none
        phase := if s.authResult i = 1 then 5 else 3 }
      if s.authResult i = 1 then
        ((b.withGlb { s.glb with fwRunning := true, fwRelease := i.release % 65536 }).withSec
          { s.sec with runVersion := i.secVersion % 256 }).withMem s.mem.firmwareMap
      else b) :=
  congrArg _ (if_neg (by simp [hr, hp]))

theorem exec_selftestDone (hr : s.pwr.inReset = false) (hp : s.pwr.phase = 5) (f : Nat) (ls : List Nat) {b : State}
    (hb : b = ls.foldl (fun v l => (v.count .vslKatFail).quarantine l) ((s.instant t).withVsl { s.vsl with
      lanes := s.vsl.lanes.map (fun x => { x with lastKat := s.crs.courseCnt }) })) :
    exec (.selftestDone t f ls) s = .next (if f % 256 = 0 then b.withPwr { b.pwr with phase := 6 }
      else ((s.instant t).withPwr { s.pwr with phase := 8, selftest := f % 256 }).raise 120 .alarm 0 0 noIndex []) := by
  have hpwr : b.pwr = s.pwr := hb ▸ State.foldl_keeps State.pwr _ ls _ fun u l =>
    ((State.pwr_of_blank (m := keepOnly [.pwr]) (by apply State.quarantine_blank <;> rfl) rfl).trans (u.count_pwr _))
  rw [hpwr]
  subst hb
  exact congrArg _ (if_neg (by simp [hr, hp]))

theorem exec_pwrBootGo (ha : s.answers 0xE018 = true) (hx : s.accessStalled 0xE018 = false) (w : Word) :
    exec (.pwrBootGo w) s = .next (if s.pwr.phase ≠ 3 ∨ w.getLsbD 0 = false ∨ w.extractLsb' 16 16 ≠ 0x4254#16 then s
      else s.withPwr { s.pwr with
        phase := 4
        fwGo := some ((s.cfgReg .pwrFwAddrLo).toNat + 4294967296 * (s.cfgReg .pwrFwAddrHi).toNat,
                      (s.cfgReg .pwrFwLen).toNat) }) :=
  congrArg _ (State.barWrite_of_answers s ha hx)

end

/-- Settles O52: each phase of the start-up ends as its outcome says. -/
theorem startUpRows : Obligations.StartUpRows := by
  unfold Obligations.StartUpRows
  rintro t s a rfl
  refine ⟨fun va vb rtc b hi hh hp hf hc hb => ?_, fun hr => ⟨fun f bs n b hp hn hb => ⟨fun h0 => ?_, fun h0 => ?_⟩,
    fun i hp => ⟨fun h1 => ?_, fun h1 => ?_⟩, fun f ls hp => ⟨fun h0 => ?_, fun h0 => ?_⟩, fun hp => ?_⟩,
    fun w ha hx => ⟨fun hp h0 hk => ?_, fun h => ?_⟩⟩
  · refine ⟨_, exec_feedQualified hi hh hp hf hc hb, rfl, ?_⟩
    rw [State.startTime_pwr, hb]
    exact ⟨rfl, rfl, rfl, rfl⟩
  · rw [exec_bootDone hr hp hn hb, if_pos h0]
  · rw [exec_bootDone hr hp hn hb, if_neg h0]
  · rw [exec_fwAuthDone hr hp]
    simp only [h1]
    rfl
  · rw [exec_fwAuthDone hr hp]
    simp only [h1]
    rfl
  · refine ⟨_, (exec_selftestDone hr hp f ls rfl).trans (congrArg _ (if_pos h0)), rfl, _, rfl, rfl⟩
  · rw [exec_selftestDone hr hp f ls rfl, if_neg h0]
  · obtain ⟨m, b, ⟨hrsv, ha, hb⟩, hkept, hexec⟩ := exec_restoreDone (t := t) hr hp
    have hmem : b.mem = m := State.mem_of_blank hkept rfl rfl
    refine ⟨_, hexec, ?_⟩
    simp only [State.raise_pwr, State.raise_mem]
    exact ⟨rfl, rfl, rfl, hmem ▸ hrsv, hmem ▸ ha, hmem ▸ hb⟩
  · rw [exec_pwrBootGo ha hx, if_neg (by simp [hp, h0, hk])]
  · rw [exec_pwrBootGo ha hx, if_pos h]

/-! ## The hold-up supply (R500, R501, R515) -/

section
variable {t : Nat} {s : State}

theorem State.judgeHold_pwr (v : Nat) : (s.judgeHold v).pwr = { s.pwr with hold := v, full := holdFull v } := by
  unfold State.judgeHold
  dsimp only
  split
  · rfl
  · rw [State.raise_pwr]
    rfl

theorem State.judgeCap_pwr : s.judgeCap.pwr = { s.pwr with holdFault := !capGood s.pwr.cap s.pwr.esr } := by
  unfold State.judgeCap
  by_cases hg : capGood s.pwr.cap s.pwr.esr = true
  · rw [if_pos hg, hg]
    split
    case isTrue => rw [State.raise_pwr]; rfl
    case isFalse h => exact congrArg (fun f => { s.pwr with holdFault := f }) (Bool.eq_false_iff.mpr h)
  · rw [if_neg hg, State.raise_pwr, State.count_pwr, Bool.eq_false_iff.mpr hg]
    rfl

theorem exec_holdChargeComplete (hs : s.pwr.save = none) (v d : Nat) (r : Option Nat) :
    exec (.holdChargeComplete t v d r) s = .next
      ((((s.instant t).withPwr { s.pwr with
        charging := false, esr := min (d / 100) 1023
        cap := min (match r with | some x => x / 400 | none => s.pwr.cap) 2047 }).judgeHold (v % 2048)).judgeCap) :=
  congrArg _ ((if_neg (by simp [hs])).trans (by cases r <;> rfl))

theorem exec_holdTest (hs : s.pwr.save = none) (hf : s.pwr.full = true) (v : Nat)
    (hd : s.pwr.testAt + 3600000000000 * s.effField .pwrCfg 0 8 ≤ (s.instant t).clk.now) :
    exec (.holdTest t v) s = .next (((s.instant t).withPwr { s.pwr with
      cap := min (v / 40) 2047, charging := true, testAt := (s.instant t).clk.now }).judgeCap) :=
  congrArg _ (if_neg (by simp [hs, hf, hd]))

theorem exec_vbatLow (v : Nat) (c : Bool) : exec (.vbatLow t v c) s = .next (
    let b := (s.instant t).withPwr { s.pwr with vbat := v % 4096 }
    if c = true then (if v < 1800 then b.withPwr { b.pwr with rtc := none } else b)
    else if v < 100 * s.effField .pwrCfg 8 6 then
      if s.pwr.vbatLow = true then b else (b.withPwr { b.pwr with vbatLow := true }).raise 120 .warning 0 0 noIndex []
    else b.withPwr { b.pwr with vbatLow := false }) := rfl

/-! ## The save and its end (R502 to R504) -/

theorem exec_holdupSaveStart_of_begins (hr : s.pwr.inReset = false) (hp : 2 ≤ s.pwr.phase) (hs : s.pwr.save = none)
    (v : Nat) : exec (.holdupSaveStart t v) s =
      .next (if s.firmwareRuns = false then (s.instant t).resetPart 2 1 else (s.instant t).enterSave v) := by
  rw [exec_holdupSaveStart, if_neg]
  simp [hr, hs]
  omega

theorem State.enterSave_pwr (v : Nat) : (s.enterSave v).pwr =
    { s.pwr with save := some (saveKind v), hold := v % 2048, charging := false, full := holdFull (v % 2048) } := by
  have hquiet : (s.enterSave v).pwr = (s.saveBegun v).pwr :=
    State.pwr_of_blank (m := keepOnly [.pwr])
      ((State.saveQuiets_blank rfl rfl).trans (by apply State.saveStops_blank <;> rfl)) rfl
  rw [hquiet, State.saveBegun]
  dsimp only
  split <;> simp only [State.count_pwr, State.judgeHold_pwr] <;> rfl

theorem State.problemEnds_empties (ps : List Problem) (o : Nat) {u : State} (hq : u.vsl.queue = []) (hf : u.vsl.feed = []) :
    (ps.foldl (fun u p => u.problemEnds p o) u).vsl.queue = [] ∧ (ps.foldl (fun u p => u.problemEnds p o) u).vsl.feed = [] :=
  ⟨(State.foldl_keeps (fun u => u.vsl.queue) _ ps u fun u p => by rw [State.problemEnds_vsl]).trans hq,
    (State.foldl_keeps (fun u => u.vsl.feed) _ ps u fun u p => by rw [State.problemEnds_vsl]).trans hf⟩

theorem State.abortArray_empties : s.abortArray.vsl.queue = [] ∧ s.abortArray.vsl.feed = [] :=
  State.problemEnds_empties _ 12 rfl rfl

theorem State.enterSave_vsl (v : Nat) : (s.enterSave v).vsl.queue = [] ∧ (s.enterSave v).vsl.feed = [] := by
  have hstops (u : State) : u.saveStops.saveQuiets.vsl = (u.abandonActivation 0x0F).abortArray.vsl :=
    State.vsl_of_blank (m := keepOnly [.vsl]) ((State.saveQuiets_blank rfl rfl).trans (by
      simp (disch := decide) only [State.saveStops, ↓State.ite_blank, ↓State.emit_blank, ↓State.withTim_blank,
        ↓State.buttressSave_blank, ite_self])) rfl
  rw [State.enterSave, hstops]
  exact State.abortArray_empties

theorem State.enterSave_btr (v : Nat) : (s.enterSave v).btr.save = true := by
  unfold State.enterSave State.saveStops
  dsimp only
  split <;> rfl

theorem vget_map {α β : Type} {n i : Nat} (f : α → β) (v : Vector α n) (hi : i < n) {d : α} {e : β} :
    vget (v.map f) i e = f (vget v i d) := by
  simp [vget, hi]

/-- A save leaves no waiting command, no event to deliver and no ring enabled (R504). -/
theorem State.enterSave_rings (v : Nat) : (s.enterSave v).hrg.waiting = [] ∧ (s.enterSave v).evt.queue = [] ∧
    ∀ r, r < 22 → ((s.enterSave v).ring r).state = .disabled ∧ ((s.enterSave v).ring r).outst = [] := by
  refine ⟨rfl, rfl, fun r hr => ?_⟩
  have hring : (s.enterSave v).ring r = { (s.saveBegun v).saveStops.ring r with
      state := .disabled, en := false, outst := [] } := vget_map _ _ hr
  rw [hring]
  exact ⟨rfl, rfl⟩

/-- The end of a save writes the area that does not hold the newest valid one and resets the part (R503). -/
theorem exec_holdupSaveEnd_of_kept {k : SaveKind} (hs : s.pwr.save = some k) (hk : k ≠ .none) :
    ∃ x : SaveArea, (x.magic = true ∧ x.mark = true ∧ x.seq = s.mem.saveInto.2 ∧ x.frame = s.crs.frame ∧
      (k = .short → x.length = 0) ∧ (k = .full → x.hold = s.log.hold ∧ x.staging = s.evt.staging)) ∧
    ∃ u : State, (u.mem = if s.mem.saveInto.1 then { (s.instant t).saveMark.mem with areaB := x }
      else { (s.instant t).saveMark.mem with areaA := x }) ∧
    exec (.holdupSaveEnd t) s = .next (u.resetPart (if k = .full then 1 else 2) 1) := by
  rw [show exec (.holdupSaveEnd t) s = execHoldupSaveEnd t s from rfl, execHoldupSaveEnd, hs]
  cases k with
  | none => exact absurd rfl hk
  | short => exact ⟨_, ⟨rfl, rfl, rfl, rfl, fun _ => rfl, nofun⟩, _, rfl, rfl⟩
  | full => exact ⟨_, ⟨rfl, rfl, rfl, rfl, nofun, fun _ => ⟨rfl, rfl⟩⟩, _, rfl, rfl⟩

end

/-- Settles O53: the charge and the test by what HOLD is judged on, the save by its steps, its end by the area it
writes. -/
theorem holdUpRows : Obligations.HoldUpRows := by
  unfold Obligations.HoldUpRows
  rintro t v s a rfl
  refine ⟨fun d r hs => ?_, fun hs hf hd => ?_, fun b hb => ⟨fun hv => ?_, fun hv => ?_, ?_⟩,
    fun hr hp hs => ⟨fun hfw => ?_, fun hfw => ?_⟩, fun k hs hk => ?_⟩
  · refine ⟨_, exec_holdChargeComplete hs v d r, rfl, ?_⟩
    simp only [State.judgeCap_pwr, State.judgeHold_pwr, State.withPwr_pwr, and_self]
  · refine ⟨_, exec_holdTest hs hf v hd, rfl, ?_⟩
    simp only [State.judgeCap_pwr]
    rfl
  · rw [exec_vbatLow, hb]
    simp only [Bool.false_eq_true, if_false, if_pos hv]
    rfl
  · rw [exec_vbatLow]
    simp only [Bool.false_eq_true, if_false, if_neg (Nat.not_lt.mpr hv)]
    rfl
  · rw [exec_vbatLow, hb]
    simp only [if_true]
    rfl
  · rw [exec_holdupSaveStart_of_begins hr hp hs, if_pos hfw]
  · refine ⟨_, (exec_holdupSaveStart_of_begins hr hp hs v).trans (congrArg _ (if_neg (by simp [hfw]))), ?_⟩
    dsimp only
    rw [State.enterSave_pwr]
    exact ⟨rfl, rfl, (State.enterSave_vsl v).1, (State.enterSave_vsl v).2, State.enterSave_btr v, State.enterSave_rings v⟩
  · obtain ⟨x, ⟨hmagic, hmark, hseq, hframe, hshort, hfull⟩, u, hmem, hexec⟩ := exec_holdupSaveEnd_of_kept (t := t) hs hk
    have hareas : (u.resetPart (if k = .full then 1 else 2) 1).mem.areaA = u.mem.areaA ∧
        (u.resetPart (if k = .full then 1 else 2) 1).mem.areaB = u.mem.areaB := ⟨rfl, rfl⟩
    refine ⟨_, hexec, rfl, rfl, x, hmagic, hmark, hseq, hframe, hshort, hfull, ?_⟩
    rw [hareas.1, hareas.2, hmem]
    split <;> exact ⟨rfl, rfl⟩

end Sys2Proof.Machine
end

section
/-! The statements of spec/24_configuration_security.md: the OTP operations. -/

namespace Sys2Proof.Machine
open Sys2Proof

section
variable {s : State} (ha : s.answers 0x214 = true) (hx : s.accessStalled 0x214 = false)

/-- The commands that one write of GLB_OTP_CTRL with key `k` may be (R535, R538, R540). -/
def otpWrites (n k : Nat) : List Instr :=
  [.otpReadIdentity n k, .otpReadKey n k, .otpWriteIdentity n k, .otpWriteKey n k, .otpRevokeKey n k, .otpRevokeFwKey n k,
    .otpBindSeal n k, .otpRaiseVersion n k]

/-- Each of them judges its key and the operation in progress alike. -/
theorem exec_otpWrites {n k : Nat} {i : Instr} (hi : i ∈ otpWrites n k) :
    ∃ go : State → State, exec i s = .next (s.otpWrite k go) := by
  simp only [otpWrites, List.mem_cons, List.not_mem_nil, or_false] at hi
  obtain rfl | rfl | rfl | rfl | rfl | rfl | rfl | rfl := hi <;> exact ⟨_, rfl⟩

include ha hx

theorem State.otpWrite_of_answers (key : Nat) (go : State → State) : s.otpWrite key go =
    if key ≠ 0x4F54 then s
    else if s.sec.otpBusy.isSome = true then s.withSec { s.sec with otpHit := true } else go s :=
  State.barWrite_of_answers s ha hx

theorem State.otpWrite_of_idle (hb : s.sec.otpBusy = none) (go : State → State) : s.otpWrite 0x4F54 go = go s := by
  rw [State.otpWrite_of_answers ha hx, if_neg (by simp), if_neg (by simp [hb])]

omit ha hx

theorem toList_getD_eq_vget {α : Type} {n : Nat} (v : Vector α n) (i : Nat) (d : α) : v.toList.getD i d = vget v i d := by
  simp [vget, List.getD]

theorem vget_default {α : Type} {n i : Nat} (v : Vector α n) (hi : i < n) (d e : α) : vget v i d = vget v i e := by
  simp [vget, hi]

theorem vector_any_iff {α : Type} {n : Nat} (v : Vector α n) (p : α → Bool) (d : α) :
    v.toList.any p = true ↔ ∃ j, j < n ∧ p (vget v j d) = true := by
  simp only [List.any_eq_true, Vector.mem_toList_iff, Vector.mem_iff_getElem]
  constructor
  · rintro ⟨_, ⟨j, hj, rfl⟩, hp⟩
    exact ⟨j, hj, by simpa [vget, hj] using hp⟩
  · rintro ⟨j, hj, hp⟩
    exact ⟨_, ⟨j, hj, rfl⟩, by simpa [vget, hj] using hp⟩

/-- A key slot that was never written. -/
def noKey : KeySlot := ⟨false, false, 0, [], []⟩

theorem State.otpEnd_withSec (x : Sec) (r : Nat) : (s.withSec x).otpEnd r = s.withSec { x with otpResult := r } := rfl

variable {n : Nat} (hb : s.sec.otpBusy = none) (hp : s.provisioning = true)
include ha hx hb

/-- A write with the key while no operation is in progress does what its command does. -/
theorem exec_otp_of_idle {i : Instr} {go : State → State} (h : exec i s = .next (s.otpWrite 0x4F54 go)) :
    exec i s = .next (go s) := h.trans (congrArg _ (State.otpWrite_of_idle ha hx hb go))

theorem exec_otpReadIdentity : exec (.otpReadIdentity n 0x4F54) s = .next
    (if 8 ≤ n then s.otpEnd 4 else s.withSec { s.sec.setWindow (s.sec.idRecord n) with otpResult := 0 }) := by
  have h := exec_otp_of_idle ha hx hb (i := .otpReadIdentity n 0x4F54) rfl
  simp only [State.otpEnd_withSec] at h
  exact h

theorem exec_otpReadKey {k : KeySlot} (hk : k = vget s.sec.keys n noKey) : exec (.otpReadKey n 0x4F54) s = .next
    (if 4 ≤ n then s.otpEnd 4 else
      s.withSec { s.sec.setWindow (wbytes k.keyId ++ padTo 48 k.x ++ padTo 48 k.y) with otpResult := 0 }) := by
  have h := exec_otp_of_idle ha hx hb (i := .otpReadKey n 0x4F54) rfl
  simp only [State.otpEnd_withSec] at h
  exact hk ▸ h

theorem exec_otpRaiseVersion : exec (.otpRaiseVersion n 0x4F54) s = .next (if 64 ≤ s.sec.steps then s.otpEnd 3
    else if s.pwr.phase = 7 ∧ s.ctl.mode = 0 ∧ s.sec.steps < s.sec.runVersion then s.otpStart 8 n else s.otpEnd 2) := by
  have h := exec_otp_of_idle ha hx hb (i := .otpRaiseVersion n 0x4F54) rfl
  exact h.trans rfl

/-- Outside provisioning no fuse is written (R535). -/
theorem exec_otp_denied (hp : s.provisioning = false) {i : Instr} (hi : i ∈ [Instr.otpWriteIdentity n 0x4F54,
    .otpWriteKey n 0x4F54, .otpRevokeKey n 0x4F54, .otpRevokeFwKey n 0x4F54, .otpBindSeal n 0x4F54]) :
    exec i s = .next (s.otpEnd 2) := by
  have hgo : ∃ go : State → State, exec i s = .next (s.otpWrite 0x4F54 go) ∧ go s = s.otpEnd 2 := by
    simp only [List.mem_cons, List.not_mem_nil, or_false] at hi
    obtain rfl | rfl | rfl | rfl | rfl := hi <;> exact ⟨_, rfl, if_pos hp⟩
  obtain ⟨go, hexec, hend⟩ := hgo
  rw [exec_otp_of_idle ha hx hb hexec, hend]

include hp

theorem exec_otpWriteIdentity : exec (.otpWriteIdentity n 0x4F54) s = .next
    (if s.sec.idRecords.length < 8 then s.otpStart 3 n else s.otpEnd 3) := by
  have h := exec_otp_of_idle ha hx hb (i := .otpWriteIdentity n 0x4F54) rfl
  refine h.trans (congrArg _ ((if_neg (by simp [hp])).trans ?_))
  rw [← ite_not]
  exact if_congr (by simp) rfl rfl

theorem exec_otpRevokeFwKey : exec (.otpRevokeFwKey n 0x4F54) s = .next (if 2 ≤ n then s.otpEnd 4
    else if vget s.sec.fwRevoked (1 - n) true = true then s.otpEnd 5 else s.otpStart 6 n) := by
  have h := exec_otp_of_idle ha hx hb (i := .otpRevokeFwKey n 0x4F54) rfl
  exact h.trans (congrArg _ (if_neg (by simp [hp])))

theorem exec_otpBindSeal : exec (.otpBindSeal n 0x4F54) s = .next
    (if (s.sec.otpData[0]).setWidth 16 = 0#16 then s.otpEnd 4
      else if s.sec.bindings.length < 32 then s.otpStart 7 n else s.otpEnd 3) := by
  have h := exec_otp_of_idle ha hx hb (i := .otpBindSeal n 0x4F54) rfl
  refine h.trans (congrArg _ ((if_neg (by simp [hp])).trans (if_congr Iff.rfl rfl ?_)))
  rw [← ite_not]
  exact if_congr (by simp) rfl rfl

/-- A key slot is written when it exists and is free and its key is new, not 0 and on the curve (R535). -/
theorem exec_otpWriteKey {k : KeySlot} (hk : k = keyIn s.sec.window) {bad : Prop} [Decidable bad]
    (hbad : bad ↔ 4 ≤ n ∨ (vget s.sec.keys n noKey).used = true ∨ k.keyId = 0 ∨
      (∃ j, j < 4 ∧ (vget s.sec.keys j noKey).used = true ∧ (vget s.sec.keys j noKey).keyId = k.keyId) ∨
      onP384 (beNat k.x) (beNat k.y) = false) :
    exec (.otpWriteKey n 0x4F54) s = .next (if bad then s.otpEnd 4 else s.otpStart 4 n) := by
  subst hk
  have h := exec_otp_of_idle ha hx hb (i := .otpWriteKey n 0x4F54) rfl
  refine h.trans (congrArg _ ((if_neg (by simp [hp])).trans (if_congr ?_ rfl rfl)))
  rw [hbad, toList_getD_eq_vget, vector_any_iff _ _ noKey]
  simp only [Bool.and_eq_true, beq_iff_eq]
  by_cases hn : n < 4
  · rw [vget_default _ hn _ noKey]
  · simp [Nat.not_lt.mp hn]

/-- A key is revoked when its slot exists and another key stays valid and unrevoked (R535). -/
theorem exec_otpRevokeKey {left : Prop} [Decidable left] (hleft : left ↔
      ∃ j, j < 4 ∧ j ≠ n ∧ (vget s.sec.keys j noKey).valid = true ∧ vget s.sec.revoked j true = false) :
    exec (.otpRevokeKey n 0x4F54) s =
      .next (if 4 ≤ n then s.otpEnd 4 else if left then s.otpStart 5 n else s.otpEnd 5) := by
  have h := exec_otp_of_idle ha hx hb (i := .otpRevokeKey n 0x4F54) rfl
  refine h.trans (congrArg _ ((if_neg (by simp [hp])).trans (if_congr Iff.rfl rfl ?_)))
  rw [← ite_not]
  refine if_congr ?_ rfl rfl
  rw [hleft, Bool.not_eq_false, List.any_eq_true]
  simp only [toList_getD_eq_vget, List.mem_range, Bool.and_eq_true, bne_iff_ne, Bool.not_eq_true', and_assoc]
  rfl

end

/-- The end of an operation is its effect on the fuses, its report and its result (R535, R540). -/
theorem exec_otpOperationDone {t : Nat} {s : State} {o : OtpOp} (g : Bool) {x : Sec} {b : State}
    (ho : s.sec.otpBusy = some o) (hx : x = (if g then s.sec.program o else s.sec.interrupt s.clk.free))
    (hb : b = ((s.instant t).useFree.withSec { x with
      otpBusy := none, otpHit := false, otpResult := if s.sec.otpHit then 1 else if g then 0 else 6 }).raise
        120 .notice 0 0 noIndex [word o.op, word o.slot]) :
    exec (.otpOperationDone t g) s =
      .next (if x.steps = 64 ∧ s.sec.steps ≠ 64 then b.raise 120 .notice 0 0 noIndex [] else b) := by
  subst hb hx
  rw [show exec (.otpOperationDone t g) s = execOtpOperationDone t g s from rfl, execOtpOperationDone, ho]
  rfl

/-- Settles O54: the key and the operation in progress are judged first, then each operation's own checks in turn. -/
theorem otpRows : Obligations.OtpRows := by
  unfold Obligations.OtpRows
  intro n s ha hx empty ops
  refine ⟨fun k hk i hi => ?_, fun hb i hi => ?_, fun hb => ?_, fun t o g x b ho hx hb => exec_otpOperationDone g ho hx hb⟩
  · obtain ⟨go, h⟩ := exec_otpWrites hi (s := s)
    rw [h, State.otpWrite_of_answers ha hx, if_pos hk]
  · obtain ⟨go, h⟩ := exec_otpWrites hi (s := s)
    rw [h, State.otpWrite_of_answers ha hx, if_neg (by simp), if_pos hb]
  · refine ⟨fun hn => ?_, fun hn => ?_, fun k hn hk => ?_, fun hn => ?_, fun hp i hi => exec_otp_denied ha hx hb hp hi,
      fun hp => ⟨exec_otpWriteIdentity ha hx hb hp, fun k hk => ⟨fun hn hu h0 hnew hcurve => ?_, fun hbad => ?_⟩,
        fun j hn hj hne hv hr => ?_, fun hn hall => ?_, fun hn => ?_, exec_otpRevokeFwKey ha hx hb hp,
        exec_otpBindSeal ha hx hb hp⟩, exec_otpRaiseVersion ha hx hb⟩
    · rw [exec_otpReadIdentity ha hx hb, if_neg (by omega)]
    · rw [exec_otpReadIdentity ha hx hb, if_pos hn]
    · rw [exec_otpReadKey ha hx hb hk, if_neg (by omega)]
    · rw [exec_otpReadKey ha hx hb rfl, if_pos hn]
    · refine (exec_otpWriteKey ha hx hb hp hk (bad := False) ⟨False.elim, ?_⟩).trans (congrArg _ (if_neg id))
      rintro (h | h | h | ⟨j, hj, h, hid⟩ | h)
      · omega
      · exact Bool.eq_false_iff.mp hu h
      · exact h0 h
      · exact hnew j hj h hid
      · rw [hcurve] at h
        cases h
    · exact (exec_otpWriteKey ha hx hb hp hk (bad := True) (iff_of_true trivial hbad)).trans (congrArg _ (if_pos trivial))
    · rw [exec_otpRevokeKey ha hx hb hp (iff_of_true trivial ⟨j, hj, hne, hv, hr⟩), if_neg (by omega), if_pos trivial]
    · rw [exec_otpRevokeKey ha hx hb hp (left := False) ⟨False.elim, ?_⟩, if_neg (by omega), if_neg id]
      rintro ⟨j, hj, hne, hv, hr⟩
      exact Bool.eq_false_iff.mp hr (hall j hj hne hv)
    · exact (exec_otpRevokeKey ha hx hb hp (left := (decide _) = true) decide_eq_true_iff).trans (congrArg _ (if_pos hn))

end Sys2Proof.Machine
end

section
/-! The statements of spec/23_cascade.md: ports, cable delays, tick markers, beacons, the loss of the master, shared
blocks. -/

namespace Sys2Proof.Machine
open Sys2Proof

/-! ## The newest sequence number of each sender (R521) stays through the work of a beacon -/

section
variable (s : State)

theorem State.setLinkState_seqIn (n : Nat) : (s.setLinkState n).ylk.seqIn = s.ylk.seqIn := by
  unfold State.setLinkState
  split
  · rfl
  · rw [State.raise_ylk]
    rfl

theorem State.updateTickPort_seqIn : s.updateTickPort.ylk.seqIn = s.ylk.seqIn := by
  unfold State.updateTickPort
  dsimp only
  split
  · rfl
  · rw [State.raise_ylk]
    rfl

theorem State.updateTopo_seqIn : s.updateTopo.ylk.seqIn = s.ylk.seqIn := by
  unfold State.updateTopo
  dsimp only
  split
  · rfl
  · rw [State.raise_ylk]
    rfl

theorem State.stepTime_seqIn (d : Int) (seq : Nat) : (s.stepTime d seq).ylk.seqIn = s.ylk.seqIn := by
  have hplace (u : State) (f : Word) (x : Int) : (u.placeAnchor f x).ylk = u.ylk :=
    State.ylk_eq_of_blank (State.placeAnchor_blank rfl rfl rfl f x u)
  have hadvance : s.timAdvance.ylk = s.ylk := State.ylk_eq_of_blank (State.timAdvance_blank rfl s)
  simp only [State.stepTime, hplace, State.withTim_ylk, State.raise_ylk, apply_ite State.ylk, State.withCrs_ylk, ite_self,
    State.withYlk_ylk, hadvance]

theorem State.followStep_seqIn (b : LinkBeacon) : (s.followStep b).ylk.seqIn = s.ylk.seqIn := by
  unfold State.followStep
  split
  · rfl
  · extract_lets o jump stepped _ timed
    have htimed : timed.ylk.seqIn = s.ylk.seqIn :=
      (congrArg Ylk.seqIn (State.ylk_eq_of_blank ((State.setTimSrc_blank rfl 5 _ stepped).trans
        (State.retimeFrom_blank rfl b.frame (-o) (s.stepTime (-o) 0))))).trans (s.stepTime_seqIn (-o) 0)
    clear_value timed
    split
    · exact htimed
    · rfl

theorem State.beaconOffset_seqIn (hops : Nat) (b : LinkBeacon) : (s.beaconOffset hops b).ylk.seqIn = s.ylk.seqIn := by
  unfold State.beaconOffset
  dsimp only
  split
  · rfl
  · split <;> rfl

theorem State.takeBeacon_seqIn (hops : Nat) (b : LinkBeacon) : (s.takeBeacon hops b).ylk.seqIn = s.ylk.seqIn := by
  unfold State.takeBeacon
  split
  · split
    · rw [State.raise_ylk, State.setLinkState_seqIn]
      rfl
    · rfl
  · split
    · rw [State.beaconOffset_seqIn, State.followStep_seqIn]
      rfl
    · rfl
  · rfl

end

section
variable {s : State} {hd : LinkHdr} {typ : Nat} {b : List Byte}

/-- What a part hears becomes the newest of its sender and class before the part acts on it, whatever it passes on. -/
theorem State.linkTake_notes (h : s.Hears hd typ b) (fwd : List Byte) (act : State → State) : ∃ w : State,
    s.linkTake hd typ b fwd act = act w ∧ w.ylk.seqIn = aput (4 * hd.src + linkClass typ) hd.seq s.ylk.seqIn := by
  obtain ⟨h0, hup, hcrc, hown, hnew, hdst, hlen⟩ := h
  unfold State.linkTake
  extract_lets p counted own key fresh bytes crc passed old heard
  have hcounted : counted = s := if_neg (by simp [hcrc])
  clear_value counted
  subst hcounted
  have hpassed : passed.ylk = counted.ylk ∧ passed.linkAddr = counted.linkAddr := by
    simp only [passed]
    split <;> exact ⟨rfl, rfl⟩
  have hfresh : fresh = true := by
    simp only [fresh]
    split
    · next q hq => exact hnew q hq
    · rfl
  refine ⟨heard, ?_, congrArg (fun y : Ylk => aput key hd.seq y.seqIn) hpassed.1⟩
  rw [if_neg (by simp [h0, p, hup]), if_neg (by simp [hcrc, own, hown, hfresh]),
    if_pos ⟨hpassed.2 ▸ hdst, hlen⟩]

end

/-! ## Ports, markers, beacons, the master (R518, R519, R523 to R526) -/

section
variable {t : Nat} {s : State}

theorem exec_linkPortChange {p : Nat} {up : Bool} (hf : s.firmwareRuns = true) (hp : p < 2) (he : s.linkPortEn p = true)
    (hu : vget s.ylk.up p false ≠ up) {z : State} (hz : z = (s.instant t).withYlk { s.ylk with up := vset s.ylk.up p up }) :
    exec (.linkPortChange t p up) s = .next
      ((((if up then z else z.count .linkDown).raise 91 .notice (b2n up) 0 p []).updateTickPort).updateTopo) := by
  subst hz
  refine congrArg _ (if_neg ?_)
  rintro (h | h | h | h)
  · simp [hf] at h
  · omega
  · simp [he] at h
  · exact hu h

theorem exec_cableDelayMeasure {p : Nat} (n : Nat) (hf : s.firmwareRuns = true) (hp : p < 2) (hu : s.linkUp p = true) :
    exec (.cableDelayMeasure t p n) s =
      .next ((s.instant t).withYlk { s.ylk with cable := vset s.ylk.cable p (min 0xFFFF (n / 2)) }) :=
  congrArg _ (if_neg (by simp [hf, hu]; omega))

variable (hr : s.runs = true)
include hr

/-- A marker is forwarded, kept, and as a MEMBER's bad one counted and reported (R523). -/
theorem exec_tickMarkerRx {p h c : Nat} {g ok : Bool} {x z : State} (hp : p < 2) (hu : s.linkUp p = true)
    (h0 : s.ylk.state ≠ 0) (h3 : s.ylk.state ≠ 3) (hok : ok = (g && c % 256 == (s.crs.courseCnt + 1) % 256))
    (hx : x = (if s.linkUp (1 - p) = true ∧ h < 31 then (s.instant t).emit (.marker (1 - p) (h + 1) (c % 256))
      else s.instant t))
    (hz : z = x.withYlk { s.ylk with
      markAt := vset s.ylk.markAt p (some (s.instant t).clk.now), markOk := vset s.ylk.markOk p ok
      markBits := c % 256, masterAt := s.crs.courseCnt }) :
    exec (.tickMarkerRx t p h c g) s = .next (if s.ylk.state = 2 ∧ ok = false then
      if s.ylk.tickPort = p then (z.count .tickMiss).raise 93 .notice 0 0 p [] else z.count .tickMiss else z) := by
  refine next_whileRunning t hr ((if_neg ?_).trans ?_)
  · rintro (h | h | h | h)
    · omega
    · exact Bool.false_ne_true (h.symm.trans hu)
    · exact h0 h
    · exact h3 h
  · extract_lets fwd usable _ kept counted
    have hfwd : fwd = x := hx.symm
    clear_value fwd
    subst hfwd
    have hout : ∃ o, fwd = (s.instant t).withOutbox o := by
      rw [hx]
      split <;> exact ⟨_, rfl⟩
    clear hx
    obtain ⟨o, rfl⟩ := hout
    have htick : counted.ylk = kept.ylk := State.count_ylk kept _
    have hkept : kept = z := hz.trans (by rw [hok]; rfl) |>.symm
    rw [htick, ← hkept, hok]
    rfl

/-- A beacon is judged by its CRC, forwarded with the delay of the hop added, and taken (R518, R524). -/
theorem exec_beaconRx {hd : LinkHdr} {b : List Byte} {k : Word} {m : Bool} {p d : Nat} {z : State} {c : LinkBeacon}
    (hp : p = hd.port % 2) (h0 : s.ylk.state ≠ 0) (hu : s.linkUp p = true)
    (hd' : d = u32 b 12 + 160 + vget s.ylk.cable p 0)
    (hz : z = (if hd.crc ≠ 0 then s.instant t else (s.instant t).withYlk { s.ylk with
      bcnAt := vset s.ylk.bcnAt p (some s.crs.courseCnt)
      dacc := if hd.src = s.linkAddr then s.ylk.dacc else vset s.ylk.dacc p (min 0xFFFE d) }))
    (hc : c = { src := hd.src, rank := u8 b 11, frame := hd.frame, time := ule b 0 6 * 1000000000 + u32 b 6
                len := u8 b 10, mask := word (u32 b 16), casc := k, pair := m, course := s.crs.courseCnt }) :
    exec (.beaconRx t hd b k m) s = .next (((z.linkTake hd 4 b (b.take 12 ++ lebytes 4 d ++ b.drop 16)
      (State.takeBeacon hd.hops c)).updateTickPort).updateTopo) := by
  have hcrs : z.crs = s.crs := by
    rw [hz]
    split <;> rfl
  rw [← hcrs] at hc
  subst hp hd'
  refine next_whileRunning t hr ((if_neg ?_).trans ?_)
  · rintro (h | h)
    · exact h0 h
    · exact Bool.false_ne_true (h.symm.trans hu)
  · extract_lets d _ judged fwd beacon
    have hjudged : judged = z := hz.symm
    clear_value judged
    subst hjudged hc
    rfl

theorem exec_masterLoss_ranks {l : List (Nat × Nat)} (hm : s.ylk.masterAt + s.masterLoss ≤ s.crs.courseCnt)
    (h0 : s.ylk.state ≠ 0) (h3 : s.ylk.state ≠ 3) {z : State} (hz : z = if s.ylk.state = 2 then
      (((s.instant t).setLinkState 4).raise 92 .alarm 0 0 s.ylk.master []).updateTickPort else s.instant t) :
    exec (.masterLoss t l) s = .next (if z.ranksFirst l = true then z.becomeMaster else z) := by
  subst hz
  refine next_whileRunning t hr (if_neg ?_)
  rintro (h | h | h)
  · exact h0 h
  · exact h3 h
  · exact absurd hm (Nat.not_le.mpr h)

theorem exec_sharedBlockStale {i p : Nat} {x : ImportSt} {m : List Byte} (hi : i < u8 s.linkPart 0x0B) (hp : 0 < p)
    (hx : x = aget i ImportSt.reset s.ylk.imports) (hm : m = lkImport s.linkPart i) (hs : x.stale = false)
    (hd : x.since + u8 m 3 * p * s.frameCourses ≤ s.crs.courseCnt) : exec (.sharedBlockStale t i p) s = .next
      ((((s.instant t).withYlk { s.ylk with imports := aput i { x with stale := true } s.ylk.imports }).qualBit 2 true
        ((List.range (u8 m 2)).map (u32 m 4 + ·))).raise 94 .notice 0 0 i []) := by
  subst hx hm
  refine next_whileRunning t hr (if_neg ?_)
  rintro (h | h | h | h)
  · exact absurd hi (Nat.not_lt.mpr h)
  · omega
  · rw [Bool.eq_false_iff] at hs
    exact hs h
  · exact absurd hd (Nat.not_le.mpr h)

end

/-- What a beacon that the part may take leaves is the newest of its sender (R521). -/
theorem State.beacon_noted {z : State} {hd : LinkHdr} {b : List Byte} (h : z.Hears hd 4 b) (fwd : List Byte)
    (hops : Nat) (c : LinkBeacon) : afind (4 * hd.src + linkClass 4)
      ((z.linkTake hd 4 b fwd (State.takeBeacon hops c)).updateTickPort).updateTopo.ylk.seqIn = some hd.seq := by
  obtain ⟨w, hw, hseq⟩ := State.linkTake_notes h fwd (State.takeBeacon hops c)
  rw [State.updateTopo_seqIn, State.updateTickPort_seqIn, hw, State.takeBeacon_seqIn, hseq, afind_aput_same]

/-- Settles O48: each row runs the one branch of its work that the ports, the states and the check name. -/
theorem cascadeRows : Obligations.CascadeRows := by
  unfold Obligations.CascadeRows
  rintro t s a rfl
  refine ⟨fun p up z hf hp he hu hz => exec_linkPortChange hf hp he hu hz,
    fun p n hf hp hu => exec_cableDelayMeasure n hf hp hu, fun hr => ⟨fun p h c g ok x z hp hu h0 h3 hok hx hz => ?_,
      fun hd b k m p d z c hp h0 hu hd' hz hc => ⟨_, exec_beaconRx hr hp h0 hu hd' hz hc, rfl, fun hh => ?_⟩,
      fun l z hm => ⟨fun h14 => ?_, fun h2 hz => ?_⟩,
      fun i p x m hi hp hx hm hs hd => exec_sharedBlockStale hr hi hp hx hm hs hd⟩⟩
  · have hexec := exec_tickMarkerRx hr hp hu h0 h3 hok hx hz
    exact ⟨fun hgood => hexec.trans (congrArg _ (if_neg fun hbad => hgood.elim (· hbad.1) (by simp [hbad.2]))),
      fun h2 hbad => hexec.trans (congrArg _ (if_pos ⟨h2, hbad⟩))⟩
  · refine State.beacon_noted ?_ _ _ _
    rw [hz, if_neg (not_not.mpr hh.2.2.1)]
    exact hh
  · exact exec_masterLoss_ranks hr hm (by omega) (by omega) (if_neg (by omega)).symm
  · exact exec_masterLoss_ranks hr hm (by omega) (by omega) (hz.trans (if_pos h2).symm)

end Sys2Proof.Machine
end

section
/-! The statements of spec/20_on_chip_memory.md on its rows: banks, march slices, ECC errors, mortar collisions, tests. -/

namespace Sys2Proof.Machine
open Sys2Proof

theorem vget_vmod_ne {α : Type} {n i c : Nat} (v : Vector α n) (f : α → α) (d : α) (h : i ≠ c) :
    vget (vmod v i f) c d = vget v c d := by
  unfold vmod
  split
  · simp [vget, h]
  · rfl

/-- Entries that `f` is applied to have what `f` gives them, whichever other entries it is applied to. -/
theorem vget_foldl_vmod {α : Type} {n c : Nat} {f : α → α} {P : α → Prop} {d : α} (hf : ∀ x, P (f x)) (hc : c < n)
    (l : List Nat) (v : Vector α n) (h : c ∈ l ∨ P (vget v c d)) : P (vget (l.foldl (fun v i => vmod v i f) v) c d) := by
  induction l generalizing v with
  | nil => exact h.resolve_left List.not_mem_nil
  | cons i l ih =>
    refine ih _ ?_
    by_cases hi : i = c
    · subst hi
      exact .inr (vget_vmod_same v f d hc ▸ hf _)
    · rw [vget_vmod_ne v f d hi]
      exact h.imp_left fun h => (List.mem_cons.mp h).resolve_left (Ne.symm hi)

section
variable {t : Nat} {s : State}

/-- A retained bank that is accessed wakes with its group (R471). -/
theorem exec_bankWake {b : Nat} (h : (s.bank b).retained = true) : exec (.bankWake t b) s = .next (((s.instant t).withMem
    { s.mem with banks := (s.mem.together b).foldl (fun v i => vmod v i (fun k => { k with retained := false })) s.mem.banks }
    ).count .wake) :=
  congrArg _ ((if_pos h).trans (if_pos h))

theorem State.woken_awake {b c : Nat} (hc : c ∈ s.mem.together b) (h : c < 64) : (((((s.instant t).withMem { s.mem with
    banks := (s.mem.together b).foldl (fun v i => vmod v i (fun k => { k with retained := false })) s.mem.banks }
    ).count .wake)).bank c).retained = false := by
  rw [State.bank, State.count_mem]
  exact vget_foldl_vmod (P := fun k : Bank => k.retained = false) (fun _ => rfl) h _ _ (.inl hc)

theorem exec_marchSliceAbort {b w : Nat} (h : (s.instant t).sliceNow = some (b, w)) :
    exec (.marchSliceAbort t b w) s = .next (((s.instant t).withMem
      { s.mem.backSlice with locked := none, sliceEnd := 0, retryAfter := (s.instant t).clk.now + 100000 }).count
        .sliceAbort) :=
  congrArg _ (if_pos h)

/-- A lane whose problem meets an uncorrectable word ends it LANE_FAULT and is quarantined (R261, R474). -/
theorem State.laneFault_of_job {n : Nat} {p : Problem} (hn : n < 64) (hp : (s.lane n).job = some p) : s.laneFault n =
    (((s.endHeader n p 7).setLane n { s.lane n with job := none, warm := none, testFirst := true }).problemEnds
      p 7).quarantine n := by
  rw [State.laneFault, if_neg (by omega), hp]

theorem exec_eccUncorrectable (x : EccSite) (r : Reader) : exec (.eccUncorrectable t x r) s = .next (match r with
    | .item code => ((s.instant t).uncorrectable x).loseItem code
    | .lane n => ((s.instant t).uncorrectable x).laneFault n
    | .other => (s.instant t).uncorrectable x) := rfl

theorem exec_scrubberRead {x : EccSite} (h : x.mortar = true ∨ (s.bank (s.mem.bankOf x.word)).retained = false)
    (n : Nat) : exec (.scrubberRead t x n) s = .next (if n = 0 then s.instant t
      else if n = 1 then (s.instant t).corrected else (s.instant t).uncorrectable x) := by
  refine congrArg _ (if_neg ?_)
  rintro ⟨hm, hb⟩
  obtain h | h := h
  · exact Bool.false_ne_true (hm.symm.trans h)
  · exact Bool.false_ne_true (h.symm.trans hb)

theorem State.count_effField (c : Ctr) (r : CfgReg) (i n : Nat) : (s.count c).effField r i n = s.effField r i n := by
  have h : (s.count c).regs.eff = s.regs.eff :=
    State.eff_of_blank (m := keepOnly [.cfg]) (State.count_blank rfl rfl c s) rfl
  simp only [State.effField, State.effReg, h]

/-- A corrected word is counted, and the warning given once ECC_WARN of them lie within the hour (R473). -/
theorem State.corrected_eq {l : List Nat}
    (hl : l = s.mem.ceTimes.filter (fun c => decide (s.clk.now < c + 3600000000000)) ++ [s.clk.now]) :
    s.corrected = if l.length < s.effField .memCfg 16 16
      then (s.count .eccCe).withMem { (s.count .eccCe).mem with ceTimes := l }
      else ((s.count .eccCe).withMem { (s.count .eccCe).mem with ceTimes := [] }).raise 116 .warning 0 0 noIndex [] := by
  have hsame : l = (s.count .eccCe).mem.ceTimes.filter (fun c => decide ((s.count .eccCe).clk.now < c + 3600000000000)) ++
      [(s.count .eccCe).clk.now] := by
    rw [hl, State.count_mem, State.count_clk]
  rw [← State.count_effField .eccCe, hsame]
  rfl

/-- Two ports on one mortar word: equal values stand, else the first does until the transfer is repeated (R479). -/
theorem exec_mortarWriteCollision {ring start : Nat} {x : MortarXfer} {v0 v1 : BitVec 64} {z : State} (b : Bool)
    (hlen : start + x.words.length ≤ 131072) (hv : x.words[x.reached]? = some v1)
    (hz : z = ((s.instant t).mortarWrite start (x.words.take x.reached)).mortarWrite (start + x.reached) [v0]) :
    exec (.mortarWriteCollision t ring start x v0 b) s = .next (if (v0 != v1) = false
      then z.mortarWrite (start + x.reached + 1) (x.words.drop (x.reached + 1))
      else
        let y := (z.count .coll).raise 117 .warning 0 0 noIndex []
        if b then ((y.count .fetchErr).raise 114 .notice 0 0 ring []).bufferLost ring (8 * x.reached)
        else y.mortarWrite start x.words) := by
  obtain ⟨hreached, rfl⟩ := List.getElem?_eq_some_iff.mp hv
  subst hz
  refine congrArg _ ((if_neg (by omega)).trans ?_)
  have hget : x.words.getD x.reached 0 = x.words[x.reached] := by simp [hreached]
  simp only [hget]
  rfl

theorem exec_marchPassOverdue {b : Nat} (hp : (s.bank b).passDone = false) (hr : (s.bank b).retained = false)
    (hd : s.mem.periodStart + 2 * s.marchPeriod ≤ (s.instant t).clk.now) :
    exec (.marchPassOverdue t b) s = .next ((s.instant t).raise 117 .warning 0 0 noIndex []) :=
  congrArg _ (if_pos ⟨hp, hr, hd⟩)

variable (hr : s.runs = true)
include hr

/-- The owner of a bank, or pair 5 for the banks of the array and the point engine, hands it over (R469, R470). -/
theorem exec_bankHandover {w b o c : Nat} (hw : w ≤ 5) (hb : b < 64) (ho : o ≤ 7 ∨ o = 15) (hc : c = (s.bank b).owner) :
    exec (.bankHandover t w b o) s = .next (if w ≠ c ∧ ¬ (w = 5 ∧ (c = 6 ∨ c = 7))
      then ((s.instant t).count .ownErr).raise 116 .notice 0 0 noIndex []
      else
        let e := if o = c then s.instant t else (s.instant t).endOldDma (s.mem.together b)
        let z := (if e.sliceNow.any (fun l => (s.mem.together b).contains l.1) = true then e.abortSlice else e).wakeBank b
        z.withMem { z.mem with
          banks := (s.mem.together b).foldl (fun v i => vmod v i (fun k => { k with owner := o })) z.mem.banks
          handBank := b, handOwner := o }) := by
  subst hc
  exact next_whileRunning t hr (if_neg (by omega))

/-- The end of a memory test marks the failed banks, reports and completes the command (R480). -/
theorem exec_memTestDone {x : MarchTest} {n : Nat} {bs bad : List Nat} {m : Mem} (hx : s.mem.test = some x)
    (hm : m = (if x.form = 1 ∧ x.target < 64 then s.mem.zeroBank x.target else s.mem))
    (hbad : bad = (if n = 0 then [] else if x.target ≤ 64 then [x.target] else bs.filter (fun b => decide (b ≤ 64)))) :
    exec (.memTestDone t ⟨n, bs⟩) s = .next (((bad.foldl (fun u b => u.bankFailed b) ((s.instant t).withMem m.endTest)).raise
      117 .notice 1 0 noIndex []).complete x.ring x.ref 0 (word (min n 0xFFFF))) := by
  have hm' : m = if (x.form == 1 && decide (x.target < 64)) = true then s.mem.zeroBank x.target else s.mem :=
    hm.trans (if_congr (by simp) rfl rfl)
  subst hm' hbad
  exact next_whileRunning t hr (by
    simp only [show (s.instant t).mem.test = some x from hx]
    rfl)

end

theorem Mem.endTest_test (m : Mem) : m.endTest.test = none := by
  unfold Mem.endTest
  split
  · rfl
  · next h => exact Option.not_isSome_iff_eq_none.mp h

/-- Settles O47: each row runs the one branch of its work that the bank, the site and the values name. -/
theorem memoryRows : Obligations.MemoryRows := by
  unfold Obligations.MemoryRows
  rintro t s a rfl
  refine ⟨fun b h => ⟨_, exec_bankWake h, rfl, fun c hc h64 => State.woken_awake hc h64⟩,
    fun b w h => exec_marchSliceAbort h, fun x m u hm hu => ?_, fun ring start x v0 v1 z hlen hv hz => ?_,
    fun b hp hret hd => exec_marchPassOverdue hp hret hd, fun hr => ⟨fun w b o c hw hb ho hc => ?_,
      fun x n bs m bad hx hm hbad => ⟨exec_memTestDone hr hx hm hbad, Mem.endTest_test m, fun h1 h64 c hc => ?_⟩⟩⟩
  · have hu' : u = (s.instant t).uncorrectable x := by rw [hu, hm]; rfl
    subst hu'
    refine ⟨exec_eccUncorrectable x .other, fun code => ?_, fun n p hn hp => ?_, fun hsite =>
      ⟨exec_scrubberRead hsite 0, fun l hl => ?_, fun n hn => ?_⟩⟩
    · exact (exec_eccUncorrectable x (.item code)).trans (congrArg _ (State.loseItem_eq code))
    · exact (exec_eccUncorrectable x (.lane n)).trans (congrArg _ (State.laneFault_of_job hn hp))
    · exact (exec_scrubberRead hsite 1).trans (congrArg _ (State.corrected_eq hl))
    · rw [exec_scrubberRead hsite, if_neg (by omega), if_neg (by omega)]
  · have hexec (b : Bool) := exec_mortarWriteCollision b hlen hv hz (t := t) (s := s) (ring := ring)
    refine ⟨fun b heq => (hexec b).trans (congrArg _ (if_pos (by simp [heq]))), fun y hne hy => ⟨?_, ?_⟩⟩ <;>
      rw [hexec, if_neg (by simp [hne]), hy] <;> rfl
  · refine ⟨fun hne h5 => ?_, fun e z hok he hz => ?_⟩
    · rw [exec_bankHandover hr hw hb ho hc, if_pos ⟨hne, h5⟩]
    · rw [exec_bankHandover hr hw hb ho hc, if_neg (by omega), hz, he]
  · rw [hm, if_pos ⟨h1, h64⟩] at hc
    simpa [Mem.zeroBank] using (List.mem_filter.mp hc).2

end Sys2Proof.Machine
end

section
/-! The statement of spec/19_event_recorder.md on the rows of the recorder fails: the header that identification reads need
not be the one that it leaves. -/

namespace Sys2Proof.Machine
open Sys2Proof Sys2Proof.Tests

/-- The header that the memory holds: 1 MiB, generation 3, no wrap of the numbering yet. -/
def headerBeforeWrap : List Byte := logHeader 20 0 0 3 0 0

/-- The newest record of the memory has the number before the last one. -/
def memoryBeforeWrap : LogDev :=
  { logDevice headerBeforeWrap with slots := [(0, (aRecord 1).bytes 0xFFFFFFFE#32)] }

/-- And the last number was consumed by a program that failed, so that identification passes over it. -/
def recorderBeforeWrap : State := live.withLog { live.log with consumed := [0xFFFFFFFF#32] }

/-- The recorder as identification finds it, with the configuration that it takes. -/
def recorderIdentifying : State := (recorderBeforeWrap.instant 0).takeCfg .ident

theorem memoryBeforeWrap_is_good : recorderBeforeWrap.runs = true ∧ recorderBeforeWrap.log.state = .absent ∧
    tbit (recorderIdentifying.cfgReg .logCfg).toNat 8 = true ∧
    logSupported (tbit (recorderIdentifying.cfgReg .logCfg).toNat 7) memoryBeforeWrap = true ∧
    headerOf memoryBeforeWrap.headers = some headerBeforeWrap := by
  decide +kernel

/-- Passing over the last number wraps the numbering, and the wrap is written into the header (R453). -/
theorem identified_rewrites_header :
    (recorderIdentifying.identified memoryBeforeWrap).log.header = logHeader 20 0 1 4 0 0 ∧
      (recorderIdentifying.identified memoryBeforeWrap).log.header ≠ headerBeforeWrap := by
  decide +kernel

/-- Refutes O46: at an identification that passes over the last number of a wrap the log runs with a header of its own
making, not with the valid header `h` that the memory gave. -/
theorem not_recorderRows : ¬ Obligations.RecorderRows := by
  unfold Obligations.RecorderRows
  intro h
  obtain ⟨hruns, hstate, hon, hsupported, hheader⟩ := memoryBeforeWrap_is_good
  obtain ⟨-, -, hidentify, -⟩ := h 0 recorderBeforeWrap (recorderBeforeWrap.instant 0) rfl
  obtain ⟨habsent, -⟩ := hidentify recorderIdentifying _ _ hruns rfl rfl rfl
  obtain ⟨-, hdevice⟩ := habsent (.inl hstate)
  obtain ⟨-, -, hrun⟩ := hdevice memoryBeforeWrap _ hon rfl
  obtain ⟨u, -, hu, -, hkept, -⟩ := hrun headerBeforeWrap hsupported hheader
  exact identified_rewrites_header.2 (hu ▸ hkept)

end Sys2Proof.Machine
end

section
/-! The statement of spec/16_can_fd.md on its rows: attempts, frames, errors, recovery, assemblies, the single-shot
register. -/

namespace Sys2Proof.Machine
open Sys2Proof

section
variable {t c : Nat} {s a : State} {x : CanCtl} (hr : s.runs = true) (hc : c < 3) (ha : a = s.instant t)
  (hx : x = s.canCtl c)
include hr hc ha hx

/-- The end of an attempt, by its outcome: lost to arbitration, failed, or sent (R398, R401, R402). -/
theorem exec_canTxAttemptEnd {b d st : Nat} {y : CanBuf} {o : Bool} (hl : x.live = true) (hq : x.restricted = false)
    (hst : st = a.clk.now - d) (hf : a.canFirst c st b = true) (hy : y = x.buf b)
    (ho : o = (decide (st < y.time) && y.prev.isSome)) (e : CanEnd) :
    exec (.canTxAttemptEnd t c b d e) s = .next (match e with
      | .lost =>
        let z := a.setCan c (x.setBuf b { y with clash := 0, prev := none })
        if (x.single.getLsbD b = true ∨ y.once = true) ∧ o = false then z.canEnd c b 2
        else if y.abort = true then z.canEnd c b 1 else z
      | .error e => a.canTxError c b e o
      | .sent k =>
        let m := y.contentAt st
        let z := ((a.emit (.can c m.ident m.ext m.fd m.brs m.data)).setCan c { x.setBuf b { y with clash := 0, prev := none } with
          tdc := if m.brs = true ∧ s.canCfg c 9 1 ≤ 2 then k % 128 else x.tdc }).canLevels c (x.tec - 1) x.rxErr
        if o = true then (if y.abort = true then z.canEnd c b 1 else z) else z.canEnd c b 0) := by
  subst ho hy hst ha hx
  refine next_whileRunning t hr ((if_neg ?_).trans rfl)
  rintro (h | h | h | h)
  · omega
  · exact Bool.false_ne_true (h.symm.trans hl)
  · exact Bool.false_ne_true (hq.symm.trans h)
  · exact Bool.false_ne_true (h.symm.trans hf)

/-- A frame received lowers REC; a remote one is then discarded, another enters the FIFO where it is accepted (R396). -/
theorem exec_canFrameRx (hl : x.live = true) {z : State}
    (hz : z = (if 127 < x.rxErr then a.useFree.canLevels c x.tec (119 + Config.canRecAfter s.clk.free % 9)
      else a.canLevels c x.tec (x.rxErr - 1))) (i : Nat) (e remote : Bool) (data : List Byte) (d : Nat) :
    exec (.canFrameRx t c i e remote data d) s = .next (if remote = false ∧ z.canAccepts c i e = true
      then z.canQueue c { ident := i, ext := e, data := data, stamp := z.devTime - 6000 - d, unc := z.canUnc c
                          time := z.clk.now } else z) := by
  subst ha hx
  refine next_whileRunning t hr ((if_neg ?_).trans ?_)
  · rintro (h | h)
    · omega
    · exact Bool.false_ne_true (h.symm.trans hl)
  · have hlevels : z = ((if 127 < (s.canCtl c).rxErr then (s.instant t).useFree else s.instant t).canLevels c (s.canCtl c).tec
        (if 127 < (s.canCtl c).rxErr then 119 + Config.canRecAfter s.clk.free % 9 else (s.canCtl c).rxErr - 1)) := by
      rw [hz]
      split <;> rfl
    subst hlevels
    rfl

/-- An error while receiving is counted and raises REC; a protocol exception only raises its event (R401, R404). -/
theorem exec_canRxError (hl : x.live = true) {k : Nat} (h1 : 1 ≤ k) (h7 : k ≤ 7) (d : Bool) (n : Nat) :
    exec (.canRxError t c k d n) s = .next (if k = 7 ∧ s.canModeBit c 4 = true
      then (a.setCan c { x with errCode := 7, errData := d, errTx := false }).raise 109 .notice 0 0 c []
      else ((a.setCan c { x with errCode := if k = 7 then 2 else k, errData := d, errTx := false }).count
        (canCtr c 0)).canLevels c x.tec (x.rxErr + 1 + 8 * n)) := by
  subst ha hx
  refine next_whileRunning t hr ((if_neg ?_).trans rfl)
  rintro (h | h | h | h)
  · omega
  · exact Bool.false_ne_true (h.symm.trans hl)
  · omega
  · omega

theorem exec_canReasmTimeout {dead : CanAsm → Bool} (hd : dead = (fun m => m.late a.clk.now && !x.waits m)) :
    exec (.canReasmTimeout t c) s = .next
      ((x.asms.filter dead).foldl (fun u _ => (u.count (canCtr c 5)).raise 107 .notice 0 0 c [])
        (a.setCan c { x with asms := x.asms.filter (fun m => !dead m) })) := by
  subst hd ha hx
  exact next_whileRunning t hr (if_pos hc)

end

/-- Settles O45: each row runs the branch that its outcome names, the controller and its guards given. -/
theorem canRows : Obligations.CanRows := by
  unfold Obligations.CanRows
  intro t c s a x hr hc ha hx
  refine ⟨fun hl => ⟨fun b d st y o hq hst hf hy ho => ?_, fun z hz => ?_, fun k d n h1 h7 hexc => ?_, fun d n hexc => ?_⟩,
    fun h2 hm hw => ?_, fun h3 => ?_, fun dead hd => exec_canReasmTimeout hr hc ha hx hd, fun w haw hxw => ?_⟩
  · have hend := exec_canTxAttemptEnd hr hc ha hx hl hq hst hf hy ho
    refine ⟨fun z hz => ⟨fun hone hnew => ?_, fun hkeeps => ?_⟩, fun k m z hm hz => ?_, fun e => hend (.error e)⟩
    · exact (hend .lost).trans (hz ▸ congrArg _ (if_pos ⟨hone, hnew⟩))
    · refine (hend .lost).trans (hz ▸ congrArg _ (if_neg ?_))
      rintro ⟨hone, hnew⟩
      obtain ho | ⟨hs, hy⟩ := hkeeps
      · exact Bool.false_ne_true (hnew.symm.trans ho)
      · exact hone.elim (by simp [hs]) (by simp [hy])
    · exact (hend (.sent k)).trans (hz ▸ hm ▸ rfl)
  · have hframe := exec_canFrameRx hr hc ha hx hl hz
    exact ⟨fun i e data d => (hframe i e true data d).trans (congrArg _ (if_neg (by simp))),
      fun i e data d => (hframe i e false data d).trans (congrArg _ (if_congr (by simp) rfl rfl))⟩
  · refine (exec_canRxError hr hc ha hx hl h1 h7 d n).trans (congrArg _ (if_neg fun h => ?_))
    exact Bool.false_ne_true ((hexc h.1).symm.trans h.2)
  · exact (exec_canRxError hr hc ha hx hl (by simp) (by simp) d n).trans (congrArg _ (if_pos ⟨rfl, hexc⟩))
  · subst ha hx
    exact next_whileRunning t hr (if_pos ⟨hc, h2, hm, hw⟩)
  · subst ha hx
    exact next_whileRunning t hr (if_pos ⟨hc, h3⟩)
  · subst ha hx
    exact congrArg _ ((if_neg (by omega)).trans (State.barWrite_of_answers _ haw hxw))

end Sys2Proof.Machine
end

section
/-! The statement of spec/15_point_image_and_networks.md on its rows: Zwilux messages, stale entries, streams, links,
echoes, ARP and IGMP. -/

namespace Sys2Proof.Machine
open Sys2Proof

theorem newer_self (a : Word) : newer a a = false := by
  simp [newer, wdiff]

/-! ## Zwilux messages (R377, R380 to R382) -/

section
variable {t : Nat} {s : State} {p : Port} {u : UdpHdr} {b : List Byte}

/-- Whichever row brings the datagram, its work is the one of the networks. -/
theorem exec_zwilux (hr : s.runs = true) {c : Instr}
    (hc : c ∈ [Instr.zwiluxDataRx t p u b, .zwiluxCommandRx t p u b, .zwiluxReadRx t p u b]) :
    exec c s = .next ((s.instant t).zxReceive p u b) := by
  simp only [List.mem_cons, List.not_mem_nil, or_false] at hc
  obtain rfl | rfl | rfl := hc <;> exact next_whileRunning t hr rfl

variable (hl : s.portLive p = true)
include hl

theorem State.zxReceive_of_frag (hf : u.frag = true) : s.zxReceive p u b = if p = .m then s else s.netReject p := by
  simp only [State.zxReceive, hl, hf, Bool.true_eq_false, if_false, if_true]

variable (hf : u.frag = false)
include hf

theorem State.zxReceive_of_foreign (hm : s.zxMine p u = false) : s.zxReceive p u b = s := by
  simp only [State.zxReceive, hl, hf, hm, Bool.true_eq_false, Bool.false_eq_true, if_false, if_true]

variable (hm : s.zxMine p u = true)
include hm

theorem State.zxReceive_of_bad (hv : zxValid b = false) : s.zxReceive p u b = if p = .m then s else s.netReject p := by
  simp only [State.zxReceive, hl, hf, hm, hv, Bool.true_eq_false, Bool.false_eq_true, if_false, if_true]

variable (hv : zxValid b = true)
include hv

theorem State.zxReceive_read (h4 : u8 b 3 = 4) : s.zxReceive p u b = s.zxRead p u.src b := by
  simp only [State.zxReceive, hl, hf, hm, hv, h4, Bool.true_eq_false, Bool.false_eq_true, if_false, if_true]

theorem State.zxReceive_maintenance (h4 : u8 b 3 ≠ 4) (hp : p = .m) : s.zxReceive p u b = s := by
  simp only [State.zxReceive, hl, hf, hm, hv, h4, if_pos hp, Bool.true_eq_false, Bool.false_eq_true, if_false]

variable (hp : p ≠ .m)
include hp

/-- A DATA message that is not newer than the last of its node and block has no effect (R382). -/
theorem State.zxReceive_oldData (h1 : u8 b 3 = 1) {x : Word × Option Nat} (hx : afind (zxKey b) s.pnt.seqIn = some x)
    (hn : newer (word (u32 b 8)) x.1 = false) : s.zxReceive p u b = s := by
  simp [State.zxReceive, hl, hf, hm, hv, h1, hp, hx, hn]

/-- A COMMAND with the number of the last is answered again with its first status (R384). -/
theorem State.zxReceive_repeated (h2 : u8 b 3 = 2) {st : Nat}
    (hx : afind (zxKey b) s.pnt.seqIn = some (word (u32 b 8), some st)) : s.zxReceive p u b = s.sendAck p u.src b st := by
  have hsame : ¬newer (word (u32 b 8)) (word (u32 b 8)) = true := Bool.eq_false_iff.mp (newer_self _)
  simp [State.zxReceive, hl, hf, hm, hv, h2, hp, hx, hsame]

variable (hn : ∀ x, afind (zxKey b) s.pnt.seqIn = some x → newer (word (u32 b 8)) x.1 = true)
include hn

theorem State.zxReceive_newCommand (h2 : u8 b 3 = 2) : s.zxReceive p u b = s.zxCommand p u.src b := by
  cases hx : afind (zxKey b) s.pnt.seqIn with
  | none => simp [State.zxReceive, hl, hf, hm, hv, h2, hp, hx]
  | some x => simp [State.zxReceive, hl, hf, hm, hv, h2, hp, hx, hn x hx]

theorem State.zxReceive_newData (h1 : u8 b 3 = 1) :
    (s.zxEntry b = none → s.zxReceive p u b = s.setSeqIn b none) ∧
    (∀ r, s.zxEntry b = some r → s.zxReceive p u b = (s.setSeqIn b none).applyRecords r b) := by
  have hentry : (s.setSeqIn b none).zxEntry b = s.zxEntry b := rfl
  cases hx : afind (zxKey b) s.pnt.seqIn with
  | none => exact ⟨fun he => by simp [State.zxReceive, hl, hf, hm, hv, h1, hp, hx, hentry, he],
      fun r he => by simp [State.zxReceive, hl, hf, hm, hv, h1, hp, hx, hentry, he]⟩
  | some x => exact ⟨fun he => by simp [State.zxReceive, hl, hf, hm, hv, h1, hp, hx, hn x hx, hentry, he],
      fun r he => by simp [State.zxReceive, hl, hf, hm, hv, h1, hp, hx, hn x hx, hentry, he]⟩

end

section
variable {s : State} {p : Port} {src : Word} {b : List Byte}

/-- A READ is answered with the points that exist, on A and B only while READ_AB is 1 (R386). -/
theorem State.zxRead_answers (h : p = .m ∨ s.effField .netCfg 1 1 ≠ 0) {ns : List Nat}
    (hns : ns = ((List.range (u8 b 0x10)).map (u32 b 0x14 + ·)).filter (· < 131072)) : s.zxRead p src b = s.sendZx p src
      (zxMsg 1 s.zxNode 0 (word (u32 b 8)) s.stamp ns.length (1 + if p = .a then 2 else 0)
        (ns.map (fun n => (s.point n).record)).flatten) := by
  subst hns
  refine if_neg fun ⟨hp, h0⟩ => ?_
  exact h.elim hp (· h0)

theorem State.zxCommand_applied {r : List Byte} (he : s.zxEntry b = some r) (hf : rtFlag r 3 = true)
    (hc : s.effField .netCfg 0 1 ≠ 0) (hn : u8 b 0x10 = rtCount r)
    (hu : ∀ n, n < u8 b 0x10 → (recordUpd r b n).isSome = true) :
    s.zxCommand p src b = ((s.setSeqIn b (some 0)).applyRecords r b).sendAck p src b 0 := by
  have hfits : ¬(u8 b 0x10 ≠ rtCount r ∨ (List.range (u8 b 0x10)).any (fun n => (recordUpd r b n).isNone) = true) := by
    rintro (h | h)
    · exact h hn
    · obtain ⟨n, hlt, hnone⟩ := List.any_eq_true.mp h
      exact absurd (hu n (List.mem_range.mp hlt)) (by simpa using hnone)
  simp only [State.zxCommand, he, hf, hc, if_neg hfits, Bool.true_eq_false, if_false, if_true]

/-- A COMMAND that is not applied is counted, reported and acknowledged with its status (R384). -/
theorem State.zxCommand_refused {st : Nat} (h : (st = 1 ∧ s.zxEntry b = none) ∨
      (∃ r, s.zxEntry b = some r ∧ ((st = 1 ∧ rtFlag r 3 = false) ∨
        (rtFlag r 3 = true ∧ ((st = 2 ∧ s.effField .netCfg 0 1 = 0) ∨
          (st = 3 ∧ s.effField .netCfg 0 1 ≠ 0 ∧
            (u8 b 0x10 ≠ rtCount r ∨ ∃ n, n < u8 b 0x10 ∧ (recordUpd r b n).isNone = true))))))) :
    s.zxCommand p src b =
      (((s.setSeqIn b (some st)).count .pntRefused).raise 100 .notice 0 st noIndex []).sendAck p src b st := by
  obtain ⟨rfl, he⟩ | ⟨r, he, ⟨rfl, hf⟩ | ⟨hf, ⟨rfl, hc⟩ | ⟨rfl, hc, hbad⟩⟩⟩ := h
  · simp [State.zxCommand, he]
  · simp [State.zxCommand, he, hf]
  · simp [State.zxCommand, he, hf, hc]
  · have hbad' : u8 b 0x10 ≠ rtCount r ∨ (List.range (u8 b 0x10)).any (fun n => (recordUpd r b n).isNone) = true :=
      hbad.imp_right fun ⟨n, hlt, hnone⟩ => List.any_eq_true.mpr ⟨n, List.mem_range.mpr hlt, hnone⟩
    simp only [State.zxCommand, he, hf, hc, if_pos hbad', Bool.true_eq_false, if_false, OfNat.ofNat_ne_zero]

end

/-! ## Stale entries, streams, links and the answers of the ports (R375, R379, R387, R388) -/

section
variable {t : Nat} {s : State}

theorem exec_netLinkChange (hf : s.firmwareRuns = true) {n : Nat} (hn : n ≤ 3) (p : Port) {was : Bool} {x : State}
    (hw : was = match p with | .a => s.pnt.linkA != 0 | .b => s.pnt.linkB != 0 | .m => s.pnt.linkM)
    (hx : x = (s.instant t).withPnt (match p with
      | .a => { s.pnt with linkA := n }
      | .b => { s.pnt with linkB := n }
      | .m => { s.pnt with linkM := n != 0 })) :
    exec (.netLinkChange t p n) s =
      .next (if was = (n != 0) then x else x.raise 97 .notice (b2n was) 0 (portNum p) []) := by
  subst hw hx
  refine congrArg _ ((if_neg ?_).trans (by cases p <;> rfl))
  rintro (h | h)
  · exact Bool.false_ne_true (h.symm.trans hf)
  · omega

variable (hr : s.runs = true)
include hr

theorem exec_icmpEchoRequest {p : Port} (hl : s.portLive p = true) (hp : p ≠ .m) (src : Word) (b : List Byte) :
    exec (.icmpEchoRequest t p src b) s = .next ((s.instant t).emit (.frame p 1 (wbytes src ++ b))) :=
  next_whileRunning t hr (if_pos ⟨hl, hp⟩)

theorem exec_arpRequest {p : Port} (hl : s.portLive p = true) (x : Word) : exec (.arpRequest t p x (s.portIp p)) s =
    .next ((s.instant t).emit (.frame p 0x0806 (wbytes x ++ wbytes (s.portIp p)))) :=
  next_whileRunning t hr (if_pos ⟨hl, rfl⟩)

theorem exec_igmpQueryRx {p : Port} (hl : s.portLive p = true) (hp : p ≠ .m) (v : Nat) (g : Word) :
    exec (.igmpQueryRx t p v g) s = .next
      (((s.groups (portNum p)).filter (fun h => g == 0 || h == g)).foldl
        (fun u h => u.emit (.frame p 2 (byte (if v ≥ 3 then 3 else 2) :: wbytes h))) (s.instant t)) :=
  next_whileRunning t hr (if_neg fun h => h.elim (fun h => Bool.false_ne_true (h.symm.trans hl)) hp)

/-- A silent inbound entry is stale, with its points, and reported (R379). -/
theorem exec_routeEntryStale {e : Nat} {r : List Byte} {x : RouteSt} (he : s.routeByEntry e = some r)
    (hi : rtInbound r = true) (h0 : 0 < rtStale r) (hx : x = s.routeSt (rtEntry r)) (hs : x.stale = false)
    (hd : x.since + rtStale r ≤ s.crs.courseCnt) : exec (.routeEntryStale t e) s = .next
      ((((s.instant t).setRouteSt (rtEntry r) { x with stale := true }).qualBit 2 true (rtPoints r)).raise
        98 .notice 0 0 (rtEntry r) []) := by
  subst hx
  have hsilent : (s.instant t).routeSilent r = (((s.instant t).setRouteSt (rtEntry r)
      { s.routeSt (rtEntry r) with stale := true }).qualBit 2 true (rtPoints r)).raise 98 .notice 0 0 (rtEntry r) [] :=
    if_pos ⟨hi, h0, hs, hd⟩
  refine next_whileRunning t hr ?_
  simp only [show (s.instant t).routeByEntry e = some r from he]
  exact hsilent

omit hr in
/-- A stream with pending points and room posts up to three of them in one entry, with OVERRUN (R375). -/
theorem State.streamCatchUp_eq {n : Nat} {x : Stream} (hx : x = vget s.pnt.streams n Stream.reset) :
    ((x.pend = [] ∨ s.ringRoom (17 + n) = false) → s.streamCatchUp n = s) ∧
    (∀ ps, x.pend ≠ [] → s.ringRoom (17 + n) = true → ps = (x.pend.take 3).map (fun m => (m, (s.point m).withOverrun)) →
      s.streamCatchUp n = State.streamDrain n x.pend.length (((s.withPnt
        { s.pnt with streams := vset s.pnt.streams n { x with pend := x.pend.drop 3, reported := false } }).putEntry
          (17 + n) (2 * ps.length) (streamBody n ps)).ringMsg (17 + n))) := by
  subst hx
  refine ⟨fun h => if_pos (h.imp_left List.isEmpty_iff.mpr), fun ps hp hroom hps => ?_⟩
  subst hps
  refine if_neg fun h => ?_
  exact h.elim (fun h => hp (List.isEmpty_iff.mp h)) (fun h => Bool.false_ne_true (h.symm.trans hroom))

theorem exec_streamPendingPost {n : Nat} (hn : n < 4) :
    exec (.streamPendingPost t n) s = .next ((s.instant t).streamCatchUp n) :=
  next_whileRunning t hr (if_pos hn)

end

/-- Settles O44: the three rows share the work of the networks, which takes its checks in turn; the others run their one
branch. -/
theorem networkAndPointRows : Obligations.NetworkAndPointRows := by
  unfold Obligations.NetworkAndPointRows
  rintro t s a rfl
  refine ⟨fun hr => ⟨fun c p u b hc hl => ?_, fun p hl => ⟨fun src b hp => exec_icmpEchoRequest hr hl hp src b,
      exec_arpRequest hr hl, fun v g hp => exec_igmpQueryRx hr hl hp v g⟩,
      fun e r x he hi h0 hx hs hd => exec_routeEntryStale hr he hi h0 hx hs hd, fun n x hn hx => ?_⟩,
    fun hf n x hn => ⟨fun hx => exec_netLinkChange hf hn .a rfl hx, fun hx => exec_netLinkChange hf hn .b rfl hx,
      fun hx => exec_netLinkChange hf hn .m rfl hx⟩⟩
  · have hexec := exec_zwilux hr hc
    have hla : (s.instant t).portLive p = true := hl
    refine ⟨fun hf => ?_, fun hf hm => ?_, fun hf hm hv => ?_, fun hf hm hv => ⟨fun h4 => ⟨fun hp h0 => ?_,
      fun ns hp hns => ?_⟩, fun h4 hp => ?_, fun hp => ⟨fun x h1 hx hn => ?_, fun hn => ⟨fun h1 he => ?_,
        fun r h1 he => ?_, fun r h2 he hf3 hc1 hcount hu => ?_, fun st h2 hst => ?_⟩, fun st h2 hx => ?_⟩⟩⟩
    · rw [hexec, State.zxReceive_of_frag hla hf]
    · rw [hexec, State.zxReceive_of_foreign hla hf hm]
    · rw [hexec, State.zxReceive_of_bad hla hf hm hv]
    all_goals have hma : (s.instant t).zxMine p u = true := hm
    · rw [hexec, State.zxReceive_read hla hf hma hv h4]
      exact congrArg _ (if_pos ⟨hp, h0⟩)
    · rw [hexec, State.zxReceive_read hla hf hma hv h4]
      exact congrArg _ (State.zxRead_answers (s := s.instant t) hp hns)
    · rw [hexec, State.zxReceive_maintenance hla hf hma hv h4 hp]
    · rw [hexec, State.zxReceive_oldData hla hf hma hv hp h1 hx hn]
    · rw [hexec, (State.zxReceive_newData hla hf hma hv hp hn h1).1 he]
    · rw [hexec, (State.zxReceive_newData hla hf hma hv hp hn h1).2 r he]
    · rw [hexec, State.zxReceive_newCommand hla hf hma hv hp hn h2,
        State.zxCommand_applied (s := s.instant t) he hf3 hc1 hcount hu]
    · rw [hexec, State.zxReceive_newCommand hla hf hma hv hp hn h2, State.zxCommand_refused (s := s.instant t) hst]
    · rw [hexec, State.zxReceive_repeated hla hf hma hv hp h2 hx]
  · obtain ⟨hnone, hsome⟩ := State.streamCatchUp_eq (s := s.instant t) hx
    exact ⟨fun h => (exec_streamPendingPost hr hn).trans (congrArg _ (hnone h)),
      fun ps hp hroom hps => (exec_streamPendingPost hr hn).trans (congrArg _ (hsome ps hp hroom hps))⟩

end Sys2Proof.Machine
end

section
/-! The statement of spec/14_safety_island.md on its rows: courses, faults, safety frames, discrepancies and tests. -/

namespace Sys2Proof.Machine
open Sys2Proof

/-! ## The beat (R347): nothing in the work of a course but its last step changes it -/

/-- The beat that the buttress has counted. -/
def State.beat (s : State) : Word := s.btr.beat

section
variable (s : State)

theorem State.beat_of_btr {a b : State} (h : a.btr = b.btr) : a.beat = b.beat := congrArg Btr.beat h

@[simp] theorem State.raise_beat (src : Nat) (sev : Sev) (qual cause index : Nat) (vals : List Word) :
    (s.raise src sev qual cause index vals).beat = s.beat := State.beat_of_btr (by simp)
@[simp] theorem State.count_beat (c : Ctr) : (s.count c).beat = s.beat := State.beat_of_btr (by simp)
@[simp] theorem State.emit_beat (o : Out) : (s.emit o).beat = s.beat := rfl
@[simp] theorem State.setBtrIn_beat (i : Nat) (x : BtrIn) : (s.setBtrIn i x).beat = s.beat := rfl
@[simp] theorem State.setBtrOut_beat (o : Nat) (x : BtrOut) : (s.setBtrOut o x).beat = s.beat := rfl
@[simp] theorem State.setBtrRem_beat (n : Nat) (x : BtrRem) : (s.setBtrRem n x).beat = s.beat := rfl
@[simp] theorem State.complete_beat (ring ref status : Nat) (result : Word) :
    (s.complete ring ref status result).beat = s.beat := rfl
@[simp] theorem State.refuse_beat (w : Waiting) (n : Nat) : (s.refuse w n).beat = s.beat := rfl
@[simp] theorem State.done_beat (w : Waiting) (n : Nat) : (s.done w n).beat = s.beat := rfl

@[simp] theorem State.btrSwitch_beat (o : Nat) (on : Bool) : (s.btrSwitch o on).beat = s.beat := by
  unfold State.btrSwitch
  dsimp only
  split
  · rfl
  · split
    · simp
    · split <;> simp

@[simp] theorem State.btrLatchOff_beat (o : Nat) : (s.btrLatchOff o).beat = s.beat := by
  simp only [State.btrLatchOff, State.btrSwitch_beat, apply_ite State.beat, State.raise_beat, State.setBtrOut_beat, ite_self]

@[simp] theorem State.btrTestFail_beat (o : Nat) : (s.btrTestFail o).beat = s.beat := by simp [State.btrTestFail]

@[simp] theorem State.btrDiscrepancy_beat (i : Nat) : (s.btrDiscrepancy i).beat = s.beat := by
  simp only [State.btrDiscrepancy, apply_ite State.beat, State.raise_beat, State.count_beat, State.setBtrIn_beat, ite_self]

@[simp] theorem State.btrDiscClear_beat (i : Nat) (da db : Bool) : (s.btrDiscClear i da db).beat = s.beat := by
  simp only [State.btrDiscClear, apply_ite State.beat, State.raise_beat, State.setBtrIn_beat, ite_self]

@[simp] theorem State.btrSample_beat (a b : Bool) (i : Nat) : (s.btrSample a b i).beat = s.beat := by
  simp only [State.btrSample, apply_ite State.beat, State.setBtrIn_beat, State.btrDiscrepancy_beat,
    State.btrDiscClear_beat, ite_self]

@[simp] theorem State.btrReadback_beat (h l : Bool) (o : Nat) : (s.btrReadback h l o).beat = s.beat := by
  simp only [State.btrReadback, apply_ite State.beat, State.setBtrOut_beat, State.btrLatchOff_beat, State.btrTestFail_beat,
    ite_self]

@[simp] theorem State.btrRemoteLost_beat (n : Nat) : (s.btrRemoteLost n).beat = s.beat := by
  simp only [State.btrRemoteLost, apply_ite State.beat, State.setBtrRem_beat, State.raise_beat, ite_self]

@[simp] theorem State.btrCopyTimeout_beat (n : Nat) : (s.btrCopyTimeout n).beat = s.beat := by
  simp only [State.btrCopyTimeout, apply_ite State.beat, State.setBtrRem_beat, State.raise_beat, ite_self]

@[simp] theorem State.btrRemoteLimit_beat (n : Nat) : (s.btrRemoteLimit n).beat = s.beat := by
  unfold State.btrRemoteLimit
  dsimp only
  split
  · simp only [apply_ite State.beat, State.setBtrRem_beat, State.raise_beat, ite_self]
  · rfl

@[simp] theorem State.btrRemoteTick_beat (n : Nat) : (s.btrRemoteTick n).beat = s.beat := by simp [State.btrRemoteTick]

@[simp] theorem State.btrOutputLimit_beat (o : Nat) : (s.btrOutputLimit o).beat = s.beat := by
  unfold State.btrOutputLimit
  dsimp only
  split
  · simp only [apply_ite State.beat, State.btrLatchOff_beat, State.raise_beat, ite_self]
  · rfl

@[simp] theorem State.btrOutputTick_beat (forced : Byte) (o : Nat) : (s.btrOutputTick forced o).beat = s.beat := by
  simp [State.btrOutputTick]

@[simp] theorem State.btrDemand_beat (i : Nat) : (s.btrDemand i).beat = s.beat := by
  simp only [State.btrDemand, apply_ite State.beat, State.setBtrIn_beat, State.raise_beat, ite_self]

@[simp] theorem State.btrRemoteDemand_beat (n : Nat) : (s.btrRemoteDemand n).beat = s.beat := by
  simp [State.btrRemoteDemand]

theorem State.foldl_beat {α : Type} (f : State → α → State) (l : List α) (h : ∀ u x, (f u x).beat = u.beat) :
    (l.foldl f s).beat = s.beat := State.foldl_keeps State.beat f l s h

@[simp] theorem State.takeBtrReset_beat (w : Waiting) (i : Half) (r o : Byte) : (s.takeBtrReset w i r o).beat = s.beat := by
  unfold State.takeBtrReset
  dsimp only
  split
  · simp
  · rw [State.done_beat, State.raise_beat, State.foldl_beat, State.foldl_beat, State.foldl_beat]
    · intro u x
      simp only [apply_ite State.beat, State.raise_beat, State.setBtrIn_beat, ite_self]
    · exact fun u x => rfl
    · intro u x
      simp only [apply_ite State.beat, State.setBtrOut_beat, ite_self]

@[simp] theorem State.takeBtrOutput_beat (w : Waiting) (c o : Byte) : (s.takeBtrOutput w c o).beat = s.beat :=
  State.foldl_beat _ _ _ fun _ _ => rfl

@[simp] theorem State.btrCommands_beat : s.btrCommands.beat = s.beat := by
  refine State.foldl_beat _ _ _ fun u w => ?_
  split
  · exact u.takeBtrReset_beat w _ _ _
  · exact u.takeBtrOutput_beat w _ _
  · rfl

@[simp] theorem State.btrPublish_beat (m : Half) : (s.btrPublish m).beat = s.beat := by
  unfold State.btrPublish
  split
  · rfl
  · rw [State.raise_beat]
    rfl

@[simp] theorem State.btrReady_beat : s.btrReady.beat = s.beat := by
  have hrequest (u : State) : u.btrRequest.beat = u.beat := State.foldl_beat _ _ _ fun _ _ => rfl
  have hn (n : Nat) : (s.withBtr { s.btr with notReady := n }).beat = s.beat := rfl
  simp only [State.btrReady, apply_ite State.beat, hrequest, State.raise_beat, hn, ite_self]

@[simp] theorem State.sendSafety_beat (flags : Nat) : (s.sendSafety flags).beat = s.beat := by
  unfold State.sendSafety
  split
  · rfl
  · refine State.foldl_beat _ _ _ fun u n => ?_
    simp only [apply_ite State.beat, State.raise_beat, State.count_beat, State.emit_beat]
    exact ite_self _

@[simp] theorem State.forwardMask_beat : s.forwardMask.beat = s.beat := by
  have hlink (u : State) (b : List Byte) : (u.sendLink 3 b).beat = u.beat :=
    State.beat_of_btr (State.btr_of_blank (m := keepOnly [.btr]) (by apply State.sendLink_blank <;> rfl) rfl)
  have hmask : (s.withBtr { s.btr with mask0 := s.btr.remove }).beat = s.beat := rfl
  simp only [State.forwardMask, apply_ite State.beat, hlink, hmask, ite_self]

/-- The work of a course of a sound buttress counts one beat, and then forwards the mask (R347, R352). -/
theorem State.buttressCourse_ends (hf : s.btr.fault = false) (ca cb : Half) (h l : Byte) : ∃ u : State,
    s.buttressCourse ca cb h l = u.forwardMask ∧ u.beat = s.beat + 1 := by
  have hbump (u : State) : (u.withBtr { u.btr with beat := u.btr.beat + 1 }).beat = u.beat + 1 := rfl
  have hinstant (u : State) (t : Nat) : (u.instant t).beat = u.beat := rfl
  refine ⟨_, if_neg (Bool.eq_false_iff.mp hf), ?_⟩
  simp only [apply_ite State.beat, State.sendSafety_beat, State.btrReady_beat, hbump, State.btrPublish_beat,
    State.foldl_beat, State.btrOutputTick_beat, hinstant, State.btrRemoteDemand_beat, State.btrDemand_beat,
    State.btrCommands_beat, State.btrRemoteTick_beat, State.btrReadback_beat, State.btrSample_beat, implies_true, ite_self]

/-- In course 0 the mask that a course publishes is held for the pair (R352). -/
theorem State.forwardMask_mask0 (h : s.crs.course = 0) : s.forwardMask.btr.mask0 = s.forwardMask.btr.remove := by
  have hlink (u : State) (b : List Byte) : (u.sendLink 3 b).btr = u.btr :=
    State.btr_of_blank (m := keepOnly [.btr]) (by apply State.sendLink_blank <;> rfl) rfl
  rw [State.forwardMask, if_neg (not_not.mpr h)]
  dsimp only
  split
  · rw [hlink]
    rfl
  · rfl

theorem State.buttressCourse_counts (hf : s.btr.fault = false) (ca cb : Half) (h l : Byte) :
    (s.buttressCourse ca cb h l).btr.beat = s.btr.beat + 1 ∧
    (s.crs.course = 0 → (s.buttressCourse ca cb h l).btr.mask0 = (s.buttressCourse ca cb h l).btr.remove) := by
  obtain ⟨u, hends, hbeat⟩ := s.buttressCourse_ends hf ca cb h l
  have hcrs : u.crs = s.crs := by
    have hmask : u.forwardMask.crs = u.crs :=
      State.crs_of_blank (m := keepOnly [.crs, .tick]) (by apply State.forwardMask_blank <;> rfl) rfl rfl
    have hcourse : (s.buttressCourse ca cb h l).crs = s.crs :=
      State.crs_of_blank (m := keepOnly [.crs, .tick]) (by apply State.buttressCourse_blank <;> rfl) rfl rfl
    rw [← hmask, ← hends, hcourse]
  rw [hends]
  exact ⟨u.forwardMask_beat.trans hbeat, fun h0 => u.forwardMask_mask0 (hcrs ▸ h0)⟩

/-! ## The island fault (R346) -/

theorem State.setBtrOut_btrOut (o j : Nat) (x : BtrOut) (hj : j < 8) :
    (s.setBtrOut o x).btrOut j = if o = j then x else s.btrOut j :=
  (vget_vset s.btr.outputs o j x BtrOut.reset).trans (if_congr ⟨And.left, fun h => ⟨h, h ▸ hj⟩⟩ rfl rfl)

/-- An output opened, driven or not, is off, and the others are as they were. -/
def State.openOutput (s : State) (o : Nat) : State :=
  let x := s.btrOut o
  let s := if x.driven then (s.emit (.pin (ballHigh o) false)).emit (.pin (ballLow o) false) else s
  s.setBtrOut o { x with on := false, pulse := none, startStep := 0 }

theorem State.openOutput_on (o j : Nat) (hj : j < 8) :
    ((s.openOutput o).btrOut j).on = if o = j then false else (s.btrOut j).on := by
  unfold State.openOutput
  rw [State.setBtrOut_btrOut _ _ _ _ hj]
  split
  · rfl
  · split <;> rfl

theorem State.foldl_openOutput_on (l : List Nat) (j : Nat) (hj : j < 8) (h : j ∈ l ∨ (s.btrOut j).on = false) :
    ((l.foldl State.openOutput s).btrOut j).on = false := by
  induction l generalizing s with
  | nil => exact h.resolve_left List.not_mem_nil
  | cons o l ih =>
    refine ih _ ?_
    rw [State.openOutput_on _ _ _ hj]
    by_cases ho : o = j
    · exact .inr (if_pos ho)
    · rw [if_neg ho]
      exact h.imp_left fun h => (List.mem_cons.mp h).resolve_left (Ne.symm ho)

/-- What a fault of the island leaves: the fault, every unit removed, and the switch of output `o`. -/
def State.faultMarks (o : Nat) (s : State) : Bool × Half × Bool := (s.btr.fault, s.btr.remove, (s.btrOut o).on)

theorem State.faultMarks_of_btr {a b : State} (o : Nat) (h : a.btr = b.btr) : a.faultMarks o = b.faultMarks o := by
  simp only [State.faultMarks, State.btrOut, h]

theorem State.btrReady_faultMarks (o : Nat) (ho : o < 8) : s.btrReady.faultMarks o = s.faultMarks o := by
  have hrequest (u : State) : u.btrRequest.faultMarks o = u.faultMarks o :=
    State.foldl_keeps (State.faultMarks o) _ _ _ fun u j => by
      simp only [State.faultMarks, State.setBtrOut_btrOut _ _ _ _ ho]
      split
      · next h => subst h; rfl
      · rfl
  have hraise (u : State) (n : Nat) : (u.raise 76 .notice 3 n noIndex []).faultMarks o = u.faultMarks o :=
    State.faultMarks_of_btr o (by simp)
  have hn (n : Nat) : (s.withBtr { s.btr with notReady := n }).faultMarks o = s.faultMarks o := rfl
  simp only [State.btrReady, apply_ite (State.faultMarks o), hrequest, hraise, hn, ite_self]

theorem State.btrPublish_faultMarks (o : Nat) (m : Half) :
    (s.btrPublish m).faultMarks o = (s.btr.fault, m, (s.btrOut o).on) := by
  unfold State.btrPublish
  split
  · next h => rw [h]; rfl
  · exact State.faultMarks_of_btr o (State.raise_btr ..)

/-- The last steps of an island fault: the fault itself, every unit removed, the event (R346). -/
def State.faultEntered : State :=
  (((s.withBtr { s.btr with fault := true }).btrPublish 0xFFFF#16).raise 77 .notice 0 0 noIndex []).btrReady

theorem State.faultEntered_marks (o : Nat) (ho : o < 8) :
    s.faultEntered.faultMarks o = (true, 0xFFFF#16, (s.btrOut o).on) := by
  have hraise (u : State) : (u.raise 77 .notice 0 0 noIndex []).faultMarks o = u.faultMarks o :=
    State.faultMarks_of_btr o (by simp)
  rw [State.faultEntered, State.btrReady_faultMarks _ o ho, hraise, State.btrPublish_faultMarks]
  rfl

theorem State.islandFault_eq (hf : s.btr.fault = false) :
    s.islandFault = ((List.range 8).foldl State.openOutput s).faultEntered := by
  unfold State.faultEntered State.openOutput
  rw [State.islandFault, if_neg (Bool.eq_false_iff.mp hf)]

theorem State.islandFault_marks (hf : s.btr.fault = false) (o : Nat) (ho : o < 8) :
    s.islandFault.faultMarks o = (true, 0xFFFF#16, false) := by
  rw [s.islandFault_eq hf, State.faultEntered_marks _ o ho,
    s.foldl_openOutput_on (List.range 8) o ho (.inl (List.mem_range.mpr ho))]

end

/-! ## Safety frames, copies and remotes (R351, R364, R365) -/

section
variable {s : State} {p : Port} {b : List Byte} {n : Nat} {x : BtrRem}

/-- A frame that is no first copy and no newer than the last is old. -/
theorem State.btrOld_of_older {q : Word} (hx : x = s.btrRem n) (hq : q = word (u32 b 8)) (ho : x.other p q = none)
    {r : Word} (hr : x.seq = some r) : s.btrOld p b n = !newer q r := by
  subst hx hq
  simp [State.btrOld, ho, hr]

theorem State.btrOld_of_newer {q : Word} (hx : x = s.btrRem n) (hq : q = word (u32 b 8))
    (hn : ∀ r, x.seq = some r → newer q r = true) : s.btrOld p b n = false := by
  subst hx hq
  cases hr : (s.btrRem n).seq with
  | none => simp [State.btrOld, hr]
  | some r => simp [State.btrOld, hr, hn r hr]

theorem State.btrOld_of_second {q : Word} (hx : x = s.btrRem n) (hq : q = word (u32 b 8)) {c : SfCopy}
    (hc : x.other p q = some c) : s.btrOld p b n = false := by
  subst hx hq
  simp [State.btrOld, hc]

/-- The first copy of a newer frame is acted on (R364). -/
theorem State.btrFrame_first {q : Word} (hx : x = s.btrRem n) (hq : q = word (u32 b 8)) (ho : x.other p q = none)
    (hold : s.btrOld p b n = false) {y : State} (hy : y = s.setBtrRem n { x with
      copies := x.copies ++ [{ port := p, bytes := b, waited := 0 }], seq := some q, silent := 0, timeout := u16 b 0x1C
      fresh := true, stopSeen := s.btr.frameStop n b }) :
    s.btrFrame p n b = if x.fresh = false ∧ s.btr.leads n = true then y.raise 72 .notice 1 1 n [] else y := by
  subst hx hq hy
  simp only [State.btrFrame, ho, hold, Bool.false_eq_true, if_false]
  rfl

/-- The second copy ends the wait, or latches the mismatch when it differs (R365). -/
theorem State.btrFrame_second {q : Word} (hx : x = s.btrRem n) (hq : q = word (u32 b 8)) {c : SfCopy} {r : List SfCopy}
    (hc : x.other p q = some c) (hr : r = x.copies.filter (fun c => word (u32 c.bytes 8) != q)) :
    (c.bytes = b → s.btrFrame p n b = ((s.setBtrRem n { x with copies := r, goodCopies := x.goodCopies + 1 }).btrAgree n
      (s.btr.frameStop n b)).btrCopiesGood n) ∧
    (∀ y, c.bytes ≠ b → y = s.setBtrRem n { x with
        copies := r, goodCopies := 0, mismatch := true, both := false, clr := false } →
      s.btrFrame p n b = if s.btr.leads n = true then y.raise 72 .notice 0 2 n [q] else y) := by
  subst hx hq hr
  refine ⟨fun hb => ?_, fun y hb hy => ?_⟩
  · simp only [State.btrFrame, hc, hb, if_true]
  · subst hy
    simp only [State.btrFrame, hc, hb, if_false]
    rfl

theorem State.btrCopyTimeout_late {w : Nat} {y : BtrRem} (hx : x = s.btrRem n) (hw : w = u16 s.btr.params 6)
    (hlate : ∃ c ∈ x.copies, w < c.waited)
    (hy : y = { x with copies := x.copies.filter (fun c => !decide (w < c.waited)), goodCopies := 0 }) :
    s.btrCopyTimeout n = if x.degraded.isSome = true then s.setBtrRem n y
      else if s.btr.leads n = true then (s.setBtrRem n { y with degraded := some 0 }).raise 70 .notice 0 0 n []
      else s.setBtrRem n { y with degraded := some 0 } := by
  subst hx hw hy
  obtain ⟨c, hc, hcw⟩ := hlate
  refine (if_neg fun hempty => ?_).trans rfl
  exact List.filter_eq_nil_iff.mp (List.isEmpty_iff.mp hempty) c hc (decide_eq_true hcw)

theorem State.btrRemoteLost_silent (hx : x = s.btrRem n) (hf : x.fresh = true) (ht : x.timeout ≤ x.silent) {y : State}
    (hy : y = s.setBtrRem n { x with fresh := false }) :
    s.btrRemoteLost n = if s.btr.leads n = true then y.raise 72 .notice 0 1 n [] else y := by
  subst hx hy
  refine (if_neg fun h => ?_).trans rfl
  exact h.elim (fun h => Bool.false_ne_true (h.symm.trans hf)) (Nat.not_lt.mpr ht)

theorem State.btrRemoteLimit_reached (hx : x = s.btrRem n) {c : Nat} (hc : x.degraded = some c) (hf : x.forced = false)
    (hl : s.btr.degLimit ≤ c) {y : State} (hy : y = s.setBtrRem n { x with forced := true }) :
    s.btrRemoteLimit n = if s.btr.leads n = true then y.raise 71 .alarm 0 0 n [] else y := by
  subst hx hy
  simp only [State.btrRemoteLimit, hc, hf, Nat.not_lt.mpr hl, Bool.false_eq_true, or_self, if_false]
  rfl

theorem State.btrOutputLimit_reached {o c : Nat} {x : BtrOut} (hx : x = s.btrOut o) (hc : x.degraded = some c)
    (hf : x.latchedOff = false) (hl : s.btr.degLimit ≤ c) :
    s.btrOutputLimit o = (s.raise 71 .alarm 0 0 o []).btrLatchOff o := by
  subst hx
  simp only [State.btrOutputLimit, hc, hf, Nat.not_lt.mpr hl, Bool.false_eq_true, or_self, if_false]

end

/-! ## The rows -/

section
variable {t : Nat} {s a : State} (hr : s.runs = true) (ha : a = s.instant t)
include hr ha

theorem exec_buttressBeatLoss (h3 : 3 ≤ s.btr.beatLost) (hb : s.btr.lostByBeat = false) (hf : s.btr.fault = false) :
    exec (.buttressBeatLoss t) s = .next
      (((a.withBtr { s.btr with lostByBeat := true }).btrPublish 0xFFFF#16).raise 77 .notice 0 0 noIndex []) := by
  subst ha
  refine next_whileRunning t hr (if_neg ?_)
  rintro (h | h | h)
  · exact absurd h3 (Nat.not_le.mpr h)
  · exact Bool.false_ne_true (hb.symm.trans h)
  · exact Bool.false_ne_true (hf.symm.trans h)

theorem exec_safeOutputCurrentLimit {o : Nat} (h : Bool) (ho : o < 8) (hon : (s.btrOut o).on = true) :
    exec (.safeOutputCurrentLimit t o h) s = .next
      ((a.emit (.pin (if h then ballHigh o else ballLow o) false)).setBtrOut o
        { s.btrOut o with tripH := (s.btrOut o).tripH || h, tripL := (s.btrOut o).tripL || !h }) := by
  subst ha
  refine next_whileRunning t hr (if_neg ?_)
  rintro (h | h)
  · omega
  · exact Bool.false_ne_true (h.symm.trans hon)

variable (hacts : s.btr.acts = true)
include hacts

theorem exec_confirmMiss {n : Nat} (hm : a.canMiss 0x0A = true) (hn : n = min 3 (s.btr.missStreak + 1)) :
    exec (.confirmMiss t) s = .next
      ((((((a.withCrs { s.crs with doneItems := s.crs.doneItems ++ [0x0A] }).withBtr { s.btr with
        missStreak := n, goodConfirms := 0, missLatched := s.btr.missLatched || n == 3 }).count .btrMiss).raise
          75 .notice 0 0 noIndex []).btrReady).sendSafety 16) := by
  subst ha hn
  refine next_whileRunning t hr (if_neg ?_)
  rintro (h | h)
  · exact Bool.false_ne_true (h.symm.trans hacts)
  · exact Bool.false_ne_true (h.symm.trans hm)

theorem exec_discrepancyFault {i : Nat} (hi : i < min 16 s.btr.nIn) (hf : (s.btrIn i).fault = false)
    (hd : max 1 (u16 (s.btr.recIn i) 2) ≤ (s.btrIn i).disc) : exec (.discrepancyFault t i) s = .next
      (((a.setBtrIn i { s.btrIn i with fault := true, both := false, clr := false }).count .btrDisc).raise
        65 .notice 0 0 i []) := by
  subst ha
  refine next_whileRunning t hr ((if_pos ⟨hacts, hi⟩).trans (if_neg ?_))
  rintro (h | h)
  · exact Bool.false_ne_true (hf.symm.trans h)
  · exact absurd hd (Nat.not_le.mpr h)

/-- A safety frame is checked, and its first or second copy taken of every remote of its unit (R364). -/
theorem exec_safetyFrameRx {p : Port} (hp : p ≠ .m) (hu : s.portUp p = true) (b : List Byte) {ns : List Nat}
    (hns : ns = s.btr.rems.filter (fun n => u8 (s.btr.recRem n) 0 == u8 b 5)) :
    exec (.safetyFrameRx t p b) s = .next (if s.btr.frameValid b = false then a.count .btrSfErr
      else if ns.any (fun n => s.btrOld p b n) = true then a.count .btrSfErr
      else ns.foldl (fun u n => u.btrFrame p n b) a) := by
  subst ha hns
  refine next_whileRunning t hr (if_neg ?_)
  rintro (h | h | h)
  · exact Bool.false_ne_true (h.symm.trans hacts)
  · exact hp h
  · exact Bool.false_ne_true (h.symm.trans hu)

theorem exec_safetyFrameRx_of_one {p : Port} (hp : p ≠ .m) (hu : s.portUp p = true) {b : List Byte} {n : Nat}
    (hv : s.btr.frameValid b = true) (hns : s.btr.rems.filter (fun n => u8 (s.btr.recRem n) 0 == u8 b 5) = [n]) :
    exec (.safetyFrameRx t p b) s = .next (if s.btrOld p b n = true then a.count .btrSfErr else a.btrFrame p n b) := by
  rw [exec_safetyFrameRx hr ha hacts hp hu b hns.symm, if_neg (by simp [hv])]
  exact congrArg _ (if_congr (by simp) rfl rfl)

theorem exec_safetyCopyTimeout {n : Nat} (hn : n < min 8 s.btr.nRem) :
    exec (.safetyCopyTimeout t n) s = .next (a.btrCopyTimeout n) := by
  subst ha
  exact next_whileRunning t hr (if_pos ⟨hacts, hn⟩)

theorem exec_remoteSourceLost {n : Nat} (hn : n < min 8 s.btr.nRem) :
    exec (.remoteSourceLost t n) s = .next (a.btrRemoteLost n) := by
  subst ha
  exact next_whileRunning t hr (if_pos ⟨hacts, hn⟩)

theorem exec_degradedLimit {n : Nat} (hn : n < 8) (remote : Bool) : exec (.degradedLimit t remote n) s =
    .next (if remote = true then a.btrRemoteLimit n else a.btrOutputLimit n) := by
  subst ha
  refine next_whileRunning t hr (if_neg ?_)
  rintro (h | h)
  · exact Bool.false_ne_true (h.symm.trans hacts)
  · omega

/-- The start-up test drives the high and then the low switch, each alone for PULSE (R354). -/
theorem exec_outputStartupTest {o : Nat} {x : BtrOut} (ho : o < min 8 s.btr.nOut) (hx : x = s.btrOut o)
    (ht : x.tested = false) (hon : x.on = false) (g : Bool) : exec (.outputStartupTest t o g) s = .next (
      if x.startStep = 0 then
        (a.emit (.pin (ballHigh o) true)).setBtrOut o { x with startStep := 1, pulseAt := a.clk.now }
      else if a.clk.now < x.pulseAt + 1000 * u16 (s.btr.recOut o) 2 then a
      else
        let e := a.emit (.pin (if x.startStep = 1 then ballHigh o else ballLow o) false)
        if g = false then
          (e.setBtrOut o { x with startStep := 0, tested := true, testBad := true, latchedOff := true }).btrTestFail o
        else if x.startStep = 1 then
          (e.emit (.pin (ballLow o) true)).setBtrOut o { x with startStep := 2, pulseAt := a.clk.now }
        else e.setBtrOut o { x with startStep := 0, tested := true }) := by
  subst ha hx
  refine next_whileRunning t hr ((if_neg ?_).trans rfl)
  rintro (h | h | h | h)
  · exact Bool.false_ne_true (h.symm.trans hacts)
  · exact absurd ho (Nat.not_lt.mpr h)
  · exact Bool.false_ne_true (ht.symm.trans h)
  · exact Bool.false_ne_true (hon.symm.trans h)

omit ha

/-- A test pulse opens the switch of its channel (R355). -/
theorem exec_outputTestStart {o : Nat} {x : BtrOut} (ho : o < min 8 s.btr.nOut) (hx : x = s.btrOut o) (hon : x.on = true)
    (hp : x.pulse = none) (ht : x.testIn = 0) : exec (.outputTestStart o) s = .next
      (((s.instant 500080).emit (.pin (if x.nextHigh then ballHigh o else ballLow o) false)).setBtrOut o
        { x with pulse := some x.nextHigh, pulseAt := (s.instant 500080).clk.now
                 testIn := max 1 (u16 (s.btr.recOut o) 4 / 2) }) := by
  subst hx
  refine next_whileRunning 500080 hr (if_neg ?_)
  rintro (h | h | h | h | h)
  · exact Bool.false_ne_true (h.symm.trans hacts)
  · exact absurd ho (Nat.not_lt.mpr h)
  · exact Bool.false_ne_true (h.symm.trans hon)
  · rw [show ((s.instant 500080).btrOut o).pulse = none from hp] at h
    cases h
  · exact h ht

/-- At its end the switch closes, the other channel is next, and the readings are judged 100 µs later (R355). -/
theorem exec_outputTestEnd {o : Nat} {x : BtrOut} (ho : o < min 8 s.btr.nOut) (hx : x = s.btrOut o) {h : Bool} {b y : State}
    (hp : x.pulse = some h) (he : s.pulseEnd o ≤ 899899) (hb : b = s.instant (s.pulseEnd o))
    (hy : y = ((b.emit (.pin (if h then ballHigh o else ballLow o) true)).instant
      (b.clk.now - s.clk.tickAt + 100000)).setBtrOut o { x with pulse := none, nextHigh := !h }) (r c : Bool) :
    exec (.outputTestEnd o r c) s = .next (y.btrVerdict o h r c) := by
  subst hx hb hy
  refine congrArg _ ((if_neg (Nat.not_lt.mpr he)).trans ((State.whileRunning_of_runs (s.instant (s.pulseEnd o)) hr).trans ?_))
  simp only [show ((s.instant (s.pulseEnd o)).btrOut o).pulse = some h from hp]
  refine (if_neg ?_).trans rfl
  rintro (h | h)
  · exact Bool.false_ne_true (h.symm.trans hacts)
  · exact absurd (Nat.lt_min.mp ho).1 (Nat.not_lt.mpr h)

end

theorem State.btrVerdict_good (s : State) (o : Nat) (h : Bool) : s.btrVerdict o h true true = s := by
  simp [State.btrVerdict]

/-- Settles O43: the course by what its steps leave of the beat, the fault by its steps, the rest by the branch that
each row runs. -/
theorem buttressRows : Obligations.ButtressRows := by
  unfold Obligations.ButtressRows
  intro t s a hr ha
  refine ⟨fun ca cb h l hf => ⟨_, next_whileRunning 10080 hr rfl, rfl, ?_⟩, fun hf => ⟨_, ?_, rfl, ?_⟩,
    fun h3 hb hf => exec_buttressBeatLoss hr ha h3 hb hf, fun o h ho hon => exec_safeOutputCurrentLimit hr ha h ho hon,
    fun hacts => ⟨fun n hm hn => exec_confirmMiss hr ha hacts hm hn,
      fun i hi hf hd => exec_discrepancyFault hr ha hacts hi hf hd, fun p b hp hu => ?_, fun n x hn hx => ?_,
      fun o x ho hx => ?_⟩⟩
  · exact State.buttressCourse_counts (s.instant 10080) hf ca cb h l
  · subst ha
    exact congrArg _ (if_neg (by simp [State.runs] at hr; simp [hr]))
  · subst ha
    have hmarks (o : Nat) (ho : o < 8) := (s.instant t).islandFault_marks hf o ho
    simp only [State.faultMarks, Prod.mk.injEq] at hmarks
    exact ⟨(hmarks 0 (by simp)).1, (hmarks 0 (by simp)).2.1, fun o ho => (hmarks o ho).2.2⟩
  · have hframe {ns : List Nat} := exec_safetyFrameRx hr ha hacts hp hu b (ns := ns)
    refine ⟨fun hv => (hframe rfl).trans (congrArg _ (if_pos hv)), fun ns hv hns => (hframe hns).trans (congrArg _
      (if_neg (by simp [hv]))), fun n x q hv hns hx hq => ⟨fun ho => ⟨fun r hseq hold => ?_, fun y hnew hy => ?_⟩,
        fun c r hc hr' => ⟨fun hb => ?_, fun y hb hy => ?_⟩⟩⟩
    all_goals
      rw [exec_safetyFrameRx_of_one hr ha hacts hp hu hv hns]
      subst ha
    · rw [State.btrOld_of_older hx hq ho hseq, if_pos (by simp [hold])]
    · have hold := State.btrOld_of_newer (p := p) hx hq hnew
      rw [if_neg (by simp [hold]), State.btrFrame_first (s := s.instant t) hx hq ho hold hy]
      rfl
    · rw [if_neg (Bool.eq_false_iff.mp (State.btrOld_of_second hx hq hc)),
        (State.btrFrame_second (s := s.instant t) hx hq hc hr').1 hb]
      rfl
    · rw [if_neg (Bool.eq_false_iff.mp (State.btrOld_of_second hx hq hc)),
        (State.btrFrame_second (s := s.instant t) hx hq hc hr').2 y hb hy]
      rfl
  · have hcopy := exec_safetyCopyTimeout hr ha hacts hn
    have hlost := exec_remoteSourceLost hr ha hacts hn
    have hlimit := exec_degradedLimit hr ha hacts (n := n) (by omega) true
    subst ha
    exact ⟨fun w y hw hlate hy => hcopy.trans (congrArg _ (State.btrCopyTimeout_late (s := s.instant t) hx hw hlate hy)),
      fun y hf ht hy => hlost.trans (congrArg _ (State.btrRemoteLost_silent (s := s.instant t) hx hf ht hy)),
      fun c y hc hf hl hy => hlimit.trans (congrArg _ (State.btrRemoteLimit_reached (s := s.instant t) hx hc hf hl hy))⟩
  · have hlimit := exec_degradedLimit hr ha hacts (n := o) (by omega) false
    refine ⟨fun c hc hf hl => ?_, fun ht hon => ⟨fun g h0 => ?_, fun h0 hd e he => ⟨?_, ?_⟩⟩,
      fun hon hp ht => exec_outputTestStart hr hacts ho hx hon hp ht, fun h b y hp he hb hy => ⟨?_, fun r c =>
        exec_outputTestEnd hr hacts ho hx hp he hb hy r c⟩⟩
    · subst ha
      exact hlimit.trans (congrArg _ (State.btrOutputLimit_reached (s := s.instant t) hx hc hf hl))
    · rw [exec_outputStartupTest hr ha hacts ho hx ht hon, if_pos h0]
    · rw [exec_outputStartupTest hr ha hacts ho hx ht hon, if_neg h0, if_neg (by omega), he]
      rfl
    · rw [exec_outputStartupTest hr ha hacts ho hx ht hon, if_neg h0, if_neg (by omega), he]
      rfl
    · rw [exec_outputTestEnd hr hacts ho hx hp he hb hy, State.btrVerdict_good]

end Sys2Proof.Machine
end

section
/-! What the part gives out only grows through the work of a command that is accepted, so that what stands first in the
outbox stays first. -/

namespace Sys2Proof.Machine
open Sys2Proof

/-- What the part has given out in `s` stands first in what it has given out in `u`. -/
def State.Grew (s u : State) : Prop := s.outbox <+: u.outbox

section
variable {s u v : State}

theorem State.Grew.refl : s.Grew s := List.prefix_refl _
theorem State.Grew.trans (h : s.Grew u) (k : u.Grew v) : s.Grew v := List.IsPrefix.trans h k
theorem State.Grew.of_blank (h : s.Grew u) (k : v.blank (keepOnly [.outbox]) = u.blank (keepOnly [.outbox])) :
    s.Grew v := by
  rw [State.Grew, State.outbox_of_blank k rfl]
  exact h
theorem State.Grew.emit (h : s.Grew u) (o : Out) : s.Grew (u.emit o) := h.trans (List.prefix_append _ _)
theorem State.Grew.ite {c : Prop} [Decidable c] (h : s.Grew u) (k : s.Grew v) : s.Grew (if c then u else v) := by
  split
  · exact h
  · exact k

theorem State.Grew.foldl {α : Type} {f : State → α → State} (hf : ∀ (v : State) (x : α), v.Grew (f v x)) (l : List α) (h : s.Grew u) :
    s.Grew (l.foldl f u) := by
  induction l generalizing u with
  | nil => exact h
  | cons x l ih => exact ih (h.trans (hf _ x))

/-- The first that `u` gave out after `s`, while `v` only gave out more. -/
theorem State.Grew.take {l : List Out} (hu : u.outbox = s.outbox ++ l) (h : u.Grew v) :
    (v.outbox.drop s.outbox.length).take l.length = l := by
  obtain ⟨rest, hrest⟩ := h
  simp [← hrest, hu]

variable (h : s.Grew u)
include h

theorem State.Grew.withHrg (x : Hrg) : s.Grew (u.withHrg x) := h
theorem State.Grew.withPnt (x : Pnt) : s.Grew (u.withPnt x) := h
theorem State.Grew.withCsq (x : Csq) : s.Grew (u.withCsq x) := h
theorem State.Grew.withYlk (x : Ylk) : s.Grew (u.withYlk x) := h
theorem State.Grew.withRdn (x : Rdn) : s.Grew (u.withRdn x) := h
theorem State.Grew.useFree : s.Grew u.useFree := h
theorem State.Grew.setRing (i : Nat) (r : Ring) : s.Grew (u.setRing i r) := h
theorem State.Grew.putRef (i : Nat) (r : RefSt) : s.Grew (u.putRef i r) := h
theorem State.Grew.complete (ring ref status : Nat) (r : Word) : s.Grew (u.complete ring ref status r) := h
theorem State.Grew.done (w : Waiting) (r : Nat) : s.Grew (u.done w r) := h
theorem State.Grew.refuse (w : Waiting) (r : Nat) : s.Grew (u.refuse w r) := h
theorem State.Grew.markAccepted (ring ref : Nat) : s.Grew (u.markAccepted ring ref) := h
theorem State.Grew.countN (c : Ctr) (n : Nat) : s.Grew (u.countN c n) := h.of_blank (State.countN_blank rfl rfl c n u)
theorem State.Grew.count (c : Ctr) : s.Grew (u.count c) := h.countN c 1
theorem State.Grew.raise (src : Nat) (sev : Sev) (qual cause index : Nat) (vals : List Word) :
    s.Grew (u.raise src sev qual cause index vals) := h.of_blank (State.raise_blank rfl rfl src sev qual cause index vals u)

theorem State.Grew.putEntry (i flags : Nat) (body : List Byte) : s.Grew (u.putEntry i flags body) :=
  ((h.emit _).emit _).setRing _ _

theorem State.Grew.msix (v : Nat) : s.Grew (u.msix v) := .ite (h.withHrg _) (h.emit _)

theorem State.Grew.ringMsg (i : Nat) : s.Grew (u.ringMsg i) := by
  unfold State.ringMsg
  exact .ite (h.setRing _ _) ((h.setRing _ _).msix _)

theorem State.Grew.putBehind (i flags : Nat) (body : List Byte) : s.Grew (u.putBehind i flags body) :=
  .ite (h.setRing _ _) (h.putEntry i flags body)

theorem State.Grew.streamHold (st n : Nat) : s.Grew (u.streamHold st n) := by
  unfold State.streamHold
  exact .ite (((h.withPnt _).count _).raise _ _ _ _ _ _) ((h.withPnt _).count _)

theorem State.Grew.streamBatch (st : Nat) (ps : List (Nat × Pt)) : s.Grew (u.streamBatch st ps) := by
  unfold State.streamBatch
  have hhold (l : List (Nat × Pt)) {v : State} (k : s.Grew v) : s.Grew (l.foldl (fun v p => v.streamHold st p.1) v) := by
    refine k.foldl (fun v p => ?_) l
    exact State.Grew.streamHold .refl st p.1
  exact .ite (hhold _ h) (.ite ((((hhold _ h).putBehind _ _ _).ringMsg _).withPnt _) (hhold _ (hhold _ h)))

theorem State.Grew.streamPost (ps : List (Nat × Pt)) : s.Grew (u.streamPost ps) := by
  unfold State.streamPost
  exact h.foldl (fun v st => .foldl (fun w b => .streamBatch .refl st b) _ .refl) _

theorem State.Grew.writePoints (entry : Nat) (time : Int) (frame : Word) (us : List PtUpd) :
    s.Grew (u.writePoints entry time frame us) := by
  unfold State.writePoints
  exact .streamPost (.ite (h.withPnt _) ((h.withPnt _).countN _ _)) _

theorem State.Grew.sendLink (typ : Nat) (b : List Byte) : s.Grew (u.sendLink typ b) := by
  unfold State.sendLink
  exact .ite h (.ite (h.useFree.count _) ((h.useFree.withYlk _).emit _))

theorem State.Grew.forwardPoints (time : Int) (ns : List Nat) : s.Grew (u.forwardPoints time ns) := by
  unfold State.forwardPoints
  exact .ite h (.foldl (fun v c => .sendLink .refl 9 _) _ (.foldl (fun v n => .withPnt .refl _) _ h))

theorem State.Grew.updateRoute (r : List Byte) (time : Int) (us : List PtUpd) : s.Grew (u.updateRoute r time us) := by
  have hfresh (e : Nat) {v : State} (k : s.Grew v) : s.Grew (v.routeFresh e) :=
    k.of_blank (State.routeFresh_blank rfl rfl rfl e v)
  unfold State.updateRoute
  exact .ite h (.ite ((hfresh _ (h.writePoints _ _ _ _)).forwardPoints _ _) (h.writePoints _ _ _ _))

theorem State.Grew.answer (w : Waiting) (out : List Byte) : s.Grew (u.answer w out) := by
  unfold State.answer
  split
  · exact (h.emit _).done w _
  · exact ((h.count _).raise _ _ _ _ _ _).complete _ _ _ _

theorem State.Grew.takePointWrite (w : Waiting) (n : Nat) (v : Word) (q typ : Nat) :
    s.Grew (u.takePointWrite w n v q typ) := by
  unfold State.takePointWrite
  split
  · exact h.refuse w 1
  · exact .ite (h.refuse w 2) (.ite ((h.count _).refuse w 3) ((h.updateRoute _ _ _).done w 0))

theorem State.Grew.serveRefStatus (w : Waiting) (r : Nat) : s.Grew (u.serveRefStatus w r) := by
  unfold State.serveRefStatus
  exact .ite (h.refuse w 1) (.answer (.ite (h.putRef _ _) h) w _)

theorem State.Grew.serveConseqQuery (w : Waiting) (cases clear : Bool) : s.Grew (u.serveConseqQuery w cases clear) := by
  unfold State.serveConseqQuery
  exact .ite ((h.answer w _).withCsq _) (h.answer w _)

/-- A command served at once only gives out more (R420). -/
theorem State.Grew.serveNow (w : Waiting) : s.Grew (u.serveNow w) := by
  by_cases hc : Part.outbox ∈ cmdParts w.cmd
  · unfold State.serveNow
    generalize w.cmd = c at hc
    cases c with
    | imageQuery | gnssQuery | estQuery | ctrlQuery | allocQuery | envelopeQuery | trimQuery => exact h.answer w _
    | refStatus r => exact h.serveRefStatus w r
    | conseqQuery => exact h.serveConseqQuery w _ _
    | pointWrite n v q t => exact h.takePointWrite w n v q t
    | _ => simp [cmdParts] at hc
  · refine h.of_blank (State.serveNow_blank_cmd w u fun p hp => ?_)
    cases p with
    | outbox => exact absurd hp hc
    | _ => rfl

theorem State.Grew.routeCommand (w : Waiting) : s.Grew (u.routeCommand w) := by
  unfold State.routeCommand
  exact .ite (h.withRdn _) (.ite (h.withHrg _) (h.serveNow w))

theorem State.Grew.withBuffer (w : Waiting) : s.Grew (u.withBuffer w fun u => u.routeCommand w) := by
  unfold State.withBuffer
  split
  · exact h.routeCommand w
  · exact ((h.count _).raise _ _ _ _ _ _).complete _ _ _ _

theorem State.Grew.acceptCommand (ref : Nat) (k : CmdHdr) (c : HostCmd) (desc : List Byte) :
    s.Grew (u.acceptCommand ref k c desc) := by
  unfold State.acceptCommand
  exact .ite ((h.markAccepted _ _).withBuffer _) ((h.markAccepted _ _).routeCommand _)

theorem State.Grew.releaseFenced (ring : Nat) : s.Grew (u.releaseFenced ring) := by
  unfold State.releaseFenced
  split
  · split
    · exact h.acceptCommand _ _ _ _
    · exact h
  · exact h

end

end Sys2Proof.Machine
end

section
/-! The statements of spec/17_host_rings.md on its rows: doorbells, ring enable and reset, accesses that fail, completions,
messages, bulk pieces. -/

namespace Sys2Proof.Machine
open Sys2Proof

/-! ## Doorbells, ring enable and ring reset (R413, R416, R431, R434) -/

section
variable {t ring : Nat} {w : Word} {s : State} (hs : s.hostServes = true)
include hs

theorem exec_doorbellWrite (hring : ring < 22) (ha : (s.instant t).answers (doorbellOffset ring) = true)
    (hx : (s.instant t).accessStalled (doorbellOffset ring) = false) {a : State} {n : Nat}
    (hn : n = (w.extractLsb' 0 13).toNat) (haa : a = (s.instant t).setRing ring { s.ring ring with hostPos := n }) :
    exec (.doorbellWrite t ring w) s = .next (if (s.ring ring).rejects (decide (ring < 8)) n = true
      then ((s.instant t).count .dblErr).raise 113 .notice 0 0 ring []
      else if ring = 21 then a.withHrg { a.hrg with
        bulkUsed := s.hrg.bulkUsed.drop (s.hrg.bulkUsed.length - (a.ring 21).ahead (s.ring ring).partPos n) }
      else if 8 ≤ ring ∧ (s.ring ring).retry = false then a.flushHeld ring else a) := by
  subst hn haa
  refine congrArg _ ((if_neg (Nat.not_le.mpr hring)).trans ?_)
  refine (State.barWrite_of_answers (s.instant t) ha hx).trans ?_
  exact (if_neg fun h => Bool.false_ne_true (h.symm.trans hs)).trans rfl

/-- Either row writes the control word of the ring that the selector names (R413). -/
theorem exec_rctl (ha : (s.instant t).answers 0x2010 = true) (hx : (s.instant t).accessStalled 0x2010 = false)
    (hring : ring < 22) (hsel : s.hrg.sel = ring) {i : Instr} (hi : i = .ringEnable t w ∨ i = .ringReset t w) :
    exec i s = .next (if w.getLsbD 1 = true then (s.instant t).resetRing ring
      else if w.getLsbD 0 = true then
        (if (s.ring ring).en = true ∧ (s.ring ring).state ≠ .resetting then s.instant t else (s.instant t).enableRing ring)
      else (s.instant t).disableRing ring) := by
  have hwrite : (if (s.instant t).hostServes = true then (s.instant t).writeRctl w else s.instant t) =
      if w.getLsbD 1 = true then (s.instant t).resetRing ring
      else if w.getLsbD 0 = true then
        (if (s.ring ring).en = true ∧ (s.ring ring).state ≠ .resetting then s.instant t else (s.instant t).enableRing ring)
      else (s.instant t).disableRing ring := by
    subst hsel
    exact (if_pos hs).trans (if_neg (Nat.not_le.mpr hring))
  obtain rfl | rfl := hi <;> exact congrArg _ ((State.barWrite_of_answers _ ha hx).trans hwrite)

theorem exec_ringResetDone (hring : ring < 8) (hr : (s.ring ring).state = .resetting) (ho : (s.ring ring).outst = []) :
    exec (.ringResetDone t ring) s =
      .next ((s.instant t).setRing ring { s.ring ring with state := .disabled, partPos := 0, hostPos := 0 }) :=
  congrArg _ ((if_pos hs).trans (if_pos ⟨hring, hr, List.isEmpty_iff.mpr ho⟩))

end

/-- A disabled ring with a size from 16 to 4096 and a base runs when it is enabled (R413, R434). -/
theorem State.enableRing_runs {s : State} {i : Nat} (h : 4 ≤ bits (s.ring i).rcfg.toNat 0 4 ∧
      bits (s.ring i).rcfg.toNat 0 4 ≤ 12 ∧ ((s.ring i).baseLo ≠ 0 ∨ (s.ring i).baseHi ≠ 0))
    (hd : (s.ring i).state = .disabled) : s.enableRing i =
      ((s.setRing i { s.ring i with en := true, state := .running }).flushHeld i).releaseBound i := by
  obtain ⟨hlo, hhi, hbase⟩ := h
  refine (if_neg ?_).trans (if_pos hd)
  rintro (h | h | h | ⟨hl, hh⟩)
  · rw [hd] at h
    cases h
  · omega
  · omega
  · exact hbase.elim (· hl) (· hh)

/-- Settles O35: a doorbell is judged and then set, and a write of RCTL by its bits. -/
theorem doorbellAndRingRows : Obligations.DoorbellAndRingRows := by
  unfold Obligations.DoorbellAndRingRows
  intro t ring w s hs hring
  refine ⟨fun ha hx a n hn haa => ⟨fun hr => ?_, fun hr => ?_⟩, fun ha hx hsel => ?_, fun h8 hr ho =>
    exec_ringResetDone hs h8 hr ho⟩
  · rw [exec_doorbellWrite hs hring ha hx hn haa, if_neg (Bool.eq_false_iff.mp hr)]
    by_cases h21 : ring = 21
    · subst h21
      rfl
    · rw [if_neg h21, if_neg h21]
  · rw [exec_doorbellWrite hs hring ha hx hn haa, if_pos hr]
  · have henable := exec_rctl hs ha hx hring hsel (w := w) (.inl rfl)
    have hreset := exec_rctl hs ha hx hring hsel (w := w) (.inr rfl)
    refine ⟨fun h1 h0 hen => ⟨fun hcfg hd => ?_, fun hbad => ?_⟩, fun h1 h0 => ?_, fun h1 => ?_⟩
    · rw [henable, if_neg (Bool.eq_false_iff.mp h1), if_pos h0, if_neg (by simp [hen]),
        State.enableRing_runs (s := s.instant t) hcfg hd]
      rfl
    · rw [henable, if_neg (Bool.eq_false_iff.mp h1), if_pos h0, if_neg (by simp [hen])]
      exact congrArg _ (if_pos (.inr hbad))
    · rw [henable, if_neg (Bool.eq_false_iff.mp h1), if_neg (Bool.eq_false_iff.mp h0)]
      rfl
    · rw [hreset, if_pos h1]
      rfl

/-! ## Accesses that fail, completions, messages, bulk pieces (R414, R419, R421, R427 to R430) -/

section
variable {t ring : Nat} {s : State} (hs : s.hostServes = true)
include hs

theorem exec_hostAccessFailure (k : HostAccess) : exec (.hostAccessFailure t k) s = .next
    ((((s.instant t).count (accessCtr k).1).raise 114 .notice 0 0 (accessCtr k).2 []).awaitRetry k) :=
  congrArg _ ((if_neg (by simp [hs])).trans rfl)

theorem exec_hostAccessRetry {k : HostAccess} (hk : k ∈ s.hrg.accessRetry) (good : Bool) (n : Nat) :
    exec (.hostAccessRetry t k good n) s = .next (match k with
      | .fetch r => if good then (s.instant t).retried k else ((s.instant t).retried k).fetchLost r
      | .bufRead r => if good then (s.instant t).retried k else ((s.instant t).retried k).bufferLost r n
      | .outWrite r => if good then (s.instant t).retried k else ((s.instant t).retried k).dmaLost true r n
      | .entry r => if good then ((s.instant t).retried k).flushHeld r else ((s.instant t).retried k).haltWritten r) :=
  congrArg _ ((if_neg (by simp [hs, hk])).trans (by cases k <;> rfl))

theorem exec_msixModerationExpiry (hring : ring < 22) (h16 : ring ≠ 16) (hd : (s.ring ring).msgDue = true)
    (hl : ((s.ring ring).lastMsg.getD 0) + 1000 * bits (s.ring ring).rcfg.toNat 13 10 ≤ (s.instant t).clk.now) :
    exec (.msixModerationExpiry t ring) s = .next (((s.instant t).setRing ring { s.ring ring with
      lastMsg := some (s.instant t).clk.now, msgDue := false }).msix (bits (s.ring ring).rcfg.toNat 8 5)) := by
  refine congrArg _ ((if_neg ?_).trans ((if_neg h16).trans (if_pos ⟨hd, hl⟩)))
  rintro (h | h)
  · omega
  · exact Bool.false_ne_true (h.symm.trans hs)

theorem exec_msixModerationExpiry_events : ∀ c l, s.evt.msgDue = some c → s.evt.lastMsg = some l →
    l + 1000 * s.effField .evtCfg 15 10 ≤ (s.instant t).clk.now →
    exec (.msixModerationExpiry t 16) s = .next (((s.instant t).withEvt { s.evt with
      msgDue := none, lastMsg := some (s.instant t).clk.now }).msix (s.effField .evtCfg (match c with
        | .alarm => 0
        | .warning => 5
        | .notice => 10) 5)) := by
  intro c l hm hl hd
  refine congrArg _ ((if_neg (by simp [hs])).trans ((if_pos rfl).trans ?_))
  simp only [show (s.instant t).evt.msgDue = some c from hm, show (s.instant t).evt.lastMsg = some l from hl]
  exact (if_pos hd).trans (by cases c <;> rfl)

theorem exec_completionPost (hring : ring < 8) :
    exec (.completionPost t ring) s = .next (((s.instant t).postCompletion ring).releaseFenced ring) :=
  congrArg _ (if_pos ⟨hring, hs⟩)

theorem exec_bulkPieceWrite (how : LogEnd) (hr : s.log.reads = []) :
    exec (.bulkPieceWrite ⟨t, how⟩) s = .next ((s.instant t).writePiece).snapExported := by
  have hfill : (s.instant t).fillLogRead how = s.instant t := by
    simp [State.fillLogRead, show (s.instant t).log.reads = [] from hr]
  exact congrArg _ ((if_pos hs).trans (by rw [hfill]))

end

theorem exec_descriptorPhaseTimeout {t ring a : Nat} {s : State} (hr : s.runs = true) (hf : s.canFetch ring = true)
    (hw : (s.ring ring).phaseWait = some a) (hd : a + 1000000 ≤ (s.instant t).clk.now) :
    exec (.descriptorPhaseTimeout t ring) s = .next (((s.instant t).raise 113 .notice 0 0 ring []).fetchLost ring) := by
  refine next_whileRunning t hr (if_pos ?_)
  simp only [show ((s.instant t).ring ring).phaseWait = some a from hw, show (s.instant t).canFetch ring = true from hf,
    decide_eq_true hd, Bool.and_self]

section
variable {s : State} {ring : Nat}

theorem State.setRing_ring_ne {i j : Nat} (r : Ring) (h : i ≠ j) : (s.setRing i r).ring j = s.ring j :=
  (vget_vset s.hrg.rings i j r Ring.reset).trans (if_neg fun k => h k.1)

/-- What posting a completion gives out: the entry of its completion ring, the word with the phase last (R421). -/
theorem State.postCompletion_gives (hring : ring < 8) {o : Outst} {c : Cpl} (h : s.cplReady ring = some (o, c)) :
    ∃ u : State, u.outbox = s.outbox ++
      [.ringEntry (s.cplRing ring) ((s.ring (s.cplRing ring)).partPos % (s.ring (s.cplRing ring)).size) 4
        ((cplBody ring o c s.stamp).drop 3),
       .ringEntry (s.cplRing ring) ((s.ring (s.cplRing ring)).partPos % (s.ring (s.cplRing ring)).size) 0
        (byte (if (s.ring (s.cplRing ring)).partPos / (s.ring (s.cplRing ring)).size = 0 then 1 else 0) ::
          (cplBody ring o c s.stamp).take 3)] ∧
      u.Grew (s.postCompletion ring) := by
  have hq : ring ≠ s.cplRing ring := by
    unfold State.cplRing
    omega
  have hsame := s.setRing_ring_ne { s.ring ring with outst := (s.ring ring).outst.drop 1 } hq
  refine ⟨(s.setRing ring { s.ring ring with outst := (s.ring ring).outst.drop 1 }).putEntry (s.cplRing ring) 0
    (cplBody ring o c s.stamp), ?_, ?_⟩
  · refine (List.append_assoc ..).trans ?_
    rw [hsame, Nat.zero_add]
    rfl
  · simp only [State.postCompletion, h]
    refine .ite (.setRing (.ringMsg .refl _) _ _) (.ringMsg .refl _)

end

/-- The outputs that a ring has in host memory, where the bulk area goes on, and what of it is in use (R429, R430). -/
def State.bulkState (s : State) : List Xfer × Nat × List (Nat × Nat) := (s.hrg.xfers, s.hrg.bulkOff, s.hrg.bulkUsed)

section
variable {s : State}

theorem State.msix_bulkState (v : Nat) : (s.msix v).bulkState = s.bulkState := by
  unfold State.msix
  split
  · rfl
  · rfl

theorem State.ringMsg_bulkState (i : Nat) : (s.ringMsg i).bulkState = s.bulkState := by
  unfold State.ringMsg
  extract_lets r held
  by_cases h : held = true
  · rw [if_pos h]
    rfl
  · rw [if_neg h]
    exact State.msix_bulkState _

theorem State.snapExported_hrg : s.snapExported.hrg = s.hrg :=
  State.hrg_of_blank (State.snapExported_blank (msk := fun p => p == .gns || p == .mem) rfl rfl s) rfl

/-- A bulk piece with room and free bytes is written and recorded, and then its entry put (R429, R430). -/
theorem State.writePiece_eq {x : Xfer} {rest : List Xfer} {n o : Nat} (hr : s.log.reads = [])
    (hx : s.hrg.xfers = x :: rest) (he : x.error = false) (h0 : 0 < x.rest.length) (hroom : s.ringRoom 21 = true)
    (hn : n = min 65536 x.rest.length) (ho : o = s.bulkPlace n) (hfree : s.bulkFree o n = true) :
    s.writePiece = ((((s.emit (.hostWrite
      (BitVec.ofNat 64 ((s.hrg.bulkLo.toNat + 4294967296 * s.hrg.bulkHi.toNat) + o)) (x.rest.take n))).withHrg { s.hrg with
        xfers := if x.rest.length = n then rest else { x with rest := x.rest.drop n, pos := x.pos + n } :: rest
        bulkOff := o + n, bulkUsed := s.hrg.bulkUsed ++ [(o, n)], pieceBack := some x }).putEntry 21
          (if x.rest.length = n then 2 else 0) (bulkBody x o n)).ringMsg 21) := by
  subst hn ho
  have hempty : x.rest.isEmpty = false := by
    cases hrest : x.rest with
    | nil => simp [hrest] at h0
    | cons b l => rfl
  have hlast : (x.rest.length = min 65536 x.rest.length ∧ s.log.reads.all (fun r => r.xfer != x.xfer) = true) =
      (x.rest.length = min 65536 x.rest.length) := by simp [hr]
  simp only [State.writePiece, hx, hroom, he, hempty, hfree, hlast, Bool.true_eq_false, Bool.false_eq_true, if_false]
  rfl

/-- What the write of a bulk piece gives out first, and where it leaves the bulk area. -/
theorem State.writePiece_gives {x : Xfer} {rest : List Xfer} {n o : Nat} (hr : s.log.reads = [])
    (hx : s.hrg.xfers = x :: rest) (he : x.error = false) (h0 : 0 < x.rest.length) (hroom : s.ringRoom 21 = true)
    (hn : n = min 65536 x.rest.length) (ho : o = s.bulkPlace n) (hfree : s.bulkFree o n = true) :
    (s.emit (.hostWrite (BitVec.ofNat 64 ((s.hrg.bulkLo.toNat + 4294967296 * s.hrg.bulkHi.toNat) + o))
      (x.rest.take n))).Grew s.writePiece ∧
    s.writePiece.bulkState = (if x.rest.length = n then rest else { x with rest := x.rest.drop n, pos := x.pos + n } :: rest,
      o + n, s.hrg.bulkUsed ++ [(o, n)]) := by
  rw [State.writePiece_eq hr hx he h0 hroom hn ho hfree]
  exact ⟨((State.Grew.refl.withHrg _).putEntry _ _ _).ringMsg _, State.ringMsg_bulkState 21⟩

end

theorem State.Grew.head? {s u v : State} {o : Out} (hu : u.outbox = s.outbox ++ [o]) (h : u.Grew v) :
    (v.outbox.drop s.outbox.length).head? = some o := by
  obtain ⟨rest, hrest⟩ := h
  simp [← hrest, hu]

theorem State.Grew.snapExported {s u : State} (h : s.Grew u) : s.Grew u.snapExported :=
  h.of_blank (State.snapExported_blank rfl rfl u)

/-- Settles O36: a failed access waits for its retry, a posted completion and a piece give out their words first, and the
other rows are their own equation. -/
theorem hostAccessRows : Obligations.HostAccessRows := by
  unfold Obligations.HostAccessRows
  intro t ring s hs
  refine ⟨exec_hostAccessFailure hs, fun k n hk => ?_, fun k n hk => ?_, fun a hr hf hw hd => ?_, fun o c hring h => ?_,
    fun hring h16 hd hl => exec_msixModerationExpiry hs hring h16 hd hl,
    exec_msixModerationExpiry_events hs, ?_⟩
  · rw [exec_hostAccessRetry hs hk]
    cases k with
    | fetch | bufRead | outWrite | entry => rfl
  · rw [exec_hostAccessRetry hs hk]
    cases k with
    | fetch | bufRead | outWrite | entry => rfl
  · exact exec_descriptorPhaseTimeout hr hf hw hd
  · refine ⟨_, exec_completionPost hs hring, ?_⟩
    rintro q n body rfl rfl rfl
    obtain ⟨u, hu, hg⟩ := State.postCompletion_gives (s := s.instant t) hring h
    exact State.Grew.take hu (hg.trans (State.Grew.refl.releaseFenced ring))
  · intro how x rest n o hr hx he h0 hroom hn ho hfree
    obtain ⟨hg, hb⟩ := State.writePiece_gives (s := s.instant t) hr hx he h0 hroom hn ho hfree
    simp only [State.bulkState, Prod.mk.injEq] at hb
    rw [← State.snapExported_hrg] at hb
    obtain ⟨hxfers, hoff, hused⟩ := hb
    exact ⟨_, exec_bulkPieceWrite hs how hr, State.Grew.head? (s := s.instant t) rfl hg.snapExported, hxfers, hoff, hused⟩

end Sys2Proof.Machine
end

section
/-! Commands that are served as soon as they are accepted: the queries (R420, R425), and those of the image, the receiver,
the sensors, the pair and the buttresses (R423). -/

namespace Sys2Proof.Machine
open Sys2Proof

section
variable {t : Nat} {h : CmdHdr} {s u : State} {i : Instr} {c : HostCmd}

/-- An accepted command that waits for no tick is served at once. -/
theorem exec_served (hi : exec i s = .next (s.hostCommand t h c)) (hc : effectCmd c = false)
    (hb : readsBuffer c = false ∨ h.dma = none) (ha : s.Accepts h c)
    (hs : (s.accepted t h c).serveNow (s.taken t h c) = u) : exec i s = .next u := by
  have hsync : syncCmd c = false := by
    cases hk : syncCmd c with
    | false => rfl
    | true => exact absurd (effectCmd_of_syncCmd hk) (by simp [hc])
  rw [hi, State.hostCommand_of_read hb ha, State.routeCommand, if_neg (by simp [hsync]), if_neg (by simp [hc]), hs]

end

section
variable {s : State} {w : Waiting}

/-! ### The image (R67, R69) -/

/-- No image is being loaded and none waits for its frame. -/
def State.SlotIdle (s : State) : Prop := s.img.slot ≠ .loading ∧ ∀ n, s.img.slot ≠ .pending n

theorem State.takeImageLoad_starts (hl : s.SlotIdle) :
    s.takeImageLoad w = s.withImg { s.img with slot := .loading, staged := [], load := some w } := by
  obtain ⟨hl, hp⟩ := hl
  cases hs : s.img.slot with
  | loading => exact absurd hs hl
  | pending n => exact absurd hs (hp n)
  | empty | verified | refused => simp only [State.takeImageLoad, hs]

theorem State.takeImageLoad_busy {n : Word} (hb : s.img.slot = .loading ∨ s.img.slot = .pending n) :
    s.takeImageLoad w = s.refuse w 0x0A := by
  obtain hs | hs := hb
  · simp only [State.takeImageLoad, hs]
  · simp only [State.takeImageLoad, hs]

theorem State.takeImageDiscard_empties (hl : s.SlotIdle) :
    s.takeImageDiscard w = (s.withImg { s.img with slot := .empty, staged := [] }).done w 0 := by
  obtain ⟨hl, hp⟩ := hl
  cases hs : s.img.slot with
  | loading => exact absurd hs hl
  | pending n => exact absurd hs (hp n)
  | empty | verified | refused => simp only [State.takeImageDiscard, hs]

theorem State.takeImageDiscard_waits (hs : s.img.slot = .loading) :
    s.takeImageDiscard w = s.withImg { s.img with discard := s.img.discard ++ [w] } := by
  simp only [State.takeImageDiscard, hs]

/-! ### The sensors and the receiver (R95, R129) -/

theorem State.anaSwitch_quoinAt (c n kind port : Nat) : (s.anaSwitch c n).quoinAt kind port = s.quoinAt kind port := by
  have hrun (v : State) : (v.startRun c).quoinAt kind port = v.quoinAt kind port := by
    unfold State.startRun
    split
    · rfl
    · rfl
  unfold State.anaSwitch
  split
  · rfl
  · exact hrun _

/-- Outside the refusals, the input is switched, and the test ends at once or waits for the settling (R95). -/
theorem State.takeAnalogTest_switches {c n : Nat} (hc : s.channelAdmitted c = false) (hm : s.ctl.mode = 0) :
    s.takeAnalogTest w c n = if (s.quoinAt 2 c).isNone then (s.anaSwitch c n).done w 0
      else (s.anaSwitch c n).setAna c
        { (s.anaSwitch c n).anaCh c with tests := ((s.anaSwitch c n).anaCh c).tests ++ [w] } := by
  rw [State.takeAnalogTest, if_neg (by simp [hc]), if_neg (by simp [hm])]
  simp only [State.anaSwitch_quoinAt]

theorem State.wakeSnapshot_gns : s.wakeSnapshot.gns = s.gns :=
  State.gns_of_blank (State.wakeSnapshot_blank (msk := fun p => p == .evt || p == .ctrs || p == .mem) rfl rfl rfl s) rfl

theorem State.wakeSnapshot_clk : s.wakeSnapshot.clk = s.clk :=
  State.clk_of_blank (State.wakeSnapshot_blank (msk := fun p => p == .evt || p == .ctrs || p == .mem) rfl rfl rfl s) rfl rfl

/-! ### The leap count and the role exchange (R311, R341) -/

theorem State.learnLeap_tim (src n : Nat) :
    (s.learnLeap src n).tim = { s.tim with leapCount := n % 256, leapKnown := true, leapFrom := src } := by
  have hraise (v : State) (q : Nat) : (v.raise 60 .notice q 0 noIndex []).tim = v.tim :=
    State.tim_of_blank (State.raise_blank (msk := fun p => p == .evt || p == .ctrs) rfl rfl 60 .notice q 0 noIndex [] v) rfl
  unfold State.learnLeap
  extract_lets x c v
  split
  · rw [hraise]
    rfl
  · split
    · rfl
    · rw [hraise]
      rfl

theorem State.takeRoleExchange_asks (hx : s.exchAllowed = true) (hf : s.rdn.exchFrame = none)
    (hq : s.rdn.exchAsk = false) : s.takeRoleExchange w = s.withRdn { s.rdn with
      exchCmd := s.rdn.exchCmd ++ [(w.ring, w.ref)], exchAsk := true, exchRetry := none } := by
  have h1 : ¬(s.rdn.exchFrame.isSome = true ∨ s.rdn.exchAsk = true) := by simp [hf, hq]
  exact (if_neg h1).trans (if_pos hx)

end

section
variable {t : Nat} {h : CmdHdr} {s : State}

/-- A snapshot with none in progress wakes its banks and is requested; another is refused (R129). -/
theorem exec_gnssSnapshot (secs ns dur st tap : Nat) (ha : s.Accepts h (.gnssSnapshot secs ns dur st tap)) :
    exec (.gnssSnapshot t h secs ns dur st tap) s = .next
      ((s.accepted t h (.gnssSnapshot secs ns dur st tap)).takeSnapshot
        (s.taken t h (.gnssSnapshot secs ns dur st tap)) secs ns dur st tap) :=
  exec_served rfl rfl (.inl rfl) ha rfl

theorem State.takeSnapshot_requests {w : Waiting} {secs ns dur st tap : Nat} (h0 : s.gns.snap.state = 0) :
    s.takeSnapshot w secs ns dur st tap = (s.wakeSnapshot.withHrg { s.hrg with
      nextXfer := s.hrg.nextXfer + 1, xfers := s.hrg.xfers ++
        [{ kind := 1, tag := w.hdr.tag, xfer := s.hrg.nextXfer, rest := [], pos := 0, error := false }] }).withGns
      { s.gns with snap := { GnsSnap.reset with
          state := 1, cmd := some w, dur := dur, streams := st, tap := tap
          notBefore := max ((secs : Int) * 1000000000 + ns) (s.devTime + 1), xfer := s.hrg.nextXfer } } := by
  rw [State.takeSnapshot, if_neg (not_not.mpr h0), ← State.wakeSnapshot_gns (s := s)]
  simp only [State.devTime, ← State.wakeSnapshot_clk (s := s)]
  rfl

end

/-- Settles O31: each row is its own command served at once, by what that command does. -/
theorem imageAndReceiverCommands : Obligations.ImageAndReceiverCommands := by
  unfold Obligations.ImageAndReceiverCommands
  intro t h s
  refine ⟨fun ha => exec_served rfl rfl (.inl rfl) ha rfl, fun ha hl hp => exec_served rfl rfl (.inl rfl) ha ?_,
    fun n ha hn => exec_served rfl rfl (.inl rfl) ha ?_, fun n ha hn => exec_served rfl rfl (.inl rfl) ha ?_,
    fun ha hl hp => exec_served rfl rfl (.inl rfl) ha ?_, fun n hb ha => exec_served rfl rfl (.inl rfl) ha ?_,
    fun hl ha => exec_served rfl rfl (.inl rfl) ha ?_, ?_,
    fun d ha hd => exec_served rfl rfl (.inr hd) ha rfl, ?_, fun n ha => ⟨_, exec_served rfl rfl (.inl rfl) ha rfl, rfl, ?_⟩,
    fun ha hx hf hq => exec_served rfl rfl (.inl rfl) ha ?_, fun i r o ha => exec_served rfl rfl (.inl rfl) ha rfl,
    fun c on ha => exec_served rfl rfl (.inl rfl) ha rfl⟩
  · exact State.takeImageLoad_starts (s := s.accepted t h .imageLoad) ⟨hl, hp⟩
  · exact if_pos hn
  · exact if_neg (not_not.mpr hn)
  · exact State.takeImageDiscard_empties (s := s.accepted t h .imageDiscard) ⟨hl, hp⟩
  · exact State.takeImageLoad_busy (s := s.accepted t h .imageLoad) hb
  · exact State.takeImageDiscard_waits (s := s.accepted t h .imageDiscard) hl
  · rintro c i a ha rfl
    refine ⟨fun hc => exec_served rfl rfl (.inl rfl) ha ?_, fun hc hm => exec_served rfl rfl (.inl rfl) ha ?_⟩
    · exact if_pos hc
    · exact State.takeAnalogTest_switches (s := s.accepted t h (.analogTest c i)) hc hm
  · rintro secs ns dur st tap a rfl ha
    rw [exec_gnssSnapshot secs ns dur st tap ha]
    by_cases h0 : s.gns.snap.state = 0
    · rw [if_pos h0, State.takeSnapshot_requests (s := s.accepted t h (.gnssSnapshot secs ns dur st tap)) h0]
      rfl
    · rw [if_neg h0]
      exact congrArg _ (if_pos h0)
  · have htim := State.learnLeap_tim (s := s.accepted t h (.timeLeap n)) 0 n
    exact ⟨congrArg Tim.leapCount htim, congrArg Tim.leapKnown htim, congrArg Tim.leapFrom htim⟩
  · exact State.takeRoleExchange_asks (s := s.accepted t h .roleExchange) hx hf hq

end Sys2Proof.Machine
end

section
/-! The queries answer from the records of the part (R420, R423, R425). -/

namespace Sys2Proof.Machine
open Sys2Proof

section
variable {s : State} {w : Waiting}

@[simp] theorem length_lebytes (n x : Nat) : (lebytes n x).length = n := by
  induction n generalizing x with
  | zero => rfl
  | succ n ih => simp [lebytes, ih]

@[simp] theorem length_padTo (n : Nat) (b : List Byte) : (padTo n b).length = n := by
  simp only [padTo, List.length_take, List.length_append, List.length_replicate]
  omega

theorem State.answer_of_works {out : List Byte} {n : Nat} (hd : w.hdr.dma = none) (hn : out.length = n) :
    s.answer w out = (s.emit (.hostWrite w.hdr.addr out)).done w n := by
  simp only [State.answer, hd, hn]

/-- A transfer that fails ends the query with its error and the bytes moved, counted (R425). -/
theorem State.answer_of_fails {out : List Byte} {n : Nat} (hd : w.hdr.dma = some n) :
    s.answer w out = ((s.count .writeErr).raise 114 .notice 0 0 w.ring []).complete w.ring w.ref 4 (word n) := by
  simp only [State.answer, hd]

/-- The query of the consequence analysis answers, and then clears the held counts where asked (R282). -/
theorem State.serveConseqQuery_of_works {cases clear : Bool} {out : List Byte} {u : State} (hd : w.hdr.dma = none)
    (ho : out = padTo 64 s.csq.record ++ (if cases then (s.activeCases.map s.caseEntry).flatten else []))
    (hu : u = (s.emit (.hostWrite w.hdr.addr out)).done w out.length) :
    s.serveConseqQuery w cases clear = if clear then u.withCsq { s.csq with
      cases := s.csq.cases.map (fun (x : CaseSt) => { x with held := Occ.zero }) } else u := by
  rw [State.serveConseqQuery, ← ho]
  simp only [State.answer_of_works (out := out) hd rfl, ← hu]
  subst hu
  rfl

end

section
variable {t : Nat} {h : CmdHdr} {s : State} {i : Instr} {c : HostCmd} {out : List Byte} {n : Nat}

/-- The row is the one of a command that is served at once by the answer `out`. -/
def AnsweredAtOnce (t : Nat) (h : CmdHdr) (s : State) (i : Instr) (c : HostCmd) (out : List Byte) : Prop :=
  exec i s = .next (s.hostCommand t h c) ∧ effectCmd c = false ∧ readsBuffer c = false ∧
    (s.accepted t h c).serveNow (s.taken t h c) = (s.accepted t h c).answer (s.taken t h c) out

theorem AnsweredAtOnce.works (hq : AnsweredAtOnce t h s i c out) (ha : s.Accepts h c) (hd : h.dma = none)
    (hn : out.length = n) :
    exec i s = .next (((s.accepted t h c).emit (.hostWrite h.addr out)).done (s.taken t h c) n) := by
  obtain ⟨hi, hc, hb, hs⟩ := hq
  rw [exec_served hi hc (.inl hb) ha hs, State.answer_of_works (w := s.taken t h c) hd hn]
  rfl

theorem AnsweredAtOnce.fails (hq : AnsweredAtOnce t h s i c out) (ha : s.Accepts h c) (hd : h.dma = some n) :
    exec i s = .next ((((s.accepted t h c).count .writeErr).raise 114 .notice 0 0 h.ring []).complete
      h.ring s.hrg.nextRef 4 (word n)) := by
  obtain ⟨hi, hc, hb, hs⟩ := hq
  rw [exec_served hi hc (.inl hb) ha hs, State.answer_of_fails (w := s.taken t h c) hd]
  rfl

@[simp] theorem State.accepted_img : (s.accepted t h c).img = s.img := rfl
@[simp] theorem State.accepted_csq : (s.accepted t h c).csq = s.csq := rfl

theorem State.accepted_envBytes : (s.accepted t h c).envBytes = s.envBytes := by
  simp only [State.envBytes, State.envTop, State.sect, State.image, State.accepted_csq, State.accepted_img]

theorem answered_envelopeQuery : AnsweredAtOnce t h s (.envelopeQuery t h) .envelopeQuery s.envBytes :=
  ⟨rfl, rfl, rfl, congrArg (fun b => (s.accepted t h .envelopeQuery).answer (s.taken t h .envelopeQuery) b)
    State.accepted_envBytes⟩

theorem answered_estQuery : AnsweredAtOnce t h s (.estQuery t h) .estQuery (padTo 64 s.est.record) :=
  ⟨rfl, rfl, rfl, rfl⟩

theorem answered_ctrlQuery : AnsweredAtOnce t h s (.ctrlQuery t h) .ctrlQuery (padTo 64 s.ctl.record) :=
  ⟨rfl, rfl, rfl, rfl⟩

theorem answered_trimQuery : AnsweredAtOnce t h s (.trimQuery t h) .trimQuery (padTo 64 s.trim.record) :=
  ⟨rfl, rfl, rfl, rfl⟩

theorem answered_allocQuery : AnsweredAtOnce t h s (.allocQuery t h) .allocQuery
    (padTo 64 s.alloc.record ++ s.alloc.entries.flatten) :=
  ⟨rfl, rfl, rfl, rfl⟩

theorem answered_gnssQuery (ho : out = padTo 64 (wbytes (s.gns.epoch.getD 0) ++ (match s.gns.sol with
    | some x => wbytes x.lat ++ wbytes x.lon ++ wbytes x.height ++ ibytes 4 (satI 32 x.clock) ++
        [byte s.gns.fix, byte x.sats] ++ lebytes 2 (min 0xFFFF x.pdop) ++ [byte s.gns.solAnt, byte x.raim]
    | none => List.replicate 16 0 ++ [0, 0, 0, 0, byte s.gns.solAnt, 2]))) :
    AnsweredAtOnce t h s (.gnssQuery t h) .gnssQuery out :=
  ⟨rfl, rfl, rfl, ho ▸ rfl⟩

theorem answered_imageQuery (ho : out = lebytes 4 (u32 s.image 0x0C) ++
    [byte (if s.hasImage then s.img.activeClass else 0), byte s.img.slot.code, byte (match s.img.slot with
      | .refused r => r
      | _ => 0), 0] ++ padTo 48 s.activeDigest ++
    lebytes 4 (if s.img.slot = .verified ∨ s.img.slot.code = 4 then u32 s.img.staged 0x0C else 0) ++
    wbytes (match s.img.slot with
      | .pending n => n
      | _ => 0)) : AnsweredAtOnce t h s (.imageQuery t h) .imageQuery out :=
  ⟨rfl, rfl, rfl, ho ▸ rfl⟩

theorem exec_refStatus_unknown {ref : Nat} (ha : s.Accepts h (.refStatus ref)) (hr : (s.refDesc ref).isSome = false) :
    exec (.refStatus t h ref) s = .next ((s.accepted t h (.refStatus ref)).refuse (s.taken t h (.refStatus ref)) 1) := by
  have hnone : (s.refDesc ref).isNone = true := by simpa using hr
  exact exec_served rfl rfl (.inl rfl) ha (if_pos hnone)

theorem exec_refStatus_answered {ref : Nat} (ha : s.Accepts h (.refStatus ref)) (hr : (s.refDesc ref).isSome = true)
    (hd : h.dma = none) : exec (.refStatus t h ref) s = .next ((((if h.opts.getLsbD 0
      then (s.accepted t h (.refStatus ref)).putRef ref { s.refSt ref with
        fails := Occ.zero, lateApplied := Occ.zero, lateDropped := Occ.zero, rowsDropped := Occ.zero }
      else s.accepted t h (.refStatus ref)).emit (.hostWrite h.addr (s.refStatus ref))).done
        (s.taken t h (.refStatus ref)) (s.refStatus ref).length)) := by
  have hsome : ¬(s.refDesc ref).isNone = true := by simpa [Option.isSome_iff_ne_none] using hr
  exact exec_served rfl rfl (.inl rfl) ha ((if_neg hsome).trans
    (State.answer_of_works (w := s.taken t h (.refStatus ref)) (out := s.refStatus ref) hd rfl))

theorem State.accepted_activeCases : (s.accepted t h c).activeCases = s.activeCases := rfl

theorem State.accepted_caseSt (k : Nat) : (s.accepted t h c).caseSt k = s.caseSt k := rfl

theorem State.accepted_caseLink (k : Nat) : (s.accepted t h c).caseLink k = s.caseLink k := rfl

theorem State.accepted_ownVerdict (k : Nat) : (s.accepted t h c).ownVerdict k = s.ownVerdict k := by
  rw [State.ownVerdict, State.accepted_caseSt, State.accepted_caseSt, State.ownVerdict]

theorem State.accepted_verdictOf (k : Nat) : (s.accepted t h c).verdictOf k = s.verdictOf k := by
  have hylk : (s.accepted t h c).ylk = s.ylk := rfl
  simp only [State.verdictOf, State.accepted_caseLink, State.accepted_ownVerdict, State.accepted_caseSt, hylk]

theorem State.accepted_caseEntry : (s.accepted t h c).caseEntry = s.caseEntry := by
  funext k
  simp only [State.caseEntry, State.accepted_caseSt, State.accepted_verdictOf]

theorem exec_conseqQuery {u : State} (ha : s.Accepts h .conseqQuery) (hd : h.dma = none)
    (ho : out = padTo 64 s.csq.record ++ (if h.opts.getLsbD 1 then (s.activeCases.map s.caseEntry).flatten else []))
    (hu : u = ((s.accepted t h .conseqQuery).emit (.hostWrite h.addr out)).done (s.taken t h .conseqQuery) out.length) :
    exec (.conseqQuery t h) s = .next (if h.opts.getLsbD 0 then u.withCsq { s.csq with
      cases := s.csq.cases.map (fun (x : CaseSt) => { x with held := Occ.zero }) } else u) := by
  rw [← State.accepted_activeCases (t := t) (h := h) (c := .conseqQuery),
    ← State.accepted_caseEntry (t := t) (h := h) (c := .conseqQuery)] at ho
  refine exec_served rfl rfl (.inl rfl) ha ?_
  exact State.serveConseqQuery_of_works (s := s.accepted t h .conseqQuery) (w := s.taken t h .conseqQuery) hd ho hu

end

/-- Settles O30: each query is its record answered, where the transfer works and where it fails. -/
theorem queriesAnswerFromTheRecords : Obligations.QueriesAnswerFromTheRecords := by
  unfold Obligations.QueriesAnswerFromTheRecords
  intro t h s
  refine ⟨fun n hd p hp ha => ?_, fun hd => ⟨?_, ?_, fun ref ha => ⟨exec_refStatus_unknown ha,
    fun hr => exec_refStatus_answered ha hr hd⟩, fun ha => answered_estQuery.works ha hd (length_padTo _ _),
    fun ha => answered_ctrlQuery.works ha hd (length_padTo _ _), fun ha => answered_allocQuery.works ha hd ?_,
    fun out u ha ho hu => exec_conseqQuery ha hd ho hu, fun ha => answered_envelopeQuery.works ha hd rfl,
    fun ha => answered_trimQuery.works ha hd (length_padTo _ _)⟩⟩
  · simp only [List.mem_cons, List.not_mem_nil, or_false] at hp
    obtain rfl | rfl | rfl | rfl | rfl | rfl | rfl := hp
    · exact (answered_imageQuery rfl).fails ha hd
    · exact (answered_gnssQuery rfl).fails ha hd
    · exact answered_estQuery.fails ha hd
    · exact answered_ctrlQuery.fails ha hd
    · exact answered_allocQuery.fails ha hd
    · exact answered_envelopeQuery.fails ha hd
    · exact answered_trimQuery.fails ha hd
  · intro out ha ho
    exact (answered_imageQuery ho).works ha hd (by simp [ho, wbytes])
  · intro out ha ho
    exact (answered_gnssQuery ho).works ha hd (by rw [ho, length_padTo])
  · rw [List.length_append, length_padTo]

end Sys2Proof.Machine
end
